-- ==== Sys2Proof/Word.lean ====
section
/-! DEFINITION. The words the KZ-5160 is built of: a byte, and a 32-bit register word (R3: bit 0 is the least
significant bit of a register word and bit 31 the most significant; each register address names one 32-bit word). -/

namespace Sys2Proof

/-- One byte of a frame, of the attached NVM or of a bus message. -/
abbrev Byte := BitVec 8

/-- One 32-bit register word, coach word or frame word (R3). -/
abbrev Word := BitVec 32

end Sys2Proof
end

