-- ==== Sys2Proof/Syntax.lean ====
section
/-! DEFINITION. The commands of the KZ-5160: one constructor for each row of the table of operations and events. The
operands say what the row leaves to the world outside the block: which channel an event happens on, what a converter
read, what a bus answered, what the host sends. -/

namespace Sys2Proof

/-- What a lane delivers for one run of an evaluation (R88, R89): the right result, or a result that first differs from
every other run's at an item of SUPV_LANE_LOG. -/
inductive LaneRun where
  | good
  | bad (item : Nat)
  deriving DecidableEq, Repr

/-- What the world outside adds to one coach evaluation: the flipped bits that the load finds in words of the coach (word,
mask of its 39 stored bits), the result store entries that read with an uncorrectable error (R26), what each lane run delivers
in order (missing runs are good), and the entry tests of the lead and the follow should R94 need them. -/
structure EvalEnv where
  upsets : List (Nat × Nat) := []
  badResults : List Nat := []
  runs : List LaneRun := []
  leadTest : Bool := true
  followTest : Bool := true
  deriving DecidableEq, Repr

/-- How a sensor poll ends on the bus (R145). -/
inductive SensorReply where
  | data (hi lo crc : Nat)
  | nack
  deriving DecidableEq, Repr

/-- A coach bus carriage (R112, R113): its first beat address, its direction, its length in beats, and the word-enable bits of each
beat of a write (bit 0 for bits 31:0; none named: both halves). -/
structure Carriage where
  beat : Nat
  write : Bool
  beats : Nat
  enables : List Nat := []
  deriving DecidableEq, Repr

/-- How a coach bus request stands: whether it is a continuation of the loop engine (R118), and whether it is raised in an arbitration
cycle of a busy bus, the cycle in which its owner asserts LAST or makes its final beat with no winner decided (R115), with the
word-enable bits of a write's beats (R112). -/
structure Ask where
  cont : Bool := false
  last : Bool := false
  enables : List Nat := []
  deriving DecidableEq, Repr

/-- Who issues an urgent request (R159, R160). -/
inductive UrgBy where
  | therm | supv | cal | host
  deriving DecidableEq, Repr

/-- One tap search of a calibration run (R175): whether the tap is moved up, and the residuals in LSB, first at the tap in
use and then after each step. -/
structure TapSearch where
  up : Bool
  residuals : List Int
  deriving DecidableEq, Repr

/-- One trim set's boot calibration (R187): the tap searches of the two runs and, for A, B and C, the readings of the end
check. -/
structure BootCal where
  run1 : List TapSearch := []
  run2 : List TapSearch := []
  zero : Int := 0
  half : Int := 16384
  deriving DecidableEq, Repr

/-- R434: how often in turn the IZ-30 EEPROM leaves the address byte of the write, 0xA0, and that of the read, 0xA1, unacknowledged. -/
structure EepAcks where
  write : Nat := 0
  read : Nat := 0
  deriving DecidableEq, Repr

/-- What the world outside adds to a boot (R311): the straps (STRAP1 in bit 1), bytes placed in the attached memory since it
was last read (address, byte), whether the memory answers and how the EEPROM acknowledges its address, whether the crystal passes its 100 windows and the AUDIT oscillator
runs, the lanes' entry tests, the supply conditions at the release (VDDA_UV, VM_UV, VM_OV and VDRV low, bits 0 to 3), the trim
sets' calibrations (A, B, C, V0 to V7, fan; missing ones fail), the raw codes of each die sensor's 16 conversions of R261, whether the
protocol processor's ROM passes its checksum, and the milliseconds from release to the end of BOOT. -/
structure BootEnv where
  straps : Fin 4 := 0
  placed : List (Nat × Nat) := []
  answers : Bool := true
  acks : EepAcks := {}
  crystal : Bool := true
  audit : Bool := true
  lanes : Bool × Bool × Bool := (true, true, true)
  supplies : Fin 16 := 0
  cals : List BootCal := []
  temps : List (List Int) := []
  romOk : Bool := true
  ms : Nat := 90
  deriving DecidableEq, Repr

/-- How a hatch operation ends at the memory (R400): what it answers, and the last status byte read. -/
inductive HatchEnd where
  | done | timeout | mismatch
  deriving DecidableEq, Repr

/-- What an accepted Ethernet frame carries, as far as the spec gives it a meaning (R356 to R364); `arp` is an ARP request for
the address in use; a lease carries options 1, 3 and 6. -/
inductive EthLoad where
  | other
  | arp
  | echo
  | dhcpOffer
  | dhcpLease (addr mask gw dns : Nat)
  | bvllResult (ok : Bool)
  | bvllTable
  | scMessage
  | scDuplicate
  deriving DecidableEq, Repr

/-- Where an Ethernet frame is addressed (R356). -/
inductive EthDest where
  | own | broadcast | multicast | other
  deriving DecidableEq, Repr

/-- An Ethernet frame as the MAC sees it (R356): its destination, its length, its FCS, a VLAN tag, a fragment of a datagram;
whether a buffer is free and its memory reads without error, and whether the buffer of the first frame sent in answer does (R26). -/
structure EthFrame where
  dest : EthDest := .own
  len : Nat := 64
  fcsOk : Bool := true
  vlan : Bool := false
  fragment : Bool := false
  room : Bool := true
  memOk : Bool := true
  load : EthLoad := .other
  txOk : Bool := true
  deriving DecidableEq, Repr

/-- What a DHCP timer finds (R358): T1 or T2, the end of the lease, no offer for 60 s. -/
inductive DhcpTick where
  | renew | expired | noOffer
  deriving DecidableEq, Repr

/-- A certificate of a hub's chain (R362): whether its signature is by the next one's key (the last one's by the anchor's), under
ecdsa_secp256r1_sha256, and the seconds since 2000 between which it is valid. -/
structure HubCert where
  signed : Bool := true
  notBefore : Nat := 0
  notAfter : Nat := 2 ^ 40
  deriving DecidableEq, Repr

/-- What a hub presents in its handshake (R362): its chain, its own certificate first, the trust anchor that the chain ends at, and
whether it takes the one cipher suite, key exchange and signature scheme that the controller offers. -/
structure HubChain where
  certs : List HubCert := [{}]
  anchor : List Nat := []
  suite : Bool := true
  deriving DecidableEq, Repr

/-- How one BACnet/SC attempt on a hub goes (R361, R362, R364): the hub answers with its chain and accepts the controller's own, the
name or the TCP connection fails, or the hub ends the handshake with a TLS alert. -/
inductive ScTry where
  | connected (chain : HubChain)
  | unreachable
  | tlsAlert (code : Nat)
  deriving DecidableEq, Repr

/-- What an RS-485 port sees on its bus (R366, Clause 9): a frame, a frame with an error (on a Modbus port too), the end of a master
node's use of the token, or the end of its poll for another master. -/
inductive MstpFrame where
  | token
  | tokenUsed
  | badFraming
  | badCrc
  | ownAddress
  | expectingReply (ready : Bool)
  | other
  | pollEnd (found : Bool)
  deriving DecidableEq, Repr

/-- Where a BACnet or Modbus request came from: port 0 BACnet/IP, 1 BACnet/SC, 2 BUS1, 3 BUS2, and whether it is a confirmed
request addressed to the device alone (R382). `ram` says what the protocol processor reads with an uncorrectable error while
it handles the request (R26): 0 nothing, 1 its RAM, 2 its patch RAM. Of the APDUs (R359) it says the octets of the longest that
carries the request, the segments of the request and of its answer, and the window its sender proposes. `summary` tells a
GetEnrollmentSummary from a GetEventInformation. -/
structure NetFrom where
  port : Fin 4 := 0
  alone : Bool := true
  ram : Fin 3 := 0
  octets : Nat := 50
  reqSegs : Nat := 1
  ansSegs : Nat := 1
  window : Nat := 4
  summary : Bool := false
  deriving DecidableEq, Repr

/-- The objects of R369. -/
inductive BacObj where
  | device
  | analogInput (n : Nat)
  | analogValue (n : Nat)
  | binaryOutput (n : Nat)
  | multiState (n : Nat)
  | loop (n : Nat)
  | schedule (n : Nat)
  | calendar
  | notificationClass (n : Nat)
  | trendLog (n : Nat)
  | file
  | networkPort (n : Nat)
  | unknown
  deriving DecidableEq, Repr

/-- The properties the spec names (R369 to R376, R381). -/
inductive BacProp where
  | presentValue | outOfService | reliability | priorityArray | relinquishDefault
  | controlledVariableValue | setpoint | proportionalConstant | integralConstant | derivativeConstant
  | maximumOutput | minimumOutput | action | controlledVariableUnits | outputUnits
  | utcOffset | daylightSavings | highLimit | lowLimit | deadband | timeDelay | eventEnable | notificationClass
  | eventState | errorLimit | recipientList | priority | ackRequired | enable | logInterval | logProperty | recordCount
  | stageCommand | stageResult | units | weeklySchedule | exceptionSchedule | scheduleDefault | dateList | fileAccess
  | maxApdu | segmentation | maxSegments | apduSegmentWindow
  | ipAddress | ipSubnetMask | ipGateway | ipDnsServer | udpPort | dhcpEnable | fdBbmd | fdLifetime
  | scMinReconnect | scMaxReconnect | scHeartbeatTimeout | scHubUri | macAddress | maxMaster | maxInfoFrames | linkSpeed | other
  deriving DecidableEq, Repr

/-- One property of one object. -/
structure BacRef where
  obj : BacObj
  prop : BacProp
  deriving DecidableEq, Repr

/-- A value in a property: NULL, a REAL as its binary32 bits, a Boolean, an unsigned or enumerated number, a signed number, or
a list of octets that the spec does not look into, a list of such lists, or a reference to a property. -/
inductive BacVal where
  | null
  | real (bits : Nat)
  | bool (b : Bool)
  | num (n : Nat)
  | int (i : Int)
  | blob (l : List Nat)
  | blobs (l : List (List Nat))
  | ref (r : BacRef)
  deriving DecidableEq, Repr

/-- One write of a property, with the priority of a commandable one (16 when the request gives none). -/
structure BacWrite where
  ref : BacRef
  val : BacVal
  prio : Fin 17 := 16
  deriving DecidableEq, Repr

/-- A COV subscription request (Clause 13): the subscriber and process that name it, the property, the lifetime in seconds,
and whether it cancels. -/
structure CovReq where
  who : Nat
  ref : BacRef
  life : Nat
  cancel : Bool := false
  deriving DecidableEq, Repr

/-- The OPC of a request of no row of its own (R390), and whether the request's CRC is right (R393). -/
structure ReqOpc where
  code : Nat
  crcOk : Bool := true
  deriving DecidableEq, Repr

/-- The states a ReinitializeDevice asks for (R380). -/
inductive ReinitTo where
  | warm | cold | other
  deriving DecidableEq, Repr

/-- The date and time of a time synchronisation; none where a field is unspecified (R379). -/
structure SyncTime where
  year : Option Nat
  month : Option Nat
  day : Option Nat
  dow : Option Nat
  hour : Option Nat
  minute : Option Nat
  second : Option Nat
  hundredths : Option Nat
  deriving DecidableEq, Repr

/-- Event states of intrinsic reporting (R376): normal, fault, and off-normal with its two kinds of OUT_OF_RANGE and FLOATING_LIMIT. -/
inductive EventTo where
  | normal | fault | offnormal | highLimit | lowLimit
  deriving DecidableEq, Repr

/-- What a Who-Is or Who-Has asks for (R378): a device within the limits, if it gives any, or one of its objects. -/
inductive WhoReq where
  | is (limits : Option (Nat × Nat))
  | has (limits : Option (Nat × Nat)) (obj : BacObj)
  deriving DecidableEq, Repr

/-- A Modbus client entry of the image (R368); gain and offset are binary32 bits. -/
structure MbClient where
  bus : Nat
  server : Nat
  function : Nat
  start : Nat
  format : Nat
  gain : Nat
  offset : Nat
  target : Nat
  period : Nat
  deriving DecidableEq, Repr

/-- What the network keeps for one object (R371, R376): Out_Of_Service of an Analog Input and the value then written, its units in a
scaled mode, the limits as binary32 bits, the time delay in seconds, Event_Enable, the Notification_Class, the event state and the
transitions not yet acknowledged (bits 0 to 2: to off-normal, to fault, to normal). -/
structure NetObj where
  obj : BacObj
  oos : Bool := false
  written : BacVal := .null
  units : Nat := 95
  high : Nat := 0
  low : Nat := 0
  deadband : Nat := 0
  errorLimit : Nat := 0
  delay : Nat := 0
  enable : Nat := 0
  cls : Nat := 0
  event : EventTo := .normal
  unacked : Nat := 0
  deriving DecidableEq, Repr

/-- A Notification Class (R369): the priorities of the three transitions, Ack_Required, up to 4 recipients. -/
structure NotifyClass where
  prio : List Nat := [0, 0, 0]
  ackRequired : Nat := 0
  recipients : List (List Nat) := []
  deriving DecidableEq, Repr

/-- A Trend Log (R369, R378): Enable, Log_Interval in seconds (0: on COV), the property logged, the records (wheel tick, value), and for
T-ATR-B after how many records a buffer-ready notification goes out (0: never), by which class, and the records since the last. -/
structure TrendLog where
  enable : Bool := false
  interval : Nat := 0
  ref : Option BacRef := none
  records : List (Nat × BacVal) := []
  threshold : Nat := 0
  cls : Nat := 0
  since : Nat := 0
  deriving DecidableEq, Repr

/-- The host of a hub's wss URI (R361): an address, or a name in its characters. -/
inductive HubUri where
  | address (ip : Nat)
  | name (chars : List Nat)
  deriving DecidableEq, Repr

/-- What a NETWORK section says (R305, R385): the words of the NET registers, the static IPv4 settings, the BBMD, the URIs of the
primary and the failover hub, the device certificate, the public key in it, its intermediates and the trust anchors, the BACnet/SC
times in seconds, the password,
the Relinquish_Defaults, the Modbus client entries, and the objects' configuration. -/
structure NetImage where
  words : List (Nat × Nat) := []
  ip : Nat := 0
  mask : Nat := 0
  gw : Nat := 0
  dns : Nat := 0
  bbmd : Nat := 0
  hubs : List (Option HubUri) := []
  cert : List Nat := []
  certKey : List Nat := []
  intermediates : List (List Nat) := []
  anchors : List (List Nat) := []
  scMin : Nat := 0
  scMax : Nat := 0
  scHeartbeat : Nat := 0
  password : List Nat := []
  avRel : List (Nat × Int) := []
  clients : List MbClient := []
  objs : List NetObj := []
  classes : List NotifyClass := []
  trends : List TrendLog := []
  utcOffset : Int := 0
  dst : Bool := false
  deriving DecidableEq, Repr, Inhabited


/-- The commands the KZ-5160 takes, one for each row of the spec's table. -/
inductive Instr where
  /-- R47: Every 1 ms the period wheel advances its 48-bit tick, ages results and decides which coaches are due. -/
  | periodWheelTick
  /-- R83: A due coach is loaded, tested, computed by lead and follow lanes, voted, committed and its outputs commanded. -/
  | coachEvaluation (env : EvalEnv)
  /-- R89: A lane that has not delivered its end marker within 440 CORE cycles is treated as disagreeing. -/
  | laneTimeout (lane : Fin 3) (env : EvalEnv)
  /-- R92: After a retirement the spare runs its 10-evaluation entry test and takes the retired lane's position. -/
  | laneSwapEntryTest (pass : Bool)
  /-- R99: A RESTORE command in SUPV_LANE_CMD schedules an entry test of every retired lane at the next gap. -/
  | supvLaneRestore
  /-- R99: At the next gap between evaluations retired lanes are tested and passing ones returned to service. -/
  | laneRestoreRun (passA passB passS : Bool)
  /-- R107: No kick for TIMEOUT ms resets the controller with a watchdog reset. -/
  | watchdogExpiry
  /-- R107: A write of TIMEOUT is held and loaded at the next kick without postponing the running deadline. -/
  | supvWdtWrite (timeout : Nat)
  /-- R103: SUPV_REPAIR GO starts reloading the configuration words of an ECC-shuttered coach from the active image. -/
  | supvRepair
  /-- R103: When the reload through the hatch path ends the words are written with fresh check bits and the coach is enabled or disabled. -/
  | supvRepairDone (readable : Bool)
  /-- R101: Every 7.8125 ms the scrubber reads 8 coach store words and writes back corrected ones in the same carriage. -/
  | scrubCarriage (upsets : List (Nat × Nat))
  /-- R106: A receiving block checks the CRC and sequence of a 7-byte actuator command and answers ACK or NACK. -/
  | actuatorCommand (flips : Nat)
  /-- R106: On a NACK the sender resends once and on a second NACK marks the target in SUPV_CMD_PATH. -/
  | actuatorCommandNack
  /-- R87: An unserved non-privileged cross-check is issued again every 10 µs. -/
  | crossCheckRetry (coach : Fin 160)
  /-- R87: The cross-check result is compared with the stored value and a disagreement is recorded in SUPV_XCHK. -/
  | crossCheckResult (coach : Fin 160)
  /-- R87: A cross-check still unserved after 1 ms is abandoned and XCHK_SKIP is set. -/
  | crossCheckAbandon (coach : Fin 160)
  /-- R63: An OPEN written to COACH_CMD is stored as pending for the selected coach or refused. -/
  | coachCmdOpen
  /-- R63: A CLOSE written to COACH_CMD is stored as pending or refused, for example in SERVICE. -/
  | coachCmdClose
  /-- R63: A MANUAL written to COACH_CMD is stored as pending for the selected coach or refused. -/
  | coachCmdManual
  /-- R63: A SHUTTER written to COACH_CMD is stored as pending for the selected coach or refused. -/
  | coachCmdShutter
  /-- R45: A host write frame to the COACH window is checked under RWL and RANGE rules and written in one carriage. -/
  | coachWindowWrite (first : Fin 64) (data : List Nat)
  /-- R44: A read of WHEEL_LO latches the high part of the wheel tick into WHEEL_HI. -/
  | wheelLoRead
  /-- R18: At the end of each 2 µs window the audit block counts crystal and PLL edges against the AUDIT oscillator. -/
  | auditWindow (xtalEdges pllEdges : Nat)
  /-- R18: The PLL lock detector reports loss of lock and clock fallback begins at once. -/
  | pllLockLoss
  /-- R22: After 100 ms of good crystal and 1 ms of lock the domains switch back at the next tick and NET restarts. -/
  | clockFallbackReturn
  /-- R24: A PERIPH counter detects the AUDIT oscillator's failure, asserts FAULT_N and takes the watchdog out of service. -/
  | auditOscFail
  /-- R122: A requester raises a coach bus request, which is parked in the pending queue when it does not win at once. -/
  | coachBusRequest (req : Fin 15) (beat : Nat) (write : Bool) (beats : Nat) (ask : Ask)
  /-- R116: In an arbitration cycle the arbiter picks a winner by continuation, fallback precedence, pass rule, seat or background. -/
  | arbitration (pointer : Nat) (seatBad : Bool) (pendBad : List Nat) (wait : Nat) (contAfter : Option Carriage)
  /-- R114: The owner makes its final beat and releases the coach bus. -/
  | carriageEnd (len : Nat)
  /-- R123: A carriage passing HOLD_LIMIT sets HOLD_LONG, logs its owner and raises the arbiter cause. -/
  | holdLong
  /-- R124: A unit requests a ranked shared resource while holding others. -/
  | resourceRequest (req : Fin 15) (held : Nat) (asked : Nat)
  /-- R126: Setting REQ in ARB_SWAP sets SWAP_PEND for the next pointer wrap. -/
  | arbSwapReq (count : Nat)
  /-- R126: At the pointer wrap the shadow seat plan is copied into the active plan. -/
  | seatPlanSwap
  /-- R130: CLR in ARB_WSEL clears the recorded maximum wait of the selected requester. -/
  | arbWmaxClr (sel : Fin 16)
  /-- R148: A converter starts the next due scan entry in walk order under the settings in force. -/
  | scanEntryStart (conv : Fin 3) (trimBad : Bool)
  /-- R151: A conversion ends and its result is placed in CONV_DATA with input, VALID, REASON and NEW. -/
  | conversionResult (conv : Fin 3) (code : Int) (gapLong : Bool)
  /-- R150: A powered-down converter finishes its 4 µs start-up and begins converting. -/
  | converterStartUpDone (conv : Fin 3)
  /-- R152: The sample mover averages, corrects, filters and converts a scan entry and stores the result. -/
  | sampleMoverEntry (conv : Fin 3)
  /-- R141: HOLD seconds after the last detection an occupancy channel turns unoccupied. -/
  | occHoldExpiry (chan : Fin 4)
  /-- R154: At the end of a line-rejection window the mean of its valid entries is emitted. -/
  | lrWindowEnd (input : Fin 64)
  /-- R138: An edge at a universal input's comparator updates its contact, totaliser, period or duty measurement. -/
  | uiComparatorEdge (input : Fin 40) (high : Bool) (us : Nat)
  /-- R138: Every 10 ms the UI logic stores the value of each contact and pulse input with AGE 0. -/
  | uiLogicStore (us : Nat)
  /-- R157: A change of an input's front-end settings marks its next scan entries SETTLE. -/
  | uiSettingsWrite (reg : Fin 11) (value : Nat)
  /-- R144: A polling-list entry falls due and the sensor master starts its I²C transaction. -/
  | sensorPollStart (entry : Fin 32)
  /-- R145: A poll ends with a scaled value stored or a failure counted. -/
  | sensorPollDone (reply : SensorReply)
  /-- R143: Clock stretching beyond 25 ms makes the master clock SSCL 9 times, send a STOP and fail the poll. -/
  | snsStretchTimeout
  /-- R158: An urgent single-conversion request arrives at a converter and is accepted, redirected, dropped or made waiting. -/
  | urgentRequest (src : UrgBy) (input : Fin 64) (conv : Option (Fin 3))
  /-- R161: An urgent conversion ends, its result goes to its requester and the next waiting request or the scan resumes. -/
  | urgentConversionDone (conv : Fin 3) (code : Int) (gapLong : Bool)
  /-- R161: GO in CONV_URG issues the host's urgent request and clears DONE and DROPPED. -/
  | convUrgGo (input : Fin 64) (conv : Fin 4)
  /-- R172: A REQ bit in CAL_CTRL makes a converter due for self-calibration at once. -/
  | calReq (mask : Fin 8)
  /-- R172: A converter becomes due after 15 minutes, a 5 °C TS1 change or 60 s after a failed attempt. -/
  | selfCalDue (conv : Fin 3)
  /-- R173: A due calibration starts when C is free and the mode allows it, starting up and checking C. -/
  | selfCalStart (conv : Fin 3) (zero half : Int)
  /-- R169: At a scan boundary the scan of one converter passes to another. -/
  | reliefHandover (conv : Fin 2) (zero half : Int)
  /-- R174: A calibration run of tap searches ends and the sequencer judges it or starts the next run. -/
  | calRunDone (conv : Fin 3) (searches : List TapSearch) (zero half : Int)
  /-- R176: At C's next scan boundary the new taps are applied on a pass and the scan is handed back. -/
  | calHandback (conv : Fin 3)
  /-- R181: A health check result passes or makes the converter suspect, handed back or replaced. -/
  | healthCheckDone (conv : Fin 3) (zero half : Int)
  /-- R180: A scan conversion not ended within 80 CONV cycles makes C replace the converter at once. -/
  | converterStuck (conv : Fin 2) (zero half : Int)
  /-- R183: REFIN below 1.0 V for 100 µs switches converters to VREF_INT and sets CAL_UNTRACED and REF_LOW. -/
  | refinLoss
  /-- R183: REFIN at or above 1.05 V for 100 ms clears REF_LOW. -/
  | refinRestore
  /-- R185: GO in CAL_SYS_CMD starts averaging a system calibration point or is refused. -/
  | calSysGo (input : Fin 64) (point : Fin 4)
  /-- R186: ABORT in CAL_SYS_CMD ends the running point and keeps the old values. -/
  | calSysAbort
  /-- R186: A point completes its 256 averages and after POINT 2 new OFFSET and GAIN are computed and checked. -/
  | calSysPointDone
  /-- R199: 100 ms in CATCH without convergence moves channel 0 to ALIGN. -/
  | fanCatchTimeout
  /-- R202: A phase current below half I_ALIGN after 20 ms locks channel 0 with cause OPEN_PHASE. -/
  | fanAlignOpenPhase
  /-- R199: 205 ms after entering ALIGN channel 0 moves to RAMP. -/
  | fanAlignDone
  /-- R201: After 64 converged PWM periods channel 0 hands over to closed-loop RUN. -/
  | fanObserverConverged (speed field : Nat) (dirOk : Bool)
  /-- R199: 1500 ms in RAMP without convergence fails the attempt into RETRY_WAIT, STALLED or LOCKED. -/
  | fanRampTimeout
  /-- R199: After 100 ms in RETRY_WAIT channel 0 aligns again with raised currents. -/
  | fanRetryWaitEnd
  /-- R199: The decelerating speed reference reaches MIN_RPM, the gates turn off and the rotor coasts. -/
  | fanStopDone
  /-- R199: After 500 ms in COAST channel 0 catches again or stops. -/
  | fanCoastEnd
  /-- R199: After 30 s in STALLED a fan channel restarts or stops. -/
  | fanStallWaitEnd (chan : Fin 3)
  /-- R198: A shunt current above OC_TRIP turns the gates off and coasts, locking on the third trip in 10 s. -/
  | fanOvercurrent
  /-- R198: VDRV below 9.5 V turns the gates off and puts channel 0 in COAST. -/
  | fanVdrvLow
  /-- R198: VDRV good for 10 ms releases channel 0 from its VDRV hold. -/
  | fanVdrvGood
  /-- R198: A low bootstrap keeps its high side off, and 16 periods count as a synchronisation loss. -/
  | fanBootstrapLow (periods : Nat)
  /-- R198: Back-EMF too low for 32 periods in RUN turns the gates off and coasts. -/
  | fanSyncLoss
  /-- R199: UNLOCK in FAN_CMD takes a channel from LOCKED to STOPPED and clears its counts. -/
  | fanUnlock (mask : Fin 8)
  /-- R203: 300 s of continuous RUN return STALL_CNT to 0. -/
  | fanStallCntReset (chan : Fin 3)
  /-- R205: A falling tachometer edge updates SPEED when plausible and drives the TSTART, KICK and OPEN_LOOP transitions. -/
  | fanTachEdge (chan : Fin 2) (us : Nat)
  /-- R205: No plausible edge for 600 ms sets SPEED to 0. -/
  | fanTachSpeedTimeout (chan : Fin 2)
  /-- R207: Every 100 ms a tachometer channel in RUN computes its duty from the table and PI correction. -/
  | fanSpeedStep (chan : Fin 2)
  /-- R208: 2 s in TSTART without a plausible edge starts a KICK at full duty. -/
  | fanTstartTimeout (chan : Fin 2)
  /-- R208: 2 s of KICK without an edge enters STALLED or LOCKED. -/
  | fanKickEnd (chan : Fin 2)
  /-- R209: An edge gap beyond three expected intervals moves a tachometer channel to OPEN_LOOP. -/
  | fanTachLost (chan : Fin 2)
  /-- R210: Each second in AUTONOMOUS the table generator reads the coach, interpolates a speed and commands the fan. -/
  | fanAutoTableStep (chan : Fin 3)
  /-- R218: At each pulse grid time of a PULSED channel a start request is made. -/
  | valvePulseGrid (chan : Fin 8)
  /-- R220: T_PEAK elapses and the channel moves to HOLD or OFF and a waiting partner peaks. -/
  | valvePeakEnd (chan : Fin 8)
  /-- R221: The hold end of a PULSED channel is reached and it turns off. -/
  | valveHoldEnd (chan : Fin 8)
  /-- R222: Every 100 ms the valve block reads coil temperature inputs and determines each band. -/
  | valveCoilBandRead
  /-- R476: A write changing MODE or HS_USE turns an active channel off and reacts to its recorded command. -/
  | valveModeWrite (value : Nat)
  /-- R229: Every DIAG_PERIOD a high-side switch with all channels off starts its off-state test. -/
  | valveOffTestStart (hs : Fin 4)
  /-- R230: The off-state test ends and its readings give OFF_RES per channel or a blocked switch. -/
  | valveOffTestDone (hs : Fin 4) (limit : Bool) (low1 high2 low2 : Fin 4)
  /-- R229: DIAG_NOW in VLV_CMD requests an off-state test of a high-side switch at once. -/
  | vlvDiagNow (mask : Fin 16)
  /-- R231: At T_RISE after the low side turns on a current below 20 mA reports open load. -/
  | valveOpenLoadCheck (chan : Fin 8) (current : Nat)
  /-- R231: Low-side current above 4 A turns it off and puts the channel in FAULT. -/
  | valveLowSideOvercurrent (chan : Fin 8)
  /-- R231: High-side current above 3.5 A turns the switch off as a short to ground or an overcurrent trip. -/
  | valveHighSideOvercurrent (hs : Fin 4) (lowSum : Nat)
  /-- R231: 10 ms after a high-side overcurrent a channel still commanded on starts again. -/
  | valveHsOcRestart (chan : Fin 8)
  /-- R232: CLEAR in VLV_CMD takes a channel out of FAULT into OFF. -/
  | vlvClear (mask : Fin 256)
  /-- R232: HS_CLEAR in VLV_CMD takes a switch's channels out of BLOCKED. -/
  | vlvHsClear (mask : Fin 16)
  /-- R239: Every 1 ms the damper scheduler preempts dampers above the limit and starts queued ones. -/
  | damperSchedTick
  /-- R235: A damper reaches its target and stops. -/
  | damperMoveDone (damper : Fin 4)
  /-- R237: A stall ends a homing at the end stop or stops a move to home and resume. -/
  | damperStall (damper : Fin 4)
  /-- R236: A homing finding no end stop within 1.25 travels enters FAULT with HOME_FAIL. -/
  | damperHomeFail (damper : Fin 4)
  /-- R238: 100 ms after a move the feedback input is compared with the command. -/
  | damperFeedbackCheck (damper : Fin 4)
  /-- R241: Winding current above 1.2 A turns the bridges off and puts the damper in FAULT. -/
  | damperBridgeOvercurrent (damper : Fin 4)
  /-- R241: Winding current below 10 % at the sine peak puts the damper in FAULT with OPEN. -/
  | damperOpenWinding (damper : Fin 4)
  /-- R236: HOME in DMP_CMD forces a homing at the damper's next slot. -/
  | dmpHome (mask : Fin 16)
  /-- R241: CLEAR in DMP_CMD returns a damper from FAULT to IDLE with POS_OK 0. -/
  | dmpClear (mask : Fin 16)
  /-- R242: A current above 600 mA for 10 µs turns the output off and latches FAULT on the third trip in 60 s. -/
  | boOvercurrent (out : Fin 6)
  /-- R242: After a trip a still-wanted output switches on again after 1 s and its MIN_OFF. -/
  | boOcRestart (out : Fin 6)
  /-- R243: A switch deferred by MIN_ON, MIN_OFF or the interlock is made when its wait ends. -/
  | boMinTimeExpiry (out : Fin 6)
  /-- R242: An on-state current below 2 mA with OPEN_EN sets OPEN. -/
  | boOpenLoad (out : Fin 6)
  /-- R242: CLEAR in BO_CMD ends an output's FAULT. -/
  | boClear (mask : Fin 64)
  /-- R260: A die sensor sample is cross-checked and fed to the thresholds or held. -/
  | thermalSample (sensor : Fin 8)
  /-- R254: Every 500 µs the thermal block issues fast-rate requests and feeds the substitutes of excluded sensors. -/
  | thermalFastStep
  /-- R262: A sensor with no sample for 50 ms fails with cause NODATA. -/
  | thermalNodata (sensor : Fin 8)
  /-- R264: 2 s after an exclusion the hold ends and waiting thresholds are left. -/
  | thermalHoldEnd
  /-- R259: Every 10 ms the stages estimate region dissipation for the expectations. -/
  | thermalPowerEstimate (currents : List Nat)
  /-- R265: READMIT in THERM_CMD starts a fresh urgent conversion of a failed sensor. -/
  | thermReadmit (mask : Fin 256)
  /-- R265: The readmit conversion readmits the sensor or refuses with a result code. -/
  | thermReadmitResult (sensor : Fin 8)
  /-- R273: The sub-second carry advances time and calendar and evaluates alarms and schedules. -/
  | rtcSecondTick (bad : List Nat)
  /-- R277: Every 64 s the domain sensor is sampled and the compensation count N is computed. -/
  | rtcCompSample (temp : Int)
  /-- R277: Each 32 s compensation window starts with the current N. -/
  | rtcCompWindow
  /-- R272: No crystal edge for 2 ms sets OSF and OSC_STOP. -/
  | rtcOscStop
  /-- R272: The next crystal edge after a stop clears OSC_STOP. -/
  | rtcOscRestart
  /-- R276: SET in RTC_CMD is checked and accepted for loading at the next 32 kHz edge. -/
  | rtcSet
  /-- R276: The staged time loads at the next 32 kHz edge, clears OSF and acts as a time change. -/
  | rtcSetLoad (sub : Fin 32768)
  /-- R276: SET_WDAY in RTC_CMD loads the staged WDAY alone. -/
  | rtcSetWday
  /-- R283: REARM in RTC_CMD clears STAMPED. -/
  | rtcRearm
  /-- R279: GO in RTC_SHIFT starts a sub-second shift at the next edge or is refused. -/
  | rtcShiftGo (n : Fin 32768) (hold : Bool)
  /-- R279: The shift adds N cycles or holds the counter for N cycles. -/
  | rtcShiftApply (sub : Fin 32768)
  /-- R275: A read of RTC_TIME latches RTC_DATE and RTC_SUBSEC. -/
  | rtcTimeRead
  /-- R270: VDD_IO below 2.50 V switches the backup domain to VBAT. -/
  | backupSwitchVbat (vbat : Bool)
  /-- R270: VDD_IO above 2.65 V returns the backup domain to main supply. -/
  | backupSwitchMain
  /-- R284: VBAT below 2.20 V on battery sets VBAT_LOW. -/
  | vbatLow
  /-- R284: The domain supply below 1.75 V trips the retention latch. -/
  | retentionLatchTrip
  /-- R291: A write of ZONE_FORCE holds the zone in a set or returns it to its scheduled set at once. -/
  | zoneForceWrite (value : Nat)
  /-- R311: At boot reset release BOOT samples the straps and runs its steps up to the entry of the selected mode. -/
  | bootResetRelease (env : BootEnv)
  /-- R322: A write to the staging buffer claims it, discards a queued update or is refused. -/
  | regionStageWrite (first : Fin 256) (data : List Nat)
  /-- R318: START in RGN_CTRL begins validation of the loaded update. -/
  | rgnStart
  /-- R323: ABORT in RGN_CTRL discards or stops the current update. -/
  | rgnAbort
  /-- R318: Validation ends with the update queued or rejected with a reason. -/
  | regionValidationDone (memOk : Bool)
  /-- R319: A queued update makes its change at its region's moment. -/
  | regionApply (memOk : Bool)
  /-- R320: When every coach of the group is open the group's words are written in one step and restoring commands pended. -/
  | coachGroupWrite (memOk : Bool)
  /-- R326: OPEN in IMG_PERSIST checks the active copy and erases the target's first sector. -/
  | imgPersistOpen
  /-- R326: COMMIT checks the target and programs its header. -/
  | imgPersistCommit
  /-- R326: ABORT before COMMIT ends the persist with the header erased. -/
  | imgPersistAbort
  /-- R326: The active-copy check and sector erase end and the persist is open or refused. -/
  | persistOpenDone (memOk : Bool)
  /-- R326: The target check, header program and read-back end with pass or fail. -/
  | persistCommitDone (memOk : Bool)
  /-- R344: VDD_IO rising through 2.90 V after being below 1.80 V causes a power-on boot reset. -/
  | powerOn (below180 : Bool)
  /-- R344: VDD_IO below 2.80 V or VCORE low causes a brown-out boot reset. -/
  | brownOut
  /-- R333: VDD_IO below 3.00 V sets EW, starts the panel discharge and refuses new hatch operations. -/
  | earlyWarning
  /-- R333: VDD_IO back above 3.05 V clears EW and lets the panel restart. -/
  | earlyWarningClear
  /-- R334: VDDA undervoltage stops the converters and asserts FAULT_N. -/
  | vddaUv
  /-- R334: VDDA good again restarts the scans with settle marks. -/
  | vddaUvClear
  /-- R335: VM undervoltage or overvoltage puts valves and dampers in CUT. -/
  | vmFault (ov : Bool)
  /-- R335: VM back in range releases valves and dampers as from a CUT. -/
  | vmFaultClear (ov : Bool)
  /-- R346: RESET_N low for 32 consecutive samples causes a boot reset. -/
  | resetNAssert
  /-- R338: A NATIVE command is checked against the mode table and pended for the next tick. -/
  | pwrModeNative
  /-- R338: A SERVICE command is checked and pended for the next tick. -/
  | pwrModeService
  /-- R338: A STANDBY command is checked and pended for the next tick. -/
  | pwrModeStandby
  /-- R338: A WAKE command is checked and pended for the next tick. -/
  | pwrModeWake
  /-- R347: SOFT in PWR_RST starts a soft reset that returns class V fields. -/
  | pwrRstSoft
  /-- R344: COLD in PWR_RST causes a cold reinitialise boot reset. -/
  | pwrRstCold
  /-- R347: At the end of the soft reset hold dispatch resumes and held ticks are delivered. -/
  | softResetResume
  /-- R356: The PHY reports link up and IPv4 restarts. -/
  | linkUp (partner24 eee : Bool) (sqi : Fin 8)
  /-- R356: The link goes down, BACnet/SC closes and the PHY retrains. -/
  | linkDown
  /-- R356: RELINK in NET_CMD forces a new link training. -/
  | netRelink
  /-- R364: SC_RETRY in NET_CMD resets the BACnet/SC reconnect wait. -/
  | netScRetry
  /-- R356: A received Ethernet frame is accepted or dropped by the MAC. -/
  | ethFrameRx (frame : EthFrame)
  /-- R358: A DHCP renewal, expiry or offer timeout acts on the lease or falls back to the static address. -/
  | dhcpTimer (tick : DhcpTick)
  /-- R358: An answered probe or a claim of the address sets IP_CONFLICT and declines the address. -/
  | ipConflict
  /-- R358: Every 60 s a conflicting static address is probed again. -/
  | staticReprobe (answered : Bool)
  /-- R360: Foreign-device registration is sent again at half TTL or retried after failure. -/
  | fdrTimer (failed : Bool)
  /-- R364: At the end of a reconnect wait the controller tries a BACnet/SC hub. -/
  | scConnectAttempt (primary failover : ScTry)
  /-- R364: Nothing received for twice the heartbeat timeout closes the connection as lost. -/
  | scConnectionLost
  /-- R364: Nothing sent for the heartbeat timeout sends a Heartbeat-Request. -/
  | scHeartbeatDue
  /-- R363: With BACnet/SC enabled and no key in OTP the controller generates and stores a P-256 key pair. -/
  | scKeyGeneration (random : Nat)
  /-- R366: An MS/TP frame is received and handled as a master node. -/
  | mstpFrame (bus : Fin 2) (frame : MstpFrame)
  /-- R384: Function 0x03 returns holding registers or an exception. -/
  | modbusReadHoldingRegisters (bus : Fin 2) (addr : Fin 256) (start count : Nat)
  /-- R384: Function 0x04 returns input registers or an exception. -/
  | modbusReadInputRegisters (bus : Fin 2) (addr : Fin 256) (start count : Nat)
  /-- R384: Function 0x06 writes one holding register or returns an exception. -/
  | modbusWriteSingleRegister (bus : Fin 2) (addr : Fin 256) (reg value : Nat)
  /-- R384: Function 0x10 writes holding registers or returns an exception. -/
  | modbusWriteMultipleRegisters (bus : Fin 2) (addr : Fin 256) (start : Nat) (values : List Nat)
  /-- R367: Function 0x2B/0x0E returns the basic device identification objects. -/
  | modbusReadDeviceIdentification (bus : Fin 2) (addr : Fin 256)
  /-- R367: Any other Modbus function returns exception 0x01. -/
  | modbusUnsupportedFunction (bus : Fin 2) (addr : Fin 256) (function : Nat)
  /-- R368: A client entry falls due and its request is sent. -/
  | modbusClientPoll (bus : Fin 2) (entry : Fin 16)
  /-- R368: A client reply is scaled and written to its Analog Value at priority 16. -/
  | modbusClientReply (bus : Fin 2) (entry : Fin 16) (values : List Nat)
  /-- R368: No reply within 200 ms retries once, then sets COMMUNICATION_FAILURE. -/
  | modbusClientTimeout (bus : Fin 2) (entry : Fin 16)
  /-- R369: A ReadProperty or ReadPropertyMultiple returns object properties in one carriage each. -/
  | bacnetReadProperty (sender : NetFrom) (refs : List BacRef)
  /-- R373: A WriteProperty or WritePropertyMultiple is checked and applied to its object or refused. -/
  | bacnetWriteProperty (sender : NetFrom) (writes : List BacWrite)
  /-- R376: A COV subscription request is accepted up to 32 active subscriptions. -/
  | bacnetSubscribeCov (sender : NetFrom) (req : CovReq)
  /-- R378: An AcknowledgeAlarm request acknowledges an event. -/
  | bacnetAcknowledgeAlarm (sender : NetFrom) (obj : BacObj) (dest : EventTo)
  /-- R378: A GetEventInformation or GetEnrollmentSummary request returns event state. -/
  | bacnetGetEventInformation (sender : NetFrom)
  /-- R378: A ReadRange request returns trend log records. -/
  | bacnetReadRange (sender : NetFrom) (log : Fin 8) (first count : Nat)
  /-- R378: A Who-Is or Who-Has request is answered for device and object binding. -/
  | bacnetWhoIs (sender : NetFrom) (asked : WhoReq)
  /-- R379: A time synchronisation acts as a shift or a SET, or is ignored. -/
  | timeSynchronization (utc : Bool) (time : SyncTime)
  /-- R380: A ReinitializeDevice checks the password and performs a warm or cold reinitialise. -/
  | reinitializeDevice (sender : NetFrom) (dest : ReinitTo) (password : List Nat)
  /-- R380: A DeviceCommunicationControl checks the password and silences or enables the device. -/
  | deviceCommunicationControl (sender : NetFrom) (mode : Fin 3) (timed : Bool) (password : List Nat)
  /-- R381: An AtomicWriteFile to File 1 writes the region staging buffer. -/
  | atomicWriteFile (sender : NetFrom) (file : Nat) (start : Int) (data : List Nat)
  /-- R378: An unsupported service is refused with Reject UNRECOGNIZED_SERVICE. -/
  | bacnetUnrecognizedService (sender : NetFrom)
  /-- R382: No supervising message for NET_TO seconds makes the network cause present. -/
  | netSupervisionExpiry
  /-- R369: A trend log interval expires and a record is taken. -/
  | trendLogInterval (log : Fin 8)
  /-- R376: A COV subscription's lifetime ends and it is removed. -/
  | covSubscriptionExpiry (who : Nat) (ref : BacRef)
  /-- R390: A read frame returns its words in ascending order with status and CRC. -/
  | lyaleRead (addr len crc : Nat)
  /-- R392: A write frame to registers without a row of their own is checked in full and applied in order. -/
  | lyaleWrite (addr : Nat) (data : List Nat) (crc : Nat)
  /-- R393: A request with an unknown OPC is refused with RANGE. -/
  | lyaleUnknownOpc (opc : ReqOpc) (addr len : Nat)
  /-- R394: A request cut short is discarded with no response. -/
  | hostFrameTruncated
  /-- R389: An I²C read transaction returns the pending response or 0xFF bytes. -/
  | i2cResponseRead (count : Nat)
  /-- R406: Command 0x0001 copies all counts and the wheel tick into the snapshot registers. -/
  | evcSnapshot
  /-- R406: Command 0x0002 clears all 16 counts. -/
  | evcClearAll
  /-- R398: The first door step with its argument makes the door's step pending. -/
  | doorFirstStep (door : Fin 4) (arg : Nat)
  /-- R398: The second door step as the very next frame opens the door. -/
  | doorSecondStep (door : Fin 4) (arg : Nat)
  /-- R399: The close command closes a door. -/
  | doorClose (door : Fin 4)
  /-- R398: 10 ms without the second step cancels the pending first step. -/
  | doorStepTimeout
  /-- R399: 2 s after opening or the last guarded write the door closes. -/
  | doorTimeout (door : Fin 4)
  /-- R402: A write to HOST_HB restarts the heartbeat timer and clears the host cause. -/
  | hostHbWrite (value : Nat)
  /-- R402: A write to HB_TIMEOUT restarts the timer with the new value or turns supervision off. -/
  | hbTimeoutWrite (value : Nat)
  /-- R402: LEFT reaching 0 makes the host cause present and raises HOST. -/
  | heartbeatExpiry
  /-- R400: GO in HATCH_READ starts a quad read of the NVM into the hatch data words. -/
  | hatchRead
  /-- R400: OP 1 in HATCH_PROG starts a page program with read-back. -/
  | hatchProgram
  /-- R400: OP 2 in HATCH_PROG starts a 4 KiB sector erase. -/
  | hatchErase
  /-- R400: A hatch operation ends with done, timeout or mismatch and raises IMG. -/
  | hatchOpDone (outcome : HatchEnd) (status : Fin 256)
  /-- R405: A write changing SRC, MODE or PRESC reconfigures the counter and clears its count. -/
  | evcCfgWrite (value : Nat)
  /-- R410: CMD 1 in OTP_PROG starts programming the staged public-key hash. -/
  | otpProgHash
  /-- R410: CMD 2 in OTP_PROG starts setting the SIGNED bit. -/
  | otpProgSigned
  /-- R410: OTP programming ends with its read-back result. -/
  | otpProgDone (ok : Bool)
  /-- R418: A 100 µs line slot drives one row and checks it by read-back. -/
  | panelLineSlot (us : Nat) (sources : List Nat) (gates : List Nat) (bad : List Nat)
  /-- R421: A frame ends when its scan and balance conditions hold and the next frame starts with opposite polarity. -/
  | panelFrameEnd (us : Nat)
  /-- R426: A changed field is redrawn once the scan has left its rows. -/
  | composerFieldRedraw (item : Nat) (bad : Bool)
  /-- R426: A page change clears the frame buffer and draws the whole page. -/
  | composerPageDraw (badItems : List Nat)
  /-- R422: A panel supply inside its range for 10 ms becomes good. -/
  | panelSupplyGood (supply : Fin 4)
  /-- R422: With all conditions met the panel runs two clearing frames and starts. -/
  | panelStart
  /-- R422: A panel supply leaving its range stops the panel within 1 µs. -/
  | panelSupplyFault (supply : Fin 4)
  /-- R424: OFF in DISP_CMD starts a discharge. -/
  | dispOff
  /-- R422: ON in DISP_CMD starts the panel again after an OFF. -/
  | dispOn
  /-- R424: After three discharge frames the outputs go off, BAL becomes 0 and DISCHG_DONE is set. -/
  | panelDischargeDone
  /-- R439: An IZ-30 I²C write sets the register pointer and writes following bytes. -/
  | iz30WriteTransaction (bytes : List Nat)
  /-- R439: An IZ-30 I²C read returns registers from the pointer onwards. -/
  | iz30ReadTransaction (count : Nat)
  /-- R440: A read of a 16-bit pair's high byte latches the low byte. -/
  | izPairHighRead (reg : Fin 256)
  /-- R440: A write of a pair's low byte makes the held high byte and the low byte take effect. -/
  | izPairLowWrite (reg : Fin 256) (value : Nat)
  /-- R441: 0xA5 in IZ_CMD soft-resets and reloads the IZ-30 configuration from the EEPROM. -/
  | izCmdReset
  /-- R441: 0x5A in IZ_CMD, the IZ-30 save command, has no effect. -/
  | izCmdSave
  /-- R441: The EEPROM reload ends, mirrored registers are reloaded or EE_OK cleared, and loops resume. -/
  | iz30ReloadDone (acks : EepAcks) (placed : List (Nat × Nat))
  /-- R444: Every 100 µs the IZ-30 view takes a code into its ADC data register. -/
  | iz30AdcConversion
  /-- R444: A read of IZ_ADC_DH latches IZ_ADC_DL. -/
  | izAdcDhRead
  /-- R444: A read of IZ_ADC_DL returns the latched byte and clears NEW and OVR. -/
  | izAdcDlRead
  /-- R444: A write to IZ_ADC_CTRL clears NEW and OVR and restarts the conversion timing. -/
  | izAdcCtrlWrite (value : Nat)
  /-- R450: Writing 1 to an IZ_FAULT bit clears it and issues CLEAR and HS_CLEAR. -/
  | izFaultClear (mask : Nat)
  /-- R451: 2 s without a plausible edge at a byte of 77 or more sets FAN_FAIL. -/
  | iz30FanFail (fan : Fin 2)
  /-- R452: Every second each enabled room unit is polled on BUS2. -/
  | roomUnitPoll (unit : Fin 4)
  /-- R452: A good room-unit reply updates its code and clears FAIL. -/
  | roomUnitReply (unit : Fin 4) (bytes : List Nat)
  /-- R452: No reply within 20 ms fails the poll, and three failures set FAIL. -/
  | roomUnitTimeout (unit : Fin 4)
  /-- R284: VBAT rising above 2.25 V clears VBAT_LOW. -/
  | vbatLowClear
  /-- R24: The AUDIT oscillator resumes after a failure and AUDIT_OK returns to 1. -/
  | auditOscReturn
  /-- R380: The time duration given in a DeviceCommunicationControl runs out and communication is enabled again as Clause 16 states. -/
  | dccDurationExpiry
  /-- R376: The time delay of an intrinsic-reporting object runs out and its event state changes with a notification. -/
  | eventTimeDelayExpiry (obj : BacObj) (dest : EventTo)
  /-- R366: The Clause 9 no-token timer of an MS/TP master runs out and the node sets NO_TOKEN and starts to claim the token. -/
  | mstpNoToken (bus : Fin 2)
  /-- R456: A TCK edge on the IEEE 1149.1 test port advances the TAP controller and shifts TDI and TDO. -/
  | tapTckEdge (rising tms tdi : Bool)
  /-- R239: A damper decelerating under the scheduler comes to rest, stops counting as moving and waits in the queue. -/
  | damperPreemptStop (damper : Fin 4) (pos : Nat)
  deriving DecidableEq, Repr

end Sys2Proof
end

