-- ==== Sys2Proof/Decode.lean ====
section
/-! DEFINITION. The commands a table word spells. The spec's table of operations gives no row any bits (every row's list of
fields is empty), so there is no word a command could be read from. -/

namespace Sys2Proof

/-- The command a word of `nbits` bits spells by the table's bits: none, because the table gives bits to no row. -/
def decodeTableWord (_nbits _w : Nat) : Option Instr := none

end Sys2Proof
end

