-- ==== Sys2Proof/Config.lean ====
section
/-! DEFINITION. What the spec leaves open. Each constant has no body: no proof can see a value of it, so a claim holds
whatever it is (log entry 2). -/

namespace Sys2Proof.Config

/-- The n-th free value a run takes, wherever the spec gives a value that it does not fix. -/
opaque freeValue : Nat → Nat

/-- R110: the syndrome the (39,32) code of R100 reports for a single flipped bit; the spec gives no code matrix. -/
opaque syndromeOf : Nat → Nat

/-- R305, R385: what a NETWORK section's payload says. The spec lists what the section sets and gives no layout of it (log
entry 18); none stands for a payload that is no such section. -/
opaque netBlob : List Nat → Option NetImage

/-- R361: the Device UUID, 128 bits, that is formed from the unique device number; the spec does not say how. -/
opaque deviceUuid : Nat → Nat

/-- R456: the length of the test port's instruction register, less one (log entry 19). -/
opaque tapIrLess1 : Nat

/-- R456: the instruction code that selects the identification register; the spec names IDCODE and gives no code. -/
opaque tapIdcode : Nat

/-- R456, IEEE 1149.1: what an instruction code other than BYPASS and IDCODE selects: 1 SAMPLE, 2 PRELOAD, 3 EXTEST, 0 none of the three; the
spec gives no codes. -/
opaque tapKind : Nat → Nat

/-- R456: the length of the boundary scan register, less one. -/
opaque bsrLess1 : Nat

/-- R456: the ball that a cell of the boundary scan register belongs to, 16 × row + column − 1 in the ball map of R455 (256 and up: none). -/
opaque bsrBall : Nat → Nat

/-- R456: a cell of the boundary scan register drives its ball under EXTEST; the other cells observe theirs. -/
opaque bsrDrives : Nat → Bool

/-- R456: the value that the data register of any other instruction captures, and its length less one. -/
opaque tapCapture : Nat → Nat

/-- R456: the length of the data register an instruction selects, less one. -/
opaque tapDrLess1 : Nat → Nat

/-- R456: the version and manufacturer bits of the identification register (the part bits 27:12 are ID_PART). -/
opaque tapIdOther : Nat

/-- R456: the bits above the two lowest that the instruction register captures. -/
opaque tapIrCapture : Nat

end Sys2Proof.Config
end

