-- ==== Sys2Proof/Machine/State.lean ====
section
/-! DEFINITION. The state of the KZ-5160 as plain data, the reasons a step can stop, and the state right after reset.

Every register field of the spec's register tables, and every scalar the spec's prose names without a register, is an
`Fld`: a place with an address, a width, a survival class and the value it rests at. The store `State.regs` is a list of
cells in ONE canonical form: keys strictly rising, and no cell that holds the resting value of its field. A field
no cell lists reads as its resting value. Queues, engines' work and the sparse memories are typed components. -/

namespace Sys2Proof.Machine

/-- R5: the access codes of the register tables. -/
inductive Acc where
  | rw | ro | wo | w1c | st | rwl | rwd
  deriving DecidableEq, Repr

/-- R9: the survival classes. -/
inductive Cls where
  | K | I | H | V
  deriving DecidableEq, Repr

/-- How the channels of a field are reached: one register, an array of registers, an array of banks of registers, or the
window of a select register (R396). -/
inductive Idx where
  | one
  | arr (n stride : Nat)
  | arr2 (n stride m : Nat)
  | win (n sel : Nat)
  deriving DecidableEq, Repr

/-- A field of a register, or a scalar of the machine that no register shows (addresses from 0x1_0000 up). -/
structure Fld where
  addr : Nat
  lo : Nat
  w : Nat
  acc : Acc
  cls : Cls
  boot : Nat
  idx : Idx
  deriving DecidableEq, Repr

/-- One value of the register store: a field's number, a channel, the value. -/
structure Cell where
  id : Nat
  ch : Nat
  val : Nat
  deriving DecidableEq, Repr

/-- One event counter of R405, with its last snapshot of R406. `lvl` is the last level of a level source; `seen` and
`held` say whether that source has been true at some moment, and at every moment, since the last wheel tick. -/
structure EvCtr where
  src : Nat := 0
  mode : Nat := 0
  presc : Nat := 0
  count : Nat := 0
  snap : Nat := 0
  lvl : Bool := false
  seen : Bool := false
  held : Bool := false
  part : Nat := 0
  deriving DecidableEq, Repr

/-- A coach evaluation that is due (R47, R50): the wheel tick and the coach. -/
structure Due where
  tick : Nat
  coach : Nat
  deriving DecidableEq, Repr

/-- An error in a coach store word (R100): the flipped bits of its 39 stored bits, data in bits 31:0. -/
structure Upset where
  coach : Nat
  word : Nat
  mask : Nat
  deriving DecidableEq, Repr

/-- A command waiting on the actuator command bus (R104): the kind and index of R38, the value, whether a first NACK has
been answered (R106), and whether the receiving block's NACK is waiting for the sender. -/
structure ActCmd where
  kind : Nat
  index : Nat
  value : Nat
  src : Nat
  again : Bool := false
  nacked : Bool := false
  deriving DecidableEq, Repr

/-- A cross-check of R87: coach, input, the converter asked, the units for the comparison, and the code delivered. -/
structure XChk where
  coach : Nat
  input : Nat
  conv : Nat
  unit : Nat
  issued : Bool
  raw : Option Int
  deriving DecidableEq, Repr

/-- A coach bus request (R122): requester, beat address, direction, beats, whether it is a continuation (R118), whether it has been
parked, and the word-enable bits of each beat of a write (R112). -/
structure BusReq where
  id : Nat
  beat : Nat
  write : Bool
  beats : Nat
  cont : Bool
  parked : Bool
  enables : List Nat := []
  deriving DecidableEq, Repr

/-- The arbiter's own state: the requests raised and not granted (R122), the passes of R117 as pairs (passer, passed),
the winner that waits for the owner's release, the carriage that runs, whether it has passed HOLD_LIMIT (R123), and the
requesters whose last request ended in an error, until their next grant (R122, R124), and the beats of the composer's further carriages,
which requester 12 raises one after the other (R122, R426). -/
structure ArbS where
  pend : List BusReq := []
  passed : List (Nat × Nat) := []
  winner : Option BusReq := none
  running : Option BusReq := none
  held : Bool := false
  errs : List Nat := []
  fetches : List Nat := []
  deriving DecidableEq, Repr

/-- An urgent request (R158): requester, input number (64 stands for the calibration halver's REFIN/2 of R176). -/
structure Urg where
  src : Sys2Proof.UrgBy
  input : Nat
  conv : Nat
  deriving DecidableEq, Repr

/-- The settings that a scan entry starts with and finishes under (R149): MODE, SSIGN, IIR_SHIFT and LR of its input, and whether
its converter runs on VREF_INT (R183). -/
structure InSet where
  mode : Nat := 0
  ssign : Bool := false
  iir : Nat := 0
  lr : Nat := 0
  untraced : Bool := false
  deriving DecidableEq, Repr

/-- A scan entry in progress (R149): its input, number of conversions, the next of them, the settle mark, its settings, and its
number among the entries of its converter. -/
structure Entry where
  input : Nat
  osr : Nat
  k : Nat
  settle : Bool
  set : InSet := {}
  seq : Nat := 0
  deriving DecidableEq, Repr

/-- A raw scan result in the sample mover's buffer (R129): input, place in its entry, entry length, code, marks, the entry's
settings and number, and the number of the line-rejection window in which its conversion ended (R154). -/
structure Raw where
  input : Nat
  k : Nat
  osr : Nat
  code : Int
  settle : Bool
  set : InSet := {}
  seq : Nat := 0
  win : Nat := 0
  deriving DecidableEq, Repr

/-- The sample mover's oversampling accumulator for a converter (R129, R152). -/
structure Accu where
  input : Nat
  osr : Nat
  got : Nat
  sum : Int
  settle : Bool
  limit : Bool
  set : InSet := {}
  seq : Nat := 0
  win : Nat := 0
  deriving DecidableEq, Repr

/-- The power phase of a converter (R150); `stopped` is VDDA undervoltage (R334). -/
inductive Phase where
  | off | starting | ready | stopped
  deriving DecidableEq, Repr

/-- One converter (R146 to R161): its phase, the entry in progress, the urgent conversion that runs, those that wait, its
walk position, the raw result in CONV_DATA that the mover has not taken, the mover's buffer and accumulator,
whether it has made a scan conversion since its last health check (R179), whether it runs on VREF_INT and whether it is to
switch to it at its next scan boundary (R183), the number of its latest entry, and that of the latest entry of which a
conversion was lost (R152). -/
structure ConvS where
  phase : Phase := .off
  entry : Option Entry := none
  urg : Option Urg := none
  wait : List Urg := []
  pos : Nat := 0
  data : Option Raw := none
  buf : List Raw := []
  accu : Option Accu := none
  used : Bool := false
  untraced : Bool := false
  toInt : Bool := false
  seq : Nat := 0
  lost : Nat := 0
  deriving DecidableEq, Repr

/-- The calibration of a converter (R172 to R181): phase coded as CAL_STAT, due, requested through REQ, the taps of run
1 and the result that waits for the handback, the checks still owed to a suspect converter, failures in a row, whether a
health check runs and whether a dropped one is owed, and 1 + the wheel tick at which its last attempt failed or was
abandoned (0: it passed, or there was none; R172), and whether the calibration that runs is made against VREF_INT (R183). -/
structure CalS where
  phase : Nat := 0
  due : Bool := false
  asked : Bool := false
  run1 : List Int := []
  taps : List Int := []
  result : Nat := 0
  reason : Nat := 0
  suspect : Bool := false
  checks : Nat := 0
  badRow : Nat := 0
  health : Bool := false
  skipped : Bool := false
  ended : Nat := 0
  onInt : Bool := false
  deriving DecidableEq, Repr

/-- What relief converter C does for A (0) or B (1): relieving, those that wait for it, for good, handing back (R170, R181,
R182), and the interrupted entry of a replaced converter that C converts again once it has handed the other scan back (R180). -/
structure Relief where
  target : Option Nat := none
  wanted : List Nat := []
  forGood : Bool := false
  back : Bool := false
  redo : Option Entry := none
  deriving DecidableEq, Repr

/-- A qualified comparator edge memory of an input (R138), as the comparator saw the edges, INV apart: the last two rising and the
last two falling ones with those of the 2 s before, latest first, and the level. -/
structure Pulse where
  input : Nat
  rises : List Nat := []
  falls : List Nat := []
  level : Bool := false
  deriving DecidableEq, Repr

/-- The sensor master's transaction (R143, R144): the target, the command bytes it writes first, the wait in ms, the bytes it reads,
and the bus speed in kHz. -/
structure SnsTx where
  target : Nat := 0
  cmd : List Nat := []
  wait : Nat := 0
  reads : Nat := 0
  khz : Nat := 100
  deriving DecidableEq, Repr

/-- R253: a die sensor's factory line. -/
structure TsLine where
  t25 : Int := 0
  slope : Nat := 0
  c25 : Int := 0
  deriving DecidableEq, Repr

/-- R25, R409, R410: what OTP holds: identity, the public-key hash and SIGNED bit with the copies that act since the last boot (R410), the device key pair of R363, the MAC
address, the die sensors' lines, the factory trim sets of R184 (A, B, C, V0 to V7, fan: low and high word), the factory
OFFSET and GAIN of each input (R184, R438) and the factory on-resistances of R259 in mΩ (a valve's low side, a high-side
switch, a damper's bridge, a binary output). -/
structure Otp where
  part : Nat := 0x5160
  die : Nat := 0
  lot : Nat := 0
  pos : Nat := 0
  hash : List Nat := []
  hashSet : Bool := false
  signed : Bool := false
  actHash : List Nat := []
  actHashSet : Bool := false
  actSigned : Bool := false
  keySet : Bool := false
  priv : Nat := 0
  pub : List Nat := []
  mac : Nat := 0
  lines : List TsLine := []
  trims : List (Nat × Nat) := []
  uis : List (Nat × Nat) := []
  ron : List Nat := []
  deriving DecidableEq, Repr

/-- R372: an Analog Value: its priority array (empty list: all NULL), its Relinquish_Default, and the value a coach output
gave it, all in Q16.16. -/
structure Av where
  inst : Nat
  prio : List (Option Int) := []
  rel : Int := 0
  out : Int := 0
  deriving DecidableEq, Repr


/-- R239: the damper scheduler: dampers moving or homing with their start stamps, oldest first; those of them it is
stopping; preempted ones that wait ahead of the queue, by start stamp; the queue; the next stamp. -/
structure DmpS where
  moving : List (Nat × Nat) := []
  stopping : List Nat := []
  front : List (Nat × Nat) := []
  queue : List Nat := []
  stamp : Nat := 0
  deriving DecidableEq, Repr

/-- R289: the execution log's record of an entry (weekly 0 to 63, exceptions 64 to 95): the day, counted from 2000-01-01,
and the wheel tick of its latest execution. -/
structure LogRec where
  entry : Nat
  day : Nat
  tick : Nat
  deriving DecidableEq, Repr


/-- R318 to R324: the region update under way: the coaches of a coach group with the STATE recorded, whether its words are
written, and the words of a valve-profile update still to be written (channel, address, word). -/
structure RgnS where
  coaches : List (Nat × Nat) := []
  written : Bool := false
  writes : List (Nat × Nat × Nat) := []
  named : List Nat := []
  aborted : Bool := false
  deriving DecidableEq, Repr

/-- R400, R401: the hatch operation that waits or runs: 0 none, 1 read, 2 program, 3 erase; its byte address, its words as
copied, how many it reads; and the operations on the hatch path, the one served first: 1 the host's, 2 SUPV_REPAIR's, 3 a persist's. -/
structure HatchS where
  op : Nat := 0
  addr : Nat := 0
  words : List Nat := []
  count : Nat := 0
  path : List Nat := []
  deriving DecidableEq, Repr

/-- An active COV subscription (R376), with the value last notified. -/
structure CovSub where
  who : Nat
  ref : Sys2Proof.BacRef
  life : Nat
  last : Sys2Proof.BacVal
  deriving DecidableEq, Repr

/-- Why a network request is refused (R369 to R381). -/
inductive NetErr where
  | writeAccessDenied | valueOutOfRange | deviceBusy | unknownObject | unknownProperty | passwordFailure
  | optionalNotSupported | invalidFileStart | unrecognizedService | noSpace | apduTooLong | tooManySegments
  deriving DecidableEq, Repr

/-- What the controller sends on a port of its own accord (R358, R360, R364, R366). -/
inductive NetSend where
  | arpProbe | arpReply | echoReply | dhcpDiscover | dhcpRequest | dhcpDecline | fdrRegister | bvllNak | heartbeat | closeSc
  | dnsQuery (name : List Nat) (server : Nat) | scHello (certs : List (List Nat)) | scConnect (vmac uuid : Nat)
  | replyPostponed | replyNow | pollForMaster | passToken | segmentAck (window : Nat) | modbusPoll (server function start count : Nat) | roomUnit (bytes : List Nat)
  deriving DecidableEq, Repr

/-- How a broadcast goes out (R360): as a local one, or as Distribute-Broadcast-To-Network. -/
inductive NetCast where
  | onLink | distribute
  deriving DecidableEq, Repr

/-- One message the protocol processor answers or sends. -/
inductive NetOut where
  | ack
  | property (ref : Sys2Proof.BacRef) (v : Sys2Proof.BacVal)
  | error (e : NetErr)
  | regs (l : List Nat)
  | exception (code : Nat)
  | ident (l : List (List Nat))
  | event (obj : Sys2Proof.BacObj) (st : Sys2Proof.EventTo) (unacked : Nat)
  | record (tick : Nat) (v : Sys2Proof.BacVal)
  | enrolled (obj : Sys2Proof.BacObj) (st : Sys2Proof.EventTo) (cls : Nat)
  | segments (count window : Nat)
  | iAm (inst : Nat) (how : NetCast)
  | iHave (inst : Nat) (obj : Sys2Proof.BacObj) (how : NetCast)
  | bufferReady (log count : Nat)
  | covNotify (who : Nat) (ref : Sys2Proof.BacRef) (v : Sys2Proof.BacVal)
  | eventNotify (obj : Sys2Proof.BacObj) (st : Sys2Proof.EventTo)
  | ackNotify (obj : Sys2Proof.BacObj) (st : Sys2Proof.EventTo)
  | whoIs
  | send (what : NetSend)
  deriving DecidableEq, Repr

/-- The protocol processor's RAM (R377), class V: the zones' priority arrays (zone, slots 1 to 16), the subscriptions, the
trend logs, the objects' network state, the notification classes, the Device properties, the messages of its last command,
whether the MAC buffer of the next frame to be sent has an error (R26), the frames that wait for the MS/TP
token, each with the event that counts it, and whether Reply Postponed has put an answer off (R366). -/
structure NetS where
  zones : List (Nat × List (Option Nat)) := []
  subs : List CovSub := []
  trends : List Sys2Proof.TrendLog := []
  objs : List Sys2Proof.NetObj := []
  classes : List Sys2Proof.NotifyClass := []
  utcOffset : Int := 0
  dst : Bool := false
  out : List NetOut := []
  txBad : Bool := false
  queue : List (List NetOut × Option Nat) := []
  postponed : Bool := false
  deriving DecidableEq, Repr

/-- The sixteen states of the IEEE 1149.1 TAP controller. -/
inductive TapState where
  | reset | idle
  | selectDr | captureDr | shiftDr | exit1Dr | pauseDr | exit2Dr | updateDr
  | selectIr | captureIr | shiftIr | exit1Ir | pauseIr | exit2Ir | updateIr
  deriving DecidableEq, Repr

/-- The test port (R456): the controller's state, the instruction in force and the one being shifted, the data register being
shifted, the boundary scan register's parallel latches, and TDO (none: high impedance). -/
structure TapS where
  st : TapState := .reset
  ir : Nat := 0
  idcode : Bool := true
  irShift : Nat := 0
  drShift : Nat := 0
  bsr : Nat := 0
  tdo : Option Bool := none
  deriving DecidableEq, Repr

/-- The machine. -/
structure State where
  /-- The commands that wait, first in, first out. -/
  pending : List Sys2Proof.Instr := []
  /-- Every register field and scalar that does not hold its resting value. -/
  regs : List Cell := []
  /-- The model's own counter of free values taken (log entry 2). -/
  free : Nat := 0
  /-- R403: INT_CAUSE. -/
  intCause : Nat := 0
  /-- R405: the sixteen event counters. -/
  evcs : List EvCtr := List.replicate 16 {}
  /-- R405: EVC_WRAP. -/
  evcWrap : Nat := 0
  /-- R406: EVC_STAMP. -/
  evcStamp : Nat := 0
  /-- R50: the coaches due and not yet committed, in order. -/
  due : List Due := []
  /-- R100: coach store words whose stored bits hold an error. -/
  upsets : List Upset := []
  /-- R104: the commands waiting on the actuator command bus. -/
  actQ : List ActCmd := []
  /-- R87: cross-checks under way. -/
  xchks : List XChk := []
  /-- R112 to R124: the arbiter. -/
  arb : ArbS := {}
  /-- R146: converters A, B and C. -/
  convs : List ConvS := [{}, {}, {}]
  /-- R172: calibration of A, B and C. -/
  cals : List CalS := [{}, {}, {}]
  /-- R170: what C relieves. -/
  relief : Relief := {}
  /-- R160: urgent requests their requesters keep until an earlier one is served. -/
  urgMore : List Urg := []
  /-- R138: comparator histories. -/
  pulses : List Pulse := []
  /-- R144: the sensor master's current or last transaction. -/
  snsTx : SnsTx := {}
  /-- R25: OTP. -/
  otp : Otp := {}
  /-- R372: the Analog Values that are not at rest (all NULL, Relinquish_Default 0). -/
  avs : List Av := []
  /-- R239: the damper scheduler. -/
  dmp : DmpS := {}
  /-- R289: the execution log. -/
  schedLog : List LogRec := []
  /-- R300: the attached NOR flash; an unlisted byte reads 0xFF. -/
  flash : List Host.Cell := []
  /-- R301: the IZ-30 EEPROM; an unlisted byte reads 0xFF. -/
  eeprom : List Host.Cell := []
  /-- R318: the region update under way. -/
  rgn : RgnS := {}
  /-- R401: the hatch operation. -/
  hatch : HatchS := {}
  /-- R390: the response the host has not read yet. -/
  resp : List Nat := []
  /-- R388, R389, R439: the bytes that the controller sent in the last transfer it answered. -/
  sent : List Nat := []
  /-- R385: what the NETWORK section set. -/
  netImg : Sys2Proof.NetImage := {}
  /-- R377: the protocol processor's RAM. -/
  net : NetS := {}
  /-- R426: the text of each field item as last drawn. -/
  drawn : List (Nat × List Nat) := []
  /-- R426: the text of each field item as last fetched. -/
  held : List (Nat × List Nat) := []
  /-- R26: the bytes of the frame buffer that read with a parity error. -/
  fbBad : List Nat := []
  /-- R26: the table words of the display composer's items that read with a parity error: the word offset of each. -/
  compBad : List Nat := []
  /-- R456: the test port. -/
  tap : TapS := {}
  deriving DecidableEq, Repr

/-- Why the machine stops. -/
inductive Fault where
  /-- Raised by no meaning: every command completes, and an operand that no bytes can hold is taken as the bytes would hold it
  (log entry 5). It stands for a command that could not be run at all. Safe. -/
  | illFormed (what : String)
  deriving DecidableEq, Repr

/-- Why a command has no meaning. -/
inductive Refusal where
  /-- Raised by exec's arms for a command that has no meaning yet. Safe: the machine stops. -/
  | notModelled (mnemonic : String)
  deriving DecidableEq, Repr

/-- The machine right after a power-on reset: the boot reset is over, BOOT has not run, every field rests (R350, column
"Boot reset"); log entries 1 and 3 name the values the spec does not give. -/
def State.reset : State := {}

end Sys2Proof.Machine
end

