-- ==== Sys2Proof/Machine/Hidden.lean ====
section
/-! DEFINITION. The scalars the spec's prose gives the machine and no register shows, as fields of the same store: their
addresses lie from 0x1_0000 up, outside the host's address space, and their class says what they survive (R9). -/

namespace Sys2Proof.Machine.Hid

/-- R47: the period wheel's tick count. -/
def tick : Fld := ⟨0x10000, 0, 48, .ro, .H, 0, .one⟩
/-- R47: 1 once the first tick after BOOT has come. -/
def tickRun : Fld := ⟨0x10001, 0, 1, .ro, .H, 0, .one⟩
/-- R347: 1 while the hold of a soft reset runs. -/
def softHold : Fld := ⟨0x10002, 0, 1, .ro, .H, 0, .one⟩
/-- R347, R21: period-wheel ticks that fell within the hold. -/
def heldTicks : Fld := ⟨0x10003, 0, 8, .ro, .V, 0, .one⟩
/-- R92: position the spare takes after its entry test: 0 none, 1 lead, 2 follow. -/
def swapPos : Fld := ⟨0x10004, 0, 2, .ro, .H, 0, .one⟩
/-- R70, R71: what the coach's next evaluation has to do with INIT_CLOSED: 1 the first since boot, which closes the coach where
INIT_CLOSED is 1 then; 2 the one after SERVICE has been left, which closes it. -/
def closeInit : Fld := ⟨0x10005, 0, 2, .ro, .H, 0, (.arr 160 1)⟩
/-- R71: 1 from an entry to SERVICE that found the coach CLOSED until its next evaluation, which opens it. -/
def svcOpen : Fld := ⟨0x10089, 0, 1, .ro, .H, 0, (.arr 160 1)⟩
/-- R71: 1 from an entry to SERVICE that found a CLOSE pending until the coach's next evaluation, which discards it. -/
def svcDrop : Fld := ⟨0x1008A, 0, 1, .ro, .H, 0, (.arr 160 1)⟩
/-- R49: 1 until the coach's first evaluation after boot or enable. -/
def first : Fld := ⟨0x10006, 0, 1, .ro, .H, 1, (.arr 160 1)⟩
/-- R106: sequence number the sender uses next, per target of SUPV_CMD_PATH. -/
def sndSeq : Fld := ⟨0x10007, 0, 5, .ro, .V, 0, (.arr 21 1)⟩
/-- R106: last sequence number accepted, per target. -/
def rcvSeq : Fld := ⟨0x10008, 0, 5, .ro, .V, 31, (.arr 21 1)⟩
/-- R130: longest wait of each requester in FABRIC cycles. -/
def wmax : Fld := ⟨0x10009, 0, 24, .ro, .V, 0, (.arr 16 1)⟩
/-- R152: filter state y of each input, signed. -/
def iirY : Fld := ⟨0x1000A, 0, 32, .ro, .V, 0, (.arr 64 1)⟩
/-- R152: sum of the running line-rejection window, signed. -/
def winSum : Fld := ⟨0x1000B, 0, 64, .ro, .V, 0, (.arr 64 1)⟩
/-- R152: valid entries of the running line-rejection window. -/
def winCnt : Fld := ⟨0x1000C, 0, 32, .ro, .V, 0, (.arr 64 1)⟩
/-- R148: 1 while a paced input is due. -/
def uiDue : Fld := ⟨0x1000D, 0, 1, .ro, .V, 0, (.arr 64 1)⟩
/-- R149: the settings of the input's latest scan entry: MODE in bits 3:0, SSIGN 4, IIR_SHIFT 8:5, LR 10:9, VREF_INT 11. -/
def uiSet : Fld := ⟨0x1008B, 0, 12, .ro, .V, 0, (.arr 64 1)⟩
/-- R152: converter of the last entry that the running line-rejection window took. -/
def winSrc : Fld := ⟨0x1008C, 0, 2, .ro, .V, 0, (.arr 64 1)⟩
/-- R144: 1 while the entry of the polling list is due. -/
def snsDue : Fld := ⟨0x1008D, 0, 1, .ro, .V, 0, (.arr 32 1)⟩
/-- R138: 1 while the debounced comparator of a contact input is closed, INV apart. -/
def contact : Fld := ⟨0x1000E, 0, 1, .ro, .V, 0, (.arr 64 1)⟩
/-- R141: run of samples above the threshold. -/
def occRun : Fld := ⟨0x1000F, 0, 8, .ro, .V, 0, (.arr 4 1)⟩
/-- R141: 1 + wheel tick of the last detection, 0 for the moment of R142. -/
def occLast : Fld := ⟨0x10010, 0, 49, .ro, .V, 0, (.arr 4 1)⟩
/-- R185: sum of the OSR averages of the running point, signed. -/
def sysSum : Fld := ⟨0x10012, 0, 48, .ro, .V, 0, .one⟩
/-- R185: averages taken in the running point, 0 to 256. -/
def sysCnt : Fld := ⟨0x10013, 0, 9, .ro, .V, 0, .one⟩
/-- R185: a raw conversion of the running point was at limit. -/
def sysClip : Fld := ⟨0x10014, 0, 1, .ro, .V, 0, .one⟩
/-- R185: the running point. -/
def sysPoint : Fld := ⟨0x10015, 0, 2, .ro, .V, 0, .one⟩
/-- R185: the input of the running point. -/
def sysIn : Fld := ⟨0x10016, 0, 6, .ro, .V, 0, .one⟩
/-- R186: 1 while OFFSET and GAIN that passed wait for the input's next scan entry. -/
def sysNew : Fld := ⟨0x10017, 0, 1, .ro, .V, 0, (.arr 64 1)⟩
/-- R186: the waiting OFFSET. -/
def sysNewOff : Fld := ⟨0x10019, 0, 16, .ro, .V, 0, (.arr 64 1)⟩
/-- R186: the waiting GAIN. -/
def sysNewGain : Fld := ⟨0x1001A, 0, 16, .ro, .V, 0, (.arr 64 1)⟩
/-- R154: the number of an input's running line-rejection window, modulo 2^16. -/
def winNo : Fld := ⟨0x1009B, 0, 16, .ro, .V, 0, (.arr 64 1)⟩
/-- R189: wheel tick of each converter's last pass, or of the soft reset after it, for CAL_AGE. -/
def calTick : Fld := ⟨0x1001B, 0, 48, .ro, .V, 0, (.arr 12 1)⟩
/-- R172: 1 once a calibration of the converter has passed. -/
def calPassed : Fld := ⟨0x1001C, 0, 1, .ro, .V, 0, (.arr 3 1)⟩
/-- R334: ms before a calibration may start after VDDA_UV cleared. -/
def calHold : Fld := ⟨0x1001D, 0, 11, .ro, .V, 0, .one⟩
/-- R18: consecutive bad audit windows. -/
def audBad : Fld := ⟨0x1001E, 0, 2, .ro, .V, 0, .one⟩
/-- R264: 1 while the sensor's hold after exclusion runs. -/
def tsExcl : Fld := ⟨0x1001F, 0, 1, .ro, .H, 0, (.arr 8 1)⟩
/-- R344: 1 while a boot reset is held active. -/
def resetActive : Fld := ⟨0x10020, 0, 1, .ro, .H, 0, .one⟩
/-- R344: cause of the boot reset whose release starts BOOT. -/
def pwrCause : Fld := ⟨0x10021, 0, 3, .ro, .H, 1, .one⟩
/-- R338: the pending mode command. -/
def modeCmd : Fld := ⟨0x10022, 0, 3, .ro, .V, 0, .one⟩
/-- R198: 1 while channel 0 is held off for VDRV. -/
def vdrvBlock : Fld := ⟨0x10023, 0, 1, .ro, .H, 0, .one⟩
/-- R254: a stored result of the sensor waits for the thermal block. -/
def tsNew : Fld := ⟨0x10024, 0, 1, .ro, .V, 0, (.arr 8 1)⟩
/-- R254: that stored result, signed. -/
def tsGot : Fld := ⟨0x10095, 0, 16, .ro, .V, 0, (.arr 8 1)⟩
/-- R254: an urgent result of the sensor waits for the thermal block. -/
def tsUrgNew : Fld := ⟨0x10025, 0, 1, .ro, .V, 0, (.arr 8 1)⟩
/-- R254: the corrected code of that urgent result, signed. -/
def tsUrgCode : Fld := ⟨0x10026, 0, 16, .ro, .V, 0, (.arr 8 1)⟩
/-- R218: last VALID VM reading the valve block has received, in mV. -/
def vlvVm : Fld := ⟨0x10027, 0, 16, .ro, .H, 32000, .one⟩
/-- R340: a zone has turned from vacant to occupied since the last tick. -/
def wakeOcc : Fld := ⟨0x10028, 0, 1, .ro, .V, 0, .one⟩
/-- R310: internal copy of the image's trim sets, low word. -/
def ccTrimLo : Fld := ⟨0x10029, 0, 30, .ro, .I, 0, (.arr 12 1)⟩
/-- R310: internal copy of the image's trim sets, high word. -/
def ccTrimHi : Fld := ⟨0x1002A, 0, 24, .ro, .I, 0, (.arr 12 1)⟩
/-- R310: the image holds the low word (bit 0) and the high word (bit 1) of this trim set. -/
def ccTrimHas : Fld := ⟨0x1002B, 0, 2, .ro, .I, 0, (.arr 12 1)⟩
/-- R310: internal copy of the image's OFFSET. -/
def ccOff : Fld := ⟨0x1002C, 0, 16, .ro, .I, 0, (.arr 64 1)⟩
/-- R310: internal copy of the image's GAIN. -/
def ccGain : Fld := ⟨0x1002D, 0, 16, .ro, .I, 16384, (.arr 64 1)⟩
/-- R310: the image holds the input's OFFSET (bit 0) and GAIN (bit 1). -/
def ccUiHas : Fld := ⟨0x10087, 0, 2, .ro, .I, 0, (.arr 64 1)⟩
/-- R405: clock fallback stood at the last wheel tick. -/
def evcFb : Fld := ⟨0x10088, 0, 1, .ro, .V, 0, .one⟩
/-- R103: the coach whose configuration words are being reloaded. -/
def repairCoach : Fld := ⟨0x1002E, 0, 8, .ro, .V, 0, .one⟩
/-- R243: ms of the running second of ELAPSED. -/
def boMs : Fld := ⟨0x1002F, 0, 10, .ro, .H, 0, (.arr 6 1)⟩
/-- R244: order in which the command that turns the output on arrived. -/
def boArr : Fld := ⟨0x10030, 0, 48, .ro, .H, 0, (.arr 6 1)⟩
/-- R244: commands that turned an output on, for boArr. -/
def boCnt : Fld := ⟨0x10031, 0, 48, .ro, .H, 0, .one⟩
/-- R242: 1 + wheel tick of each output's last two overcurrent trips. -/
def boOcAt : Fld := ⟨0x10032, 0, 49, .ro, .H, 0, (.arr 12 1)⟩
/-- R242: 1 while the output waits 1 s after a trip. -/
def boOc : Fld := ⟨0x10033, 0, 1, .ro, .H, 0, (.arr 6 1)⟩
/-- R221: origin of the running pulse, as a wheel tick. -/
def vlvOrg : Fld := ⟨0x10034, 0, 48, .ro, .H, 0, (.arr 8 1)⟩
/-- R221: 0 none yet, 1 the entry of PEAK or HOLD, 2 a grid time. -/
def vlvOrgKind : Fld := ⟨0x10035, 0, 2, .ro, .H, 0, (.arr 8 1)⟩
/-- R218: 1 while the channel's pulse grid runs. -/
def vlvGrid : Fld := ⟨0x10036, 0, 1, .ro, .H, 0, (.arr 8 1)⟩
/-- R222: band found at the last read of the coil temperature. -/
def vlvBandNow : Fld := ⟨0x10037, 0, 2, .ro, .H, 1, (.arr 8 1)⟩
/-- R229: 1 while the channel is in an off-state test. -/
def vlvTest : Fld := ⟨0x10038, 0, 1, .ro, .H, 0, (.arr 8 1)⟩
/-- R229: 1 while an off-state test of the switch runs. -/
def vlvHsTest : Fld := ⟨0x10039, 0, 1, .ro, .H, 0, (.arr 4 1)⟩
/-- R231: 1 + wheel tick of each switch's last two overcurrent trips. -/
def vlvOcAt : Fld := ⟨0x1003A, 0, 49, .ro, .H, 0, (.arr 8 1)⟩
/-- R231: 1 while the channel waits 10 ms after a high-side overcurrent. -/
def vlvOcWait : Fld := ⟨0x1003B, 0, 1, .ro, .H, 0, (.arr 8 1)⟩
/-- R225, R228: the switch conducts under a CUT of the low sides alone. -/
def vlvHsKeep : Fld := ⟨0x10090, 0, 1, .ro, .H, 0, (.arr 4 1)⟩
/-- R235: the speed of the damper, in 1/1000 full steps per s. -/
def dmpVel : Fld := ⟨0x10091, 0, 21, .ro, .H, 0, (.arr 4 1)⟩
/-- R235: 1 while the damper turns towards the home end. -/
def dmpDir : Fld := ⟨0x10092, 0, 1, .ro, .H, 0, (.arr 4 1)⟩
/-- R235: what the damper has moved beyond a whole microstep, in 1/2 000 000 microstep. -/
def dmpFrac : Fld := ⟨0x10093, 0, 21, .ro, .H, 0, (.arr 4 1)⟩
/-- R233: the place in the sine and cosine table, 16 to a full step. -/
def dmpPhase : Fld := ⟨0x10094, 0, 6, .ro, .H, 0, (.arr 4 1)⟩
/-- R198: 1 + wheel tick of the last three overcurrent trips of channel 0. -/
def fanOcAt : Fld := ⟨0x1003C, 0, 49, .ro, .H, 0, (.arr 3 1)⟩
/-- R198: the 500 ms of COAST have passed while a protection holds. -/
def fanCoasted : Fld := ⟨0x1003D, 0, 1, .ro, .H, 0, .one⟩
/-- R199: speed reference or field speed of channel 0, in 1/1000 rpm. -/
def fanRef : Fld := ⟨0x1003E, 0, 32, .ro, .H, 0, .one⟩
/-- R200: ms since ALIGN or RAMP was entered. -/
def fanRampMs : Fld := ⟨0x1003F, 0, 16, .ro, .H, 0, .one⟩
/-- R193: the demand D in force on each channel, in rpm. -/
def fanDem : Fld := ⟨0x1008E, 0, 16, .ro, .H, 0, (.arr 3 1)⟩
/-- R201: integrator of channel 0's speed loop, signed, in 1/256000 mA. -/
def fanSpdInt : Fld := ⟨0x1008F, 0, 64, .ro, .H, 0, .one⟩
/-- R197: the current limit acts. -/
def fanIlim : Fld := ⟨0x10040, 0, 1, .ro, .H, 0, .one⟩
/-- R207: integral of the speed correction of channels 1 and 2, signed, in 1/2560 duty LSB. -/
def fanInt : Fld := ⟨0x10041, 0, 64, .ro, .H, 0, (.arr 2 1)⟩
/-- R237: 1 after a first stall in the move under way. -/
def dmpStalled : Fld := ⟨0x10042, 0, 1, .ro, .H, 0, (.arr 4 1)⟩
/-- R236: 1 while a homing is asked for. -/
def dmpHome : Fld := ⟨0x10043, 0, 1, .ro, .H, 0, (.arr 4 1)⟩
/-- R238: 1 while the feedback check of an ended move is due. -/
def dmpFb : Fld := ⟨0x10044, 0, 1, .ro, .H, 0, (.arr 4 1)⟩
/-- R238: 1 after a mismatch, until a check agrees. -/
def dmpFbTry : Fld := ⟨0x10045, 0, 1, .ro, .H, 0, (.arr 4 1)⟩
/-- R256: up runs, 5 for each sensor, saturating at 3. -/
def tsUp : Fld := ⟨0x10046, 0, 2, .ro, .H, 0, (.arr 40 1)⟩
/-- R256: down runs, 5 for each sensor, saturating at 3. -/
def tsDn : Fld := ⟨0x10047, 0, 2, .ro, .H, 0, (.arr 40 1)⟩
/-- R260: held samples, 3 for each sensor, signed. -/
def tsHeld : Fld := ⟨0x10048, 0, 16, .ro, .V, 0, (.arr 24 1)⟩
/-- R260: number of held samples. -/
def tsHeldN : Fld := ⟨0x10049, 0, 2, .ro, .V, 0, (.arr 8 1)⟩
/-- R259: latest thermal sample of the sensor, signed. -/
def tsLast : Fld := ⟨0x1004A, 0, 16, .ro, .V, 0, (.arr 8 1)⟩
/-- R259: 1 + wheel tick of the latest thermal sample. -/
def tsAt : Fld := ⟨0x1004B, 0, 49, .ro, .V, 0, (.arr 8 1)⟩
/-- R254: consecutive samples that ask for no fast rate. -/
def tsCalm : Fld := ⟨0x1004C, 0, 5, .ro, .V, 0, (.arr 8 1)⟩
/-- R265: 1 while the conversion of a READMIT is under way. -/
def tsReadmit : Fld := ⟨0x1004D, 0, 1, .ro, .V, 0, (.arr 8 1)⟩
/-- R276: 1 while an accepted SET waits for its edge. -/
def rtcPend : Fld := ⟨0x1004E, 0, 1, .ro, .K, 0, .one⟩
/-- R276: its time, laid out as RTC_TIME. -/
def rtcPendT : Fld := ⟨0x1004F, 0, 21, .ro, .K, 0, .one⟩
/-- R276: its date, laid out as RTC_DATE. -/
def rtcPendD : Fld := ⟨0x10050, 0, 27, .ro, .K, 0, .one⟩
/-- R277: N in force in the running compensation window, signed. -/
def rtcCompN : Fld := ⟨0x10051, 0, 9, .ro, .K, 0, .one⟩
/-- R279: 1 while a shift is being applied. -/
def rtcShPend : Fld := ⟨0x10052, 0, 1, .ro, .K, 0, .one⟩
/-- R279: its N, with SUB in bit 15. -/
def rtcShift : Fld := ⟨0x10053, 0, 16, .ro, .K, 0, .one⟩
/-- R279: cycles for which a shift with SUB 1 still holds the sub-second counter. -/
def rtcHold : Fld := ⟨0x10096, 0, 15, .ro, .K, 0, .one⟩
/-- R277: the free count of second ticks within the running 32 s window. -/
def rtcSecs : Fld := ⟨0x10097, 0, 5, .ro, .K, 0, .one⟩
/-- R273, R277: 32.768 kHz cycles of the crystal up to the latest carry, modulo 2^48. -/
def rtcEdges : Fld := ⟨0x10098, 0, 48, .ro, .K, 0, .one⟩
/-- R293: a backward time change has been made since the log was last emptied. -/
def schedBack : Fld := ⟨0x10099, 0, 1, .ro, .H, 0, .one⟩
/-- R292: 1 + the minute, counted from 2000-01-01, of the event whose prestart is under way. -/
def preAt : Fld := ⟨0x1009A, 0, 32, .ro, .H, 0, (.arr 16 1)⟩
/-- R284: the retention latch has tripped. -/
def latch : Fld := ⟨0x10054, 0, 1, .ro, .K, 1, .one⟩
/-- R272: the 32.768 kHz oscillator is stopped. -/
def oscStopped : Fld := ⟨0x10055, 0, 1, .ro, .K, 0, .one⟩
/-- R275: RTC_DATE as latched. -/
def rtcLatD : Fld := ⟨0x10056, 0, 27, .ro, .V, 0, .one⟩
/-- R275: 1 until the latched RTC_DATE has been read. -/
def rtcLatDOn : Fld := ⟨0x10057, 0, 1, .ro, .V, 0, .one⟩
/-- R275: RTC_SUBSEC as latched. -/
def rtcLatS : Fld := ⟨0x10058, 0, 15, .ro, .V, 0, .one⟩
/-- R275: 1 until the latched RTC_SUBSEC has been read. -/
def rtcLatSOn : Fld := ⟨0x10059, 0, 1, .ro, .V, 0, .one⟩
/-- R26: weekly entries (bits 0 to 63) and exceptions (64 to 95) that hold an uncorrectable error. -/
def schedBad : Fld := ⟨0x1005A, 0, 96, .ro, .I, 0, .one⟩
/-- R340: a zone has entered OCCUPIED by its schedule or by optimum start since the last tick. -/
def wakeSched : Fld := ⟨0x1005B, 0, 1, .ro, .V, 0, .one⟩
/-- R340: AF_A or AF_B has been set since the last tick. -/
def wakeAlarm : Fld := ⟨0x1005C, 0, 1, .ro, .V, 0, .one⟩
/-- R340: a confirmed request to the device has been received since the last tick. -/
def wakeNet : Fld := ⟨0x1005D, 0, 1, .ro, .V, 0, .one⟩
/-- R318: the region staging buffer. -/
def stage : Fld := ⟨0x1005E, 0, 32, .ro, .V, 0, (.arr 8192 1)⟩
/-- R427: the display composer tables. -/
def comp : Fld := ⟨0x1005F, 0, 32, .ro, .I, 0, (.arr 6144 1)⟩
/-- R427: NPAGES, NFONTS and the page at boot. -/
def compHdr : Fld := ⟨0x10060, 0, 24, .ro, .I, 0, .one⟩
/-- R305: the protocol processor's patch RAM. -/
def patch : Fld := ⟨0x10061, 0, 32, .ro, .I, 0, (.arr 4096 1)⟩
/-- R371: the last stored value of the input whose REASON was not SETTLE. -/
def aiVal : Fld := ⟨0x10062, 0, 16, .ro, .V, 0, (.arr 40 1)⟩
/-- R371: its REASON. -/
def aiRsn : Fld := ⟨0x10063, 0, 3, .ro, .V, 6, (.arr 40 1)⟩
/-- R424: 1 after OFF in DISP_CMD, until ON. -/
def dispOff : Fld := ⟨0x10064, 0, 1, .ro, .V, 0, .one⟩
/-- R422: clearing frames still to end. -/
def dispFrames : Fld := ⟨0x10065, 0, 2, .ro, .V, 0, .one⟩
/-- R420: LINES in force. -/
def dispLines : Fld := ⟨0x10066, 0, 8, .ro, .V, 0, .one⟩
/-- R420: REFRESH in force. -/
def dispRefresh : Fld := ⟨0x10067, 0, 6, .ro, .V, 0, .one⟩
/-- R419: the running frame is in its hold. -/
def dispHold : Fld := ⟨0x10068, 0, 1, .ro, .V, 0, .one⟩
/-- R426: a page draw is running. -/
def dispPage : Fld := ⟨0x10069, 0, 1, .ro, .V, 0, .one⟩
/-- R423: a mismatch has been found in the running frame. -/
def dispRb : Fld := ⟨0x1006A, 0, 1, .ro, .V, 0, .one⟩
/-- R421: the real duration in µs that the running frame has reached. -/
def dispUs : Fld := ⟨0x1006B, 0, 32, .ro, .V, 0, .one⟩
/-- R425: the discharge of a panel that a boot reset found running. -/
def panelDis : Fld := ⟨0x1006C, 0, 1, .ro, .K, 0, .one⟩
/-- R442: the IZ-30 registers that the EEPROM image sets. -/
def izI : Fld := ⟨0x1006D, 0, 8, .ro, .I, 0, (.arr 256 1)⟩
/-- R442: the volatile IZ-30 registers. -/
def izV : Fld := ⟨0x1006E, 0, 8, .ro, .V, 0, (.arr 256 1)⟩
/-- R442: the held IZ-30 registers. -/
def izH : Fld := ⟨0x1006F, 0, 8, .ro, .H, 0, (.arr 256 1)⟩
/-- R439: the register pointer. -/
def izPtr : Fld := ⟨0x10070, 0, 8, .ro, .V, 0, .one⟩
/-- R440: 256 + the high byte written and held, by register. -/
def izHeld : Fld := ⟨0x10071, 0, 9, .ro, .V, 0, (.arr 256 1)⟩
/-- R440: 256 + the low byte latched by a read of its high byte, by register. -/
def izLat : Fld := ⟨0x10072, 0, 9, .ro, .V, 0, (.arr 256 1)⟩
/-- R444: a result waits to be read. -/
def izNew : Fld := ⟨0x10073, 0, 1, .ro, .V, 0, .one⟩
/-- R444: 256 + IZ_ADC_DL as latched by a read of IZ_ADC_DH. -/
def izAdcLat : Fld := ⟨0x10074, 0, 9, .ro, .V, 0, .one⟩
/-- R444: channel of the next conversion in a scan. -/
def izScan : Fld := ⟨0x10075, 0, 3, .ro, .V, 0, .one⟩
/-- R443: the corrected code kept beside the stored result, signed. -/
def izCorr : Fld := ⟨0x10076, 0, 16, .ro, .V, 0, (.arr 8 1)⟩
/-- R443: the input's latest code. -/
def izCode : Fld := ⟨0x10077, 0, 12, .ro, .V, 0, (.arr 8 1)⟩
/-- R441: the reload of an IZ-30 reset runs. -/
def izReload : Fld := ⟨0x10078, 0, 1, .ro, .H, 0, .one⟩
/-- R452: failed polls in a row. -/
def ruFails : Fld := ⟨0x10079, 0, 2, .ro, .V, 0, (.arr 4 1)⟩
/-- R452: the room unit's last good code. -/
def ruCode : Fld := ⟨0x1007A, 0, 12, .ro, .V, 0, (.arr 4 1)⟩
/-- R452: a poll of the room unit awaits its reply. -/
def ruWait : Fld := ⟨0x1007B, 0, 1, .ro, .V, 0, (.arr 4 1)⟩
/-- R358: the address in use or being claimed: 0 none, 1 DHCP, 2 static. -/
def ipSrc : Fld := ⟨0x1007C, 0, 2, .ro, .V, 0, .one⟩
/-- R364: the wait before the next attempt, in seconds. -/
def scBackoff : Fld := ⟨0x1007D, 0, 16, .ro, .V, 0, .one⟩
/-- R363, R364: BACnet/SC has its key and may connect. -/
def scOn : Fld := ⟨0x1007E, 0, 1, .ro, .V, 0, .one⟩
/-- R361: the VMAC. -/
def vmac : Fld := ⟨0x1007F, 0, 48, .ro, .V, 0, .one⟩
/-- R368: 1 while an entry's poll has been repeated, 16 entries for each bus. -/
def mbTries : Fld := ⟨0x10080, 0, 1, .ro, .V, 0, (.arr 32 1)⟩
/-- R368: 1 while an entry's reply is awaited. -/
def mbWait : Fld := ⟨0x10081, 0, 1, .ro, .V, 0, (.arr 32 1)⟩
/-- R357: the link partner advertises energy-efficient operation. -/
def eee : Fld := ⟨0x10082, 0, 1, .ro, .V, 0, .one⟩
/-- R410: what the running OTP programming programs. -/
def otpOp : Fld := ⟨0x10083, 0, 2, .ro, .V, 0, .one⟩
/-- R26: the protocol processor's ROM failed its checksum at boot. -/
def ppRom : Fld := ⟨0x10084, 0, 1, .ro, .H, 0, .one⟩
/-- R364: the next attempt is at the failover hub, because the primary's connection was lost. -/
def scAlt : Fld := ⟨0x10085, 0, 1, .ro, .V, 0, .one⟩
/-- R380: the DeviceCommunicationControl in force was given a duration. -/
def dccTimed : Fld := ⟨0x10086, 0, 1, .ro, .V, 0, .one⟩
/-- R368: 1 while an entry's poll is due. -/
def mbDue : Fld := ⟨0x1009C, 0, 1, .ro, .V, 0, (.arr 32 1)⟩
/-- R369: 1 while a trend log's interval has passed. -/
def trendDue : Fld := ⟨0x1009D, 0, 1, .ro, .V, 0, (.arr 8 1)⟩
/-- R425: the VCOM code of a discharge that a boot reset has begun or found. -/
def panelDisV : Fld := ⟨0x1009E, 0, 8, .ro, .K, 0, .one⟩
/-- R426: the field items of the page shown whose redraw the scan has delayed. -/
def compWait : Fld := ⟨0x1009F, 0, 3072, .ro, .V, 0, .one⟩
/-- R452: 1 while a room unit's poll is due. -/
def ruDue : Fld := ⟨0x100A0, 0, 1, .ro, .V, 0, (.arr 4 1)⟩
/-- R445: the output a loop named at its last evaluation, or at the end of BOOT before the first; 0 where it was disabled. -/
def izDrv : Fld := ⟨0x100A1, 0, 3, .ro, .H, 0, (.arr 8 1)⟩
/-- R358: seconds of probing left; 0 where no address is being probed. -/
def ipWait : Fld := ⟨0x100A2, 0, 4, .ro, .V, 0, .one⟩
/-- R358: the address being probed. -/
def ipCand : Fld := ⟨0x100A3, 0, 32, .ro, .V, 0, .one⟩
/-- R358: its mask. -/
def ipCandMask : Fld := ⟨0x100A4, 0, 32, .ro, .V, 0, .one⟩
/-- R358: its gateway. -/
def ipCandGw : Fld := ⟨0x100A5, 0, 32, .ro, .V, 0, .one⟩
/-- R361: the DNS server of the lease (option 6). -/
def ipDns : Fld := ⟨0x100A6, 0, 32, .ro, .V, 0, .one⟩
/-- R368: 1 while an entry's last poll has failed, 16 entries for each bus. -/
def mbFail : Fld := ⟨0x100A7, 0, 1, .ro, .V, 0, (.arr 32 1)⟩
/-- R426: the tick from which the composer may fetch its fields again. -/
def compTick : Fld := ⟨0x100A8, 0, 49, .ro, .V, 0, .one⟩
/-- R421: a page has been drawn in the running hold. -/
def dispDrew : Fld := ⟨0x100A9, 0, 1, .ro, .V, 0, .one⟩
/-- R382: seconds since the last supervising message, or since the timer's start. -/
def supAge : Fld := ⟨0x100AA, 0, 16, .ro, .V, 0, .one⟩
/-- R421: the wheel tick at which the running slot or hold began. -/
def dispTick : Fld := ⟨0x100AB, 0, 48, .ro, .V, 0, .one⟩

end Sys2Proof.Machine.Hid
end

