-- ==== Sys2Proof/Machine/Num.lean ====
section
/-! DEFINITION. Bit fields, sign extension, byte order and the roundings the spec uses (R3, R4). Register values are held as
natural numbers below `2 ^ width`; signed quantities are read with `toI` and written with `ofI`. -/

namespace Sys2Proof.Machine

/-- The `w` bits of `v` from bit `lo` up. -/
def bits (v lo w : Nat) : Nat := v / 2 ^ lo % 2 ^ w

/-- Bit `n` of `v`. -/
def bit (v n : Nat) : Bool := v / 2 ^ n % 2 == 1

/-- `v` with the `w` bits from bit `lo` replaced by `x`. -/
def putBits (v lo w x : Nat) : Nat := v - bits v lo w * 2 ^ lo + x % 2 ^ w * 2 ^ lo

/-- 1 for true and 0 for false. -/
def b2n (b : Bool) : Nat := if b then 1 else 0

/-- The two's complement reading of a `w`-bit value. -/
def toI (w v : Nat) : Int := if v % 2 ^ w < 2 ^ (w - 1) then (v % 2 ^ w : Nat) else ((v % 2 ^ w : Nat) : Int) - (2 ^ w : Nat)

/-- The `w`-bit two's complement encoding of an integer. -/
def ofI (w : Nat) (i : Int) : Nat := (i % ((2 ^ w : Nat) : Int)).toNat

/-- An integer held between two bounds. -/
def clampI (lo hi x : Int) : Int := if x < lo then lo else if hi < x then hi else x

/-- A natural number held at a ceiling. -/
def capN (hi x : Nat) : Nat := if hi < x then hi else x

/-- Quotient rounded to nearest, ties up (towards plus infinity); the divisor is positive. -/
def rndUp (a : Int) (b : Nat) : Int := (2 * a + b) / (2 * b : Nat)

/-- Quotient rounded to nearest, ties away from zero. -/
def rndAway (a b : Int) : Int :=
  let q : Int := ((2 * a.natAbs + b.natAbs) / (2 * b.natAbs) : Nat)
  if (a < 0) != (b < 0) then -q else q

/-- Quotient truncated towards zero. -/
def truncDiv (a b : Int) : Int :=
  let q : Int := (a.natAbs / b.natAbs : Nat)
  if (a < 0) != (b < 0) then -q else q

/-- Absolute difference of two naturals. -/
def absDiff (a b : Nat) : Nat := (a - b) + (b - a)

/-- The bits of `v` that are not in `m`. -/
def clearBits (v m : Nat) : Nat := v - (v &&& m)

/-- Big-endian bytes of `v`, `n` of them (R3: most significant byte first). -/
def beBytes : Nat → Nat → List Nat
  | 0, _ => []
  | n + 1, v => (v / 256 ^ n % 256) :: beBytes n v

/-- The number a list of bytes spells, most significant byte first (R3). -/
def ofBeBytes (l : List Nat) : Nat := l.foldl (fun a b => a * 256 + b % 256) 0

/-- The numbers below `n`, in rising order. -/
def upTo (n : Nat) : List Nat := List.range n

/-- A map of bits: bit k is 1 where `p k` holds, for k below `n`. -/
def bitMap (n : Nat) (p : Nat → Bool) : Nat := (List.range n).foldl (fun a k => if p k then a + 2 ^ k else a) 0

/-- The number of ones among the low `n` bits. -/
def popCount (n v : Nat) : Nat := ((List.range n).filter (fun k => bit v k)).length

/-- `l` with its entry at `k` replaced (unchanged when `k` is beyond the end). -/
def setAt {α : Type} : List α → Nat → α → List α
  | [], _, _ => []
  | _ :: t, 0, x => x :: t
  | h :: t, k + 1, x => h :: setAt t k x

end Sys2Proof.Machine
end

