-- ==== Sys2Proof/Machine/Store.lean ====
section
/-! DEFINITION. The register store: a list of cells in canonical form, and where a field's register stands. -/

namespace Sys2Proof.Machine

/-- The number of a survival class in a field's number. -/
def Cls.code : Cls → Nat
  | .K => 0 | .I => 1 | .H => 2 | .V => 3

/-- A field's number: its place and its class. Distinct fields of the register map have distinct numbers. -/
def Fld.id (f : Fld) : Nat := (f.addr * 32 + f.lo) * 4 + f.cls.code

/-- Whether a cell stands under a key. -/
def Cell.at (c : Cell) (id ch : Nat) : Bool := c.id == id && c.ch == ch

/-- Whether a cell's key comes before another key. -/
def Cell.before (c : Cell) (id ch : Nat) : Bool := decide (c.id < id) || (c.id == id && decide (c.ch < ch))

/-- The value a store lists under a key, or the resting value `d`. -/
def Store.get : List Cell → Nat → Nat → Nat → Nat
  | [], _, _, d => d
  | c :: t, id, ch, d => if c.at id ch then c.val else Store.get t id ch d

/-- The store without a key. -/
def Store.drop (l : List Cell) (id ch : Nat) : List Cell := l.filter (fun c => !c.at id ch)

/-- A cell put in its place in a sorted store. -/
def Store.insert : List Cell → Cell → List Cell
  | [], x => [x]
  | c :: t, x => if c.before x.id x.ch then c :: Store.insert t x else x :: c :: t

/-- The store with a value under a key; a resting value is not listed. -/
def Store.put (l : List Cell) (id ch d v : Nat) : List Cell :=
  if v = d then Store.drop l id ch else Store.insert (Store.drop l id ch) ⟨id, ch, v⟩

/-- The keys of a store rise strictly: its canonical order. -/
def Store.sorted (l : List Cell) : Prop := l.Pairwise (fun a b => a.before b.id b.ch = true)

/-- Whether a field's register stands at an address. -/
def Fld.hits (f : Fld) (a : Nat) : Bool :=
  match f.idx with
  | .one => a == f.addr
  | .arr n st => decide (f.addr ≤ a) && (a - f.addr) % st == 0 && decide ((a - f.addr) / st < n)
  | .arr2 n st m => decide (f.addr ≤ a) && decide ((a - f.addr) % st < m) && decide ((a - f.addr) / st < n)
  | .win _ _ => a == f.addr

end Sys2Proof.Machine
end

