-- ==== Sys2Proof/Machine/RegMap.lean ====
section
/-! DEFINITION. The register map: one `Fld` for every field of the spec's register tables that holds a value of its own,
with its address, bits, access code (R5), survival class (R9), the value it holds at boot and how its channels are
reached (R396). A field whose table says "image", "boot", "OTP" or "kept" rests at 0 here until BOOT gives it its value
(log entry 3). Fields that only show other state (maps, counts, the OTP identity) have no storage: Machine/Views.lean
computes them when they are read. -/

namespace Sys2Proof.Machine.Reg

/-- R26: Coach store, R102 -/
def MEM_ERR_COACH : Fld := ⟨0x0010, 0, 1, .w1c, .V, 0, .one⟩
/-- R26: Seat plan -/
def MEM_ERR_SEAT : Fld := ⟨0x0010, 1, 1, .w1c, .V, 0, .one⟩
/-- R26: Arbiter pending queue -/
def MEM_ERR_PEND : Fld := ⟨0x0010, 2, 1, .w1c, .V, 0, .one⟩
/-- R26: Per-input result store -/
def MEM_ERR_RESULT : Fld := ⟨0x0010, 3, 1, .w1c, .V, 0, .one⟩
/-- R26: Converter trim registers -/
def MEM_ERR_TRIM : Fld := ⟨0x0010, 4, 1, .w1c, .V, 0, .one⟩
/-- R26: Schedule table -/
def MEM_ERR_SCHED : Fld := ⟨0x0010, 5, 1, .w1c, .V, 0, .one⟩
/-- R26: Region staging buffer -/
def MEM_ERR_STAGE : Fld := ⟨0x0010, 6, 1, .w1c, .V, 0, .one⟩
/-- R26: Frame buffer -/
def MEM_ERR_FB : Fld := ⟨0x0010, 7, 1, .w1c, .V, 0, .one⟩
/-- R26: Display composer tables -/
def MEM_ERR_COMPOSER : Fld := ⟨0x0010, 8, 1, .w1c, .V, 0, .one⟩
/-- R26: Protocol processor RAM -/
def MEM_ERR_PP_RAM : Fld := ⟨0x0010, 9, 1, .w1c, .V, 0, .one⟩
/-- R26: Protocol processor patch RAM -/
def MEM_ERR_PATCH : Fld := ⟨0x0010, 10, 1, .w1c, .V, 0, .one⟩
/-- R26: MAC buffers -/
def MEM_ERR_MAC : Fld := ⟨0x0010, 11, 1, .w1c, .V, 0, .one⟩
/-- R26: Protocol processor ROM checksum failed at boot -/
def MEM_ERR_ROM : Fld := ⟨0x0010, 12, 1, .w1c, .V, 0, .one⟩
/-- R44: Selected coach. A value above 159 refuses the frame with RANGE -/
def COACH_SEL_SEL : Fld := ⟨0x1000, 0, 8, .rw, .V, 0, .one⟩
/-- R44: 1 OPEN, 2 CLOSE, 3 MANUAL, 4 SHUTTER, to the selected coach. Other values refuse the frame with RANGE -/
def COACH_CMD_CMD : Fld := ⟨0x1001, 0, 3, .wo, .V, 0, .one⟩
/-- R44: Last command: 0 none, 1 accepted, 2 accepted and replaced a pending command, 3 refused (coach disabled), 4 refused (not allowed in this mode), 5 discarded at evaluation -/
def COACH_CMD_STAT_RESULT : Fld := ⟨0x1002, 0, 3, .ro, .V, 0, .one⟩
/-- R44: Coach the result refers to -/
def COACH_CMD_STAT_COACH : Fld := ⟨0x1002, 8, 8, .ro, .V, 0, .one⟩
/-- R44: Current period multiplier: 1, 2, 8 or 16 -/
def ENG_STATUS_PMUL : Fld := ⟨0x1003, 0, 5, .ro, .H, 1, .one⟩
/-- R44: Wheel tick, bits 47:32, as latched by the last read of WHEEL_LO -/
def WHEEL_HI_TICK : Fld := ⟨0x1005, 0, 16, .ro, .H, 0, .one⟩
/-- R110: Lead lane: 0 A, 1 B, 2 S; 3 none, while the engine is stopped, R97 -/
def SUPV_LANE_LEAD : Fld := ⟨0x1800, 0, 2, .ro, .H, 3, .one⟩
/-- R110: Follow lane, coded as LEAD; 3 none -/
def SUPV_LANE_FOLLOW : Fld := ⟨0x1800, 2, 2, .ro, .H, 3, .one⟩
/-- R110: Spare lane, coded as LEAD; 3 none -/
def SUPV_LANE_SPARE : Fld := ⟨0x1800, 4, 2, .ro, .H, 3, .one⟩
/-- R110: One bit each for A, B and S -/
def SUPV_LANE_RETIRED : Fld := ⟨0x1800, 6, 3, .ro, .H, 0, .one⟩
/-- R110: Single-lane operation -/
def SUPV_LANE_DEGRADED : Fld := ⟨0x1800, 9, 1, .ro, .H, 0, .one⟩
/-- R110: Engine stopped -/
def SUPV_LANE_STOPPED : Fld := ⟨0x1800, 10, 1, .ro, .H, 0, .one⟩
/-- R110: A swap, entry test or restore is running -/
def SUPV_LANE_SWAP_BUSY : Fld := ⟨0x1800, 11, 1, .ro, .H, 0, .one⟩
/-- R110: 1 RESTORE. Reads 1 while running, then 0. Other values refuse the frame with RANGE -/
def SUPV_LANE_CMD_CMD : Fld := ⟨0x1801, 0, 2, .rwd, .V, 0, .one⟩
/-- R110: 0 none, 1 at least one lane restored, 2 no lane passed -/
def SUPV_LANE_CMD_RESULT : Fld := ⟨0x1801, 8, 2, .ro, .V, 0, .one⟩
/-- R110: Coach of the last mismatch -/
def SUPV_LANE_LOG_COACH : Fld := ⟨0x1802, 0, 8, .ro, .V, 0, .one⟩
/-- R110: 0 A, 1 B, 2 S, 3 no majority -/
def SUPV_LANE_LOG_LOSER : Fld := ⟨0x1802, 8, 2, .ro, .V, 0, .one⟩
/-- R110: First differing item: 0 to 63 coach word, 64 to 67 output command OUT0 to OUT3, 68 event increment, 127 lane timeout -/
def SUPV_LANE_LOG_ITEM : Fld := ⟨0x1802, 10, 7, .ro, .V, 0, .one⟩
/-- R110: Wheel tick, bits 31:0, of the last mismatch -/
def SUPV_LANE_TICK_TICK : Fld := ⟨0x1803, 0, 32, .ro, .V, 0, .one⟩
/-- R110: A single-bit error was corrected -/
def SUPV_STAT_CE : Fld := ⟨0x1804, 0, 1, .w1c, .V, 0, .one⟩
/-- R110: A double-bit error was found -/
def SUPV_STAT_DUE : Fld := ⟨0x1804, 1, 1, .w1c, .V, 0, .one⟩
/-- R110: The lanes disagreed -/
def SUPV_STAT_MISMATCH : Fld := ⟨0x1804, 2, 1, .w1c, .V, 0, .one⟩
/-- R110: A lane was retired -/
def SUPV_STAT_RETIRE : Fld := ⟨0x1804, 3, 1, .w1c, .V, 0, .one⟩
/-- R110: An evaluation had no majority -/
def SUPV_STAT_NO_MAJ : Fld := ⟨0x1804, 4, 1, .w1c, .V, 0, .one⟩
/-- R110: A command was refused twice -/
def SUPV_STAT_CMD_PATH : Fld := ⟨0x1804, 5, 1, .w1c, .V, 0, .one⟩
/-- R110: A cross-check disagreed -/
def SUPV_STAT_XCHK_DIS : Fld := ⟨0x1804, 6, 1, .w1c, .V, 0, .one⟩
/-- R110: A coach entered the plausibility condition -/
def SUPV_STAT_PLAUS : Fld := ⟨0x1804, 7, 1, .w1c, .V, 0, .one⟩
/-- R110: A cross-check was abandoned unserved, R87 -/
def SUPV_STAT_XCHK_SKIP : Fld := ⟨0x1804, 8, 1, .w1c, .V, 0, .one⟩
/-- R110: Last corrected word: coach -/
def SUPV_CE_ADDR_COACH : Fld := ⟨0x1805, 0, 8, .ro, .V, 0, .one⟩
/-- R110: Last corrected word: word -/
def SUPV_CE_ADDR_WORD : Fld := ⟨0x1805, 8, 6, .ro, .V, 0, .one⟩
/-- R110: Its syndrome -/
def SUPV_CE_ADDR_SYNDROME : Fld := ⟨0x1805, 16, 7, .ro, .V, 0, .one⟩
/-- R110: Last uncorrectable word: coach -/
def SUPV_DUE_ADDR_COACH : Fld := ⟨0x1806, 0, 8, .ro, .V, 0, .one⟩
/-- R110: Last uncorrectable word: word -/
def SUPV_DUE_ADDR_WORD : Fld := ⟨0x1806, 8, 6, .ro, .V, 0, .one⟩
/-- R110: Found by the scrubber -/
def SUPV_DUE_ADDR_BY_SCRUB : Fld := ⟨0x1806, 16, 1, .ro, .V, 0, .one⟩
/-- R110: Next word to scrub, 0 to 10 239 -/
def SUPV_SCRUB_POS : Fld := ⟨0x1807, 0, 14, .ro, .V, 0, .one⟩
/-- R110: Complete passes, saturating -/
def SUPV_SCRUB_PASSES : Fld := ⟨0x1807, 16, 16, .ro, .V, 0, .one⟩
/-- R110: 1 repairs the coach in COACH_SEL; reads 0 when done -/
def SUPV_REPAIR_GO : Fld := ⟨0x1808, 0, 1, .rwd, .V, 0, .one⟩
/-- R110: 0 none, 1 done, 2 refused (the coach is not shuttered for ECC), 3 refused (image unreadable) -/
def SUPV_REPAIR_RESULT : Fld := ⟨0x1808, 8, 2, .ro, .V, 0, .one⟩
/-- R110: Watchdog timeout, 10 ms to 1000 ms. Other values refuse the frame with RANGE. A write acts from the next kick, R107 -/
def SUPV_WDT_TIMEOUT : Fld := ⟨0x1809, 0, 16, .rwd, .I, 0, .one⟩
/-- R110: ms left before expiry -/
def SUPV_WDT_REMAIN : Fld := ⟨0x1809, 16, 16, .ro, .V, 0, .one⟩
/-- R110: Bits 7:0 V0 to V7, 11:8 D0 to D3, 14:12 fans 0 to 2, 20:15 BO0 to BO5 -/
def SUPV_CMD_PATH_MAP : Fld := ⟨0x180A, 0, 21, .w1c, .V, 0, .one⟩
/-- R110: Input of the last disagreeing cross-check -/
def SUPV_XCHK_INPUT : Fld := ⟨0x180B, 0, 6, .ro, .V, 0, .one⟩
/-- R110: Its coach -/
def SUPV_XCHK_COACH : Fld := ⟨0x180B, 8, 8, .ro, .V, 0, .one⟩
/-- R110: Difference, signed, in the LSB of the input's stored value after mode conversion, R87, saturating -/
def SUPV_XCHK_DIFF : Fld := ⟨0x180B, 16, 16, .ro, .V, 0, .one⟩
/-- R130: Current or last owner -/
def ARB_STATUS_OWNER : Fld := ⟨0x0800, 0, 4, .ro, .V, 0, .one⟩
/-- R130: The bus is held -/
def ARB_STATUS_BUSY : Fld := ⟨0x0800, 4, 1, .ro, .V, 0, .one⟩
/-- R130: A swap waits for the wrap -/
def ARB_STATUS_SWAP_PEND : Fld := ⟨0x0800, 5, 1, .ro, .V, 0, .one⟩
/-- R130: Seat pointer -/
def ARB_STATUS_POINTER : Fld := ⟨0x0800, 8, 6, .ro, .V, 0, .one⟩
/-- R130: Seats in the active plan, 0 to 64 -/
def ARB_STATUS_SEAT_COUNT : Fld := ⟨0x0800, 16, 7, .ro, .I, 0, .one⟩
/-- R130: 1 requests a swap at the next wrap. Reads 1 while pending -/
def ARB_SWAP_REQ : Fld := ⟨0x0801, 0, 1, .rwd, .V, 0, .one⟩
/-- R130: Seats in the shadow plan. Above 64, the frame is refused with RANGE -/
def ARB_SWAP_SHADOW_COUNT : Fld := ⟨0x0801, 16, 7, .rwd, .I, 0, .one⟩
/-- R130: Hold monitor limit in FABRIC cycles. 0: monitor off -/
def ARB_HOLD_HOLD_LIMIT : Fld := ⟨0x0802, 0, 16, .rw, .I, 0, .one⟩
/-- R130: Owner of the last carriage that passed HOLD_LIMIT -/
def ARB_HOLD_LOG_REQ : Fld := ⟨0x0803, 0, 4, .ro, .V, 0, .one⟩
/-- R130: Its length in cycles, saturating at 65 535 -/
def ARB_HOLD_LOG_LENGTH : Fld := ⟨0x0803, 16, 16, .ro, .V, 0, .one⟩
/-- R130: A carriage passed HOLD_LIMIT -/
def ARB_FLAGS_HOLD_LONG : Fld := ⟨0x0804, 0, 1, .w1c, .V, 0, .one⟩
/-- R130: A request was refused for rank order -/
def ARB_FLAGS_ORDER : Fld := ⟨0x0804, 1, 1, .w1c, .V, 0, .one⟩
/-- R130: A seat had a parity error -/
def ARB_FLAGS_SEAT_PAR : Fld := ⟨0x0804, 2, 1, .w1c, .V, 0, .one⟩
/-- R130: A pending queue entry had a parity error -/
def ARB_FLAGS_PEND_PAR : Fld := ⟨0x0804, 3, 1, .w1c, .V, 0, .one⟩
/-- R130: Requester of the last ORDER refusal. For ranks 2 and 3, its ID on the coach bus -/
def ARB_ORDER_LOG_REQ : Fld := ⟨0x0805, 0, 4, .ro, .V, 0, .one⟩
/-- R130: Ranks held: bit 4 rank 1, bit 5 rank 2, bit 6 rank 3 -/
def ARB_ORDER_LOG_HELD : Fld := ⟨0x0805, 4, 3, .ro, .V, 0, .one⟩
/-- R130: Rank asked for, 1 to 3 -/
def ARB_ORDER_LOG_ASKED : Fld := ⟨0x0805, 8, 2, .ro, .V, 0, .one⟩
/-- R130: Last background winner -/
def ARB_LAST_BG_ID : Fld := ⟨0x0807, 0, 4, .ro, .V, 15, .one⟩
/-- R130: Requester whose wait ARB_WMAX reports -/
def ARB_WSEL_SEL : Fld := ⟨0x0808, 0, 4, .rw, .V, 0, .one⟩
/-- R130: 1 clears the recorded maximum of the selected requester -/
def ARB_WSEL_CLR : Fld := ⟨0x0808, 8, 1, .wo, .V, 0, .one⟩
/-- R130: Active plan. Bits 8k + 7 to 8k of ARB_ACTn hold seat 4n + k, coded as in R119 -/
def ARB_ACT_SEATS : Fld := ⟨0x0840, 0, 32, .ro, .I, 0, (.arr 16 1)⟩
/-- R130: Shadow plan, laid out as ARB_ACTn. A seat with FREE 0 and OWNER 15 refuses the frame with RANGE -/
def ARB_SHD_SEATS : Fld := ⟨0x0860, 0, 32, .rwd, .I, 0, (.arr 16 1)⟩
/-- R163: REFIN in 0.1 mV, 20 480 to 25 000. Other values refuse the frame with RANGE -/
def CONV_VREF_VREF : Fld := ⟨0x2001, 0, 16, .rw, .I, 0, .one⟩
/-- R163: Bit n: owner of input n; 0 A, 1 B. R147 -/
def CONV_OWN_LO_OWN : Fld := ⟨0x2002, 0, 32, .rw, .I, 0, .one⟩
/-- R163: Bit n: owner of input 32 + n -/
def CONV_OWN_HI_OWN : Fld := ⟨0x2003, 0, 32, .rw, .I, 0, .one⟩
/-- R163: Thermal block requests are privileged -/
def CONV_PRIV_THERM : Fld := ⟨0x2004, 0, 1, .rw, .I, 0, .one⟩
/-- R163: Supervision cross-checks are privileged -/
def CONV_PRIV_SUPV : Fld := ⟨0x2004, 1, 1, .rw, .I, 0, .one⟩
/-- R163: Calibration sequencer requests are privileged -/
def CONV_PRIV_CAL : Fld := ⟨0x2004, 2, 1, .rw, .I, 0, .one⟩
/-- R163: Bit n: converter n lost a result -/
def CONV_FLAGS_OVR : Fld := ⟨0x2005, 0, 3, .w1c, .V, 0, .one⟩
/-- R163: A non-privileged urgent request was dropped -/
def CONV_FLAGS_DROP : Fld := ⟨0x2005, 3, 1, .w1c, .V, 0, .one⟩
/-- R163: A result was stored with REASON CLIP -/
def CONV_FLAGS_CLIP : Fld := ⟨0x2005, 4, 1, .w1c, .V, 0, .one⟩
/-- R163: Input of the host's urgent request -/
def CONV_URG_INPUT : Fld := ⟨0x2006, 0, 6, .rw, .V, 0, .one⟩
/-- R163: 0 owner, 1 A, 2 B, 3 C -/
def CONV_URG_CONV : Fld := ⟨0x2006, 8, 2, .rw, .V, 0, .one⟩
/-- R163: 1 issues the request; clears DONE and DROPPED -/
def CONV_URG_GO : Fld := ⟨0x2006, 15, 1, .wo, .V, 0, .one⟩
/-- R163: Result in CONV_URG_RES -/
def CONV_URG_DONE : Fld := ⟨0x2006, 16, 1, .ro, .V, 0, .one⟩
/-- R163: Dropped under R159 -/
def CONV_URG_DROPPED : Fld := ⟨0x2006, 17, 1, .ro, .V, 0, .one⟩
/-- R163: Converter that served it: 0 A, 1 B, 2 C -/
def CONV_URG_BY : Fld := ⟨0x2006, 18, 2, .ro, .V, 0, .one⟩
/-- R163: Raw code, signed -/
def CONV_URG_RES_RAW : Fld := ⟨0x2007, 0, 16, .ro, .V, 0, .one⟩
/-- R163: Code after OFFSET and GAIN, signed -/
def CONV_URG_RES_CORR : Fld := ⟨0x2007, 16, 16, .ro, .V, 0, .one⟩
/-- R163: Raw code, signed -/
def CONV_DATA_VALUE : Fld := ⟨0x2010, 0, 16, .ro, .V, 0, (.arr 3 16)⟩
/-- R163: Input number -/
def CONV_DATA_INPUT : Fld := ⟨0x2010, 16, 6, .ro, .V, 0, (.arr 3 16)⟩
/-- R163: 1 unless marked -/
def CONV_DATA_VALID : Fld := ⟨0x2010, 22, 1, .ro, .V, 0, (.arr 3 16)⟩
/-- R163: 0 NONE, 1 SETTLE or 2 CLIP -/
def CONV_DATA_REASON : Fld := ⟨0x2010, 23, 3, .ro, .V, 0, (.arr 3 16)⟩
/-- R163: The previous result was lost -/
def CONV_DATA_OVR : Fld := ⟨0x2010, 26, 1, .ro, .V, 0, (.arr 3 16)⟩
/-- R163: Not yet taken by the acknowledging reader -/
def CONV_DATA_NEW : Fld := ⟨0x2010, 27, 1, .ro, .V, 0, (.arr 3 16)⟩
/-- R163: Bit n: input n in the scan. R147 -/
def CONV_SCAN_LO_MASK : Fld := ⟨0x2011, 0, 32, .rw, .I, 0, (.arr 3 16)⟩
/-- R163: Bit n: input 32 + n in the scan -/
def CONV_SCAN_HI_MASK : Fld := ⟨0x2012, 0, 32, .rw, .I, 0, (.arr 3 16)⟩
/-- R164: Selected input. Above 63 refuses the frame with RANGE -/
def UI_SEL_SEL : Fld := ⟨0x2400, 0, 8, .rw, .V, 0, .one⟩
/-- R164: R133. Inputs 40 to 63 read 15 -/
def UI_CFG_MODE : Fld := ⟨0x2401, 0, 4, .rw, .I, 0, (.win 64 0x2400)⟩
/-- R164: Invert the comparator sense, R138 -/
def UI_CFG_INV : Fld := ⟨0x2401, 4, 1, .rw, .I, 0, (.win 64 0x2400)⟩
/-- R164: UI_SCALE and its result are signed, R137 -/
def UI_CFG_SSIGN : Fld := ⟨0x2401, 5, 1, .rw, .I, 0, (.win 64 0x2400)⟩
/-- R164: 0 to 4 for ×1, ×4, ×16, ×64, ×256 -/
def UI_FILT_OSR : Fld := ⟨0x2402, 0, 3, .rw, .I, 0, (.win 64 0x2400)⟩
/-- R164: 0 off, 1 to 15, R155 -/
def UI_FILT_IIR_SHIFT : Fld := ⟨0x2402, 4, 4, .rw, .I, 0, (.win 64 0x2400)⟩
/-- R164: 0 off, 1 20 ms, 2 16.67 ms -/
def UI_FILT_LR : Fld := ⟨0x2402, 8, 2, .rw, .I, 0, (.win 64 0x2400)⟩
/-- R164: ms, 0 to 255, R148. For inputs 54 to 61, above 16 refuses the frame with RANGE -/
def UI_FILT_PACE : Fld := ⟨0x2402, 16, 8, .rw, .I, 0, (.win 64 0x2400)⟩
/-- R164: Signed raw LSB, R153 -/
def UI_OFFSET_OFFSET : Fld := ⟨0x2403, 0, 16, .rw, .V, 0, (.win 64 0x2400)⟩
/-- R164: Q2.14, R153 -/
def UI_GAIN_GAIN : Fld := ⟨0x2404, 0, 16, .rw, .V, 16384, (.win 64 0x2400)⟩
/-- R164: Kelvin, 2000 to 6000 in NTC modes. Other values in an NTC mode refuse the frame with RANGE -/
def UI_LIN_BETA : Fld := ⟨0x2405, 0, 16, .rw, .I, 0, (.win 64 0x2400)⟩
/-- R164: Value at n = 0, R137 -/
def UI_SCALE_LO : Fld := ⟨0x2406, 0, 16, .rw, .I, 0, (.win 64 0x2400)⟩
/-- R164: Value at n = 65 535 -/
def UI_SCALE_HI : Fld := ⟨0x2406, 16, 16, .rw, .I, 0, (.win 64 0x2400)⟩
/-- R164: Stored result -/
def UI_VALUE_VALUE : Fld := ⟨0x2407, 0, 16, .ro, .V, 0, (.win 64 0x2400)⟩
/-- R164: R156 -/
def UI_VALUE_VALID : Fld := ⟨0x2407, 16, 1, .ro, .V, 0, (.win 64 0x2400)⟩
/-- R164: R156 -/
def UI_VALUE_REASON : Fld := ⟨0x2407, 17, 3, .ro, .V, 6, (.win 64 0x2400)⟩
/-- R164: 0 A, 1 B, 2 C, 3 UI logic -/
def UI_VALUE_SRC : Fld := ⟨0x2407, 20, 2, .ro, .V, 0, (.win 64 0x2400)⟩
/-- R164: ms since stored, or since the end of BOOT before the first result, R152, R162 -/
def UI_AGE_AGE : Fld := ⟨0x2408, 0, 24, .ro, .V, 0, (.win 64 0x2400)⟩
/-- R164: Last OSR average before correction -/
def UI_RAW_RAW : Fld := ⟨0x2409, 0, 16, .ro, .V, 0, (.win 64 0x2400)⟩
/-- R164: Totaliser. A write presets it -/
def UI_PULSE_COUNT : Fld := ⟨0x240A, 0, 32, .rw, .H, 0, (.win 64 0x2400)⟩
/-- R164: Entries still to be marked, R157 -/
def UI_STAT_SETTLE_LEFT : Fld := ⟨0x240B, 0, 2, .ro, .V, 0, (.win 64 0x2400)⟩
/-- R164: First line-rejection window running -/
def UI_STAT_LR_FILL : Fld := ⟨0x240B, 2, 1, .ro, .V, 0, (.win 64 0x2400)⟩
/-- R164: Filter reloads at the next emit -/
def UI_STAT_RELOAD : Fld := ⟨0x240B, 3, 1, .ro, .V, 1, (.win 64 0x2400)⟩
/-- R164: Zones this channel serves, R142 -/
def OCC_CFG_ZONES : Fld := ⟨0x2420, 0, 16, .rw, .I, 0, (.arr 4 1)⟩
/-- R164: Threshold factor, Q4.4 -/
def OCC_CFG_KTH : Fld := ⟨0x2420, 16, 8, .rw, .I, 0, (.arr 4 1)⟩
/-- R164: Samples above threshold, 1 to 7; 0 channel off -/
def OCC_CFG_PERSIST : Fld := ⟨0x2420, 24, 3, .rw, .I, 0, (.arr 4 1)⟩
/-- R164: Seconds occupied after a detection -/
def OCC_TIME_HOLD : Fld := ⟨0x2424, 0, 16, .rw, .I, 0, (.arr 4 1)⟩
/-- R164: Noise floor shift, 1 to 15 -/
def OCC_TIME_NF_SHIFT : Fld := ⟨0x2424, 16, 4, .rw, .I, 0, (.arr 4 1)⟩
/-- R164: Lowest floor used, corrected LSB -/
def OCC_TIME_FLOOR_MIN : Fld := ⟨0x2424, 20, 12, .rw, .I, 0, (.arr 4 1)⟩
/-- R164: Bit n: channel n detecting -/
def OCC_STAT_DET : Fld := ⟨0x2428, 0, 4, .ro, .V, 0, .one⟩
/-- R164: Bit n: channel n occupied -/
def OCC_STAT_CH_OCC : Fld := ⟨0x2428, 4, 4, .ro, .V, 15, .one⟩
/-- R164: Bit z: zone z occupied, after OCC_FORCE -/
def OCC_ZONE_OCC : Fld := ⟨0x2429, 0, 16, .ro, .V, 65535, .one⟩
/-- R164: Bits 2z + 1 to 2z: zone z. 3 refuses the frame with RANGE -/
def OCC_FORCE_FORCE : Fld := ⟨0x242A, 0, 32, .rw, .V, 0, .one⟩
/-- R164: Noise floor of channel n -/
def OCC_FLOOR_FLOOR : Fld := ⟨0x242C, 0, 16, .ro, .V, 0, (.arr 4 1)⟩
/-- R164: Sensor master on -/
def SNS_CTRL_EN : Fld := ⟨0x2430, 0, 1, .rw, .I, 0, .one⟩
/-- R164: 0 100 kHz, 1 400 kHz -/
def SNS_CTRL_FAST : Fld := ⟨0x2430, 1, 1, .rw, .I, 0, .one⟩
/-- R164: Entries in the list, 0 to 32; 0 polling off -/
def SNS_CTRL_COUNT : Fld := ⟨0x2430, 8, 6, .rw, .I, 0, .one⟩
/-- R164: CRC-8 polynomial, with x⁸ implied, R144 -/
def SNS_CTRL_CRC_POLY : Fld := ⟨0x2430, 16, 8, .rw, .I, 0, .one⟩
/-- R164: CRC-8 initial value, R144 -/
def SNS_CTRL_CRC_INIT : Fld := ⟨0x2430, 24, 8, .rw, .I, 0, .one⟩
/-- R164: A transaction is running -/
def SNS_STAT_BUSY : Fld := ⟨0x2431, 0, 1, .ro, .V, 0, .one⟩
/-- R164: Entry of the current or last transaction -/
def SNS_STAT_ENTRY : Fld := ⟨0x2431, 8, 5, .ro, .V, 0, .one⟩
/-- R164: A poll failed on NACK -/
def SNS_STAT_NACK : Fld := ⟨0x2431, 16, 1, .w1c, .V, 0, .one⟩
/-- R164: A poll failed on CRC -/
def SNS_STAT_CRC : Fld := ⟨0x2431, 17, 1, .w1c, .V, 0, .one⟩
/-- R164: A stretch timeout forced recovery -/
def SNS_STAT_STRETCH : Fld := ⟨0x2431, 18, 1, .w1c, .V, 0, .one⟩
/-- R164: An entry became invalid -/
def SNS_STAT_INVALID : Fld := ⟨0x2431, 19, 1, .w1c, .V, 0, .one⟩
/-- R164: 7-bit target address -/
def SNS_ENT_ADDR : Fld := ⟨0x2440, 0, 7, .rw, .I, 0, (.arr 32 1)⟩
/-- R164: 0 to 2 command bytes; 3 refuses the frame with RANGE -/
def SNS_ENT_CMD_LEN : Fld := ⟨0x2440, 8, 2, .rw, .I, 0, (.arr 32 1)⟩
/-- R164: 0 unsigned, 1 signed, 2 unsigned with CRC, 3 signed with CRC -/
def SNS_ENT_FMT : Fld := ⟨0x2440, 10, 2, .rw, .I, 0, (.arr 32 1)⟩
/-- R164: Scaling shift, 0 to 31 -/
def SNS_ENT_SHIFT : Fld := ⟨0x2440, 12, 5, .rw, .I, 0, (.arr 32 1)⟩
/-- R164: ms between command and read -/
def SNS_ENT_WAIT : Fld := ⟨0x2440, 19, 5, .rw, .I, 0, (.arr 32 1)⟩
/-- R164: Poll interval in 100 ms; 0 skips the entry -/
def SNS_ENT_PERIOD : Fld := ⟨0x2440, 24, 8, .rw, .I, 0, (.arr 32 1)⟩
/-- R164: Command bytes, bits 15:8 sent first -/
def SNS_CMD_CMD : Fld := ⟨0x2460, 0, 16, .rw, .I, 0, (.arr 32 1)⟩
/-- R164: Signed scaling gain -/
def SNS_SCL_GAIN : Fld := ⟨0x2480, 0, 16, .rw, .I, 0, (.arr 32 1)⟩
/-- R164: Signed offset in the output unit -/
def SNS_SCL_OFFSET : Fld := ⟨0x2480, 16, 16, .rw, .I, 0, (.arr 32 1)⟩
/-- R164: Scaled value -/
def SNS_VAL_VALUE : Fld := ⟨0x24A0, 0, 16, .ro, .V, 0, (.arr 32 1)⟩
/-- R164: R145 -/
def SNS_VAL_VALID : Fld := ⟨0x24A0, 16, 1, .ro, .V, 0, (.arr 32 1)⟩
/-- R164: R156 -/
def SNS_VAL_REASON : Fld := ⟨0x24A0, 17, 3, .ro, .V, 6, (.arr 32 1)⟩
/-- R164: Consecutive failed polls, saturating at 15 -/
def SNS_VAL_FAILS : Fld := ⟨0x24A0, 20, 4, .ro, .V, 0, (.arr 32 1)⟩
/-- R164: ms since the last successful poll, or since the end of BOOT before the first, R162 -/
def SNS_AGE_AGE : Fld := ⟨0x24C0, 0, 24, .ro, .V, 0, (.arr 32 1)⟩
/-- R189: Periodic and TS1-triggered self-calibration on -/
def CAL_CTRL_AUTO_EN : Fld := ⟨0x2800, 0, 1, .rw, .I, 0, .one⟩
/-- R189: Bit n: converter n (A, B, C) due at once, R172 -/
def CAL_CTRL_REQ : Fld := ⟨0x2800, 4, 3, .wo, .V, 0, .one⟩
/-- R189: Trims traced to VREF_INT, R183 -/
def CAL_STAT_CAL_UNTRACED : Fld := ⟨0x2801, 12, 1, .ro, .V, 0, .one⟩
/-- R189: REFIN below 1.0 V -/
def CAL_STAT_REF_LOW : Fld := ⟨0x2801, 13, 1, .ro, .V, 0, .one⟩
/-- R189: C cannot relieve, R182 -/
def CAL_STAT_NO_RELIEF : Fld := ⟨0x2801, 14, 1, .ro, .V, 0, .one⟩
/-- R189: A scan has no converter -/
def CAL_STAT_UNSERVED : Fld := ⟨0x2801, 15, 1, .ro, .V, 0, .one⟩
/-- R189: Bit n: a calibration of converter n failed -/
def CAL_FLAGS_CAL_FAIL : Fld := ⟨0x2802, 0, 3, .w1c, .V, 0, .one⟩
/-- R189: Bit 3 A, bit 4 B replaced -/
def CAL_FLAGS_REPLACED : Fld := ⟨0x2802, 3, 2, .w1c, .V, 0, .one⟩
/-- R189: C failed a health check -/
def CAL_FLAGS_C_FAILED : Fld := ⟨0x2802, 5, 1, .w1c, .V, 0, .one⟩
/-- R189: A converter failed a health check -/
def CAL_FLAGS_SUSPECT : Fld := ⟨0x2802, 6, 1, .w1c, .V, 0, .one⟩
/-- R189: A boot trim set failed -/
def CAL_FLAGS_BOOT_FAIL : Fld := ⟨0x2802, 7, 1, .w1c, .V, 0, .one⟩
/-- R189: A system calibration failed -/
def CAL_FLAGS_SYS_FAIL : Fld := ⟨0x2802, 8, 1, .w1c, .V, 0, .one⟩
/-- R189: 0 A, 1 B, 2 C, 3 to 10 V0 to V7, 11 fan. Above 11 refuses the frame with RANGE -/
def CAL_SEL_SEL : Fld := ⟨0x2804, 0, 4, .rw, .V, 0, .one⟩
/-- R189: Converters: W8 to W12, 6 bits each, W8 in bits 5:0. Valves: PEAK in 5:0, HOLD in 13:8. Fan: OFFSET in 5:0 -/
def CAL_TRIM_LO_TAPS : Fld := ⟨0x2805, 0, 30, .rw, .V, 0, (.win 12 0x2804)⟩
/-- R189: Converters: W13 to W15 in bits 17:0, COMP in 23:18. Reserved for other sets -/
def CAL_TRIM_HI_TAPS : Fld := ⟨0x2806, 0, 24, .rw, .V, 0, (.win 12 0x2804)⟩
/-- R189: Last attempt: 0 none, 1 pass, 2 fail, 3 abandoned -/
def CAL_INFO_RESULT : Fld := ⟨0x2807, 0, 2, .ro, .V, 0, (.win 12 0x2804)⟩
/-- R189: Consecutive failures, saturating at 15 -/
def CAL_INFO_FAILS : Fld := ⟨0x2807, 4, 4, .ro, .V, 0, (.win 12 0x2804)⟩
/-- R189: Largest difference between runs, taps, saturating -/
def CAL_INFO_SPREAD : Fld := ⟨0x2807, 8, 4, .ro, .V, 0, (.win 12 0x2804)⟩
/-- R189: 0 none, 1 TAP, 2 REPEAT, 3 END, 4 abandoned -/
def CAL_INFO_REASON : Fld := ⟨0x2807, 12, 3, .ro, .V, 0, (.win 12 0x2804)⟩
/-- R189: TS1 at the last pass, 1/128 °C -/
def CAL_INFO_TEMP : Fld := ⟨0x2807, 16, 16, .ro, .V, 0, (.win 12 0x2804)⟩
/-- R189: Input to calibrate, 0 to 39 -/
def CAL_SYS_CMD_INPUT : Fld := ⟨0x2810, 0, 6, .rw, .V, 0, .one⟩
/-- R189: 1 zero, 2 full scale; 0 and 3 refuse the frame with RANGE -/
def CAL_SYS_CMD_POINT : Fld := ⟨0x2810, 8, 2, .rw, .V, 0, .one⟩
/-- R189: 1 ends the running point -/
def CAL_SYS_CMD_ABORT : Fld := ⟨0x2810, 14, 1, .wo, .V, 0, .one⟩
/-- R189: 1 starts the point -/
def CAL_SYS_CMD_GO : Fld := ⟨0x2810, 15, 1, .wo, .V, 0, .one⟩
/-- R189: A point is being averaged -/
def CAL_SYS_STAT_BUSY : Fld := ⟨0x2811, 0, 1, .ro, .V, 0, .one⟩
/-- R189: Averages taken in the running point, saturating at 255 -/
def CAL_SYS_STAT_COUNT : Fld := ⟨0x2811, 4, 8, .ro, .V, 0, .one⟩
/-- R189: 0 none, 1 point done, 2 pass, 3 span too small, 4 GAIN out of range, 5 OFFSET out of range, 6 clipped, 7 refused (mode), 8 refused (input mode), 9 refused (busy), 10 aborted -/
def CAL_SYS_STAT_RESULT : Fld := ⟨0x2811, 16, 4, .ro, .V, 0, .one⟩
/-- R189: Target corrected code at zero, signed -/
def CAL_SYS_T_T0 : Fld := ⟨0x2812, 0, 16, .rw, .V, 0, .one⟩
/-- R189: Target corrected code at full scale, signed -/
def CAL_SYS_T_T1 : Fld := ⟨0x2812, 16, 16, .rw, .V, 0, .one⟩
/-- R189: Zero average, signed, 1/256 LSB -/
def CAL_SYS_M0_M0 : Fld := ⟨0x2813, 0, 24, .ro, .V, 0, .one⟩
/-- R189: Full-scale average, signed, 1/256 LSB -/
def CAL_SYS_M1_M1 : Fld := ⟨0x2814, 0, 24, .ro, .V, 0, .one⟩
/-- R189: OFFSET computed by the last POINT 2 -/
def CAL_SYS_NEW_OFFSET : Fld := ⟨0x2815, 0, 16, .ro, .V, 0, .one⟩
/-- R189: GAIN computed by the last POINT 2 -/
def CAL_SYS_NEW_GAIN : Fld := ⟨0x2815, 16, 16, .ro, .V, 0, .one⟩
/-- R214: Channel 0 enabled -/
def FAN_CTRL_EN : Fld := ⟨0x3000, 0, 1, .rw, .I, 0, .one⟩
/-- R214: 0 20 kHz, 1 40 kHz -/
def FAN_CTRL_PWM_40K : Fld := ⟨0x3000, 1, 1, .rw, .I, 0, .one⟩
/-- R214: 0 A-B-C rotation, 1 A-C-B -/
def FAN_CTRL_DIR : Fld := ⟨0x3000, 2, 1, .rw, .I, 0, .one⟩
/-- R214: Listen for a turning rotor before aligning -/
def FAN_CTRL_CATCH_EN : Fld := ⟨0x3000, 3, 1, .rw, .I, 0, .one⟩
/-- R214: State, coded as in the table below -/
def FAN_STATE_STATE : Fld := ⟨0x3001, 0, 4, .ro, .H, 1, .one⟩
/-- R214: Current start attempt, 0 to 3 -/
def FAN_STATE_ATTEMPT : Fld := ⟨0x3001, 4, 2, .ro, .H, 0, .one⟩
/-- R214: R203 -/
def FAN_STATE_STALL_CNT : Fld := ⟨0x3001, 8, 4, .ro, .H, 0, .one⟩
/-- R214: 0 none, 1 STALL, 2 OPEN_PHASE, 3 OC -/
def FAN_STATE_LOCK_CAUSE : Fld := ⟨0x3001, 12, 3, .ro, .H, 0, .one⟩
/-- R214: D, rpm -/
def FAN_DEMAND_DEMAND : Fld := ⟨0x3002, 0, 16, .ro, .V, 0, .one⟩
/-- R214: Speed reference or field speed, rpm -/
def FAN_DEMAND_REF : Fld := ⟨0x3002, 16, 16, .ro, .V, 0, .one⟩
/-- R214: Observed speed, rpm -/
def FAN_MEAS_SPEED : Fld := ⟨0x3003, 0, 16, .ro, .V, 0, .one⟩
/-- R214: q-axis current, signed mA -/
def FAN_MEAS_IQ : Fld := ⟨0x3003, 16, 16, .ro, .V, 0, .one⟩
/-- R214: Pole pairs, 1 to 8 -/
def FAN_MOTOR_POLES : Fld := ⟨0x3004, 0, 4, .rw, .I, 0, .one⟩
/-- R214: Peak line-to-line back-EMF, mV per 1000 rpm -/
def FAN_MOTOR_KE : Fld := ⟨0x3004, 16, 16, .rw, .I, 0, .one⟩
/-- R214: Phase resistance, mΩ -/
def FAN_RL_RS : Fld := ⟨0x3005, 0, 16, .rw, .I, 0, .one⟩
/-- R214: Phase inductance, µH -/
def FAN_RL_LS : Fld := ⟨0x3005, 16, 16, .rw, .I, 0, .one⟩
/-- R214: mA -/
def FAN_START_I_ALIGN : Fld := ⟨0x3006, 0, 16, .rw, .I, 0, .one⟩
/-- R214: mA -/
def FAN_START_I_START : Fld := ⟨0x3006, 16, 16, .rw, .I, 0, .one⟩
/-- R214: 100 to 1500 -/
def FAN_RAMP_RAMP_MS : Fld := ⟨0x3007, 0, 16, .rw, .I, 0, .one⟩
/-- R214: rpm -/
def FAN_RAMP_HANDOVER_RPM : Fld := ⟨0x3007, 16, 16, .rw, .I, 0, .one⟩
/-- R214: rpm -/
def FAN_SPD_LIM_MIN_RPM : Fld := ⟨0x3008, 0, 16, .rw, .I, 0, .one⟩
/-- R214: rpm -/
def FAN_SPD_LIM_MAX_RPM : Fld := ⟨0x3008, 16, 16, .rw, .I, 0, .one⟩
/-- R214: rpm/s, 1 to 65 535 -/
def FAN_ACCEL_ACCEL : Fld := ⟨0x3009, 0, 16, .rw, .I, 0, .one⟩
/-- R214: rpm/s, 1 to 65 535 -/
def FAN_ACCEL_DECEL : Fld := ⟨0x3009, 16, 16, .rw, .I, 0, .one⟩
/-- R214: mA -/
def FAN_ILIM_I_LIMIT : Fld := ⟨0x300A, 0, 16, .rw, .I, 0, .one⟩
/-- R214: mA, above I_LIMIT -/
def FAN_ILIM_OC_TRIP : Fld := ⟨0x300A, 16, 16, .rw, .I, 0, .one⟩
/-- R214: % of I_LIMIT at levels 1 to 3, 8 bits each from bit 0, 1 to 100 -/
def FAN_THR_THR1 : Fld := ⟨0x300B, 0, 8, .rw, .I, 0, .one⟩
/-- R214: % of I_LIMIT at levels 1 to 3, 8 bits each from bit 0, 1 to 100 -/
def FAN_THR_THR2 : Fld := ⟨0x300B, 8, 8, .rw, .I, 0, .one⟩
/-- R214: % of I_LIMIT at levels 1 to 3, 8 bits each from bit 0, 1 to 100 -/
def FAN_THR_THR3 : Fld := ⟨0x300B, 16, 8, .rw, .I, 0, .one⟩
/-- R214: Q8.8, mA per rpm -/
def FAN_SPD_PI_KP : Fld := ⟨0x300C, 0, 16, .rw, .I, 0, .one⟩
/-- R214: Q8.8, mA per rpm per second -/
def FAN_SPD_PI_KI : Fld := ⟨0x300C, 16, 16, .rw, .I, 0, .one⟩
/-- R214: × 10 ns, 5 to 160 -/
def FAN_PWM_DEAD : Fld := ⟨0x300D, 0, 8, .rw, .I, 0, .one⟩
/-- R214: × 50 ns, 20 to 80 -/
def FAN_PWM_TMIN : Fld := ⟨0x300D, 8, 8, .rw, .I, 0, .one⟩
/-- R214: 0 ×5, 1 ×10, 2 ×20, 3 ×40 -/
def FAN_PWM_ISNS_GAIN : Fld := ⟨0x300D, 16, 2, .rw, .I, 0, .one⟩
/-- R214: mΩ, 1 to 255 -/
def FAN_PWM_RSHUNT : Fld := ⟨0x300D, 24, 8, .rw, .I, 0, .one⟩
/-- R214: Bit n: leave LOCKED on channel n -/
def FAN_CMD_UNLOCK : Fld := ⟨0x3010, 0, 3, .wo, .V, 0, .one⟩
/-- R214: R204 -/
def FAN_COMMON_HEATER_BLOCK : Fld := ⟨0x3011, 0, 1, .ro, .H, 0, .one⟩
/-- R214: Bit 4 + n: channel n on its autonomous table -/
def FAN_COMMON_SRC : Fld := ⟨0x3011, 4, 3, .ro, .H, 0, .one⟩
/-- R214: Last command with SRC 0 to channel n, applied or not, rpm; 0 before the first, R192 -/
def FAN_CDEM_DEMAND : Fld := ⟨0x3012, 0, 16, .ro, .V, 0, (.arr 3 1)⟩
/-- R214: Bit 0 START_FAIL, 1 STALL, 2 LOCK, 3 OPEN_PHASE, 4 OC, 5 VDRV_UV, 6 BST_UV, 7 SYNC_LOSS, 8 CUT, 9 and 10 TACH_LOST on channels 1 and 2, 11 and 12 KICK on channels 1 and 2, 13 AUTO_FAILSAFE -/
def FAN_FLAGS_FLAGS : Fld := ⟨0x3015, 0, 14, .w1c, .V, 0, .one⟩
/-- R214: Bits 0 to 3: enabled, tachometer used, open-drain, inverted -/
def FANT_CTRL_EN : Fld := ⟨0x3020, 0, 1, .rw, .I, 0, (.arr 2 16)⟩
/-- R214: Bits 0 to 3: enabled, tachometer used, open-drain, inverted -/
def FANT_CTRL_TACH_EN : Fld := ⟨0x3020, 1, 1, .rw, .I, 0, (.arr 2 16)⟩
/-- R214: Bits 0 to 3: enabled, tachometer used, open-drain, inverted -/
def FANT_CTRL_OD : Fld := ⟨0x3020, 2, 1, .rw, .I, 0, (.arr 2 16)⟩
/-- R214: Bits 0 to 3: enabled, tachometer used, open-drain, inverted -/
def FANT_CTRL_INV : Fld := ⟨0x3020, 3, 1, .rw, .I, 0, (.arr 2 16)⟩
/-- R214: State, coded as in the table below -/
def FANT_STATE_STATE : Fld := ⟨0x3021, 0, 4, .ro, .H, 1, (.arr 2 16)⟩
/-- R214: R203 -/
def FANT_STATE_STALL_CNT : Fld := ⟨0x3021, 8, 4, .ro, .H, 0, (.arr 2 16)⟩
/-- R214: R209 -/
def FANT_STATE_TACH_LOST : Fld := ⟨0x3021, 12, 1, .ro, .H, 0, (.arr 2 16)⟩
/-- R214: Consecutive plausible edges, 0 to 5 -/
def FANT_STATE_PLAUS_RUN : Fld := ⟨0x3021, 13, 3, .ro, .V, 0, (.arr 2 16)⟩
/-- R214: R205, rpm -/
def FANT_MEAS_SPEED : Fld := ⟨0x3022, 0, 16, .ro, .V, 0, (.arr 2 16)⟩
/-- R214: Duty driven -/
def FANT_MEAS_DUTY : Fld := ⟨0x3022, 16, 16, .ro, .V, 0, (.arr 2 16)⟩
/-- R214: Upper plausible speed, rpm -/
def FANT_LIM_MAX_RPM : Fld := ⟨0x3023, 0, 16, .rw, .I, 0, (.arr 2 16)⟩
/-- R214: 19 661 to 65 535 -/
def FANT_LIM_START_DUTY : Fld := ⟨0x3023, 16, 16, .rw, .I, 0, (.arr 2 16)⟩
/-- R214: Q8.8, duty LSB per rpm -/
def FANT_PI_KP : Fld := ⟨0x3024, 0, 16, .rw, .I, 0, (.arr 2 16)⟩
/-- R214: Q8.8, duty LSB per rpm per second -/
def FANT_PI_KI : Fld := ⟨0x3024, 16, 16, .rw, .I, 0, (.arr 2 16)⟩
/-- R214: D, rpm -/
def FANT_DEMAND_DEMAND : Fld := ⟨0x3025, 0, 16, .ro, .V, 0, (.arr 2 16)⟩
/-- R214: RPM in bits 15:0, strictly ascending; DUTY in bits 31:16 -/
def FANT_SD_RPM : Fld := ⟨0x3028, 0, 16, .rw, .I, 0, (.arr2 2 16 8)⟩
/-- R214: RPM in bits 15:0, strictly ascending; DUTY in bits 31:16 -/
def FANT_SD_DUTY : Fld := ⟨0x3028, 16, 16, .rw, .I, 0, (.arr2 2 16 8)⟩
/-- R214: Follow the table in AUTONOMOUS -/
def FANA_CFG_EN : Fld := ⟨0x3040, 0, 1, .rw, .I, 0, (.arr 3 16)⟩
/-- R214: Designated coach, 0 to 159 -/
def FANA_CFG_COACH : Fld := ⟨0x3040, 8, 8, .rw, .I, 0, (.arr 3 16)⟩
/-- R214: Speed when the coach is unusable, R210 -/
def FANA_CFG_FAIL_RPM : Fld := ⟨0x3040, 16, 16, .rw, .I, 0, (.arr 3 16)⟩
/-- R214: TEMP in bits 15:0, signed 1/128 °C, strictly ascending; RPM in bits 31:16 -/
def FANA_PT_TEMP : Fld := ⟨0x3048, 0, 16, .rw, .I, 0, (.arr2 3 16 8)⟩
/-- R214: TEMP in bits 15:0, signed 1/128 °C, strictly ascending; RPM in bits 31:16 -/
def FANA_PT_RPM : Fld := ⟨0x3048, 16, 16, .rw, .I, 0, (.arr2 3 16 8)⟩
/-- R248: Selected channel. Above 7 refuses the frame with RANGE -/
def VLV_SEL_SEL : Fld := ⟨0x3400, 0, 8, .rw, .V, 0, .one⟩
/-- R248: 0 disabled, 1 ON_OFF, 2 PULSED, 3 THERMAL -/
def VLV_CFG_MODE : Fld := ⟨0x3401, 0, 2, .rw, .I, 0, (.win 8 0x3400)⟩
/-- R248: Coil fed from the high-side switch, R217 -/
def VLV_CFG_HS_USE : Fld := ⟨0x3401, 2, 1, .rw, .I, 0, (.win 8 0x3400)⟩
/-- R248: Include in the off-state test, R229 -/
def VLV_CFG_DIAG_OFF : Fld := ⟨0x3401, 3, 1, .rw, .I, 0, (.win 8 0x3400)⟩
/-- R248: Coil-temperature input number, R222 -/
def VLV_CFG_COIL_IN : Fld := ⟨0x3401, 8, 6, .rw, .I, 0, (.win 8 0x3400)⟩
/-- R248: Use COIL_IN for the band -/
def VLV_CFG_COIL_EN : Fld := ⟨0x3401, 14, 1, .rw, .I, 0, (.win 8 0x3400)⟩
/-- R248: Band 0 to 2 peak current, mA, 0 to 1500 -/
def VLV_PEAK0_I_PEAK : Fld := ⟨0x3402, 0, 16, .rw, .I, 0, (.win 8 0x3400)⟩
/-- R248: Band 0 to 2 peak current, mA, 0 to 1500 -/
def VLV_PEAK1_I_PEAK : Fld := ⟨0x3403, 0, 16, .rw, .I, 0, (.win 8 0x3400)⟩
/-- R248: Band 0 to 2 peak current, mA, 0 to 1500 -/
def VLV_PEAK2_I_PEAK : Fld := ⟨0x3404, 0, 16, .rw, .I, 0, (.win 8 0x3400)⟩
/-- R248: Band 0 to 2 peak time, 0.1 ms, 0 to 1000; 0 no peak -/
def VLV_PEAK0_T_PEAK : Fld := ⟨0x3402, 16, 10, .rw, .I, 0, (.win 8 0x3400)⟩
/-- R248: Band 0 to 2 peak time, 0.1 ms, 0 to 1000; 0 no peak -/
def VLV_PEAK1_T_PEAK : Fld := ⟨0x3403, 16, 10, .rw, .I, 0, (.win 8 0x3400)⟩
/-- R248: Band 0 to 2 peak time, 0.1 ms, 0 to 1000; 0 no peak -/
def VLV_PEAK2_T_PEAK : Fld := ⟨0x3404, 16, 10, .rw, .I, 0, (.win 8 0x3400)⟩
/-- R248: mA, R224 -/
def VLV_HOLD_I_HOLD : Fld := ⟨0x3405, 0, 16, .rw, .I, 0, (.win 8 0x3400)⟩
/-- R248: mA, held while throttled, R227 -/
def VLV_HOLD_I_HOLD_MIN : Fld := ⟨0x3405, 16, 16, .rw, .I, 0, (.win 8 0x3400)⟩
/-- R248: ms, 1 to 100; default 10 -/
def VLV_TIMING_PEAK_WAIT : Fld := ⟨0x3406, 0, 8, .rw, .I, 0, (.win 8 0x3400)⟩
/-- R248: 0.1 ms, 1 to 255, R231 -/
def VLV_TIMING_T_RISE : Fld := ⟨0x3406, 8, 8, .rw, .I, 0, (.win 8 0x3400)⟩
/-- R248: ms, 100 to 65 535 -/
def VLV_TIMING_PULSE_PERIOD : Fld := ⟨0x3406, 16, 16, .rw, .I, 0, (.win 8 0x3400)⟩
/-- R248: Signed, 1/128 °C -/
def VLV_BAND_BAND_LO : Fld := ⟨0x3407, 0, 16, .rw, .I, 0, (.win 8 0x3400)⟩
/-- R248: Signed, 1/128 °C -/
def VLV_BAND_BAND_HI : Fld := ⟨0x3407, 16, 16, .rw, .I, 0, (.win 8 0x3400)⟩
/-- R248: THERMAL rated voltage, mV, 1000 to 32 000 -/
def VLV_THERM_V_RATED : Fld := ⟨0x3408, 0, 16, .rw, .I, 0, (.win 8 0x3400)⟩
/-- R248: 0 disabled, 1 OFF, 2 WAIT, 3 PEAK, 4 HOLD, 5 FAULT, 6 BLOCKED, 7 CUT -/
def VLV_STATE_STATE : Fld := ⟨0x3409, 0, 3, .ro, .H, 1, (.win 8 0x3400)⟩
/-- R248: Latched band -/
def VLV_STATE_BAND : Fld := ⟨0x3409, 4, 2, .ro, .H, 1, (.win 8 0x3400)⟩
/-- R248: Command in force -/
def VLV_STATE_VALUE : Fld := ⟨0x3409, 16, 16, .ro, .H, 0, (.win 8 0x3400)⟩
/-- R248: Coil current, mA -/
def VLV_MEAS_CURRENT : Fld := ⟨0x340A, 0, 16, .ro, .V, 0, (.win 8 0x3400)⟩
/-- R248: Low-side on-time fraction, 0 to 65 535 -/
def VLV_MEAS_DUTY : Fld := ⟨0x340A, 16, 16, .ro, .V, 0, (.win 8 0x3400)⟩
/-- R248: 0 not run, 1 normal, 2 open, 3 short to ground, 4 short to supply, 5 open or ground, 6 aborted -/
def VLV_DIAG_OFF_RES : Fld := ⟨0x340B, 0, 3, .ro, .V, 0, (.win 8 0x3400)⟩
/-- R248: 0 not run, 1 normal, 2 open, 3 short to ground, 4 short to supply -/
def VLV_DIAG_ON_RES : Fld := ⟨0x340B, 4, 3, .ro, .V, 0, (.win 8 0x3400)⟩
/-- R248: Latched fault: 0 none, 1 SHORT_SUP, 2 SHORT_GND, 3 repeated HS_OC -/
def VLV_DIAG_CAUSE : Fld := ⟨0x340B, 8, 3, .ro, .H, 0, (.win 8 0x3400)⟩
/-- R248: Seconds since the last completed off-state test, saturating -/
def VLV_DIAG_OFF_AGE : Fld := ⟨0x340B, 16, 16, .ro, .V, 65535, (.win 8 0x3400)⟩
/-- R248: R247 -/
def VLV_MAN_MAN_EN : Fld := ⟨0x340C, 0, 1, .rw, .V, 0, (.win 8 0x3400)⟩
/-- R248: Value used while MAN_EN is 1 -/
def VLV_MAN_MAN_VALUE : Fld := ⟨0x340C, 16, 16, .rw, .V, 0, (.win 8 0x3400)⟩
/-- R248: Bit n: leave FAULT, R232 -/
def VLV_CMD_CLEAR : Fld := ⟨0x3410, 0, 8, .wo, .V, 0, .one⟩
/-- R248: Bit n: off-state test of HSn now -/
def VLV_CMD_DIAG_NOW : Fld := ⟨0x3410, 8, 4, .wo, .V, 0, .one⟩
/-- R248: Bit n: leave BLOCKED on HSn -/
def VLV_CMD_HS_CLEAR : Fld := ⟨0x3410, 16, 4, .wo, .V, 0, .one⟩
/-- R248: High-side switch blocked -/
def VLV_HS_BLOCKED : Fld := ⟨0x3411, 4, 4, .ro, .H, 0, .one⟩
/-- R248: Open load found -/
def VLV_FLAGS_OPEN : Fld := ⟨0x3412, 0, 8, .w1c, .V, 0, .one⟩
/-- R248: Short to supply found -/
def VLV_FLAGS_SHORT_SUP : Fld := ⟨0x3412, 8, 8, .w1c, .V, 0, .one⟩
/-- R248: Short to ground found -/
def VLV_FLAGS_SHORT_GND : Fld := ⟨0x3412, 16, 4, .w1c, .V, 0, .one⟩
/-- R248: High-side overcurrent -/
def VLV_FLAGS_HS_OC : Fld := ⟨0x3412, 20, 4, .w1c, .V, 0, .one⟩
/-- R248: Seconds, 1 to 65 535 -/
def VLV_DIAG_CFG_DIAG_PERIOD : Fld := ⟨0x3413, 0, 16, .rw, .I, 0, .one⟩
/-- R249: Selected damper. Above 3 refuses the frame with RANGE -/
def DMP_SEL_SEL : Fld := ⟨0x3800, 0, 8, .rw, .V, 0, .one⟩
/-- R249: Damper enabled -/
def DMP_CFG_EN : Fld := ⟨0x3801, 0, 1, .rw, .I, 0, (.win 4 0x3800)⟩
/-- R249: 0 to 4 for 1, 2, 4, 8, 16 microsteps; 5 to 7 refuse the frame with RANGE -/
def DMP_CFG_MICRO : Fld := ⟨0x3801, 1, 3, .rw, .I, 0, (.win 4 0x3800)⟩
/-- R249: Swap rotation -/
def DMP_CFG_REVERSE : Fld := ⟨0x3801, 4, 1, .rw, .I, 0, (.win 4 0x3800)⟩
/-- R249: Home after BOOT, R236 -/
def DMP_CFG_HOME_BOOT : Fld := ⟨0x3801, 5, 1, .rw, .I, 0, (.win 4 0x3800)⟩
/-- R249: Position feedback on, R238 -/
def DMP_CFG_FB_EN : Fld := ⟨0x3801, 6, 1, .rw, .I, 0, (.win 4 0x3800)⟩
/-- R249: Feedback input number -/
def DMP_CFG_FB_IN : Fld := ⟨0x3801, 8, 6, .rw, .I, 0, (.win 4 0x3800)⟩
/-- R249: Full steps of travel, 20 to 65 535 -/
def DMP_TRAVEL_STEPS : Fld := ⟨0x3802, 0, 16, .rw, .I, 0, (.win 4 0x3800)⟩
/-- R249: mA rms, 50 to 600 -/
def DMP_CURRENT_I_RUN : Fld := ⟨0x3803, 0, 16, .rw, .I, 0, (.win 4 0x3800)⟩
/-- R249: mA rms, 0 to I_RUN; 0 bridges off at rest -/
def DMP_CURRENT_I_REST : Fld := ⟨0x3803, 16, 16, .rw, .I, 0, (.win 4 0x3800)⟩
/-- R249: Full steps/s, 10 to 2000 -/
def DMP_SPEED_SPEED : Fld := ⟨0x3804, 0, 16, .rw, .I, 0, (.win 4 0x3800)⟩
/-- R249: Full steps/s², 10 to 65 535 -/
def DMP_SPEED_ACCEL : Fld := ⟨0x3804, 16, 16, .rw, .I, 0, (.win 4 0x3800)⟩
/-- R249: Back-EMF threshold, mV -/
def DMP_STALL_STALL_TH : Fld := ⟨0x3805, 0, 12, .rw, .I, 0, (.win 4 0x3800)⟩
/-- R249: 1 to 15 -/
def DMP_STALL_STALL_N : Fld := ⟨0x3805, 12, 4, .rw, .I, 0, (.win 4 0x3800)⟩
/-- R249: Full steps/s, at most SPEED -/
def DMP_STALL_STALL_MIN : Fld := ⟨0x3805, 16, 16, .rw, .I, 0, (.win 4 0x3800)⟩
/-- R249: Feedback value at 0 % -/
def DMP_FB_FB_LO : Fld := ⟨0x3806, 0, 16, .rw, .I, 0, (.win 4 0x3800)⟩
/-- R249: Feedback value at 100 % -/
def DMP_FB_FB_HI : Fld := ⟨0x3806, 16, 16, .rw, .I, 0, (.win 4 0x3800)⟩
/-- R249: Allowed deviation, position units -/
def DMP_FB_TOL_TOL : Fld := ⟨0x3807, 0, 16, .rw, .I, 0, (.win 4 0x3800)⟩
/-- R249: 0 disabled, 1 IDLE, 2 QUEUED, 3 MOVING, 4 HOMING, 5 FAULT, 6 CUT -/
def DMP_STATE_STATE : Fld := ⟨0x3808, 0, 3, .ro, .H, 1, (.win 4 0x3800)⟩
/-- R249: Position known -/
def DMP_STATE_POS_OK : Fld := ⟨0x3808, 4, 1, .ro, .H, 0, (.win 4 0x3800)⟩
/-- R249: 0 none, 1 HOME_FAIL, 2 BLOCKED, 3 FB, 4 BRIDGE, 5 OPEN -/
def DMP_STATE_CAUSE : Fld := ⟨0x3808, 8, 3, .ro, .H, 0, (.win 4 0x3800)⟩
/-- R249: Position, microsteps -/
def DMP_POS_POS : Fld := ⟨0x3809, 0, 20, .ro, .H, 0, (.win 4 0x3800)⟩
/-- R249: Command in force -/
def DMP_TARGET_VALUE : Fld := ⟨0x380A, 0, 16, .ro, .H, 0, (.win 4 0x3800)⟩
/-- R249: Last fb of R238 -/
def DMP_FBPOS_FB_POS : Fld := ⟨0x380B, 0, 16, .ro, .V, 0, (.win 4 0x3800)⟩
/-- R249: FB_POS was formed from a VALID result -/
def DMP_FBPOS_FB_VALID : Fld := ⟨0x380B, 16, 1, .ro, .V, 0, (.win 4 0x3800)⟩
/-- R249: R247 -/
def DMP_MAN_MAN_EN : Fld := ⟨0x380C, 0, 1, .rw, .V, 0, (.win 4 0x3800)⟩
/-- R249: Value used while MAN_EN is 1 -/
def DMP_MAN_MAN_VALUE : Fld := ⟨0x380C, 16, 16, .rw, .V, 0, (.win 4 0x3800)⟩
/-- R249: Bit n: home Dn at its next slot -/
def DMP_CMD_HOME : Fld := ⟨0x3810, 0, 4, .wo, .V, 0, .one⟩
/-- R249: Bit 4 + n: leave FAULT -/
def DMP_CMD_CLEAR : Fld := ⟨0x3810, 4, 4, .wo, .V, 0, .one⟩
/-- R249: 1 to 4; default 2 -/
def DMP_SCHED_MAX_MOVING : Fld := ⟨0x3811, 0, 3, .rw, .I, 0, .one⟩
/-- R249: Limit at level 1, 1 to 4 -/
def DMP_SCHED_THR1 : Fld := ⟨0x3811, 4, 3, .rw, .I, 0, .one⟩
/-- R249: Limit at level 2, 1 to 4 -/
def DMP_SCHED_THR2 : Fld := ⟨0x3811, 8, 3, .rw, .I, 0, .one⟩
/-- R249: Limit at level 3, 1 to 4 -/
def DMP_SCHED_THR3 : Fld := ⟨0x3811, 12, 3, .rw, .I, 0, .one⟩
/-- R249: Stall during a move -/
def DMP_FLAGS_STALL : Fld := ⟨0x3812, 0, 4, .w1c, .V, 0, .one⟩
/-- R249: Homing found no end stop -/
def DMP_FLAGS_HOME_FAIL : Fld := ⟨0x3812, 4, 4, .w1c, .V, 0, .one⟩
/-- R249: Feedback disagreed -/
def DMP_FLAGS_FB_MISMATCH : Fld := ⟨0x3812, 8, 4, .w1c, .V, 0, .one⟩
/-- R249: Bridge overcurrent or open winding -/
def DMP_FLAGS_BRIDGE : Fld := ⟨0x3812, 12, 4, .w1c, .V, 0, .one⟩
/-- R249: Move stopped by a lowered limit -/
def DMP_FLAGS_PREEMPT : Fld := ⟨0x3812, 16, 4, .w1c, .V, 0, .one⟩
/-- R250: Selected output. Above 5 refuses the frame with RANGE -/
def BO_SEL_SEL : Fld := ⟨0x3A00, 0, 8, .rw, .V, 0, .one⟩
/-- R250: Output enabled -/
def BO_CFG_EN : Fld := ⟨0x3A01, 0, 1, .rw, .I, 0, (.win 6 0x3A00)⟩
/-- R250: Forced off by HEATER_BLOCK, R243 -/
def BO_CFG_HEATER : Fld := ⟨0x3A01, 1, 1, .rw, .I, 0, (.win 6 0x3A00)⟩
/-- R250: Interlock with XLOCK, R244 -/
def BO_CFG_XLOCK_EN : Fld := ⟨0x3A01, 2, 1, .rw, .I, 0, (.win 6 0x3A00)⟩
/-- R250: Interlocked partner, 0 to 5 -/
def BO_CFG_XLOCK : Fld := ⟨0x3A01, 4, 3, .rw, .I, 0, (.win 6 0x3A00)⟩
/-- R250: On-state open-load check, R242 -/
def BO_CFG_OPEN_EN : Fld := ⟨0x3A01, 7, 1, .rw, .I, 0, (.win 6 0x3A00)⟩
/-- R250: Seconds, 0 to 65 535 -/
def BO_TIMES_MIN_ON : Fld := ⟨0x3A02, 0, 16, .rw, .I, 0, (.win 6 0x3A00)⟩
/-- R250: Seconds, 0 to 65 535 -/
def BO_TIMES_MIN_OFF : Fld := ⟨0x3A02, 16, 16, .rw, .I, 0, (.win 6 0x3A00)⟩
/-- R250: Output on -/
def BO_STATE_OUT : Fld := ⟨0x3A03, 0, 1, .ro, .H, 0, (.win 6 0x3A00)⟩
/-- R250: Command in force -/
def BO_STATE_CMD : Fld := ⟨0x3A03, 1, 1, .ro, .H, 0, (.win 6 0x3A00)⟩
/-- R250: 0 none, 1 MIN_ON, 2 MIN_OFF, 3 XLOCK -/
def BO_STATE_WAIT : Fld := ⟨0x3A03, 2, 2, .ro, .H, 0, (.win 6 0x3A00)⟩
/-- R250: Bit 4 HEATER_BLOCK, 5 CUT, 6 FAULT -/
def BO_STATE_FORCED : Fld := ⟨0x3A03, 4, 3, .ro, .H, 0, (.win 6 0x3A00)⟩
/-- R250: Seconds since the last switch, saturating at 65 535 -/
def BO_STATE_ELAPSED : Fld := ⟨0x3A03, 16, 16, .ro, .H, 0, (.win 6 0x3A00)⟩
/-- R250: R247 -/
def BO_MAN_MAN_EN : Fld := ⟨0x3A04, 0, 1, .rw, .V, 0, (.win 6 0x3A00)⟩
/-- R250: State used while MAN_EN is 1 -/
def BO_MAN_MAN_VALUE : Fld := ⟨0x3A04, 16, 1, .rw, .V, 0, (.win 6 0x3A00)⟩
/-- R250: Bit n: leave FAULT -/
def BO_CMD_CLEAR : Fld := ⟨0x3A09, 0, 6, .wo, .V, 0, .one⟩
/-- R250: Overcurrent trip -/
def BO_FLAGS_OC : Fld := ⟨0x3A0A, 0, 6, .w1c, .V, 0, .one⟩
/-- R250: Open load -/
def BO_FLAGS_OPEN : Fld := ⟨0x3A0A, 8, 6, .w1c, .V, 0, .one⟩
/-- R250: FAULT entered -/
def BO_FLAGS_LATCH : Fld := ⟨0x3A0A, 16, 6, .w1c, .V, 0, .one⟩
/-- R268: Valve level, R258 -/
def THERM_STAT_LVL_VLV : Fld := ⟨0x2C00, 0, 2, .ro, .H, 0, .one⟩
/-- R268: Damper level -/
def THERM_STAT_LVL_DMP : Fld := ⟨0x2C00, 2, 2, .ro, .H, 0, .one⟩
/-- R268: Fan channel 0 level -/
def THERM_STAT_LVL_FAN : Fld := ⟨0x2C00, 4, 2, .ro, .H, 0, .one⟩
/-- R268: The 2 s hold of R264 is running -/
def THERM_STAT_HOLD : Fld := ⟨0x2C00, 6, 1, .ro, .H, 0, .one⟩
/-- R268: Every sensor failed, R263 -/
def THERM_STAT_NONE_LEFT : Fld := ⟨0x2C00, 7, 1, .ro, .H, 0, .one⟩
/-- R268: 1/128 °C, R255 -/
def THERM_THR0_WARN : Fld := ⟨0x2C02, 0, 16, .rw, .I, 0, .one⟩
/-- R268: 1/128 °C -/
def THERM_THR0_L1 : Fld := ⟨0x2C02, 16, 16, .rw, .I, 0, .one⟩
/-- R268: 1/128 °C -/
def THERM_THR1_L2 : Fld := ⟨0x2C03, 0, 16, .rw, .I, 0, .one⟩
/-- R268: 1/128 °C -/
def THERM_THR1_L3 : Fld := ⟨0x2C03, 16, 16, .rw, .I, 0, .one⟩
/-- R268: 130 °C -/
def THERM_CUT_CUT : Fld := ⟨0x2C04, 0, 16, .ro, .I, 16640, .one⟩
/-- R268: Region power of TS2 to TS5, 8 bits each from bit 0, 10 mW per LSB -/
def THERM_PWR0_P2 : Fld := ⟨0x2C05, 0, 8, .ro, .V, 0, .one⟩
/-- R268: Region power of TS2 to TS5, 8 bits each from bit 0, 10 mW per LSB -/
def THERM_PWR0_P3 : Fld := ⟨0x2C05, 8, 8, .ro, .V, 0, .one⟩
/-- R268: Region power of TS2 to TS5, 8 bits each from bit 0, 10 mW per LSB -/
def THERM_PWR0_P4 : Fld := ⟨0x2C05, 16, 8, .ro, .V, 0, .one⟩
/-- R268: Region power of TS2 to TS5, 8 bits each from bit 0, 10 mW per LSB -/
def THERM_PWR0_P5 : Fld := ⟨0x2C05, 24, 8, .ro, .V, 0, .one⟩
/-- R268: Region power of TS6, 10 mW per LSB -/
def THERM_PWR1_P6 : Fld := ⟨0x2C06, 0, 8, .ro, .V, 0, .one⟩
/-- R268: Bit n: readmit TSn, R265 -/
def THERM_CMD_READMIT : Fld := ⟨0x2C08, 0, 8, .wo, .V, 0, .one⟩
/-- R268: 0 none, 1 readmitted, 2 refused (cause), 3 refused (deviation, no expectation, or conversion dropped), R265 -/
def THERM_CMD_STAT_RESULT : Fld := ⟨0x2C09, 0, 2, .ro, .V, 0, .one⟩
/-- R268: WARN entered at some sensor -/
def THERM_FLAGS_WARN : Fld := ⟨0x2C0A, 0, 1, .w1c, .V, 0, .one⟩
/-- R268: A block level rose -/
def THERM_FLAGS_LEVEL_UP : Fld := ⟨0x2C0A, 1, 1, .w1c, .V, 0, .one⟩
/-- R268: A CUT acted -/
def THERM_FLAGS_CUT : Fld := ⟨0x2C0A, 2, 1, .w1c, .V, 0, .one⟩
/-- R268: A sensor was excluded -/
def THERM_FLAGS_EXCLUDE : Fld := ⟨0x2C0A, 3, 1, .w1c, .V, 0, .one⟩
/-- R268: A sensor was excluded at boot -/
def THERM_FLAGS_BOOT_EXCL : Fld := ⟨0x2C0A, 4, 1, .w1c, .V, 0, .one⟩
/-- R268: A fast request was dropped -/
def THERM_FLAGS_URG_DROP : Fld := ⟨0x2C0A, 5, 1, .w1c, .V, 0, .one⟩
/-- R268: Selected sensor. Above 7 refuses the frame with RANGE -/
def TS_SEL_SEL : Fld := ⟨0x2C10, 0, 8, .rw, .V, 0, .one⟩
/-- R268: Last sample or substitute fed, 1/128 °C -/
def TS_VALUE_T : Fld := ⟨0x2C11, 0, 16, .ro, .V, 0, (.win 8 0x2C10)⟩
/-- R268: A sample has been taken since boot -/
def TS_VALUE_VALID : Fld := ⟨0x2C11, 16, 1, .ro, .V, 0, (.win 8 0x2C10)⟩
/-- R268: T is the substitute, R263 -/
def TS_VALUE_SUBST : Fld := ⟨0x2C11, 17, 1, .ro, .H, 0, (.win 8 0x2C10)⟩
/-- R268: Bits 0 to 4: WARN, L1, L2, L3, CUT entered -/
def TS_STATE_ENTERED : Fld := ⟨0x2C12, 0, 5, .ro, .H, 0, (.win 8 0x2C10)⟩
/-- R268: Fast rate -/
def TS_STATE_FAST : Fld := ⟨0x2C12, 5, 1, .ro, .V, 0, (.win 8 0x2C10)⟩
/-- R268: Excluded -/
def TS_STATE_FAILED : Fld := ⟨0x2C12, 6, 1, .ro, .H, 0, (.win 8 0x2C10)⟩
/-- R268: 0 none, 1 XCHK, 2 BOOT_OFS, 3 NODATA -/
def TS_STATE_CAUSE : Fld := ⟨0x2C12, 8, 2, .ro, .H, 0, (.win 8 0x2C10)⟩
/-- R268: Consecutive disagreeing samples, 0 to 3 -/
def TS_STATE_XCNT : Fld := ⟨0x2C12, 10, 2, .ro, .V, 0, (.win 8 0x2C10)⟩
/-- R268: No usable neighbour -/
def TS_STATE_NOCHECK : Fld := ⟨0x2C12, 12, 1, .ro, .V, 0, (.win 8 0x2C10)⟩
/-- R268: E of R259, 1/128 °C -/
def TS_XCHK_EXPECT : Fld := ⟨0x2C13, 0, 16, .ro, .V, 0, (.win 8 0x2C10)⟩
/-- R268: Last t − E, signed, 1/128 °C, saturating -/
def TS_XCHK_DEV : Fld := ⟨0x2C13, 16, 16, .ro, .V, 0, (.win 8 0x2C10)⟩
/-- R268: Learned offset, signed, 1/128 °C -/
def TS_OFS_OFS : Fld := ⟨0x2C14, 0, 16, .ro, .H, 0, (.win 8 0x2C10)⟩
/-- R268: 1/128 °C per W, 0 to 8192; above refuses the frame with RANGE -/
def TS_OFS_KGRAD : Fld := ⟨0x2C14, 16, 16, .rw, .I, 0, (.win 8 0x2C10)⟩
/-- R268: Highest sample fed since boot, 1/128 °C -/
def TS_MAX_TMAX : Fld := ⟨0x2C17, 0, 16, .ro, .V, 32768, (.win 8 0x2C10)⟩
/-- R297: Seconds. A read latches RTC_DATE and RTC_SUBSEC, R275 -/
def RTC_TIME_SEC : Fld := ⟨0x3C00, 0, 6, .ro, .K, 0, .one⟩
/-- R297: Minutes -/
def RTC_TIME_MIN : Fld := ⟨0x3C00, 8, 6, .ro, .K, 0, .one⟩
/-- R297: Hours -/
def RTC_TIME_HOUR : Fld := ⟨0x3C00, 16, 5, .ro, .K, 0, .one⟩
/-- R297: 1 to 31 -/
def RTC_DATE_DAY : Fld := ⟨0x3C01, 0, 5, .ro, .K, 0, .one⟩
/-- R297: 1 to 12 -/
def RTC_DATE_MONTH : Fld := ⟨0x3C01, 8, 4, .ro, .K, 0, .one⟩
/-- R297: Year less 2000, 0 to 199 -/
def RTC_DATE_YEAR : Fld := ⟨0x3C01, 16, 8, .ro, .K, 0, .one⟩
/-- R297: Free weekday counter, R274 -/
def RTC_DATE_WDAY : Fld := ⟨0x3C01, 24, 3, .ro, .K, 0, .one⟩
/-- R297: 1/32 768 s -/
def RTC_SUBSEC_SUBSEC : Fld := ⟨0x3C02, 0, 15, .ro, .K, 0, .one⟩
/-- R297: Laid out as RTC_TIME -/
def RTC_SET_TIME_SEC : Fld := ⟨0x3C03, 0, 6, .rw, .V, 0, .one⟩
/-- R297: Laid out as RTC_TIME -/
def RTC_SET_TIME_MIN : Fld := ⟨0x3C03, 8, 6, .rw, .V, 0, .one⟩
/-- R297: Laid out as RTC_TIME -/
def RTC_SET_TIME_HOUR : Fld := ⟨0x3C03, 16, 5, .rw, .V, 0, .one⟩
/-- R297: Laid out as RTC_DATE -/
def RTC_SET_DATE_DAY : Fld := ⟨0x3C04, 0, 5, .rw, .V, 0, .one⟩
/-- R297: Laid out as RTC_DATE -/
def RTC_SET_DATE_MONTH : Fld := ⟨0x3C04, 8, 4, .rw, .V, 0, .one⟩
/-- R297: Laid out as RTC_DATE -/
def RTC_SET_DATE_YEAR : Fld := ⟨0x3C04, 16, 8, .rw, .V, 0, .one⟩
/-- R297: Laid out as RTC_DATE -/
def RTC_SET_DATE_WDAY : Fld := ⟨0x3C04, 24, 3, .rw, .V, 0, .one⟩
/-- R297: 1 loads the staged time, R276 -/
def RTC_CMD_SET : Fld := ⟨0x3C05, 0, 1, .wo, .V, 0, .one⟩
/-- R297: 1 loads the staged WDAY alone -/
def RTC_CMD_SET_WDAY : Fld := ⟨0x3C05, 1, 1, .wo, .V, 0, .one⟩
/-- R297: 1 clears STAMPED, R283 -/
def RTC_CMD_REARM : Fld := ⟨0x3C05, 2, 1, .wo, .V, 0, .one⟩
/-- R297: Time not trusted, R272 -/
def RTC_STAT_OSF : Fld := ⟨0x3C06, 0, 1, .ro, .K, 1, .one⟩
/-- R297: R284 -/
def RTC_STAT_VBAT_LOW : Fld := ⟨0x3C06, 1, 1, .ro, .V, 0, .one⟩
/-- R297: Domain supplied from VBAT -/
def RTC_STAT_ON_VBAT : Fld := ⟨0x3C06, 2, 1, .ro, .V, 0, .one⟩
/-- R297: This boot found the latch tripped, R285 -/
def RTC_STAT_LOSS : Fld := ⟨0x3C06, 3, 1, .w1c, .V, 0, .one⟩
/-- R297: A shift is being applied -/
def RTC_STAT_SHIFT_PEND : Fld := ⟨0x3C06, 4, 1, .ro, .V, 0, .one⟩
/-- R297: Time of the stamped switch-over -/
def RTC_STAMP_TIME_SEC : Fld := ⟨0x3C07, 0, 6, .ro, .K, 0, .one⟩
/-- R297: Time of the stamped switch-over -/
def RTC_STAMP_TIME_MIN : Fld := ⟨0x3C07, 8, 6, .ro, .K, 0, .one⟩
/-- R297: Time of the stamped switch-over -/
def RTC_STAMP_TIME_HOUR : Fld := ⟨0x3C07, 16, 5, .ro, .K, 0, .one⟩
/-- R297: Its date -/
def RTC_STAMP_DATE_DAY : Fld := ⟨0x3C08, 0, 5, .ro, .K, 0, .one⟩
/-- R297: Its date -/
def RTC_STAMP_DATE_MONTH : Fld := ⟨0x3C08, 8, 4, .ro, .K, 0, .one⟩
/-- R297: Its date -/
def RTC_STAMP_DATE_YEAR : Fld := ⟨0x3C08, 16, 8, .ro, .K, 0, .one⟩
/-- R297: Its date -/
def RTC_STAMP_DATE_WDAY : Fld := ⟨0x3C08, 24, 3, .ro, .K, 0, .one⟩
/-- R297: Stamp taken and not re-armed -/
def RTC_STAMP_DATE_STAMPED : Fld := ⟨0x3C08, 31, 1, .ro, .K, 0, .one⟩
/-- R297: Shift in 1/32 768 s, R279 -/
def RTC_SHIFT_N : Fld := ⟨0x3C09, 0, 15, .rw, .V, 0, .one⟩
/-- R297: 0 add, 1 hold back -/
def RTC_SHIFT_SUB : Fld := ⟨0x3C09, 15, 1, .rw, .V, 0, .one⟩
/-- R297: 1 starts the shift -/
def RTC_SHIFT_GO : Fld := ⟨0x3C09, 31, 1, .wo, .V, 0, .one⟩
/-- R297: Turnover, signed, 1/128 °C -/
def RTC_COMP0_T0 : Fld := ⟨0x3C0A, 0, 16, .rw, .K, 0, .one⟩
/-- R297: Signed, 1/256 ppm -/
def RTC_COMP0_OFFSET : Fld := ⟨0x3C0A, 16, 16, .rw, .K, 0, .one⟩
/-- R297: Signed, 2⁻¹⁶ ppm/°C² -/
def RTC_COMP1_K : Fld := ⟨0x3C0B, 0, 16, .rw, .K, 0, .one⟩
/-- R297: Compensation on -/
def RTC_COMP1_COMP_EN : Fld := ⟨0x3C0B, 16, 1, .rw, .K, 0, .one⟩
/-- R297: Cycles per window, signed, R277 -/
def RTC_COMP_STAT_N : Fld := ⟨0x3C0C, 0, 9, .ro, .K, 0, .one⟩
/-- R297: Last domain sensor sample, 1/128 °C -/
def RTC_COMP_STAT_TEMP : Fld := ⟨0x3C0C, 16, 16, .ro, .K, 0, .one⟩
/-- R297: Alarm time, laid out as RTC_TIME -/
def RTC_AL_T_SEC : Fld := ⟨0x3C10, 0, 6, .rw, .K, 0, (.arr 2 2)⟩
/-- R297: Alarm time, laid out as RTC_TIME -/
def RTC_AL_T_MIN : Fld := ⟨0x3C10, 8, 6, .rw, .K, 0, (.arr 2 2)⟩
/-- R297: Alarm time, laid out as RTC_TIME -/
def RTC_AL_T_HOUR : Fld := ⟨0x3C10, 16, 5, .rw, .K, 0, (.arr 2 2)⟩
/-- R297: Laid out as RTC_DATE -/
def RTC_AL_D_DAY : Fld := ⟨0x3C11, 0, 5, .rw, .K, 0, (.arr 2 2)⟩
/-- R297: Laid out as RTC_DATE -/
def RTC_AL_D_MONTH : Fld := ⟨0x3C11, 8, 4, .rw, .K, 0, (.arr 2 2)⟩
/-- R297: 0 to 6 -/
def RTC_AL_D_WDAY : Fld := ⟨0x3C11, 16, 3, .rw, .K, 0, (.arr 2 2)⟩
/-- R297: Bits 24 to 29: SEC, MIN, HOUR, DAY, MONTH, WDAY ignored -/
def RTC_AL_D_MASK : Fld := ⟨0x3C11, 24, 6, .rw, .K, 0, (.arr 2 2)⟩
/-- R297: Alarm enabled -/
def RTC_AL_D_EN : Fld := ⟨0x3C11, 30, 1, .rw, .K, 0, (.arr 2 2)⟩
/-- R297: R282 -/
def RTC_ALB_D_CATCH : Fld := ⟨0x3C13, 31, 1, .rw, .K, 0, .one⟩
/-- R297: ALARM_A fired -/
def RTC_AFLAG_AF_A : Fld := ⟨0x3C14, 0, 1, .w1c, .K, 0, .one⟩
/-- R297: ALARM_B fired -/
def RTC_AFLAG_AF_B : Fld := ⟨0x3C14, 1, 1, .w1c, .K, 0, .one⟩
/-- R297: ALARM_B fired by catching up -/
def RTC_AFLAG_CATCH_B : Fld := ⟨0x3C14, 2, 1, .w1c, .K, 0, .one⟩
/-- R298: Engine on -/
def SCHED_CTRL_EN : Fld := ⟨0x3E00, 0, 1, .rw, .I, 0, .one⟩
/-- R298: Set of every zone while OSF is set, R290 -/
def SCHED_CTRL_NOTIME_SET : Fld := ⟨0x3E00, 2, 2, .rw, .I, 0, .one⟩
/-- R298: Minutes, 0 to 1440; above refuses the frame with RANGE -/
def SCHED_CTRL_MAX_PRESTART : Fld := ⟨0x3E00, 16, 11, .rw, .I, 0, .one⟩
/-- R298: Running under R290 -/
def SCHED_STAT_NOTIME : Fld := ⟨0x3E01, 0, 1, .ro, .H, 0, .one⟩
/-- R298: Last time change: 0 none, 1 catch-up, 2 jump, 3 backward. A SET that clears OSF sets 0, R290 -/
def SCHED_STAT_LAST_CHG : Fld := ⟨0x3E01, 1, 2, .ro, .V, 0, .one⟩
/-- R298: Selected zone. Above 15 refuses the frame with RANGE -/
def SCHED_ZSEL_SEL : Fld := ⟨0x3E02, 0, 8, .rw, .V, 0, .one⟩
/-- R298: OCCUPIED set-point, 1/128 °C -/
def ZONE_SP0_SP_OCC : Fld := ⟨0x3E03, 0, 16, .rw, .I, 0, (.win 16 0x3E02)⟩
/-- R298: STANDBY set-point -/
def ZONE_SP0_SP_STBY : Fld := ⟨0x3E03, 16, 16, .rw, .I, 0, (.win 16 0x3E02)⟩
/-- R298: UNOCCUPIED set-point -/
def ZONE_SP1_SP_UNOCC : Fld := ⟨0x3E04, 0, 16, .rw, .I, 0, (.win 16 0x3E02)⟩
/-- R298: OFF set-point -/
def ZONE_SP1_SP_OFF : Fld := ⟨0x3E04, 16, 16, .rw, .I, 0, (.win 16 0x3E02)⟩
/-- R298: Model coach for optimum start, 0 to 159 -/
def ZONE_CFG_COACH : Fld := ⟨0x3E05, 0, 8, .rw, .I, 0, (.win 16 0x3E02)⟩
/-- R298: Optimum start on, R292 -/
def ZONE_CFG_OPT_EN : Fld := ⟨0x3E05, 8, 1, .rw, .I, 0, (.win 16 0x3E02)⟩
/-- R298: Set with no event found, R290 -/
def ZONE_CFG_DEFAULT_SET : Fld := ⟨0x3E05, 10, 2, .rw, .I, 0, (.win 16 0x3E02)⟩
/-- R298: Active set, after ZONE_FORCE -/
def ZONE_STATE_SET : Fld := ⟨0x3E06, 0, 2, .ro, .H, 0, (.win 16 0x3E02)⟩
/-- R298: Set given by the schedule -/
def ZONE_STATE_SCHED_SET : Fld := ⟨0x3E06, 2, 2, .ro, .H, 0, (.win 16 0x3E02)⟩
/-- R298: Optimum start under way -/
def ZONE_STATE_PRESTART : Fld := ⟨0x3E06, 4, 1, .ro, .H, 0, (.win 16 0x3E02)⟩
/-- R298: Last L of R292, minutes -/
def ZONE_STATE_LEAD : Fld := ⟨0x3E06, 16, 11, .ro, .V, 0, (.win 16 0x3E02)⟩
/-- R298: 0 follow, 1 to 4 hold set FORCE − 1; above refuses the frame with RANGE -/
def ZONE_FORCE_FORCE : Fld := ⟨0x3E07, 0, 3, .rw, .H, 0, (.win 16 0x3E02)⟩
/-- R298: 0 to 1439; above refuses the frame with RANGE -/
def SCHED_WK_MINUTE : Fld := ⟨0x3E40, 0, 11, .rw, .I, 0, (.arr 64 2)⟩
/-- R298: Bit 12 + k: WDAY k -/
def SCHED_WK_WDAYS : Fld := ⟨0x3E40, 12, 7, .rw, .I, 0, (.arr 64 2)⟩
/-- R298: Set to enter -/
def SCHED_WK_SET : Fld := ⟨0x3E40, 20, 2, .rw, .I, 0, (.arr 64 2)⟩
/-- R298: Optimum start -/
def SCHED_WK_OPT : Fld := ⟨0x3E40, 22, 1, .rw, .I, 0, (.arr 64 2)⟩
/-- R298: Entry enabled -/
def SCHED_WK_EN : Fld := ⟨0x3E40, 23, 1, .rw, .I, 0, (.arr 64 2)⟩
/-- R298: Bit z: zone z -/
def SCHED_WKZ_ZONES : Fld := ⟨0x3E41, 0, 16, .rw, .I, 0, (.arr 64 2)⟩
/-- R298: 1 to 31, R288 -/
def SCHED_EX_DAY : Fld := ⟨0x3EC0, 0, 5, .rw, .I, 0, (.arr 32 2)⟩
/-- R298: 1 to 12 -/
def SCHED_EX_MONTH : Fld := ⟨0x3EC0, 8, 4, .rw, .I, 0, (.arr 32 2)⟩
/-- R298: 0 to 199, or 255 every year -/
def SCHED_EX_YEAR : Fld := ⟨0x3EC0, 16, 8, .rw, .I, 0, (.arr 32 2)⟩
/-- R298: 0 fixed set, 1 as weekday; 2 and 3 refuse the frame with RANGE while EN is 1, R288 -/
def SCHED_EX_ACTION : Fld := ⟨0x3EC0, 24, 2, .rw, .I, 0, (.arr 32 2)⟩
/-- R298: Set or WDAY -/
def SCHED_EX_ARG : Fld := ⟨0x3EC0, 28, 3, .rw, .I, 0, (.arr 32 2)⟩
/-- R298: Exception enabled -/
def SCHED_EX_EN : Fld := ⟨0x3EC0, 31, 1, .rw, .I, 0, (.arr 32 2)⟩
/-- R298: Bit z: zone z -/
def SCHED_EXZ_ZONES : Fld := ⟨0x3EC1, 0, 16, .rw, .I, 0, (.arr 32 2)⟩
/-- R328: 0 A, 1 B, 2 none (SAFE), 3 IZ-30 EEPROM -/
def BOOT_STAT_COPY : Fld := ⟨0x0020, 0, 2, .ro, .H, 0, .one⟩
/-- R328: STRAP1:0 as sampled -/
def BOOT_STAT_STRAP : Fld := ⟨0x0020, 2, 2, .ro, .H, 0, .one⟩
/-- R328: Booted in clock fallback, R315 -/
def BOOT_STAT_FALLBACK : Fld := ⟨0x0020, 4, 1, .ro, .H, 0, .one⟩
/-- R328: OTP SIGNED bit -/
def BOOT_STAT_SIGNED : Fld := ⟨0x0020, 5, 1, .ro, .H, 0, .one⟩
/-- R328: The booted copy's signature passed -/
def BOOT_STAT_SIG_OK : Fld := ⟨0x0020, 6, 1, .ro, .H, 0, .one⟩
/-- R328: The copy tried first was rejected -/
def BOOT_STAT_ALT : Fld := ⟨0x0020, 7, 1, .ro, .H, 0, .one⟩
/-- R328: SAFE until the clock returns, R315 -/
def BOOT_STAT_SIG_WAIT : Fld := ⟨0x0020, 8, 1, .ro, .H, 0, .one⟩
/-- R328: ms from reset release to the end of BOOT -/
def BOOT_STAT_BOOT_TIME : Fld := ⟨0x0020, 16, 16, .ro, .H, 0, .one⟩
/-- R328: Reason code of the table below; 0 passed, or eligible and not tried, R313 -/
def BOOT_REJ_REASON : Fld := ⟨0x0021, 0, 4, .ro, .H, 0, (.arr 2 1)⟩
/-- R328: Section index, from 0; 255 the header or the whole copy -/
def BOOT_REJ_INDEX : Fld := ⟨0x0021, 4, 8, .ro, .H, 0, (.arr 2 1)⟩
/-- R328: Type of that section -/
def BOOT_REJ_TYPE : Fld := ⟨0x0021, 16, 16, .ro, .H, 0, (.arr 2 1)⟩
/-- R328: SEQ of the header; 0 when it is ineligible -/
def BOOT_SEQ_SEQ : Fld := ⟨0x0023, 0, 32, .ro, .H, 0, (.arr 2 1)⟩
/-- R328: 1 OPEN, 2 COMMIT, 3 ABORT -/
def IMG_PERSIST_CMD : Fld := ⟨0x0028, 0, 2, .rwd, .V, 0, .one⟩
/-- R328: In SAFE, target copy B -/
def IMG_PERSIST_TARGET_B : Fld := ⟨0x0028, 3, 1, .rwd, .V, 0, .one⟩
/-- R328: 0 idle, 1 checking active, 2 erasing, 3 open, 4 checking target, 5 writing header -/
def IMG_PERSIST_STATE : Fld := ⟨0x0028, 4, 3, .ro, .V, 0, .one⟩
/-- R328: 0 A, 1 B -/
def IMG_PERSIST_TARGET : Fld := ⟨0x0028, 8, 1, .ro, .V, 0, .one⟩
/-- R328: 0 none, 1 pass, 2 fail, 3 ACTIVE_BAD, 4 aborted, 5 REFUSED_MODE -/
def IMG_PERSIST_RESULT : Fld := ⟨0x0028, 12, 3, .ro, .V, 0, .one⟩
/-- R328: Reason code -/
def IMG_PERSIST_REASON : Fld := ⟨0x0028, 16, 4, .ro, .V, 0, .one⟩
/-- R328: LENGTH of the target, 10 to 131 072 -/
def IMG_PLEN_LENGTH : Fld := ⟨0x0029, 0, 18, .rwd, .V, 0, .one⟩
/-- R328: SEQ written by the last commit -/
def IMG_PSEQ_SEQ : Fld := ⟨0x002A, 0, 32, .ro, .V, 0, .one⟩
/-- R328: 1 START, 2 ABORT. START outside the loading state is refused, R318 -/
def RGN_CTRL_CMD : Fld := ⟨0x002C, 0, 2, .rwd, .V, 0, .one⟩
/-- R328: 0 idle, 1 loading, 2 validating, 3 queued, 4 running -/
def RGN_CTRL_STATE : Fld := ⟨0x002C, 4, 3, .ro, .V, 0, .one⟩
/-- R328: 0 host, 1 network -/
def RGN_CTRL_SRC : Fld := ⟨0x002C, 8, 1, .ro, .V, 0, .one⟩
/-- R328: Type of the current update -/
def RGN_CTRL_TYPE : Fld := ⟨0x002C, 16, 16, .ro, .V, 0, .one⟩
/-- R328: Buffer word written by RGN_DATA0 -/
def RGN_OFS_OFS : Fld := ⟨0x002D, 0, 13, .rwd, .V, 0, .one⟩
/-- R328: 0 none, 1 done, 2 rejected, 3 REPLACED, 4 ABORTED, 5 REFUSED_MODE -/
def RGN_RES_RESULT : Fld := ⟨0x002E, 0, 4, .ro, .V, 0, .one⟩
/-- R328: Reason code -/
def RGN_RES_REASON : Fld := ⟨0x002E, 4, 4, .ro, .V, 0, .one⟩
/-- R328: Coaches or channels still to change -/
def RGN_RES_LEFT : Fld := ⟨0x002E, 16, 8, .ro, .V, 0, .one⟩
/-- R328: Word OFS + k of the staging buffer; past word 8191 refuses the frame with RANGE -/
def RGN_DATA_DATA : Fld := ⟨0x0100, 0, 32, .rwd, .V, 0, (.arr 256 1)⟩
/-- R351: Clock fallback in force, R18 -/
def CLK_STAT_FALLBACK : Fld := ⟨0x0400, 0, 1, .ro, .H, 0, .one⟩
/-- R351: Crystal passing its windows -/
def CLK_STAT_XTAL_OK : Fld := ⟨0x0400, 1, 1, .ro, .H, 0, .one⟩
/-- R351: PLL locked -/
def CLK_STAT_PLL_LOCK : Fld := ⟨0x0400, 2, 1, .ro, .H, 0, .one⟩
/-- R351: AUDIT oscillator present, R24 -/
def CLK_STAT_AUDIT_OK : Fld := ⟨0x0400, 3, 1, .ro, .H, 0, .one⟩
/-- R351: The crystal failed -/
def CLK_FLAGS_XTAL_LOSS : Fld := ⟨0x0401, 0, 1, .w1c, .V, 0, .one⟩
/-- R351: The PLL lost lock -/
def CLK_FLAGS_PLL_LOSS : Fld := ⟨0x0401, 1, 1, .w1c, .V, 0, .one⟩
/-- R351: The AUDIT oscillator failed -/
def CLK_FLAGS_AUDIT_LOSS : Fld := ⟨0x0401, 2, 1, .w1c, .V, 0, .one⟩
/-- R351: Fallback ended, R22 -/
def CLK_FLAGS_RETURN : Fld := ⟨0x0401, 3, 1, .w1c, .V, 0, .one⟩
/-- R351: ms spent in fallback, saturating -/
def CLK_FB_TIME_MS : Fld := ⟨0x0402, 0, 32, .ro, .V, 0, .one⟩
/-- R351: 0 to 7 for M0 to M7 -/
def PWR_MODE_MODE : Fld := ⟨0x0410, 0, 3, .ro, .H, 1, .one⟩
/-- R351: Mode to return to from AUTONOMOUS -/
def PWR_MODE_PREV : Fld := ⟨0x0410, 4, 3, .ro, .H, 0, .one⟩
/-- R351: 1 NATIVE, 2 SERVICE, 3 STANDBY, 4 WAKE; other values refuse the frame with RANGE -/
def PWR_MODE_CMD : Fld := ⟨0x0410, 8, 3, .wo, .V, 0, .one⟩
/-- R351: A command waits for the tick -/
def PWR_MODE_PEND : Fld := ⟨0x0410, 11, 1, .ro, .V, 0, .one⟩
/-- R351: 0 none, 1 done, 3 replaced, 4 discarded -/
def PWR_MODE_RESULT : Fld := ⟨0x0410, 12, 4, .ro, .V, 0, .one⟩
/-- R351: R333 -/
def PWR_STAT_EW : Fld := ⟨0x0412, 0, 1, .ro, .V, 0, .one⟩
/-- R351: R334 -/
def PWR_STAT_VDDA_UV : Fld := ⟨0x0412, 1, 1, .ro, .V, 0, .one⟩
/-- R351: R335 -/
def PWR_STAT_VM_UV : Fld := ⟨0x0412, 2, 1, .ro, .V, 0, .one⟩
/-- R351: R335 -/
def PWR_STAT_VM_OV : Fld := ⟨0x0412, 3, 1, .ro, .V, 0, .one⟩
/-- R351: R198 -/
def PWR_STAT_VDRV_LOW : Fld := ⟨0x0412, 4, 1, .ro, .V, 0, .one⟩
/-- R351: Host cause of R339 -/
def PWR_STAT_HOST_LOST : Fld := ⟨0x0412, 8, 1, .ro, .V, 0, .one⟩
/-- R351: Network cause of R339 -/
def PWR_STAT_NET_LOST : Fld := ⟨0x0412, 9, 1, .ro, .V, 0, .one⟩
/-- R351: Bits as PWR_STAT 4:0; set on each entry -/
def PWR_FLAGS_FLAGS : Fld := ⟨0x0413, 0, 5, .w1c, .V, 0, .one⟩
/-- R351: The mode changed -/
def PWR_FLAGS_MODE_CHG : Fld := ⟨0x0413, 8, 1, .w1c, .V, 0, .one⟩
/-- R351: Release ZONE_FORCE on entry to AUTONOMOUS -/
def PWR_AUTO_FREL : Fld := ⟨0x0414, 0, 1, .rw, .I, 0, .one⟩
/-- R351: Bits 0 to 3: ALARM, OCC, SCHED, NET, R340 -/
def PWR_WAKE_EN : Fld := ⟨0x0415, 0, 4, .rw, .I, 0, .one⟩
/-- R351: 0 none, 1 ALARM, 2 OCC, 3 SCHED, 4 NET, 5 WAKE command -/
def PWR_WAKE_LAST : Fld := ⟨0x0415, 8, 3, .ro, .V, 0, .one⟩
/-- R351: 1 SOFT, 2 COLD; 3 refuses the frame with RANGE -/
def PWR_RST_CMD : Fld := ⟨0x0416, 0, 2, .wo, .V, 0, .one⟩
/-- R351: Must be 0x5A, or the frame is refused with RANGE -/
def PWR_RST_KEY : Fld := ⟨0x0416, 8, 8, .wo, .V, 0, .one⟩
/-- R351: Last boot reset, R344 -/
def RST_CAUSE_CAUSE : Fld := ⟨0x0417, 0, 3, .ro, .H, 1, .one⟩
/-- R351: Soft resets since boot, saturating at 255 -/
def RST_CAUSE_SOFT_CNT : Fld := ⟨0x0417, 8, 8, .ro, .H, 0, .one⟩
/-- R351: 0 host, 1 warm reinitialise -/
def RST_CAUSE_LAST_SOFT : Fld := ⟨0x0417, 16, 1, .ro, .H, 0, .one⟩
/-- R351: mV, from input 50 -/
def PWR_VMEAS0_VDD_IO : Fld := ⟨0x0418, 0, 16, .ro, .V, 0, .one⟩
/-- R351: mV, from input 51 -/
def PWR_VMEAS0_VDDA : Fld := ⟨0x0418, 16, 16, .ro, .V, 0, .one⟩
/-- R351: mV, from input 52 -/
def PWR_VMEAS1_VM : Fld := ⟨0x0419, 0, 16, .ro, .V, 0, .one⟩
/-- R351: mV, from input 53 -/
def PWR_VMEAS1_VCORE : Fld := ⟨0x0419, 16, 16, .ro, .V, 0, .one⟩
/-- R385: Bits 0 to 4: T1L, BACnet/IP, BACnet/SC, BUS1, BUS2 -/
def NET_CTRL_EN : Fld := ⟨0x4000, 0, 5, .ro, .I, 0, .one⟩
/-- R385: R358 -/
def NET_CTRL_DHCP_EN : Fld := ⟨0x4000, 5, 1, .ro, .I, 0, .one⟩
/-- R385: Static fallback, R358 -/
def NET_CTRL_STATIC_FB : Fld := ⟨0x4000, 6, 1, .ro, .I, 0, .one⟩
/-- R385: R360 -/
def NET_CTRL_FDR_EN : Fld := ⟨0x4000, 7, 1, .ro, .I, 0, .one⟩
/-- R385: 1 retrains the link -/
def NET_CMD_RELINK : Fld := ⟨0x4001, 0, 1, .wo, .V, 0, .one⟩
/-- R385: 1 resets the reconnect wait, R364 -/
def NET_CMD_SC_RETRY : Fld := ⟨0x4001, 1, 1, .wo, .V, 0, .one⟩
/-- R385: Link up -/
def NET_STAT_LINK : Fld := ⟨0x4002, 0, 1, .ro, .V, 0, .one⟩
/-- R385: 0 1.0 Vpp, 1 2.4 Vpp -/
def NET_STAT_AMPL : Fld := ⟨0x4002, 1, 1, .ro, .V, 0, .one⟩
/-- R385: An address is in use -/
def NET_STAT_IP_OK : Fld := ⟨0x4002, 2, 1, .ro, .V, 0, .one⟩
/-- R385: 0 off, 1 key being generated, 2 certificate mismatch, 3 connecting, 4 primary, 5 failover, 6 waiting -/
def NET_STAT_SC_STATE : Fld := ⟨0x4002, 4, 3, .ro, .V, 0, .one⟩
/-- R385: R362 -/
def NET_STAT_TIME_UNCHK : Fld := ⟨0x4002, 7, 1, .ro, .V, 0, .one⟩
/-- R385: 0 enabled, 1 disabled, 2 initiation disabled -/
def NET_STAT_DCC : Fld := ⟨0x4002, 8, 2, .ro, .V, 0, .one⟩
/-- R385: Protocol processor running -/
def NET_STAT_PP_RUN : Fld := ⟨0x4002, 10, 1, .ro, .V, 0, .one⟩
/-- R385: Bit 0 LINK_DOWN, 1 IP_CONFLICT, 2 DHCP_FAIL, 3 TLS_FAIL, 4 SC_FAILOVER, 5 CERT_MISMATCH, 6 REINIT_PWD, 7 TIME_SYNC -/
def NET_FLAGS_FLAGS : Fld := ⟨0x4003, 0, 8, .w1c, .V, 0, .one⟩
/-- R385: R355; 3 is rejected -/
def NET_PHY_AMPL_CFG : Fld := ⟨0x4004, 0, 2, .ro, .I, 0, .one⟩
/-- R385: R357 -/
def NET_PHY_LPI_EN : Fld := ⟨0x4004, 2, 1, .ro, .I, 0, .one⟩
/-- R385: Signal quality, 0 to 7 -/
def NET_PHY_SQI : Fld := ⟨0x4004, 8, 3, .ro, .V, 0, .one⟩
/-- R385: Address in use -/
def NET_IP_ADDR_ADDR : Fld := ⟨0x4008, 0, 32, .ro, .V, 0, .one⟩
/-- R385: Mask in use -/
def NET_IP_MASK_MASK : Fld := ⟨0x4009, 0, 32, .ro, .V, 0, .one⟩
/-- R385: Gateway in use -/
def NET_IP_GW_GW : Fld := ⟨0x400A, 0, 32, .ro, .V, 0, .one⟩
/-- R385: UDP port; default 47 808 -/
def NET_BIP_PORT : Fld := ⟨0x400B, 0, 16, .ro, .I, 0, .one⟩
/-- R385: Seconds, 30 to 65 535 -/
def NET_FDR_TTL : Fld := ⟨0x400C, 0, 16, .ro, .I, 0, .one⟩
/-- R385: 0 off, 1 registering, 2 registered, 3 failed -/
def NET_FDR_FDR_STATE : Fld := ⟨0x400C, 16, 3, .ro, .V, 0, .one⟩
/-- R385: Device instance -/
def NET_DEV_DEV_INST : Fld := ⟨0x400D, 0, 22, .ro, .I, 0, .one⟩
/-- R385: WDAY that stands for Monday, 0 to 6, R379; 7 is rejected -/
def NET_DEV_SYNC_MON : Fld := ⟨0x400D, 24, 3, .ro, .I, 0, .one⟩
/-- R385: Seconds, 10 to 65 535 -/
def NET_SUP_NET_TO : Fld := ⟨0x400E, 0, 16, .ro, .I, 0, .one⟩
/-- R385: R382 -/
def NET_SUP_SUP_EN : Fld := ⟨0x400E, 16, 1, .ro, .I, 0, .one⟩
/-- R385: Bits 17 to 20: BACnet/IP, BACnet/SC, BUS1, BUS2 -/
def NET_SUP_SUP_PORTS : Fld := ⟨0x400E, 17, 4, .ro, .I, 0, .one⟩
/-- R385: Seconds before the network cause -/
def NET_SUP_LEFT_LEFT : Fld := ⟨0x400F, 0, 16, .ro, .V, 0, .one⟩
/-- R385: Last TLS alert code -/
def NET_SC_STAT_ALERT : Fld := ⟨0x4020, 0, 8, .ro, .V, 0, .one⟩
/-- R385: Seconds to the next attempt -/
def NET_SC_STAT_WAIT : Fld := ⟨0x4020, 16, 16, .ro, .V, 0, .one⟩
/-- R385: Bit 16 + e: client entry e failing, R368 -/
def NET_MB_CLI_MB_FAIL : Fld := ⟨0x4028, 16, 16, .ro, .V, 0, .one⟩
/-- R385: Active subscriptions -/
def NET_COV_ACTIVE : Fld := ⟨0x4029, 0, 6, .ro, .V, 0, .one⟩
/-- R385: 0 off, 1 MS/TP, 2 Modbus server, 3 Modbus client -/
def BUS_CFG_PROTO : Fld := ⟨0x4030, 0, 2, .ro, .I, 0, (.arr 2 8)⟩
/-- R385: R365 -/
def BUS_CFG_BAUD : Fld := ⟨0x4030, 4, 3, .ro, .I, 0, (.arr 2 8)⟩
/-- R385: R365 -/
def BUS_CFG_PARITY : Fld := ⟨0x4030, 8, 2, .ro, .I, 0, (.arr 2 8)⟩
/-- R385: Fail-safe bias on -/
def BUS_CFG_BIAS : Fld := ⟨0x4030, 10, 1, .ro, .I, 0, (.arr 2 8)⟩
/-- R385: MS/TP MAC 0 to 127, or Modbus 1 to 247 -/
def BUS_CFG_ADDR : Fld := ⟨0x4030, 16, 8, .ro, .I, 0, (.arr 2 8)⟩
/-- R385: 1 to 127 -/
def BUS_MSTP_MAX_MASTER : Fld := ⟨0x4031, 0, 7, .ro, .I, 0, (.arr 2 8)⟩
/-- R385: 1 to 255 -/
def BUS_MSTP_MAX_INFO : Fld := ⟨0x4031, 8, 8, .ro, .I, 0, (.arr 2 8)⟩
/-- R385: 0 off, 1 idle, 2 active, 3 sole master, 4 no token, 5 IZ-30 sensor bus -/
def BUS_STAT_STATE : Fld := ⟨0x4032, 0, 3, .ro, .V, 0, (.arr 2 8)⟩
/-- R385: ms since the last token or request, saturating -/
def BUS_STAT_TOKEN_AGE : Fld := ⟨0x4032, 16, 16, .ro, .V, 65535, (.arr 2 8)⟩
/-- R385: Bit 0 FRAMING, 1 CRC, 2 DUP_MAC, 3 NO_TOKEN -/
def BUS_FLAGS_FLAGS : Fld := ⟨0x4033, 0, 4, .w1c, .V, 0, (.arr 2 8)⟩
/-- R412: Hash staged for programming, R410 -/
def OTP_HASH_HASH : Fld := ⟨0x0030, 0, 32, .rwd, .V, 0, (.arr 8 1)⟩
/-- R412: 1 program the hash, 2 set SIGNED; 3 refuses the frame with RANGE -/
def OTP_PROG_CMD : Fld := ⟨0x0038, 0, 2, .rwd, .V, 0, .one⟩
/-- R412: Programming runs -/
def OTP_PROG_BUSY : Fld := ⟨0x0038, 4, 1, .ro, .V, 0, .one⟩
/-- R412: 0 none, 1 done, 2 read-back failed -/
def OTP_PROG_RESULT : Fld := ⟨0x0038, 8, 2, .ro, .V, 0, .one⟩
/-- R413: 0 SPI, 1 I²C -/
def HOST_CFG_PORT : Fld := ⟨0x4800, 0, 1, .ro, .H, 0, .one⟩
/-- R413: I²C address; 0 for SPI -/
def HOST_CFG_ADDR : Fld := ⟨0x4800, 8, 7, .ro, .H, 0, .one⟩
/-- R413: Any write restarts the heartbeat, R402. Reads the last value written -/
def HOST_HB_COUNT : Fld := ⟨0x4801, 0, 16, .rw, .V, 0, .one⟩
/-- R413: ms; 0 off, or 100 to 65 535 -/
def HOST_HB_CFG_HB_TIMEOUT : Fld := ⟨0x4802, 0, 16, .rw, .I, 0, .one⟩
/-- R413: ms before expiry; 0 while expired or off -/
def HOST_HB_CFG_LEFT : Fld := ⟨0x4802, 16, 16, .ro, .V, 0, .one⟩
/-- R413: Status of the last frame, R394 -/
def HOST_LAST_STATUS : Fld := ⟨0x4803, 0, 8, .ro, .V, 0, .one⟩
/-- R413: Its OPC byte as received, unknown values included -/
def HOST_LAST_OPC : Fld := ⟨0x4803, 8, 8, .ro, .V, 0, .one⟩
/-- R413: Its ADDR -/
def HOST_LAST_ADDR : Fld := ⟨0x4803, 16, 16, .ro, .V, 0, .one⟩
/-- R413: Bit d: door d open -/
def HOST_DOOR_OPEN : Fld := ⟨0x4804, 0, 4, .ro, .V, 0, .one⟩
/-- R413: Bit 4 + d: first step of door d pending -/
def HOST_DOOR_STEP : Fld := ⟨0x4804, 4, 4, .ro, .V, 0, .one⟩
/-- R413: Bit n enables cause n onto HINT_N -/
def INT_EN_EN : Fld := ⟨0x4809, 0, 16, .rw, .I, 0, .one⟩
/-- R413: Byte address, R400 -/
def HATCH_ADDR_ADDR : Fld := ⟨0x4810, 0, 24, .rw, .V, 0, .one⟩
/-- R413: Words less one -/
def HATCH_LEN_WORDS_M1 : Fld := ⟨0x4811, 0, 6, .rw, .V, 0, .one⟩
/-- R413: 1 starts a read -/
def HATCH_READ_GO : Fld := ⟨0x4812, 0, 1, .wo, .V, 0, .one⟩
/-- R413: 1 program, 2 erase; 0 does nothing; 3 refuses the frame with RANGE. Reads 0 -/
def HATCH_PROG_OP : Fld := ⟨0x4813, 0, 2, .rwd, .V, 0, .one⟩
/-- R413: 0 none, 1 read, 2 program, 3 erase -/
def HATCH_STAT_LAST_OP : Fld := ⟨0x4814, 1, 2, .ro, .V, 0, .one⟩
/-- R413: 0 none, 1 done, 2 timeout, 3 read-back mismatch -/
def HATCH_STAT_RESULT : Fld := ⟨0x4814, 4, 4, .ro, .V, 0, .one⟩
/-- R413: Last status byte read from the memory -/
def HATCH_STAT_FSTAT : Fld := ⟨0x4814, 8, 8, .ro, .V, 0, .one⟩
/-- R413: Hatch data words -/
def HATCH_DATA_DATA : Fld := ⟨0x4840, 0, 32, .rw, .V, 0, (.arr 64 1)⟩
/-- R414: Selected counter. Above 15 refuses the frame with RANGE -/
def EVC_SEL_SEL : Fld := ⟨0x4C00, 0, 8, .rw, .V, 0, .one⟩
/-- R430: Rows scanned, 0 to 160; 0 panel off. Above 160 refuses the frame with RANGE -/
def DISP_CTRL_LINES : Fld := ⟨0x5000, 0, 8, .rw, .I, 0, .one⟩
/-- R430: Hz, 1 to 60, R420. Other values refuse the frame with RANGE -/
def DISP_CTRL_REFRESH : Fld := ⟨0x5000, 8, 6, .rw, .I, 0, .one⟩
/-- R430: 0 composer, 1 host, R426 -/
def DISP_CTRL_SRC : Fld := ⟨0x5000, 16, 1, .rw, .I, 0, .one⟩
/-- R430: Band b: M[b][p] in bits 8p + 7 to 8p, R417 -/
def DISP_LEV_M : Fld := ⟨0x5001, 0, 32, .rw, .I, 0, (.arr 3 1)⟩
/-- R430: VCOM code, R417 -/
def DISP_VCOM_VCOM_DC : Fld := ⟨0x5004, 0, 8, .rw, .I, 0, .one⟩
/-- R430: Panel temperature input number -/
def DISP_BAND_CFG_PT_IN : Fld := ⟨0x5005, 0, 6, .rw, .I, 0, .one⟩
/-- R430: Use PT_IN, R428 -/
def DISP_BAND_CFG_PT_EN : Fld := ⟨0x5005, 8, 1, .rw, .I, 0, .one⟩
/-- R430: Signed, 1/128 °C -/
def DISP_BAND_LIM_BAND_LO : Fld := ⟨0x5006, 0, 16, .rw, .I, 0, .one⟩
/-- R430: Signed, 1/128 °C, at least BAND_LO -/
def DISP_BAND_LIM_BAND_HI : Fld := ⟨0x5006, 16, 16, .rw, .I, 0, .one⟩
/-- R430: First row checked, R423 -/
def DISP_RB_RB_FIRST : Fld := ⟨0x5007, 0, 8, .rw, .I, 0, .one⟩
/-- R430: Row step; 0 one row -/
def DISP_RB_RB_STEP : Fld := ⟨0x5007, 8, 8, .rw, .I, 0, .one⟩
/-- R430: Window half-width, codes -/
def DISP_RB_RB_TOL : Fld := ⟨0x5007, 16, 8, .rw, .I, 0, .one⟩
/-- R430: Read-back on -/
def DISP_RB_RB_EN : Fld := ⟨0x5007, 24, 1, .rw, .I, 0, .one⟩
/-- R430: 1 OFF, R424; 2 ON, which starts the panel under R422 after an OFF; 3 refuses the frame with RANGE -/
def DISP_CMD_CMD : Fld := ⟨0x5008, 0, 2, .wo, .V, 0, .one⟩
/-- R430: 0 off, 1 waiting for supplies, 2 clearing, 3 running, 4 discharging, 5 supply fault -/
def DISP_STAT_STATE : Fld := ⟨0x5009, 0, 3, .ro, .V, 0, .one⟩
/-- R430: 0 positive, 1 negative -/
def DISP_STAT_POL : Fld := ⟨0x5009, 3, 1, .ro, .V, 0, .one⟩
/-- R430: Latched band -/
def DISP_STAT_BAND : Fld := ⟨0x5009, 4, 2, .ro, .V, 1, .one⟩
/-- R430: Bits 8 to 11: VGH, VGL, VSH, VSL good -/
def DISP_STAT_SUP_OK : Fld := ⟨0x5009, 8, 4, .ro, .V, 0, .one⟩
/-- R430: Current slot; 255 in the hold -/
def DISP_STAT_SLOT : Fld := ⟨0x5009, 16, 8, .ro, .V, 0, .one⟩
/-- R430: Signed µs, R421 -/
def DISP_BAL_BAL : Fld := ⟨0x500A, 0, 24, .ro, .H, 0, .one⟩
/-- R430: R422 -/
def DISP_FLAGS_SUP_FAULT : Fld := ⟨0x500B, 0, 1, .w1c, .V, 0, .one⟩
/-- R430: Source mismatch -/
def DISP_FLAGS_RB_SRC : Fld := ⟨0x500B, 1, 1, .w1c, .V, 0, .one⟩
/-- R430: Gate clock or GSTV mismatch -/
def DISP_FLAGS_RB_GATE : Fld := ⟨0x500B, 2, 1, .w1c, .V, 0, .one⟩
/-- R430: R424 -/
def DISP_FLAGS_DISCHG_DONE : Fld := ⟨0x500B, 3, 1, .w1c, .V, 0, .one⟩
/-- R430: Row of the last mismatch -/
def DISP_RB_LOG_ROW : Fld := ⟨0x500C, 0, 8, .ro, .V, 0, .one⟩
/-- R430: 0 to 31 SRC, 32 to 35 GCK0 to GCK3, 36 GSTV -/
def DISP_RB_LOG_OUT : Fld := ⟨0x500C, 8, 6, .ro, .V, 0, .one⟩
/-- R430: Page shown; at or above NPAGES refuses the frame with RANGE -/
def DISP_PAGE_PAGE : Fld := ⟨0x500D, 0, 4, .rw, .I, 0, .one⟩
/-- R430: Image frames since boot -/
def DISP_FRAMES_COUNT : Fld := ⟨0x500E, 0, 32, .ro, .V, 0, .one⟩
/-- R430: Row y, word w at 0x5800 + 12y + w. Pixel x = 16w + i in bits 2i + 1 to 2i -/
def DISP_FB_PIX : Fld := ⟨0x5800, 0, 32, .rw, .V, 0, (.arr 1920 1)⟩

/-- R30: the access code of each coach word. -/
def coachAcc (w : Nat) : Acc :=
  if w = 45 then .st else if w = 8 ∨ w = 53 then .rw
  else if w ≤ 26 ∨ (30 ≤ w ∧ w ≤ 40) ∨ w = 43 ∨ w = 49 then .rwl else .ro

/-- R30: the survival class of each coach word. -/
def coachCls (w : Nat) : Cls := if w ≤ 40 ∨ w = 43 then .I else if w = 45 then .V else .H

/-- R30: word `w` of every coach, reached through the COACH window (R44). -/
def coachW (w : Nat) : Fld := ⟨0x1040 + w, 0, 32, coachAcc w, coachCls w, 0, .win 160 0x1000⟩

/-- The fields of addresses 0x0000 on, part 0. -/
def page00_0 : List Fld :=
  [MEM_ERR_COACH, MEM_ERR_SEAT, MEM_ERR_PEND, MEM_ERR_RESULT, MEM_ERR_TRIM, MEM_ERR_SCHED, MEM_ERR_STAGE,
   MEM_ERR_FB, MEM_ERR_COMPOSER, MEM_ERR_PP_RAM, MEM_ERR_PATCH, MEM_ERR_MAC, MEM_ERR_ROM, BOOT_STAT_COPY,
   BOOT_STAT_STRAP, BOOT_STAT_FALLBACK, BOOT_STAT_SIGNED, BOOT_STAT_SIG_OK, BOOT_STAT_ALT, BOOT_STAT_SIG_WAIT,
   BOOT_STAT_BOOT_TIME, BOOT_REJ_REASON, BOOT_REJ_INDEX, BOOT_REJ_TYPE, BOOT_SEQ_SEQ, IMG_PERSIST_CMD,
   IMG_PERSIST_TARGET_B, IMG_PERSIST_STATE, IMG_PERSIST_TARGET, IMG_PERSIST_RESULT, IMG_PERSIST_REASON,
   IMG_PLEN_LENGTH, IMG_PSEQ_SEQ, RGN_CTRL_CMD, RGN_CTRL_STATE, RGN_CTRL_SRC, RGN_CTRL_TYPE, RGN_OFS_OFS,
   RGN_RES_RESULT, RGN_RES_REASON, RGN_RES_LEFT, RGN_DATA_DATA, OTP_HASH_HASH, OTP_PROG_CMD, OTP_PROG_BUSY,
   OTP_PROG_RESULT]

/-- The fields of addresses 0x0400 on, part 0. -/
def page01_0 : List Fld :=
  [CLK_STAT_FALLBACK, CLK_STAT_XTAL_OK, CLK_STAT_PLL_LOCK, CLK_STAT_AUDIT_OK, CLK_FLAGS_XTAL_LOSS,
   CLK_FLAGS_PLL_LOSS, CLK_FLAGS_AUDIT_LOSS, CLK_FLAGS_RETURN, CLK_FB_TIME_MS, PWR_MODE_MODE, PWR_MODE_PREV,
   PWR_MODE_CMD, PWR_MODE_PEND, PWR_MODE_RESULT, PWR_STAT_EW, PWR_STAT_VDDA_UV, PWR_STAT_VM_UV, PWR_STAT_VM_OV,
   PWR_STAT_VDRV_LOW, PWR_STAT_HOST_LOST, PWR_STAT_NET_LOST, PWR_FLAGS_FLAGS, PWR_FLAGS_MODE_CHG, PWR_AUTO_FREL,
   PWR_WAKE_EN, PWR_WAKE_LAST, PWR_RST_CMD, PWR_RST_KEY, RST_CAUSE_CAUSE, RST_CAUSE_SOFT_CNT,
   RST_CAUSE_LAST_SOFT, PWR_VMEAS0_VDD_IO, PWR_VMEAS0_VDDA, PWR_VMEAS1_VM, PWR_VMEAS1_VCORE]

/-- The fields of addresses 0x0800 on, part 0. -/
def page02_0 : List Fld :=
  [ARB_STATUS_OWNER, ARB_STATUS_BUSY, ARB_STATUS_SWAP_PEND, ARB_STATUS_POINTER, ARB_STATUS_SEAT_COUNT,
   ARB_SWAP_REQ, ARB_SWAP_SHADOW_COUNT, ARB_HOLD_HOLD_LIMIT, ARB_HOLD_LOG_REQ, ARB_HOLD_LOG_LENGTH,
   ARB_FLAGS_HOLD_LONG, ARB_FLAGS_ORDER, ARB_FLAGS_SEAT_PAR, ARB_FLAGS_PEND_PAR, ARB_ORDER_LOG_REQ,
   ARB_ORDER_LOG_HELD, ARB_ORDER_LOG_ASKED, ARB_LAST_BG_ID, ARB_WSEL_SEL, ARB_WSEL_CLR, ARB_ACT_SEATS,
   ARB_SHD_SEATS]

/-- The fields of addresses 0x1000 on, part 0. -/
def page04_0 : List Fld :=
  [COACH_SEL_SEL, COACH_CMD_CMD, COACH_CMD_STAT_RESULT, COACH_CMD_STAT_COACH, ENG_STATUS_PMUL, WHEEL_HI_TICK]

/-- The fields of addresses 0x1800 on, part 0. -/
def page06_0 : List Fld :=
  [SUPV_LANE_LEAD, SUPV_LANE_FOLLOW, SUPV_LANE_SPARE, SUPV_LANE_RETIRED, SUPV_LANE_DEGRADED, SUPV_LANE_STOPPED,
   SUPV_LANE_SWAP_BUSY, SUPV_LANE_CMD_CMD, SUPV_LANE_CMD_RESULT, SUPV_LANE_LOG_COACH, SUPV_LANE_LOG_LOSER,
   SUPV_LANE_LOG_ITEM, SUPV_LANE_TICK_TICK, SUPV_STAT_CE, SUPV_STAT_DUE, SUPV_STAT_MISMATCH, SUPV_STAT_RETIRE,
   SUPV_STAT_NO_MAJ, SUPV_STAT_CMD_PATH, SUPV_STAT_XCHK_DIS, SUPV_STAT_PLAUS, SUPV_STAT_XCHK_SKIP,
   SUPV_CE_ADDR_COACH, SUPV_CE_ADDR_WORD, SUPV_CE_ADDR_SYNDROME, SUPV_DUE_ADDR_COACH, SUPV_DUE_ADDR_WORD,
   SUPV_DUE_ADDR_BY_SCRUB, SUPV_SCRUB_POS, SUPV_SCRUB_PASSES, SUPV_REPAIR_GO, SUPV_REPAIR_RESULT,
   SUPV_WDT_TIMEOUT, SUPV_WDT_REMAIN, SUPV_CMD_PATH_MAP, SUPV_XCHK_INPUT, SUPV_XCHK_COACH, SUPV_XCHK_DIFF]

/-- The fields of addresses 0x2000 on, part 0. -/
def page08_0 : List Fld :=
  [CONV_VREF_VREF, CONV_OWN_LO_OWN, CONV_OWN_HI_OWN, CONV_PRIV_THERM, CONV_PRIV_SUPV, CONV_PRIV_CAL,
   CONV_FLAGS_OVR, CONV_FLAGS_DROP, CONV_FLAGS_CLIP, CONV_URG_INPUT, CONV_URG_CONV, CONV_URG_GO, CONV_URG_DONE,
   CONV_URG_DROPPED, CONV_URG_BY, CONV_URG_RES_RAW, CONV_URG_RES_CORR, CONV_DATA_VALUE, CONV_DATA_INPUT,
   CONV_DATA_VALID, CONV_DATA_REASON, CONV_DATA_OVR, CONV_DATA_NEW, CONV_SCAN_LO_MASK, CONV_SCAN_HI_MASK]

/-- The fields of addresses 0x2400 on, part 0. -/
def page09_0 : List Fld :=
  [UI_SEL_SEL, UI_CFG_MODE, UI_CFG_INV, UI_CFG_SSIGN, UI_FILT_OSR, UI_FILT_IIR_SHIFT, UI_FILT_LR, UI_FILT_PACE,
   UI_OFFSET_OFFSET, UI_GAIN_GAIN, UI_LIN_BETA, UI_SCALE_LO, UI_SCALE_HI, UI_VALUE_VALUE, UI_VALUE_VALID,
   UI_VALUE_REASON, UI_VALUE_SRC, UI_AGE_AGE, UI_RAW_RAW, UI_PULSE_COUNT, UI_STAT_SETTLE_LEFT, UI_STAT_LR_FILL,
   UI_STAT_RELOAD, OCC_CFG_ZONES, OCC_CFG_KTH, OCC_CFG_PERSIST, OCC_TIME_HOLD, OCC_TIME_NF_SHIFT,
   OCC_TIME_FLOOR_MIN, OCC_STAT_DET, OCC_STAT_CH_OCC, OCC_ZONE_OCC, OCC_FORCE_FORCE, OCC_FLOOR_FLOOR,
   SNS_CTRL_EN, SNS_CTRL_FAST, SNS_CTRL_COUNT, SNS_CTRL_CRC_POLY, SNS_CTRL_CRC_INIT, SNS_STAT_BUSY,
   SNS_STAT_ENTRY, SNS_STAT_NACK, SNS_STAT_CRC, SNS_STAT_STRETCH, SNS_STAT_INVALID, SNS_ENT_ADDR,
   SNS_ENT_CMD_LEN, SNS_ENT_FMT, SNS_ENT_SHIFT, SNS_ENT_WAIT, SNS_ENT_PERIOD, SNS_CMD_CMD, SNS_SCL_GAIN,
   SNS_SCL_OFFSET, SNS_VAL_VALUE, SNS_VAL_VALID, SNS_VAL_REASON, SNS_VAL_FAILS, SNS_AGE_AGE]

/-- The fields of addresses 0x2800 on, part 0. -/
def page0A_0 : List Fld :=
  [CAL_CTRL_AUTO_EN, CAL_CTRL_REQ, CAL_STAT_CAL_UNTRACED, CAL_STAT_REF_LOW, CAL_STAT_NO_RELIEF,
   CAL_STAT_UNSERVED, CAL_FLAGS_CAL_FAIL, CAL_FLAGS_REPLACED, CAL_FLAGS_C_FAILED, CAL_FLAGS_SUSPECT,
   CAL_FLAGS_BOOT_FAIL, CAL_FLAGS_SYS_FAIL, CAL_SEL_SEL, CAL_TRIM_LO_TAPS, CAL_TRIM_HI_TAPS, CAL_INFO_RESULT,
   CAL_INFO_FAILS, CAL_INFO_SPREAD, CAL_INFO_REASON, CAL_INFO_TEMP, CAL_SYS_CMD_INPUT, CAL_SYS_CMD_POINT,
   CAL_SYS_CMD_ABORT, CAL_SYS_CMD_GO, CAL_SYS_STAT_BUSY, CAL_SYS_STAT_COUNT, CAL_SYS_STAT_RESULT, CAL_SYS_T_T0,
   CAL_SYS_T_T1, CAL_SYS_M0_M0, CAL_SYS_M1_M1, CAL_SYS_NEW_OFFSET, CAL_SYS_NEW_GAIN]

/-- The fields of addresses 0x2C00 on, part 0. -/
def page0B_0 : List Fld :=
  [THERM_STAT_LVL_VLV, THERM_STAT_LVL_DMP, THERM_STAT_LVL_FAN, THERM_STAT_HOLD, THERM_STAT_NONE_LEFT,
   THERM_THR0_WARN, THERM_THR0_L1, THERM_THR1_L2, THERM_THR1_L3, THERM_CUT_CUT, THERM_PWR0_P2, THERM_PWR0_P3,
   THERM_PWR0_P4, THERM_PWR0_P5, THERM_PWR1_P6, THERM_CMD_READMIT, THERM_CMD_STAT_RESULT, THERM_FLAGS_WARN,
   THERM_FLAGS_LEVEL_UP, THERM_FLAGS_CUT, THERM_FLAGS_EXCLUDE, THERM_FLAGS_BOOT_EXCL, THERM_FLAGS_URG_DROP,
   TS_SEL_SEL, TS_VALUE_T, TS_VALUE_VALID, TS_VALUE_SUBST, TS_STATE_ENTERED, TS_STATE_FAST, TS_STATE_FAILED,
   TS_STATE_CAUSE, TS_STATE_XCNT, TS_STATE_NOCHECK, TS_XCHK_EXPECT, TS_XCHK_DEV, TS_OFS_OFS, TS_OFS_KGRAD,
   TS_MAX_TMAX]

/-- The fields of addresses 0x3000 on, part 0. -/
def page0C_0 : List Fld :=
  [FAN_CTRL_EN, FAN_CTRL_PWM_40K, FAN_CTRL_DIR, FAN_CTRL_CATCH_EN, FAN_STATE_STATE, FAN_STATE_ATTEMPT,
   FAN_STATE_STALL_CNT, FAN_STATE_LOCK_CAUSE, FAN_DEMAND_DEMAND, FAN_DEMAND_REF, FAN_MEAS_SPEED, FAN_MEAS_IQ,
   FAN_MOTOR_POLES, FAN_MOTOR_KE, FAN_RL_RS, FAN_RL_LS, FAN_START_I_ALIGN, FAN_START_I_START, FAN_RAMP_RAMP_MS,
   FAN_RAMP_HANDOVER_RPM, FAN_SPD_LIM_MIN_RPM, FAN_SPD_LIM_MAX_RPM, FAN_ACCEL_ACCEL, FAN_ACCEL_DECEL,
   FAN_ILIM_I_LIMIT, FAN_ILIM_OC_TRIP, FAN_THR_THR1, FAN_THR_THR2, FAN_THR_THR3, FAN_SPD_PI_KP, FAN_SPD_PI_KI,
   FAN_PWM_DEAD, FAN_PWM_TMIN, FAN_PWM_ISNS_GAIN, FAN_PWM_RSHUNT, FAN_CMD_UNLOCK, FAN_COMMON_HEATER_BLOCK,
   FAN_COMMON_SRC, FAN_CDEM_DEMAND, FAN_FLAGS_FLAGS, FANT_CTRL_EN, FANT_CTRL_TACH_EN, FANT_CTRL_OD,
   FANT_CTRL_INV, FANT_STATE_STATE, FANT_STATE_STALL_CNT, FANT_STATE_TACH_LOST, FANT_STATE_PLAUS_RUN,
   FANT_MEAS_SPEED, FANT_MEAS_DUTY, FANT_LIM_MAX_RPM, FANT_LIM_START_DUTY, FANT_PI_KP, FANT_PI_KI,
   FANT_DEMAND_DEMAND, FANT_SD_RPM, FANT_SD_DUTY, FANA_CFG_EN, FANA_CFG_COACH, FANA_CFG_FAIL_RPM]

/-- The fields of addresses 0x3000 on, part 1. -/
def page0C_1 : List Fld :=
  [FANA_PT_TEMP, FANA_PT_RPM]

/-- The fields of addresses 0x3400 on, part 0. -/
def page0D_0 : List Fld :=
  [VLV_SEL_SEL, VLV_CFG_MODE, VLV_CFG_HS_USE, VLV_CFG_DIAG_OFF, VLV_CFG_COIL_IN, VLV_CFG_COIL_EN,
   VLV_PEAK0_I_PEAK, VLV_PEAK1_I_PEAK, VLV_PEAK2_I_PEAK, VLV_PEAK0_T_PEAK, VLV_PEAK1_T_PEAK, VLV_PEAK2_T_PEAK,
   VLV_HOLD_I_HOLD, VLV_HOLD_I_HOLD_MIN, VLV_TIMING_PEAK_WAIT, VLV_TIMING_T_RISE, VLV_TIMING_PULSE_PERIOD,
   VLV_BAND_BAND_LO, VLV_BAND_BAND_HI, VLV_THERM_V_RATED, VLV_STATE_STATE, VLV_STATE_BAND, VLV_STATE_VALUE,
   VLV_MEAS_CURRENT, VLV_MEAS_DUTY, VLV_DIAG_OFF_RES, VLV_DIAG_ON_RES, VLV_DIAG_CAUSE, VLV_DIAG_OFF_AGE,
   VLV_MAN_MAN_EN, VLV_MAN_MAN_VALUE, VLV_CMD_CLEAR, VLV_CMD_DIAG_NOW, VLV_CMD_HS_CLEAR, VLV_HS_BLOCKED,
   VLV_FLAGS_OPEN, VLV_FLAGS_SHORT_SUP, VLV_FLAGS_SHORT_GND, VLV_FLAGS_HS_OC, VLV_DIAG_CFG_DIAG_PERIOD]

/-- The fields of addresses 0x3800 on, part 0. -/
def page0E_0 : List Fld :=
  [DMP_SEL_SEL, DMP_CFG_EN, DMP_CFG_MICRO, DMP_CFG_REVERSE, DMP_CFG_HOME_BOOT, DMP_CFG_FB_EN, DMP_CFG_FB_IN,
   DMP_TRAVEL_STEPS, DMP_CURRENT_I_RUN, DMP_CURRENT_I_REST, DMP_SPEED_SPEED, DMP_SPEED_ACCEL, DMP_STALL_STALL_TH,
   DMP_STALL_STALL_N, DMP_STALL_STALL_MIN, DMP_FB_FB_LO, DMP_FB_FB_HI, DMP_FB_TOL_TOL, DMP_STATE_STATE,
   DMP_STATE_POS_OK, DMP_STATE_CAUSE, DMP_POS_POS, DMP_TARGET_VALUE, DMP_FBPOS_FB_POS, DMP_FBPOS_FB_VALID,
   DMP_MAN_MAN_EN, DMP_MAN_MAN_VALUE, DMP_CMD_HOME, DMP_CMD_CLEAR, DMP_SCHED_MAX_MOVING, DMP_SCHED_THR1,
   DMP_SCHED_THR2, DMP_SCHED_THR3, DMP_FLAGS_STALL, DMP_FLAGS_HOME_FAIL, DMP_FLAGS_FB_MISMATCH, DMP_FLAGS_BRIDGE,
   DMP_FLAGS_PREEMPT, BO_SEL_SEL, BO_CFG_EN, BO_CFG_HEATER, BO_CFG_XLOCK_EN, BO_CFG_XLOCK, BO_CFG_OPEN_EN,
   BO_TIMES_MIN_ON, BO_TIMES_MIN_OFF, BO_STATE_OUT, BO_STATE_CMD, BO_STATE_WAIT, BO_STATE_FORCED,
   BO_STATE_ELAPSED, BO_MAN_MAN_EN, BO_MAN_MAN_VALUE, BO_CMD_CLEAR, BO_FLAGS_OC, BO_FLAGS_OPEN, BO_FLAGS_LATCH]

/-- The fields of addresses 0x3C00 on, part 0. -/
def page0F_0 : List Fld :=
  [RTC_TIME_SEC, RTC_TIME_MIN, RTC_TIME_HOUR, RTC_DATE_DAY, RTC_DATE_MONTH, RTC_DATE_YEAR, RTC_DATE_WDAY,
   RTC_SUBSEC_SUBSEC, RTC_SET_TIME_SEC, RTC_SET_TIME_MIN, RTC_SET_TIME_HOUR, RTC_SET_DATE_DAY,
   RTC_SET_DATE_MONTH, RTC_SET_DATE_YEAR, RTC_SET_DATE_WDAY, RTC_CMD_SET, RTC_CMD_SET_WDAY, RTC_CMD_REARM,
   RTC_STAT_OSF, RTC_STAT_VBAT_LOW, RTC_STAT_ON_VBAT, RTC_STAT_LOSS, RTC_STAT_SHIFT_PEND, RTC_STAMP_TIME_SEC,
   RTC_STAMP_TIME_MIN, RTC_STAMP_TIME_HOUR, RTC_STAMP_DATE_DAY, RTC_STAMP_DATE_MONTH, RTC_STAMP_DATE_YEAR,
   RTC_STAMP_DATE_WDAY, RTC_STAMP_DATE_STAMPED, RTC_SHIFT_N, RTC_SHIFT_SUB, RTC_SHIFT_GO, RTC_COMP0_T0,
   RTC_COMP0_OFFSET, RTC_COMP1_K, RTC_COMP1_COMP_EN, RTC_COMP_STAT_N, RTC_COMP_STAT_TEMP, RTC_AL_T_SEC,
   RTC_AL_T_MIN, RTC_AL_T_HOUR, RTC_AL_D_DAY, RTC_AL_D_MONTH, RTC_AL_D_WDAY, RTC_AL_D_MASK, RTC_AL_D_EN,
   RTC_ALB_D_CATCH, RTC_AFLAG_AF_A, RTC_AFLAG_AF_B, RTC_AFLAG_CATCH_B, SCHED_CTRL_EN, SCHED_CTRL_NOTIME_SET,
   SCHED_CTRL_MAX_PRESTART, SCHED_STAT_NOTIME, SCHED_STAT_LAST_CHG, SCHED_ZSEL_SEL, ZONE_SP0_SP_OCC,
   ZONE_SP0_SP_STBY]

/-- The fields of addresses 0x3C00 on, part 1. -/
def page0F_1 : List Fld :=
  [ZONE_SP1_SP_UNOCC, ZONE_SP1_SP_OFF, ZONE_CFG_COACH, ZONE_CFG_OPT_EN, ZONE_CFG_DEFAULT_SET, ZONE_STATE_SET,
   ZONE_STATE_SCHED_SET, ZONE_STATE_PRESTART, ZONE_STATE_LEAD, ZONE_FORCE_FORCE, SCHED_WK_MINUTE, SCHED_WK_WDAYS,
   SCHED_WK_SET, SCHED_WK_OPT, SCHED_WK_EN, SCHED_WKZ_ZONES, SCHED_EX_DAY, SCHED_EX_MONTH, SCHED_EX_YEAR,
   SCHED_EX_ACTION, SCHED_EX_ARG, SCHED_EX_EN, SCHED_EXZ_ZONES]

/-- The fields of addresses 0x4000 on, part 0. -/
def page10_0 : List Fld :=
  [NET_CTRL_EN, NET_CTRL_DHCP_EN, NET_CTRL_STATIC_FB, NET_CTRL_FDR_EN, NET_CMD_RELINK, NET_CMD_SC_RETRY,
   NET_STAT_LINK, NET_STAT_AMPL, NET_STAT_IP_OK, NET_STAT_SC_STATE, NET_STAT_TIME_UNCHK, NET_STAT_DCC,
   NET_STAT_PP_RUN, NET_FLAGS_FLAGS, NET_PHY_AMPL_CFG, NET_PHY_LPI_EN, NET_PHY_SQI, NET_IP_ADDR_ADDR,
   NET_IP_MASK_MASK, NET_IP_GW_GW, NET_BIP_PORT, NET_FDR_TTL, NET_FDR_FDR_STATE, NET_DEV_DEV_INST,
   NET_DEV_SYNC_MON, NET_SUP_NET_TO, NET_SUP_SUP_EN, NET_SUP_SUP_PORTS, NET_SUP_LEFT_LEFT, NET_SC_STAT_ALERT,
   NET_SC_STAT_WAIT, NET_MB_CLI_MB_FAIL, NET_COV_ACTIVE, BUS_CFG_PROTO, BUS_CFG_BAUD, BUS_CFG_PARITY,
   BUS_CFG_BIAS, BUS_CFG_ADDR, BUS_MSTP_MAX_MASTER, BUS_MSTP_MAX_INFO, BUS_STAT_STATE, BUS_STAT_TOKEN_AGE,
   BUS_FLAGS_FLAGS]

/-- The fields of addresses 0x4800 on, part 0. -/
def page12_0 : List Fld :=
  [HOST_CFG_PORT, HOST_CFG_ADDR, HOST_HB_COUNT, HOST_HB_CFG_HB_TIMEOUT, HOST_HB_CFG_LEFT, HOST_LAST_STATUS,
   HOST_LAST_OPC, HOST_LAST_ADDR, HOST_DOOR_OPEN, HOST_DOOR_STEP, INT_EN_EN, HATCH_ADDR_ADDR, HATCH_LEN_WORDS_M1,
   HATCH_READ_GO, HATCH_PROG_OP, HATCH_STAT_LAST_OP, HATCH_STAT_RESULT, HATCH_STAT_FSTAT, HATCH_DATA_DATA]

/-- The fields of addresses 0x4C00 on, part 0. -/
def page13_0 : List Fld :=
  [EVC_SEL_SEL]

/-- The fields of addresses 0x5000 on, part 0. -/
def page14_0 : List Fld :=
  [DISP_CTRL_LINES, DISP_CTRL_REFRESH, DISP_CTRL_SRC, DISP_LEV_M, DISP_VCOM_VCOM_DC, DISP_BAND_CFG_PT_IN,
   DISP_BAND_CFG_PT_EN, DISP_BAND_LIM_BAND_LO, DISP_BAND_LIM_BAND_HI, DISP_RB_RB_FIRST, DISP_RB_RB_STEP,
   DISP_RB_RB_TOL, DISP_RB_RB_EN, DISP_CMD_CMD, DISP_STAT_STATE, DISP_STAT_POL, DISP_STAT_BAND, DISP_STAT_SUP_OK,
   DISP_STAT_SLOT, DISP_BAL_BAL, DISP_FLAGS_SUP_FAULT, DISP_FLAGS_RB_SRC, DISP_FLAGS_RB_GATE,
   DISP_FLAGS_DISCHG_DONE, DISP_RB_LOG_ROW, DISP_RB_LOG_OUT, DISP_PAGE_PAGE, DISP_FRAMES_COUNT]

/-- The fields of addresses 0x5800 on, part 0. -/
def page16_0 : List Fld :=
  [DISP_FB_PIX]

/-- The fields whose register stands in the 1024 addresses of a page. -/
def page (p : Nat) : List Fld :=
  match p with
  | 0x00 => page00_0
  | 0x01 => page01_0
  | 0x02 => page02_0
  | 0x04 => page04_0
  | 0x06 => page06_0
  | 0x08 => page08_0
  | 0x09 => page09_0
  | 0x0A => page0A_0
  | 0x0B => page0B_0
  | 0x0C => page0C_0 ++ page0C_1
  | 0x0D => page0D_0
  | 0x0E => page0E_0
  | 0x0F => page0F_0 ++ page0F_1
  | 0x10 => page10_0
  | 0x12 => page12_0
  | 0x13 => page13_0
  | 0x14 => page14_0
  | 0x16 => page16_0
  | _ => []

/-- The pages a field can stand in: an address page, the page before it for the frame buffer that crosses one. -/
def near (a : Nat) : List Fld := if 0x5C00 ≤ a ∧ a < 0x6000 then page 0x16 else page (a / 0x400)

/-- The fields that answer at an address. -/
def fieldsAt (a : Nat) : List Fld :=
  if 0x1040 ≤ a ∧ a < 0x1080 then [coachW (a - 0x1040)] else (near a).filter (fun f => f.hits a)

end Sys2Proof.Machine.Reg
end

