-- ==== Sys2Proof/Machine/Ops.lean ====
section
/-! DEFINITION. The named operations over the register store, the interrupt causes, the modes and the free values. -/

namespace Sys2Proof.Machine

/-- The answer of a meaning. -/
abbrev Out := Host.Outcome State Fault Refusal

/-- Reading a field of a channel. -/
def State.rdAt (s : State) (f : Fld) (ch : Nat) : Nat := Store.get s.regs f.id ch f.boot

/-- Writing a field of a channel; a value too wide for the field loses its high bits. -/
def State.wrAt (s : State) (f : Fld) (ch v : Nat) : State :=
  { s with regs := Store.put s.regs f.id ch f.boot (v % 2 ^ f.w) }

/-- Reading a field of a single register. -/
def State.rd (s : State) (f : Fld) : Nat := s.rdAt f 0

/-- Writing a field of a single register. -/
def State.wr (s : State) (f : Fld) (v : Nat) : State := s.wrAt f 0 v

/-- Whether a one-bit field of a channel is 1. -/
def State.onAt (s : State) (f : Fld) (ch : Nat) : Bool := s.rdAt f ch == 1

/-- Whether a one-bit field is 1. -/
def State.on (s : State) (f : Fld) : Bool := s.rd f == 1

/-- A signed field of a channel. -/
def State.rdI (s : State) (f : Fld) (ch : Nat) : Int := toI f.w (s.rdAt f ch)

/-- Writing a signed value to a field of a channel. -/
def State.wrI (s : State) (f : Fld) (ch : Nat) (v : Int) : State := s.wrAt f ch (ofI f.w v)

/-- Setting bits of a field of a channel. -/
def State.orAt (s : State) (f : Fld) (ch m : Nat) : State := s.wrAt f ch (s.rdAt f ch ||| m)

/-- Clearing bits of a field of a channel. -/
def State.clrAt (s : State) (f : Fld) (ch m : Nat) : State := s.wrAt f ch (clearBits (s.rdAt f ch) m)

/-- Setting bits of a field. -/
def State.or (s : State) (f : Fld) (m : Nat) : State := s.orAt f 0 m

/-- Setting or clearing one bit of a field. -/
def State.putBit (s : State) (f : Fld) (n : Nat) (b : Bool) : State :=
  s.wr f (if b then s.rd f ||| 2 ^ n else clearBits (s.rd f) (2 ^ n))

/-- Several one-register writes. -/
def State.wrs (s : State) : List (Fld × Nat) → State
  | [] => s
  | (f, v) :: t => (s.wr f v).wrs t

/-- Several writes to one channel. -/
def State.wrsAt (s : State) (ch : Nat) : List (Fld × Nat) → State
  | [] => s
  | (f, v) :: t => (s.wrAt f ch v).wrsAt ch t

/-- Doing something for each number of a list. -/
def State.each {α : Type} (s : State) (l : List α) (f : State → α → State) : State := l.foldl f s

/-- A change made only where a condition holds. -/
def State.whenB (s : State) (b : Bool) (f : State → State) : State := if b then f s else s

/-- R396: the number a select register holds. Select registers are of class V and start at bit 0. -/
def State.selected (s : State) (sel : Nat) : Nat := Store.get s.regs (sel * 32 * 4 + 3) 0 0

/-- The channel an address names for a field. -/
def Fld.chan (f : Fld) (a : Nat) (s : State) : Nat :=
  match f.idx with
  | .one => 0
  | .arr _ st => (a - f.addr) / st
  | .arr2 _ st m => (a - f.addr) / st * m + (a - f.addr) % st
  | .win _ sel => s.selected sel

/-- How many channels a field has. -/
def Fld.chans (f : Fld) : Nat :=
  match f.idx with
  | .one => 1
  | .arr n _ => n
  | .arr2 n _ m => n * m
  | .win n _ => n

/-- R337: the modes as PWR_MODE codes them. -/
def mBackup : Nat := 0
/-- M1. -/
def mBoot : Nat := 1
/-- M2. -/
def mSafe : Nat := 2
/-- M3. -/
def mService : Nat := 3
/-- M4. -/
def mNative : Nat := 4
/-- M5. -/
def mIz30 : Nat := 5
/-- M6. -/
def mStandby : Nat := 6
/-- M7. -/
def mAuto : Nat := 7

/-- The mode the controller is in. -/
def State.mode (s : State) : Nat := s.rd Reg.PWR_MODE_MODE

/-- Whether the controller runs its loops: SERVICE, NATIVE, IZ-30, STANDBY and AUTONOMOUS. -/
def State.operating (s : State) : Bool := decide (3 ≤ s.mode)

/-- SERVICE, NATIVE, STANDBY or AUTONOMOUS: the native operating modes. -/
def State.native (s : State) : Bool := s.operating && s.mode != mIz30

/-- Whether the main domain has power and is out of reset. -/
def State.alive (s : State) : Bool := s.mode != mBackup && s.rd Hid.resetActive == 0

/-- The main domain runs and BOOT is over. -/
def State.up (s : State) : Bool := s.alive && s.mode != mBoot

/-- R47: the wheel tick. -/
def State.tick (s : State) : Nat := s.rd Hid.tick

/-- R403: a cause of INT_CAUSE is raised. -/
def State.raise (s : State) (n : Nat) : State := { s with intCause := s.intCause ||| 2 ^ n }

/-- The next free value (log entry 2), and the machine with it taken. -/
def State.takeFree (s : State) : Nat × State := (Sys2Proof.Config.freeValue s.free, { s with free := s.free + 1 })

/-- A free value below `n`. -/
def State.freeBelow (s : State) (n : Nat) : Nat × State := ((s.takeFree).1 % n, (s.takeFree).2)

/-- Converter `c` of A (0), B (1) and C (2). -/
def State.conv (s : State) (c : Nat) : ConvS := s.convs.getD c {}

/-- R150, R334: a converter is powered. -/
def ConvS.powered (x : ConvS) : Bool := x.phase == .starting || x.phase == .ready

/-- The machine with converter `c` changed. -/
def State.setConv (s : State) (c : Nat) (x : ConvS) : State := { s with convs := setAt s.convs c x }

/-- The calibration of converter `c`. -/
def State.cal (s : State) (c : Nat) : CalS := s.cals.getD c {}

/-- The machine with the calibration of converter `c` changed. -/
def State.setCal (s : State) (c : Nat) (x : CalS) : State := { s with cals := setAt s.cals c x }

/-- R404: HINT_N is asserted; it is released throughout a boot reset and BOOT. -/
def State.hintN (s : State) : Bool :=
  (s.intCause &&& s.rd Reg.INT_EN_EN) != 0 && s.mode != mBoot && s.alive

/-- R401: an operation joins those that wait for the hatch path: 1 the host's, 2 SUPV_REPAIR's, 3 a persist's, 4 the reload of
the patch RAM (R26). -/
def State.pathJoin (s : State) (k : Nat) : State :=
  if s.hatch.path.contains k then s else { s with hatch := { s.hatch with path := s.hatch.path ++ [k] } }

/-- R401: an operation has left the hatch path. -/
def State.pathLeave (s : State) (k : Nat) : State := { s with hatch := { s.hatch with path := s.hatch.path.filter (fun j => j != k) } }

/-- R401: the hatch path serves this operation now. -/
def State.pathServes (s : State) (k : Nat) : Bool := (s.hatch.path.head?.getD k) == k

end Sys2Proof.Machine
end

