-- ==== Sys2Proof/Machine/Flags.lean ====
section
/-! DEFINITION. The event counters of R405, with the source codes of R111, R215, R251, R269, R299 and the other chapters: what
an occurrence adds, which sources are levels, and `fin`, the end of every meaning, where level sources are compared with what
they were. -/

namespace Sys2Proof.Machine

/-- A counter with `n` added, and whether it passed 0xFFFF_FFFF (R405). -/
def EvCtr.add (c : EvCtr) (n : Nat) : EvCtr × Bool :=
  ({ c with count := (c.count + n) % 2 ^ 32 }, decide (2 ^ 32 ≤ c.count + n))

/-- R405: the PERIPH cycles of a PRESC unit. -/
def prescCycles (presc : Nat) : Nat := if presc = 0 then 1 else if presc = 1 then 100 else 100000

/-- The amount `n` occurrences of one command add to a counter (R405): all of them in mode 1. In modes 2 and 3 occurrences
count by PERIPH cycle, and the model does not place the occurrences of one command in cycles: a free value from 1 to `n`. With
a PRESC of 1 or 2 a cycle is a part of a unit, and the free value is at most the units that `n` cycles begin (log entry 6). -/
def EvCtr.amount (c : EvCtr) (n f : Nat) : Nat :=
  if c.mode = 1 then n
  else if c.mode = 2 ∧ c.presc ≠ 0 then f % (2 + (n - 1) / prescCycles c.presc)
  else if n ≤ 1 then n else 1 + f % n

/-- The amount of `n` occurrences in consecutive PERIPH cycles (R392, R405): one rise in mode 3 where they are the first of their run, every
cycle in mode 2, and with a PRESC of 1 or 2 the whole units of them, or one more where they begin another (a free bit, log entry 6). -/
def EvCtr.amountRun (c : EvCtr) (n f : Nat) (first : Bool) : Nat :=
  if c.mode = 1 then n
  else if c.mode = 3 then b2n first
  else n / prescCycles c.presc + (if n % prescCycles c.presc = 0 then 0 else f % 2)

/-- The amount of `n` occurrences that may follow on others of one frame: all of them in mode 1, else a free value up to `n`. -/
def EvCtr.amountMore (c : EvCtr) (n f : Nat) : Nat :=
  if c.mode = 1 then n else if c.mode = 2 ∧ c.presc ≠ 0 then f % (2 + (n - 1) / prescCycles c.presc) else f % (n + 1)

/-- Adding to counter `k`, with the wrap's flag and cause. -/
def State.evcAdd (s : State) (k n : Nat) : State :=
  let r := (s.evcs.getD k {}).add n
  let t := { s with evcs := setAt s.evcs k r.1 }
  if r.2 then ({ t with evcWrap := t.evcWrap ||| 2 ^ k }).raise 15 else t

/-- `n` occurrences of an event source (R405). Counters run in every mode except BACKUP. -/
def State.countN (s : State) (code n : Nat) : State :=
  if n = 0 ∨ s.mode = mBackup then s
  else (upTo 16).foldl (fun t k =>
    let c := t.evcs.getD k {}
    if c.src = code ∧ c.mode ≠ 0 then
      if c.mode = 1 ∨ (n = 1 ∧ c.presc = 0) then t.evcAdd k (c.amount n 0)
      else (t.takeFree.2).evcAdd k (c.amount n t.takeFree.1)
    else t) s

/-- `n` occurrences of an event source, the first of a frame's or not, and in consecutive PERIPH cycles where `run` says so (R392, R405).
Others may follow on those before them. -/
def State.countWords (s : State) (code n : Nat) (run first : Bool) : State :=
  if run = false ∧ first = true then s.countN code n
  else if n = 0 ∨ s.mode = mBackup then s
  else (upTo 16).foldl (fun t k =>
    let c := t.evcs.getD k {}
    if c.src = code ∧ c.mode ≠ 0 then
      (t.takeFree.2).evcAdd k (if run then c.amountRun n t.takeFree.1 first else c.amountMore n t.takeFree.1)
    else t) s

/-- One occurrence of an event source. -/
def State.count (s : State) (code : Nat) : State := s.countN code 1

/-- An occurrence where a condition holds. -/
def State.countIf (s : State) (b : Bool) (code : Nat) : State := if b then s.count code else s

/-- Whether a source code names a level (the rows of the event tables marked for the cycle-counting mode). -/
def isLevel (code : Nat) : Bool :=
  [0x0C, 0x0D, 0x26, 0x3F, 0x51, 0x52, 0x53, 0x5A, 0x6F, 0x8E, 0x8F, 0x97, 0x9C, 0x7D, 0x7E, 0xAE, 0xF9, 0xBE, 0xBF, 0xDE,
   0xDF, 0xEB].contains code

/-- The level of a level source (R72, R111, R131, R165, R190 and the event tables of the other chapters) between two commands.
RESP_WAIT is true only inside a host frame, which is one step here: the frame's response makes it a pulse. CRYPTO_BUSY is true while a
key is made, and a pulse in the commands in which the crypto engine works otherwise. -/
def State.level (s : State) (code : Nat) : Bool :=
  if code = 0x0C then s.on Reg.ARB_STATUS_BUSY
  else if code = 0x0D then s.arb.pend.any (fun r => r.parked)
  else if code = 0x26 then !s.due.isEmpty
  else if code = 0x3F then s.on Reg.SUPV_LANE_SWAP_BUSY
  else if code = 0x51 then (s.conv 0).powered
  else if code = 0x52 then (s.conv 1).powered
  else if code = 0x53 then (s.conv 2).powered
  else if code = 0x5A then s.convs.any (fun c => decide (8 ≤ c.buf.length))
  else if code = 0x6F then s.relief.target.isSome
  else if code = 0x8F then s.on Reg.FAN_COMMON_HEATER_BLOCK
  else if code = 0x8E then s.on Hid.fanIlim
  else if code = 0x97 then s.rd Reg.THERM_STAT_LVL_VLV != 0 &&
    (upTo 8).any (fun n => s.rdAt Reg.VLV_STATE_STATE n == 4 && s.rdAt Reg.VLV_CFG_MODE n != 3)
  else if code = 0x9C then (upTo 4).any (fun d => s.rdAt Reg.DMP_STATE_STATE d == 2)
  else if code = 0x7D then s.rd Reg.THERM_STAT_LVL_VLV != 0 || s.rd Reg.THERM_STAT_LVL_DMP != 0 || s.rd Reg.THERM_STAT_LVL_FAN != 0
  else if code = 0x7E then (upTo 8).any (fun i => bit (s.rdAt Reg.TS_STATE_ENTERED i) 4)
  else if code = 0xAE then s.on Reg.SCHED_STAT_NOTIME
  else if code = 0xDE then s.hintN
  else if code = 0xF9 then s.rd Reg.RGN_CTRL_STATE == 4
  else if code = 0xBE then s.rd Reg.NET_STAT_SC_STATE == 1
  else if code = 0xBF then s.mode == mStandby && s.on Reg.NET_PHY_LPI_EN && s.on Hid.eee && s.on Reg.NET_STAT_LINK
  else if code = 0xEB then (s.rd Reg.DISP_STAT_STATE == 2 || s.rd Reg.DISP_STAT_STATE == 3) && !s.on Hid.dispHold
  else false

/-- The level sources compared with what they were: a source that has become true counts one in modes 1 and 3. -/
def State.evcEdge (s : State) : State :=
  if s.mode = mBackup then s
  else (upTo 16).foldl (fun t k =>
    let c := t.evcs.getD k {}
    if isLevel c.src then
      let l := s.level c.src
      let u := { t with evcs := setAt t.evcs k { c with lvl := l, seen := c.seen || l, held := c.held && l } }
      if l && !c.lvl && (c.mode == 1 || c.mode == 3) then u.evcAdd k 1 else u
    else t) s

/-- A level source that is true for a part of one command only, as during the entry test of a pair (R94): it counts one in modes 1
and 3, and has been true for a part of the running ms (log entry 6). -/
def State.levelPulse (s : State) (code : Nat) : State :=
  if s.mode = mBackup then s
  else (upTo 16).foldl (fun t k =>
    let c := t.evcs.getD k {}
    if c.src = code then
      let u := { t with evcs := setAt t.evcs k { c with seen := true } }
      if !c.lvl && (c.mode == 1 || c.mode == 3) then u.evcAdd k 1 else u
    else t) s

/-- R357, R405: a level source that is false for a part of one command only, `n` times or fewer: it has become true again at the end of the
command. It has not been true throughout the running ms. -/
def State.levelDrop (s : State) (code n : Nat) : State :=
  if s.mode = mBackup ∨ n = 0 ∨ s.level code = false then s
  else (upTo 16).foldl (fun t k =>
    let c := t.evcs.getD k {}
    if c.src = code then
      let more := if c.lvl then n - 1 else n
      let u := { t with evcs := setAt t.evcs k { c with lvl := false, held := false } }
      if more ≠ 0 && (c.mode == 1 || c.mode == 3) then (u.takeFree.2).evcAdd k (u.takeFree.1 % (more + 1)) else u
    else t) s

/-- R19, R405: the PRESC units in 1 ms: of 1, 100 and 100 000 PERIPH cycles, at 100 MHz or, in clock fallback, at 32 MHz. -/
def tickUnits (fallback : Bool) (presc : Nat) : Nat :=
  let cycles := if fallback then 32000 else 100000
  if presc = 0 then cycles else if presc = 1 then cycles / 100 else 1

/-- R405: the most PRESC units that counter `c` can add in the running ms. -/
def State.msUnits (s : State) (c : EvCtr) : Nat :=
  max (tickUnits (s.on Reg.CLK_STAT_FALLBACK) c.presc) (tickUnits (s.on Hid.evcFb) c.presc)

/-- R405, mode 2: counter `k` brought up to the present moment within a ms, for a read or a snapshot: of the running ms it has added a free
part of what it may (log entry 6). -/
def State.evcShow (s : State) (k : Nat) : State :=
  let c := s.evcs.getD k {}
  if isLevel c.src && c.mode == 2 && c.seen && s.mode != mBackup then
    let f := s.freeBelow (s.msUnits c - c.part + 1)
    ({ f.2 with evcs := setAt f.2.evcs k { c with part := c.part + f.1 } } : State).evcAdd k f.1
  else s

/-- R405, R406: a counter that is configured, preset or cleared within a ms: of that ms it can add only what follows (log entry 6). -/
def State.evcBegin (s : State) (c : EvCtr) : EvCtr :=
  let l := isLevel c.src && s.level c.src
  { c with seen := l, held := false }

/-- R405, mode 2, at a wheel tick: a level that has been true throughout the last ms adds all its units, one that has not
been true adds none, and one that changed adds a free value within that range (log entry 6). So does a ms in which the clock
was switched, and one in fallback that is less than a unit of 100 000 cycles. What has been added for a read or a snapshot is taken off. -/
def State.evcTick (s : State) : State :=
  if s.mode = mBackup then s
  else
   let fb := s.on Reg.CLK_STAT_FALLBACK
   let same := fb == s.on Hid.evcFb
   (upTo 16).foldl (fun t k =>
    let c := t.evcs.getD k {}
    if isLevel c.src then
      let units := s.msUnits c - c.part
      let u := { t with evcs := setAt t.evcs k { c with seen := c.lvl, held := c.lvl, part := 0 } }
      if c.mode != 2 || !c.seen then u
      else if c.held && same && !(fb && c.presc == 2) then u.evcAdd k units
      else (u.takeFree.2).evcAdd k (u.takeFree.1 % (units + 1))
    else t) s

/-- R318, R320, R323: an update ends with a result, a reason and its event. -/
def State.rgnEnd (s : State) (result reason code : Nat) : State :=
  (({ s.wrs [(Reg.RGN_CTRL_STATE, 0), (Reg.RGN_RES_RESULT, result), (Reg.RGN_RES_REASON, reason), (Reg.RGN_RES_LEFT, 0)] with
    rgn := {} }).count code).raise 14

/-- R318, R323, R329: an update has made its last change; one whose ABORT waited for it ends as aborted. -/
def State.rgnDone (s : State) : State := if s.rgn.aborted then s.rgnEnd 4 0 0xF5 else s.rgnEnd 1 0 0xF1

/-- The end of a meaning: the next state, its level sources compared. -/
def fin (t : State) : Out := .next t.evcEdge

end Sys2Proof.Machine
end

