-- ==== Sys2Proof/Machine/Arbiter.lean ====
section
/-! DEFINITION. The coach bus and the seat-plan arbiter (R112 to R131). Cycle counts are the commands' operands; the
arbiter's decisions, its records and its registers are state. -/

namespace Sys2Proof.Machine

/-- R26: an uncorrectable memory error sets the memory's bit of MEM_ERR and raises the SUPV cause. -/
def State.memErr (s : State) (f : Fld) : State := (s.wr f 1).raise 1

/-- R113, R116: the loop engine's three IDs are one requester. -/
def reqOf (id : Nat) : Nat := if id ≤ 2 then 0 else id

/-- R112: what a beat address of the coach bus holds: words 2k and 2k + 1 of a coach, the even one in bits 31:0, a result store
entry, or nothing (reserved). -/
inductive BeatPlace where
  | coach (c k : Nat)
  | result (input : Nat)
  | reserved
  deriving DecidableEq, Repr

/-- R112: the table of beat addresses. -/
def beatPlace (b : Nat) : BeatPlace :=
  if b ≤ 0x13FF then .coach (b / 32) (b % 32) else if b ≤ 0x143F then .result (b - 0x1400) else .reserved

/-- R112: the beat of coach word `w` and the word-enable bits of a write of that word alone. -/
def beatOf (c w : Nat) : Nat × Nat := (c * 32 + w / 2, 2 ^ (w % 2))

/-- R112: every beat of a carriage lies in one of the memories. -/
def inMemory (c : Sys2Proof.Carriage) : Bool :=
  (upTo c.beats).all (fun k => beatPlace (c.beat % 0x2000 + k) != .reserved)

/-- R112: the word-enable bits of the `n` beats from `b` on, for a write of the coach words `words`. -/
def enablesOf (c : Nat) (words : List Nat) (b n : Nat) : List Nat :=
  (upTo n).map (fun k => (words.filter (fun w => (beatOf c w).1 == b + k)).foldl (fun e w => e ||| (beatOf c w).2) 0)

/-- R112, R113: the word-enable bits that a request names, two for each beat of a write, and none for a read. -/
def enableBits (write : Bool) (l : List Nat) : List Nat := if write then l.map (fun e => e % 4) else []

/-- R113: the longest legal carriage of a requester, in beats. -/
def legalBeats (id : Nat) : Nat := if id = 11 then 64 else 16

/-- R121: the carriages of a burst of the host bridge: at most 64 beats each. -/
def splitBurst : Nat → Nat → Nat → List (Nat × Nat)
  | 0, _, _ => []
  | fuel + 1, beat, n => if n = 0 then [] else (beat, min n 64) :: splitBurst fuel (beat + 64) (n - 64)

/-- The seat of the active plan under a pointer (R119): its byte in ARB_ACT. -/
def State.seat (s : State) (p : Nat) : Nat := bits (s.rdAt Reg.ARB_ACT_SEATS (p / 4)) (8 * (p % 4)) 8

/-- R120: where the seat pointer stands; with no seats it stays at 0. -/
def State.pointerAt (s : State) (p : Nat) : Nat :=
  if s.rd Reg.ARB_STATUS_SEAT_COUNT = 0 then 0 else p % s.rd Reg.ARB_STATUS_SEAT_COUNT

/-- R117: a requester is excluded while a requester it has passed still waits. -/
def ArbS.excluded (a : ArbS) (r : Nat) : Bool :=
  a.pend.any (fun w => a.passed.contains (reqOf r, reqOf w.id))

/-- R116: how an arbitration was won. -/
inductive WonBy where
  | cont | prec | seat | bg
  deriving DecidableEq, Repr

/-- R116: the winner among the waiting requests, with the seat read at the pointer (`seatOk` false: wrong parity, R119). -/
def State.arbitrate (s : State) (pointer : Nat) (seatOk : Bool) : Option (BusReq × WonBy) :=
  let a := s.arb
  match a.pend.find? (fun r => r.cont && decide (r.id ≤ 2)) with
  | some r => some (r, .cont)
  | none =>
    match (if s.on Reg.CLK_STAT_FALLBACK then a.pend.find? (fun r => r.id == 3) else none) with
    | some r => some (r, .prec)
    | none =>
      let elig := a.pend.filter (fun r => !a.excluded r.id)
      let seat := s.seat pointer
      let bySeat :=
        if seatOk && bits seat 4 1 == 0 && s.rd Reg.ARB_STATUS_SEAT_COUNT != 0 then
          elig.find? (fun r => reqOf r.id == reqOf (bits seat 0 4))
        else none
      match bySeat with
      | some r => some (r, .seat)
      | none =>
        let last := s.rd Reg.ARB_LAST_BG_ID
        ((upTo 16).map (fun k => (last + 1 + k) % 16)).findSome? (fun id =>
          (elig.find? (fun r => r.id == id)).map (fun r => (r, WonBy.bg)))

/-- R116, `win`: a winner other than a continuation erases the passes over it, and one by seat or background records that
it has passed every other requester waiting. -/
def ArbS.win (a : ArbS) (r : BusReq) (how : WonBy) : ArbS :=
  let rest := a.pend.filter (fun w => reqOf w.id != reqOf r.id)
  let passed :=
    match how with
    | .cont => a.passed
    | .prec => a.passed.filter (fun q => q.2 != reqOf r.id)
    | _ => (a.passed ++ (rest.map (fun w => (reqOf r.id, reqOf w.id))).filter (fun q => !a.passed.contains q)).filter
        (fun q => q.2 != reqOf r.id)
  { a with pend := rest, passed := passed, errs := a.errs.filter (fun q => q != reqOf r.id) }

/-- The bus given to a winner: at once when it is idle, at the owner's release otherwise (R115). -/
def State.busGrant (s : State) (r : BusReq) : State :=
  let t := (s.count 0x00).count (0x10 + reqOf r.id)
  match t.arb.running with
  | none => ({ t with arb := { t.arb with running := some r, held := false } }).wrs
      [(Reg.ARB_STATUS_OWNER, r.id), (Reg.ARB_STATUS_BUSY, 1)]
  | some _ => { t with arb := { t.arb with winner := some r } }

/-- R130: the longest wait of a requester, of the loop engine under the ID of the lane that waited (DESIGN CHOICE, log entry 73). -/
def State.noteWait (s : State) (id wait : Nat) : State :=
  if s.rdAt Hid.wmax id < wait then s.wrAt Hid.wmax id (capN (2 ^ 24 - 1) wait) else s

/-- Parking the requests that did not win (R122). -/
def State.parkRest (s : State) : State :=
  let n := (s.arb.pend.filter (fun r => !r.parked)).length
  ({ s with arb := { s.arb with pend := s.arb.pend.map (fun (r : BusReq) => { r with parked := true }) } }).countN 0x04 n

/-- R122: discarding the pending entries whose parity is wrong at an arbitration; their requesters receive an error. -/
def State.dropBadPend (s : State) (bad : List BusReq) : State :=
  if bad.isEmpty then s
  else ((({ s with arb := { s.arb with pend := s.arb.pend.filter (fun r => !bad.contains r),
                                       errs := s.arb.errs ++ bad.map (fun (r : BusReq) => reqOf r.id) } }).wr
    Reg.ARB_FLAGS_PEND_PAR 1).countN 0x09 bad.length).memErr Reg.MEM_ERR_PEND

/-- R26, R122: the requesters of discarded entries raise their requests again, after the arbitration that found the errors. -/
def State.raiseAgain (s : State) (bad : List BusReq) : State :=
  let busy := s.arb.running.isSome || s.arb.winner.isSome
  ({ s with arb := { s.arb with pend := s.arb.pend ++ bad.map (fun (r : BusReq) => { r with parked := busy }) } }).countN 0x04
    (if busy then bad.length else 0)

/-- R119: a seat read with wrong parity. -/
def State.seatParity (s : State) : State :=
  (((s.wr Reg.ARB_FLAGS_SEAT_PAR 1).count 0x08).raise 2).memErr Reg.MEM_ERR_SEAT

/-- R124: a request out of rank order is refused: ORDER, its log and its count, the cause, and an error for the requester. -/
def State.orderRefuse (s : State) (id held asked : Nat) : State :=
  ((({ s with arb := { s.arb with errs := s.arb.errs ++ [reqOf id] } }).wrs [(Reg.ARB_FLAGS_ORDER, 1), (Reg.ARB_ORDER_LOG_REQ, id),
    (Reg.ARB_ORDER_LOG_HELD, held), (Reg.ARB_ORDER_LOG_ASKED, asked)]).count 0x07).raise 2

/-- R124: a requester owns the coach bus, the resource of rank 1. -/
def State.ownsBus (s : State) (id : Nat) : Bool := s.arb.running.any (fun r => reqOf r.id == reqOf id)

/-- R122, R124: a request is raised. A requester has at most one request parked or granted; its owner may not ask for the bus
again before its final beat. No requester asks for more beats than its longest legal carriage (R113). `ask.last` says that the
request falls into an arbitration cycle of a busy bus, in which it can still win at once (R115); otherwise it is parked there. -/
def State.busRaise (s : State) (id : Nat) (c : Sys2Proof.Carriage) (ask : Sys2Proof.Ask) : State :=
  let same := fun (r : BusReq) => reqOf r.id == reqOf id
  if s.ownsBus id then s.orderRefuse id 1 1
  else if s.arb.pend.any same || s.arb.winner.any same then s
  else
    let parked := (s.arb.running.isSome && !ask.last) || s.arb.winner.isSome
    let r : BusReq := { id := id, beat := c.beat % 0x2000, write := c.write, beats := min c.beats (legalBeats id), cont := ask.cont,
                        parked := parked, enables := enableBits c.write ask.enables }
    ({ s with arb := { s.arb with pend := s.arb.pend ++ [r], errs := s.arb.errs.filter (fun q => q != reqOf id) } }).countIf parked 0x04

/-- R112, R122: a request for consecutive beats, none of which is a reserved address. -/
def State.busAsk (s : State) (id : Nat) (c : Sys2Proof.Carriage) (ask : Sys2Proof.Ask) : State :=
  if inMemory { c with beats := min c.beats (legalBeats id) } then s.busRaise id c ask else s

/-- R122, R426: requester 12 raises its next carriage once the last one is over. -/
def State.fetchNext (s : State) : State :=
  let same := fun (r : BusReq) => reqOf r.id == 12
  if s.arb.pend.any same || s.arb.winner.any same || s.ownsBus 12 then s
  else
    match s.arb.fetches with
    | [] => s
    | b :: l => ({ s with arb := { s.arb with fetches := l } } : State).busAsk 12 { beat := b, write := false, beats := 1 } {}

/-- R426: the composer asks for one more carriage, which reads beat `b`. -/
def State.fetchAsk (s : State) (b : Nat) : State :=
  ({ s with arb := { s.arb with fetches := s.arb.fetches ++ [b] } } : State).fetchNext

/-- R113: who asks under an ID: of the loop engine's IDs only that of the lead lane. In clock fallback the protocol processor and
the crypto DMA make no requests (R19). -/
def State.mayAsk (s : State) (id : Nat) : Bool :=
  s.alive && (decide (3 ≤ id) || id == s.rd Reg.SUPV_LANE_LEAD) && !(s.on Reg.CLK_STAT_FALLBACK && (id == 10 || id == 13))

/-- COACH_BUS_REQUEST, R122. -/
def execCoachBusRequest (req : Fin 15) (beat : Nat) (write : Bool) (beats : Nat) (ask : Sys2Proof.Ask) (s : State) : Out :=
  if s.mayAsk req.val then fin (s.busAsk req.val { beat := beat, write := write, beats := beats } ask) else fin s

/-- R118: a continuation raised in the cycle after an arbitration takes the grant; the displaced winner stays parked with
its passes unchanged. -/
def State.displace (s : State) (c : Sys2Proof.Carriage) (wait : Nat) : State :=
  let lane := s.rd Reg.SUPV_LANE_LEAD
  let r : BusReq := { id := lane, beat := c.beat % 0x2000, write := c.write, beats := min c.beats 16, cont := true, parked := false,
                      enables := enableBits c.write c.enables }
  ((((s.count 0x0B).count 0x03).noteWait lane wait).busGrant r).parkRest

/-- The records of a winner (R116, R130, R131). -/
def State.winRecord (s : State) (r : BusReq) (how : WonBy) (wait : Nat) : State :=
  let t := { s with arb := s.arb.win r how }
  (match how with
    | .cont => t.count 0x03
    | .prec => t
    | .seat => t.count 0x01
    | .bg => t.count 0x02).noteWait r.id wait

/-- R116: an arbitration among the requests that wait. A winner by seat or background that a continuation then displaces (R118) has counted
its win, and counts again when it wins later (DESIGN CHOICE, log entry 73). -/
def State.arbiter (s : State) (p : Nat) (seatBad : Bool) (wait : Nat) (contAfter : Option Sys2Proof.Carriage) : State :=
  match s.arbitrate p (!seatBad) with
  | none => s.parkRest
  | some (r, how) =>
    let open_ := how == .seat || how == .bg
    let s2 := s.countIf (open_ && s.arb.pend.any (fun q => s.arb.excluded q.id)) 0x05
    let s3 := if open_ && seatBad then s2.seatParity else s2
    let s4 := if how == .bg then s3.wr Reg.ARB_LAST_BG_ID r.id else s3
    match contAfter.filter (fun c => inMemory { c with beats := min c.beats 16 }) with
    | some c =>
      if how == .cont then ((s4.winRecord r how wait).busGrant r).parkRest
      else (s4.countIf (how == .seat) 0x01).countIf (how == .bg) 0x02 |>.displace c wait
    | none => ((s4.winRecord r how wait).busGrant r).parkRest

/-- ARBITRATION, R116: a winner is decided. `wait` is the winner's wait in FABRIC cycles, `contAfter` the continuation that the
engine raises in the next cycle (R118). ARB_STATUS.POINTER keeps where the pointer stood; a read finds it moved on (R120). -/
def execArbitration (pointer : Nat) (seatBad : Bool) (pendBad : List Nat) (wait : Nat) (contAfter : Option Sys2Proof.Carriage)
    (s : State) : Out :=
  let p := s.pointerAt pointer
  let t := s.wr Reg.ARB_STATUS_POINTER p
  if t.arb.winner.isSome then fin t
  else
    let bad := t.arb.pend.filter (fun r => pendBad.contains r.id)
    let u := t.dropBadPend bad
    fin ((if u.arb.pend.isEmpty then u else u.arbiter p seatBad wait contAfter).raiseAgain bad)

/-- R123: the running carriage has passed HOLD_LIMIT. -/
def State.holdLong (s : State) : State :=
  if s.arb.held then s
  else (((({ s with arb := { s.arb with held := true } }).wrs
    [(Reg.ARB_FLAGS_HOLD_LONG, 1), (Reg.ARB_HOLD_LOG_REQ, s.rd Reg.ARB_STATUS_OWNER)]).count 0x06).raise 2)

/-- HOLD_LONG, R123: only while a carriage runs and the monitor is on. -/
def execHoldLong (s : State) : Out :=
  if s.arb.running.isSome && s.rd Reg.ARB_HOLD_HOLD_LIMIT != 0 then fin s.holdLong else fin s

/-- R114: the bus passes on at the owner's final beat: a decided winner becomes the owner. -/
def State.busPass (s : State) : State :=
  match s.arb.winner with
  | some r => ({ s with arb := { s.arb with running := some r, winner := none, held := false } }).wrs
      [(Reg.ARB_STATUS_OWNER, r.id), (Reg.ARB_STATUS_BUSY, 1)]
  | none => ({ s with arb := { s.arb with running := none, held := false } }).wr Reg.ARB_STATUS_BUSY 0

/-- R124: a requester that holds a resource may request only one of higher rank. `held` has bit r − 1 for rank r. -/
def orderRefused (held asked : Nat) : Bool := (upTo 3).any (fun k => bit held k && decide (asked ≤ k + 1))

/-- RESOURCE_REQUEST, R124: a request out of rank order is refused; any other is left to its resource. `held` names ranks 1 to 3 in
bits 0 to 2; a requester that owns the coach bus holds rank 1 as well. A rank other than 1 to 3 names no resource. -/
def execResourceRequest (req : Fin 15) (held asked : Nat) (s : State) : Out :=
  let h := held % 8 ||| b2n (s.ownsBus req.val)
  if 1 ≤ asked ∧ asked ≤ 3 ∧ orderRefused h asked = true then fin (s.orderRefuse req.val h asked) else fin s

/-- R126: the shadow plan copied into the active plan at the pointer's wrap. -/
def State.seatSwap (s : State) : State :=
  ((s.each (upTo 16) (fun t k => t.wrAt Reg.ARB_ACT_SEATS k (t.rdAt Reg.ARB_SHD_SEATS k))).wrs
    [(Reg.ARB_STATUS_SEAT_COUNT, s.rd Reg.ARB_SWAP_SHADOW_COUNT), (Reg.ARB_STATUS_POINTER, 0),
     (Reg.ARB_STATUS_SWAP_PEND, 0), (Reg.ARB_SWAP_REQ, 0)]).count 0x0A

/-- SEAT_PLAN_SWAP, R126: at the wrap, while a swap is pending; it is the last change of a seat-plan update (R319). -/
def execSeatPlanSwap (s : State) : Out :=
  if s.on Reg.ARB_STATUS_SWAP_PEND then
    fin (s.seatSwap.whenB (s.rd Reg.RGN_CTRL_STATE == 4 && s.rd Reg.RGN_CTRL_TYPE == 9) State.rgnDone)
  else fin s

end Sys2Proof.Machine
end

