-- ==== Sys2Proof/Machine/Convert.lean ====
section
/-! DEFINITION. From a corrected converter code to a stored value: R133 to R138, R253. Temperatures follow formulas with a
logarithm or a cubic and a stated tolerance of one LSB: the model computes the formula's value rounded down and leaves the
choice of that value or the next to a free bit (log entry 7). -/

namespace Sys2Proof.Machine

/-- The sum of y^(2j+1)/(2j+1) for j from `j` on, in units of 2^-64; `p` is y^(2j+1). -/
def artanhSum : Nat → Nat → Nat → Nat → Nat
  | 0, _, _, _ => 0
  | n + 1, p, y2, j => p / (2 * j + 1) + artanhSum n (p * y2 / 2 ^ 64) y2 (j + 1)

/-- ln(num/den) for den ≤ num ≤ 2 den, in units of 2^-64. -/
def lnRatio (num den : Nat) : Nat :=
  let y := (num - den) * 2 ^ 64 / (num + den)
  2 * artanhSum 24 y (y * y / 2 ^ 64) 0

/-- ln n for n ≥ 1, in units of 2^-64. -/
def lnNat (n : Nat) : Nat := Nat.log2 n * lnRatio 2 1 + lnRatio n (2 ^ Nat.log2 n)

/-- What a conversion to a stored value gives: the REASON (0 NONE, 3 UNDER, 4 OVER) and the value, where the spec states
one. With `free` the value stands within one LSB: this value or the next. -/
structure Natural where
  reason : Nat
  value : Option Int
  free : Bool := false
  deriving DecidableEq, Repr

/-- R134: an NTC input. The temperature is floor(128 T) in 1/128 °C, and the stored value that or the next. -/
def ntc (beta : Nat) (c : Int) : Natural :=
  if c ≤ 0 then ⟨4, none, false⟩
  else
    let l : Int := (lnNat c.toNat : Int) - lnNat (32768 - c).toNat
    let den : Int := 100 * 2 ^ 64 * beta + 29815 * l
    if den ≤ 0 then ⟨4, none, false⟩
    else
      let t : Int := (128 * 29815 * 2 ^ 64 * beta * 100 - 128 * 27315 * den) / (100 * den)
      let r := if t < -6400 then 3 else if 19200 ≤ t then 4 else 0
      ⟨r, if -32768 ≤ t ∧ t < 32767 then some t else none, true⟩

/-- The IEC 60751 resistance of a 1000 Ω element at `t`/128 °C, in units of 1000 Ω / (128^4 × 10^15) (R135; the C
coefficient, −4.183 × 10^−12, is the standard's, log entry 8). -/
def ptOhm (t : Int) : Int :=
  let q : Int := 128 ^ 4 * 10 ^ 15 + 39083 * 10 ^ 8 * 128 ^ 3 * t - 5775 * 10 ^ 5 * 128 ^ 2 * t * t
  if 0 ≤ t then q else q - 4183 * (t - 12800) * t * t * t

/-- The largest `t` from `lo` with `ptOhm t ≤ r`, by halving a range of 2^n. -/
def ptSearch : Nat → Int → Int → Int
  | 0, lo, _ => lo
  | n + 1, lo, r =>
    let m := lo + 2 ^ n
    if ptOhm m ≤ r then ptSearch n m r else ptSearch n lo r

/-- R135: a PT1000 input; `vref` is CONV_VREF in 0.1 mV. -/
def pt1000 (vref : Nat) (c : Int) : Natural :=
  -- c × vref × 10^−4 V / 32768 / (6 × 200 µA), brought to the unit of ptOhm
  let r : Int := c * vref * 10 ^ 12 * 128 ^ 4 / (32768 * 12)
  let t := ptSearch 16 (-32768) r
  if t = -32768 then ⟨3, none, false⟩
  else if t = 32767 then ⟨4, none, false⟩
  else ⟨if t < -7680 then 3 else if 20480 ≤ t then 4 else 0, some t, true⟩

/-- R136: a scaled mode, its natural result and its limits. -/
def scaledMode (mode vref : Nat) (c : Int) : Natural :=
  let p : Int := c * vref
  if mode = 4 then
    ⟨if p < -13107200 then 3 else if 668467200 < p then 4 else 0, some (clampI 0 65535 (rndUp (p * 65535) 655360000)), false⟩
  else if mode = 5 then
    ⟨if p < 113246208 then 3 else if 660602880 < p then 4 else 0,
      some (clampI 0 65535 (rndUp ((p - 125829120) * 65535) 503316480)), false⟩
  else
    ⟨if 3342336 < c * 128 then 4 else 0, some (clampI 0 65535 (rndUp (c * 128 * 65535) 3276800)), false⟩

/-- R137: scaling by UI_SCALE. -/
def uiScale (lo hi : Nat) (ssign : Bool) (n : Int) : Int :=
  if lo = 0 ∧ hi = 0 then n
  else
    let l : Int := if ssign then toI 16 lo else lo
    let h : Int := if ssign then toI 16 hi else hi
    let v := l + rndUp ((h - l) * n) 65535
    if ssign then clampI (-32768) 32767 v else clampI 0 65535 v

/-- R253: a die sensor's temperature from its corrected code. -/
def tsTemp (l : TsLine) (c : Int) : Int := l.t25 + rndUp ((c - l.c25) * l.slope) 65536

/-- R135, R136, R183: the reference the sample mover computes with, in 0.1 mV: CONV_VREF, or 2.500 V while a converter runs
on VREF_INT with CAL_UNTRACED set. -/
def State.vrefUsed (s : State) (untraced : Bool) : Nat :=
  if untraced && s.on Reg.CAL_STAT_CAL_UNTRACED then 25000 else s.rd Reg.CONV_VREF_VREF

/-- R133: MODE of an input; inputs 40 to 63 read 15. -/
def State.uiMode (s : State) (i : Nat) : Nat := if 40 ≤ i then 15 else s.rdAt Reg.UI_CFG_MODE i

/-- The settings of an input as they stand, which its next scan entry starts with (R149). -/
def State.inSet (s : State) (i : Nat) (untraced : Bool) : InSet :=
  { mode := s.uiMode i, ssign := s.onAt Reg.UI_CFG_SSIGN i, iir := s.rdAt Reg.UI_FILT_IIR_SHIFT i, lr := s.rdAt Reg.UI_FILT_LR i,
    untraced := untraced }

/-- R189: the bits of CAL_TRIM_LO and CAL_TRIM_HI that a trim set has: a converter's nine taps, PEAK and HOLD of a valve,
OFFSET of the fan. -/
def trimMask (k : Nat) : Nat × Nat := if k < 3 then (0x3FFFFFFF, 0xFFFFFF) else if k < 11 then (0x3F3F, 0) else (0x3F, 0)

/-- The bits of a register that the selected channel stores; the others are reserved and read 0 (R8). Inputs 40 to 63 have no
MODE of their own (R133), trim sets differ (R189), and a seat has 5 bits (R119). -/
def State.liveBits (s : State) (a : Nat) : Nat :=
  if a = 0x2401 then (if 40 ≤ s.rd Reg.UI_SEL_SEL then 0xFFFFFFF0 else 0xFFFFFFFF)
  else if a = 0x2805 then (trimMask (s.rd Reg.CAL_SEL_SEL)).1
  else if a = 0x2806 then (trimMask (s.rd Reg.CAL_SEL_SEL)).2
  else if 0x0860 ≤ a ∧ a ≤ 0x086F then 0x1F1F1F1F
  else 0xFFFFFFFF

/-- The natural result of input `i` for the corrected code `c` under an entry's settings (R133 to R137, R140, R149, R253).
Housekeeping inputs without a rule of their own store the code (log entry 9). -/
def State.natural (s : State) (i : Nat) (set : InSet) (c : Int) : Natural :=
  let m := set.mode
  if m = 1 ∨ m = 2 then ntc (s.rdAt Reg.UI_LIN_BETA i) c
  else if m = 3 then pt1000 (s.vrefUsed set.untraced) c
  else if m = 4 ∨ m = 5 ∨ m = 6 then
    let n := scaledMode m (s.vrefUsed set.untraced) c
    { n with value := n.value.map (uiScale (s.rdAt Reg.UI_SCALE_LO i) (s.rdAt Reg.UI_SCALE_HI i) set.ssign) }
  else if 54 ≤ i ∧ i ≤ 61 then
    let v := tsTemp (s.otp.lines.getD (i - 54) {}) c
    ⟨0, if -32768 ≤ v ∧ v ≤ 32767 then some v else none, false⟩
  else ⟨0, some c, false⟩

/-- The stored value of a natural result: the stated value, that value or the next where the spec gives a tolerance, a free
value where it states none. -/
def State.settleValue (s : State) (n : Natural) : Int × State :=
  match n.value with
  | some v => if n.free then (v + (s.freeBelow 2).1, (s.freeBelow 2).2) else (v, s)
  | none => ((s.freeBelow 65536).1, (s.freeBelow 65536).2)

end Sys2Proof.Machine
end

