-- ==== Sys2Proof/Machine/Crc.lean ====
section
/-! DEFINITION. The CRC-8 of R105, carried by Lyale frames (R390) and by actuator commands (R106). -/

namespace Sys2Proof.Machine

/-- One byte of a CRC-8 with a given polynomial, most significant bit first, nothing reflected. -/
def crc8Byte (poly c b : Nat) : Nat :=
  (List.range 8).foldl (fun c _ => if 128 ≤ c then Nat.xor (c * 2 % 256) poly else c * 2 % 256) (Nat.xor c (b % 256))

/-- CRC-8 with a polynomial and a starting value over a list of bytes. -/
def crc8With (poly init : Nat) (l : List Nat) : Nat := l.foldl (crc8Byte poly) init

/-- The CRC-8 of R105: polynomial 0x2F, initial value 0xFF. -/
def crc8 (l : List Nat) : Nat := crc8With 0x2F 0xFF l

/-- The CRC-32 of R301 over a list of bytes, reflected, one bit at a time. -/
def crc32Byte (c b : Nat) : Nat :=
  (List.range 8).foldl (fun c _ => if c % 2 = 1 then Nat.xor (c / 2) 0xEDB88320 else c / 2) (Nat.xor c (b % 256))

/-- The CRC-32 of R301: initial value and final exclusive-or of all ones. -/
def crc32 (l : List Nat) : Nat := Nat.xor (l.foldl crc32Byte 0xFFFFFFFF) 0xFFFFFFFF

end Sys2Proof.Machine
end

