-- ==== Sys2Proof/Machine/Inputs.lean ====
section
/-! DEFINITION. From a raw result to the result store (R132 to R145, R151 to R157, R162): the sample mover, the
occupancy detectors, the comparator inputs and the sensor master. -/

namespace Sys2Proof.Machine

/-- The signed 16-bit saturation of R152. -/
def sat16 (x : Int) : Int := clampI (-32768) 32767 x

/-- R152: a raw code corrected by an input's OFFSET and GAIN, before saturation. -/
def State.correct (s : State) (i : Nat) (code : Int) : Int :=
  rndUp ((code - s.rdI Reg.UI_OFFSET_OFFSET i) * s.rdAt Reg.UI_GAIN_GAIN i) 16384

/-- R147: the owner of an input: 0 A, 1 B. -/
def State.ownerOf (s : State) (i : Nat) : Nat :=
  if i < 32 then bits (s.rd Reg.CONV_OWN_LO_OWN) i 1 else bits (s.rd Reg.CONV_OWN_HI_OWN) (i - 32) 1

/-- R351: a supply measurement in mV from the corrected code of its divided input. -/
def State.supplyMv (s : State) (c : Int) (k : Nat) : Nat :=
  (clampI 0 65535 (rndUp (c * s.rd Reg.CONV_VREF_VREF * k) 327680)).toNat

/-- R351, R217, R254: what the supply monitors, the valve block and the thermal block take from a stored VALID result. -/
def State.housekeep (s : State) (i : Nat) (v : Int) : State :=
  if i = 50 then s.wr Reg.PWR_VMEAS0_VDD_IO (s.supplyMv v 2)
  else if i = 51 then s.wr Reg.PWR_VMEAS0_VDDA (s.supplyMv v 2)
  else if i = 52 then (s.wr Reg.PWR_VMEAS1_VM (s.supplyMv v 16)).wr Hid.vlvVm (s.supplyMv v 16)
  else if i = 53 then s.wr Reg.PWR_VMEAS1_VCORE (s.supplyMv v 1)
  else if 54 ≤ i ∧ i ≤ 61 then (s.wrI Hid.tsGot (i - 54) v).wrAt Hid.tsNew (i - 54) 1
  else s

/-- R142: the occupancy of zone `z` before OCC_FORCE: any enabled channel that maps it is occupied, or none maps it. -/
def State.zoneDetected (s : State) (z : Nat) : Bool :=
  let maps := (upTo 4).filter (fun n => s.rdAt Reg.OCC_CFG_PERSIST n != 0 && bit (s.rdAt Reg.OCC_CFG_ZONES n) z)
  maps.isEmpty || maps.any (fun n => bit (s.rd Reg.OCC_STAT_CH_OCC) n)

/-- R142: the occupancy of zone `z` after OCC_FORCE. -/
def State.zoneOccupied (s : State) (z : Nat) : Bool :=
  let f := bits (s.rd Reg.OCC_FORCE_FORCE) (2 * z) 2
  if f = 1 then false else if f = 2 then true else s.zoneDetected z

/-- OCC_ZONE brought up to date; a change counts, and a zone that turns occupied is a wake event (R340). -/
def State.refreshZones (s : State) : State :=
  let old := s.rd Reg.OCC_ZONE_OCC
  let new := bitMap 16 s.zoneOccupied
  if old = new then s
  else ((s.wr Reg.OCC_ZONE_OCC new).count 0x55).whenB ((upTo 16).any (fun z => bit new z && !bit old z))
    (fun t => t.wr Hid.wakeOcc 1)

/-- A channel's occupancy bit; an off channel reads not occupied (R141). -/
def State.setOcc (s : State) (n : Nat) (b : Bool) : State :=
  (s.putBit Reg.OCC_STAT_CH_OCC n (b && s.rdAt Reg.OCC_CFG_PERSIST n != 0)).refreshZones

/-- R141, R142: HOLD has not passed since the channel's last detection. -/
def State.occHeld (s : State) (n : Nat) : Bool :=
  decide (s.tick + 1 - s.rdAt Hid.occLast n < s.rdAt Reg.OCC_TIME_HOLD n * 1000)

/-- R141, R142: every channel's bit from its detector, at the end of BOOT and of a soft reset. -/
def State.occFresh (s : State) : State :=
  s.each (upTo 4) (fun t n => t.setOcc n (t.occHeld n || bit (t.rd Reg.OCC_STAT_DET) n))

/-- R141: one step of a channel's detector with a stored VALID result. -/
def State.occStep (s : State) (n : Nat) (x : Int) : State :=
  if s.rdAt Reg.OCC_CFG_PERSIST n = 0 ∨ s.mode = mSafe ∨ s.mode = mIz30 then s
  else
    let m := x.natAbs
    let floor := s.rdAt Reg.OCC_FLOOR_FLOOR n
    let base := max floor (s.rdAt Reg.OCC_TIME_FLOOR_MIN n)
    if base * s.rdAt Reg.OCC_CFG_KTH n < m * 16 then
      let run := capN 255 (s.rdAt Hid.occRun n + 1)
      let t := s.wrAt Hid.occRun n run
      if s.rdAt Reg.OCC_CFG_PERSIST n ≤ run then
        let u := (t.countIf (!bit (s.rd Reg.OCC_STAT_DET) n) 0x54).putBit Reg.OCC_STAT_DET n true
        (u.wrAt Hid.occLast n (s.tick + 1)).setOcc n true
      else t.setOcc n (t.occHeld n || bit (s.rd Reg.OCC_STAT_DET) n)
    else
      let f : Int := floor + rndUp ((m : Int) - floor) (2 ^ s.rdAt Reg.OCC_TIME_NF_SHIFT n)
      let t := ((s.wrAt Hid.occRun n 0).putBit Reg.OCC_STAT_DET n false).wrAt Reg.OCC_FLOOR_FLOOR n (clampI 0 65535 f).toNat
      t.setOcc n (t.occHeld n)

/-- R443: the IZ-30 code of AIN `i` from its newest result; NODATA, SETTLE and ECC give no new code. -/
def State.izStore (s : State) (i : Nat) (v : Int) (reason : Nat) : State :=
  if s.mode != mIz30 || decide (8 ≤ i) || reason == 1 || decide (6 ≤ reason) then s
  else
    let m := s.rdAt Reg.UI_CFG_MODE i
    let code := if m = 10 then ofI 16 v / 16 else if m = 7 then (if v = 0 then 4095 else 0)
      else (clampI 0 4095 (s.rdI Hid.izCorr i / 8)).toNat
    s.wrAt Hid.izCode i code

/-- R371: the value the network shows for an Analog Input, left alone by a SETTLE result. -/
def State.netStore (s : State) (i : Nat) (v : Int) (reason : Nat) : State :=
  if i < 40 ∧ reason ≠ 1 then s.wrsAt i [(Hid.aiVal, ofI 16 v), (Hid.aiRsn, reason)] else s

/-- R152, `store`: a result enters the result store with its reason and source; AGE becomes 0. A VALID result of an
occupancy channel or a housekeeping input goes on to its user. -/
def State.storeResult (s : State) (i : Nat) (v : Int) (reason src : Nat) : State :=
  let t := s.wrsAt i [(Reg.UI_VALUE_VALUE, ofI 16 v), (Reg.UI_VALUE_VALID, b2n (reason == 0)), (Reg.UI_VALUE_REASON, reason),
    (Reg.UI_VALUE_SRC, src), (Reg.UI_AGE_AGE, 0)]
  let u := ((((t.count 0x4A).countIf (reason == 1) 0x4B).countIf (reason == 2) 0x4C).countIf (reason == 3) 0x4D).countIf
    (reason == 4) 0x4E
  let w := ((u.whenB (reason == 2) (fun t => t.wr Reg.CONV_FLAGS_CLIP 1)).netStore i v reason).izStore i v reason
  if reason = 0 then
    if 40 ≤ i ∧ i ≤ 43 then w.occStep (i - 40) v else w.housekeep i v
  else w

/-- Storing the conversion of a corrected code, with a mark of its own or the mode's UNDER and OVER (R152, R156). -/
def State.storeConverted (s : State) (i : Nat) (c : Int) (mark src : Nat) (set : InSet) : State :=
  let n := s.natural i set c
  let r := (s.whenB (s.mode == mIz30 && decide (i < 8)) (fun t => t.wrI Hid.izCorr i c)).settleValue n
  r.2.storeResult i r.1 (if mark ≠ 0 then mark else n.reason) src

/-- R152, `emit`: the first-order filter and the store. -/
def State.emit (s : State) (i : Nat) (c : Int) (src : Nat) (set : InSet) : State :=
  let y := s.rdI Hid.iirY i
  let new := if s.onAt Reg.UI_STAT_RELOAD i then c else y + rndUp (c - y) (2 ^ set.iir)
  ((s.wrI Hid.iirY i new).wrAt Reg.UI_STAT_RELOAD i 0).storeConverted i new 0 src set

/-- R149: the settings of an input's latest scan entry. -/
def State.inForce (s : State) (i : Nat) : InSet :=
  let v := s.rdAt Hid.uiSet i
  { mode := bits v 0 4, ssign := bit v 4, iir := bits v 5 4, lr := bits v 9 2, untraced := bit v 11 }

/-- R149, R154: an entry of input `i` starts under `set`. A change of LR that takes effect with it begins the first window. -/
def State.setForce (s : State) (i : Nat) (set : InSet) : State :=
  let t := s.wrAt Hid.uiSet i (set.mode + 16 * b2n set.ssign + 32 * set.iir + 512 * set.lr + 2048 * b2n set.untraced)
  if (s.inForce i).lr = set.lr then t
  else t.wrsAt i [(Reg.UI_STAT_LR_FILL, b2n (set.lr != 0)), (Hid.winSum, 0), (Hid.winCnt, 0)]

/-- R129, R152: the sample mover adds a raw result to its accumulator, where it follows on from the last one; an entry of which a
result is missing is not stored. -/
def Accu.take (a : Option Accu) (r : Raw) : Option Accu :=
  let lim := r.code == -32768 || r.code == 32767
  if r.k = 0 then some { input := r.input, osr := r.osr, got := 1, sum := r.code, settle := r.settle, limit := lim, set := r.set, seq := r.seq,
                          win := r.win }
  else
    a.bind (fun a =>
      if a.seq = r.seq ∧ a.got = r.k then
        some { a with got := a.got + 1, sum := a.sum + r.code, settle := a.settle || r.settle, limit := a.limit || lim, win := r.win }
      else none)

/-- The complete entries that wait for the mover in a converter's buffer and CONV_DATA (R129). -/
def ConvS.waiting (x : ConvS) : List Accu :=
  ((x.buf ++ x.data.toList).foldl (fun (p : Option Accu × List Accu) r =>
    match Accu.take p.1 r with
    | some a => if a.got = a.osr then (none, p.2 ++ [a]) else (some a, p.2)
    | none => (none, p.2)) (x.accu, [])).2

/-- R152: the corrected code of a complete entry, and its mark: 1 SETTLE, 2 CLIP, 0 none. -/
def State.entryCode (s : State) (a : Accu) : Int × Nat :=
  let raw := s.correct a.input (rndUp a.sum a.osr)
  (sat16 raw, if a.settle then 1 else if a.limit || raw != sat16 raw then 2 else 0)

/-- R154: the valid entries of an input that belong to its running window and still wait for the mover at a converter. -/
def State.windowWaits (s : State) (i c : Nat) : List Accu :=
  (s.conv c).waiting.filter (fun a => a.input == i && a.set.lr == (s.inForce i).lr && a.win == s.rdAt Hid.winNo i && (s.entryCode a).2 == 0)

/-- R154: the codes of the valid entries of an input that belong to its running window and still wait for the mover. -/
def State.windowRest (s : State) (i : Nat) : List Int :=
  ((upTo 3).flatMap (s.windowWaits i)).map (fun a => (s.entryCode a).1)

/-- R152: SRC of a window: the converter of its newest entry. Of several at which entries wait, that is the one that makes the input's
scan now: C while it relieves the owner, else the owner. -/
def State.windowSrc (s : State) (i : Nat) : Nat :=
  let l := (upTo 3).filter (fun c => !(s.windowWaits i c).isEmpty)
  let now := if s.relief.target = some (s.ownerOf i) then 2 else s.ownerOf i
  match l with
  | [] => s.rdAt Hid.winSrc i
  | c :: _ => if l.contains now then now else c

/-- R185: a system calibration point takes the OSR averages of its input that are not marked SETTLE. -/
def State.sysTake (s : State) (i : Nat) (a : Int) (settle limit : Bool) : State :=
  if s.on Reg.CAL_SYS_STAT_BUSY ∧ s.rd Hid.sysIn = i ∧ settle = false ∧ s.rd Hid.sysCnt < 256 then
    ((s.wrI Hid.sysSum 0 (s.rdI Hid.sysSum 0 + a)).wrs [(Hid.sysCnt, s.rd Hid.sysCnt + 1),
      (Reg.CAL_SYS_STAT_COUNT, capN 255 (s.rd Hid.sysCnt + 1))]).whenB limit (fun t => t.wr Hid.sysClip 1)
  else s

/-- R152, `mover_entry`: a complete scan entry is averaged, corrected, filtered and stored. A window that a change of LR has ended
takes no more entries and stores nothing, and one that has ended has counted its entries by itself (R154). -/
def State.moverEntry (s : State) (a : Accu) (src : Nat) : State :=
  let i := a.input
  let avg := rndUp a.sum a.osr
  let c := (s.entryCode a).1
  let mark := (s.entryCode a).2
  let t := (s.wrAt Reg.UI_RAW_RAW i (ofI 16 avg)).sysTake i avg a.settle a.limit
  if mark ≠ 0 then (t.storeConverted i c mark src a.set).wrAt Reg.UI_STAT_RELOAD i 1
  else if a.set.lr = 0 then t.emit i c src a.set
  else if a.set.lr ≠ (s.inForce i).lr ∨ a.win ≠ s.rdAt Hid.winNo i then t
  else
    let u := (t.wrI Hid.winSum i (t.rdI Hid.winSum i + c)).wrsAt i [(Hid.winCnt, t.rdAt Hid.winCnt i + 1), (Hid.winSrc, src)]
    if s.onAt Reg.UI_STAT_LR_FILL i then (u.storeConverted i c 1 src a.set).wrAt Reg.UI_STAT_RELOAD i 1 else u

/-- OCC_HOLD_EXPIRY, R141: HOLD seconds after the last detection the channel is occupied only while it detects. -/
def execOccHoldExpiry (chan : Fin 4) (s : State) : Out :=
  let n := chan.val
  if s.rdAt Reg.OCC_CFG_PERSIST n = 0 ∨ s.mode = mSafe ∨ s.mode = mIz30 ∨ s.alive = false then fin s
  else fin (s.setOcc n (s.occHeld n || bit (s.rd Reg.OCC_STAT_DET) n))

/-- LR_WINDOW_END, R152, R154: the mean of a window's valid entries is emitted, and the next window begins. The entries whose last
conversion has ended in the window count in it, those that still wait for the mover as well. -/
def execLrWindowEnd (input : Fin 64) (s : State) : Out :=
  let i := input.val
  if (s.inForce i).lr = 0 ∨ s.alive = false then fin s
  else
    let rest := s.windowRest i
    let n := s.rdAt Hid.winCnt i + rest.length
    let t := if n = 0 then s else (s.wrAt Reg.UI_STAT_LR_FILL i 0).emit i (rndUp (rest.foldl (· + ·) (s.rdI Hid.winSum i)) n)
      (s.windowSrc i) (s.inForce i)
    fin (t.wrsAt i [(Hid.winSum, 0), (Hid.winCnt, 0), (Hid.winNo, s.rdAt Hid.winNo i + 1)])

/-- The comparator history of an input. -/
def State.pulse (s : State) (i : Nat) : Pulse := (s.pulses.find? (fun p => p.input == i)).getD { input := i }

/-- The machine with an input's comparator history replaced. -/
def State.setPulse (s : State) (p : Pulse) : State :=
  { s with pulses := p :: s.pulses.filter (fun q => q.input != p.input) }

/-- The edges that a history keeps when one arrives at `us`: it, the one before it, and those of the last 2 s. -/
def keepEdges (us : Nat) (l : List Nat) : List Nat := us :: (l.take 1 ++ (l.drop 1).filter (fun r => decide (us ≤ r + 2000000)))

/-- R138: the history as INV shows it: with the sense inverted the edges change places. -/
def Pulse.sensed (p : Pulse) (inv : Bool) : Pulse :=
  if inv then { p with rises := p.falls, falls := p.rises, level := !p.level } else p

/-- UI_COMPARATOR_EDGE, R138: a qualified edge (after the 20 ms debounce, or past the 50 µs pulse filter; log entry 10) at
time `us`. In CONTACT mode a falling edge closes the contact. The totaliser counts the rising edges of the sense in force. -/
def execUiComparatorEdge (input : Fin 40) (high : Bool) (us : Nat) (s : State) : Out :=
  let i := input.val
  let m := s.rdAt Reg.UI_CFG_MODE i
  if s.operating = false ∨ m < 7 ∨ 10 < m then fin s
  else if m = 7 then fin (s.wrAt Hid.contact i (b2n (!high)))
  else
    let p := s.pulse i
    if p.level == high then fin s
    else
      let q : Pulse := if high then { p with rises := keepEdges us p.rises, level := true }
        else { p with falls := keepEdges us p.falls, level := false }
      let t := s.setPulse q
      fin (if m = 8 ∧ high ≠ s.onAt Reg.UI_CFG_INV i then t.wrAt Reg.UI_PULSE_COUNT i (s.rdAt Reg.UI_PULSE_COUNT i + 1) else t)

/-- R138, PULSE_FREQ: edges less one over the time from the first to the last edge of the last 250 ms, in 1/16 Hz; 0 with
fewer than two edges in 2 s; between the two the spec states no value. -/
def Pulse.freq (p : Pulse) (us : Nat) : Option Int :=
  let near := p.rises.filter (fun r => decide (us ≤ r + 250000))
  let far := p.rises.filter (fun r => decide (us ≤ r + 2000000))
  let first := near.getLastD 0
  let last := near.headD 0
  if far.length < 2 then some 0
  else if near.length < 2 ∨ last ≤ first then none
  else some (clampI 0 65535 (rndUp (((near.length : Int) - 1) * 16000000) (last - first)))

/-- R138, PULSE_DUTY: the high time of the last complete period; 0 or 65 535 for a level that has not changed for 2 s. -/
def Pulse.duty (p : Pulse) (us : Nat) : Option Int :=
  if max (p.rises.headD 0) (p.falls.headD 0) + 2000000 ≤ us then some (if p.level then 65535 else 0)
  else
    match p.rises with
    | last :: first :: _ =>
      match p.falls.find? (fun f => decide (f < last)) with
      | some f => if first ≤ f ∧ first < last then some (rndUp (((f : Int) - first) * 65535) (last - first)) else none
      | none => none
    | _ => none

/-- The value of a comparator input that the UI logic stores. -/
def State.comparatorValue (s : State) (i us : Nat) : Option Int :=
  let m := s.rdAt Reg.UI_CFG_MODE i
  let inv := s.onAt Reg.UI_CFG_INV i
  if m = 7 then some (b2n (s.onAt Hid.contact i != inv))
  else if m = 8 then some (s.rdAt Reg.UI_PULSE_COUNT i % 65536 : Nat)
  else if m = 9 then ((s.pulse i).sensed inv).freq us
  else ((s.pulse i).sensed inv).duty us

/-- R138, R155, R157: one store of a comparator input by the UI logic, marked SETTLE after a MODE change. -/
def State.uiLogicOne (s : State) (us i : Nat) : State :=
  let m := s.rdAt Reg.UI_CFG_MODE i
  if m < 7 ∨ 10 < m then s
  else
    let left := s.rdAt Reg.UI_STAT_SETTLE_LEFT i
    let t := if left = 0 then s else s.wrAt Reg.UI_STAT_SETTLE_LEFT i (left - 1)
    let r := t.settleValue ⟨0, s.comparatorValue i us, false⟩
    (r.2.storeResult i r.1 (if left = 0 then 0 else 1) 3).whenB (left != 0) (fun u => u.wrAt Reg.UI_STAT_RELOAD i 1)

/-- UI_LOGIC_STORE, R138: every 10 ms the value of each contact and pulse input is stored. -/
def execUiLogicStore (us : Nat) (s : State) : Out :=
  if s.operating then fin ((upTo 40).foldl (fun t i => t.uiLogicOne us i) s) else fin s

/-- R162: polling is off in SAFE and in IZ-30 mode. -/
def State.polling (s : State) : Bool := s.native && s.on Reg.SNS_CTRL_EN

/-- R144: an entry that the master polls. -/
def State.polled (s : State) (n : Nat) : Bool := decide (n < s.rd Reg.SNS_CTRL_COUNT) && s.rdAt Reg.SNS_ENT_PERIOD n != 0

/-- R144, R162: the ticks between two polls of an entry; eight times as many in STANDBY. -/
def State.pollTicks (s : State) (n : Nat) : Nat := s.rdAt Reg.SNS_ENT_PERIOD n * 100 * (if s.mode = mStandby then 8 else 1)

/-- R144, R162: the entries that fall due at a wheel tick: those of whose PERIOD its number is a multiple (DESIGN CHOICE for the
phase, log entry 66). -/
def State.pollTick (s : State) : State :=
  if s.polling then
    s.each ((upTo 32).filter (fun n => s.polled n && s.tick % s.pollTicks n == 0)) (fun t n => t.wrAt Hid.snsDue n 1)
  else s

/-- R144: of the entries due, the one polled next. -/
def State.pollNext (s : State) : Option Nat := (upTo 32).find? (fun n => s.onAt Hid.snsDue n && s.polled n)

/-- R143, R144: the transaction of an entry's poll. -/
def State.pollTx (s : State) (n : Nat) : SnsTx :=
  let c := s.rdAt Reg.SNS_CMD_CMD n
  let len := s.rdAt Reg.SNS_ENT_CMD_LEN n
  { target := s.rdAt Reg.SNS_ENT_ADDR n
    cmd := if len = 0 then [] else if len = 1 then [c / 256] else [c / 256, c % 256]
    wait := if len = 0 then 0 else s.rdAt Reg.SNS_ENT_WAIT n
    reads := if 2 ≤ s.rdAt Reg.SNS_ENT_FMT n then 3 else 2
    khz := if s.on Reg.SNS_CTRL_FAST then 400 else 100 }

/-- SENSOR_POLL_START, R144: the transaction of the lowest entry due begins; one transaction at a time. -/
def execSensorPollStart (entry : Fin 32) (s : State) : Out :=
  let n := entry.val
  if s.polling && s.pollNext == some n && !s.on Reg.SNS_STAT_BUSY then
    let t : State := { s with snsTx := s.pollTx n }
    fin (((t.wrAt Hid.snsDue n 0).wrs [(Reg.SNS_STAT_BUSY, 1), (Reg.SNS_STAT_ENTRY, n)]).count 0x56)
  else fin s

/-- R145: a failed poll. The third in a row turns the entry invalid. -/
def State.pollFail (s : State) (n : Nat) : State :=
  let f := capN 15 (s.rdAt Reg.SNS_VAL_FAILS n + 1)
  let t := ((s.wrAt Reg.SNS_VAL_FAILS n f).wr Reg.SNS_STAT_BUSY 0).count 0x57
  if f = 3 then ((t.wrsAt n [(Reg.SNS_VAL_VALID, 0), (Reg.SNS_VAL_REASON, 5)]).wr Reg.SNS_STAT_INVALID 1).count 0x58 else t

/-- R144: the scaled value of a poll, held to what 16 bits can carry signed or unsigned (log entry 11). -/
def State.pollValue (s : State) (n hi lo : Nat) : Nat :=
  let raw := hi % 256 * 256 + lo % 256
  let r : Int := if s.rdAt Reg.SNS_ENT_FMT n % 2 = 1 then toI 16 raw else raw
  let v := s.rdI Reg.SNS_SCL_OFFSET n + rndUp (r * s.rdI Reg.SNS_SCL_GAIN n) (2 ^ s.rdAt Reg.SNS_ENT_SHIFT n)
  ofI 16 (clampI (-32768) 65535 v)

/-- SENSOR_POLL_DONE, R144, R145: the poll under way ends with data or a NACK. -/
def execSensorPollDone (reply : SensorReply) (s : State) : Out :=
  let n := s.rd Reg.SNS_STAT_ENTRY
  if s.on Reg.SNS_STAT_BUSY = false ∨ s.alive = false then fin s
  else
    match reply with
    | .nack => fin ((s.wr Reg.SNS_STAT_NACK 1).pollFail n)
    | .data hi lo crc =>
      if 2 ≤ s.rdAt Reg.SNS_ENT_FMT n ∧
          crc8With (s.rd Reg.SNS_CTRL_CRC_POLY) (s.rd Reg.SNS_CTRL_CRC_INIT) [hi, lo] ≠ crc % 256 then
        fin ((s.wr Reg.SNS_STAT_CRC 1).pollFail n)
      else
        fin ((s.wrsAt n [(Reg.SNS_VAL_VALUE, s.pollValue n hi lo), (Reg.SNS_VAL_VALID, 1), (Reg.SNS_VAL_REASON, 0),
          (Reg.SNS_VAL_FAILS, 0), (Reg.SNS_AGE_AGE, 0)]).wr Reg.SNS_STAT_BUSY 0)

/-- SNS_STRETCH_TIMEOUT, R143: the master frees the bus and the poll fails. -/
def execSnsStretchTimeout (s : State) : Out :=
  if s.on Reg.SNS_STAT_BUSY ∧ s.alive = true then
    fin (((s.wr Reg.SNS_STAT_STRETCH 1).count 0x59).pollFail (s.rd Reg.SNS_STAT_ENTRY))
  else fin s

/-- R155, R157: what a change of an input's front-end settings marks. `before` is the machine before the write. -/
def State.settingsChanged (s before : State) (i : Nat) : State :=
  let ch := fun (f : Fld) => s.rdAt f i != before.rdAt f i
  let need := max (if ch Reg.UI_CFG_MODE then 2 else 0) (if ch Reg.UI_FILT_OSR then 1 else 0)
  let left := s.rdAt Reg.UI_STAT_SETTLE_LEFT i
  let t := if left < need then s.wrAt Reg.UI_STAT_SETTLE_LEFT i need else s
  t.whenB (ch Reg.UI_FILT_IIR_SHIFT) (fun t => t.wrAt Reg.UI_STAT_RELOAD i 1)

end Sys2Proof.Machine
end

