-- ==== Sys2Proof/Machine/Converters.lean ====
section
/-! DEFINITION. The converters (R146 to R151, R158 to R161): scan entries, CONV_DATA and the sample mover's buffers, power-down
and urgent conversions. -/

namespace Sys2Proof.Machine

/-- R180, R182: a converter that C has replaced, or a failed C (CAL_STAT state 7). -/
def State.replaced (s : State) (c : Nat) : Bool := (s.cal c).phase == 7

/-- R174: a converter whose own calibration runs. -/
def State.calibrating (s : State) (c : Nat) : Bool := decide (3 ≤ (s.cal c).phase) && decide ((s.cal c).phase ≤ 5)

/-- R146, R170: whose scan a converter makes: its own unless C relieves it, C that of the converter it relieves. -/
def State.scanOf (s : State) (c : Nat) : Option Nat :=
  if c = 2 then s.relief.target
  else if s.relief.target = some c ∨ s.replaced c = true then none else some c

/-- R147, R162: whether an input stands in a scan. In SAFE A scans the housekeeping inputs and nothing else. -/
def State.inScan (s : State) (role i : Nat) : Bool :=
  if s.mode = mSafe then role == 0 && decide (48 ≤ i) && decide (i ≤ 62)
  else
    let m := if i < 32 then bit (s.rdAt Reg.CONV_SCAN_LO_MASK role) i else bit (s.rdAt Reg.CONV_SCAN_HI_MASK role) (i - 32)
    let mode := s.rdAt Reg.UI_CFG_MODE i
    m && (if i < 40 then decide (1 ≤ mode) && decide (mode ≤ 6) else decide (i ≤ 43) || (decide (48 ≤ i) && decide (i ≤ 62)))

/-- R148, R162: the pace of an input in the present mode. -/
def State.pace (s : State) (i : Nat) : Nat :=
  let p := s.rdAt Reg.UI_FILT_PACE i
  if s.mode = mSafe then 16
  else if s.mode = mStandby ∧ (i < 40 ∨ (48 ≤ i ∧ i ≤ 53) ∨ i = 62) then (if p = 0 then 8 else capN 2040 (8 * p))
  else p

/-- R148: whether an input of a scan is due. -/
def State.isDue (s : State) (role i : Nat) : Bool := s.inScan role i && (s.pace i == 0 || s.onAt Hid.uiDue i)

/-- R148: the first input in walk order from a position that satisfies a test. -/
def walk (pos : Nat) (p : Nat → Bool) : Option Nat := ((upTo 64).map (fun k => (pos + k) % 64)).find? p

/-- R148: the next due input of the scan a converter makes. -/
def State.nextDue (s : State) (c : Nat) : Option Nat :=
  match s.scanOf c with
  | some role => walk (s.conv c).pos (s.isDue role)
  | none => none

/-- R148, R163: the next input of the scan a converter makes, in walk order, due or not; with no input, where the walk stands. -/
def State.walkNext (s : State) (c : Nat) : Nat :=
  (((s.scanOf c).bind (fun role => walk (s.conv c).pos (s.inScan role))).getD (s.conv c).pos) % 64

/-- R153: conversions per entry for an OSR code. -/
def osrOf (code : Nat) : Nat := 4 ^ code

/-- R184, R10: a trim set back from the internal copy of R310, or from OTP. -/
def State.reloadTrim (s : State) (k : Nat) : State :=
  let p := s.otp.trims.getD k (0, 0)
  let has := s.rdAt Hid.ccTrimHas k
  (s.wrAt Reg.CAL_TRIM_LO_TAPS k (if bit has 0 then s.rdAt Hid.ccTrimLo k else p.1 &&& (trimMask k).1)).wrAt
    Reg.CAL_TRIM_HI_TAPS k (if bit has 1 then s.rdAt Hid.ccTrimHi k else p.2 &&& (trimMask k).2)

/-- R186: OFFSET and GAIN of a passed system calibration are written at the input's next entry. -/
def State.applySys (s : State) (i : Nat) : State :=
  if s.onAt Hid.sysNew i then
    s.wrsAt i [(Reg.UI_OFFSET_OFFSET, s.rdAt Hid.sysNewOff i), (Reg.UI_GAIN_GAIN, s.rdAt Hid.sysNewGain i), (Hid.sysNew, 0)]
  else s

/-- R129: in a carriage the mover works through at most `n` results of a buffer, up to the next that completes an entry. Answers how many it
may still work through, the buffer left and the accumulator. -/
def drain : Nat → List Raw → Option Accu → Nat × List Raw × Option Accu
  | 0, l, a => (0, l, a)
  | n + 1, [], a => (n + 1, [], a)
  | n + 1, r :: t, a => if r.k + 1 = r.osr then (n + 1, r :: t, a) else drain n t (Accu.take a r)

/-- R129, R151: the mover takes CONV_DATA while its buffer for the converter has room, which clears NEW. -/
def State.moverTake (s : State) (c : Nat) : State :=
  let x := s.conv c
  match x.data with
  | some r =>
    if x.buf.length < 8 then
      (s.setConv c { x with data := none, buf := x.buf ++ [r] }).wrAt Reg.CONV_DATA_NEW c 0
    else s
  | none => s

/-- A converter powers down (R150, R169, R181). -/
def State.powerDown (s : State) (c : Nat) : State :=
  if (s.conv c).phase = .off then s else (s.setConv c { s.conv c with phase := .off }).count 0x50

/-- R150: with nothing to do and the next due time more than 20 µs away or unknown, a converter powers down. -/
def State.restCheck (s : State) (c : Nat) (gapLong : Bool) : State :=
  let x := s.conv c
  if gapLong && x.phase == .ready && x.entry.isNone && x.urg.isNone && x.wait.isEmpty && (s.nextDue c).isNone &&
      !s.calibrating c then s.powerDown c
  else s

/-- R129: the mover asks for the coach bus once a converter's buffer holds four results, for all that are buffered, up to 16. Each result has
a beat of its own in the result store (R112); the request names that of the first. -/
def State.moverAsk (s : State) : State :=
  if s.convs.any (fun x => decide (4 ≤ x.buf.length)) && s.mayAsk 3 && !s.ownsBus 3 then
    let all := s.convs.flatMap (fun x => x.buf)
    let first := (all.map (fun r => r.input)).headD 0
    let n := min all.length 16
    s.busRaise 3 { beat := 0x1400 + first, write := true, beats := n } { enables := List.replicate n 3 }
  else s

/-- R129: a carriage of the mover ends: up to 16 results that were buffered have been taken into the accumulators, but those that complete an
entry, which SAMPLE_MOVER_ENTRY stores. The mover reads on, and asks again where four or more are left. -/
def State.moverCarriage (s : State) : State :=
  ((upTo 3).foldl (fun (p : Nat × State) c =>
    let x := p.2.conv c
    let d := drain p.1 x.buf x.accu
    (d.1, (p.2.setConv c { x with buf := d.2.1, accu := d.2.2 }).moverTake c)) (16, s)).2.moverAsk

/-- CARRIAGE_END, R114: the owner's final beat. A decided winner becomes the owner. The composer raises its next carriage (R426), and the
mover's carriage has moved its results (R129). -/
def execCarriageEnd (len : Nat) (s : State) : Out :=
  match s.arb.running with
  | none => fin s
  | some r =>
    let lim := s.rd Reg.ARB_HOLD_HOLD_LIMIT
    let s1 := if lim ≠ 0 ∧ lim < len then s.holdLong else s
    let s2 := if s1.arb.held then s1.wr Reg.ARB_HOLD_LOG_LENGTH (capN 65535 len) else s1
    fin (s2.busPass.fetchNext.whenB (r.id == 3) State.moverCarriage)

/-- R152: a result is lost; an entry counts once, however many of its conversions are. -/
def State.loseRaw (s : State) (c : Nat) (r : Raw) : State :=
  let x := s.conv c
  if x.lost = r.seq then s else (s.setConv c { x with lost := r.seq }).count 0x4F

/-- R151: a result placed in CONV_DATA; one not yet taken is lost. -/
def State.placeData (s : State) (c : Nat) (r : Raw) : State :=
  let old := (s.conv c).data
  let lim := r.code == -32768 || r.code == 32767
  let reason := if r.settle then 1 else if lim then 2 else 0
  let s0 := match old with | some o => s.loseRaw c o | none => s
  let t := (s0.setConv c { s0.conv c with data := some r, used := true }).wrsAt c
    [(Reg.CONV_DATA_VALUE, ofI 16 r.code), (Reg.CONV_DATA_INPUT, r.input), (Reg.CONV_DATA_VALID, b2n (reason == 0)),
     (Reg.CONV_DATA_REASON, reason), (Reg.CONV_DATA_OVR, b2n old.isSome), (Reg.CONV_DATA_NEW, 1)]
  let u := t.count (0x40 + c)
  ((if old.isSome then (u.or Reg.CONV_FLAGS_OVR (2 ^ c)).count (0x43 + c) else u).moverTake c).moverAsk

/-- R168, R183: the end of an entry is a scan boundary, at which a switch to VREF_INT that waits takes place. -/
def ConvS.boundary (x : ConvS) : ConvS := { x with entry := none, untraced := x.untraced || x.toInt, toInt := false }

/-- CONVERSION_RESULT, R146, R151: a conversion of the running entry ends with a code, clamped to 16 bits. An entry that ends
in the hold of a soft reset is discarded (R347). -/
def execConversionResult (conv : Fin 3) (code : Int) (gapLong : Bool) (s : State) : Out :=
  let c := conv.val
  let x := s.conv c
  match x.entry with
  | none => fin s
  | some e =>
    if x.phase != .ready || x.urg.isSome || !s.alive then fin s
    else
      let r : Raw :=
        { input := e.input, k := e.k, osr := e.osr, code := sat16 code, settle := e.settle, set := e.set, seq := e.seq
          win := s.rdAt Hid.winNo e.input }
      let t := s.setConv c (if e.k + 1 = e.osr then x.boundary else { x with entry := some { e with k := e.k + 1 } })
      if s.on Hid.softHold = true ∧ e.k + 1 = e.osr then
        fin ((t.setConv c { t.conv c with data := none, buf := [], accu := none }).restCheck c gapLong)
      else fin ((t.placeData c r).restCheck c gapLong)

/-- SAMPLE_MOVER_ENTRY, R129, R152: in a carriage the mover takes the results of a converter from its buffer up to the next that completes an
entry, and that entry is stored. Results that complete none are taken into the accumulator. -/
def execSampleMoverEntry (conv : Fin 3) (s : State) : Out :=
  let c := conv.val
  let x := s.conv c
  let d := drain x.buf.length x.buf x.accu
  match d.2.1 with
  | [] => fin (((s.setConv c { x with buf := [], accu := d.2.2 }).moverTake c).moverAsk)
  | r :: rest =>
    let t := s.setConv c { x with buf := rest, accu := none }
    let u :=
      match Accu.take d.2.2 r with
      | some a => if a.got = a.osr then t.moverEntry a c else t
      | none => t
    fin (u.moverTake c).moverAsk

/-- R160: the rank of a requester among waiting urgent requests. -/
def urgRank : UrgBy → Nat
  | .therm => 0 | .supv => 1 | .cal => 2 | .host => 3

/-- R159, R160: whether a requester is privileged now. -/
def State.privileged (s : State) : UrgBy → Bool
  | .therm => s.on Reg.CONV_PRIV_THERM
  | .supv => s.on Reg.CONV_PRIV_SUPV
  | .cal => s.on Reg.CONV_PRIV_CAL
  | .host => false

/-- R158, R171: the converter that serves a request naming converter `c`. The health check of a suspect converter is made on that
converter, although C has relieved it (R181). -/
def State.servedBy (s : State) (src : UrgBy) (c : Nat) : Nat :=
  if c ≠ 2 ∧ (s.replaced c = true ∨ s.calibrating c = true ∨
      (s.relief.target = some c ∧ ¬(src = .cal ∧ (s.cal c).suspect = true))) then 2 else c

/-- Whether a requester has a request running or waiting. -/
def State.urgBusy (s : State) (src : UrgBy) : Bool :=
  s.convs.any (fun x => x.urg.any (fun u => u.src == src) || x.wait.any (fun u => u.src == src))

/-- R268, R269: a request of the thermal block at the fast rate, which the conversion of a READMIT is not. -/
def State.fastReq (s : State) (src : UrgBy) (input : Nat) : Bool :=
  src == .therm && !(decide (54 ≤ input ∧ input ≤ 61) && s.onAt Hid.tsReadmit (input - 54))

/-- R159: a request is dropped. The health check it belonged to is not made, and is issued again at the next tick (R179). -/
def State.urgDrop (s : State) (u : Urg) : State :=
  let t := (s.wr Reg.CONV_FLAGS_DROP 1).count 0x47
  match u.src with
  | .host => t.wr Reg.CONV_URG_DROPPED 1
  | .therm => t.whenB (s.fastReq .therm u.input) (fun t => (t.wr Reg.THERM_FLAGS_URG_DROP 1).count 0x72)
  | .cal =>
    ({ t with urgMore := t.urgMore.filter (fun v => !(v.src == UrgBy.cal && v.conv == u.conv)) }).setCal u.conv
      { t.cal u.conv with health := false, skipped := true }
  | .supv => { t with xchks := t.xchks.map (fun (x : XChk) =>
      if x.input = u.input ∧ x.issued = true ∧ x.raw.isNone then { x with issued := false } else x) }

/-- R158 to R160, R171: a request reaches its converter. -/
def State.urgPlace (s : State) (u : Urg) : State :=
  let c := u.conv
  let x := s.conv c
  let busy := x.entry.isSome || x.urg.isSome || (c == 2 && s.calibrating 2)
  if s.privileged u.src then
    if x.phase == .off then s.setConv c { x with phase := .starting, wait := x.wait ++ [u] }
    else if x.phase != .ready || x.urg.isSome then s.setConv c { x with wait := x.wait ++ [u] }
    else (s.countIf x.entry.isSome 0x48).setConv c { x with urg := some u }
  else if x.phase == .stopped || (x.phase == .ready && busy) then s.urgDrop u
  else if x.phase == .off then s.setConv c { x with phase := .starting, wait := x.wait ++ [u] }
  else if x.phase == .starting then s.setConv c { x with wait := x.wait ++ [u] }
  else s.setConv c { x with urg := some u }

/-- R158: a request is issued to the converter it names, to the input's owner, or to C in their place. -/
def State.urgSend (s : State) (src : UrgBy) (input : Nat) (named : Option Nat) : State :=
  let n := named.getD (s.ownerOf input)
  let c := s.servedBy src n
  (((s.count 0x46).countIf (c != n) 0x49).countIf (s.fastReq src input) 0x71).urgPlace ⟨src, input, c⟩

/-- R158, R160: a unit issues an urgent request for an input on a named converter or its owner. A requester with a request
running or waiting keeps the further one. -/
def State.urgIssue (s : State) (src : UrgBy) (input : Nat) (named : Option Nat) : State :=
  if src != .host && s.urgBusy src then { s with urgMore := s.urgMore ++ [⟨src, input, named.getD 3⟩] }
  else s.urgSend src input named

/-- R160: the requests a requester kept are issued in order, each once the earlier one has been served or dropped; `n` bounds how
many are. -/
def State.urgKept (s : State) (src : UrgBy) : Nat → State
  | 0 => s
  | n + 1 =>
    if s.urgBusy src then s
    else
      match s.urgMore.find? (fun u => u.src == src) with
      | none => s
      | some u =>
        (({ s with urgMore := s.urgMore.erase u } : State).urgSend src u.input (if u.conv = 3 then none else some u.conv)).urgKept
          src n

/-- R160: the next request a requester kept, once an earlier one has been served or dropped. -/
def State.urgNextKept (s : State) (src : UrgBy) : State := s.urgKept src s.urgMore.length

/-- R160: the waiting request that runs next, in the order thermal, supervision, calibration. -/
def pickUrg (l : List Urg) : Option Urg :=
  (upTo 4).findSome? (fun k => l.find? (fun u => urgRank u.src == k))

/-- Starting the next waiting urgent conversion of a converter. -/
def State.urgNext (s : State) (c : Nat) : State :=
  let x := s.conv c
  if x.urg.isSome || x.phase != .ready then s
  else
    match pickUrg x.wait with
    | some u => s.setConv c { x with urg := some u, wait := x.wait.erase u }
    | none => s

/-- R161: an urgent result goes to its requester: the raw code and the code corrected by OFFSET and GAIN. -/
def State.urgDeliver (s : State) (u : Urg) (code : Int) : State :=
  let corr := if u.input < 64 then sat16 (s.correct u.input code) else code
  match u.src with
  | .host => s.wrs [(Reg.CONV_URG_DONE, 1), (Reg.CONV_URG_BY, u.conv), (Reg.CONV_URG_RES_RAW, ofI 16 code),
      (Reg.CONV_URG_RES_CORR, ofI 16 corr)]
  | .therm =>
    if 54 ≤ u.input ∧ u.input ≤ 61 then (s.wrI Hid.tsUrgCode (u.input - 54) corr).wrAt Hid.tsUrgNew (u.input - 54) 1 else s
  | .supv => { s with xchks := s.xchks.map (fun (x : XChk) =>
      if x.input = u.input ∧ x.issued = true ∧ x.raw.isNone then { x with raw := some corr, conv := u.conv } else x) }
  | .cal => s

/-- The requester of a row's operand. -/
def UrgBy.conv3 (c : Option (Fin 3)) : Option Nat := c.map (fun x => x.val)

/-- URGENT_REQUEST, R158: a unit asks for an urgent conversion. -/
def execUrgentRequest (src : UrgBy) (input : Fin 64) (conv : Option (Fin 3)) (s : State) : Out :=
  if !s.alive || s.mode == mBoot then fin s else fin (s.urgIssue src input.val (UrgBy.conv3 conv))

/-- URGENT_CONVERSION_DONE, R161: the urgent conversion of a converter ends; the next request runs, or the scan resumes with
the aborted conversion. -/
def execUrgentConversionDone (conv : Fin 3) (code : Int) (gapLong : Bool) (s : State) : Out :=
  let c := conv.val
  match (s.conv c).urg with
  | none => fin s
  | some u =>
    let t := (s.setConv c { s.conv c with urg := none }).urgDeliver u (sat16 code)
    fin (((t.urgNext c).urgNextKept u.src).restCheck c gapLong)

/-- CONVERTER_START_UP_DONE, R150: a converter has started up; a waiting urgent request runs first. With nothing to do it
waits. -/
def execConverterStartUpDone (conv : Fin 3) (s : State) : Out :=
  let c := conv.val
  if (s.conv c).phase = .starting then fin ((s.setConv c { s.conv c with phase := .ready }).urgNext c) else fin s

/-- R150: the powered-down converters whose next input is due start up. -/
def State.wakeConvs (s : State) : State :=
  s.each (upTo 3) (fun t c =>
    if (t.conv c).phase = .off ∧ (t.nextDue c).isSome = true then t.setConv c { t.conv c with phase := .starting } else t)

/-- R148: what a wheel tick makes due, whether or not the input stands in a scan then. -/
def State.scanTick (s : State) : State :=
  (s.each ((upTo 64).filter (fun i => s.pace i != 0 && s.tick % s.pace i == 0)) (fun t i => t.wrAt Hid.uiDue i 1)).wakeConvs

/-- CONV_STAT (R163): the state of a converter as the register codes it. -/
def State.convState (s : State) (c : Nat) : Nat :=
  let x := s.conv c
  if c ≠ 2 ∧ s.replaced c = true then 5
  else if c = 2 ∧ s.relief.target.isSome then 6 + s.relief.target.getD 0
  else if s.calibrating c then 4
  else match x.phase with
    | .off => 0
    | .starting => 2
    | .stopped => 0
    | .ready => if x.entry.isSome || x.urg.isSome then 1 else 3

end Sys2Proof.Machine
end

