-- ==== Sys2Proof/Machine/Calib.lean ====
section
/-! DEFINITION. Calibration with live traffic (R166 to R190): self-calibration with the relief converter, health checks and
replacement, the reference, and system calibration of an input. -/

namespace Sys2Proof.Machine

/-- R179: a health check passes when the zero reads within ±32 LSB and the half within 16 384 ± 48 LSB. -/
def healthPass (zero half : Int) : Bool := decide (zero.natAbs ≤ 32) && decide ((half - 16384).natAbs ≤ 48)

/-- R176: the end check passes when the zero reads 0 ± 2 LSB and the half 16 384 ± 4 LSB. -/
def endPass (zero half : Int) : Bool := decide (zero.natAbs ≤ 2) && decide ((half - 16384).natAbs ≤ 4)

/-- R182, R334: a scan with no converter, nor one that C is about to take; with VDDA low every scan is unserved. -/
def State.noConverter (s : State) : Bool :=
  s.on Reg.PWR_STAT_VDDA_UV ||
    (upTo 2).any (fun c => s.replaced c && s.relief.target != some c && !s.relief.wanted.contains c)

/-- R182: NO_RELIEF and UNSERVED brought up to date. -/
def State.refreshRelief (s : State) : State :=
  s.wrs [(Reg.CAL_STAT_NO_RELIEF, b2n (s.replaced 2 || s.relief.forGood)), (Reg.CAL_STAT_UNSERVED, b2n s.noConverter)]

/-- R150, R169: C powers down once it has no scan, no calibration of its own and no urgent request; one that waits runs. -/
def State.cIdle (s : State) : State :=
  let x := s.conv 2
  if s.relief.target.isSome || s.calibrating 2 || x.entry.isSome || x.phase != .ready then s
  else if x.urg.isNone && x.wait.isEmpty then s.powerDown 2
  else s.urgNext 2

/-- The taps of a converter's trim set (R189): COMP, then W8 to W15. -/
def State.tapsOf (s : State) (c : Nat) : List Int :=
  let lo := s.rdAt Reg.CAL_TRIM_LO_TAPS c
  let hi := s.rdAt Reg.CAL_TRIM_HI_TAPS c
  toI 6 (bits hi 18 6) :: ((upTo 5).map (fun k => toI 6 (bits lo (6 * k) 6)) ++ (upTo 3).map (fun k => toI 6 (bits hi (6 * k) 6)))

/-- R167: a trim set applied in one step. -/
def State.applyTaps (s : State) (c : Nat) (l : List Int) : State :=
  let tap := fun k => ofI 6 (l.getD k 0)
  let lo := (upTo 5).foldl (fun a k => a + tap (k + 1) * 2 ^ (6 * k)) 0
  let hi := (upTo 3).foldl (fun a k => a + tap (k + 6) * 2 ^ (6 * k)) (tap 0 * 2 ^ 18)
  (s.wrAt Reg.CAL_TRIM_LO_TAPS c lo).wrAt Reg.CAL_TRIM_HI_TAPS c hi

/-- Whether a residual has left the first one's sign. -/
def signLeft (first r : Int) : Bool := if first < 0 then decide (0 ≤ r) else decide (r ≤ 0)

/-- R175: the residuals after the first each move 1 LSB to 24 LSB towards zero, stay within ±256 LSB, and the search ends at
the first that has changed sign, not at an end stop before it. `tap` is the tap of the residual `prev`. -/
def searchRest (first : Int) (step : Int) : Int → Int → List Int → Option Int
  | _, _, [] => none
  | tap, prev, r :: t =>
    let moved := if prev < 0 then r - prev else prev - r
    let here := tap + step
    if 256 < r.natAbs ∨ moved < 1 ∨ 24 < moved ∨ here < -32 ∨ 31 < here then none
    else if signLeft first r then (if t.isEmpty then some here else none)
    else if here = -32 ∨ here = 31 then none
    else searchRest first step here r t

/-- R175: the tap one search ends at, or none where a measurement is implausible. -/
def searchTap (tap : Int) (q : TapSearch) : Option Int :=
  match q.residuals with
  | [] => none
  | r :: t =>
    if 256 < r.natAbs then none
    else if r = 0 then (if t.isEmpty then some tap else none)
    else searchRest r (if q.up then 1 else -1) tap r t

/-- R174, `run`: the taps of a run, or none where a search is implausible (which ends the run at once). -/
def runTaps : List Int → List TapSearch → Option (List Int)
  | [], _ => some []
  | _ :: _, [] => none
  | tap :: taps, q :: qs =>
    match searchTap tap q with
    | none => none
    | some x => (runTaps taps qs).map (fun l => x :: l)

/-- R174: the largest difference between the taps of two runs. -/
def spread (a b : List Int) : Nat := (a.zip b).foldl (fun m p => max m (p.1 - p.2).natAbs) 0

/-- R252: the neighbours of a sensor. -/
def tsNeighbours (i : Nat) : List Nat :=
  [[1, 3, 6], [0, 7], [3, 4, 6], [0, 2, 5], [2, 5], [3, 4, 7], [0, 2, 7], [1, 5, 6]].getD i []

/-- FAILED of a sensor. -/
def State.tsFailed (s : State) (i : Nat) : Bool := s.onAt Reg.TS_STATE_FAILED i

/-- R263: the substitute of a failed sensor: 10 °C above the highest latest sample of its non-failed neighbours, or of any
non-failed sensor. -/
def State.tsSubst (s : State) (i : Nat) : Option Int :=
  let have_ := fun (l : List Nat) => l.filter (fun j => !s.tsFailed j && s.rdAt Hid.tsAt j != 0)
  let l := if ((tsNeighbours i).all s.tsFailed) then have_ (upTo 8) else have_ (tsNeighbours i)
  match l with
  | [] => none
  | j :: t => some (min 32767 (t.foldl (fun m k => max m (s.rdI Hid.tsLast k)) (s.rdI Hid.tsLast j) + 1280))

/-- The TS1 value in the result store (R172), or its pessimistic substitute while the thermal block has excluded TS1. -/
def State.ts1 (s : State) : Nat :=
  let stored := s.rdAt Reg.UI_VALUE_VALUE 55
  if s.tsFailed 1 = false then stored
  else if s.onAt Reg.TS_VALUE_SUBST 1 then s.rdAt Reg.TS_VALUE_T 1
  else ((s.tsSubst 1).map (ofI 16)).getD stored

/-- R183: CAL_UNTRACED clears once every converter that is not replaced, or failed, runs on REFIN again. -/
def State.traceReview (s : State) : State :=
  s.whenB (!s.on Reg.CAL_STAT_REF_LOW && (upTo 3).all (fun k => !((s.conv k).untraced || (s.conv k).toInt) || s.replaced k))
    (fun t => t.wr Reg.CAL_STAT_CAL_UNTRACED 0)

/-- R176, R177, R189: the record of an attempt. A converter that became due while it ran stays due. -/
def State.calRecord (s : State) (c result reason : Nat) : State :=
  let t := s.wrsAt c [(Reg.CAL_INFO_RESULT, result), (Reg.CAL_INFO_REASON, reason)]
  if result = 1 then
    let u := (t.wrsAt c [(Reg.CAL_INFO_FAILS, 0), (Reg.CAL_INFO_TEMP, s.ts1), (Hid.calTick, s.tick), (Hid.calPassed, 1)]).count 0x61
    let onInt := (s.cal c).onInt
    let v := u.setConv c { u.conv c with untraced := onInt && (u.conv c).untraced, toInt := onInt && (u.conv c).toInt }
    (v.setCal c { v.cal c with phase := 0, ended := 0 }).traceReview
  else if result = 2 then
    let u := ((t.wrAt Reg.CAL_INFO_FAILS c (capN 15 (s.rdAt Reg.CAL_INFO_FAILS c + 1))).or Reg.CAL_FLAGS_CAL_FAIL (2 ^ c)).count 0x62
    u.setCal c { u.cal c with phase := 6, ended := s.tick + 1 }
  else (t.setCal c { t.cal c with phase := 6, ended := s.tick + 1 }).count 0x63

/-- R177: a calibration that runs is abandoned; the scan C holds for it goes back at C's next boundary. -/
def State.calAbandon (s : State) (c : Nat) : State :=
  let p := (s.cal c).phase
  if 2 ≤ p ∧ p ≤ 5 then
    let t := s.calRecord c 3 4
    if t.relief.target = some c then { t with relief := { t.relief with back := true } } else t
  else s

/-- R177: every calibration that runs is abandoned. -/
def State.calAbandonAll (s : State) : State := (((s.calAbandon 0).calAbandon 1).calAbandon 2).cIdle

/-- R182: C has failed a health check: A and B go on with their last trims. A calibration of theirs that runs ends as an abandoned
one does (DESIGN CHOICE, log entry 66), and a scan C holds goes back at its next boundary, or stays without a converter. -/
def State.failC (s : State) : State :=
  let s := (s.calAbandon 0).calAbandon 1
  let t := (((s.setCal 2 { s.cal 2 with phase := 7, health := false }).wr Reg.CAL_FLAGS_C_FAILED 1).count 0x69).traceReview
  if t.relief.forGood then
    (({ t with relief := {} } : State).setConv 2 (t.conv 2).boundary).cIdle.refreshRelief
  else ({ t with relief := { target := t.relief.target, back := t.relief.target.isSome } } : State).refreshRelief

/-- R178, R188: whether a calibration of a converter may start now. -/
def State.calAllowed (s : State) (c : Nat) : Bool :=
  let q := s.cal c
  (q.due || q.asked) && (s.on Reg.CAL_CTRL_AUTO_EN || q.asked) && s.operating && !s.on Reg.CLK_STAT_FALLBACK &&
    s.rd Hid.calHold == 0 && !s.on Reg.PWR_STAT_VDDA_UV && (q.phase == 0 || q.phase == 1 || q.phase == 6) && !q.suspect

/-- R173: C is free: not relieving or wanted, not calibrating itself, not failed. -/
def State.cFree (s : State) : Bool :=
  s.relief.target.isNone && s.relief.wanted.isEmpty && !s.calibrating 2 && !s.replaced 2 && !s.relief.forGood &&
    (s.cal 0).phase != 2 && (s.cal 1).phase != 2

/-- CAL_REQ's effect on one converter (R172), and SELF_CAL_DUE's. -/
def State.calDue (s : State) (c : Nat) (asked : Bool) : State :=
  if s.replaced c then s
  else s.setCal c { s.cal c with due := true, asked := asked || (s.cal c).asked }

/-- R172: a converter is due: 15 minutes after its last pass, where TS1 is more than 5 °C from what it was then, or 60 s after an
attempt that failed or was abandoned. -/
def State.calNowDue (s : State) (c : Nat) : Bool :=
  let q := s.cal c
  if q.ended ≠ 0 then decide (q.ended + 60000 ≤ s.tick + 1)
  else decide (s.rdAt Hid.calTick c + 900000 ≤ s.tick) || decide (640 < (toI 16 s.ts1 - toI 16 (s.rdAt Reg.CAL_INFO_TEMP c)).natAbs)

/-- R177: a calibration of the converter has started and not ended. -/
def State.calRuns (s : State) (c : Nat) : Bool := decide (2 ≤ (s.cal c).phase) && decide ((s.cal c).phase ≤ 5)

/-- SELF_CAL_DUE, R172: the converter becomes due where it is. -/
def execSelfCalDue (conv : Fin 3) (s : State) : Out :=
  if s.up && s.calNowDue conv.val && !s.calRuns conv.val then fin (s.calDue conv.val false) else fin s

/-- R170, R173, R179: C checks itself before a relief, by two urgent requests of the calibration sequencer. Answers the machine and
whether C passed; none says that the check was dropped (R159), and it is issued again at the next tick. A privileged
one aborts a scan conversion of C (R160). -/
def State.checkC (s : State) (zero half : Int) : State × Option Bool :=
  let x := s.conv 2
  let busy := x.phase == .ready && (x.entry.isSome || x.urg.isSome)
  let t := ((s.countIf (s.cal 2).skipped 0x6B).setCal 2 { s.cal 2 with skipped := false }).count 0x46
  if busy && !s.privileged .cal then (t.urgDrop ⟨.cal, 62, 2⟩, none)
  else
    let u := ((t.countIf (x.phase == .ready && x.entry.isSome && x.urg.isNone) 0x48).count 0x46).count 0x68
    if healthPass zero half then (u, some true) else (u.failC, some false)

/-- SELF_CAL_START, R173, R174: a due calibration starts when C is free; A goes before B. `zero` and `half` are the codes of
C's health check; where it is dropped, the calibration waits. For C itself the runs begin at once (R178). -/
def execSelfCalStart (conv : Fin 3) (zero half : Int) (s : State) : Out :=
  let c := conv.val
  if !s.calAllowed c then fin s
  else if !s.cFree || (c == 1 && s.calAllowed 0) then fin (s.setCal c { s.cal c with phase := 1 })
  else
    let t := (s.setCal c { s.cal c with due := false, asked := false }).count 0x60
    if c = 2 then
      fin (((t.setCal 2 { t.cal 2 with phase := 3, onInt := s.on Reg.CAL_STAT_REF_LOW }).setConv 2
        { t.conv 2 with phase := .ready, entry := none }).urgNext 2)
    else
      let q := t.checkC zero half
      match q.2 with
      | some true => fin (((q.1.setCal c { q.1.cal c with phase := 2 }).setConv 2 { q.1.conv 2 with phase := .ready }).urgNext 2)
      | some false => fin (q.1.setCal c { q.1.cal c with phase := 6, ended := q.1.tick + 1 })
      | none => fin ((s.checkC zero half).1.setCal c { s.cal c with phase := 1 })

/-- The phase of a converter that takes a scan over: it converts at once, unless VDDA is low (R169, R334). -/
def ConvS.go (x : ConvS) : Phase := if x.phase = .stopped then .stopped else .ready

/-- R169: the scan of converter `c` passes to C. An urgent request that waits at C runs first (R160). -/
def State.handToC (s : State) (c : Nat) : State :=
  let x := s.conv 2
  let t := s.setConv 2 { x with phase := x.go, pos := (s.conv c).pos }
  (({ t with relief := { t.relief with target := some c, wanted := t.relief.wanted.filter (fun k => k != c), back := false } }).count
    0x64).urgNext 2

/-- R169, R176: the scan C holds goes back to its converter. An urgent request that waits there runs first (R160). -/
def State.handOff (s : State) (c : Nat) : State :=
  let x := s.conv c
  let t := (s.setConv c { x with pos := (s.conv 2).pos, phase := x.go }).setConv 2 (s.conv 2).boundary
  let u : State := { t with relief := { t.relief with target := none, back := false } }
  (u.count 0x65).urgNext c

/-- R169, R176: the scan C holds goes back to its converter, and C powers down. -/
def State.handBack (s : State) (c : Nat) : State := (s.handOff c).cIdle

/-- What a handback settles: a passed calibration's taps and record, a suspect converter that has passed its checks. -/
def State.settleBack (s : State) (c : Nat) : State :=
  let q := s.cal c
  let t := if q.phase = 5 ∧ q.result = 1 then ((s.applyTaps c q.taps).setCal c { q with result := 0 }).calRecord c 1 0 else s
  if q.suspect && q.checks == 0 then (t.setCal c { t.cal c with suspect := false, badRow := 0 }).count 0x6A else t

/-- R168: a scan boundary of a converter: no entry in progress. -/
def State.boundary (s : State) (c : Nat) : Bool := (s.conv c).entry.isNone

/-- R174: a converter whose calibration begins is powered, and an urgent request that waits for its start-up runs. -/
def State.calStart (s : State) (c : Nat) : State := (s.setConv c { s.conv c with phase := (s.conv c).go }).urgNext c

/-- RELIEF_HANDOVER, R169, R181: at its scan boundary converter A or B passes its scan to C, for a calibration that waits
for the boundary or because it is suspect. C passes straight from one relief to the next.
`zero` and `half` are the codes of C's check before the relief of a suspect. -/
def execReliefHandover (conv : Fin 2) (zero half : Int) (s : State) : Out :=
  let c := conv.val
  let forCal := (s.cal c).phase == 2
  let other := 1 - c
  if !(forCal || s.relief.wanted.contains c) || !s.boundary c || s.replaced 2 || s.replaced c || s.relief.forGood then fin s
  else
    let s1 := if s.relief.target = some other ∧ s.relief.back = true ∧ s.boundary 2 then (s.settleBack other).handOff other else s
    if s1.relief.target.isSome then fin s
    else if forCal then fin (((s1.calStart c).setCal c { s1.cal c with phase := 3, onInt := s.on Reg.CAL_STAT_REF_LOW }).handToC c)
    else
      let q := s1.checkC zero half
      if q.2 = some true then fin (q.1.handToC c) else fin (q.1.whenB s.relief.back State.cIdle)

/-- How a calibration run leaves the sequencer: judged, recorded when it failed (R174, R176). -/
def State.calFinish (s : State) (c result reason : Nat) (taps : List Int) : State :=
  if c = 2 then
    let t := (if result = 1 then s.applyTaps 2 taps else s).calRecord 2 result reason
    t.cIdle
  else
    let t := if result = 1 then s.setCal c { s.cal c with phase := 5, taps := taps, result := 1 } else s.calRecord c result reason
    if t.relief.target = some c then { t with relief := { t.relief with back := true } } else t

/-- CAL_RUN_DONE, R174 to R176: a run of tap searches ends. The first leads to the second; after the second the runs are
compared, and `zero` and `half` are the codes of the end check with the second run's taps. -/
def execCalRunDone (conv : Fin 3) (searches : List TapSearch) (zero half : Int) (s : State) : Out :=
  let c := conv.val
  let q := s.cal c
  if q.phase ≠ 3 ∧ q.phase ≠ 4 then fin s
  else
    match runTaps (s.tapsOf c) searches with
    | none => fin ((s.count 0x66).calFinish c 2 1 [])
    | some taps =>
      if q.phase = 3 then fin (s.setCal c { q with phase := 4, run1 := taps })
      else
        let d := spread q.run1 taps
        let t := s.wrAt Reg.CAL_INFO_SPREAD c (capN 15 d)
        if 2 < d then fin ((t.count 0x67).calFinish c 2 2 [])
        else if endPass zero half then fin (t.calFinish c 1 0 taps)
        else fin (t.calFinish c 2 3 [])

/-- R180, R181: C takes the scan of converter `c` for good, and converts the entry that was interrupted from its first
conversion, against C's own reference (R183). -/
def State.takeOver (s : State) (c : Nat) (e : Option Entry) : State :=
  let t := s.handToC c
  let x := t.conv 2
  let u := match e with
    | some e =>
      let set : InSet := { e.set with untraced := x.untraced }
      (t.setConv 2 { x with entry := some { e with k := 0, seq := x.seq + 1, set := set }, seq := x.seq + 1 }).setForce e.input set
    | none => t
  ({ u with relief := { target := some c, forGood := true } } : State).refreshRelief

/-- CAL_HANDBACK, R176: at C's scan boundary a scan that is to go back goes back, with the new taps on a pass. A replaced
converter that waits for C is next (R177). -/
def execCalHandback (conv : Fin 3) (s : State) : Out :=
  let c := conv.val
  if s.relief.target = some c ∧ s.relief.back = true ∧ s.boundary 2 = true ∧ s.relief.forGood = false then
    match s.relief.wanted.find? s.replaced with
    | some k => fin (((s.settleBack c).handOff c).takeOver k s.relief.redo)
    | none => fin ((s.settleBack c).handBack c).refreshRelief
  else fin s

/-- R158, R180: the urgent requests of a replaced converter pass to C; its health check is not finished. -/
def State.urgMove (s : State) (c : Nat) : State :=
  let x := s.conv c
  let t := s.setConv c { x with urg := none, wait := [] }
  let u : State := { t with urgMore := t.urgMore.filter (fun v => !(v.src == UrgBy.cal && v.conv == c)) }
  (u.each ((x.urg.toList ++ x.wait).filter (fun v => v.src != UrgBy.cal)) (fun t v => (t.count 0x49).urgPlace { v with conv := 2 })).urgNextKept .cal

/-- R180, R182: converter A or B is replaced for good by C, or its inputs become unserved. Its interrupted entry is converted
again from its first conversion. Where C scans for the other converter, C's entry ends first (R169). -/
def State.replace (s : State) (c : Nat) : State :=
  let s := s.calAbandon c
  let e := (s.conv c).entry
  let t := ((s.setCal c { s.cal c with phase := 7, suspect := false, health := false }).or Reg.CAL_FLAGS_REPLACED (2 ^ c)).count 0x6C |>.raise 3
  let u := (((t.setConv c { (t.conv c).boundary with accu := none }).powerDown c).urgMove c).traceReview
  if u.replaced 2 || (u.relief.forGood && u.relief.target != some c) then u.refreshRelief
  else if u.relief.target = some c then ({ u with relief := { target := some c, forGood := true } } : State).refreshRelief
  else
    let v := (u.calAbandon (1 - c)).calAbandon 2
    if v.relief.target = some (1 - c) then
      if v.boundary 2 then ((v.settleBack (1 - c)).handOff (1 - c)).takeOver c e
      else ({ v with relief := { target := some (1 - c), wanted := [c], back := true, redo := e } } : State).refreshRelief
    else v.takeOver c e

/-- R181, R182: C has failed or relieves the other converter for good. -/
def State.cGone (s : State) (c : Nat) : Bool := s.replaced 2 || (s.relief.forGood && s.relief.target != some c)

/-- R177, R181: converter A or B becomes suspect. C is to relieve it at its next boundary, and calibrations that run are abandoned;
without C it stays in its scan. `failed` says that it has failed a health check. -/
def State.makeSuspect (s : State) (c : Nat) (failed : Bool) : State :=
  let t := s.wr Reg.CAL_FLAGS_SUSPECT 1
  let u := if t.cGone c then t else ((t.calAbandon c).calAbandon (1 - c)).calAbandon 2
  let v := u.setCal c { u.cal c with suspect := true, checks := 2, badRow := b2n failed }
  if v.cGone c || v.relief.wanted.contains c then v else { v with relief := { v.relief with wanted := v.relief.wanted ++ [c] } }

/-- R26: the trim set of the scanning converter reads with a parity error at the start of an entry. -/
def State.trimParity (s : State) (c : Nat) : State :=
  let t := (s.memErr Reg.MEM_ERR_TRIM).reloadTrim c
  if c = 2 ∨ (s.cal c).suspect then t else t.makeSuspect c false

/-- SCAN_ENTRY_START, R148, R149, R157: the next due entry in walk order starts under the settings in force. -/
def execScanEntryStart (conv : Fin 3) (trimBad : Bool) (s : State) : Out :=
  let c := conv.val
  let x := s.conv c
  if x.phase != .ready || x.entry.isSome || x.urg.isSome || !s.alive || s.mode == mBoot || s.calibrating c then fin s
  else
    match s.nextDue c with
    | none => fin s
    | some i =>
      let t := (if trimBad then s.trimParity c else s).applySys i
      let left := t.rdAt Reg.UI_STAT_SETTLE_LEFT i
      let set := t.inSet i x.untraced
      let u := ((t.wrAt Hid.uiDue i 0).setForce i set).whenB (left != 0) (fun t => t.wrAt Reg.UI_STAT_SETTLE_LEFT i (left - 1))
      fin (u.setConv c { u.conv c with
        entry := some { input := i, osr := osrOf (t.rdAt Reg.UI_FILT_OSR i), k := 0, settle := left != 0, set := set, seq := x.seq + 1 }
        seq := x.seq + 1, pos := (i + 1) % 64 })

/-- R179: a health check of a converter is issued: two urgent conversions with the calibration sequencer's privilege, made on the
converter that serves them. -/
def State.healthIssue (s : State) (c : Nat) : State :=
  let k := s.servedBy .cal c
  let t := (s.countIf (s.cal k).skipped 0x6B).setCal k { s.cal k with health := true, skipped := false }
  let u := t.urgIssue .cal 62 (some c)
  if (u.cal k).health then u.urgIssue .cal 64 (some c) else u

/-- R179, R181: A or B is checked at this tick: where it has converted since its last check, still owes one, or is suspect. -/
def State.owesCheck (s : State) (c : Nat) : Bool :=
  let q := s.cal c
  ((s.conv c).used || q.skipped || (q.suspect && (decide (0 < q.checks) || s.cGone c))) && !q.health && !s.replaced c &&
    !s.calibrating c && (s.conv c).phase != .stopped

/-- R179: C is checked at this tick: once per second while idle, or because its last check was dropped. -/
def State.owesCheckC (s : State) : Bool :=
  let q := s.cal 2
  (q.skipped || (s.tick % 1000 == 0 && s.relief.target.isNone && !s.calibrating 2)) && !q.health && !s.replaced 2 &&
    (s.conv 2).phase != .stopped

/-- R179, R181: the health checks a wheel tick issues. -/
def State.healthTick (s : State) : State :=
  let t := s.each (upTo 2) (fun t c => if t.owesCheck c then t.healthIssue c else t)
  if t.owesCheckC then t.healthIssue 2 else t

/-- R179: the two urgent conversions of a finished health check leave their converter. -/
def State.healthClear (s : State) (c : Nat) : State :=
  let mine := fun (u : Urg) => u.src == UrgBy.cal
  let x := s.conv c
  let t := s.setConv c { x with urg := if x.urg.any mine then none else x.urg, wait := x.wait.filter (fun u => !mine u), used := false }
  let u : State := { t with urgMore := t.urgMore.filter (fun u => !(mine u && u.conv == c)) }
  ((u.setCal c { u.cal c with health := false }).urgNext c).urgNextKept .cal

/-- R181: what a health check of A or B leads to. -/
def State.healthJudge (s : State) (c : Nat) (pass : Bool) : State :=
  let q := s.cal c
  let t := s.countIf (!pass) 0x69
  if q.suspect = false then (if pass then t else t.makeSuspect c true)
  else if s.cGone c then
    if pass then t.setCal c { q with suspect := false, badRow := 0 }
    else if 1 ≤ q.badRow then t.replace c
    else t.setCal c { q with badRow := q.badRow + 1 }
  else if s.relief.target = some c then
    if pass then
      let u := t.setCal c { q with checks := q.checks - 1, badRow := 0 }
      if q.checks ≤ 1 then { u with relief := { u.relief with back := true } } else u
    else t.replace c
  else t

/-- HEALTH_CHECK_DONE, R179, R181: the converter's two codes are judged. -/
def execHealthCheckDone (conv : Fin 3) (zero half : Int) (s : State) : Out :=
  let c := conv.val
  if !(s.cal c).health then fin s
  else
    let t := (s.healthClear c).count 0x68
    if c = 2 then fin (if healthPass zero half then t else t.failC)
    else fin (t.healthJudge c (healthPass zero half))

/-- CONVERTER_STUCK, R180: a scan conversion of A or B has not ended; C replaces the converter at once after its own check
(`zero`, `half`), which it skips while it already scans for the converter. A check that is dropped does not hold the replacement up (log entry 66). -/
def execConverterStuck (conv : Fin 2) (zero half : Int) (s : State) : Out :=
  let c := conv.val
  if s.scanOf c ≠ some c ∨ (s.conv c).entry.isNone = true then fin s
  else if s.replaced 2 || s.relief.forGood then fin (s.replace c)
  else fin ((s.checkC zero half).1.replace c)

/-- REFIN_LOSS, R183: each converter switches to VREF_INT at its next scan boundary, which is now where no entry is in progress, and
all become due. A run under way is no longer made against REFIN. -/
def execRefinLoss (s : State) : Out :=
  if s.on Reg.CAL_STAT_REF_LOW ∨ s.alive = false then fin s
  else
    let t := (s.wrs [(Reg.CAL_STAT_CAL_UNTRACED, 1), (Reg.CAL_STAT_REF_LOW, 1)]).count 0x6D
    fin (t.each (upTo 3) (fun t c => ((t.setConv c (if (t.conv c).entry.isNone then { t.conv c with untraced := true }
      else { t.conv c with toInt := true })).setCal c { t.cal c with onInt := true }).calDue c false))

/-- REFIN_RESTORE, R183: REFIN has been good for 100 ms. -/
def execRefinRestore (s : State) : Out := fin (s.wr Reg.CAL_STAT_REF_LOW 0)

/-- R185: a system calibration point starts, or is refused with its RESULT. -/
def State.sysGo (s : State) (input point : Nat) : State :=
  let m := s.uiMode input
  if s.on Reg.CAL_SYS_STAT_BUSY then s.wr Reg.CAL_SYS_STAT_RESULT 9
  else if s.mode ≠ mService then s.wr Reg.CAL_SYS_STAT_RESULT 7
  else if m = 0 ∨ 6 < m then s.wr Reg.CAL_SYS_STAT_RESULT 8
  else s.wrs [(Reg.CAL_SYS_STAT_BUSY, 1), (Reg.CAL_SYS_STAT_COUNT, 0), (Reg.CAL_SYS_STAT_RESULT, 0), (Hid.sysSum, 0),
    (Hid.sysCnt, 0), (Hid.sysClip, 0), (Hid.sysPoint, point), (Hid.sysIn, input)]

/-- R185, R186: ABORT and leaving SERVICE end a running point; the old values stay. -/
def State.sysAbort (s : State) : State :=
  if s.on Reg.CAL_SYS_STAT_BUSY then s.wrs [(Reg.CAL_SYS_STAT_BUSY, 0), (Reg.CAL_SYS_STAT_RESULT, 10)] else s

/-- R186: a failed result. -/
def State.sysFail (s : State) (r : Nat) : State := s.wrs [(Reg.CAL_SYS_STAT_RESULT, r), (Reg.CAL_FLAGS_SYS_FAIL, 1)]

/-- R186: after POINT 2 the new OFFSET and GAIN are computed and checked. M0 and M1 are in 1/256 LSB. A span of 0, a GAIN of
0, and values beyond their 16 bits leave CAL_SYS_NEW at a free value, because the spec states none. -/
def State.sysJudge (s : State) : State :=
  let m0 := s.rdI Reg.CAL_SYS_M0_M0 0
  let m1 := s.rdI Reg.CAL_SYS_M1_M1 0
  let t0 := toI 16 (s.rd Reg.CAL_SYS_T_T0)
  let t1 := toI 16 (s.rd Reg.CAL_SYS_T_T1)
  let den := m1 - m0
  let num := 16384 * 256 * (t1 - t0)
  let gain : Option Int := if den = 0 then none else some (if den < 0 then rndUp (-num) den.natAbs else rndUp num den.natAbs)
  let offset : Option Int := gain.bind (fun g =>
    if g = 0 then none
    else
      let n := m0 * g - t0 * 16384 * 256
      some (if g < 0 then rndUp (-n) (256 * g.natAbs) else rndUp n (256 * g.natAbs)))
  let fit := fun (s : State) (f : Fld) (v : Option Int) (lo hi : Int) =>
    match v with
    | some x => if lo ≤ x ∧ x ≤ hi then s.wr f (ofI 16 x) else (s.freeBelow 65536).2.wr f (s.freeBelow 65536).1
    | none => (s.freeBelow 65536).2.wr f (s.freeBelow 65536).1
  let t := fit (fit s Reg.CAL_SYS_NEW_GAIN gain 0 65535) Reg.CAL_SYS_NEW_OFFSET offset (-32768) 32767
  let g := gain.getD 0
  let o := offset.getD 4096
  if den.natAbs < 1024 * 256 then t.sysFail 3
  else if g < 13107 ∨ 20480 < g then t.sysFail 4
  else if o < -2048 ∨ 2048 < o then t.sysFail 5
  else (t.wr Reg.CAL_SYS_STAT_RESULT 2).wrsAt (s.rd Hid.sysIn)
    [(Hid.sysNew, 1), (Hid.sysNewOff, ofI 16 o), (Hid.sysNewGain, g.toNat)]

/-- CAL_SYS_POINT_DONE, R185, R186: the running point has its 256 averages, whose sum is the mean in 1/256 LSB. -/
def execCalSysPointDone (s : State) : Out :=
  if s.on Reg.CAL_SYS_STAT_BUSY = false ∨ s.rd Hid.sysCnt < 256 then fin s
  else
    let t := (s.wr Reg.CAL_SYS_STAT_BUSY 0).count 0x6E
    if s.on Hid.sysClip then fin (t.sysFail 6)
    else if s.rd Hid.sysPoint = 1 then fin ((t.wrI Reg.CAL_SYS_M0_M0 0 (s.rdI Hid.sysSum 0)).wr Reg.CAL_SYS_STAT_RESULT 1)
    else fin (t.wrI Reg.CAL_SYS_M1_M1 0 (s.rdI Hid.sysSum 0)).sysJudge

/-- CAL_STAT (R189): the calibration state of a converter as the register codes it. -/
def State.calState (s : State) (c : Nat) : Nat := (s.cal c).phase

end Sys2Proof.Machine
end

