-- ==== Sys2Proof/Machine/Fixed.lean ====
section
/-! DEFINITION. The Q16.16 arithmetic of the coaches (R51, R52). Every operation gives its value and whether it saturated, so
that a law can set the STICKY bit of the term it computes. -/

namespace Sys2Proof.Machine

/-- A value of the Q16.16 arithmetic and whether forming it saturated. -/
structure Q where
  v : Int
  sat : Bool
  deriving DecidableEq, Repr

/-- 1.0 in Q16.16. -/
def q1 : Int := 65536

/-- 100.0 in Q16.16. -/
def q100 : Int := 6553600

/-- R51: saturation to −2^31 and 2^31 − 1 LSB. -/
def qSat (x : Int) : Q := ⟨clampI (-2147483648) 2147483647 x, decide (x < -2147483648) || decide (2147483647 < x)⟩

/-- R51: a product is the exact 64-bit product plus 0x8000, shifted right arithmetically by 16. -/
def qMul (a b : Int) : Q := qSat ((a * b + 32768) / 65536)

/-- R51: a quotient is rounded to nearest, ties away from zero; a division by 0 gives the limit of the dividend's sign, and 0 by
0 gives 0; each sets the term's flag. -/
def qDiv (a b : Int) : Q :=
  if b = 0 then ⟨if a = 0 then 0 else if a < 0 then -2147483648 else 2147483647, true⟩
  else qSat (rndAway (a * 65536) b)

/-- R51: a sum is exact before saturation. -/
def qSum (l : List Int) : Q := qSat (l.foldl (· + ·) 0)

/-- R49: Ts for an interval in ms; it saturates and sets no flag. -/
def tsOf (t : Nat) : Int := min (rndUp ((t : Int) * 65536) 1000) 2147483647

/-- R49: TSINV for an interval in ms. An interval of 0 gives the limit of the format, as a division by 0 does under R51 (DESIGN
CHOICE, log entry 64: R49 states no TSINV for it). -/
def tsInvOf (t : Nat) : Int := if t = 0 then 2147483647 else min (rndUp 65536000 t) 2147483647

/-- R35: a 16-bit source value in Q16.16 by its UNIT. -/
def unitQ (unit v : Nat) : Int :=
  if unit = 0 then toI 16 v * 512
  else if unit = 1 then (v : Int) * 128
  else if unit = 2 then rndUp ((v : Int) * 6553600) 65535
  else toI 16 v * 65536

/-- R39: a value in percent as a position or duty. -/
def posOf (x : Int) : Nat := (rndUp (clampI 0 q100 x * 65535) 6553600).toNat

/-- R39: the command sent to an output kind for a value. A speed of KIND 3 rounds to nearest with ties up, as KIND 1 and 2 do
(DESIGN CHOICE, log entry 64: its row names no tie rule). -/
def commandOf (kind : Nat) (x : Int) : Nat :=
  if kind = 1 ∨ kind = 2 then posOf x
  else if kind = 3 then (rndUp (clampI 0 (65535 * q1) x) 65536).toNat
  else if kind = 4 then b2n (decide (32768 ≤ posOf x))
  else ofI 32 x

end Sys2Proof.Machine
end

