-- ==== Sys2Proof/Machine/Coach.lean ====
section
/-! DEFINITION. What one evaluation of a coach computes (R30 to R71, R73 to R86): inputs, causes, residual and window,
identification, set-point, state transition, law, delay line and prediction. The vote and the commit are in Lanes.lean. -/

namespace Sys2Proof.Machine

/-- Word `w` of coach `c` as it was last written. An error of its stored bits is in `upsets` (R100). -/
def State.cell (s : State) (c w : Nat) : Nat := s.rdAt (Reg.coachW w) c

/-- Writing a coach word: the word is stored with fresh check bits, so an error it held is gone (R100). -/
def State.wrCoach (s : State) (c w v : Nat) : State :=
  let t := s.wrAt (Reg.coachW w) c v
  { t with upsets := t.upsets.filter (fun u => !(u.coach == c && u.word == w)) }

/-- R42: fields of STATUS. -/
def stState (st : Nat) : Nat := bits st 0 2
/-- R42: EN. -/
def stEn (st : Nat) : Bool := bit st 2
/-- R42: RUN. -/
def stRun (st : Nat) : Bool := bit st 3
/-- R42: CMD_PEND. -/
def stPend (st : Nat) : Nat := bits st 4 3
/-- R42: SHUT_CAUSE. -/
def stCause (st : Nat) : Nat := bits st 8 3
/-- R42: BACKUP_IN. -/
def stBackup (st : Nat) : Bool := bit st 13

/-- R26, R100: whether a coach word's stored bits hold an error that cannot be corrected. -/
def State.unreadable (s : State) (c w : Nat) : Bool :=
  s.upsets.any (fun u => u.coach == c && u.word == w && decide (2 ≤ popCount 39 u.mask))

/-- R100, R102: word `w` of coach `c` as a read returns it: corrected, or, with an error that cannot be corrected, the stored
data bits as they are (DESIGN CHOICE, log entry 29). -/
def State.cw (s : State) (c w : Nat) : Nat :=
  match s.upsets.find? (fun u => u.coach == c && u.word == w && decide (2 ≤ popCount 39 u.mask)) with
  | some u => Nat.xor (s.cell c w) (u.mask % 2 ^ 32)
  | none => s.cell c w

/-- The same word as a signed Q16.16 value. -/
def State.cq (s : State) (c w : Nat) : Int := toI 32 (s.cw c w)

/-- Data bits are replaced in a word that has been read. An error that cannot be corrected stays with the word, so the next load of the coach
finds it (DESIGN CHOICE, log entry 29). -/
def State.pokeCoach (s : State) (c w v : Nat) : State :=
  if s.unreadable c w then s.wrAt (Reg.coachW w) c (Nat.xor v (Nat.xor (s.cell c w) (s.cw c w))) else s.wrCoach c w v

/-- R102: STATE as a part other than the evaluation takes it from STATUS: SHUTTERED where STATUS cannot be read. -/
def State.coachState (s : State) (c : Nat) : Nat := if s.unreadable c 44 then 3 else stState (s.cw c 44)

/-- R32: PERIOD of a coach. The period wheel keeps the one last written, so an error in the stored bits does not keep a load from finding
it (DESIGN CHOICE, log entry 29). -/
def State.coachPeriod (s : State) (c : Nat) : Nat := bits (s.cell c 1) 0 16

/-- A bound input as loaded (R34 to R37). -/
structure Inp where
  bound : Bool
  v : Int
  valid : Bool
  stale : Bool
  typ : Nat
  deriving DecidableEq, Repr

/-- The Present_Value of an Analog Value (R372): the coach output's value where a coach binds it, else the highest priority,
else Relinquish_Default. -/
def State.avValue (s : State) (boundOut : Bool) (i : Nat) : Int :=
  let a := (s.avs.find? (fun a => a.inst == i)).getD { inst := i }
  if boundOut then a.out else (a.prio.findSome? id).getD a.rel

/-- R38: KIND and INDEX of output `k` of a coach. -/
def State.outBind (s : State) (c k : Nat) : Nat × Nat :=
  let h := bits (s.cw c (6 + k / 2)) (16 * (k % 2)) 16
  (bits h 0 3, bits h 3 8)

/-- R40: whether some coach output binds an Analog Value. -/
def State.avBound (s : State) (i : Nat) : Bool :=
  (upTo 160).any (fun c => (upTo 4).any (fun k => s.outBind c k == (6, i)))

/-- R286: the set-point of a zone's active set, in Q16.16. -/
def State.zoneSp (s : State) (z : Nat) : Int :=
  let set := s.rdAt Reg.ZONE_STATE_SET z
  let f := if set = 0 then Reg.ZONE_SP0_SP_OCC else if set = 1 then Reg.ZONE_SP0_SP_STBY
    else if set = 2 then Reg.ZONE_SP1_SP_UNOCC else Reg.ZONE_SP1_SP_OFF
  s.rdI f z * 512

/-- R12, R34 to R37: the value an input binding delivers. `eff` is the coach's effective period in ms. A source coach whose STATUS holds an
error that cannot be corrected is taken as SHUTTERED for cause ECC (R102), its RUN as the stored bits give it (DESIGN CHOICE, log
entry 72): its input is then invalid only where OUT too is unreadable, or the stored RUN is 0 (R37). -/
def State.input (s : State) (bind eff : Nat) (badResults : List Nat) : Inp :=
  let typ := bits bind 0 4
  let idx := bits bind 4 8
  let unit := bits bind 12 3
  if typ = 1 then
    ⟨true, unitQ unit (s.rdAt Reg.UI_VALUE_VALUE idx), s.onAt Reg.UI_VALUE_VALID idx && !badResults.contains idx,
      decide (3 * eff < s.rdAt Reg.UI_AGE_AGE idx), 1⟩
  else if typ = 2 then
    let st := s.cw idx 44
    let ecc := s.unreadable idx 44 || (stState st == 3 && stCause st == 3)
    ⟨true, s.cq idx 52, s.coachPeriod idx != 0 && stRun st && !(ecc && s.unreadable idx 52), false, 2⟩
  else if typ = 3 then ⟨true, s.zoneSp idx, true, false, 3⟩
  else if typ = 4 then ⟨true, if bit (s.rd Reg.OCC_ZONE_OCC) idx then q1 else 0, true, false, 4⟩
  else if typ = 5 then ⟨true, s.avValue (s.avBound idx) idx, true, false, 5⟩
  else if typ = 6 then
    ⟨true, unitQ unit (s.rdAt Reg.SNS_VAL_VALUE idx), s.onAt Reg.SNS_VAL_VALID idx,
      decide (3 * eff < s.rdAt Reg.SNS_AGE_AGE idx), 6⟩
  else ⟨false, 0, true, false, 0⟩

/-- The inputs of one evaluation. -/
structure Inputs where
  pv : Inp
  sp : Inp
  aux0 : Inp
  aux1 : Inp
  aux2 : Inp
  w : Inp
  backup : Inp
  occ : Inp
  deriving DecidableEq, Repr

/-- R30: the eight input bindings of a coach, in words 2 to 5. -/
def State.inputs (s : State) (c eff : Nat) (bad : List Nat) : Inputs :=
  let b := fun w h => s.input (bits (s.cw c w) (16 * h) 16) eff bad
  ⟨b 2 0, b 2 1, b 3 0, b 3 1, b 4 0, b 4 1, b 5 0, b 5 1⟩

/-- R43: bits of STICKY. -/
def SAT_P : Nat := 0
/-- R43. -/
def SAT_I : Nat := 1
/-- R43. -/
def SAT_D : Nat := 2
/-- R43. -/
def SAT_FF : Nat := 3
/-- R43. -/
def SAT_OUT : Nat := 4
/-- R43. -/
def SAT_MODEL : Nat := 5

/-- The working copy of a coach inside one evaluation. -/
structure Ev where
  -- configuration
  kind : Nat
  dir : Int
  cfg : Nat
  -- loaded and changed words
  state : Nat
  pend : Nat
  cause : Nat
  preShut : Nat
  relCnt : Nat
  ramping : Bool
  vacant : Bool
  backup : Bool
  tpOn : Bool
  spWork : Int
  pv : Int
  err : Int
  iTerm : Int
  dTerm : Int
  pvPrev : Int
  out : Int
  manOut : Int
  tpEl : Nat
  winCnt : Nat
  predOk : Bool
  resMag : Nat
  yPred : Int
  theta : List Int
  cov : List Int
  hist : List Nat
  -- what the evaluation adds
  sticky : Nat := 0
  codes : List Nat := []
  hold : Bool := false
  modelUpd : Bool := false
  entered : Bool := false
  closedTr : Bool := false
  manEnter : Bool := false
  dropped : Bool := false
  xchk : Bool := false
  outOk : Bool := true
  send : Bool := true
  shifted : Bool := true
  quiet : Bool := false
  deriving DecidableEq, Repr

/-- Setting a STICKY bit. -/
def Ev.flag (e : Ev) (b : Bool) (n : Nat) : Ev := if b then { e with sticky := e.sticky ||| 2 ^ n } else e

/-- Counting an event source at the commit. -/
def Ev.ev (e : Ev) (b : Bool) (code : Nat) : Ev := if b then { e with codes := e.codes ++ [code] } else e

/-- R69, R64: the image of a coach as loaded (step 1 of R83). A word with an error that cannot be corrected is loaded as its stored
bits stand (DESIGN CHOICE, log entry 29). -/
def State.loadCoach (s : State) (c : Nat) : Ev :=
  let cfg := s.cw c 0
  let st := s.cw c 44
  let res := s.cw c 42
  { kind := bits cfg 0 3, dir := if bit cfg 3 then -1 else 1, cfg := cfg,
    state := stState st, pend := stPend st, cause := stCause st, preShut := bits st 16 2, relCnt := bits st 20 4,
    ramping := bit st 11, vacant := bit st 12, backup := bit st 13, tpOn := bit st 14,
    spWork := s.cq c 46, pv := s.cq c 47, err := s.cq c 48, iTerm := s.cq c 49, dTerm := s.cq c 50, pvPrev := s.cq c 51,
    out := s.cq c 52, manOut := s.cq c 53, tpEl := s.cw c 54, winCnt := bits res 0 8, predOk := bit res 8,
    resMag := bits res 9 23, yPred := s.cq c 41, theta := (upTo 3).map (fun k => s.cq c (32 + k)),
    cov := (upTo 6).map (fun k => s.cq c (35 + k)),
    hist := (upTo 16).map (fun k => bits (s.cw c (55 + k / 2)) (16 * (k % 2)) 16) }

/-- R84: the product of the symmetric covariance with a vector. Each product and sum saturates on its own. -/
def covTimes (p phi : List Int) : List Q :=
  let m := fun i => p.getD i 0
  let f := fun i => phi.getD i 0
  let row := fun a b c =>
    let x := [qMul a (f 0), qMul b (f 1), qMul c (f 2)]
    let t := qSum (x.map Q.v)
    (⟨t.v, t.sat || x.any Q.sat⟩ : Q)
  [row (m 0) (m 1) (m 2), row (m 1) (m 3) (m 4), row (m 2) (m 4) (m 5)]

/-- The saturating dot product of two vectors. -/
def qDot (a b : List Int) : Q :=
  let x := (a.zip b).map (fun p => qMul p.1 p.2)
  let t := qSum (x.map Q.v)
  ⟨t.v, t.sat || x.any Q.sat⟩

/-- R86: the parameter limits. -/
def thetaOk (t : List Int) : Bool :=
  let a := t.getD 0 0
  let b := t.getD 1 0
  let c := t.getD 2 0
  decide (0 ≤ a ∧ a ≤ 65535 ∧ -16777216 ≤ b ∧ b ≤ 16777216 ∧ -65536 ≤ c ∧ c ≤ 65536)

/-- R84, R85: the identification step with the measurement `y` and the regressor `phi`. A saturation on the way to a closed gate
sets SAT_MODEL, as R51 and R52 say of every saturation (DESIGN CHOICE, log entry 64: R85 says that a closed gate changes nothing). -/
def Ev.identify (e : Ev) (excTh : Int) (lambda : Nat) (y : Int) (phi : List Int) : Ev :=
  let pphi := covTimes e.cov phi
  let pv := pphi.map Q.v
  let info := qDot phi pv
  let sat0 := info.sat || pphi.any Q.sat
  if info.v < excTh then (e.flag sat0 SAT_MODEL).ev true 0x39
  else
    let lam : Int := if lambda = 0 then q1 else lambda
    let den := qSum [lam, info.v]
    let k := pv.map (fun x => qDiv x den.v)
    let est := qDot e.theta phi
    let er := qSum [y, -est.v]
    let upd := (e.theta.zip k).map (fun p => (p.1, qMul p.2.v er.v))
    let th := upd.map (fun p => qSum [p.1, p.2.v])
    let outer := [(0, 0), (0, 1), (0, 2), (1, 1), (1, 2), (2, 2)].map (fun (q : Nat × Nat) => qMul ((k.getD q.1 ⟨0, false⟩).v) (pv.getD q.2 0))
    let pn := (e.cov.zip outer).map (fun p => qSum [p.1, -p.2.v])
    let small := decide ((pn.getD 0 ⟨0, false⟩).v ≤ 67108864 ∧ (pn.getD 3 ⟨0, false⟩).v ≤ 67108864 ∧ (pn.getD 5 ⟨0, false⟩).v ≤ 67108864)
    let pf := if small then pn.map (fun x => (⟨(qDiv x.v lam).v, x.sat || (qDiv x.v lam).sat⟩ : Q)) else pn
    let sat := sat0 || den.sat || k.any Q.sat || est.sat || er.sat || upd.any (fun p => p.2.sat) || th.any Q.sat ||
      outer.any Q.sat || pf.any Q.sat
    if sat || !thetaOk (th.map Q.v) then (e.flag sat SAT_MODEL).ev true 0x38
    else ({ e with theta := th.map Q.v, cov := pf.map Q.v, modelUpd := true }).ev true 0x37

/-- R77: the window test is on when WIN_WIDTH and WIN_PERSIST are both non-zero. -/
def windowOn (width : Int) (persist : Nat) : Bool := width != 0 && persist != 0

/-- R77: the residual step. A saturation of r clamps RES_MAG at its limit, as one of the filter does. -/
def Ev.residual (e : Ev) (y width : Int) (winCfg : Nat) : Ev :=
  let r := qSum [y, -e.yPred]
  let mag := (e.resMag : Int) + rndUp ((r.v.natAbs : Int) - e.resMag) (2 ^ bits winCfg 8 4)
  let m := if r.sat then 0x7FFFFF else (clampI 0 0x7FFFFF mag).toNat
  let on := windowOn width (bits winCfg 0 8)
  let above := decide (width < m)
  let cnt := if on && above then capN 255 (e.winCnt + 1) else 0
  (({ e with resMag := m, winCnt := cnt, xchk := e.winCnt == 0 && cnt == 1 }).flag (r.sat || decide (0x7FFFFF < mag)) SAT_MODEL).ev above 0x3A

/-- R55: the output limits, the rate limit, and STOP_BELOW of a FAN coach. -/
def Ev.limit (e : Ev) (lo hi rate stop ts v : Int) : Ev :=
  let a := clampI lo hi v
  let b := if rate = 0 then a else
    let st := (qMul rate ts).v
    clampI (e.out - st) (e.out + st) a
  let o := if e.kind = 6 ∧ b < stop then 0 else b
  ({ e with out := o }).flag (a != v) SAT_OUT

/-- The configuration words the laws read, as signed values. -/
structure LawWords where
  kp : Int
  ki : Int
  kd : Int
  tf : Int
  kff : Int
  bias : Int
  lo : Int
  hi : Int
  rate : Int
  k0 : Int
  k1 : Int
  k1raw : Nat
  deriving DecidableEq, Repr

/-- R53: the law of PID, PI+FF, CASCADE, FAN, and of SPLIT's demand, for an error `x` (SPLIT: the dead-banded one). At the
close transition the increment is 0 (R64). For FAN, a sum of the law below STOP_BELOW, before the limits, counts as clamped low in
R54 (DESIGN CHOICE, log entry 64: R55 does not say which value R54 compares with STOP_BELOW). At the
close transition the products of the integral step are still formed, so a saturation of one sets SAT_I although the increment is 0
(DESIGN CHOICE, log entry 72: R64 takes the increment as 0 and says nothing of the flag). The difference PV − PV_PREV and its sign
are one operation, which saturates once (DESIGN CHOICE, log entry 71). -/
def Ev.piFamily (e : Ev) (w : LawWords) (x ts tsinv aux0 : Int) : Ev :=
  let p := qMul w.kp x
  let deriv := e.kind == 0 || e.kind == 4
  let den := qSum [w.tf, ts]
  let a : Q := if w.tf = 0 then ⟨0, false⟩ else qDiv w.tf den.v
  let dpv := qSat (-e.dir * (e.pv - e.pvPrev))
  let rate := qMul dpv.v tsinv
  let kdr := qMul w.kd rate.v
  let na := qSum [q1, -a.v]
  let d1 := qMul a.v e.dTerm
  let d2 := qMul na.v kdr.v
  let dq := qSum [d1.v, d2.v]
  let d := if deriv then dq.v else 0
  let dSat := deriv && ((w.tf != 0 && den.sat) || a.sat || dpv.sat || rate.sat || kdr.sat || na.sat || d1.sat || d2.sat || dq.sat)
  let ff : Q := if e.kind = 1 then qMul w.kff aux0 else ⟨0, false⟩
  let et := qMul x ts
  let iq := qMul w.ki et.v
  let inc0 := if e.closedTr then 0 else iq.v
  let v0 := qSum [p.v, e.iTerm, inc0, d, ff.v]
  let low := decide (v0.v < w.lo) || (e.kind == 6 && decide (v0.v < w.k0))
  let stop := (decide (w.hi < v0.v) && decide (0 < inc0)) || (low && decide (inc0 < 0))
  let inc := if stop then 0 else inc0
  let v := if stop then qSum [p.v, e.iTerm, d, ff.v] else v0
  let it := qSum [e.iTerm, inc]
  let f := ((((e.flag p.sat SAT_P).flag dSat SAT_D).flag ff.sat SAT_FF).flag (et.sat || iq.sat || it.sat) SAT_I).flag
    (v0.sat || v.sat) SAT_OUT
  ({ f with iTerm := it.v, dTerm := d }).limit w.lo w.hi w.rate w.k0 ts v.v

/-- R57: the law of TWO-POS. TP_ELAPSED rises before the MIN_ON and MIN_OFF tests, at the close transition as well (R64 says that
the transition leaves it), and the law starts from TP_ON as it stands, 0 at a first evaluation (DESIGN CHOICE, log entry 71). -/
def Ev.twoPos (e : Ev) (w : LawWords) (x : Int) (t : Nat) : Ev :=
  let el := capN 0xFFFFFFFF (e.tpEl + t)
  let on := if e.tpOn then !(decide (2 * x ≤ -w.k0) && decide (bits w.k1raw 0 16 * 1000 ≤ el))
    else decide (w.k0 ≤ 2 * x) && decide (bits w.k1raw 16 16 * 1000 ≤ el)
  { e with tpOn := on, tpEl := if on == e.tpOn then el else 0, out := if on then q100 else 0 }

/-- R58: the law of SELECT over the bound VALID inputs. -/
def Ev.select (e : Ev) (w : LawWords) (vals : List Int) (ts : Int) : Ev :=
  let fn := bits e.cfg 4 2
  let h := vals.headD 0
  let r : Q :=
    if fn = 0 then ⟨vals.foldl min h, false⟩
    else if fn = 1 then ⟨vals.foldl max h, false⟩
    else
      let t := qSum vals
      ⟨rndAway t.v vals.length, t.sat⟩
  (e.flag r.sat SAT_OUT).limit w.lo w.hi w.rate w.k0 ts r.v

/-- The bound VALID inputs of a SELECT coach (R58), with IN_BACKUP in the place of IN_PV while it is in use (R42, R80). -/
def Inputs.selectVals (i : Inputs) (backup : Bool) : List Int :=
  ([if backup then i.backup else i.pv, i.aux0, i.aux1, i.aux2].filter (fun x => x.bound && x.valid)).map Inp.v

/-- R61: the set-point of a CASCADE coach. -/
def Ev.cascadeSp (e : Ev) (w : LawWords) (x : Int) : Ev :=
  let fr := qDiv x q100
  let span := qSum [w.k1, -w.k0]
  let m := qMul fr.v span.v
  let r := qSum [w.k0, m.v]
  ({ e with spWork := r.v }).flag (fr.sat || span.sat || m.sat || r.sat) SAT_OUT

/-- R60: the target of a coach, where IN_SP and IN_OCC deliver valid values. -/
def targetOf (kind : Nat) (i : Inputs) (spTarget : Int) (ramp : Nat) (spLo spHi : Int) : Option Int :=
  if kind = 4 ∨ kind = 5 ∨ kind = 7 then none
  else if (i.sp.bound && !i.sp.valid) || (i.occ.bound && !i.occ.valid) then none
  else
    let src := if i.sp.bound then i.sp.v else spTarget
    let vac := i.occ.bound && decide (i.occ.v < 32768)
    some (clampI spLo spHi (src + (if vac then toI 16 (bits ramp 16 16) * 512 else 0)))

/-- R60: one ramp step towards the target, in a CLOSED coach. -/
def Ev.ramp (e : Ev) (target : Option Int) (ramp t : Nat) : Ev :=
  match target with
  | none => e
  | some g =>
    let rate := bits ramp 0 16
    let step := rndUp ((rate : Int) * 512 * t) 1000
    let sp := if rate = 0 then g else if e.spWork < g then min (e.spWork + step) g else max (e.spWork - step) g
    { e with spWork := sp }

/-- R62: the precedence of shutter causes (R67): PLAUS, STALE, HOST, ECC. -/
def causeRank (c : Nat) : Nat := if c = 2 then 1 else if c = 1 then 2 else if c = 4 then 3 else if c = 3 then 4 else 0

/-- R62, R67, R102: the coach enters SHUTTERED for a cause, or a cause of higher rank replaces the one recorded. `held` is
the output held, none when it cannot be known. -/
def Ev.shutter (e : Ev) (cause : Nat) (held : Option Int) : Ev :=
  if e.state = 3 then
    { e with cause := if causeRank e.cause < causeRank cause then cause else e.cause, out := held.getD e.out, outOk := held.isSome }
  else
    ({ e with
      preShut := e.state, state := 3, cause := cause, out := held.getD e.out, outOk := held.isSome, entered := true,
      sticky := e.sticky ||| 2 ^ 7 }).ev true 0x23

/-- R64: the close transition, with the measured value `y` (none when there is no measurement). -/
def Ev.close (e : Ev) (w : LawWords) (i : Inputs) (spTarget : Int) : Ev :=
  let f0 : Ev := { e with state := 1, closedTr := true, dTerm := 0, pvPrev := e.pv }
  let f1 := if e.kind = 4 then
      (if i.sp.bound && !i.sp.valid then f0 else f0.cascadeSp w (if i.sp.bound then i.sp.v else spTarget))
    else { f0 with spWork := e.pv }
  let er := qSat (e.dir * (f1.spWork - e.pv))
  let p : Q := if e.kind = 4 then qMul w.kp er.v else ⟨0, false⟩
  let ff : Q := if e.kind = 1 then qMul w.kff i.aux0.v else ⟨0, false⟩
  let it := qSum [e.out, -p.v, -ff.v]
  let f2 := if e.kind = 3 then { f1 with iTerm := e.out }
    else ((({ f1 with iTerm := it.v }).flag it.sat SAT_I).flag (e.kind == 4 && (er.sat || p.sat)) SAT_P).flag ff.sat SAT_FF
  f2.ev true 0x2B

/-- The law of a CLOSED coach (R53 to R59). ERR is written where e is formed: an evaluation that forms none (OPEN, MANUAL, SHUTTERED, a
hold, SELECT, RATIO) leaves the value of the last one that did (DESIGN CHOICE, log entry 72: R30 calls it the error at the last
evaluation). -/
def Ev.law (e : Ev) (w : LawWords) (i : Inputs) (t : Nat) : Ev :=
  let ts := tsOf t
  let er := qSat (e.dir * (e.spWork - e.pv))
  if e.kind = 5 then e.select w (i.selectVals e.backup) ts
  else if e.kind = 7 then
    let m := qMul w.kp e.pv
    let r := qSum [m.v, w.bias]
    (e.flag (m.sat || r.sat) SAT_OUT).limit w.lo w.hi w.rate w.k0 ts r.v
  else
    let f := ({ e with err := er.v }).flag er.sat SAT_P
    if e.kind = 2 then f.twoPos w er.v t
    else if e.kind = 3 then
      let h := w.k0 / 2
      let x : Q := if (er.v.natAbs : Int) ≤ h then ⟨0, false⟩ else if 0 < er.v then qSat (er.v - h) else qSat (er.v + h)
      (f.flag x.sat SAT_P).piFamily w x.v ts (tsInvOf t) 0
    else f.piFamily w er.v ts (tsInvOf t) i.aux0.v

/-- R74: the newest entry of the delay line. -/
def histEntry (out lo hi : Int) : Nat :=
  if hi ≤ lo then 0 else (clampI 0 65535 (rndUp ((out - lo) * 65536) (hi - lo).toNat)).toNat

/-- R56, R39: the value of output `k`: OUT, or for SPLIT the channel's mapping of the demand, rounded once, after × 100 (DEDUCED from
the worked example's 30 506.54, log entry 71). -/
def splitOut (d : Int) (word : Nat) : Int :=
  let lo := toI 16 (bits word 0 16) * 256
  let hi := toI 16 (bits word 16 16) * 256
  if lo = hi then (if lo ≤ d then q100 else 0)
  else clampI 0 q100 (rndAway ((d - lo) * q100) (hi - lo))

/-- The inputs a kind uses, with IN_BACKUP in the place of IN_PV while it is in use (R68, log entry 12). -/
def kindInputs (e : Ev) (i : Inputs) : List Inp :=
  let pv := if e.backup then i.backup else i.pv
  if e.kind = 1 then [pv, i.sp, i.aux0, i.occ]
  else if e.kind = 4 then [pv, i.sp]
  else if e.kind = 7 then [pv]
  else [pv, i.sp, i.occ]

/-- R68, R58: whether the evaluation is a hold evaluation when no shutter cause is found. -/
def holds (e : Ev) (i : Inputs) : Bool :=
  if e.kind = 5 then (i.selectVals e.backup).isEmpty else (kindInputs e i).any (fun x => x.bound && !x.valid)

/-- R36: whether a checked input is stale. -/
def anyStale (e : Ev) (i : Inputs) : Bool :=
  [i.pv, i.sp, i.aux0, i.aux1, i.aux2, i.w].any Inp.stale || (e.backup && i.backup.stale)

/-- R79: the plausibility condition. -/
def plausCond (width : Int) (persist cnt : Nat) : Bool := windowOn width persist && decide (persist ≤ cnt)

/-- R102: the output held by a coach that shutters, from what can be read. -/
def State.heldOut (s : State) (c : Nat) (e : Ev) (bad : Nat → Bool) : Option Int :=
  if e.state = 3 ∧ bad 44 = false then (if bad 52 then (if bad 21 then none else some (s.cq c 21)) else some e.out)
  else if bad 0 = false ∧ bit e.cfg 6 = true ∧ bad 52 = false then some e.out
  else if bad 21 then none else some (s.cq c 21)

/-- What SERVICE and INIT_CLOSED ask of an evaluation (R70, R71): SERVICE stands; a pending CLOSE is discarded; a CLOSED coach is
opened; an OPEN coach is closed. -/
structure Asked where
  service : Bool
  drop : Bool
  openIt : Bool
  closeIt : Bool
  deriving DecidableEq, Repr

/-- R70, R71: what is asked of coach `c` with the configuration word `cfg`. -/
def State.asked (s : State) (c cfg : Nat) : Asked :=
  let service := s.mode == mService
  let k := s.rdAt Hid.closeInit c
  { service := service, drop := service || s.onAt Hid.svcDrop c, openIt := service || s.onAt Hid.svcOpen c,
    closeIt := !service && (k == 2 || (k == 1 && bit cfg 7)) }

/-- R62, R63, R66, R67, R71: the state transition of an evaluation that is neither held nor has a cause. A pending command that is
not discarded acts in the place of the opening on entry to SERVICE and of the close of INIT_CLOSED, which is then not made up for;
AUTO_REL does not close a coach in SERVICE (DESIGN CHOICE, log entry 64). BACKUP_IN clears on entering OPEN by a command alone: a
release by AUTO_REL and the opening by SERVICE leave it (DESIGN CHOICE, log entry 71). -/
def Ev.transition (e : Ev) (w : LawWords) (i : Inputs) (spTarget safe : Int) (a : Asked) : Ev :=
  let e1 : Ev := if a.drop && e.pend == 2 then ({ e with pend := 0, dropped := true }).ev true 0x28 else e
  let cmd := if e1.pend ≠ 0 then e1.pend else if a.openIt && e1.state == 1 then 1
    else if a.closeIt && e1.state == 0 then 2 else 0
  let byCmd := e1.pend != 0
  let f : Ev := { e1 with pend := 0 }
  if cmd = 4 then f.shutter 4 (some (if f.state = 3 then f.out else if bit f.cfg 6 then f.out else safe))
  else
    let rel := f.state == 3 && cmd == 0 && bit f.cfg 8 && decide (10 ≤ f.relCnt) && (f.cause == 1 || f.cause == 2) &&
      !(a.service && f.preShut == 1)
    let target := if rel then f.preShut else if cmd = 0 then f.state else cmd - 1
    if target = f.state then f
    else
      let g : Ev := if f.state = 3 then { f with cause := 0 } else f
      if target = 1 then g.close w i spTarget
      else if target = 2 then { g with state := 2, manOut := g.out, manEnter := true }
      else if target = 0 then { g with state := 0, backup := if byCmd then false else g.backup }
      else g

/-- The measured value of an evaluation (R73): IN_BACKUP while BACKUP_IN is 1, else IN_PV. -/
def Ev.measured (e : Ev) (i : Inputs) : Inp := if e.backup then i.backup else i.pv

/-- The words the laws read. -/
def State.lawWords (s : State) (c : Nat) : LawWords :=
  { kp := s.cq c 12, ki := s.cq c 13, kd := s.cq c 14, tf := s.cq c 15, kff := s.cq c 16, bias := s.cq c 17, lo := s.cq c 18,
    hi := s.cq c 19, rate := s.cq c 20, k0 := s.cq c 22, k1 := s.cq c 23, k1raw := s.cw c 23 }

/-- R49: the interval of an evaluation in ms. An evaluation that commits nothing (R96) leaves the next one the first (DESIGN CHOICE, log entry
73). -/
def State.interval (s : State) (c tick : Nat) : Nat :=
  if s.onAt Hid.first c then s.coachPeriod c * s.rd Reg.ENG_STATUS_PMUL
  else
    (tick + 2 ^ 32 - s.cw c 63) % 2 ^ 32

/-- R83, steps 1 to 8, R475: one evaluation of coach `c` for the tick that made it due. `bad w` says that word `w` is unreadable.
The choices of log entry 64: with IN_PV unbound, PV and PV_PREV stay (RATIO then uses the PV that stands); VACANT stays where a bound
IN_OCC delivers an invalid value; a first evaluation in STANDBY or degraded operation whose interval equals PERIOD runs the residual
step that R77 states. Those of log entry 29: a measurement whose binding word is unreadable is none, and a coach whose CFG, OUT_A or
OUT_B is unreadable sends no command. Those of log entry 71: RAMPING stays where no target is formed; a coach taken as SHUTTERED
for an unreadable STATUS makes no entry to SHUTTERED, and (log entry 72) starts the evaluation with BACKUP_IN, CMD_PEND and REL_CNT at
0, since R102 names only SHUTTERED and PRE_SHUT OPEN; what SERVICE and INIT_CLOSED ask waits over hold evaluations and plausibility
holds; a standing plausibility condition is no cause at a hold evaluation, so REL_CNT rises and a pending command stays. That of log entry
73: a plausibility condition that a host write of WIN_CFG or WIN_WIDTH has made true counts no PLAUS_ENTRY. -/
def State.evaluate (s : State) (c tick : Nat) (badResults : List Nat) : Ev :=
  let bad := fun w => s.unreadable c w
  let ecc := (upTo 64).any bad
  let l0 := s.loadCoach c
  let e0 : Ev := if bad 44 then { l0 with state := 3, preShut := 0, pend := 0, cause := 3, relCnt := 0, backup := false } else l0
  let t := s.interval c tick
  let w := s.lawWords c
  let i := s.inputs c (s.coachPeriod c * s.rd Reg.ENG_STATUS_PMUL) badResults
  let spTarget := s.cq c 8
  let rampW := s.cw c 9
  let width := s.cq c 30
  let winCfg := s.cw c 31
  let persist := bits winCfg 0 8
  let stale := anyStale e0 i
  let e1 := if stale then ({ e0 with sticky := e0.sticky ||| 2 ^ 6 }).ev true 0x24 else e0
  -- steps 1 to 3: ECC, staleness, validity
  let cause0 := if ecc then 3 else if stale then 1 else 0
  let hold := cause0 == 0 && holds e1 i
  let modelled := bit e1.cfg 9 && (i.pv.typ == 1 || i.pv.typ == 6)
  let y0 := e1.measured i
  let step := modelled && !ecc && !hold && (!i.w.bound || i.w.valid)
  let wv := if i.w.bound then i.w.v else 0
  -- step 4: residual step
  let ran := step && e1.predOk && t == s.coachPeriod c
  let e2 := if ran then e1.residual y0.v width winCfg else e1
  let before := plausCond width persist e1.winCnt
  let cond := !ecc && !hold && plausCond width persist e2.winCnt
  let e3 := e2.ev (cond && !before) 0x3B
  -- step 5: plausibility action
  let act := bits e3.cfg 14 2
  let usable := i.backup.bound && i.backup.valid && !i.backup.stale
  let switch := cond && act == 1 && !e3.backup && usable
  let pHold := cond && act == 0 && cause0 == 0
  let cause := if cause0 ≠ 0 then cause0 else if cond && !switch && act != 0 then 2 else 0
  let e4 : Ev := if switch then
      ({ e3 with backup := true, pvPrev := i.backup.v, pv := i.backup.v, dTerm := 0, resMag := 0, winCnt := 0 }).ev true 0x3C
    else e3
  let y := e4.measured i
  -- step 6: identification
  let phi := [l0.pv, (l0.hist.getD (bits e4.cfg 10 4) 0 : Int), wv]
  let ident := ran && (l0.state == 1 || l0.state == 2) && e2.winCnt == 0 && !l0.backup
  let e5 := if ident then e4.identify (s.cq c 43) (bits winCfg 16 16) y.v phi else e4
  -- step 7: state transition and law
  let quiet := hold || pHold
  let e6 : Ev := { e5 with
    relCnt := if cause = 0 then capN 15 (e5.relCnt + 1) else 0, hold := hold, quiet := quiet,
    vacant := if i.occ.bound then (if i.occ.valid then decide (i.occ.v < 32768) else e5.vacant) else false }
  let meas := !quiet && y.bound && !bad (if e4.backup then 5 else 2)
  let e7 : Ev := if meas && !switch then { e6 with pvPrev := e6.pv, pv := y.v } else e6
  let e8 : Ev :=
    if cause ≠ 0 then
      let d : Ev := if e7.pend ≠ 0 then ({ e7 with pend := 0, dropped := true }).ev true 0x28 else e7
      let held := if ecc then s.heldOut c d bad else some (if d.state = 3 then d.out else if bit d.cfg 6 then d.out else s.cq c 21)
      d.shutter cause held
    else if quiet then e7
    else e7.transition w i spTarget (s.cq c 21) (s.asked c e7.cfg)
  let target := targetOf e8.kind i spTarget rampW (s.cq c 10) (s.cq c 11)
  let e9 :=
    if ecc || e8.state ≠ 1 || e8.closedTr then e8
    else if e8.kind = 4 then (if quiet || (i.sp.bound && !i.sp.valid) then e8 else e8.cascadeSp w (if i.sp.bound then i.sp.v else spTarget))
    else e8.ramp target rampW t
  let e10 : Ev := { e9 with ramping := if e9.kind = 4 ∨ e9.kind = 5 ∨ e9.kind = 7 then false else
    match target with | some g => e9.spWork != g | none => e9.ramping }
  let e11 : Ev :=
    if quiet then e10
    else if e10.state = 1 then e10.law w i t
    else if e10.state = 2 then
      ({ e10 with out := clampI w.lo w.hi e10.manOut }).flag (clampI w.lo w.hi e10.manOut != e10.manOut) SAT_OUT
    else e10
  let e12 : Ev :=
    if quiet then { e11 with tpEl := capN 0xFFFFFFFF (e11.tpEl + t) }
    else if e11.kind ≠ 2 ∨ e11.state = 1 then e11
    else
      let on := decide (50 * q1 ≤ e11.out)
      { e11 with tpOn := on, tpEl := if on == e11.tpOn then capN 0xFFFFFFFF (e11.tpEl + t) else 0 }
  let e13 : Ev := if hold then ({ e12 with sticky := e12.sticky ||| 2 ^ 8 }).ev true 0x22 else e12
  -- step 8: delay line and prediction
  let e14 : Ev := if ecc then { e13 with shifted := false, predOk := false } else
    { e13 with hist := histEntry e13.out w.lo w.hi :: e13.hist.dropLast, predOk := step }
  let e15 : Ev :=
    if step then
      let a := qMul (e14.theta.getD 0 0) y.v
      let b := qMul (e14.theta.getD 1 0) (e14.hist.getD (bits e14.cfg 10 4) 0)
      let k := qMul (e14.theta.getD 2 0) wv
      let p := qSum [a.v, b.v, k.v]
      ({ e14 with yPred := p.v }).flag (a.sat || b.sat || k.sat || p.sat) SAT_MODEL
    else e14
  let e16 := { e15 with send := !(ecc && (bad 0 || bad 6 || bad 7 || !e15.outOk)), xchk := e15.xchk && i.pv.typ == 1 }
  (e16.ev (e16.sticky % 64 != 0) 0x25).ev true 0x21

end Sys2Proof.Machine
end

