-- ==== Sys2Proof/Machine/Lanes.lean ====
section
/-! DEFINITION. The lanes and their vote (R88 to R99), the coach store's error correction (R100 to R102), the commit
(R46, R14), what a commit sends (R38 to R41), the watchdog's kick (R107) and the cross-check of R87. -/

namespace Sys2Proof.Machine

/-- R107: the loop engine kicks the audit watchdog; a waiting TIMEOUT is loaded. Nothing runs while AUDIT is absent or in
SAFE (R24). -/
def State.kick (s : State) : State :=
  if s.on Reg.CLK_STAT_AUDIT_OK ∧ s.mode ≠ mSafe then (s.wr Reg.SUPV_WDT_REMAIN (s.rd Reg.SUPV_WDT_TIMEOUT)).count 0x3E else s

/-- R91: a lane is retired. -/
def State.laneRetire (s : State) (lane : Nat) : State :=
  (((s.or Reg.SUPV_LANE_RETIRED (2 ^ lane)).wr Reg.SUPV_STAT_RETIRE 1).count 0x2E).raise 1

/-- R96: no result has a majority. -/
def State.noMajority (s : State) : State :=
  ((s.wr Reg.SUPV_LANE_LOG_LOSER 3).wr Reg.SUPV_STAT_NO_MAJ 1).count 0x2F

/-- R97: the engine stops; what was queued is not evaluated. -/
def State.engineStop (s : State) : State :=
  { s.wrs [(Reg.SUPV_LANE_LEAD, 3), (Reg.SUPV_LANE_FOLLOW, 3), (Reg.SUPV_LANE_SPARE, 3), (Reg.SUPV_LANE_STOPPED, 1)] with
    due := [] }

/-- R95: degraded operation with lane `l`; PMUL changes at the next tick (R48). -/
def State.degrade (s : State) (l : Nat) : State :=
  s.wrs [(Reg.SUPV_LANE_LEAD, l), (Reg.SUPV_LANE_FOLLOW, 3), (Reg.SUPV_LANE_SPARE, 3), (Reg.SUPV_LANE_DEGRADED, 1)]

/-- The result of run `k` of an evaluation. Two bad results are never equal. -/
def runOf (env : Sys2Proof.EvalEnv) (k : Nat) : Sys2Proof.LaneRun := env.runs.getD k .good

/-- Whether a run is good. -/
def good (env : Sys2Proof.EvalEnv) (k : Nat) : Bool := runOf env k == .good

/-- The item at which a run first differs; 128 for a good run. -/
def itemOf : Sys2Proof.LaneRun → Nat
  | .good => 128
  | .bad n => n

/-- R110: the mismatch record. -/
def State.logMismatch (s : State) (c : Nat) (env : Sys2Proof.EvalEnv) : State :=
  ((s.wrs [(Reg.SUPV_STAT_MISMATCH, 1), (Reg.SUPV_LANE_LOG_COACH, c),
    (Reg.SUPV_LANE_LOG_ITEM, min (itemOf (runOf env 0)) (itemOf (runOf env 1))),
    (Reg.SUPV_LANE_TICK_TICK, s.tick)])).count 0x2C

/-- R91, R92: the spare has decided; the loser in position `pos` (1 lead, 2 follow) is retired, and the swap begins. -/
def State.swapBegin (s : State) (pos : Nat) : State :=
  let f := if pos = 1 then Reg.SUPV_LANE_LEAD else Reg.SUPV_LANE_FOLLOW
  let l := s.rd f
  ((s.wr Reg.SUPV_LANE_LOG_LOSER l).laneRetire l).wrs [(f, 3), (Reg.SUPV_LANE_SWAP_BUSY, 1), (Hid.swapPos, pos)]

/-- R94, first row: one lane of a pair fails its entry test. Run 2 and run 3 are the survivor's. Where they differ, run 4 is its third, as in
R95, and DEGR_RERUN counts (DESIGN CHOICE, log entry 73). -/
def State.pairLoses (s : State) (loser survivor : Nat) (env : Sys2Proof.EvalEnv) : State × Bool :=
  let t := ((s.wr Reg.SUPV_LANE_LOG_LOSER loser).laneRetire loser).degrade survivor
  if good env 2 && good env 3 then (t, true)
  else
    let u := t.count 0x30
    if (good env 2 || good env 3) && good env 4 then (u, true) else (u.noMajority, false)

/-- R90 to R96: the vote on an evaluation of coach `c`, and whether its result is committed. In degraded operation a disagreement of
the first two runs counts DEGR_RERUN and is no mismatch of two lanes: MISMATCH, SUPV_LANE_LOG and SUPV_LANE_TICK stay (DESIGN CHOICE, log
entry 72: R95 and R110 do not say). -/
def State.vote (s : State) (c : Nat) (env : Sys2Proof.EvalEnv) : State × Bool :=
  if s.on Reg.SUPV_LANE_DEGRADED then
    if good env 0 && good env 1 then (s, true)
    else
      let t := s.count 0x30
      if (good env 0 || good env 1) && good env 2 then (t, true) else (t.noMajority, false)
  else if good env 0 && good env 1 then (s, true)
  else
    let t := s.logMismatch c env
    if s.rd Reg.SUPV_LANE_SPARE ≠ 3 then
      let u := t.count 0x2D
      if good env 2 && good env 0 then (u.swapBegin 2, true)
      else if good env 2 && good env 1 then (u.swapBegin 1, true)
      else (u.noMajority, false)
    else
      let a := s.rd Reg.SUPV_LANE_LEAD
      let b := s.rd Reg.SUPV_LANE_FOLLOW
      let t := t.levelPulse 0x3F
      if env.leadTest && env.followTest then
        let u := t.count 0x2D
        if good env 2 && good env 3 then ((u.takeFree.2).wr Reg.SUPV_LANE_LOG_LOSER u.takeFree.1, true) else (u.noMajority, false)
      else if env.leadTest then t.pairLoses b a env
      else if env.followTest then t.pairLoses a b env
      else
        let u := t.takeFree
        ((((u.2.wr Reg.SUPV_LANE_LOG_LOSER u.1).laneRetire a).laneRetire b).engineStop, false)

/-- LANE_SWAP_ENTRY_TEST, R92, R93: the spare passes and takes the retired lane's position, or fails and is retired too. -/
def execLaneSwapEntryTest (pass : Bool) (s : State) : Out :=
  let pos := s.rd Hid.swapPos
  if pos = 0 ∨ s.alive = false then fin s
  else
    let sp := s.rd Reg.SUPV_LANE_SPARE
    let t := s.wrs [(Reg.SUPV_LANE_SWAP_BUSY, 0), (Hid.swapPos, 0)]
    if pass then
      fin (t.wrs [(if pos = 1 then Reg.SUPV_LANE_LEAD else Reg.SUPV_LANE_FOLLOW, sp), (Reg.SUPV_LANE_SPARE, 3)])
    else fin ((t.laneRetire sp).degrade (t.rd (if pos = 1 then Reg.SUPV_LANE_FOLLOW else Reg.SUPV_LANE_LEAD)))

/-- R98, R99: the working lanes take the positions lead, follow and spare in the order A, B, S. -/
def State.seatLanes (s : State) (working : List Nat) : State :=
  s.wrs [(Reg.SUPV_LANE_LEAD, working.getD 0 3), (Reg.SUPV_LANE_FOLLOW, working.getD 1 3), (Reg.SUPV_LANE_SPARE, working.getD 2 3),
    (Reg.SUPV_LANE_STOPPED, b2n working.isEmpty), (Reg.SUPV_LANE_DEGRADED, b2n (working.length == 1))]

/-- R99: a passing lane returns to a running engine: the follow in degraded operation, otherwise the spare. -/
def State.laneReturn (s : State) (l : Nat) : State :=
  if s.on Reg.SUPV_LANE_DEGRADED then s.wrs [(Reg.SUPV_LANE_FOLLOW, l), (Reg.SUPV_LANE_DEGRADED, 0)]
  else s.wr Reg.SUPV_LANE_SPARE l

/-- LANE_RESTORE_RUN, R99: the entry test of every retired lane. SWAP_BUSY reads 1 from the RESTORE that was accepted on. -/
def execLaneRestoreRun (passA passB passS : Bool) (s : State) : Out :=
  if s.rd Reg.SUPV_LANE_CMD_CMD ≠ 1 ∨ s.rd Hid.swapPos ≠ 0 ∨ s.alive = false then fin s
  else
    let ret := s.rd Reg.SUPV_LANE_RETIRED
    let back := (upTo 3).filter (fun l => bit ret l && [passA, passB, passS].getD l false)
    let t := s.wrs [(Reg.SUPV_LANE_CMD_CMD, 0), (Reg.SUPV_LANE_SWAP_BUSY, 0), (Reg.SUPV_LANE_CMD_RESULT, if back.isEmpty then 2 else 1),
      (Reg.SUPV_LANE_RETIRED, clearBits ret (bitMap 3 (fun l => back.contains l)))]
    if back.isEmpty then fin t
    else if s.on Reg.SUPV_LANE_STOPPED then fin (t.seatLanes back)
    else fin (t.each back State.laneReturn)

/-- R106, SUPV_CMD_PATH: the bit of a target. -/
def targetBit (kind index : Nat) : Nat :=
  (if kind = 1 then 0 else if kind = 2 then 8 else if kind = 3 then 12 else 15) + index

/-- R14, R38, R39: the command of one output leaves after the commit. -/
def State.sendOut (s : State) (c : Nat) (bind : Nat × Nat) (x : Int) : State :=
  let t := if bind.1 = 0 ∨ bind.1 = 7 then s else s.count 0x29
  if 1 ≤ bind.1 ∧ bind.1 ≤ 4 then
    { t with actQ := t.actQ ++ [{ kind := bind.1, index := bind.2, value := commandOf bind.1 x, src := c }] }
  else if bind.1 = 5 then t.wrCoach bind.2 8 (ofI 32 x)
  else if bind.1 = 6 then
    let a := (t.avs.find? (fun a => a.inst == bind.2)).getD { inst := bind.2 }
    { t with avs := { a with out := x } :: t.avs.filter (fun a => a.inst != bind.2) }
  else t

/-- R41: a committed evaluation sends its value to the outputs its kind uses. A SPLIT word that cannot be read maps the demand as its
stored bits stand (DESIGN CHOICE, log entry 72: R102 takes back the command only for SAFE_VALUE, OUT_A and OUT_B). -/
def State.sendAll (s : State) (c : Nat) (e : Ev) : State :=
  if e.kind = 3 then s.each (upTo 4) (fun t k => t.sendOut c (t.outBind c k) (splitOut e.out (t.cw c (23 + k))))
  else s.sendOut c (s.outBind c 0) e.out

/-- R42: STATUS as committed. -/
def Ev.statusWord (e : Ev) : Nat :=
  e.state + 4 + 8 + e.pend * 16 + b2n e.hold * 128 + e.cause * 256 + b2n e.ramping * 2048 + b2n e.vacant * 4096 +
    b2n e.backup * 8192 + b2n e.tpOn * 16384 + e.preShut * 65536 + e.relCnt * 1048576

/-- R46: the words a commit writes. `was` is the STATE loaded, `sticky` the STICKY word as it stands at the commit. -/
def Ev.words (e : Ev) (was tick sticky : Nat) : List (Nat × Nat) :=
  [(41, ofI 32 e.yPred), (42, e.winCnt + b2n e.predOk * 256 + e.resMag * 512), (44, e.statusWord), (45, sticky ||| e.sticky),
    (46, ofI 32 e.spWork), (47, ofI 32 e.pv), (48, ofI 32 e.err), (50, ofI 32 e.dTerm), (51, ofI 32 e.pvPrev), (52, ofI 32 e.out),
    (54, e.tpEl), (63, tick % 2 ^ 32)] ++
  (if was = 1 ∨ was = 2 ∨ e.closedTr = true then [(49, ofI 32 e.iTerm)] else []) ++
  (if e.manEnter then [(53, ofI 32 e.manOut)] else []) ++
  (if e.modelUpd then (upTo 3).map (fun k => (32 + k, ofI 32 (e.theta.getD k 0))) ++
    (upTo 6).map (fun k => (35 + k, ofI 32 (e.cov.getD k 0))) else []) ++
  (if e.shifted then (upTo 8).map (fun k => (55 + k, e.hist.getD (2 * k) 0 + e.hist.getD (2 * k + 1) 0 * 65536)) else [])

/-- R100: words with a single-bit error are corrected. -/
def State.correctable (s : State) (c w : Nat) : Bool :=
  s.upsets.any (fun u => u.coach == c && u.word == w && popCount 39 u.mask == 1)

/-- R110: a corrected word is recorded. The syndrome names the flipped bit. -/
def State.noteCe (s : State) (c w : Nat) : State :=
  let m := ((s.upsets.find? (fun u => u.coach == c && u.word == w)).map (fun u => u.mask)).getD 0
  (s.wrs [(Reg.SUPV_STAT_CE, 1), (Reg.SUPV_CE_ADDR_COACH, c), (Reg.SUPV_CE_ADDR_WORD, w),
    (Reg.SUPV_CE_ADDR_SYNDROME, Sys2Proof.Config.syndromeOf (Nat.log2 m))]).count 0x31

/-- R26, R102, R110: an uncorrectable word is recorded. -/
def State.noteDue (s : State) (c w : Nat) (scrub : Bool) : State :=
  (((s.wrs [(Reg.SUPV_STAT_DUE, 1), (Reg.SUPV_DUE_ADDR_COACH, c), (Reg.SUPV_DUE_ADDR_WORD, w),
    (Reg.SUPV_DUE_ADDR_BY_SCRUB, b2n scrub)])).count 0x32).memErr Reg.MEM_ERR_COACH

/-- New errors in the stored bits of a word: the flips of a word add modulo 2. -/
def State.upset (s : State) (c w mask : Nat) : State :=
  let old := ((s.upsets.find? (fun u => u.coach == c && u.word == w)).map (fun u => u.mask)).getD 0
  let rest := s.upsets.filter (fun u => !(u.coach == c && u.word == w))
  let m := Nat.xor old (mask % 2 ^ 39)
  { s with upsets := if m = 0 then rest else ⟨c, w, m⟩ :: rest }

/-- The error of a word is gone: it has been written with fresh check bits. -/
def State.freshen (s : State) (c w : Nat) : State :=
  { s with upsets := s.upsets.filter (fun u => !(u.coach == c && u.word == w)) }

/-- R26, R100: a read of a word by another part than the evaluation's own load: a single-bit error is corrected, recorded and written
back with fresh check bits. -/
def State.ceFix (s : State) (c w : Nat) : State := if s.correctable c w then (s.noteCe c w).freshen c w else s

/-- R26, R100, R102: a read of a word by another part than the evaluation's own load, with what it records of an error. -/
def State.coachGet (s : State) (c w : Nat) : State := if s.unreadable c w then s.noteDue c w false else s.ceFix c w

/-- R100, R102: the load of coach `own` reads a word with its check bits. Its own words are written back at the commit; STATUS or
OUT of a source coach at once (R26). -/
def State.eccRead (s : State) (own : Nat) (cw : Nat × Nat) : State :=
  if s.correctable cw.1 cw.2 then (if cw.1 = own then s.noteCe cw.1 cw.2 else s.ceFix cw.1 cw.2)
  else if s.unreadable cw.1 cw.2 then s.noteDue cw.1 cw.2 false else s

/-- R12, R83: the words a load reads: the coach's own, and STATUS and OUT of the coaches its inputs are bound to. -/
def State.loaded (s : State) (c : Nat) : List (Nat × Nat) :=
  (upTo 64).map (fun w => (c, w)) ++
  (upTo 8).flatMap (fun k =>
    let b := bits (s.cw c (2 + k / 2)) (16 * (k % 2)) 16
    if bits b 0 4 = 2 then [(bits b 4 8, 44), (bits b 4 8, 52)] else [])

/-- R26, R156: result store entries that read with an uncorrectable error read VALID 0 with REASON ECC. -/
def State.resultErrors (s : State) (bad : List Nat) : State :=
  s.each (bad.filter (fun i => i < 64)) (fun t i =>
    ((t.wrsAt i [(Reg.UI_VALUE_VALID, 0), (Reg.UI_VALUE_REASON, 7)]).whenB (decide (i < 40)) (fun u => u.wrAt Hid.aiRsn i 7)).memErr
      Reg.MEM_ERR_RESULT)

/-- Counting a list of event sources. -/
def State.countAll (s : State) (l : List Nat) : State := s.each l State.count

/-- R87: a window excursion asks for one urgent conversion of the input on the other of A and B. -/
def State.crossCheck (s : State) (c : Nat) : State :=
  let b := bits (s.cw c 2) 0 16
  let i := bits b 4 8
  let other := 1 - s.ownerOf i
  (({ s with xchks := s.xchks ++ [(⟨c, i, other, bits b 12 3, true, none⟩ : XChk)] } : State)).urgIssue .supv i (some other)

/-- R46, R112: of the words that a commit forms, those that change are written, with fresh check bits. A word that stays as it was read
keeps an error it holds. -/
def State.commitWords (s : State) (c : Nat) (l : List (Nat × Nat)) : State :=
  (l.filter (fun p => p.2 % 2 ^ 32 != s.cw c p.1)).foldl (fun t p => t.wrCoach c p.1 p.2) s

/-- R100: the words that the load corrected are written back by the commit. -/
def State.commitFixed (s t : State) (c : Nat) : State := t.each ((upTo 64).filter (fun w => s.correctable c w)) (fun t w => t.freshen c w)

/-- R14, R46, R90: the commit of an evaluation that the vote agreed on. An OUT whose held value is not known is left (R102, log entry 29). A shutter cause at the first evaluation of a coach
with INIT_CLOSED takes the place of its close, which is no discarded command and is not made up for (DESIGN CHOICE, log entry 71). -/
def State.commit (s : State) (c tick was : Nat) (e : Ev) : State :=
  let w0 := (e.words was tick (s.cw c 45)).filter (fun p => p.1 != 52 || e.outOk)
  let t2 := s.commitFixed (s.commitWords c w0) c
  let t3 := (t2.wrAt Hid.first c 0).whenB (!e.quiet) (fun t => t.wrsAt c [(Hid.closeInit, 0), (Hid.svcOpen, 0), (Hid.svcDrop, 0)])
  let t4 := (t3.countAll e.codes).whenB (e.codes.contains 0x3B) (fun t => t.wr Reg.SUPV_STAT_PLAUS 1)
  let t5 := t4.whenB e.dropped (fun t => t.wrs [(Reg.COACH_CMD_STAT_RESULT, 5), (Reg.COACH_CMD_STAT_COACH, c)])
  let t6 := (t5.whenB e.entered (fun t => t.raise 0)).kick
  (t6.whenB e.send (fun t => t.sendAll c e)).whenB e.xchk (fun t => t.crossCheck c)

/-- R83: one evaluation of a due coach in the native modes. -/
def State.evalNative (s : State) (d : Due) (env : Sys2Proof.EvalEnv) : State :=
  let c := d.coach
  let t0 := s.each env.upsets (fun t p => t.upset c p.1 p.2)
  let t1 := (t0.each (t0.loaded c) (fun t p => t.eccRead c p)).resultErrors env.badResults
  let e := t1.evaluate c d.tick env.badResults
  let v := t1.vote c env
  if v.2 then v.1.commit c d.tick (t1.coachState c) e else v.1

/-- SCRUB_CARRIAGE, R101: eight words are read, corrected where they can be, and the scrubber moves on. -/
def execScrubCarriage (upsets : List (Nat × Nat)) (s : State) : Out :=
  if s.operating = false ∨ s.alive = false then fin s
  else
    let p := s.rd Reg.SUPV_SCRUB_POS
    let t0 := s.each (upsets.filter (fun u => u.1 < 8)) (fun t u => t.upset ((p + u.1) / 64) ((p + u.1) % 64) u.2)
    let t1 := t0.each (upTo 8) (fun t k =>
      let c := (p + k) / 64
      let w := (p + k) % 64
      if t.correctable c w then ((t.noteCe c w).count 0x33).freshen c w
      else if t.unreadable c w then t.noteDue c w true else t)
    if p + 8 < 10240 then fin (t1.wr Reg.SUPV_SCRUB_POS (p + 8))
    else fin ((t1.wrs [(Reg.SUPV_SCRUB_POS, 0), (Reg.SUPV_SCRUB_PASSES, capN 65535 (t1.rd Reg.SUPV_SCRUB_PASSES + 1))]).count 0x34)

/-- CROSS_CHECK_RETRY, R87: an unserved non-privileged cross-check is issued again. -/
def execCrossCheckRetry (coach : Fin 160) (s : State) : Out :=
  match s.xchks.find? (fun (x : XChk) => x.coach == coach.val && !x.issued) with
  | none => fin s
  | some x =>
    let t : State := { s with xchks := s.xchks.map (fun (y : XChk) => if y = x then { y with issued := true } else y) }
    fin (t.urgIssue .supv x.input (some x.conv))

/-- CROSS_CHECK_RESULT, R87: the served result, converted by the input's mode, is compared with the stored value. A
disagreement checks the health of both converters at once (R179). WIN_WIDTH is the word as it stands at the result (DESIGN CHOICE, log
entry 73). -/
def execCrossCheckResult (coach : Fin 160) (s : State) : Out :=
  let c := coach.val
  match s.xchks.find? (fun (x : XChk) => x.coach == c && x.raw.isSome) with
  | none => fin s
  | some x =>
    let n := s.settleValue (s.natural x.input (s.inSet x.input (s.conv x.conv).untraced) (x.raw.getD 0))
    let t : State := { n.2 with xchks := s.xchks.filter (fun (y : XChk) => y != x) }
    let got := ofI 16 n.1
    let stored := s.rdAt Reg.UI_VALUE_VALUE x.input
    let diff := unitQ x.unit got - unitQ x.unit stored
    let lsb := if x.unit = 0 ∨ x.unit = 3 then toI 16 got - toI 16 stored else (got : Int) - stored
    let check := fun (u : State) (k : Nat) => if (u.cal k).health then u else u.healthIssue k
    if (s.cq c 30) < 2 * diff.natAbs then
      fin (check (check ((t.wrs [(Reg.SUPV_XCHK_COACH, c), (Reg.SUPV_XCHK_INPUT, x.input), (Reg.SUPV_XCHK_DIFF, ofI 16 (sat16 lsb)),
        (Reg.SUPV_STAT_XCHK_DIS, 1)]).count 0x3D) (s.ownerOf x.input)) x.conv)
    else fin t

/-- CROSS_CHECK_ABANDON, R87: a cross-check still unserved after 1 ms. -/
def execCrossCheckAbandon (coach : Fin 160) (s : State) : Out :=
  match s.xchks.find? (fun (x : XChk) => x.coach == coach.val && x.raw.isNone) with
  | none => fin s
  | some x => fin (({ s with xchks := s.xchks.filter (fun (y : XChk) => y != x) } : State).wr Reg.SUPV_STAT_XCHK_SKIP 1)

end Sys2Proof.Machine
end

