-- ==== Sys2Proof/Machine/Rtc.lean ====
section
/-! DEFINITION. The backup domain (R270 to R285), zones and the schedule engine (R286 to R296). Days are counted from
2000-01-01, times of day in seconds. -/

namespace Sys2Proof.Machine

/-- R273: leap years of 2000 to 2199, as YEAR counts them. -/
def leap (y : Nat) : Bool := y % 4 == 0 && y != 100

/-- R273: the days of a month. -/
def monthLen (y m : Nat) : Nat :=
  if m = 2 then (if leap y then 29 else 28) else if m = 4 ∨ m = 6 ∨ m = 9 ∨ m = 11 then 30 else 31

/-- The day count of 1 January of a year. -/
def yearStart (y : Nat) : Nat := 365 * y + (y + 3) / 4 - (if 100 < y then 1 else 0)

/-- The day count of a date. -/
def dayOf (y m d : Nat) : Nat :=
  yearStart y + ((List.range (m - 1)).foldl (fun a k => a + monthLen y (k + 1)) 0) + d - 1

/-- The month and day that day `n` (from 0) of a year falls in, looking from month `m` on. -/
def monthDay (y : Nat) : Nat → Nat → Nat → Nat × Nat
  | 0, m, n => (m, n + 1)
  | fuel + 1, m, n => if n < monthLen y m then (m, n + 1) else monthDay y fuel (m + 1) (n - monthLen y m)

/-- The date (YEAR, MONTH, DAY) of a day count. -/
def dateOf (n : Nat) : Nat × Nat × Nat :=
  let g := n / 366
  let y := if yearStart (g + 1) ≤ n then g + 1 else g
  let md := monthDay y 11 1 (n - yearStart y)
  (y, md.1, md.2)

/-- The present day. -/
def State.today (s : State) : Nat := dayOf (s.rd Reg.RTC_DATE_YEAR) (s.rd Reg.RTC_DATE_MONTH) (s.rd Reg.RTC_DATE_DAY)

/-- The present second of the day. -/
def State.todSec (s : State) : Nat := s.rd Reg.RTC_TIME_HOUR * 3600 + s.rd Reg.RTC_TIME_MIN * 60 + s.rd Reg.RTC_TIME_SEC

/-- The present minute of the day. -/
def State.todMin (s : State) : Nat := s.rd Reg.RTC_TIME_HOUR * 60 + s.rd Reg.RTC_TIME_MIN

/-- RTC_TIME as a word. -/
def State.timeWord (s : State) : Nat := s.rd Reg.RTC_TIME_SEC + s.rd Reg.RTC_TIME_MIN * 256 + s.rd Reg.RTC_TIME_HOUR * 65536

/-- RTC_DATE as a word. -/
def State.dateWord (s : State) : Nat :=
  s.rd Reg.RTC_DATE_DAY + s.rd Reg.RTC_DATE_MONTH * 256 + s.rd Reg.RTC_DATE_YEAR * 65536 + s.rd Reg.RTC_DATE_WDAY * 16777216

/-- Loading the time from a word laid out as RTC_TIME. -/
def State.loadTime (s : State) (w : Nat) : State :=
  s.wrs [(Reg.RTC_TIME_SEC, bits w 0 6), (Reg.RTC_TIME_MIN, bits w 8 6), (Reg.RTC_TIME_HOUR, bits w 16 5)]

/-- Loading the date from a word laid out as RTC_DATE. -/
def State.loadDate (s : State) (w : Nat) : State :=
  s.wrs [(Reg.RTC_DATE_DAY, bits w 0 5), (Reg.RTC_DATE_MONTH, bits w 8 4), (Reg.RTC_DATE_YEAR, bits w 16 8), (Reg.RTC_DATE_WDAY, bits w 24 3)]

/-- Whether the main domain is powered: raises and counts need it. -/
def State.mainPower (s : State) : Bool := s.mode != mBackup

/-- A cause raised when main power is present. -/
def State.raiseMain (s : State) (n : Nat) : State := if s.mainPower then s.raise n else s

/-- R296: the modes in which the schedule engine runs. -/
def State.schedLive (s : State) : Bool := s.native && s.alive

/-- R296, R298: the schedule engine runs: it executes events. -/
def State.schedOn (s : State) : Bool := s.schedLive && s.on Reg.SCHED_CTRL_EN

/-- R291: the active set of a zone from its scheduled set and ZONE_FORCE; `wake` says that a change counts as the schedule's
(R340). -/
def State.zoneApply (s : State) (z : Nat) (wake : Bool) : State :=
  let f := s.rdAt Reg.ZONE_FORCE_FORCE z
  let new := if f = 0 then s.rdAt Reg.ZONE_STATE_SCHED_SET z else f - 1
  let t := s.wrAt Reg.ZONE_STATE_SET z new
  t.whenB (wake && new == 0 && s.rdAt Reg.ZONE_STATE_SET z != 0) (fun t => t.wr Hid.wakeSched 1)

/-- A zone's scheduled set. -/
def State.zoneSet (s : State) (z set : Nat) : State := (s.wrAt Reg.ZONE_STATE_SCHED_SET z set).zoneApply z true

/-- R290: while OSF is set every zone's scheduled set is NOTIME_SET, whether EN lets the engine execute events or not (log entry 39). -/
def State.schedNoTime (s : State) : State :=
  if s.schedLive then
    (s.wr Reg.SCHED_STAT_NOTIME (b2n s.schedOn)).each (upTo 16) (fun t z => t.zoneSet z (t.rd Reg.SCHED_CTRL_NOTIME_SET))
  else s

/-- R290: SCHED_CTRL has been written: while OSF is set the zones follow NOTIME_SET. -/
def State.schedRefresh (s : State) : State := if s.schedLive && s.on Reg.RTC_STAT_OSF then s.schedNoTime else s.wr Reg.SCHED_STAT_NOTIME 0

/-- R26: a table entry has been rewritten, through one of its two words. -/
def State.schedFresh (s : State) (a : Nat) : State :=
  if 0x3E40 ≤ a ∧ a < 0x3F00 then s.wr Hid.schedBad (clearBits (s.rd Hid.schedBad) (2 ^ ((a - 0x3E40) / 2))) else s

/-- R272: OSF is set. -/
def State.setOsf (s : State) : State :=
  if s.on Reg.RTC_STAT_OSF then s else ((s.wr Reg.RTC_STAT_OSF 1).count 0xA1).schedNoTime

/-- R288: the exception that stands for a zone on a day: the lowest-numbered enabled one that matches. -/
def State.excOf (s : State) (z day : Nat) : Option Nat :=
  let dt := dateOf day
  (upTo 32).find? (fun n => s.onAt Reg.SCHED_EX_EN n && !bit (s.rd Hid.schedBad) (64 + n) && bit (s.rdAt Reg.SCHED_EXZ_ZONES n) z &&
    s.rdAt Reg.SCHED_EX_DAY n == dt.2.2 && s.rdAt Reg.SCHED_EX_MONTH n == dt.2.1 &&
    (s.rdAt Reg.SCHED_EX_YEAR n == 255 || s.rdAt Reg.SCHED_EX_YEAR n == dt.1))

/-- R287: weekly entry `e` has an event for a zone on a weekday. -/
def State.wkOn (s : State) (e z wday : Nat) : Bool :=
  s.onAt Reg.SCHED_WK_EN e && !bit (s.rd Hid.schedBad) e && bit (s.rdAt Reg.SCHED_WK_WDAYS e) wday && bit (s.rdAt Reg.SCHED_WKZ_ZONES e) z

/-- R287, R288: whether entry `e` (64 on: exceptions) has an event for zone `z` on a day, with its minute and set. -/
def State.eventOf (s : State) (e z day wday : Nat) : Option (Nat × Nat) :=
  match s.excOf z day with
  | some n =>
    if s.rdAt Reg.SCHED_EX_ACTION n = 0 then (if e = 64 + n then some (0, s.rdAt Reg.SCHED_EX_ARG n % 4) else none)
    else if e < 64 ∧ s.wkOn e z (s.rdAt Reg.SCHED_EX_ARG n) = true then some (s.rdAt Reg.SCHED_WK_MINUTE e, s.rdAt Reg.SCHED_WK_SET e)
    else none
  | none => if e < 64 ∧ s.wkOn e z wday = true then some (s.rdAt Reg.SCHED_WK_MINUTE e, s.rdAt Reg.SCHED_WK_SET e) else none

/-- The zones for which entry `e` has an event at a minute of a day, with the set. -/
def State.eventZones (s : State) (e day wday minute : Nat) : List (Nat × Nat) :=
  (upTo 16).filterMap (fun z => match s.eventOf e z day wday with
    | some (m, set) => if m = minute then some (z, set) else none
    | none => none)

/-- R289, R293: entry `e`'s record holds the day with a wheel tick under 2 h old. -/
def State.logged (s : State) (e day : Nat) : Bool :=
  s.schedLog.any (fun r => r.entry == e && r.day == day && decide (s.tick - r.tick < 7200000))

/-- R289: an event executes and is logged. -/
def State.execEvent (s : State) (e day : Nat) (zones : List (Nat × Nat)) : State :=
  let t := s.each zones (fun t p => (t.zoneSet p.1 p.2).wrAt Reg.ZONE_STATE_PRESTART p.1 0)
  { t with schedLog := ⟨e, day, s.tick⟩ :: t.schedLog.filter (fun r => r.entry != e) }

/-- The present minute, counted from 2000-01-01. -/
def State.minuteNow (s : State) : Nat := s.today * 1440 + s.todMin

/-- R292: the prestart of a zone is under way, and its event lies ahead. -/
def State.preAhead (s : State) (z : Nat) : Bool := s.onAt Reg.ZONE_STATE_PRESTART z && decide (s.minuteNow + 1 < s.rdAt Hid.preAt z)

/-- R289, R293: the events of one minute in ascending entry number, each counted under `code`. The log suppresses in a catch-up and
after a backward change, and in a catch-up a zone whose prestart has its event ahead keeps its set (R294). -/
def State.minuteEvents (s : State) (day wday minute code : Nat) : State :=
  s.each (upTo 96) (fun t e =>
    let z := t.eventZones e day wday minute
    if z.isEmpty then t
    else if (code = 0xAA ∨ t.on Hid.schedBack = true) ∧ t.logged e day = true then t.count 0xAC
    else (t.execEvent e day (if code = 0xAA then z.filter (fun p => !t.preAhead p.1) else z)).count code)

/-- R290: the set of a zone's latest event of a day at or before a minute: a later entry of the same minute stands. -/
def State.daySet (s : State) (z day wday last : Nat) : Option Nat :=
  ((upTo 96).foldl (fun (b : Option (Nat × Nat)) e => match s.eventOf e z day wday with
    | some (m, set) => if m ≤ last ∧ (b.map (fun p => p.1)).getD 0 ≤ m then some (m, set) else b
    | none => b) none).map (fun p => p.2)

/-- R290: a zone's latest event at or before a minute of a day, searched back over 8 days in all, no day before `first`, and
on day `first` no minute up to `after`. -/
def State.latestSet (s : State) (z : Nat) (wdayAt : Nat → Nat) (day last : Nat) (first : Option (Nat × Nat)) : Option Nat :=
  (upTo 8).findSome? (fun k =>
    if day < k then none
    else
      let d := day - k
      let m := if k = 0 then last else 1439
      match first with
      | some (fd, fm) =>
        if d < fd then none
        else if d = fd then
          ((upTo 96).foldl (fun (b : Option (Nat × Nat)) e => match s.eventOf e z d (wdayAt d) with
            | some (x, set) => if x ≤ m ∧ fm < x ∧ (b.map (fun p => p.1)).getD 0 ≤ x then some (x, set) else b
            | none => b) none).map (fun p => p.2)
        else s.daySet z d (wdayAt d) m
      | none => s.daySet z d (wdayAt d) m)

/-- WDAY of a day, counted on or back from day `ref` with WDAY `w` (R274, R290). -/
def wdayAt (ref w d : Nat) : Nat := (((w : Int) + d - ref) % 7).toNat

/-- R290: every zone takes its current state. -/
def State.currentState (s : State) : State :=
  let t := { s.wrs [(Reg.SCHED_STAT_NOTIME, 0), (Reg.SCHED_STAT_LAST_CHG, 0), (Hid.schedBack, 0)] with schedLog := [] }
  t.each (upTo 16) (fun t z =>
    let set := (t.latestSet z (wdayAt t.today (t.rd Reg.RTC_DATE_WDAY)) t.today t.todMin none).getD (t.rdAt Reg.ZONE_CFG_DEFAULT_SET z)
    (t.zoneSet z set).wrAt Reg.ZONE_STATE_PRESTART z 0)

/-- R292: a prestart ends with its event. -/
def State.preEnd (s : State) : State :=
  s.each ((upTo 16).filter (fun z => !s.preAhead z)) (fun t z => t.wrsAt z [(Reg.ZONE_STATE_PRESTART, 0), (Hid.preAt, 0)])

/-- R293: a time change from the old day, second, WDAY and sub-second to the present (new) time. A prestart whose event lies ahead
keeps its set (R294). -/
def State.timeChange (s : State) (oDay oSec oWday sub : Nat) (osf : Bool) : State :=
  if s.schedLive = false then s
  else if osf then s.currentState
  else if s.schedOn = false then s
  else
    let o := oDay * 86400 + oSec
    let n := s.today * 86400 + s.todSec
    let wd := wdayAt oDay oWday
    if n = o ∧ sub = 0 then s
    else if n ≤ o then s.wrs [(Reg.SCHED_STAT_LAST_CHG, 3), (Hid.schedBack, 1)]
    else if (n - o) * 32768 ≤ 7200 * 32768 + sub then
      let first := o / 60 + 1
      (s.wr Reg.SCHED_STAT_LAST_CHG 1).each ((upTo (n / 60 + 1 - first)).map (fun k => first + k)) (fun t m =>
        t.minuteEvents (m / 1440) (wd (m / 1440)) (m % 1440) 0xAA)
    else
      (((s.wr Reg.SCHED_STAT_LAST_CHG 2).count 0xAB).each ((upTo 16).filter (fun z => !s.preAhead z)) (fun t z =>
        match t.latestSet z wd s.today s.todMin (some (oDay, oSec / 60)) with
        | some set => t.zoneSet z set
        | none => t)).preEnd

/-- R292: the quotient of two logarithms, rounded up to a whole number: the logarithms are right to within 1 %, so any whole
number between the two bounds may come (log entry 16). -/
def State.lnPeriods (s : State) (num den a : Nat) : Nat × State :=
  let p := lnNat den - lnNat num
  let q := lnNat 65536 - lnNat a
  let lo := (p * 99 + q * 101 - 1) / (q * 101)
  let hi := (p * 101 + q * 99 - 1) / (q * 99)
  (lo + (s.freeBelow (hi - lo + 1)).1, (s.freeBelow (hi - lo + 1)).2)

/-- R292: the lead time of a zone, in ms; none stands for MAX_PRESTART. The words are read with their check bits, and one with an
uncorrectable error counts as its stored bits stand (log entry 71). -/
def State.leadMs (s0 : State) (z : Nat) : Option Nat × State :=
  let c := s0.rdAt Reg.ZONE_CFG_COACH z
  let st := s0.cw c 44
  let typ := bits (s0.cw c 2) 0 4
  let a := s0.cq c 32
  let cfg := s0.cw c 0
  let bindW := s0.cw c 4
  let gain := s0.cq c 33
  let offset := s0.cq c 34
  let pv := s0.cq c 47
  let src := bits bindW 16 16
  let s := s0.each ([0, 1, 2, 4, 32, 33, 34, 44, 47].map (fun w => (c, w)) ++
    (if bits src 0 4 = 2 then [(bits src 4 8, 44), (bits src 4 8, 52)] else [])) (fun t p => t.coachGet p.1 p.2)
  if s.coachPeriod c = 0 ∨ stState st = 3 ∨ bit cfg 9 = false ∨ (typ ≠ 1 ∧ typ ≠ 6) ∨ a ≤ 0 then (none, s)
  else
    let wi := s.input src (s.coachPeriod c) []
    let w := if wi.bound then wi.v else 0
    let den := 65536 - a
    let num := gain * 65536 + offset * w
    let A := s.rdI Reg.ZONE_SP0_SP_OCC z * 512 * den - num
    let B := pv * den - num
    if B = 0 ∨ (decide (A < 0) == decide (B < 0) && A != 0 && decide (B.natAbs ≤ A.natAbs)) = true then (some 0, s)
    else if A = 0 ∨ (decide (A < 0) != decide (B < 0)) = true then (none, s)
    else
      let k := s.lnPeriods A.natAbs B.natAbs a.toNat
      (some ((k.1 + bits cfg 10 4) * s.coachPeriod c), k.2)

/-- R292: the minutes to the next event of entry `e` for a zone within the coming 24 h. -/
def State.nextEvent (s : State) (e z : Nat) : Option Nat :=
  let d := s.today
  let wd := wdayAt d (s.rd Reg.RTC_DATE_WDAY)
  let now := s.todMin
  match s.eventOf e z d (wd d) with
  | some (m, _) => if now < m then some (m - now) else
      (s.eventOf e z (d + 1) (wd (d + 1))).map (fun p => p.1 + 1440 - now)
  | none => (s.eventOf e z (d + 1) (wd (d + 1))).map (fun p => p.1 + 1440 - now)

/-- Whole minutes of a lead: its value, or one of the two whole numbers beside it (log entry 15). -/
def State.wholeMin (s : State) (ms : Nat) : Nat × State :=
  if ms % 60000 = 0 then (ms / 60000, s) else (ms / 60000 + (s.freeBelow 2).1, (s.freeBelow 2).2)

/-- R292, OPTIMUM_START_EVAL: one entry and zone at a minute tick. -/
def State.optimum (s : State) (e z : Nat) : State :=
  let max := s.rd Reg.SCHED_CTRL_MAX_PRESTART
  let l := s.leadMs z
  let ms := min ((l.1).getD (max * 60000)) (max * 60000)
  let w := l.2.wholeMin ms
  let t := w.2.wrAt Reg.ZONE_STATE_LEAD z w.1
  match s.nextEvent e z with
  | some m =>
    if m * 60000 ≤ ms ∧ t.onAt Reg.ZONE_STATE_PRESTART z = false ∧ t.rdAt Reg.ZONE_STATE_SCHED_SET z ≠ 0 then
      ((t.zoneSet z 0).wrsAt z [(Reg.ZONE_STATE_PRESTART, 1), (Hid.preAt, s.minuteNow + m + 1)]).count 0xAD
    else t
  | none => t

/-- R292: optimum start of all entries at a minute tick. -/
def State.optimumAll (s : State) : State :=
  s.each (upTo 64) (fun t e =>
    if t.onAt Reg.SCHED_WK_EN e && t.onAt Reg.SCHED_WK_OPT e && t.rdAt Reg.SCHED_WK_SET e == 0 && !bit (t.rd Hid.schedBad) e then
      t.each ((upTo 16).filter (fun z => bit (t.rdAt Reg.SCHED_WKZ_ZONES e) z && t.onAt Reg.ZONE_CFG_OPT_EN z)) (fun t z => t.optimum e z)
    else t)

/-- R280: an alarm's field matches. -/
def alMatch (mask k field now : Nat) : Bool := bit mask k || field == now

/-- R280: alarm `a` matches a time of a day with a WDAY. -/
def State.alarmDay (s : State) (a day wday : Nat) : Bool :=
  let m := s.rdAt Reg.RTC_AL_D_MASK a
  let dt := dateOf day
  alMatch m 3 (s.rdAt Reg.RTC_AL_D_DAY a) dt.2.2 && alMatch m 4 (s.rdAt Reg.RTC_AL_D_MONTH a) dt.2.1 &&
    alMatch m 5 (s.rdAt Reg.RTC_AL_D_WDAY a) wday

/-- R280: alarm `a` matches an hour, minute and second. -/
def State.alarmTime (s : State) (a h mi sec : Nat) : Bool :=
  let m := s.rdAt Reg.RTC_AL_D_MASK a
  alMatch m 0 (s.rdAt Reg.RTC_AL_T_SEC a) sec && alMatch m 1 (s.rdAt Reg.RTC_AL_T_MIN a) mi && alMatch m 2 (s.rdAt Reg.RTC_AL_T_HOUR a) h

/-- R282: alarm `a` matches some second of a day from `lo` to `hi`. -/
def State.alarmIn (s : State) (a lo hi : Nat) : Bool :=
  (upTo 24).any (fun h => decide (lo ≤ h * 3600 + 3599) && decide (h * 3600 ≤ hi) && (upTo 60).any (fun mi =>
    decide (lo ≤ h * 3600 + mi * 60 + 59) && decide (h * 3600 + mi * 60 ≤ hi) && (upTo 60).any (fun sec =>
      decide (lo ≤ h * 3600 + mi * 60 + sec) && decide (h * 3600 + mi * 60 + sec ≤ hi) && s.alarmTime a h mi sec)))

/-- R280, ALARM_MATCH: an alarm fires. -/
def State.alarmFire (s : State) (f : Fld) (code : Nat) : State :=
  (((s.wr f 1).wr Hid.wakeAlarm 1).count code).raiseMain 8

/-- R280: the alarms at a second tick. -/
def State.alarms (s : State) : State :=
  if s.on Reg.RTC_STAT_OSF then s
  else
    let hit := fun (t : State) a => t.onAt Reg.RTC_AL_D_EN a && t.alarmDay a t.today (t.rd Reg.RTC_DATE_WDAY) &&
      t.alarmTime a (t.rd Reg.RTC_TIME_HOUR) (t.rd Reg.RTC_TIME_MIN) (t.rd Reg.RTC_TIME_SEC)
    let t := s.whenB (hit s 0) (fun t => t.alarmFire Reg.RTC_AFLAG_AF_A 0xA2)
    t.whenB (hit t 1) (fun t => t.alarmFire Reg.RTC_AFLAG_AF_B 0xA3)

/-- R282: ALARM_B's first match strictly after the old time lies at or before the new. -/
def State.alarmCatch (s : State) (oDay oSec oWday : Nat) : Bool :=
  let d := s.today
  (upTo (d + 1 - oDay)).any (fun k =>
    let day := oDay + k
    s.alarmDay 1 day (wdayAt oDay oWday day) &&
      s.alarmIn 1 (if k = 0 then oSec + 1 else 0) (if day = d then s.todSec else 86399))

/-- R273, R274: the time advances by one second. -/
def State.advance (s : State) : State :=
  let sec := s.rd Reg.RTC_TIME_SEC
  let mi := s.rd Reg.RTC_TIME_MIN
  let h := s.rd Reg.RTC_TIME_HOUR
  if sec < 59 then s.wr Reg.RTC_TIME_SEC (sec + 1)
  else if mi < 59 then s.wrs [(Reg.RTC_TIME_SEC, 0), (Reg.RTC_TIME_MIN, mi + 1)]
  else if h < 23 then s.wrs [(Reg.RTC_TIME_SEC, 0), (Reg.RTC_TIME_MIN, 0), (Reg.RTC_TIME_HOUR, h + 1)]
  else
    let w := s.rd Reg.RTC_DATE_WDAY
    let t := s.wrs [(Reg.RTC_TIME_SEC, 0), (Reg.RTC_TIME_MIN, 0), (Reg.RTC_TIME_HOUR, 0), (Reg.RTC_DATE_WDAY, if 6 ≤ w then 0 else w + 1)]
    let y := s.rd Reg.RTC_DATE_YEAR
    let m := s.rd Reg.RTC_DATE_MONTH
    let d := s.rd Reg.RTC_DATE_DAY
    if d < monthLen y m then t.wr Reg.RTC_DATE_DAY (d + 1)
    else if m < 12 then t.wrs [(Reg.RTC_DATE_DAY, 1), (Reg.RTC_DATE_MONTH, m + 1)]
    else if y < 199 then t.wrs [(Reg.RTC_DATE_DAY, 1), (Reg.RTC_DATE_MONTH, 1), (Reg.RTC_DATE_YEAR, y + 1)]
    else (t.wrs [(Reg.RTC_DATE_DAY, 1), (Reg.RTC_DATE_MONTH, 1), (Reg.RTC_DATE_YEAR, 0)]).setOsf

/-- R277: N in force: 0 with COMP_EN 0. -/
def State.compN (s : State) : Int := if s.on Reg.RTC_COMP1_COMP_EN then s.rdI Hid.rtcCompN 0 else 0

/-- R277: the crystal cycles of second `j` of a window: one of 1/8 s marks 8 j to 8 j + 7 each removes a cycle (N > 0), which the
counter does not count, or adds one (N < 0), while it is below |N|. -/
def State.secondCycles (s : State) (j : Nat) : Nat :=
  let k := min 8 (s.compN.natAbs - 8 * j)
  if 0 < s.compN then 32768 + k else 32768 - k

/-- R277: a second tick moves the free count of the 32 s window on. -/
def State.rtcCount (s : State) : State :=
  s.wrs [(Hid.rtcEdges, s.rd Hid.rtcEdges + s.secondCycles (s.rd Hid.rtcSecs)), (Hid.rtcSecs, s.rd Hid.rtcSecs + 1)]

/-- R273, R277, R280, R289, R292: a second tick. -/
def State.secondTick (s : State) : State :=
  let t := s.rtcCount.advance.alarms
  if t.rd Reg.RTC_TIME_SEC = 0 ∧ t.schedOn = true ∧ t.on Reg.RTC_STAT_OSF = false then
    ((t.minuteEvents t.today (t.rd Reg.RTC_DATE_WDAY) t.todMin 0xA9).preEnd).optimumAll
  else t

/-- R279: a shift is complete. -/
def State.shiftDone (s : State) : State := (s.wrs [(Hid.rtcHold, 0), (Reg.RTC_STAT_SHIFT_PEND, 0)]).count 0xA5

/-- R273, R277, R279: some 32.768 kHz cycles pass: no command gives how many (log entry 2). A shift under way holds the counter for its
remaining cycles; then the counter moves on, at most to 32 767, for the cycle after is the second tick. A stopped oscillator moves
nothing (R272). -/
def State.rtcRun (s : State) : State :=
  if s.on Hid.oscStopped then s
  else
    let h := s.rd Hid.rtcHold
    let c := s.rd Reg.RTC_SUBSEC_SUBSEC
    let f := s.freeBelow (h + (32768 - c))
    let t := f.2.wrs [(Hid.rtcHold, h - f.1), (Reg.RTC_SUBSEC_SUBSEC, c + (f.1 - h))]
    t.whenB (h != 0 && decide (h ≤ f.1)) State.shiftDone

/-- R279: whether a shift under way has come to its end. -/
def State.rtcShow (s : State) : State := if s.rd Hid.rtcHold = 0 then s else s.rtcRun

/-- R273: the sub-second counter carries. -/
def State.subCarry (s : State) : State :=
  (s.wr Reg.RTC_SUBSEC_SUBSEC 0).whenB (s.rd Hid.rtcHold != 0) State.shiftDone

/-- RTC_SECOND_TICK, R273; `bad` lists schedule table entries that read with an uncorrectable error (R26). -/
def execRtcSecondTick (bad : List Nat) (s0 : State) : Out :=
  if s0.on Hid.oscStopped then fin s0
  else
    let s := s0.subCarry
    let t := if s.schedOn then s.each (bad.filter (fun e => e < 96)) (fun t e => (t.or Hid.schedBad (2 ^ e)).memErr Reg.MEM_ERR_SCHED) else s
    fin t.secondTick

/-- RTC_COMP_SAMPLE, R277: every 64 s the domain's sensor is sampled and N is computed. -/
def execRtcCompSample (temp : Int) (s : State) : Out :=
  let d := temp - s.rdI Reg.RTC_COMP0_T0 0
  let n := rndUp (s.rdI Reg.RTC_COMP0_OFFSET 0 * 4194304 + s.rdI Reg.RTC_COMP1_K 0 * (d * d)) 1024000000
  let v := if s.on Reg.RTC_COMP1_COMP_EN then clampI (-255) 255 n else 0
  fin (((s.wrI Reg.RTC_COMP_STAT_N 0 v).wrI Reg.RTC_COMP_STAT_TEMP 0 temp).count 0xA6)

/-- RTC_COMP_WINDOW, R277: a window starts with the N of the latest sample, after 32 second ticks of the one before it. -/
def execRtcCompWindow (s : State) : Out :=
  if s.rd Hid.rtcSecs = 0 then fin (s.wr Hid.rtcCompN (if s.on Reg.RTC_COMP1_COMP_EN then s.rd Reg.RTC_COMP_STAT_N else 0)) else fin s

/-- R277: with COMP_EN 0, N is 0. -/
def State.compOff (s : State) : State :=
  if s.on Reg.RTC_COMP1_COMP_EN then s else s.wrs [(Reg.RTC_COMP_STAT_N, 0), (Hid.rtcCompN, 0)]

/-- RTC_OSC_STOP, R272: the counter stops where it stands. -/
def execRtcOscStop (s : State) : Out := fin ((s.rtcRun.wr Hid.oscStopped 1).setOsf)

/-- RTC_OSC_RESTART, R272. -/
def execRtcOscRestart (s : State) : Out := fin (s.wr Hid.oscStopped 0)

/-- R276: a SET with a time and a date waits for the next edge. -/
def State.setAccept (s : State) (t d : Nat) : State := (s.wrs [(Hid.rtcPend, 1), (Hid.rtcPendT, t), (Hid.rtcPendD, d)]).count 0xA0

/-- R273: where the counter stands when a row of the table gives it: no counter goes back. -/
def State.subAt (s : State) (sub : Fin 32768) : Nat := max (s.rd Reg.RTC_SUBSEC_SUBSEC) sub.val

/-- RTC_SET_LOAD, R276, R282, R293: the pending SET loads; `sub` is the sub-second counter before it. -/
def execRtcSetLoad (sub : Fin 32768) (s : State) : Out :=
  if s.on Hid.rtcPend = false ∨ s.on Hid.oscStopped = true then fin s
  else
    let oDay := s.today
    let oSec := s.todSec
    let oWday := s.rd Reg.RTC_DATE_WDAY
    let osf := s.on Reg.RTC_STAT_OSF
    let t := (s.loadTime (s.rd Hid.rtcPendT)).loadDate (s.rd Hid.rtcPendD)
    let u := t.wrs [(Hid.rtcPend, 0), (Reg.RTC_STAT_OSF, 0), (Hid.rtcShPend, 0), (Hid.rtcHold, 0), (Reg.RTC_STAT_SHIFT_PEND, 0),
      (Reg.RTC_SUBSEC_SUBSEC, 0)]
    let v := u.timeChange oDay oSec oWday (s.subAt sub) osf
    let fwd := decide (oDay * 86400 + oSec < u.today * 86400 + u.todSec)
    if !osf && fwd && u.onAt Reg.RTC_AL_D_EN 1 && u.on Reg.RTC_ALB_D_CATCH && u.alarmCatch oDay oSec oWday then
      fin (((v.wr Reg.RTC_AFLAG_CATCH_B 1).alarmFire Reg.RTC_AFLAG_AF_B 0xA3).count 0xA4)
    else fin v

/-- RTC_SHIFT_APPLY, R279: the shift is applied with the sub-second counter at `sub`: it adds N, and a carry is a normal second tick, or
it holds the counter still for N cycles. -/
def execRtcShiftApply (sub : Fin 32768) (s : State) : Out :=
  if s.on Hid.rtcShPend = false ∨ s.on Hid.oscStopped = true then fin s
  else
    let n := bits (s.rd Hid.rtcShift) 0 15
    let c := s.subAt sub
    let t := s.wr Hid.rtcShPend 0
    if bit (s.rd Hid.rtcShift) 15 then
      fin (t.wrs [(Reg.RTC_SUBSEC_SUBSEC, c), (Hid.rtcHold, n), (Hid.rtcEdges, t.rd Hid.rtcEdges + n)])
    else
      let u := (t.wrs [(Reg.RTC_SUBSEC_SUBSEC, (c + n) % 32768), (Hid.rtcEdges, t.rd Hid.rtcEdges + 2 ^ 48 - n)]).shiftDone
      if 32768 ≤ c + n then fin u.secondTick else fin u

/-- R283: the stamp of a switch to VBAT. -/
def State.stamp (s : State) : State :=
  if s.on Reg.RTC_STAMP_DATE_STAMPED then s
  else
    s.wrs [(Reg.RTC_STAMP_TIME_SEC, s.rd Reg.RTC_TIME_SEC), (Reg.RTC_STAMP_TIME_MIN, s.rd Reg.RTC_TIME_MIN),
      (Reg.RTC_STAMP_TIME_HOUR, s.rd Reg.RTC_TIME_HOUR), (Reg.RTC_STAMP_DATE_DAY, s.rd Reg.RTC_DATE_DAY),
      (Reg.RTC_STAMP_DATE_MONTH, s.rd Reg.RTC_DATE_MONTH), (Reg.RTC_STAMP_DATE_YEAR, s.rd Reg.RTC_DATE_YEAR),
      (Reg.RTC_STAMP_DATE_WDAY, s.rd Reg.RTC_DATE_WDAY), (Reg.RTC_STAMP_DATE_STAMPED, 1)]

/-- BACKUP_SWITCH_MAIN, R270. -/
def execBackupSwitchMain (s : State) : Out := fin (s.wrs [(Reg.RTC_STAT_ON_VBAT, 0), (Reg.RTC_STAT_VBAT_LOW, 0)])

/-- VBAT_LOW, R284: on battery below 2.20 V. -/
def execVbatLow (s : State) : Out :=
  if s.on Reg.RTC_STAT_ON_VBAT = true ∧ s.on Reg.RTC_STAT_VBAT_LOW = false then
    fin ((((s.wr Reg.RTC_STAT_VBAT_LOW 1).count 0xAF)).raiseMain 8)
  else fin s

/-- VBAT_LOW_CLEAR, R284. -/
def execVbatLowClear (s : State) : Out := fin (s.wr Reg.RTC_STAT_VBAT_LOW 0)

/-- RETENTION_LATCH_TRIP, R284. -/
def execRetentionLatchTrip (s : State) : Out := fin (s.wr Hid.latch 1)

/-- R285: the backup domain is reset. -/
def State.backupReset (s : State) : State :=
  let t := { s with regs := s.regs.filter (fun c => c.id % 4 != 0 || c.id == Hid.panelDis.id || c.id == Hid.panelDisV.id) }
  let u := t.wrs [(Reg.RTC_DATE_DAY, 1), (Reg.RTC_DATE_MONTH, 1), (Reg.RTC_STAT_OSF, 1), (Reg.RTC_STAT_LOSS, 1), (Hid.latch, 0),
    (Hid.oscStopped, s.rd Hid.oscStopped)]
  (((u.wrAt Reg.RTC_AL_D_MASK 0 63).wrAt Reg.RTC_AL_D_MASK 1 63).count 0xA8).countIf (!s.on Reg.RTC_STAT_OSF) 0xA1

/-- R290: the schedule engine starts at the end of BOOT. -/
def State.schedStart (s : State) : State :=
  if s.schedLive = false then s else if s.on Reg.RTC_STAT_OSF then ({ s with schedLog := [] } : State).schedNoTime else s.currentState

end Sys2Proof.Machine
end

