-- ==== Sys2Proof/Machine/BinOut.lean ====
section
/-! DEFINITION. What a CUT holds off (R252, R335), and the binary outputs (R242 to R245, R247). -/

namespace Sys2Proof.Machine

/-- R255, R256: CUT is entered at sensor `i`. -/
def State.tsCut (s : State) (i : Nat) : Bool := bit (s.rdAt Reg.TS_STATE_ENTERED i) 4

/-- R252: a CUT holds the stages of region `i`: at its own sensor, or at TS0, TS1 or TS7, which turn all stages off. -/
def State.regionCut (s : State) (i : Nat) : Bool := s.tsCut i || s.tsCut 0 || s.tsCut 1 || s.tsCut 7

/-- R335: VM undervoltage or overvoltage acts on valves and dampers as a CUT. -/
def State.vmFault (s : State) : Bool := s.on Reg.PWR_STAT_VM_UV || s.on Reg.PWR_STAT_VM_OV

/-- R247: the state wanted of binary output `n`. -/
def State.boDesired (s : State) (n : Nat) : Bool :=
  if s.onAt Reg.BO_MAN_MAN_EN n then s.onAt Reg.BO_MAN_MAN_VALUE n else s.onAt Reg.BO_STATE_CMD n

/-- R243: the causes that force output `n` off, as FORCED shows them. -/
def State.boForced (s : State) (n : Nat) : Nat :=
  b2n (s.onAt Reg.BO_CFG_HEATER n && s.on Reg.FAN_COMMON_HEATER_BLOCK) + 2 * b2n (s.regionCut 6) +
    4 * b2n (bit (s.rdAt Reg.BO_STATE_FORCED n) 2)

/-- R246: binary outputs act in the native operating modes only. -/
def State.boWanted (s : State) (n : Nat) : Bool :=
  s.native && s.alive && s.onAt Reg.BO_CFG_EN n && s.boDesired n && s.boForced n == 0

/-- R244: two outputs are interlocked. -/
def State.xlocked (s : State) (a b : Nat) : Bool :=
  a != b && ((s.onAt Reg.BO_CFG_XLOCK_EN a && s.rdAt Reg.BO_CFG_XLOCK a == b) ||
    (s.onAt Reg.BO_CFG_XLOCK_EN b && s.rdAt Reg.BO_CFG_XLOCK b == a))

/-- R244: output `n` may not turn on now: an interlocked partner is on, or wants to turn on and asked first. -/
def State.boBlocked (s : State) (n : Nat) : Bool :=
  (upTo 6).any (fun m => s.xlocked n m &&
    (s.onAt Reg.BO_STATE_OUT m || (s.boWanted m && decide (s.rdAt Hid.boArr m < s.rdAt Hid.boArr n))))

/-- R243: an output switches. -/
def State.boSwitch (s : State) (n : Nat) (v : Bool) : State :=
  ((s.wrsAt n [(Reg.BO_STATE_OUT, b2n v), (Reg.BO_STATE_WAIT, 0), (Reg.BO_STATE_ELAPSED, 0), (Hid.boMs, 0)])).count 0x9D

/-- R243: a switch is deferred. -/
def State.boDefer (s : State) (n w : Nat) : State :=
  (s.countIf (s.rdAt Reg.BO_STATE_WAIT n == 0) 0x9E).wrAt Reg.BO_STATE_WAIT n w

/-- R242 to R244: output `n` follows what is wanted of it. `due` says that its minimum time has run. -/
def State.boEval (s : State) (n : Nat) (due : Bool) : State :=
  let s := s.wrAt Reg.BO_STATE_FORCED n (s.boForced n)
  let on := s.onAt Reg.BO_STATE_OUT n
  let want := s.boWanted n
  if on then
    if want then s.wrAt Reg.BO_STATE_WAIT n 0
    else if s.boForced n ≠ 0 ∨ s.onAt Reg.BO_CFG_EN n = false ∨ s.native = false ∨ s.alive = false then s.boSwitch n false
    else if due = false ∧ s.rdAt Reg.BO_STATE_ELAPSED n < s.rdAt Reg.BO_TIMES_MIN_ON n then s.boDefer n 1
    else s.boSwitch n false
  else if want = false then s.wrAt Reg.BO_STATE_WAIT n 0
  else if s.onAt Hid.boOc n ∨ (due = false ∧ s.rdAt Reg.BO_STATE_ELAPSED n < s.rdAt Reg.BO_TIMES_MIN_OFF n) then s.boDefer n 2
  else if s.boBlocked n then s.boDefer n 3
  else s.boSwitch n true

/-- All outputs follow what is wanted of them; those that turn off first, so that a partner may turn on. -/
def State.boRefresh (s : State) : State :=
  let off := s.each ((upTo 6).filter (fun n => s.onAt Reg.BO_STATE_OUT n)) (fun t n => t.boEval n false)
  off.each ((upTo 6).filter (fun n => !s.onAt Reg.BO_STATE_OUT n)) (fun t n => t.boEval n false)

/-- R244: an output's wish to be on has arrived. -/
def State.boArrive (s : State) (n : Nat) : State :=
  let k := s.rd Hid.boCnt + 1
  (s.wr Hid.boCnt k).wrAt Hid.boArr n k

/-- BO_COMMAND, R216, R243: a command to output `n`. -/
def State.boCommand (s : State) (n : Nat) (v : Nat) : State :=
  if s.rdAt Reg.BO_STATE_CMD n = v % 2 then s
  else
    let t := s.wrAt Reg.BO_STATE_CMD n (v % 2)
    (t.whenB (v % 2 == 1) (fun t => t.boArrive n)).boRefresh

/-- BO_OVERCURRENT, R242: a trip turns the output off; the third within 60 s latches FAULT. -/
def execBoOvercurrent (out : Fin 6) (s : State) : Out :=
  let n := out.val
  if s.onAt Reg.BO_STATE_OUT n = false then fin s
  else
    let last := s.rdAt Hid.boOcAt (2 * n)
    let prev := s.rdAt Hid.boOcAt (2 * n + 1)
    let now := s.tick + 1
    let third := prev != 0 && decide (now - prev ≤ 60000)
    let t := (((s.boSwitch n false).or Reg.BO_FLAGS_OC (2 ^ n)).count 0x9F).wrAt Hid.boOcAt (2 * n + 1) last
    let u := (t.wrAt Hid.boOcAt (2 * n) now).wrAt Hid.boOc n 1
    fin ((u.whenB third (fun t => (t.orAt Reg.BO_STATE_FORCED n 4).or Reg.BO_FLAGS_LATCH (2 ^ n))).boRefresh)

/-- BO_OC_RESTART, R242: 1 s after a trip, and after MIN_OFF, an output still wanted switches on again. -/
def execBoOcRestart (out : Fin 6) (s : State) : Out :=
  if s.onAt Hid.boOc out.val then fin ((s.wrAt Hid.boOc out.val 0).boEval out.val true) else fin s

/-- BO_MIN_TIME_EXPIRY, R243, R244: the wait of a deferred switch ends. -/
def execBoMinTimeExpiry (out : Fin 6) (s : State) : Out :=
  if s.rdAt Reg.BO_STATE_WAIT out.val = 0 then fin s else fin ((s.boEval out.val true).boRefresh)

/-- BO_OPEN_LOAD, R242: an on-state current below 2 mA. -/
def execBoOpenLoad (out : Fin 6) (s : State) : Out :=
  if s.onAt Reg.BO_CFG_OPEN_EN out.val && s.onAt Reg.BO_STATE_OUT out.val then fin (s.or Reg.BO_FLAGS_OPEN (2 ^ out.val)) else fin s

/-- R242: CLEAR ends the FAULT of the outputs of a mask; the trips that latched it are then over. -/
def State.boClear (s : State) (mask : Nat) : State :=
  (s.each ((upTo 6).filter (fun n => bit mask n && bit (s.rdAt Reg.BO_STATE_FORCED n) 2)) (fun t n =>
    ((t.clrAt Reg.BO_STATE_FORCED n 4).wrAt Hid.boOcAt (2 * n) 0).wrAt Hid.boOcAt (2 * n + 1) 0)).boRefresh

/-- R243: ELAPSED advances by 1 ms. -/
def State.boTick (s : State) : State :=
  s.each (upTo 6) (fun t n =>
    let m := t.rdAt Hid.boMs n + 1
    if m < 1000 then t.wrAt Hid.boMs n m
    else (t.wrAt Hid.boMs n 0).wrAt Reg.BO_STATE_ELAPSED n (capN 65535 (t.rdAt Reg.BO_STATE_ELAPSED n + 1)))

end Sys2Proof.Machine
end

