-- ==== Sys2Proof/Machine/Dampers.lean ====
section
/-! DEFINITION. The dampers and their scheduler (R233 to R241, R247). A damper's speed and position advance at every wheel tick (log
entry 13); the rows of the table end its moves. -/

namespace Sys2Proof.Machine

/-- The state of damper `d`. -/
def State.dst (s : State) (d : Nat) : Nat := s.rdAt Reg.DMP_STATE_STATE d

/-- R246: dampers act in the native operating modes. -/
def State.dmpActive (s : State) : Bool := s.alive && s.native

/-- R234: full travel U of damper `d` in microsteps. -/
def State.dmpTravel (s : State) (d : Nat) : Nat := s.rdAt Reg.DMP_TRAVEL_STEPS d * 2 ^ s.rdAt Reg.DMP_CFG_MICRO d

/-- R247: the command damper `d` follows. -/
def State.dmpValue (s : State) (d : Nat) : Nat :=
  if s.onAt Reg.DMP_MAN_MAN_EN d then s.rdAt Reg.DMP_MAN_MAN_VALUE d else s.rdAt Reg.DMP_TARGET_VALUE d

/-- R234: the target of damper `d` in microsteps. -/
def State.dmpTarget (s : State) (d : Nat) : Nat := (rndUp ((s.dmpValue d : Int) * s.dmpTravel d) 65535).toNat

/-- R240, R335: damper `d` is under a CUT. -/
def State.dmpCutNow (s : State) (d : Nat) : Bool := s.regionCut (if d < 2 then 4 else 5) || s.vmFault

/-- R239: damper `d` has a reason to join the queue. -/
def State.dmpNeeds (s : State) (d : Nat) : Bool := s.dmpTarget d != s.rdAt Reg.DMP_POS_POS d || s.onAt Hid.dmpHome d

/-- R239: the limit L. -/
def State.dmpLimit (s : State) : Nat :=
  let m := s.rd Reg.DMP_SCHED_MAX_MOVING
  let l := s.rd Reg.THERM_STAT_LVL_DMP
  if l = 0 then m
  else min m (s.rd (if l = 1 then Reg.DMP_SCHED_THR1 else if l = 2 then Reg.DMP_SCHED_THR2 else Reg.DMP_SCHED_THR3))

/-- Damper `d` leaves the scheduler's lists. -/
def DmpS.remove (q : DmpS) (d : Nat) : DmpS :=
  { q with moving := q.moving.filter (fun p => p.2 != d), stopping := q.stopping.filter (fun x => x != d),
           front := q.front.filter (fun p => p.2 != d), queue := q.queue.filter (fun x => x != d) }

/-- R249: the dampers that move or home, as a map. -/
def DmpS.movingMap (q : DmpS) : Nat := bitMap 4 (fun d => q.moving.any (fun p => p.2 == d))

/-- R249: the dampers that wait for a slot, as a map. -/
def DmpS.queuedMap (q : DmpS) : Nat := bitMap 4 (fun d => q.front.any (fun p => p.2 == d) || q.queue.contains d)

/-- A preempted damper put among the preempted ones by its start stamp. -/
def insertStamp (p : Nat × Nat) : List (Nat × Nat) → List (Nat × Nat)
  | [] => [p]
  | h :: t => if h.1 < p.1 then h :: insertStamp p t else p :: h :: t

/-- Damper `d` leaves the scheduler and is at rest. -/
def State.dmpOut (s : State) (d : Nat) : State := ({ s with dmp := s.dmp.remove d } : State).wrAt Hid.dmpVel d 0

/-- R239: damper `d` starts, homing first where it must. -/
def State.dmpStart (s : State) (d : Nat) : State :=
  let home := s.onAt Reg.DMP_STATE_POS_OK d = false ∨ s.onAt Hid.dmpHome d = true
  let q := s.dmp.remove d
  let t : State := { s with dmp := { q with moving := q.moving ++ [(q.stamp, d)], stamp := q.stamp + 1 } }
  (t.wrsAt d [(Reg.DMP_STATE_STATE, if home then 4 else 3), (Hid.dmpStalled, 0), (Hid.dmpFb, 0), (Hid.dmpVel, 0)]).count 0x98

/-- R239: starting queued dampers while slots are free: preempted ones first. -/
def State.dmpFill : Nat → State → State
  | 0, s => s
  | fuel + 1, s =>
    if s.dmpLimit ≤ s.dmp.moving.length then s
    else
      match s.dmp.front, s.dmp.queue with
      | p :: _, _ => State.dmpFill fuel (s.dmpStart p.2)
      | [], d :: _ => State.dmpFill fuel (s.dmpStart d)
      | [], [] => s

/-- R239: the latest started dampers above the limit decelerate. -/
def State.dmpPreempt (s : State) : State :=
  let excess := s.dmp.moving.length - s.dmpLimit
  let pick := (s.dmp.moving.reverse.take excess).map (fun p => p.2)
  let new := pick.filter (fun d => !s.dmp.stopping.contains d)
  ({ s with dmp := { s.dmp with stopping := s.dmp.stopping ++ new } } : State).each new (fun t d =>
    (t.or Reg.DMP_FLAGS_PREEMPT (2 ^ d)).count 0x9B)

/-- R239: dampers that need a slot join the queue in index order, and those whose target came back to them leave it. -/
def State.dmpJoin (s : State) : State :=
  s.each (upTo 4) (fun t d =>
    if t.dst d = 1 ∧ t.dmpNeeds d = true then
      ({ t with dmp := { t.dmp with queue := t.dmp.queue ++ [d] } } : State).wrAt Reg.DMP_STATE_STATE d 2
    else if t.dst d = 2 ∧ t.dmpNeeds d = false then (t.dmpOut d).wrAt Reg.DMP_STATE_STATE d 1
    else t)

/-- DAMPER_SCHED_TICK, R239. -/
def execDamperSchedTick (s : State) : Out :=
  if s.dmpActive then fin (State.dmpFill 4 (s.dmpJoin.dmpPreempt)) else fin s

/-- R235: one tick of a trapezoidal profile: `w` the speed and `top` the highest, in 1/1000 full steps per s, `acc` the change of the
speed in 1 ms, `m` microsteps to a full step, `ahead` the distance left in 1/2 000 000 microstep, negative for a target that lies
behind. The answer is the new speed and the distance moved. The damper speeds up or keeps its speed while it can still stop at the
target; it slows where it cannot, or where the scheduler stops it. -/
def dmpProfile (m acc top w : Nat) (ahead : Int) (halt : Bool) : Nat × Int :=
  let fits := fun (v : Nat) => decide (((acc * (m * (w + v)) + m * v * v : Nat) : Int) ≤ acc * ahead)
  let slow := (w - acc, ((m * (w + (w - acc)) : Nat) : Int))
  let up := if w ≤ top then min (w + acc) top else max top (w - acc)
  if halt = true ∨ ((acc : Int) * ahead < ((m * w * w : Nat) : Int)) then slow
  else if fits up then (up, ((m * (w + up) : Nat) : Int))
  else if w ≤ acc then (0, ahead)
  else if fits w then (w, ((2 * m * w : Nat) : Int))
  else slow

/-- R233, R235: damper `d` moves by `delta`, in 1/2 000 000 microstep and positive away from the home end. POS counts whole microsteps
and does not fall below 0; the place in the table follows the motor, in the direction REVERSE gives. -/
def State.dmpShift (s : State) (d : Nat) (delta : Int) : State :=
  let x : Int := (s.rdAt Hid.dmpFrac d : Int) + delta
  let k : Int := x.fdiv 2000000
  let turn : Int := k * ((16 / 2 ^ s.rdAt Reg.DMP_CFG_MICRO d : Nat) : Int)
  let ph : Int := if s.onAt Reg.DMP_CFG_REVERSE d then (s.rdAt Hid.dmpPhase d : Int) - turn else (s.rdAt Hid.dmpPhase d : Int) + turn
  s.wrsAt d [(Reg.DMP_POS_POS, ((s.rdAt Reg.DMP_POS_POS d : Int) + k).toNat), (Hid.dmpFrac, (x.fmod 2000000).toNat),
    (Hid.dmpPhase, (ph.fmod 64).toNat)]

/-- R235: the distance from damper `d` to its target, in 1/2 000 000 microstep and positive away from the home end. -/
def State.dmpGap (s : State) (d : Nat) : Int :=
  ((s.dmpTarget d : Int) - s.rdAt Reg.DMP_POS_POS d) * 2000000 - s.rdAt Hid.dmpFrac d

/-- R235: 1 ms of a move of damper `d`. A damper at rest turns towards its target. -/
def State.dmpMove (s : State) (d : Nat) : State :=
  let w := s.rdAt Hid.dmpVel d
  let gap := s.dmpGap d
  let home := if w = 0 then decide (gap < 0) else s.onAt Hid.dmpDir d
  let p := dmpProfile (2 ^ s.rdAt Reg.DMP_CFG_MICRO d) (s.rdAt Reg.DMP_SPEED_ACCEL d) (s.rdAt Reg.DMP_SPEED_SPEED d * 1000) w
    (if home then -gap else gap) (s.dmp.stopping.contains d)
  (s.dmpShift d (if home then -p.2 else p.2)).wrsAt d [(Hid.dmpVel, p.1), (Hid.dmpDir, b2n home)]

/-- R236: 1 ms of a homing of damper `d`: it turns towards the home end at SPEED, or slows where the scheduler stops it. -/
def State.dmpHoming (s : State) (d : Nat) : State :=
  let w := s.rdAt Hid.dmpVel d
  let v := if s.dmp.stopping.contains d then w - s.rdAt Reg.DMP_SPEED_ACCEL d else s.rdAt Reg.DMP_SPEED_SPEED d * 1000
  (s.dmpShift d (-((2 ^ s.rdAt Reg.DMP_CFG_MICRO d * (w + v) : Nat) : Int))).wrsAt d [(Hid.dmpVel, v), (Hid.dmpDir, 1)]

/-- R235, R236: the dampers that move or home do so for 1 ms. -/
def State.dmpTick (s : State) : State :=
  if s.dmpActive then
    s.each (upTo 4) (fun t d => if t.dst d = 3 then t.dmpMove d else if t.dst d = 4 then t.dmpHoming d else t)
  else s

/-- R233, R240, R241: the bridges of damper `d` are on: while it moves or homes, and at rest unless I_REST is 0. -/
def State.dmpBridges (s : State) (d : Nat) : Bool :=
  s.dmpActive && (s.dst d == 3 || s.dst d == 4 || ((s.dst d == 1 || s.dst d == 2) && s.rdAt Reg.DMP_CURRENT_I_REST d != 0))

/-- R233: sin (k × π / 32) × 32 768 for k from 0 to 16, rounded to nearest (log entry 13). -/
def quarterSine : List Nat :=
  [0, 3212, 6393, 9512, 12540, 15447, 18205, 20788, 23170, 25330, 27246, 28899, 30274, 31357, 32138, 32610, 32768]

/-- R233: the sine of place `k` of 64, in 1/32 768. -/
def sine64 (k : Nat) : Int :=
  let q := fun (j : Nat) => (quarterSine.getD j 0 : Int)
  let j := k % 64
  if j ≤ 16 then q j else if j ≤ 32 then q (32 - j) else if j ≤ 48 then -q (j - 32) else -q (64 - j)

/-- R233: the rms current setting of damper `d` in mA: I_RUN while it moves or homes, I_REST at rest, 0 with the bridges off. -/
def State.dmpRms (s : State) (d : Nat) : Nat :=
  if s.dmpBridges d = false then 0 else s.rdAt (if s.dst d = 3 ∨ s.dst d = 4 then Reg.DMP_CURRENT_I_RUN else Reg.DMP_CURRENT_I_REST) d

/-- R233: the set-points of windings A and B in mA: the sine and the cosine of the place in the table, with the amplitude rms × √2. -/
def State.dmpWinding (s : State) (d : Nat) : Int × Int :=
  let ph := s.rdAt Hid.dmpPhase d
  let i := fun (k : Nat) => rndUp (sine64 k * s.dmpRms d * 46341) (2 ^ 30)
  (i ph, i (ph + 16))

/-- A damper's move ends: it is idle, and the feedback check of R238 is due 100 ms later. -/
def State.dmpEnd (s : State) (d : Nat) : State :=
  (s.dmpOut d).wrsAt d [(Reg.DMP_STATE_STATE, 1), (Hid.dmpStalled, 0), (Hid.dmpFb, s.rdAt Reg.DMP_CFG_FB_EN d)]

/-- A damper that was moving has lost its position: POS_OK 0, and POS a free value until it homes (log entry 13). -/
def State.dmpLose (s : State) (d : Nat) : State :=
  if s.dst d = 3 ∨ s.dst d = 4 then (s.takeFree.2).wrsAt d [(Reg.DMP_STATE_POS_OK, 0), (Reg.DMP_POS_POS, s.takeFree.1)] else s

/-- R241: damper `d` enters FAULT. -/
def State.dmpFault (s : State) (d cause : Nat) : State :=
  (((s.dmpLose d).dmpOut d).wrsAt d [(Reg.DMP_STATE_STATE, 5), (Reg.DMP_STATE_CAUSE, cause), (Hid.dmpFb, 0), (Hid.dmpStalled, 0)]).raise 7

/-- DAMPER_MOVE_DONE, R235: the damper reaches its target. -/
def execDamperMoveDone (damper : Fin 4) (s : State) : Out :=
  let d := damper.val
  if s.dst d ≠ 3 then fin s else fin ((s.dmpShift d (s.dmpGap d)).dmpEnd d)

/-- R236: a homing finds the end stop; the damper moves on to its target in the same slot. -/
def State.dmpHomed (s : State) (d : Nat) : State :=
  let stalled := s.rdAt Hid.dmpStalled d
  let t := ((s.wrsAt d [(Reg.DMP_POS_POS, 0), (Hid.dmpFrac, 0), (Hid.dmpVel, 0), (Reg.DMP_STATE_POS_OK, 1), (Hid.dmpHome, 0)])).count 0x99
  if t.dmpTarget d = 0 then t.dmpEnd d else t.wrsAt d [(Reg.DMP_STATE_STATE, 3), (Hid.dmpStalled, stalled)]

/-- DAMPER_STALL, R236, R237: the end stop of a homing; the first stall of a move homes and resumes it, the second is a
fault. The detection acts only while the speed is at least STALL_MIN. -/
def execDamperStall (damper : Fin 4) (s : State) : Out :=
  let d := damper.val
  if s.rdAt Hid.dmpVel d < s.rdAt Reg.DMP_STALL_STALL_MIN d * 1000 then fin s
  else if s.dst d = 4 then fin (s.dmpHomed d)
  else if s.dst d = 3 then
    let t := (s.or Reg.DMP_FLAGS_STALL (2 ^ d)).count 0x9A
    if s.onAt Hid.dmpStalled d then fin (t.dmpFault d 2)
    else fin ((t.dmpLose d).wrsAt d [(Hid.dmpStalled, 1), (Hid.dmpVel, 0), (Reg.DMP_STATE_STATE, 4)])
  else fin s

/-- DAMPER_HOME_FAIL, R236: a homing finds no end stop. -/
def execDamperHomeFail (damper : Fin 4) (s : State) : Out :=
  let d := damper.val
  if s.dst d ≠ 4 then fin s else fin ((s.or Reg.DMP_FLAGS_HOME_FAIL (2 ^ d)).dmpFault d 1)

/-- R238: the feedback position, clamped. -/
def fbOf (x lo hi : Nat) : Nat :=
  let n : Int := ((x : Int) - lo) * 65535
  let q := if lo < hi then rndUp n (hi - lo) else rndUp (-n) (lo - hi)
  (clampI 0 65535 q).toNat

/-- DAMPER_FEEDBACK_CHECK, R238: 100 ms after a move. -/
def execDamperFeedbackCheck (damper : Fin 4) (s : State) : Out :=
  let d := damper.val
  if s.onAt Hid.dmpFb d = false ∨ s.onAt Reg.DMP_CFG_FB_EN d = false ∨ s.dmpActive = false then fin s
  else
    let t := s.wrAt Hid.dmpFb d 0
    let i := s.rdAt Reg.DMP_CFG_FB_IN d
    if s.onAt Reg.UI_VALUE_VALID i = false then fin (t.wrAt Reg.DMP_FBPOS_FB_VALID d 0)
    else
      let fb := fbOf (s.rdAt Reg.UI_VALUE_VALUE i) (s.rdAt Reg.DMP_FB_FB_LO d) (s.rdAt Reg.DMP_FB_FB_HI d)
      let u := t.wrsAt d [(Reg.DMP_FBPOS_FB_POS, fb), (Reg.DMP_FBPOS_FB_VALID, 1)]
      if absDiff fb (s.dmpValue d) ≤ s.rdAt Reg.DMP_FB_TOL_TOL d then fin (u.wrAt Hid.dmpFbTry d 0)
      else
        let w := (u.or Reg.DMP_FLAGS_FB_MISMATCH (2 ^ d)).wrAt Reg.DMP_STATE_POS_OK d 0
        if s.onAt Hid.dmpFbTry d then fin ((w.wrAt Hid.dmpFbTry d 0).dmpFault d 3)
        else fin (w.wrsAt d [(Hid.dmpFbTry, 1), (Hid.dmpHome, 1)])

/-- DAMPER_BRIDGE_OVERCURRENT, R241: while the bridges are on: moving, homing, or at rest with I_REST. -/
def execDamperBridgeOvercurrent (damper : Fin 4) (s : State) : Out :=
  let d := damper.val
  if s.dmpBridges d then fin ((s.or Reg.DMP_FLAGS_BRIDGE (2 ^ d)).dmpFault d 4)
  else fin s

/-- DAMPER_OPEN_WINDING, R241: during a move. -/
def execDamperOpenWinding (damper : Fin 4) (s : State) : Out :=
  let d := damper.val
  if s.dst d = 3 ∨ s.dst d = 4 then fin ((s.or Reg.DMP_FLAGS_BRIDGE (2 ^ d)).dmpFault d 5) else fin s

/-- DAMPER_PREEMPT_STOP, R239: a damper under the scheduler's deceleration comes to rest at `pos` (a homing one has no known
position and still needs its homing) and waits ahead of the queue. -/
def execDamperPreemptStop (damper : Fin 4) (pos : Nat) (s : State) : Out :=
  let d := damper.val
  if s.dmp.stopping.contains d = false ∨ s.dmpActive = false then fin s
  else
    let stamp := ((s.dmp.moving.find? (fun p => p.2 == d)).map (fun p => p.1)).getD 0
    let o := s.dmpOut d
    let t : State := { o with dmp := { o.dmp with front := insertStamp (stamp, d) o.dmp.front } }
    let u := if s.dst d = 3 then t.wrsAt d [(Reg.DMP_POS_POS, min pos (s.dmpTravel d)), (Hid.dmpFrac, 0)] else t.wrAt Hid.dmpHome d 1
    fin (u.wrAt Reg.DMP_STATE_STATE d 2)

/-- R236: HOME for the dampers of a mask. -/
def State.dmpHomeCmd (s : State) (mask : Nat) : State := s.each ((upTo 4).filter (bit mask)) (fun t d => t.wrAt Hid.dmpHome d 1)

/-- R241: damper `d` is in FAULT, or was at the CUT that it is under. -/
def State.dmpFaulted (s : State) (d : Nat) : Bool := s.dst d == 5 || (s.dst d == 6 && s.rdAt Reg.DMP_STATE_CAUSE d != 0)

/-- R241: CLEAR for the dampers of a mask. -/
def State.dmpClear (s : State) (mask : Nat) : State :=
  s.each ((upTo 4).filter (fun d => bit mask d && s.dmpFaulted d)) (fun t d =>
    t.wrsAt d [(Reg.DMP_STATE_STATE, if t.dmpCutNow d then 6 else 1), (Reg.DMP_STATE_POS_OK, 0), (Reg.DMP_STATE_CAUSE, 0), (Hid.dmpFbTry, 0)])

/-- DAMPER_COMMAND, R216, R234: a command to damper `d`. A move under way takes the new target at once. -/
def State.dmpCommand (s : State) (d v : Nat) : State := s.wrAt Reg.DMP_TARGET_VALUE d v

/-- R240, R241, R249: the state in which damper `d` leaves CUT: disabled with EN 0, FAULT where one stands (DEDUCED, log entry 37: only
CLEAR returns it), else IDLE. -/
def State.dmpRest (s : State) (d : Nat) : Nat :=
  if s.onAt Reg.DMP_CFG_EN d = false then 0 else if s.rdAt Reg.DMP_STATE_CAUSE d ≠ 0 then 5 else 1

/-- R240, R335: every damper enters CUT while one holds and is released from it. -/
def State.dmpCutRefresh (s : State) : State :=
  s.each (upTo 4) (fun t d =>
    if t.dmpCutNow d then
      if t.dst d = 6 then t
      else ((t.dmpLose d).dmpOut d).wrsAt d [(Reg.DMP_STATE_STATE, 6), (Hid.dmpFb, 0), (Hid.dmpStalled, 0)]
    else if t.dst d = 6 then t.wrAt Reg.DMP_STATE_STATE d (t.dmpRest d) else t)

/-- R249: a damper whose EN changed is disabled or idle. -/
def State.dmpEnable (s : State) : State :=
  s.each (upTo 4) (fun t d =>
    if t.onAt Reg.DMP_CFG_EN d = false then
      if t.dst d = 0 then t else (t.dmpOut d).wrsAt d [(Reg.DMP_STATE_STATE, if t.dmpCutNow d then 6 else 0), (Reg.DMP_STATE_CAUSE, 0), (Hid.dmpFb, 0)]
    else if t.dst d = 0 then t.wrAt Reg.DMP_STATE_STATE d (if t.dmpCutNow d then 6 else 1)
    else t)

end Sys2Proof.Machine
end

