-- ==== Sys2Proof/Machine/Fan.lean ====
section
/-! DEFINITION. The fan channels (R191 to R213): the direct drive on channel 0 and the tachometer fans on channels 1 and 2,
whose registers are channels 0 and 1 of the FANT banks. -/

namespace Sys2Proof.Machine

/-- FAN_STATE codes of channel 0 (R214). -/
def fStopped : Nat := 1
/-- CATCH; TSTART of channels 1 and 2. -/
def fCatch : Nat := 2
/-- ALIGN; KICK of channels 1 and 2. -/
def fAlign : Nat := 3
/-- RAMP. -/
def fRamp : Nat := 4
/-- RUN. -/
def fRun : Nat := 5
/-- RETRY_WAIT; OPEN_LOOP of channels 1 and 2. -/
def fRetry : Nat := 6
/-- STALLED. -/
def fStalled : Nat := 7
/-- LOCKED. -/
def fLocked : Nat := 8
/-- COAST. -/
def fCoast : Nat := 9
/-- CUT. -/
def fCut : Nat := 10

/-- The state of channel `n`. -/
def State.fan (s : State) (n : Nat) : Nat := if n = 0 then s.rd Reg.FAN_STATE_STATE else s.rdAt Reg.FANT_STATE_STATE (n - 1)

/-- Setting the state of channel `n`. -/
def State.setFan (s : State) (n v : Nat) : State :=
  if n = 0 then s.wr Reg.FAN_STATE_STATE v else s.wrAt Reg.FANT_STATE_STATE (n - 1) v

/-- EN of channel `n`. -/
def State.fanEn (s : State) (n : Nat) : Bool := if n = 0 then s.on Reg.FAN_CTRL_EN else s.onAt Reg.FANT_CTRL_EN (n - 1)

/-- The demand D in force on channel `n`. A soft reset leaves it alone, although the register that shows it reads 0 until the next
tick (R347, log entry 67). -/
def State.fanD (s : State) (n : Nat) : Nat := s.rdAt Hid.fanDem n

/-- The register that shows D of channel `n`. -/
def State.showDemand (s : State) (n : Nat) : State :=
  if n = 0 then s.wr Reg.FAN_DEMAND_DEMAND (s.fanD 0) else s.wrAt Reg.FANT_DEMAND_DEMAND (n - 1) (s.fanD n)

/-- The speed reference or field speed of channel 0, in 1/1000 rpm, and REF, which shows it in rpm. -/
def State.setRef (s : State) (v : Nat) : State := s.wrs [(Hid.fanRef, v), (Reg.FAN_DEMAND_REF, v / 1000)]

/-- FAN_FLAGS bit `b` set. -/
def State.fanFlag (s : State) (b : Nat) : State := s.or Reg.FAN_FLAGS_FLAGS (2 ^ b)

/-- R212: the fan channels run in the native modes; channels 1 and 2 also as the IZ-30 fans. -/
def State.fanActive (s : State) (n : Nat) : Bool := s.alive && (s.native || (s.mode == mIz30 && n != 0))

/-- R204: HEATER_BLOCK follows the channels, and the outputs with the HEATER attribute follow it. -/
def State.heaterRefresh (s : State) : State :=
  let b := (upTo 3).any (fun n => s.fanEn n && (s.fan n == fStalled || s.fan n == fLocked))
  if s.rd Reg.FAN_COMMON_HEATER_BLOCK = b2n b then s else (s.wr Reg.FAN_COMMON_HEATER_BLOCK (b2n b)).boRefresh

/-- R198: the gates of channel 0 turn off: no current flows, and the speed reference is 0. -/
def State.gatesOff (s : State) : State := (s.setRef 0).wrs [(Hid.fanIlim, 0), (Hid.fanRampMs, 0), (Hid.fanSpdInt, 0), (Reg.FAN_MEAS_IQ, 0)]

/-- R203: channel `n` is LOCKED. -/
def State.fanLock (s : State) (n : Nat) : State :=
  (((((s.setFan n fLocked).whenB (n == 0) State.gatesOff).fanFlag 2).count 0x85).raise 5).heaterRefresh

/-- R203: channel `n` stalls: STALLED, or LOCKED when STALL_CNT reaches 10. -/
def State.fanStall (s : State) (n : Nat) : State :=
  let f := if n = 0 then Reg.FAN_STATE_STALL_CNT else Reg.FANT_STATE_STALL_CNT
  let k := s.rdAt f (n - 1) + 1
  let t := s.wrAt f (n - 1) k
  if 10 ≤ k then (t.whenB (n == 0) (fun t => t.wr Reg.FAN_STATE_LOCK_CAUSE 1)).fanLock n
  else (((((t.setFan n fStalled).fanFlag 1).count 0x84).raise 5)).heaterRefresh

/-- R198, R199: channel 0 begins to align. -/
def State.fanAlign (s : State) : State := ((s.setFan 0 fAlign).gatesOff).count 0x80

/-- R198, R199: channel 0 coasts with its gates off. -/
def State.fanCoast (s : State) : State := ((s.setFan 0 fCoast).gatesOff).wr Hid.fanCoasted 0

/-- R198, R199: channel 0 listens for a turning rotor; while VDRV is low it coasts instead. -/
def State.fanCatch (s : State) : State := if s.on Hid.vdrvBlock then s.fanCoast else s.setFan 0 fCatch

/-- R199: channel 0 in STOPPED with a demand starts, but not under a CUT; while VDRV is low it coasts instead (R198). -/
def State.fanStart0 (s : State) : State :=
  if s.fan 0 ≠ fStopped ∨ s.fanD 0 = 0 ∨ s.fanActive 0 = false ∨ s.regionCut 6 = true then s
  else
    let t := s.wr Reg.FAN_STATE_ATTEMPT 0
    if s.on Hid.vdrvBlock then t.fanCoast
    else if s.on Reg.FAN_CTRL_CATCH_EN then t.fanCatch
    else t.fanAlign

/-- R199: channel 0 enters STOPPED, its gates off, and starts again where a demand stands. -/
def State.fanStop0 (s : State) : State := ((s.setFan 0 fStopped).gatesOff).fanStart0

/-- R206: linear interpolation in a table of points with rising abscissae. -/
def interp : List (Int × Int) → Int → Int
  | [], _ => 0
  | [p], _ => p.2
  | p :: q :: t, x =>
    if x ≤ p.1 then p.2
    else if x ≤ q.1 then p.2 + rndUp ((q.2 - p.2) * (x - p.1)) (q.1 - p.1).toNat
    else interp (q :: t) x

/-- R206: table(D) of channel `n` (1 or 2). -/
def State.fanTable (s : State) (n d : Nat) : Nat :=
  if d = 0 then 0
  else
    let p := (upTo 8).map (fun k => ((s.rdAt Reg.FANT_SD_RPM ((n - 1) * 8 + k) : Int), (s.rdAt Reg.FANT_SD_DUTY ((n - 1) * 8 + k) : Int)))
    (interp p d).toNat

/-- The duty of channel `n` (1 or 2). -/
def State.setDuty (s : State) (n v : Nat) : State := s.wrAt Reg.FANT_MEAS_DUTY (n - 1) v

/-- R207 to R209: channel `n` enters RUN with corr 0, which clears TACH_LOST. -/
def State.fanRunT (s : State) (n : Nat) : State :=
  ((s.setFan n fRun).wrsAt (n - 1) [(Hid.fanInt, 0), (Reg.FANT_STATE_TACH_LOST, 0)]).setDuty n (s.fanTable n (s.fanD n))

/-- R207, R208: channel `n` in STOPPED with a demand starts. -/
def State.fanStartT (s : State) (n : Nat) : State :=
  if s.fan n ≠ fStopped ∨ s.fanD n = 0 ∨ s.fanActive n = false then s
  else if s.onAt Reg.FANT_CTRL_TACH_EN (n - 1) = false then s.fanRunT n
  else ((s.setFan n fCatch).setDuty n (max (s.fanTable n (s.fanD n)) (s.rdAt Reg.FANT_LIM_START_DUTY (n - 1)))).count 0x80

/-- R208: channel `n` enters STOPPED with duty 0, and starts again where a demand stands. -/
def State.fanStopT (s : State) (n : Nat) : State := ((s.setFan n fStopped).setDuty n 0).fanStartT n

/-- R207: with TACH_EN 0 the duty is table(D) at all times and the state RUN while D > 0. A LOCKED channel stays LOCKED (R203). With
TACH_EN 1 the duty is table(D) in OPEN_LOOP (R209). -/
def State.fanOpen (s : State) (n : Nat) : State :=
  if n = 0 ∨ s.fanActive n = false ∨ s.mode = mIz30 ∨ s.fan n = 0 ∨ s.fan n = fLocked then s
  else if s.onAt Reg.FANT_CTRL_TACH_EN (n - 1) then (if s.fan n = fRetry then s.setDuty n (s.fanTable n (s.fanD n)) else s)
  else if s.fanD n = 0 then s.fanStopT n
  else s.fanRunT n

/-- R193: the demand of a command. -/
def State.fanClamp (s : State) (n cmd : Nat) : Nat :=
  if cmd = 0 then 0
  else if n = 0 then (clampI (s.rd Reg.FAN_SPD_LIM_MIN_RPM) (s.rd Reg.FAN_SPD_LIM_MAX_RPM) cmd).toNat
  else min cmd (s.rdAt Reg.FANT_LIM_MAX_RPM (n - 1))

/-- R193, R199, R208: channel `n` takes a command from its source. -/
def State.fanDemand (s : State) (n cmd : Nat) : State :=
  let d := s.fanClamp n cmd
  if d = s.fanD n then s
  else if n = 0 then
    let t := (s.wrAt Hid.fanDem 0 d).showDemand 0
    if t.fanActive 0 = false then t
    else if d = 0 ∧ (t.fan 0 = fCatch ∨ t.fan 0 = fAlign ∨ t.fan 0 = fRamp ∨ t.fan 0 = fRetry) then t.fanStop0
    else t.fanStart0
  else
    let t := (s.wrAt Hid.fanDem n d).showDemand n
    if t.fanActive n = false ∨ t.fan n = 0 ∨ t.fan n = fLocked then t
    else if d = 0 then (t.fanStopT n).heaterRefresh
    else if t.fan n = fStopped then t.fanStartT n
    else if t.fan n = fRetry ∨ (t.fan n = fRun ∧ t.onAt Reg.FANT_CTRL_TACH_EN (n - 1) = false) then t.setDuty n (t.fanTable n d)
    else t

/-- FAN_COMMAND, R192: a command of KIND 3; SRC stands in bit 16 of VALUE. In IZ-30 mode it is the duty of channel 1 or 2
(R451). -/
def State.fanCommand (s : State) (n v : Nat) : State :=
  if s.mode = mIz30 then (if n = 0 then s else s.setDuty n (v % 65536))
  else
  let src := bits v 16 1
  let t := if src = 0 then s.wrAt Reg.FAN_CDEM_DEMAND n (v % 65536) else s
  if bits (s.rd Reg.FAN_COMMON_SRC) n 1 = src then t.fanDemand n (v % 65536) else t

/-- FAN_CATCH_TIMEOUT, R199: no turning rotor was heard. -/
def execFanCatchTimeout (s : State) : Out := if s.fan 0 = fCatch then fin s.fanAlign else fin s

/-- FAN_ALIGN_OPEN_PHASE, R199, R202. -/
def execFanAlignOpenPhase (s : State) : Out :=
  if s.fan 0 = fAlign then fin (((s.wr Reg.FAN_STATE_LOCK_CAUSE 2).fanFlag 3).count 0x86 |>.fanLock 0) else fin s

/-- FAN_ALIGN_DONE, R199: channel 0 ramps. -/
def execFanAlignDone (s : State) : Out :=
  if s.fan 0 = fAlign then fin ((s.setFan 0 fRamp).setRef 0 |>.wr Hid.fanRampMs 0) else fin s

/-- R197: the limit of the stator current in mA at the throttle level that stands. -/
def State.fanLimit (s : State) : Nat :=
  let n := s.rd Reg.THERM_STAT_LVL_FAN
  let thr := if n = 0 then 100 else if n = 1 then s.rd Reg.FAN_THR_THR1 else if n = 2 then s.rd Reg.FAN_THR_THR2 else s.rd Reg.FAN_THR_THR3
  s.rd Reg.FAN_ILIM_I_LIMIT * thr / 100

/-- R200: a start current of the attempt under way, before R197. -/
def State.fanAttempt (s : State) (i : Nat) : Nat := i * (4 + s.rd Reg.FAN_STATE_ATTEMPT) / 4

/-- R214: the output of the speed loop in mA: KP times the error, and the integrator, which is held in 1/256000 mA. -/
def State.fanSpeedLoop (s : State) : Int :=
  let err : Int := (s.rd Hid.fanRef / 1000 : Nat) - (s.rd Reg.FAN_MEAS_SPEED : Int)
  (err * s.rd Reg.FAN_SPD_PI_KP * 1000 + s.rdI Hid.fanSpdInt 0) / 256000

/-- R200, R201: the current that the drive asks for, before R197: none in the 5 ms in which the bootstraps charge, I_ALIGN on the
d axis in the align phase, I_START in the ramp, the speed loop's in RUN. -/
def State.fanWants (s : State) : Int :=
  if s.fan 0 = fAlign then (if s.rd Hid.fanRampMs < 5 then 0 else s.fanAttempt (s.rd Reg.FAN_START_I_ALIGN))
  else if s.fan 0 = fRamp then s.fanAttempt (s.rd Reg.FAN_START_I_START)
  else if s.fan 0 = fRun then s.fanSpeedLoop
  else 0

/-- R197: the current set-point. -/
def State.fanCurrent (s : State) : Int := clampI (-(s.fanLimit : Int)) s.fanLimit s.fanWants

/-- R197: the current limit acts. -/
def State.fanLimited (s : State) : Bool := decide (s.fanLimit < s.fanWants.natAbs)

/-- R200: the electrical frequency of the field in mHz: speed times POLES / 60. -/
def State.fanFieldMilliHz (s : State) : Nat := s.rd Hid.fanRef * s.rd Reg.FAN_MOTOR_POLES / 60

/-- R201: an observed speed in rpm lies within 12.5 % of the field speed. -/
def State.fanNear (s : State) (speed : Nat) : Bool := decide (8 * ((speed : Int) * 1000 - s.rd Hid.fanRef).natAbs ≤ s.rd Hid.fanRef)

/-- FAN_OBSERVER_CONVERGED, R199, R201: the observed speed in rpm, and whether the rotor turns in the direction of DIR. In RAMP the
field speed is the drive's own, and the speed loop starts at the observed speed with the ramp's current, so that the current
does not step. A caught rotor carries no current yet, and the loop starts at none. -/
def execFanObserverConverged (speed _field : Nat) (dirOk : Bool) (s : State) : Out :=
  let min := s.rd Reg.FAN_SPD_LIM_MIN_RPM
  let run := fun (t : State) (i : Int) => (((t.setFan 0 fRun).setRef (speed * 1000)).wr Reg.FAN_MEAS_SPEED speed).wrI Hid.fanSpdInt 0 (i * 256000)
  if s.fan 0 = fCatch ∧ min ≤ speed ∧ dirOk = true then fin ((run s 0).count 0x83)
  else if s.fan 0 = fRamp ∧ min * 1000 ≤ s.rd Hid.fanRef ∧ s.fanNear speed = true then fin ((run s s.fanCurrent).count 0x82)
  else fin s

/-- FAN_RAMP_TIMEOUT, R199: the attempt fails. -/
def execFanRampTimeout (s : State) : Out :=
  if s.fan 0 ≠ fRamp then fin s
  else
    let t := ((s.fanFlag 0).count 0x81).gatesOff
    let a := s.rd Reg.FAN_STATE_ATTEMPT
    if a < 3 then fin ((t.setFan 0 fRetry).wr Reg.FAN_STATE_ATTEMPT (a + 1)) else fin (t.fanStall 0)

/-- FAN_RETRY_WAIT_END, R199. -/
def execFanRetryWaitEnd (s : State) : Out := if s.fan 0 = fRetry then fin s.fanAlign else fin s

/-- FAN_STOP_DONE, R199: the reference has fallen to MIN_RPM with a demand of 0. -/
def execFanStopDone (s : State) : Out :=
  if s.fan 0 = fRun ∧ s.fanD 0 = 0 ∧ s.rd Hid.fanRef ≤ s.rd Reg.FAN_SPD_LIM_MIN_RPM * 1000 then fin s.fanStop0 else fin s

/-- R199: the end of COAST. -/
def State.fanCoastOut (s : State) : State :=
  if s.fanD 0 = 0 then s.fanStop0 else (s.wr Reg.FAN_STATE_ATTEMPT 0).fanCatch

/-- FAN_COAST_END, R199: after 500 ms; a low VDRV keeps channel 0 in COAST (R198). -/
def execFanCoastEnd (s : State) : Out :=
  if s.fan 0 ≠ fCoast then fin s
  else if s.on Hid.vdrvBlock then fin (s.wr Hid.fanCoasted 1)
  else fin s.fanCoastOut

/-- FAN_STALL_WAIT_END, R199, R208: 30 s in STALLED. -/
def execFanStallWaitEnd (chan : Fin 3) (s : State) : Out :=
  let n := chan.val
  if s.fan n ≠ fStalled then fin s
  else if n = 0 then
    if s.fanD 0 = 0 then fin s.fanStop0.heaterRefresh
    else fin ((s.wr Reg.FAN_STATE_ATTEMPT 0).fanCatch).heaterRefresh
  else fin (s.fanStopT n).heaterRefresh

/-- R198: whether the gates of channel 0 are driven. -/
def State.fanGates (s : State) : Bool := s.fan 0 == fCatch || s.fan 0 == fAlign || s.fan 0 == fRamp || s.fan 0 == fRun

/-- R194, R198, R200: the level of the low-side gates GLA to GLC. All of them conduct for the first 5 ms of a start attempt, which charges
the bootstraps, and none while the gates are off; none determined here while the drive listens or its PWM runs. -/
def State.fanLowSides (s : State) : Option Bool :=
  if s.fanGates = false then some false
  else if s.fan 0 = fAlign ∧ s.rd Hid.fanRampMs < 5 then some true
  else none

/-- R214: overcurrent trips of the last 10 s. -/
def State.fanOcCnt (s : State) : Nat :=
  ((upTo 3).filter (fun k => s.rdAt Hid.fanOcAt k != 0 && decide (s.tick + 1 - s.rdAt Hid.fanOcAt k ≤ 10000))).length

/-- FAN_OVERCURRENT, R198: the third trip within 10 s locks channel 0. -/
def execFanOvercurrent (s : State) : Out :=
  if s.fanGates = false then fin s
  else
    let t := (((s.wrAt Hid.fanOcAt 2 (s.rdAt Hid.fanOcAt 1)).wrAt Hid.fanOcAt 1 (s.rdAt Hid.fanOcAt 0)).wrAt Hid.fanOcAt 0 (s.tick + 1))
    let u := (t.fanFlag 4).count 0x87
    if 3 ≤ u.fanOcCnt then fin ((u.wr Reg.FAN_STATE_LOCK_CAUSE 3).fanLock 0) else fin u.fanCoast

/-- FAN_VDRV_LOW, R198, R332: VDRV below 9.5 V. -/
def execFanVdrvLow (s : State) : Out :=
  if s.alive = false ∨ s.on Reg.PWR_STAT_VDRV_LOW = true then fin s
  else
    let t := (((s.wrs [(Hid.vdrvBlock, 1), (Reg.PWR_STAT_VDRV_LOW, 1)]).or Reg.PWR_FLAGS_FLAGS 16).fanFlag 5).count 0x89
    if t.fanGates = true ∨ t.fan 0 = fRetry then fin t.fanCoast else fin t

/-- FAN_VDRV_GOOD, R198, R332: VDRV has been good for 10 ms. -/
def execFanVdrvGood (s : State) : Out :=
  let t := s.wrs [(Hid.vdrvBlock, 0), (Reg.PWR_STAT_VDRV_LOW, 0)]
  if t.fan 0 = fCoast ∧ t.on Hid.fanCoasted = true then fin t.fanCoastOut else fin t

/-- R198: a synchronisation loss in RUN. -/
def State.fanSyncLoss (s : State) : State := if s.fan 0 = fRun then ((s.fanFlag 7).count 0x88).fanCoast else s

/-- FAN_BOOTSTRAP_LOW, R198: a bootstrap has been low for `periods` consecutive PWM periods. -/
def execFanBootstrapLow (periods : Nat) (s : State) : Out :=
  if s.fanGates = false then fin s
  else if 16 ≤ periods then fin (s.fanFlag 6).fanSyncLoss
  else fin (s.fanFlag 6)

/-- FAN_SYNC_LOSS, R198. -/
def execFanSyncLoss (s : State) : Out := fin s.fanSyncLoss

/-- R198: channel 0 enters CUT while one holds in the region of TS6 and is released from it. A LOCKED channel stays LOCKED
(R203). -/
def State.fanCutRefresh (s : State) : State :=
  if s.regionCut 6 then
    if s.fan 0 = 0 ∨ s.fan 0 = fLocked ∨ s.fan 0 = fCut then s
    else (((s.setFan 0 fCut).gatesOff).fanFlag 8).heaterRefresh
  else if s.fan 0 = fCut then s.fanStop0
  else s

/-- R212, R214: whether a channel is enabled; channel 0 is not in IZ-30 mode. -/
def State.fanUsed (s : State) (n : Nat) : Bool := s.fanEn n && !(n == 0 && s.mode == mIz30)

/-- R214: channel `n` is disabled. -/
def State.fanOff (s : State) (n : Nat) : State :=
  if n = 0 then (s.setFan 0 0).gatesOff else (s.setFan n 0).setDuty n 0

/-- R198, R199, R208: channel `n` enters STOPPED, or CUT, and follows its demand. -/
def State.fanStop (s : State) (n : Nat) : State := if n = 0 then s.fanStop0.fanCutRefresh else s.fanStopT n

/-- R207, R214: a channel whose EN changed is disabled, or stopped and then follows its demand; one with TACH_EN 0 follows its table.
A LOCKED channel stays LOCKED (R203). In SAFE channel 0 is STOPPED, enabled or not (R212). -/
def State.fanEnable (s : State) : State :=
  (s.each (upTo 3) (fun t n =>
    if n = 0 ∧ t.mode = mSafe then t.setFan 0 fStopped
    else if t.fanUsed n = false then (if t.fan n = 0 ∨ t.fan n = fLocked then t else t.fanOff n)
    else if t.fan n = 0 then t.fanStop n
    else t.fanOpen n)).heaterRefresh

/-- R205: what FANPWMn carries: nothing (high impedance), or a PWM of `steps` steps that is high for `high` of them, push-pull or
open-drain. -/
inductive PwmPin where
  | highZ
  | pwm (high steps : Nat) (openDrain : Bool)
  deriving DecidableEq, Repr

/-- R205, R212, R213: the pin of channel `n` (1 or 2): 8000 steps, 1280 in clock fallback; INV inverts it. -/
def State.fanPwm (s : State) (n : Nat) : PwmPin :=
  if s.fanActive n = false then .highZ
  else
    let steps := if s.on Reg.CLK_STAT_FALLBACK then 1280 else 8000
    let high := (rndUp ((s.rdAt Reg.FANT_MEAS_DUTY (n - 1) * steps : Nat) : Int) 65535).toNat
    .pwm (if s.onAt Reg.FANT_CTRL_INV (n - 1) then steps - high else high) steps (s.onAt Reg.FANT_CTRL_OD (n - 1))

/-- R205: the steady level of a FANPWM pin: that of a PWM that is always low, or always high on a push-pull output. -/
def PwmPin.level : PwmPin → Option Bool
  | .highZ => none
  | .pwm high steps openDrain => if high = 0 then some false else if high = steps ∧ openDrain = false then some true else none

/-- R199, R208: UNLOCK for the channels of a mask; one that is not enabled is then disabled. -/
def State.fanUnlock (s : State) (mask : Nat) : State :=
  (s.each ((upTo 3).filter (fun n => bit mask n && s.fan n == fLocked)) (fun t n =>
    let u :=
      if n = 0 then
        (t.wrs [(Reg.FAN_STATE_STALL_CNT, 0), (Reg.FAN_STATE_LOCK_CAUSE, 0)]).each (upTo 3) (fun v k => v.wrAt Hid.fanOcAt k 0)
      else t.wrAt Reg.FANT_STATE_STALL_CNT (n - 1) 0
    if t.fanUsed n then u.fanStop n else u.fanOff n)).heaterRefresh

/-- FAN_STALL_CNT_RESET, R203: 300 s of continuous RUN. -/
def execFanStallCntReset (chan : Fin 3) (s : State) : Out :=
  let n := chan.val
  if s.fan n ≠ fRun then fin s
  else if n = 0 then fin (s.wr Reg.FAN_STATE_STALL_CNT 0)
  else fin (s.wrAt Reg.FANT_STATE_STALL_CNT (n - 1) 0)

/-- R205: the speed of an edge interval in µs: 30 s over the interval, a whole number or one of its two neighbours. -/
def State.tachSpeed (s : State) (us : Nat) : Nat × State :=
  if 30000000 % us = 0 then (30000000 / us, s) else (30000000 / us + (s.freeBelow 2).1, (s.freeBelow 2).2)

/-- FAN_TACH_EDGE, R205, R208, R451: a falling edge `us` after the one before it on channel 1 + `chan`. In IZ-30 mode a plausible
edge clears FAN_FAIL and nothing else follows. -/
def execFanTachEdge (chan : Fin 2) (us : Nat) (s : State) : Out :=
  let k := chan.val
  let n := k + 1
  if s.fanActive n = false ∨ s.fan n = 0 then fin s
  else
    let plausible := decide (0 < us) && decide (100 * us ≤ 30000000) && decide (30000000 ≤ s.rdAt Reg.FANT_LIM_MAX_RPM k * us)
    if plausible = false then fin (s.wrAt Reg.FANT_STATE_PLAUS_RUN k 0)
    else
      let q := s.tachSpeed us
      let run := capN 5 (s.rdAt Reg.FANT_STATE_PLAUS_RUN k + 1)
      let t := (q.2.wrAt Reg.FANT_MEAS_SPEED k q.1).wrAt Reg.FANT_STATE_PLAUS_RUN k run
      if t.mode = mIz30 then fin (t.wrAt Hid.izV 2 (clearBits (t.rdAt Hid.izV 2) (2 ^ (2 + k))))
      else if t.onAt Reg.FANT_CTRL_TACH_EN k = false then fin t
      else if t.fan n = fCatch ∨ t.fan n = fAlign then fin (t.fanRunT n)
      else if t.fan n = fRetry ∧ run = 5 then fin ((t.fanRunT n).count 0x8B)
      else fin t

/-- FAN_TACH_SPEED_TIMEOUT, R205: no plausible edge for 600 ms. -/
def execFanTachSpeedTimeout (chan : Fin 2) (s : State) : Out := fin (s.wrAt Reg.FANT_MEAS_SPEED chan.val 0)

/-- FAN_SPEED_STEP, R207: the duty of a channel in RUN, every 100 ms. The correction is the exact PI sum, or that value's
floor or the next whole number where it is not whole (log entry 14). -/
def execFanSpeedStep (chan : Fin 2) (s : State) : Out :=
  let k := chan.val
  let n := k + 1
  if s.fan n ≠ fRun ∨ s.onAt Reg.FANT_CTRL_TACH_EN k = false ∨ s.fanActive n = false then fin s
  else
    let err : Int := (s.fanD n : Int) - s.rdAt Reg.FANT_MEAS_SPEED k
    let i0 := s.rdI Hid.fanInt k
    let i1 := i0 + err * s.rdAt Reg.FANT_PI_KI k
    let sum := fun (i : Int) => err * s.rdAt Reg.FANT_PI_KP k * 10 + i
    let base := s.fanTable n (s.fanD n)
    let limited := fun (x : Int) => decide (x < -16384 * 2560) || decide (16384 * 2560 < x) || decide (x + (base : Int) * 2560 < 0) ||
      decide (65535 * 2560 < x + (base : Int) * 2560)
    let i := if limited (sum i1) then i0 else i1
    let f := s.freeBelow 2
    let r : Int × State := if sum i % 2560 = 0 then (sum i / 2560, s) else (sum i / 2560 + f.1, f.2)
    let corr := clampI (-16384) 16384 r.1
    fin ((r.2.wrI Hid.fanInt k i).setDuty n (clampI 0 65535 (base + corr)).toNat)

/-- FAN_TSTART_TIMEOUT, R208: 2 s without an edge. -/
def execFanTstartTimeout (chan : Fin 2) (s : State) : Out :=
  let n := chan.val + 1
  if s.fan n ≠ fCatch ∨ s.onAt Reg.FANT_CTRL_TACH_EN chan.val = false then fin s else fin ((((s.setFan n fAlign).setDuty n 65535).fanFlag (11 + chan.val)).count 0x8C)

/-- FAN_KICK_END, R208: 2 s of full duty without an edge. -/
def execFanKickEnd (chan : Fin 2) (s : State) : Out :=
  let n := chan.val + 1
  if s.fan n ≠ fAlign ∨ s.onAt Reg.FANT_CTRL_TACH_EN chan.val = false then fin s else fin ((s.setDuty n 0).fanStall n)

/-- FAN_TACH_LOST, R209: the gap since the last edge is too long while the duty is above 20 %. -/
def execFanTachLost (chan : Fin 2) (s : State) : Out :=
  let k := chan.val
  let n := k + 1
  if s.fan n ≠ fRun ∨ s.onAt Reg.FANT_CTRL_TACH_EN k = false ∨ s.rdAt Reg.FANT_MEAS_DUTY k ≤ 13107 then fin s
  else fin ((((((s.setFan n fRetry).setDuty n (s.fanTable n (s.fanD n))).wrsAt k [(Reg.FANT_STATE_TACH_LOST, 1),
    (Reg.FANT_STATE_PLAUS_RUN, 0)]).fanFlag (9 + k)).count 0x8A).raise 5)

/-- R210, R102: the speed the table generator sends for a channel, and whether it is FAIL_RPM. A coach whose STATUS cannot be read is
SHUTTERED with cause ECC. A PV that cannot be read gives the speed of its stored bits (DESIGN CHOICE, log entry 72). -/
def State.autoSpeed (s : State) (n : Nat) : Nat × Bool :=
  let c := s.rdAt Reg.FANA_CFG_COACH n
  let st := s.cw c 44
  if s.coachPeriod c = 0 ∨ s.unreadable c 44 = true ∨ stRun st = false ∨ (stState st = 3 ∧ (stCause st = 1 ∨ stCause st = 3)) then
    (s.rdAt Reg.FANA_CFG_FAIL_RPM n, true)
  else
    let p := (upTo 8).map (fun k => (toI 16 (s.rdAt Reg.FANA_PT_TEMP (n * 8 + k)), (s.rdAt Reg.FANA_PT_RPM (n * 8 + k) : Int)))
    ((interp p (rndUp (s.cq c 47) 512)).toNat, false)

/-- FAN_AUTO_TABLE_STEP, R210: each second in AUTONOMOUS a channel on its table is commanded with SRC 1. -/
def execFanAutoTableStep (chan : Fin 3) (s : State) : Out :=
  let n := chan.val
  if s.mode ≠ mAuto ∨ bit (s.rd Reg.FAN_COMMON_SRC) n = false ∨ s.alive = false then fin s
  else
    let q := s.autoSpeed n
    let r := (s.coachGet (s.rdAt Reg.FANA_CFG_COACH n) 44).coachGet (s.rdAt Reg.FANA_CFG_COACH n) 47
    let t := (r.whenB q.2 (fun t => t.fanFlag 13)).count 0x8D
    fin { t with actQ := t.actQ ++ [{ kind := 3, index := n, value := q.1 + 65536, src := 160 }] }

/-- R210: on entry to AUTONOMOUS each channel with a table takes SRC 1. -/
def State.fanAutoEnter (s : State) : State := s.wr Reg.FAN_COMMON_SRC (bitMap 3 (fun n => s.onAt Reg.FANA_CFG_EN n))

/-- R211: on leaving AUTONOMOUS each channel takes SRC 0 and its coach's last command. -/
def State.fanAutoLeave (s : State) : State :=
  (s.wr Reg.FAN_COMMON_SRC 0).each (upTo 3) (fun t n => t.fanDemand n (t.rdAt Reg.FAN_CDEM_DEMAND n))

/-- R196, R214: what the drive measures while its gates are driven: the observed speed, and a q-axis current within the limit of R197
(free values: the motor is not in the model). -/
def State.fanMeasure (s : State) : State :=
  if s.fanGates then
    let v := s.freeBelow 65536
    let i := v.2.freeBelow (2 * s.fanLimit + 1)
    (i.2.wr Reg.FAN_MEAS_SPEED v.1).wrI Reg.FAN_MEAS_IQ 0 ((i.1 : Int) - s.fanLimit)
  else s

/-- R199 to R201: the field speed rises to HANDOVER_RPM over RAMP_MS, and the speed reference moves to D at ACCEL and DECEL; with a
demand of 0 it falls to MIN_RPM. -/
def State.fanRefStep (s : State) : State :=
  let ref := s.rd Hid.fanRef
  let ms := capN 65535 (s.rd Hid.fanRampMs + 1)
  if s.fan 0 = fAlign then s.wr Hid.fanRampMs ms
  else if s.fan 0 = fRamp then
    let full := s.rd Reg.FAN_RAMP_HANDOVER_RPM * 1000
    let r := s.rd Reg.FAN_RAMP_RAMP_MS
    (s.setRef (if r ≤ ms then full else full * ms / r)).wr Hid.fanRampMs ms
  else if s.fan 0 = fRun then
    let d := (if s.fanD 0 = 0 then s.rd Reg.FAN_SPD_LIM_MIN_RPM else s.fanD 0) * 1000
    if ref < d then s.setRef (if s.fanD 0 = 0 then ref else min d (ref + s.rd Reg.FAN_ACCEL_ACCEL))
    else s.setRef (max d (ref - s.rd Reg.FAN_ACCEL_DECEL))
  else s.setRef ref

/-- R201: the integrator of the speed loop takes 1 ms of the error; it rests while the limit of R197 acts. -/
def State.fanIntegrate (s : State) : State :=
  if s.fan 0 = fRun ∧ s.fanLimited = false then
    let err : Int := (s.rd Hid.fanRef / 1000 : Nat) - (s.rd Reg.FAN_MEAS_SPEED : Int)
    s.wrI Hid.fanSpdInt 0 (s.rdI Hid.fanSpdInt 0 + err * s.rd Reg.FAN_SPD_PI_KI)
  else s

/-- R193, R199 to R201: one ms of channel 0, and the demands as the registers show them. -/
def State.fanTick (s : State) : State :=
  let t := (s.fanRefStep.fanMeasure).fanIntegrate
  (t.wr Hid.fanIlim (b2n (t.fanGates && t.fanLimited))).each (upTo 3) State.showDemand

end Sys2Proof.Machine
end

