-- ==== Sys2Proof/Machine/Valves.lean ====
section
/-! DEFINITION. The valve channels (R217 to R232, R247, R476). -/

namespace Sys2Proof.Machine

/-- VLV_STATE codes. -/
def vDis : Nat := 0
/-- OFF. -/
def vOff : Nat := 1
/-- WAIT. -/
def vWait : Nat := 2
/-- PEAK. -/
def vPeak : Nat := 3
/-- HOLD. -/
def vHold : Nat := 4
/-- FAULT. -/
def vFault : Nat := 5
/-- BLOCKED. -/
def vBlocked : Nat := 6
/-- CUT. -/
def vCut : Nat := 7

/-- The state of channel `n`. -/
def State.vlv (s : State) (n : Nat) : Nat := s.rdAt Reg.VLV_STATE_STATE n

/-- Setting the state of channel `n`. In a state whose low side is off nothing flows and VLV_MEAS reads 0 (R219, R248). -/
def State.setVlv (s : State) (n v : Nat) : State :=
  (s.wrAt Reg.VLV_STATE_STATE n v).whenB (v != vPeak && v != vHold) (fun t =>
    t.wrsAt n [(Reg.VLV_MEAS_CURRENT, 0), (Reg.VLV_MEAS_DUTY, 0)])

/-- R247: the value channel `n` follows. -/
def State.vlvValue (s : State) (n : Nat) : Nat :=
  if s.onAt Reg.VLV_MAN_MAN_EN n then s.rdAt Reg.VLV_MAN_MAN_VALUE n else s.rdAt Reg.VLV_STATE_VALUE n

/-- R217: the partner of a channel. -/
def State.vlvPartner (s : State) (n : Nat) : Option Nat :=
  let p := if n % 2 = 0 then n + 1 else n - 1
  if s.onAt Reg.VLV_CFG_HS_USE n && s.onAt Reg.VLV_CFG_HS_USE p then some p else none

/-- R223: T_PEAK of a band, in 0.1 ms. -/
def State.tPeak (s : State) (n band : Nat) : Nat :=
  s.rdAt (if band = 0 then Reg.VLV_PEAK0_T_PEAK else if band = 1 then Reg.VLV_PEAK1_T_PEAK else Reg.VLV_PEAK2_T_PEAK) n

/-- R223: I_PEAK of a band, in mA. -/
def State.iPeak (s : State) (n band : Nat) : Nat :=
  s.rdAt (if band = 0 then Reg.VLV_PEAK0_I_PEAK else if band = 1 then Reg.VLV_PEAK1_I_PEAK else Reg.VLV_PEAK2_I_PEAK) n

/-- R227: the current HOLD regulates at, in mA: I_HOLD_MIN at throttle levels 1 to 3, but not in THERMAL mode. -/
def State.iHold (s : State) (n : Nat) : Nat :=
  s.rdAt (if s.rd Reg.THERM_STAT_LVL_VLV ≠ 0 ∧ s.rdAt Reg.VLV_CFG_MODE n ≠ 3 then Reg.VLV_HOLD_I_HOLD_MIN else Reg.VLV_HOLD_I_HOLD) n

/-- R218, R219, R227: the current at which channel `n` is regulated, or to which the on-time of THERMAL is limited, in mA: none
while its low side is off. -/
def State.vlvSet (s : State) (n : Nat) : Nat :=
  if s.vlv n = vPeak then s.iPeak n (s.rdAt Reg.VLV_STATE_BAND n) else if s.vlv n = vHold then s.iHold n else 0

/-- R218: the duty of a THERMAL channel, min(1, v × V_RATED / (65 535 × VM)), as a fraction of 65 535 (to nearest, ties up: log entry
68). -/
def State.thermDuty (s : State) (n : Nat) : Nat :=
  let x := s.vlvValue n * s.rdAt Reg.VLV_THERM_V_RATED n
  let vm := s.rd Hid.vlvVm
  if 65535 * vm ≤ x then 65535 else (rndUp x vm).toNat

/-- R226: the least and the most in mA of a current of channel `n` regulated at `i` mA: within 4 % and 10 mA of it, or 12 % and 20 mA
where its trim set has not passed. -/
def State.vlvBounds (s : State) (n i : Nat) : Nat × Nat :=
  if s.rdAt Reg.CAL_INFO_RESULT (n + 3) = 1 then ((i * 96 + 99) / 100 - 10, (i * 104) / 100 + 10)
  else ((i * 88 + 99) / 100 - 20, (i * 112) / 100 + 20)

/-- R218, R219, R226: the range in mA that the current of channel `n` lies in after a ms: the band round the setting in force where it
stood there; else between the current that stood and the far edge of the band, towards which it has moved (log entry 68). The on-time
of THERMAL is only limited at its setting. -/
def State.vlvReach (s : State) (n : Nat) : Nat × Nat :=
  let b := s.vlvBounds n (s.vlvSet n)
  let i := s.rdAt Reg.VLV_MEAS_CURRENT n
  if s.rdAt Reg.VLV_CFG_MODE n = 3 then (0, b.2)
  else if i < b.1 then (i + 1, b.2)
  else if b.2 < i then (b.1, i - 1)
  else b

/-- R219, R226, R248: VLV_MEAS of channel `n` while its low side is driven: a current in the range of R226, and an on-time fraction that
is R218's in THERMAL and free in a chopped phase. -/
def State.vlvMeasure (s : State) (n : Nat) : State :=
  if s.vlv n ≠ vPeak ∧ s.vlv n ≠ vHold then s
  else
    let r := s.vlvReach n
    let i := s.freeBelow (r.2 - r.1 + 1)
    let d := if s.rdAt Reg.VLV_CFG_MODE n = 3 then (s.thermDuty n, i.2) else i.2.freeBelow 65536
    d.2.wrsAt n [(Reg.VLV_MEAS_CURRENT, r.1 + i.1), (Reg.VLV_MEAS_DUTY, d.1)]

/-- R218: t_on of a PULSED channel in ms. -/
def State.tOn (s : State) (n : Nat) : Nat :=
  let pp := s.rdAt Reg.VLV_TIMING_PULSE_PERIOD n
  let t := (rndUp ((s.vlvValue n : Int) * pp) 65535).toNat
  let ih := s.rdAt Reg.VLV_HOLD_I_HOLD n
  if 800 < ih then min t (pp * 640000 / (ih * ih)) else t

/-- R218: the value in force asks for a start in the channel's mode. -/
def State.vlvWants (s : State) (n : Nat) : Bool :=
  let m := s.rdAt Reg.VLV_CFG_MODE n
  let v := s.vlvValue n
  if m = 0 then false else if m = 1 then decide (32768 ≤ v) else v != 0

/-- R246: the valve channels act: in the native modes, and V0, V2, V4 and V6 in IZ-30 mode. -/
def State.vlvActive (s : State) (n : Nat) : Bool := s.alive && (s.native || (s.mode == mIz30 && n % 2 == 0))

/-- R228, R335: the valves are under a CUT. -/
def State.vlvCutNow (s : State) : Bool := s.regionCut 2 || s.regionCut 3 || s.vmFault

/-- The state a channel that is not driven rests in. -/
def State.vlvRest (s : State) (n : Nat) : Nat := if s.rdAt Reg.VLV_CFG_MODE n = 0 then vDis else vOff

/-- R221: channel `n` enters PEAK, or HOLD when T_PEAK is 0; a pulse without an origin takes this moment. -/
def State.vlvEnter (s : State) (n st : Nat) : State :=
  let t := s.setVlv n st
  if t.rdAt Hid.vlvOrgKind n = 0 then t.wrsAt n [(Hid.vlvOrgKind, 1), (Hid.vlvOrg, t.tick)] else t

/-- R223: when a channel leaves PEAK, its waiting partner enters PEAK. -/
def State.vlvPeakEnd (s : State) (n : Nat) : State :=
  match s.vlvPartner n with
  | some q => if s.vlv q = vWait then s.vlvEnter q vPeak else s
  | none => s

/-- R229: a start request aborts the off-state tests of its channel or its switch. -/
def State.vlvAbortTest (s : State) (n : Nat) : State :=
  let h := n / 2
  let hs := s.onAt Hid.vlvHsTest h && s.onAt Reg.VLV_CFG_HS_USE n
  let under := (upTo 8).filter (fun k => s.onAt Hid.vlvTest k && (k == n || (hs && k / 2 == h && s.onAt Reg.VLV_CFG_HS_USE k)))
  if under.isEmpty then s
  else
    let t := s.each under (fun t k => t.wrsAt k [(Reg.VLV_DIAG_OFF_RES, 6), (Hid.vlvTest, 0)])
    (t.whenB hs (fun t => t.wrAt Hid.vlvHsTest h 0)).count 0x94

/-- R220, R222, R223: a start request to a channel in OFF, which latches its band. A THERMAL channel goes to HOLD, its on-time. -/
def State.vlvStart (s : State) (n : Nat) : State :=
  let b := s.rdAt Hid.vlvBandNow n
  let t := (s.vlvAbortTest n).wrsAt n [(Hid.vlvOrgKind, 0), (Reg.VLV_STATE_BAND, b)]
  if t.rdAt Reg.VLV_CFG_MODE n = 3 then t.setVlv n vHold
  else
    let u := t.count 0x90
    if u.tPeak n b = 0 then u.vlvEnter n vHold
    else
      match u.vlvPartner n with
      | some p => if u.vlv p = vPeak then (u.setVlv n vWait).count 0x92 else u.vlvEnter n vPeak
      | none => u.vlvEnter n vPeak

/-- R228, R232, R476: a channel in OFF acts on its recorded command; a PULSED one starts a new grid. -/
def State.vlvResume (s : State) (n : Nat) : State :=
  if s.vlv n = vOff ∧ s.vlvWants n = true ∧ s.vlvActive n = true ∧ s.onAt Hid.vlvOcWait n = false then
    (s.wrAt Hid.vlvGrid n (b2n (s.rdAt Reg.VLV_CFG_MODE n == 2))).vlvStart n
  else s

/-- R248, R319: the settings of a channel, 0x3401 to 0x3408, which a valve profile gives. -/
def vlvSettings : List Fld :=
  [Reg.VLV_CFG_MODE, Reg.VLV_CFG_HS_USE, Reg.VLV_CFG_DIAG_OFF, Reg.VLV_CFG_COIL_IN, Reg.VLV_CFG_COIL_EN, Reg.VLV_PEAK0_I_PEAK,
    Reg.VLV_PEAK0_T_PEAK, Reg.VLV_PEAK1_I_PEAK, Reg.VLV_PEAK1_T_PEAK, Reg.VLV_PEAK2_I_PEAK, Reg.VLV_PEAK2_T_PEAK, Reg.VLV_HOLD_I_HOLD,
    Reg.VLV_HOLD_I_HOLD_MIN, Reg.VLV_TIMING_PEAK_WAIT, Reg.VLV_TIMING_T_RISE, Reg.VLV_TIMING_PULSE_PERIOD, Reg.VLV_BAND_BAND_LO,
    Reg.VLV_BAND_BAND_HI, Reg.VLV_THERM_V_RATED]

/-- One word of channel `n`'s window. With COIL_EN 0 the band is NORMAL (R222). -/
def State.vlvStore (s : State) (w : Nat × Nat × Nat) : State :=
  let t := s.each (vlvSettings.filter (fun f => f.addr == w.2.1)) (fun t f => t.wrAt f w.1 (bits w.2.2 f.lo f.w))
  if t.onAt Reg.VLV_CFG_COIL_EN w.1 then t else t.wrAt Hid.vlvBandNow w.1 1

/-- R226, R319: channel `n` takes the profile that waits for it; the update ends with its last channel. -/
def State.vlvProfile (s : State) (n : Nat) : State :=
  let rest := s.rgn.writes.filter (fun w => w.1 != n)
  let t := ({ s with rgn := { s.rgn with writes := rest } } : State).each (s.rgn.writes.filter (fun w => w.1 == n)) State.vlvStore
  if rest.isEmpty then t.rgnDone
  else t.wrs [(Reg.RGN_CTRL_STATE, 4), (Reg.RGN_RES_LEFT, ((upTo 8).filter (fun k => rest.any (fun w => w.1 == k))).length)]

/-- R226, R476: a channel that is not running takes a waiting profile; where its MODE or HS_USE changes it acts on its recorded
command under them, but in FAULT, BLOCKED and CUT. -/
def State.vlvTake (s : State) (n : Nat) : State :=
  if s.rgn.writes.any (fun w => w.1 == n) = false then s
  else
    let t := s.vlvProfile n
    if 5 ≤ s.vlv n ∨ (t.rdAt Reg.VLV_CFG_MODE n = s.rdAt Reg.VLV_CFG_MODE n ∧ t.rdAt Reg.VLV_CFG_HS_USE n = s.rdAt Reg.VLV_CFG_HS_USE n) then t
    else ((t.wrAt Hid.vlvGrid n 0).setVlv n (t.vlvRest n)).vlvResume n

/-- A channel leaves WAIT, PEAK or HOLD for a state in which its low side is off. At an entry to OFF it takes a waiting profile. -/
def State.vlvDrop (s : State) (n st : Nat) : State :=
  let t := s.setVlv n st
  let u := if s.vlv n = vPeak then t.vlvPeakEnd n else t
  if st = vOff then u.vlvTake n else u

/-- A channel that leaves FAULT, BLOCKED, CUT or another mode: CUT while one holds, else rest and resume. -/
def State.vlvLeave (s : State) (n : Nat) : State :=
  let t := s.wrsAt n [(Hid.vlvGrid, 0), (Hid.vlvOcWait, 0)]
  if t.vlvCutNow then t.vlvDrop n vCut else (t.vlvDrop n (t.vlvRest n)).vlvResume n

/-- R221: a start request that reaches a running channel. In PULSED mode its grid time is the pulse's origin. -/
def State.vlvExtend (s : State) (n : Nat) (grid : Bool) : State :=
  let t := s.count 0x91
  if grid then t.wrsAt n [(Hid.vlvOrgKind, 2), (Hid.vlvOrg, t.tick)] else t

/-- R221: the hold end of a running PULSED channel is past. -/
def State.holdEndPast (s : State) (n : Nat) : Bool := s.rdAt Hid.vlvOrgKind n != 0 && decide (s.rdAt Hid.vlvOrg n + s.tOn n ≤ s.tick)

/-- R218, R220, R221: channel `n` acts on a changed value. -/
def State.vlvAct (s : State) (n : Nat) : State :=
  let st := s.vlv n
  let m := s.rdAt Reg.VLV_CFG_MODE n
  if m = 0 ∨ s.vlvActive n = false ∨ st = vDis ∨ 5 ≤ st then s
  else if s.vlvWants n = false then
    let t := s.wrAt Hid.vlvGrid n 0
    if st = vOff then t else t.vlvDrop n vOff
  else if st = vOff then (if m = 2 ∧ s.onAt Hid.vlvGrid n = true then s else s.vlvResume n)
  else if m = 2 then
    let t := s.countIf (s.rdAt Hid.vlvOrgKind n != 0) 0x91
    if st = vHold ∧ t.holdEndPast n = true then t.vlvDrop n vOff else t
  else s.vlvExtend n false

/-- R216, R247: channel `n` acts on the value it follows where that has changed. -/
def State.vlvFollow (s was : State) (n : Nat) : State := if was.vlvValue n = s.vlvValue n then s else s.vlvAct n

/-- VALVE_COMMAND, R216, R228, R232: a command to channel `n`. -/
def State.vlvCommand (s : State) (n v : Nat) : State :=
  if s.rdAt Reg.VLV_STATE_VALUE n = v % 65536 then s
  else
    (s.wrAt Reg.VLV_STATE_VALUE n v).vlvFollow s n

/-- R231, R232, R450: channel `n` latches a fault; in IZ-30 mode it shows in IZ_FAULT. -/
def State.vlvLatch (s : State) (n st cause : Nat) : State :=
  (((((s.wrsAt n [(Hid.vlvGrid, 0), (Hid.vlvOcWait, 0), (Reg.VLV_DIAG_CAUSE, cause)]).vlvDrop n st).count 0x95)).raise 6).whenB
    (s.mode == mIz30 && n % 2 == 0) (fun t => t.orAt Hid.izV 7 (2 ^ (n / 2)))

/-- The channels a high-side switch serves: those of its pair with HS_USE 1. -/
def State.hsServes (s : State) (h : Nat) : List Nat := [2 * h, 2 * h + 1].filter (fun n => s.onAt Reg.VLV_CFG_HS_USE n)

/-- R225: the switch conducts from the moment a channel of its leaves OFF until all are in OFF, FAULT or BLOCKED or disabled: it stays
on under a CUT of the low sides alone (R228). -/
def State.hsOn (s : State) (h : Nat) : Bool :=
  (s.hsServes h).any (fun n => (decide (2 ≤ s.vlv n) && decide (s.vlv n ≤ 4)) || (s.onAt Hid.vlvHsKeep h && s.vlv n == vCut))

/-- R230, R231: a short to ground of a switch: its channels are blocked. -/
def State.hsShort (s : State) (h cause : Nat) : State :=
  let t := (s.or Reg.VLV_FLAGS_SHORT_GND (2 ^ h)).or Reg.VLV_HS_BLOCKED (2 ^ h)
  t.each (s.hsServes h) (fun t n => if t.vlv n = vFault then t else t.vlvLatch n vBlocked cause)

/-- VALVE_PULSE_GRID, R218, R221: a grid time is a start request. -/
def execValvePulseGrid (chan : Fin 8) (s : State) : Out :=
  let n := chan.val
  if s.onAt Hid.vlvGrid n = false ∨ s.rdAt Reg.VLV_CFG_MODE n ≠ 2 ∨ s.vlvWants n = false ∨ s.vlvActive n = false then fin s
  else if s.vlv n = vOff then (if s.onAt Hid.vlvOcWait n then fin s else fin (s.vlvStart n))
  else if 2 ≤ s.vlv n ∧ s.vlv n ≤ 4 then fin (s.vlvExtend n true)
  else fin s

/-- VALVE_PEAK_END, R220: T_PEAK has elapsed. -/
def execValvePeakEnd (chan : Fin 8) (s : State) : Out :=
  let n := chan.val
  if s.vlv n ≠ vPeak then fin s
  else
    let past := s.rdAt Reg.VLV_CFG_MODE n == 2 &&
      (if s.rdAt Hid.vlvOrgKind n = 1 then decide (s.tOn n * 10 ≤ s.tPeak n (s.rdAt Reg.VLV_STATE_BAND n)) else s.holdEndPast n)
    if past then fin (s.vlvDrop n vOff) else fin ((s.setVlv n vHold).vlvPeakEnd n)

/-- VALVE_HOLD_END, R221: the hold end of a PULSED channel. -/
def execValveHoldEnd (chan : Fin 8) (s : State) : Out :=
  if s.vlv chan.val = vHold ∧ s.rdAt Reg.VLV_CFG_MODE chan.val = 2 then fin (s.vlvDrop chan.val vOff) else fin s

/-- R222: the band of channel `n` from its coil temperature. -/
def State.vlvBand (s : State) (n : Nat) : Nat :=
  let i := s.rdAt Reg.VLV_CFG_COIL_IN n
  if s.onAt Reg.VLV_CFG_COIL_EN n = false ∨ s.onAt Reg.UI_VALUE_VALID i = false then 1
  else if s.rdI Reg.UI_VALUE_VALUE i < s.rdI Reg.VLV_BAND_BAND_LO n then 0
  else if s.rdI Reg.VLV_BAND_BAND_HI n ≤ s.rdI Reg.UI_VALUE_VALUE i then 2
  else 1

/-- VALVE_COIL_BAND_READ, R222: the bands of all channels, every 100 ms. -/
def execValveCoilBandRead (s : State) : Out :=
  if s.alive && s.operating then fin (s.each (upTo 8) (fun t n => t.wrAt Hid.vlvBandNow n (t.vlvBand n))) else fin s

/-- R476: a write to VLV_CFG of channel `n` that changes MODE or HS_USE. -/
def State.vlvWriteCfg (s : State) (n v : Nat) : State :=
  let change := s.rdAt Reg.VLV_CFG_MODE n != bits v 0 2 || s.rdAt Reg.VLV_CFG_HS_USE n != bits v 2 1
  let st := s.vlv n
  let run := decide (2 ≤ st) && decide (st ≤ 4)
  let s1 := if change && run then s.vlvDrop n vOff else s
  let t := s1.vlvStore (n, 0x3401, v)
  if change && decide (st < 5) then t.vlvLeave n else t

/-- R229: the channels of a switch's pair that a test takes in, and whether the switch itself is tested. -/
def State.vlvTestable (s : State) (h : Nat) : List Nat × Bool :=
  let served := s.hsServes h
  let hs := served.all (fun n => s.vlv n == vOff || s.vlv n == vDis) && served.any (fun n => s.vlv n == vOff && s.onAt Reg.VLV_CFG_DIAG_OFF n)
  ([2 * h, 2 * h + 1].filter (fun n => s.vlv n == vOff && s.onAt Reg.VLV_CFG_DIAG_OFF n && (hs || !s.onAt Reg.VLV_CFG_HS_USE n)), hs)

/-- R229: the off-state test of a switch and of its low-side-only channels starts where it may. -/
def State.vlvTestStart (s : State) (h : Nat) : State :=
  if s.alive = false ∨ s.operating = false then s
  else
    let q := s.vlvTestable h
    (s.each q.1 (fun t n => t.wrAt Hid.vlvTest n 1)).whenB q.2 (fun t => t.wrAt Hid.vlvHsTest h 1)

/-- VALVE_OFF_TEST_START, R229. -/
def execValveOffTestStart (hs : Fin 4) (s : State) : Out := fin (s.vlvTestStart hs.val)

/-- R230: the result of one tested channel. `l1`: below 0.2 VM in step 1; `h2`, `l2`: above 0.8 VM, below 0.2 VM in step 2. -/
def offRes (hsUse short l1 h2 l2 : Bool) : Nat :=
  if hsUse then (if short then 3 else if l1 then 2 else if h2 then 4 else 1) else if l2 then 5 else 1

/-- VALVE_OFF_TEST_DONE, R230: the readings of the test's two steps, bit k for channel 2 hs + k. -/
def execValveOffTestDone (hs : Fin 4) (limit : Bool) (low1 high2 low2 : Fin 4) (s : State) : Out :=
  let h := hs.val
  let under := [2 * h, 2 * h + 1].filter (fun n => s.onAt Hid.vlvTest n)
  if under.isEmpty then fin s
  else
    let served := under.filter (fun n => s.onAt Reg.VLV_CFG_HS_USE n)
    let short := s.onAt Hid.vlvHsTest h && limit && served.all (fun n => bit low1.val (n % 2))
    let t := s.each under (fun t n =>
      let r := offRes (t.onAt Reg.VLV_CFG_HS_USE n) short (bit low1.val (n % 2)) (bit high2.val (n % 2)) (bit low2.val (n % 2))
      (((t.wrsAt n [(Reg.VLV_DIAG_OFF_RES, r), (Reg.VLV_DIAG_OFF_AGE, 0), (Hid.vlvTest, 0)]).whenB (r == 2)
        (fun t => t.or Reg.VLV_FLAGS_OPEN (2 ^ n)))).whenB (r == 4) (fun t => t.or Reg.VLV_FLAGS_SHORT_SUP (2 ^ n)))
    let u := (t.wrAt Hid.vlvHsTest h 0).count 0x93
    fin (u.whenB short (fun t => t.hsShort h 2))

/-- VALVE_OPEN_LOAD_CHECK, R231: the current at T_RISE, in mA. -/
def execValveOpenLoadCheck (chan : Fin 8) (current : Nat) (s : State) : Out :=
  let n := chan.val
  if s.vlv n ≠ vPeak ∧ s.vlv n ≠ vHold then fin s
  else if current < 20 then fin ((s.wrAt Reg.VLV_DIAG_ON_RES n 2).or Reg.VLV_FLAGS_OPEN (2 ^ n))
  else fin (s.wrAt Reg.VLV_DIAG_ON_RES n 1)

/-- VALVE_LOW_SIDE_OVERCURRENT, R231: short to supply. -/
def execValveLowSideOvercurrent (chan : Fin 8) (s : State) : Out :=
  let n := chan.val
  if s.vlv n ≠ vPeak ∧ s.vlv n ≠ vHold then fin s
  else fin (((s.wrAt Reg.VLV_DIAG_ON_RES n 4).or Reg.VLV_FLAGS_SHORT_SUP (2 ^ n)).vlvLatch n vFault 1)

/-- VALVE_HIGH_SIDE_OVERCURRENT, R231: above 3.5 A, with the sum of the low-side currents in mA. -/
def execValveHighSideOvercurrent (hs : Fin 4) (lowSum : Nat) (s : State) : Out :=
  let h := hs.val
  if (s.hsServes h).any (fun n => s.vlv n == vPeak || s.vlv n == vHold) = false then fin s
  else if lowSum < 40 then
    fin ((s.each ((s.hsServes h).filter (fun n => s.vlv n == vPeak || s.vlv n == vHold)) (fun t n =>
      t.wrAt Reg.VLV_DIAG_ON_RES n 3)).hsShort h 2)
  else
    let prev := s.rdAt Hid.vlvOcAt (2 * h + 1)
    let now := s.tick + 1
    let t := ((s.or Reg.VLV_FLAGS_HS_OC (2 ^ h)).count 0x96).wrAt Hid.vlvOcAt (2 * h + 1) (s.rdAt Hid.vlvOcAt (2 * h))
    let u := t.wrAt Hid.vlvOcAt (2 * h) now
    if prev ≠ 0 ∧ now - prev ≤ 10000 then fin (u.hsShort h 3)
    else
      fin (u.each (u.hsServes h) (fun t n =>
        if 2 ≤ t.vlv n ∧ t.vlv n ≤ 4 then ((t.wrsAt n [(Hid.vlvOcWait, 1), (Hid.vlvGrid, 0)]).setVlv n vOff).vlvTake n else t))

/-- VALVE_HS_OC_RESTART, R231: 10 ms after a high-side overcurrent. -/
def execValveHsOcRestart (chan : Fin 8) (s : State) : Out :=
  if s.onAt Hid.vlvOcWait chan.val then fin ((s.wrAt Hid.vlvOcWait chan.val 0).vlvResume chan.val) else fin s

/-- R232: CLEAR for the channels of a mask. -/
def State.vlvClear (s : State) (mask : Nat) : State :=
  s.each ((upTo 8).filter (fun n => bit mask n && s.vlv n == vFault)) (fun t n => (t.wrAt Reg.VLV_DIAG_CAUSE n 0).vlvLeave n)

/-- R232: HS_CLEAR for the switches of a mask that are BLOCKED, whose trips of R231 are then over. -/
def State.vlvHsClear (s : State) (mask : Nat) : State :=
  s.each ((upTo 4).filter (fun h => bit mask h && bit (s.rd Reg.VLV_HS_BLOCKED) h)) (fun t h =>
    let u := (t.wr Reg.VLV_HS_BLOCKED (clearBits (t.rd Reg.VLV_HS_BLOCKED) (2 ^ h))).wrsAt (2 * h) [(Hid.vlvOcAt, 0)]
    (u.wrAt Hid.vlvOcAt (2 * h + 1) 0).each [2 * h, 2 * h + 1] (fun t n =>
      if t.vlv n = vBlocked then (t.wrAt Reg.VLV_DIAG_CAUSE n 0).vlvLeave n else t))

/-- R228, R335: the valves enter CUT while one holds and are released from it. A waiting partner does not peak. A CUT of the low sides
alone leaves a switch that conducts on (R225). -/
def State.vlvCutRefresh (s : State) : State :=
  if s.vlvCutNow then
    (s.each (upTo 4) (fun t h =>
      t.wrsAt h [(Hid.vlvHsTest, 0), (Hid.vlvHsKeep, b2n (s.hsOn h && !(s.regionCut 2 || s.vmFault)))])).each (upTo 8) (fun t0 n =>
      let t := t0.wrAt Hid.vlvTest n 0
      if t.vlv n = vFault ∨ t.vlv n = vBlocked ∨ t.vlv n = vCut then t
      else (t.wrsAt n [(Hid.vlvGrid, 0), (Hid.vlvOcWait, 0)]).setVlv n vCut)
  else s.each ((upTo 8).filter (fun n => s.vlv n == vCut)) (fun t n => t.vlvLeave n)

/-- R229: OFF_AGE advances by 1 s. -/
def State.vlvSecond (s : State) : State :=
  s.each (upTo 8) (fun t n => t.wrAt Reg.VLV_DIAG_OFF_AGE n (capN 65535 (t.rdAt Reg.VLV_DIAG_OFF_AGE n + 1)))

end Sys2Proof.Machine
end

