-- ==== Sys2Proof/Machine/Thermal.lean ====
section
/-! DEFINITION. The die sensors, their cross-check, the thresholds, levels and CUTs (R252 to R267), and the actuator
command path (R104 to R106). -/

namespace Sys2Proof.Machine

/-- R259: a neighbour is usable: not failed, with a thermal sample no older than 50 ms. -/
def State.tsUsable (s : State) (j : Nat) : Bool :=
  !s.tsFailed j && s.rdAt Hid.tsAt j != 0 && decide (s.tick + 1 - s.rdAt Hid.tsAt j ≤ 50)

/-- The usable neighbours of a sensor. -/
def State.tsUsables (s : State) (i : Nat) : List Nat := (tsNeighbours i).filter s.tsUsable

/-- R268: P of a region, 10 mW per LSB. -/
def State.tsPower (s : State) (i : Nat) : Nat :=
  if i = 2 then s.rd Reg.THERM_PWR0_P2 else if i = 3 then s.rd Reg.THERM_PWR0_P3 else if i = 4 then s.rd Reg.THERM_PWR0_P4
  else if i = 5 then s.rd Reg.THERM_PWR0_P5 else if i = 6 then s.rd Reg.THERM_PWR1_P6 else 0

/-- R259: the expectation of a sensor with usable neighbours, as an exact fraction: numerator and (positive) denominator. -/
def State.tsExpect (s : State) (i : Nat) : Int × Nat :=
  let u := s.tsUsables i
  let sum := u.foldl (fun a j => a + s.rdI Hid.tsLast j) 0
  let n := u.length
  (sum * 100 + (s.rdI Reg.TS_OFS_OFS i * 100 + (s.rdAt Reg.TS_OFS_KGRAD i * s.tsPower i : Nat)) * n, 100 * n)

/-- A fraction as a whole number: its value, or where it is not whole one of its two neighbours (log entry 15). -/
def State.wholeOf (s : State) (a : Int) (b : Nat) : Int × State :=
  if a % b = 0 then (a / b, s) else (a / b + (s.freeBelow 2).1, (s.freeBelow 2).2)

/-- The threshold k of R255: WARN, L1, L2, L3, CUT, signed in 1/128 °C (R4). -/
def State.tsThr (s : State) (k : Nat) : Int :=
  s.rdI (if k = 0 then Reg.THERM_THR0_WARN else if k = 1 then Reg.THERM_THR0_L1 else if k = 2 then Reg.THERM_THR1_L2
    else if k = 3 then Reg.THERM_THR1_L3 else Reg.THERM_CUT_CUT) 0

/-- R256: the level of a sensor. -/
def State.tsLevel (s : State) (i : Nat) : Nat := popCount 3 (s.rdAt Reg.TS_STATE_ENTERED i / 2)

/-- R258: the level of a set of sensors; 3 when every sensor has failed (R263). -/
def State.setLevel (s : State) (l : List Nat) : Nat :=
  if s.on Reg.THERM_STAT_NONE_LEFT then 3 else l.foldl (fun m i => max m (s.tsLevel i)) 0

/-- R258: one block's level follows its sensors. -/
def State.levelTo (s : State) (f : Fld) (new : Nat) : State :=
  let old := s.rd f
  let t := s.wr f new
  if old < new then (((t.wr Reg.THERM_FLAGS_LEVEL_UP 1).count 0x74)).raise 4
  else if new < old then t.count 0x75
  else t

/-- R252, R258, R335: the stages enter and leave CUT. -/
def State.cutRefresh (s : State) : State := (((s.vlvCutRefresh).dmpCutRefresh).fanCutRefresh).boRefresh

/-- R258: the block levels and the CUTs follow the thresholds. -/
def State.thermRefresh (s : State) : State :=
  let t := s.levelTo Reg.THERM_STAT_LVL_VLV (s.setLevel [2, 3, 0, 1, 7])
  let u := t.levelTo Reg.THERM_STAT_LVL_DMP (t.setLevel [4, 5, 0, 1, 7])
  (u.levelTo Reg.THERM_STAT_LVL_FAN (u.setLevel [6, 0, 1, 7])).cutRefresh

/-- R256, R258: threshold k of sensor i is entered. -/
def State.tsEnter (s : State) (i k : Nat) : State :=
  let t := s.orAt Reg.TS_STATE_ENTERED i (2 ^ k)
  if k = 0 then (((t.wr Reg.THERM_FLAGS_WARN 1).count 0x73)).raise 4
  else if k = 4 then (((t.wr Reg.THERM_FLAGS_CUT 1).count 0x76)).raise 4
  else t

/-- R256, R258: threshold k of sensor i is left. -/
def State.tsLeave (s : State) (i k : Nat) : State :=
  let t := s.clrAt Reg.TS_STATE_ENTERED i (2 ^ k)
  if k = 4 then (t.count 0x77).raise 4 else t

/-- R256: one threshold takes a sample. -/
def State.tsStep (s : State) (i : Nat) (x : Int) (k : Nat) : State :=
  let up := if s.tsThr k ≤ x then capN 3 (s.rdAt Hid.tsUp (5 * i + k) + 1) else 0
  let dn := if x < s.tsThr k - 512 then capN 3 (s.rdAt Hid.tsDn (5 * i + k) + 1) else 0
  let t := (s.wrAt Hid.tsUp (5 * i + k) up).wrAt Hid.tsDn (5 * i + k) dn
  let inside := bit (s.rdAt Reg.TS_STATE_ENTERED i) k
  if !inside && decide (3 ≤ up) then t.tsEnter i k
  else if inside && decide (3 ≤ dn) && !s.on Reg.THERM_STAT_HOLD then t.tsLeave i k
  else t

/-- R256, `th_feed`. -/
def State.tsFeed (s : State) (i : Nat) (x : Int) (subst : Bool) : State :=
  let t := (s.each (upTo 5) (fun t k => t.tsStep i x k)).wrsAt i [(Reg.TS_VALUE_T, ofI 16 x), (Reg.TS_VALUE_SUBST, b2n subst)]
  (if t.rdI Reg.TS_MAX_TMAX i < x then t.wrI Reg.TS_MAX_TMAX i x else t).thermRefresh

/-- R260: the held samples of a sensor. -/
def State.tsHeldList (s : State) (i : Nat) : List Int := (upTo (s.rdAt Hid.tsHeldN i)).map (fun k => s.rdI Hid.tsHeld (3 * i + k))

/-- Setting the held samples of a sensor. -/
def State.setHeld (s : State) (i : Nat) (l : List Int) : State :=
  (s.each (upTo 3) (fun t k => t.wrI Hid.tsHeld (3 * i + k) (l.getD k 0))).wrAt Hid.tsHeldN i l.length

/-- R260, R262, `exclude`: the sensor fails, and the 2 s hold starts. -/
def State.tsExclude (s : State) (i cause : Nat) : State :=
  let t := s.wrsAt i [(Reg.TS_STATE_FAILED, 1), (Reg.TS_STATE_CAUSE, cause), (Reg.TS_STATE_FAST, 0)]
  let u := ((t.setHeld i []).wrs [(Reg.THERM_STAT_HOLD, 1), (Reg.THERM_FLAGS_EXCLUDE, 1)]).count 0x79
  let v := u.each (tsNeighbours i) (fun t j => (t.setHeld j []).wrsAt j [(Reg.TS_STATE_XCNT, 0),
    (Reg.TS_STATE_FAST, if t.tsFailed j then 0 else 1)])
  ((v.wr Reg.THERM_STAT_NONE_LEFT (b2n ((upTo 8).all v.tsFailed))).raise 4).thermRefresh

/-- R254: the rate of a sensor after a sample. -/
def State.tsRate (s : State) (i : Nat) (x : Int) (disagrees : Bool) : State :=
  let near := (upTo 5).any (fun k => decide ((x - s.tsThr k).natAbs ≤ 768))
  let held := (tsNeighbours i).any s.tsFailed
  if near || disagrees then s.wrsAt i [(Reg.TS_STATE_FAST, 1), (Hid.tsCalm, 0)]
  else
    let c := capN 16 (s.rdAt Hid.tsCalm i + 1)
    s.wrsAt i [(Hid.tsCalm, c), (Reg.TS_STATE_FAST, if held then 1 else if c = 16 then 0 else s.rdAt Reg.TS_STATE_FAST i)]

/-- R259, R260, `th_sample`: a thermal sample of a sensor. -/
def State.tsSample (s0 : State) (i : Nat) (x : Int) : State :=
  if s0.tsFailed i then s0
  else
    let s := (s0.wrsAt i [(Hid.tsLast, ofI 16 x), (Hid.tsAt, s0.tick + 1), (Reg.TS_VALUE_VALID, 1)]).count 0x70
    if (s.tsUsables i).isEmpty then
      let t := (((s.tsHeldList i).foldl (fun t h => t.tsFeed i h false) (s.wrAt Reg.TS_STATE_NOCHECK i 1)).setHeld i [])
      ((t.wrAt Reg.TS_STATE_XCNT i 0).tsFeed i x false).tsRate i x false
    else
      let e := s.tsExpect i
      let w := s.wholeOf e.1 e.2
      let dev := x - w.1
      let t := w.2.wrsAt i [(Reg.TS_STATE_NOCHECK, 0), (Reg.TS_XCHK_EXPECT, ofI 16 w.1), (Reg.TS_XCHK_DEV, ofI 16 (clampI (-32768) 32767 dev))]
      if 1280 * (e.2 : Int) < ((x * e.2 - e.1).natAbs : Int) then
        let held := ((t.tsHeldList i) ++ [x]).reverse.take 3 |>.reverse
        let n := capN 3 (t.rdAt Reg.TS_STATE_XCNT i + 1)
        let u := (((t.setHeld i held).wrAt Reg.TS_STATE_XCNT i n).count 0x78).tsRate i x true
        if 3 ≤ n ∧ (u.tsUsables i).all (fun j => decide ((u.rdI Reg.TS_XCHK_DEV j).natAbs ≤ dev.natAbs)) = true then u.tsExclude i 1 else u
      else
        let u := ((t.tsHeldList i).foldl (fun t h => t.tsFeed i h false) t).setHeld i []
        ((u.wrAt Reg.TS_STATE_XCNT i 0).tsFeed i x false).tsRate i x false

/-- R254: while a sensor is excluded, every non-failed neighbour of it is at the fast rate. -/
def State.fastBesideFailed (s : State) : State :=
  s.each ((upTo 8).filter (fun i => !s.tsFailed i && (tsNeighbours i).any s.tsFailed)) (fun t i => t.wrAt Reg.TS_STATE_FAST i 1)

/-- R253: the temperature of an urgent result of a sensor. -/
def State.tsUrgTemp (s : State) (i : Nat) : Int := tsTemp (s.otp.lines.getD i {}) (s.rdI Hid.tsUrgCode i)

/-- R267: the thermal block runs: not in BACKUP, nor before step 10 of BOOT. -/
def State.thermOn (s : State) : Bool := s.alive && s.mode != mBoot

/-- THERMAL_SAMPLE, R254, R260: the sensor's urgent result at the fast rate, its stored result at the slow rate. -/
def execThermalSample (sensor : Fin 8) (s : State) : Out :=
  let i := sensor.val
  if s.thermOn = false then fin s
  else if s.onAt Reg.TS_STATE_FAST i then
    if s.onAt Hid.tsUrgNew i ∧ s.onAt Hid.tsReadmit i = false then fin ((s.wrAt Hid.tsUrgNew i 0).tsSample i (s.tsUrgTemp i)) else fin s
  else if s.onAt Hid.tsNew i then fin ((s.wrAt Hid.tsNew i 0).tsSample i (s.rdI Hid.tsGot i))
  else fin s

/-- THERMAL_FAST_STEP, R254, R263: every 500 µs the fast-rate requests are issued and the substitutes fed. -/
def execThermalFastStep (s : State) : Out :=
  if s.thermOn = false then fin s
  else
    let t := s.each ((upTo 8).filter (fun i => s.onAt Reg.TS_STATE_FAST i && !s.tsFailed i)) (fun t i =>
      (t.wrAt Hid.tsNew i 0).urgIssue .therm (54 + i) none)
    fin (t.each ((upTo 8).filter t.tsFailed) (fun t i =>
      match t.tsSubst i with
      | some x => t.tsFeed i x true
      | none => t))

/-- THERMAL_NODATA, R262: no sample for 50 ms. -/
def execThermalNodata (sensor : Fin 8) (s : State) : Out :=
  if s.thermOn = false ∨ s.tsFailed sensor.val = true then fin s else fin (s.tsExclude sensor.val 3)

/-- THERMAL_HOLD_END, R264: thresholds whose down run stands at 3 are left at once. -/
def execThermalHoldEnd (s : State) : Out :=
  if s.on Reg.THERM_STAT_HOLD = false then fin s
  else
    let t := s.wr Reg.THERM_STAT_HOLD 0
    fin ((t.each (upTo 40) (fun t j =>
      if bit (t.rdAt Reg.TS_STATE_ENTERED (j / 5)) (j % 5) && t.rdAt Hid.tsDn j == 3 then (t.tsLeave (j / 5) (j % 5)).count 0x7C
      else t)).thermRefresh)

/-- R259, R266: the on-die power of the regions of TS2 to TS6 in units of 10 mW, from the measured currents in mA (V0 to V7, D0 to D3
rms, BO0 to BO5) and the on-resistances of OTP: `n` units of mA² × mΩ. -/
def tenMilliwatts (n : Nat) : Nat := capN 255 (rndUp (n : Int) 10000000).toNat

/-- R259: P of the sensors 2 to 6. -/
def State.regionPower (s : State) (currents : List Nat) (i : Nat) : Nat :=
  let amp := fun (k : Nat) => currents.getD k 0
  let ron := fun (k : Nat) => s.otp.ron.getD k 0
  let sum := fun (l : List Nat) (p : Nat → Nat) => (l.map p).foldl (· + ·) 0
  tenMilliwatts
    (if i = 2 then sum (upTo 4) (fun h => (sum (s.hsServes h) amp) ^ 2 * ron 1)
     else if i = 3 then sum (upTo 8) (fun n => amp n ^ 2 * ron 0)
     else if i = 4 then sum [8, 9] (fun k => 2 * amp k ^ 2 * ron 2)
     else if i = 5 then sum [10, 11] (fun k => 2 * amp k ^ 2 * ron 2)
     else sum [12, 13, 14, 15, 16, 17] (fun k => amp k ^ 2 * ron 3))

/-- THERMAL_POWER_ESTIMATE, R259: the power of the regions of TS2 to TS6, from the currents the stages measure. -/
def execThermalPowerEstimate (currents : List Nat) (s : State) : Out :=
  if s.thermOn = false then fin s
  else
    let p := s.regionPower currents
    fin (s.wrs [(Reg.THERM_PWR0_P2, p 2), (Reg.THERM_PWR0_P3, p 3), (Reg.THERM_PWR0_P4, p 4), (Reg.THERM_PWR0_P5, p 5), (Reg.THERM_PWR1_P6, p 6)])

/-- R265: READMIT for the sensors of a mask: refused for another cause or without an expectation, else one fresh privileged
conversion. -/
def State.thermReadmit (s : State) (mask : Nat) : State :=
  s.each ((upTo 8).filter (bit mask)) (fun t i =>
    let c := t.rdAt Reg.TS_STATE_CAUSE i
    if t.tsFailed i = false ∨ (c ≠ 1 ∧ c ≠ 3) then t.wr Reg.THERM_CMD_STAT_RESULT 2
    else if (t.tsUsables i).isEmpty then t.wr Reg.THERM_CMD_STAT_RESULT 3
    else ((t.wrAt Hid.tsReadmit i 1).wrAt Hid.tsUrgNew i 0).urgIssue .therm (54 + i) none)

/-- THERM_READMIT_RESULT, R265: the readmit conversion has ended (a code waits) or was dropped (none waits). -/
def execThermReadmitResult (sensor : Fin 8) (s : State) : Out :=
  let i := sensor.val
  if s.onAt Hid.tsReadmit i = false then fin s
  else
    let t := (s.wrAt Hid.tsReadmit i 0).wrAt Hid.tsUrgNew i 0
    let e := s.tsExpect i
    if s.onAt Hid.tsUrgNew i = false ∨ (s.tsUsables i).isEmpty = true ∨
        640 * (e.2 : Int) < ((s.tsUrgTemp i * e.2 - e.1).natAbs : Int) then
      fin (t.wr Reg.THERM_CMD_STAT_RESULT 3)
    else
      let u := (t.wrsAt i [(Reg.TS_STATE_FAILED, 0), (Reg.TS_STATE_CAUSE, 0), (Reg.TS_STATE_XCNT, 0), (Hid.tsCalm, 0)]).setHeld i []
      let v := u.each (upTo 5) (fun t k => (t.wrAt Hid.tsUp (5 * i + k) 0).wrAt Hid.tsDn (5 * i + k) 0)
      fin (((v.wrs [(Reg.THERM_CMD_STAT_RESULT, 1), (Reg.THERM_STAT_NONE_LEFT, 0)]).count 0x7B).fastBesideFailed.thermRefresh)

/-- R261: `learn_offsets`: passes over the eight sensors' averages, given as sums of `n` temperatures, until no offset is above
5 °C. An exclusion starts the hold of R264. -/
def State.learnOffsets (sums : List Int) (n : Nat) : Nat → State → State
  | 0, s => s
  | fuel + 1, s =>
    let a := fun i => sums.getD i 0
    let t := s.each ((upTo 8).filter (fun i => !s.tsFailed i)) (fun t i =>
      let b := (tsNeighbours i).filter (fun j => !s.tsFailed j)
      if b.isEmpty then t.wrI Reg.TS_OFS_OFS i 0
      else
        let w := t.wholeOf (a i * b.length - b.foldl (fun m j => m + a j) 0) (n * b.length)
        w.2.wrI Reg.TS_OFS_OFS i w.1)
    let live := (upTo 8).filter (fun i => !t.tsFailed i)
    let worst := live.foldl (fun k i => if (t.rdI Reg.TS_OFS_OFS k).natAbs < (t.rdI Reg.TS_OFS_OFS i).natAbs then i else k) (live.headD 0)
    if live.isEmpty ∨ (t.rdI Reg.TS_OFS_OFS worst).natAbs ≤ 640 then t
    else
      State.learnOffsets sums n fuel (((t.wrsAt worst [(Reg.TS_STATE_FAILED, 1), (Reg.TS_STATE_CAUSE, 2), (Reg.TS_OFS_OFS, 0)]).wrs
        [(Reg.THERM_FLAGS_BOOT_EXCL, 1), (Reg.THERM_STAT_HOLD, 1)]).count 0x7A |>.raise 4)

/-- R261: the sum of the temperatures of 16 urgent conversions of sensor `i`, from their raw codes. -/
def State.bootTemps (s : State) (i : Nat) (codes : List Int) : Int :=
  (upTo 16).foldl (fun m k => m + tsTemp (s.otp.lines.getD i {}) (sat16 (s.correct (54 + i) (sat16 (codes.getD k 0))))) 0

/-- R104: the seven bytes of a command with sequence number `seq`. -/
def actFrame (kind seq index value : Nat) : List Nat :=
  let b := [kind * 32 + seq % 32, index] ++ beBytes 4 value
  b ++ [crc8 b]

/-- R106: the number of a target among the 21 of SUPV_CMD_PATH, where KIND and INDEX name one. -/
def targetOk (kind index : Nat) : Bool :=
  (kind == 1 && decide (index < 8)) || (kind == 2 && decide (index < 4)) || (kind == 3 && decide (index < 3)) ||
    (kind == 4 && decide (index < 6))

/-- R192, R216: an accepted command acts at its block. -/
def State.actuate (s : State) (kind index value : Nat) : State :=
  if kind = 1 then s.vlvCommand index (value % 65536)
  else if kind = 2 then s.dmpCommand index (value % 65536)
  else if kind = 3 then s.fanCommand index value
  else s.boCommand index value

/-- ACTUATOR_COMMAND, R106: the first waiting command crosses the bus with `flips` of its 56 bits inverted; the receiving
block accepts it when its CRC is right and SEQ is the next, and the sender then advances SEQ. -/
def execActuatorCommand (flips : Nat) (s : State) : Out :=
  match s.actQ with
  | [] => fin s
  | a :: rest =>
    if a.nacked = true ∨ s.alive = false then fin s
    else
      let tgt := targetBit a.kind a.index
      let b := beBytes 7 (Nat.xor (ofBeBytes (actFrame a.kind (s.rdAt Hid.sndSeq tgt) a.index a.value)) (flips % 2 ^ 56))
      let kind := b.headD 0 / 32
      let seq := b.headD 0 % 32
      let index := b.getD 1 0
      let rx := targetBit kind index
      if crc8 b = 0 ∧ targetOk kind index = true ∧ seq = (s.rdAt Hid.rcvSeq rx + 1) % 32 then
        let t := ({ s with actQ := rest } : State).wrAt Hid.rcvSeq rx seq
        fin ((t.wrAt Hid.sndSeq tgt (s.rdAt Hid.sndSeq tgt + 1)).actuate kind index (ofBeBytes ((b.drop 2).take 4)))
      else fin { s with actQ := { a with nacked := true } :: rest }

/-- ACTUATOR_COMMAND_NACK, R106: the sender sends once again; a second NACK marks the target and gives the command up. -/
def execActuatorCommandNack (s : State) : Out :=
  match s.actQ with
  | [] => fin s
  | a :: rest =>
    if a.nacked = false then fin s
    else
      let t := s.count 0x35
      if a.again = false then fin { t with actQ := { a with nacked := false, again := true } :: rest }
      else
        let u : State := { t with actQ := rest }
        fin ((((u.or Reg.SUPV_CMD_PATH_MAP (2 ^ targetBit a.kind a.index)).wr Reg.SUPV_STAT_CMD_PATH 1).count 0x36).raise 1)

end Sys2Proof.Machine
end

