-- ==== Sys2Proof/Machine/Views.lean ====
section
/-! DEFINITION. What a read of a register returns (R5, R8): the stored fields, the fields that only show other state, and
FAULT_N with its causes in every chapter. -/

namespace Sys2Proof.Machine

/-- FAULT_N is asserted (R22, R24, R108, R182, R258, R265, R349). Unpowered, in BACKUP, the part does not drive it. -/
def State.faultN (s : State) : Bool :=
  s.mode != mBackup && (s.alive == false || s.mode == mBoot || s.mode == mSafe || s.on Reg.PWR_STAT_VDDA_UV ||
    s.on Reg.PWR_STAT_VM_OV || s.on Reg.CLK_STAT_FALLBACK || !s.on Reg.CLK_STAT_AUDIT_OK || s.on Reg.SUPV_LANE_DEGRADED ||
    s.on Reg.SUPV_LANE_STOPPED || s.on Reg.SUPV_STAT_NO_MAJ || s.on Reg.CAL_STAT_UNSERVED || (upTo 8).any s.tsCut ||
    decide (2 ≤ ((upTo 8).filter s.tsFailed).length))

/-- R343: PWR_COND. -/
def State.pwrCond (s : State) : Nat :=
  b2n (s.on Reg.SUPV_LANE_DEGRADED) + 2 * b2n (s.on Reg.SUPV_LANE_STOPPED) + 4 * b2n (s.on Reg.CLK_STAT_FALLBACK) +
    8 * b2n ((upTo 2).any s.replaced) + 16 * b2n (s.on Reg.CAL_STAT_UNSERVED) + 32 * b2n ((upTo 8).any s.tsFailed) +
    128 * b2n s.faultN

/-- R401: BUSY of the hatch. -/
def State.hatchBusy (s : State) : Bool := s.hatch.op != 0

/-- R409: the 64-bit unique device number. -/
def Otp.uid (o : Otp) : Nat :=
  o.part * 2 ^ 48 + o.lot * 2 ^ 24 + bits o.pos 0 5 * 2 ^ 19 + bits o.pos 8 8 * 2 ^ 11 + bits o.pos 16 8 * 2 ^ 3

/-- A 32-coach map of the coaches for which `p` holds (COACH_SHUT, COACH_CLOSED, SUPV_PLAUS, SUPV_BKUP). The maps follow the words as last
written: an error in the stored bits changes none of them (DESIGN CHOICE, log entry 29). -/
def coachMap (k : Nat) (p : Nat → Bool) : Nat := bitMap 32 (fun n => p (32 * k + n))

/-- SUPV_PLAUS: whether a coach is in the plausibility condition (R79). -/
def State.inPlaus (s : State) (c : Nat) : Bool :=
  plausCond (toI 32 (s.cell c 30)) (bits (s.cell c 31) 0 8) (bits (s.cell c 42) 0 8)

/-- R155, R166: who converts an input: 0 A, 1 B, 2 none. -/
def State.uiOwner (s : State) (i : Nat) : Nat :=
  let m := s.uiMode i
  if m = 0 ∨ (7 ≤ m ∧ m ≤ 10) ∨ 63 ≤ i ∨ (44 ≤ i ∧ i ≤ 47) then 2 else s.ownerOf i

/-- R289: the log records under two hours old. -/
def State.logUsed (s : State) : Nat := (s.schedLog.filter (fun r => decide (s.tick < r.tick + 7200000))).length

/-- The mask that C scans (R163): that of the converter it relieves. -/
def State.maskOfC (s : State) (hi : Bool) : Nat :=
  match s.relief.target with
  | some c => s.rdAt (if hi then Reg.CONV_SCAN_HI_MASK else Reg.CONV_SCAN_LO_MASK) c
  | none => 0

/-- The fields below 0x3000 that show other state. -/
def State.derivedLow (s : State) (a : Nat) : Nat :=
  if a = 0x0000 then s.otp.part
  else if a = 0x0001 then s.otp.die
  else if a = 0x0002 then s.otp.lot
  else if a = 0x0003 then s.otp.pos
  else if a = 0x0004 then s.otp.uid / 2 ^ 32
  else if a = 0x0005 then s.otp.uid % 2 ^ 32
  else if a = 0x0039 then b2n s.otp.hashSet + 2 * b2n s.otp.signed + 4 * b2n s.otp.keySet
  else if 0x0100 ≤ a ∧ a ≤ 0x01FF then
    (let k := s.rd Reg.RGN_OFS_OFS + (a - 0x0100); if k < 8192 then s.rdAt Hid.stage k else 0)
  else if a = 0x0411 then s.pwrCond
  else if a = 0x0806 then bitMap 16 (fun r => s.arb.pend.any (fun q => q.id == r && q.parked))
  else if a = 0x0809 then s.rdAt Hid.wmax (s.rd Reg.ARB_WSEL_SEL)
  else if a = 0x1003 then capN 255 s.due.length * 256
  else if a = 0x1004 then s.tick % 2 ^ 32
  else if 0x1010 ≤ a ∧ a ≤ 0x1014 then coachMap (a - 0x1010) (fun c => decide (c < 160) && stState (s.cell c 44) == 3)
  else if 0x1018 ≤ a ∧ a ≤ 0x101C then coachMap (a - 0x1018) (fun c => decide (c < 160) && stState (s.cell c 44) == 1)
  else if 0x1810 ≤ a ∧ a ≤ 0x1814 then coachMap (a - 0x1810) (fun c => decide (c < 160) && s.inPlaus c)
  else if 0x1818 ≤ a ∧ a ≤ 0x181C then coachMap (a - 0x1818) (fun c => decide (c < 160) && stBackup (s.cell c 44))
  else if a = 0x2000 then s.convState 0 + 16 * s.convState 1 + 256 * s.convState 2
  else if a = 0x2013 ∨ a = 0x2023 ∨ a = 0x2033 then
    let c := (a - 0x2013) / 16
    s.walkNext c + 256 * b2n (s.nextDue c).isSome
  else if a = 0x2031 then s.maskOfC false
  else if a = 0x2032 then s.maskOfC true
  else if a = 0x2401 then (if 40 ≤ s.rd Reg.UI_SEL_SEL then 15 else 0)
  else if a = 0x240B then 16 * s.uiOwner (s.rd Reg.UI_SEL_SEL)
  else if a = 0x2410 then bitMap 32 (fun i => s.onAt Reg.UI_VALUE_VALID i)
  else if a = 0x2411 then bitMap 32 (fun i => s.onAt Reg.UI_VALUE_VALID (32 + i))
  else if a = 0x2801 then s.calState 0 + 16 * s.calState 1 + 256 * s.calState 2
  else if a = 0x2808 then (s.tick - s.rdAt Hid.calTick (s.rd Reg.CAL_SEL_SEL)) / 1000 % 2 ^ 32
  else if a = 0x2C01 then
    bitMap 8 (fun i => bit (s.rdAt Reg.TS_STATE_ENTERED i) 0) + 256 * bitMap 8 s.tsCut + 65536 * bitMap 8 s.tsFailed +
      16777216 * bitMap 8 (fun i => s.onAt Reg.TS_STATE_FAST i)
  else if a = 0x2C15 then
    let l := s.otp.lines.getD (s.rd Reg.TS_SEL_SEL) {}
    ofI 16 l.t25 + 65536 * (l.slope % 65536)
  else if a = 0x2C16 then ofI 16 (s.otp.lines.getD (s.rd Reg.TS_SEL_SEL) {}).c25
  else 0

/-- The fields from 0x3000 up that show other state. -/
def State.derivedHigh (s : State) (a : Nat) : Nat :=
  if a = 0x3001 then s.fanOcCnt * 65536
  else if a = 0x3411 then bitMap 4 s.hsOn
  else if a = 0x3811 then
    s.dmpLimit * 65536 + s.dmp.movingMap * 1048576 + s.dmp.queuedMap * 16777216
  else if a = 0x3A08 then
    bitMap 6 (fun n => s.onAt Reg.BO_STATE_OUT n) + 256 * bitMap 6 (fun n => s.onAt Reg.BO_STATE_CMD n)
  else if a = 0x3C06 then 32 * s.rd Hid.oscStopped
  else if a = 0x3E01 then s.logUsed * 256
  else if a = 0x4005 then s.otp.mac / 2 ^ 32
  else if a = 0x4006 then s.otp.mac % 2 ^ 32
  else if 0x4010 ≤ a ∧ a ≤ 0x401F then (if s.otp.keySet then s.otp.pub.getD (a - 0x4010) 0 else 0)
  else if a = 0x4808 then s.intCause
  else if a = 0x4814 then b2n s.hatchBusy
  else if a = 0x4C01 then
    let c := s.evcs.getD (s.rd Reg.EVC_SEL_SEL) {}
    c.src + 256 * c.mode + 4096 * c.presc
  else if a = 0x4C02 then (s.evcs.getD (s.rd Reg.EVC_SEL_SEL) {}).count
  else if a = 0x4C08 then s.evcStamp
  else if a = 0x4C09 then s.evcWrap
  else if 0x4C10 ≤ a ∧ a ≤ 0x4C1F then (s.evcs.getD (a - 0x4C10) {}).snap
  else 0

/-- R19: PANEL cycles in one µs. -/
def State.panelRate (s : State) : Nat := if s.on Reg.CLK_STAT_FALLBACK then 16 else 20

/-- R420: the nominal period in PANEL cycles; clearing frames have 60 Hz timing. -/
def State.panelPeriod (s : State) : Nat :=
  let hz := if s.rd Reg.DISP_STAT_STATE = 2 then 60 else max 1 (s.rd Hid.dispRefresh)
  (2 * 20000000 + hz) / (2 * hz)

/-- R421: BAL and the frame's duration after `us` more µs of the running frame. -/
def State.balance (s : State) (us : Nat) : State :=
  let b := s.rdI Reg.DISP_BAL_BAL 0
  (s.wrI Reg.DISP_BAL_BAL 0 (if s.on Reg.DISP_STAT_POL then b - us else b + us)).wr Hid.dispUs (s.rd Hid.dispUs + us)

/-- R421: the µs of hold after which the running frame's balance first lets it end. -/
def State.holdNeed (s : State) : Nat :=
  let b := s.rdI Reg.DISP_BAL_BAL 0
  let p : Int := ((s.panelPeriod + s.panelRate - 1) / s.panelRate : Nat)
  if s.on Reg.DISP_STAT_POL then b.toNat else (p - b).toNat

/-- R421: the µs of the running slot or hold that can have passed: at most a slot, at most what the balance of a hold still needs where no
page is drawn in it, and within one wheel tick of the ticks that have passed since it began. The least and the most. -/
def State.panelElapsed (s : State) : Nat × Nat :=
  let d := s.tick - s.rd Hid.dispTick
  let most :=
    if s.on Hid.dispHold = false then (if s.on Reg.CLK_STAT_FALLBACK then 125 else 100)
    else if s.on Hid.dispPage || s.on Hid.dispDrew then 1000 * (d + 1)
    else s.holdNeed
  (min (1000 * (d - 1)) most, min (1000 * (d + 1)) most)

/-- R421: the µs of the running slot or hold that have passed, which no command gives: a free value in their range (log entry 50). -/
def State.panelSpent (s : State) : Nat × State :=
  let e := s.panelElapsed
  let f := s.freeBelow (e.2 - e.1 + 1)
  (e.1 + f.1, f.2)

/-- R421: a slot or hold that is abandoned counts the µs that it has run. -/
def State.panelAbandon (s : State) : State := let p := s.panelSpent; p.2.balance p.1

/-- R421: BAL at a read while frames run: what it was when the running slot or hold began, and the µs since. -/
def State.balRead (s : State) : Int × State :=
  if s.rd Reg.DISP_STAT_STATE = 2 ∨ s.rd Reg.DISP_STAT_STATE = 3 then
    let p := s.panelSpent
    ((p.2.balance p.1).rdI Reg.DISP_BAL_BAL 0, p.2)
  else (s.rdI Reg.DISP_BAL_BAL 0, s)

/-- The stored fields of a register that a read returns; a WO field reads 0 (R5). -/
def State.storedWord (s : State) (a : Nat) : Nat :=
  (Reg.fieldsAt a).foldl (fun v f => if f.acc = .wo then v else v + s.rdAt f (f.chan a s) * 2 ^ f.lo) 0

/-- The value a read of a register returns, measurements apart. -/
def State.regWord (s : State) (a : Nat) : Nat :=
  if 0x6000 ≤ a then 0
  else if a = 0x2031 ∨ a = 0x2032 then s.derivedLow a
  else if 0x1040 ≤ a ∧ a < 0x1080 then s.cw (s.rd Reg.COACH_SEL_SEL) (a - 0x1040)
  else s.storedWord a + (if a < 0x3000 then s.derivedLow a else s.derivedHigh a)

/-- R275: the latched words of the RTC. -/
def State.rtcLatched (s : State) (a : Nat) : Option Nat × State :=
  if a = 0x3C01 ∧ s.on Hid.rtcLatDOn then (some (s.rd Hid.rtcLatD), s.wr Hid.rtcLatDOn 0)
  else if a = 0x3C02 ∧ s.on Hid.rtcLatSOn then (some (s.rd Hid.rtcLatS), s.wr Hid.rtcLatSOn 0)
  else (none, s)

/-- What a read of a register causes: WHEEL_LO (R44) and RTC_TIME (R275) latch, the sub-second counter has moved on, a counter
is brought up to the moment (R405), an unreadable coach word is recorded (R102), one with a single-bit error is corrected and recorded
(R26, R100). -/
def State.readEffect (s : State) (a : Nat) : State :=
  if a = 0x1004 then s.wr Reg.WHEEL_HI_TICK (s.tick / 2 ^ 32)
  else if a = 0x3C00 then
    let t := s.rtcRun
    t.wrs [(Hid.rtcLatD, s.dateWord), (Hid.rtcLatDOn, 1), (Hid.rtcLatS, t.rd Reg.RTC_SUBSEC_SUBSEC), (Hid.rtcLatSOn, 1)]
  else if a = 0x3C02 then s.rtcRun
  else if a = 0x3C06 then s.rtcShow
  else if a = 0x4C02 then s.evcShow (s.rd Reg.EVC_SEL_SEL)
  else if a = 0x4808 ∨ a = 0x4C09 then s.each (upTo 16) State.evcShow
  else if 0x1040 ≤ a ∧ a < 0x1080 ∧ s.unreadable (s.rd Reg.COACH_SEL_SEL) (a - 0x1040) = true then
    s.noteDue (s.rd Reg.COACH_SEL_SEL) (a - 0x1040) false
  else if 0x1040 ≤ a ∧ a < 0x1080 then s.ceFix (s.rd Reg.COACH_SEL_SEL) (a - 0x1040)
  else s

/-- R120: where the moving seat pointer stands at a read: a free value below SEAT_COUNT, 0 with no seats (log entry 65). -/
def State.pointerRead (s : State) : Nat × State :=
  if s.rd Reg.ARB_STATUS_SEAT_COUNT = 0 then (0, s) else s.freeBelow (s.rd Reg.ARB_STATUS_SEAT_COUNT)

/-- One word read by the host: its value, and the machine after it. -/
def State.readWord (s : State) (a : Nat) : Nat × State :=
  let t := s.readEffect a
  let l := t.rtcLatched a
  match l.1 with
  | some v => (v, l.2)
  | none =>
    if a = 0x0800 then (let p := t.pointerRead; (putBits (t.regWord a) 8 6 p.1, p.2))
    else if a = 0x500A then (let p := t.balRead; (putBits (t.regWord a) 0 24 (ofI 24 p.1), p.2))
    else (t.regWord a, t)

end Sys2Proof.Machine
end

