-- ==== Sys2Proof/Machine/Checks.lean ====
section
/-! DEFINITION. The ranges of every configuration register (R33, R40, R86, R110, R130, R141, R147, R153, R163, R164, R214, R224,
R248 to R250, R255, R268, R280, R288, R298, R317, R385, R402, R430): whether a state satisfies the rules about one register of
one channel. A frame is judged on the state it would leave (R392), an image on the state it has produced (R312). -/

namespace Sys2Proof.Machine

/-- A value between two bounds. -/
def within (lo hi v : Nat) : Bool := decide (lo ≤ v) && decide (v ≤ hi)

/-- A signed value between two bounds. -/
def withinI (lo hi v : Int) : Bool := decide (lo ≤ v) && decide (v ≤ hi)

/-- R34 to R37: an input binding of coach `c` uses a listed type, an index of its range and a listed unit, and is not the
coach's own output. -/
def bindOk (c b : Nat) : Bool :=
  let typ := bits b 0 4
  let idx := bits b 4 8
  let unit := decide (bits b 12 3 < 4)
  if typ = 0 then true
  else if typ = 1 then decide (idx ≤ 63) && unit
  else if typ = 2 then decide (idx ≤ 159) && idx != c
  else if typ = 3 ∨ typ = 4 then decide (idx ≤ 15)
  else if typ = 5 then true
  else if typ = 6 then decide (idx ≤ 31) && unit
  else false

/-- R38: an output binding uses a listed kind and an index of its range; a coach does not command its own set-point. -/
def outOk (c : Nat) (b : Nat × Nat) : Bool :=
  if b.1 = 0 then true
  else if b.1 = 1 then decide (b.2 ≤ 7)
  else if b.1 = 2 then decide (b.2 ≤ 3)
  else if b.1 = 3 then decide (b.2 ≤ 2)
  else if b.1 = 4 then decide (b.2 ≤ 5)
  else if b.1 = 5 then decide (b.2 ≤ 159) && b.2 != c
  else b.1 == 6

/-- The non-zero output bindings of a coach. -/
def State.targets (s : State) (c : Nat) : List (Nat × Nat) := ((upTo 4).map (s.outBind c)).filter (fun b => b.1 != 0)

/-- R40: no output of coach `c` binds a target that another output of any coach binds. -/
def State.soleTargets (s : State) (c : Nat) : Bool :=
  let mine := s.targets c
  decide mine.Nodup && (upTo 160).all (fun d => d == c || (s.targets d).all (fun b => !mine.contains b))

/-- R33, R86: the words of coach `c`, apart from R40, as a read returns them: one with an error that cannot be corrected counts as its stored
bits stand (DESIGN CHOICE, log entry 73). -/
def State.coachWordsOk (s : State) (c : Nat) : Bool :=
  let w0 := s.cw c 0
  let period := bits (s.cw c 1) 0 16
  let phase := bits (s.cw c 1) 16 16
  let lambda := bits (s.cw c 31) 16 16
  (if period = 0 then phase == 0 else decide (5 ≤ period) && decide (phase < period)) &&
    decide (s.cq c 18 ≤ s.cq c 19) && decide (s.cq c 10 ≤ s.cq c 11) && decide (0 ≤ s.cq c 20) &&
    (bits w0 0 3 != 3 || decide (0 ≤ s.cq c 22)) && bits w0 4 2 != 3 && bits w0 14 2 != 3 &&
    ([2, 3, 4, 5].all (fun w => bindOk c (bits (s.cw c w) 0 16) && bindOk c (bits (s.cw c w) 16 16))) &&
    (upTo 4).all (fun k => outOk c (s.outBind c k)) &&
    withinI 0 65535 (s.cq c 32) && withinI (-16777216) 16777216 (s.cq c 33) && withinI (-65536) 65536 (s.cq c 34) &&
    ([35, 38, 40].all (fun w => withinI 0 67108864 (s.cq c w))) && decide (0 ≤ s.cq c 43) && decide (0 ≤ s.cq c 30) &&
    (lambda == 0 || decide (0xE666 ≤ lambda))

/-- R33, R40, R86. -/
def State.coachOk (s : State) (c : Nat) : Bool := s.coachWordsOk c && s.soleTargets c

/-- A mask of a converter names only inputs that it owns. -/
def ownedBy (c mask own : Nat) : Bool := if c = 0 then mask &&& own == 0 else clearBits mask own == 0

/-- R147: the masks of A and B agree with the owners, and inputs 54 to 61 stand in their owner's mask. -/
def State.masksOk (s : State) : Bool :=
  (upTo 2).all (fun c => ownedBy c (s.rdAt Reg.CONV_SCAN_LO_MASK c) (s.rd Reg.CONV_OWN_LO_OWN) &&
    ownedBy c (s.rdAt Reg.CONV_SCAN_HI_MASK c) (s.rd Reg.CONV_OWN_HI_OWN)) &&
    [54, 55, 56, 57, 58, 59, 60, 61].all (fun i => bit (s.rdAt Reg.CONV_SCAN_HI_MASK (s.ownerOf i)) (i - 32))

/-- R147: input `i` stands in the mask of A or of B. -/
def State.inMask (s : State) (i : Nat) : Bool :=
  (upTo 2).any (fun c => if i < 32 then bit (s.rdAt Reg.CONV_SCAN_LO_MASK c) i else bit (s.rdAt Reg.CONV_SCAN_HI_MASK c) (i - 32))

/-- R147: no input whose owner changes stands in a mask, before or after. -/
def State.ownersKept (before after : State) : Bool :=
  (upTo 64).all (fun i => before.ownerOf i == after.ownerOf i || !(before.inMask i || after.inMask i))

/-- R163. -/
def State.convOk (s : State) (a : Nat) : Bool :=
  if a = 0x2001 then within 20480 25000 (s.rd Reg.CONV_VREF_VREF)
  else if a = 0x2002 ∨ a = 0x2003 ∨ a = 0x2011 ∨ a = 0x2012 ∨ a = 0x2021 ∨ a = 0x2022 then s.masksOk
  else true

/-- R133, R134, R164: BETA in an NTC mode. -/
def State.betaOk (s : State) (i : Nat) : Bool :=
  let m := s.rdAt Reg.UI_CFG_MODE i
  (m != 1 && m != 2) || within 2000 6000 (s.rdAt Reg.UI_LIN_BETA i)

/-- R133, R141, R153, R164, R144. -/
def State.uiOk (s : State) (a ch : Nat) : Bool :=
  if a = 0x2401 then decide (s.rdAt Reg.UI_CFG_MODE ch ≤ 10) && s.betaOk ch
  else if a = 0x2402 then
    decide (s.rdAt Reg.UI_FILT_OSR ch ≤ 4) && s.rdAt Reg.UI_FILT_LR ch != 3 && (decide (ch < 54) || decide (61 < ch) || decide (s.rdAt Reg.UI_FILT_PACE ch ≤ 16))
  else if a = 0x2405 then s.betaOk ch
  else if 0x2424 ≤ a ∧ a ≤ 0x2427 then decide (1 ≤ s.rdAt Reg.OCC_TIME_NF_SHIFT (a - 0x2424))
  else if a = 0x242A then (upTo 16).all (fun z => bits (s.rd Reg.OCC_FORCE_FORCE) (2 * z) 2 != 3)
  else if a = 0x2430 then decide (s.rd Reg.SNS_CTRL_COUNT ≤ 32)
  else if 0x2440 ≤ a ∧ a ≤ 0x245F then s.rdAt Reg.SNS_ENT_CMD_LEN (a - 0x2440) != 3
  else true

/-- R130: the seats of one word of a plan. -/
def seatsOk (w : Nat) : Bool := (upTo 4).all (fun k => bit w (8 * k + 4) || bits w (8 * k) 4 != 15)

/-- R130. -/
def State.arbOk (s : State) (a : Nat) : Bool :=
  if a = 0x0801 then decide (s.rd Reg.ARB_SWAP_SHADOW_COUNT ≤ 64)
  else if 0x0860 ≤ a ∧ a ≤ 0x086F then seatsOk (s.rdAt Reg.ARB_SHD_SEATS (a - 0x0860))
  else true

/-- Strictly ascending. -/
def ascending : List Int → Bool
  | [] => true
  | [_] => true
  | x :: y :: t => decide (x < y) && ascending (y :: t)

/-- R214. -/
def State.fanOk (s : State) (a : Nat) : Bool :=
  let k := (a - 0x3020) / 16
  let j := (a - 0x3040) / 16
  if a = 0x3004 then within 1 8 (s.rd Reg.FAN_MOTOR_POLES)
  else if a = 0x3007 ∨ a = 0x3008 then
    within 100 1500 (s.rd Reg.FAN_RAMP_RAMP_MS) && decide (s.rd Reg.FAN_SPD_LIM_MIN_RPM ≤ s.rd Reg.FAN_RAMP_HANDOVER_RPM) &&
      decide (s.rd Reg.FAN_RAMP_HANDOVER_RPM ≤ s.rd Reg.FAN_SPD_LIM_MAX_RPM)
  else if a = 0x3009 then decide (1 ≤ s.rd Reg.FAN_ACCEL_ACCEL) && decide (1 ≤ s.rd Reg.FAN_ACCEL_DECEL)
  else if a = 0x300A then decide (s.rd Reg.FAN_ILIM_I_LIMIT < s.rd Reg.FAN_ILIM_OC_TRIP)
  else if a = 0x300B then [s.rd Reg.FAN_THR_THR1, s.rd Reg.FAN_THR_THR2, s.rd Reg.FAN_THR_THR3].all (within 1 100)
  else if a = 0x300D then
    within 5 160 (s.rd Reg.FAN_PWM_DEAD) && within 20 80 (s.rd Reg.FAN_PWM_TMIN) && decide (1 ≤ s.rd Reg.FAN_PWM_RSHUNT)
  else if 0x3020 ≤ a ∧ a < 0x3040 then
    if a % 16 = 3 then decide (19661 ≤ s.rdAt Reg.FANT_LIM_START_DUTY k)
    else if 8 ≤ a % 16 then ascending ((upTo 8).map (fun p => (s.rdAt Reg.FANT_SD_RPM (8 * k + p) : Int)))
    else true
  else if 0x3040 ≤ a ∧ a < 0x3070 then
    if a % 16 = 0 then decide (s.rdAt Reg.FANA_CFG_COACH j ≤ 159)
    else if 8 ≤ a % 16 then ascending ((upTo 8).map (fun p => s.rdI Reg.FANA_PT_TEMP (8 * j + p)))
    else true
  else true

/-- R224: the currents of channel `n` in its mode. -/
def State.vlvHoldOk (s : State) (n : Nat) : Bool :=
  let m := s.rdAt Reg.VLV_CFG_MODE n
  let h := s.rdAt Reg.VLV_HOLD_I_HOLD n
  (m == 0 || (within 20 1500 h && within 20 h (s.rdAt Reg.VLV_HOLD_I_HOLD_MIN n))) && ((m != 1 && m != 3) || decide (h ≤ 800))

/-- R224: the rules between channel `n` and its partner. -/
def State.vlvPairOk (s : State) (n : Nat) : Bool :=
  match s.vlvPartner n with
  | none => true
  | some p =>
    let peaks := fun (a b : Nat) => (upTo 3).all (fun k => decide (s.tPeak a k ≤ 10 * s.rdAt Reg.VLV_TIMING_PEAK_WAIT b))
    decide (s.rdAt Reg.VLV_HOLD_I_HOLD n + s.rdAt Reg.VLV_HOLD_I_HOLD p ≤ 2500) && peaks n p && peaks p n

/-- R224, R247, R248. -/
def State.vlvOk (s : State) (a n : Nat) : Bool :=
  if a = 0x3401 then s.vlvHoldOk n && s.vlvPairOk n
  else if a = 0x3402 then decide (s.rdAt Reg.VLV_PEAK0_I_PEAK n ≤ 1500) && decide (s.tPeak n 0 ≤ 1000) && s.vlvPairOk n
  else if a = 0x3403 then decide (s.rdAt Reg.VLV_PEAK1_I_PEAK n ≤ 1500) && decide (s.tPeak n 1 ≤ 1000) && s.vlvPairOk n
  else if a = 0x3404 then decide (s.rdAt Reg.VLV_PEAK2_I_PEAK n ≤ 1500) && decide (s.tPeak n 2 ≤ 1000) && s.vlvPairOk n
  else if a = 0x3405 then s.vlvHoldOk n && s.vlvPairOk n
  else if a = 0x3406 then
    within 1 100 (s.rdAt Reg.VLV_TIMING_PEAK_WAIT n) && decide (1 ≤ s.rdAt Reg.VLV_TIMING_T_RISE n) &&
      decide (100 ≤ s.rdAt Reg.VLV_TIMING_PULSE_PERIOD n) && s.vlvPairOk n
  else if a = 0x3407 then decide (s.rdI Reg.VLV_BAND_BAND_LO n ≤ s.rdI Reg.VLV_BAND_BAND_HI n)
  else if a = 0x3408 then within 1000 32000 (s.rdAt Reg.VLV_THERM_V_RATED n)
  else if a = 0x340C then !s.onAt Reg.VLV_MAN_MAN_EN n || s.mode == mService
  else if a = 0x3413 then decide (1 ≤ s.rd Reg.VLV_DIAG_CFG_DIAG_PERIOD)
  else true

/-- R238, R249: the two ends of the feedback differ while it is used. -/
def State.dmpFbOk (s : State) (d : Nat) : Bool :=
  !s.onAt Reg.DMP_CFG_FB_EN d || s.rdAt Reg.DMP_FB_FB_LO d != s.rdAt Reg.DMP_FB_FB_HI d

/-- R237, R247, R249. -/
def State.dmpOk (s : State) (a d : Nat) : Bool :=
  if a = 0x3801 then decide (s.rdAt Reg.DMP_CFG_MICRO d ≤ 4) && s.dmpFbOk d
  else if a = 0x3802 then decide (20 ≤ s.rdAt Reg.DMP_TRAVEL_STEPS d)
  else if a = 0x3803 then
    within 50 600 (s.rdAt Reg.DMP_CURRENT_I_RUN d) && decide (s.rdAt Reg.DMP_CURRENT_I_REST d ≤ s.rdAt Reg.DMP_CURRENT_I_RUN d)
  else if a = 0x3804 then
    within 10 2000 (s.rdAt Reg.DMP_SPEED_SPEED d) && decide (10 ≤ s.rdAt Reg.DMP_SPEED_ACCEL d) &&
      decide (s.rdAt Reg.DMP_STALL_STALL_MIN d ≤ s.rdAt Reg.DMP_SPEED_SPEED d)
  else if a = 0x3805 then
    decide (1 ≤ s.rdAt Reg.DMP_STALL_STALL_N d) && decide (s.rdAt Reg.DMP_STALL_STALL_MIN d ≤ s.rdAt Reg.DMP_SPEED_SPEED d)
  else if a = 0x3806 then s.dmpFbOk d
  else if a = 0x380C then !s.onAt Reg.DMP_MAN_MAN_EN d || s.mode == mService
  else if a = 0x3811 then
    [s.rd Reg.DMP_SCHED_MAX_MOVING, s.rd Reg.DMP_SCHED_THR1, s.rd Reg.DMP_SCHED_THR2, s.rd Reg.DMP_SCHED_THR3].all (within 1 4)
  else true

/-- R244, R247, R250. -/
def State.boOk (s : State) (a n : Nat) : Bool :=
  if a = 0x3A01 then !s.onAt Reg.BO_CFG_XLOCK_EN n || (decide (s.rdAt Reg.BO_CFG_XLOCK n ≤ 5) && s.rdAt Reg.BO_CFG_XLOCK n != n)
  else if a = 0x3A04 then !s.onAt Reg.BO_MAN_MAN_EN n || s.mode == mService
  else true

/-- R255, R268. -/
def State.thermOk (s : State) (a ch : Nat) : Bool :=
  if a = 0x2C02 ∨ a = 0x2C03 then
    (upTo 4).all (fun k => decide (s.tsThr k + 640 ≤ s.tsThr (k + 1)))
  else if a = 0x2C14 then decide (s.rdAt Reg.TS_OFS_KGRAD ch ≤ 8192)
  else true

/-- R280: the unmasked fields of alarm `n`. -/
def State.alarmOk (s : State) (n : Nat) : Bool :=
  let m := s.rdAt Reg.RTC_AL_D_MASK n
  (bit m 0 || decide (s.rdAt Reg.RTC_AL_T_SEC n ≤ 59)) && (bit m 1 || decide (s.rdAt Reg.RTC_AL_T_MIN n ≤ 59)) &&
    (bit m 2 || decide (s.rdAt Reg.RTC_AL_T_HOUR n ≤ 23)) && (bit m 3 || within 1 31 (s.rdAt Reg.RTC_AL_D_DAY n)) &&
    (bit m 4 || within 1 12 (s.rdAt Reg.RTC_AL_D_MONTH n)) && (bit m 5 || decide (s.rdAt Reg.RTC_AL_D_WDAY n ≤ 6))

/-- R288: an exception. -/
def State.excOk (s : State) (n : Nat) : Bool :=
  let act := s.rdAt Reg.SCHED_EX_ACTION n
  let y := s.rdAt Reg.SCHED_EX_YEAR n
  !s.onAt Reg.SCHED_EX_EN n ||
    (decide (act ≤ 1) && decide (s.rdAt Reg.SCHED_EX_ARG n ≤ if act = 0 then 3 else 6) && within 1 12 (s.rdAt Reg.SCHED_EX_MONTH n) &&
      within 1 31 (s.rdAt Reg.SCHED_EX_DAY n) && (decide (y ≤ 199) || y == 255))

/-- R280, R288, R291, R298. -/
def State.timeOk (s : State) (a ch : Nat) : Bool :=
  if a = 0x3E00 then decide (s.rd Reg.SCHED_CTRL_MAX_PRESTART ≤ 1440)
  else if a = 0x3E05 then decide (s.rdAt Reg.ZONE_CFG_COACH ch ≤ 159)
  else if a = 0x3E07 then decide (s.rdAt Reg.ZONE_FORCE_FORCE ch ≤ 4)
  else if 0x3E40 ≤ a ∧ a < 0x3EC0 then (a - 0x3E40) % 2 == 1 || decide (s.rdAt Reg.SCHED_WK_MINUTE ((a - 0x3E40) / 2) ≤ 1439)
  else if 0x3EC0 ≤ a ∧ a < 0x3F00 then (a - 0x3EC0) % 2 == 1 || s.excOk ((a - 0x3EC0) / 2)
  else if Reg.RTC_AL_T_SEC.hits a = true then s.alarmOk (Reg.RTC_AL_T_SEC.chan a s)
  else if Reg.RTC_AL_D_DAY.hits a = true then s.alarmOk (Reg.RTC_AL_D_DAY.chan a s)
  else true

/-- R385. -/
def State.netOk (s : State) (a : Nat) : Bool :=
  let k := (a - 0x4030) / 8
  if a = 0x4004 then s.rd Reg.NET_PHY_AMPL_CFG != 3
  else if a = 0x400C then decide (30 ≤ s.rd Reg.NET_FDR_TTL)
  else if a = 0x400D then s.rd Reg.NET_DEV_SYNC_MON != 7 && decide (s.rd Reg.NET_DEV_DEV_INST ≤ 4194302)
  else if a = 0x400E then decide (10 ≤ s.rd Reg.NET_SUP_NET_TO)
  else if a = 0x4030 ∨ a = 0x4038 then
    let p := s.rdAt Reg.BUS_CFG_PROTO k
    let ad := s.rdAt Reg.BUS_CFG_ADDR k
    decide (s.rdAt Reg.BUS_CFG_BAUD k ≤ 5) && decide (s.rdAt Reg.BUS_CFG_PARITY k ≤ 2) &&
      (p != 1 || (s.rdAt Reg.BUS_CFG_PARITY k == 0 && decide (ad ≤ 127))) && (p != 2 || within 1 247 ad)
  else if a = 0x4031 ∨ a = 0x4039 then
    decide (1 ≤ s.rdAt Reg.BUS_MSTP_MAX_MASTER k) && decide (1 ≤ s.rdAt Reg.BUS_MSTP_MAX_INFO k)
  else true

/-- R417: every level of every band lies within the converters' codes. -/
def State.levelsOk (s : State) : Bool :=
  let v := s.rd Reg.DISP_VCOM_VCOM_DC
  (upTo 3).all (fun b => (upTo 4).all (fun p =>
    let m := bits (s.rdAt Reg.DISP_LEV_M b) (8 * p) 8
    decide (v + m ≤ 255) && decide (m ≤ v)))

/-- R427: the number of pages. -/
def State.npages (s : State) : Nat := bits (s.rd Hid.compHdr) 0 8

/-- R417, R430. -/
def State.dispOk (s : State) (a : Nat) : Bool :=
  if a = 0x5000 then decide (s.rd Reg.DISP_CTRL_LINES ≤ 160) && within 1 60 (s.rd Reg.DISP_CTRL_REFRESH)
  else if 0x5001 ≤ a ∧ a ≤ 0x5004 then s.levelsOk
  else if a = 0x5006 then decide (s.rdI Reg.DISP_BAND_LIM_BAND_LO 0 ≤ s.rdI Reg.DISP_BAND_LIM_BAND_HI 0)
  else if a = 0x500D then decide (s.rd Reg.DISP_PAGE_PAGE < max 1 s.npages)
  else true

/-- R110, R405, R402: the registers of SYS, SUPV and the host interface. -/
def State.sysOk (s : State) (a : Nat) : Bool :=
  if a = 0x1809 then within 10 1000 (s.rd Reg.SUPV_WDT_TIMEOUT)
  else if a = 0x4802 then s.rd Reg.HOST_HB_CFG_HB_TIMEOUT == 0 || decide (100 ≤ s.rd Reg.HOST_HB_CFG_HB_TIMEOUT)
  else true

/-- The rules about register `a` of channel `ch`, on this state. -/
def State.regOk (s : State) (a ch : Nat) : Bool :=
  if a < 0x0400 then true
  else if a < 0x1000 then s.arbOk a
  else if a < 0x1040 then true
  else if a < 0x1080 then s.coachOk ch
  else if a < 0x2000 then s.sysOk a
  else if a < 0x2400 then s.convOk a
  else if a < 0x2800 then s.uiOk a ch
  else if a < 0x3000 then s.thermOk a ch
  else if a < 0x3400 then s.fanOk a
  else if a < 0x3800 then s.vlvOk a ch
  else if a < 0x3A00 then s.dmpOk a ch
  else if a < 0x3C00 then s.boOk a ch
  else if a < 0x4000 then s.timeOk a ch
  else if a < 0x4800 then s.netOk a
  else if a < 0x5000 then s.sysOk a
  else if a < 0x5800 then s.dispOk a
  else true

/-- A run of addresses, each with a number of channels. -/
def regRun (a n ch : Nat) : List (Nat × Nat) := (upTo n).flatMap (fun k => (upTo ch).map (fun c => (a + k, c)))

/-- The registers whose rules the image's state must satisfy (R312), with their channels; coaches apart. -/
def imageRegs : List (Nat × Nat) :=
  [(0x0801, 0), (0x1809, 0), (0x2001, 0), (0x2002, 0), (0x2430, 0), (0x2C02, 0), (0x3E00, 0), (0x4802, 0), (0x3811, 0), (0x3413, 0)] ++
  regRun 0x0860 16 1 ++ regRun 0x2401 1 64 ++ regRun 0x2402 1 64 ++ regRun 0x2424 4 1 ++ regRun 0x2440 32 1 ++ regRun 0x2C14 1 8 ++
  regRun 0x3004 10 1 ++ regRun 0x3020 32 1 ++ regRun 0x3040 48 1 ++ regRun 0x3401 8 8 ++ regRun 0x3801 6 4 ++ regRun 0x3A01 1 6 ++
  regRun 0x3E05 1 16 ++ regRun 0x3E40 192 1 ++ regRun 0x4004 11 1 ++ regRun 0x4030 2 1 ++ regRun 0x4038 2 1 ++ regRun 0x5000 14 1

/-- R40 over every coach: no target is bound twice. -/
def State.allSole (s : State) : Bool := decide ((upTo 160).flatMap s.targets).Nodup

/-- R353: how many ports carry BACnet. -/
def State.bacnetPorts (s : State) : Nat :=
  let en := s.rd Reg.NET_CTRL_EN
  let bus := fun (k : Nat) => bit en (3 + k) && s.rdAt Reg.BUS_CFG_PROTO k == 1
  b2n (bit en 1) + b2n (bit en 2) + b2n (bus 0) + b2n (bus 1)

/-- R368: a client entry. -/
def State.clientOk (s : State) (c : Sys2Proof.MbClient) : Bool :=
  decide (c.bus ≤ 1) && within 1 247 c.server && within 3 4 c.function && decide (c.start ≤ 65535) && decide (c.format ≤ 3) &&
    within 1 3600 c.period && decide (c.target ≤ 255) && !s.avBound c.target

/-- R353, R368: what a NETWORK section must satisfy beside its registers. -/
def State.netImageOk (s : State) : Bool :=
  decide (s.bacnetPorts ≤ 1) && s.netImg.clients.all s.clientOk &&
    (upTo 2).all (fun b => decide ((s.netImg.clients.filter (fun (c : Sys2Proof.MbClient) => c.bus == b)).length ≤ 16))

/-- R312: the whole state satisfies every rule. -/
def State.imageOk (s : State) : Bool :=
  imageRegs.all (fun p => s.regOk p.1 p.2) && (upTo 160).all s.coachWordsOk && s.allSole && s.netImageOk

end Sys2Proof.Machine
end

