-- ==== Sys2Proof/Machine/Crypto.lean ====
section
/-! DEFINITION. SHA-256 and ECDSA P-256 (FIPS 180 and FIPS 186), as R308 and R363 use them: messages are whole 32-bit words. -/

namespace Sys2Proof.Machine

/-- Addition modulo 2^32. -/
def add32 (a b : Nat) : Nat := (a + b) % 2 ^ 32

/-- Rotation of a 32-bit word to the right. -/
def rotr32 (x n : Nat) : Nat := x / 2 ^ n + x % 2 ^ n * 2 ^ (32 - n)

/-- The primes below 312: the first 64 of them. -/
def primes64 : List Nat := (upTo 312).filter (fun n => decide (2 ≤ n) && ((upTo n).drop 2).all (fun d => n % d != 0))

/-- The first 32 fractional bits of the `k`-th root of `n`, by bisection over the bits of 2^32 times that root (below 2^40). -/
def rootBits (k n : Nat) : Nat :=
  ((upTo 40).reverse.foldl (fun r b => if (r + 2 ^ b) ^ k ≤ n * 2 ^ (32 * k) then r + 2 ^ b else r) 0) % 2 ^ 32

/-- FIPS 180: the round constants, from the cube roots of the first 64 primes. -/
def roundConsts : List Nat := primes64.map (rootBits 3)

/-- FIPS 180: the initial hash value, from the square roots of the first eight primes. -/
def shaInit : List Nat := (primes64.take 8).map (rootBits 2)

/-- The message schedule: `n` further words, newest first. -/
def shaExtend : Nat → List Nat → List Nat
  | 0, w => w
  | n + 1, w =>
    let x := w.getD 14 0
    let y := w.getD 1 0
    let s0 := Nat.xor (Nat.xor (rotr32 x 7) (rotr32 x 18)) (x / 8)
    let s1 := Nat.xor (Nat.xor (rotr32 y 17) (rotr32 y 19)) (y / 1024)
    shaExtend n (add32 (add32 (w.getD 15 0) s0) (add32 (w.getD 6 0) s1) :: w)

/-- One round on the eight working variables. -/
def shaRound (h : List Nat) (kw : Nat) : List Nat :=
  let a := h.getD 0 0
  let e := h.getD 4 0
  let s1 := Nat.xor (Nat.xor (rotr32 e 6) (rotr32 e 11)) (rotr32 e 25)
  let ch := Nat.xor (e &&& h.getD 5 0) (Nat.xor e 0xFFFFFFFF &&& h.getD 6 0)
  let t1 := add32 (add32 (h.getD 7 0) s1) (add32 ch kw)
  let s0 := Nat.xor (Nat.xor (rotr32 a 2) (rotr32 a 13)) (rotr32 a 22)
  let mj := Nat.xor (Nat.xor (a &&& h.getD 1 0) (a &&& h.getD 2 0)) (h.getD 1 0 &&& h.getD 2 0)
  [add32 t1 (add32 s0 mj), a, h.getD 1 0, h.getD 2 0, add32 (h.getD 3 0) t1, e, h.getD 5 0, h.getD 6 0]

/-- One block of 16 words. -/
def shaBlock (h block : List Nat) : List Nat :=
  let w := (shaExtend 48 block.reverse).reverse
  let r := ((roundConsts.zip w).map (fun p => add32 p.1 p.2)).foldl shaRound h
  (h.zip r).map (fun p => add32 p.1 p.2)

/-- The blocks of a padded message, `n` of them. -/
def shaBlocks : Nat → List Nat → List Nat → List Nat
  | 0, h, _ => h
  | n + 1, h, m => shaBlocks n (shaBlock h (m.take 16)) (m.drop 16)

/-- SHA-256 of a message of whole words, as eight words. -/
def sha256 (m : List Nat) : List Nat :=
  let z := (13 + 16 - m.length % 16) % 16
  let p := m ++ [0x80000000] ++ List.replicate z 0 ++ [m.length / 2 ^ 27, m.length * 32 % 2 ^ 32]
  shaBlocks (p.length / 16) shaInit p

/-- The number a list of words spells, most significant word first. -/
def ofWords (l : List Nat) : Nat := l.foldl (fun a b => a * 2 ^ 32 + b % 2 ^ 32) 0

/-- The `n` words of a number, most significant first. -/
def toWords : Nat → Nat → List Nat
  | 0, _ => []
  | n + 1, v => (v / 2 ^ (32 * n) % 2 ^ 32) :: toWords n v

/-- P-256: the field's prime. -/
def p256 : Nat := 0xFFFFFFFF00000001000000000000000000000000FFFFFFFFFFFFFFFFFFFFFFFF
/-- P-256: the order of the base point. -/
def n256 : Nat := 0xFFFFFFFF00000000FFFFFFFFFFFFFFFFBCE6FAADA7179E84F3B9CAC2FC632551
/-- P-256: the coefficient b. -/
def b256 : Nat := 0x5AC635D8AA3A93E7B3EBBD55769886BC651D06B0CC53B0F63BCE3C3E27D2604B
/-- P-256: the base point's x. -/
def gx256 : Nat := 0x6B17D1F2E12C4247F8BCE6E563A440F277037D812DEB33A0F4A13945D898C296
/-- P-256: the base point's y. -/
def gy256 : Nat := 0x4FE342E2FE1A7F9B8EE7EB4A7C0F9E162BCE33576B315ECECBB6406837BF51F5

/-- Subtraction modulo `m` of reduced numbers. -/
def subMod (m a b : Nat) : Nat := (a + (m - b % m)) % m

/-- Powers modulo `m`, over the 256 bits of the exponent from the highest. -/
def powMod (m b e : Nat) : Nat :=
  (upTo 256).foldl (fun r k => if bit e (255 - k) then r * r % m * b % m else r * r % m) 1

/-- The inverse modulo a prime. -/
def invMod (m a : Nat) : Nat := powMod m (a % m) (m - 2)

/-- A point in Jacobian coordinates; z is 0 at infinity. -/
structure EcPoint where
  x : Nat
  y : Nat
  z : Nat
  deriving DecidableEq, Repr

/-- The double of a point. -/
def EcPoint.double (q : EcPoint) : EcPoint :=
  if q.z = 0 ∨ q.y = 0 then ⟨1, 1, 0⟩
  else
    let yy := q.y * q.y % p256
    let s := 4 * q.x * yy % p256
    let zz := q.z * q.z % p256
    let m := 3 * subMod p256 q.x zz * ((q.x + zz) % p256) % p256
    let x := subMod p256 (m * m % p256) (2 * s % p256)
    ⟨x, subMod p256 (m * subMod p256 s x % p256) (8 * yy * yy % p256), 2 * q.y * q.z % p256⟩

/-- The sum of two points. -/
def EcPoint.add (q r : EcPoint) : EcPoint :=
  if q.z = 0 then r
  else if r.z = 0 then q
  else
    let qq := q.z * q.z % p256
    let rr := r.z * r.z % p256
    let u1 := q.x * rr % p256
    let u2 := r.x * qq % p256
    let s1 := q.y * rr % p256 * r.z % p256
    let s2 := r.y * qq % p256 * q.z % p256
    if u1 = u2 then (if s1 = s2 then q.double else ⟨1, 1, 0⟩)
    else
      let h := subMod p256 u2 u1
      let d := subMod p256 s2 s1
      let hh := h * h % p256
      let hhh := h * hh % p256
      let v := u1 * hh % p256
      let x := subMod p256 (subMod p256 (d * d % p256) hhh) (2 * v % p256)
      ⟨x, subMod p256 (d * subMod p256 v x % p256) (s1 * hhh % p256), h * q.z % p256 * r.z % p256⟩

/-- A multiple of a point. -/
def EcPoint.times (q : EcPoint) (k : Nat) : EcPoint :=
  (upTo 256).foldl (fun r i => if bit k (255 - i) then r.double.add q else r.double) ⟨1, 1, 0⟩

/-- The base point. -/
def gPoint : EcPoint := ⟨gx256, gy256, 1⟩

/-- The affine coordinates of a point that is not at infinity. -/
def EcPoint.affine (q : EcPoint) : Nat × Nat :=
  let i := invMod p256 q.z
  let ii := i * i % p256
  (q.x * ii % p256, q.y * ii % p256 * i % p256)

/-- Whether x and y are a point of the curve. -/
def onCurve (x y : Nat) : Bool :=
  decide (x < p256) && decide (y < p256) && y * y % p256 == (x * x % p256 * x + (p256 - 3) * x + b256) % p256

/-- ECDSA P-256 verification of the signature (r, s) on a digest, under the public key (x, y). -/
def ecdsaOk (x y r sg digest : Nat) : Bool :=
  if onCurve x y = false ∨ r = 0 ∨ n256 ≤ r ∨ sg = 0 ∨ n256 ≤ sg then false
  else
    let w := invMod n256 sg
    let q := (gPoint.times (digest * w % n256)).add ((⟨x, y, 1⟩ : EcPoint).times (r * w % n256))
    q.z != 0 && q.affine.1 % n256 == r

/-- R308: the key of a SIGNATURE payload (X, Y as 16 words, r, s as 16 words) against a hash of 8 words, and the signature on
`body`. -/
def signatureOk (hash payload body : List Nat) : Bool :=
  let key := payload.take 16
  let rest := payload.drop 16
  sha256 key == hash && ecdsaOk (ofWords (key.take 8)) (ofWords (key.drop 8)) (ofWords (rest.take 8)) (ofWords (rest.drop 8))
    (ofWords (sha256 body))

end Sys2Proof.Machine
end

