-- ==== Sys2Proof/Machine/Memory.lean ====
section
/-! DEFINITION. The attached memory (R300, R302): bytes by address, in one canonical form. A byte that no entry lists reads
0xFF, which is what an erased flash byte holds (log entry 17). -/

namespace Sys2Proof.Machine

/-- The byte at an address. -/
def Memory.read : List Host.Cell → Nat → Nat
  | [], _ => 255
  | c :: t, a => if c.1 = a then c.2.toNat else Memory.read t a

/-- The memory without a byte. -/
def Memory.drop (m : List Host.Cell) (a : Nat) : List Host.Cell := m.filter (fun c => c.1 != a)

/-- A byte put in its place. -/
def Memory.insert : List Host.Cell → Host.Cell → List Host.Cell
  | [], x => [x]
  | c :: t, x => if c.1 < x.1 then c :: Memory.insert t x else x :: c :: t

/-- The memory with a byte written; a byte of 0xFF is not listed. -/
def Memory.write (m : List Host.Cell) (a v : Nat) : List Host.Cell :=
  if v % 256 = 255 then Memory.drop m a else Memory.insert (Memory.drop m a) (a, BitVec.ofNat 8 v)

/-- The canonical form: addresses strictly rising, and no byte that an unlisted address reads as. -/
def Memory.wf : List Host.Cell → Bool
  | [] => true
  | [c] => c.2 != 255#8
  | c :: d :: t => c.2 != 255#8 && decide (c.1 < d.1) && Memory.wf (d :: t)

/-- Several bytes written one after another. -/
def Memory.writes (m : List Host.Cell) (l : List (Nat × Nat)) : List Host.Cell := l.foldl (fun m p => Memory.write m p.1 p.2) m

/-- A range of bytes erased to 0xFF. -/
def Memory.erase (m : List Host.Cell) (a n : Nat) : List Host.Cell := m.filter (fun c => decide (c.1 < a) || decide (a + n ≤ c.1))

/-- R302: the 32-bit word at a byte address, most significant byte first. -/
def Memory.word (m : List Host.Cell) (a : Nat) : Nat := ofBeBytes ((upTo 4).map (fun k => Memory.read m (a + k)))

/-- The `n` words from a byte address on. -/
def Memory.words (m : List Host.Cell) (a n : Nat) : List Nat := (upTo n).map (fun k => Memory.word m (a + 4 * k))

/-- The bytes of a list of words from a byte address on. -/
def wordBytes (a : Nat) (l : List Nat) : List (Nat × Nat) :=
  (upTo (4 * l.length)).map (fun k => (a + k, bits (l.getD (k / 4) 0) (8 * (3 - k % 4)) 8))

/-- R400: a Page Program can only clear bits of the flash. -/
def Memory.program (m : List Host.Cell) (l : List (Nat × Nat)) : List Host.Cell :=
  l.foldl (fun m p => Memory.write m p.1 (Memory.read m p.1 &&& p.2)) m

end Sys2Proof.Machine
end

