-- ==== Sys2Proof/Machine/Image.lean ====
section
/-! DEFINITION. The configuration image: its sections, runs and checks (R303 to R313), and what a section changes. The same
operations load an image at boot, check a target at a persist (R326) and apply a region update (R318). -/

namespace Sys2Proof.Machine

/-- R328: the reason codes. -/
def rMemory : Nat := 1
/-- MAGIC. -/
def rMagic : Nat := 2
/-- FORMAT. -/
def rFormat : Nat := 3
/-- LENGTH. -/
def rLength : Nat := 4
/-- SECTION_CRC. -/
def rSectionCrc : Nat := 5
/-- COPY_CRC. -/
def rCopyCrc : Nat := 6
/-- TYPE. -/
def rType : Nat := 7
/-- LAYOUT. -/
def rLayout : Nat := 8
/-- CONTENT. -/
def rContent : Nat := 9
/-- SIG_MISSING. -/
def rSigMissing : Nat := 10
/-- SIG_BAD. -/
def rSigBad : Nat := 11
/-- SIZE. -/
def rSize : Nat := 12
/-- NOT_REGION. -/
def rNotRegion : Nat := 13
/-- SIG_UNCHECKED. -/
def rSigUnchecked : Nat := 14

/-- Why a copy or an update is rejected: reason, section index (255: the whole copy), section type. -/
structure Rej where
  reason : Nat
  index : Nat := 255
  typ : Nat := 0
  deriving DecidableEq, Repr

/-- One section as read: its type, payload and whether its CRC is right. -/
structure Sec where
  typ : Nat
  payload : List Nat
  crcOk : Bool
  deriving DecidableEq, Repr

/-- The CRC-32 of a list of words, most significant byte first (R303). -/
def crcWords (l : List Nat) : Nat := crc32 (l.flatMap (beBytes 4))

/-- R304: the sections of a list of words, up to a given number; none where one does not end within the words. -/
def sectionsOf : Nat → List Nat → Option (List Sec)
  | 0, ws => if ws.isEmpty then some [] else none
  | fuel + 1, ws =>
    match ws with
    | [] => some []
    | t :: rest =>
      let n := t % 65536
      if rest.length < n + 1 then none
      else
        let p := rest.take n
        (sectionsOf fuel (rest.drop (n + 1))).map (fun l => ⟨t / 65536, p, rest.getD n 0 == crcWords (t :: p)⟩ :: l)

/-- R305: whether an address belongs to the blocks of a runs section. -/
def typeAddr (t a : Nat) : Bool :=
  let inn := fun (lo hi : Nat) => decide (lo ≤ a) && decide (a ≤ hi)
  if t = 1 then inn 0x0000 0x07FF || inn 0x1800 0x1FFF || inn 0x4800 0x4FFF
  else if t = 2 then inn 0x2000 0x27FF || a == 0x2800
  else if t = 3 then inn 0x2804 0x2806 || a == 0x2400 || a == 0x2403 || a == 0x2404
  else if t = 4 then inn 0x2C00 0x2FFF
  else if t = 5 then inn 0x3000 0x33FF
  else if t = 6 then inn 0x3400 0x37FF
  else if t = 7 then inn 0x3800 0x3BFF
  else if t = 8 then inn 0x3C0A 0x3C0B
  else if t = 9 then inn 0x0801 0x0802 || inn 0x0860 0x086F
  else if t = 10 then inn 0x3E00 0x3EFF
  else false

/-- R305: whether a region update of a runs type may write an address. -/
def regionAddr (t a : Nat) : Bool :=
  if t = 5 then (decide (0x3028 ≤ a) && decide (a ≤ 0x303F) && decide (8 ≤ a % 16)) ||
    (decide (0x3040 ≤ a) && decide (a ≤ 0x306F) && (a % 16 == 0 || decide (8 ≤ a % 16)))
  else if t = 6 then decide (0x3400 ≤ a) && decide (a ≤ 0x3408)
  else if t = 9 then a == 0x0801 || (decide (0x0860 ≤ a) && decide (a ≤ 0x086F))
  else t == 10

/-- R396: the largest value of a select register. -/
def selectMax (a : Nat) : Option Nat :=
  if a = 0x0808 then some 15 else if a = 0x1000 then some 159 else if a = 0x2400 then some 63 else if a = 0x2804 then some 11
  else if a = 0x2C10 then some 7 else if a = 0x3400 then some 7 else if a = 0x3800 then some 3 else if a = 0x3A00 then some 5
  else if a = 0x3E02 then some 15 else if a = 0x4C00 then some 15 else none

/-- R306: whether a field's "At boot" entry is "image": class I apart from THERM_CUT, the active seat plan and its count, and the
calibration values and RTC compensation that the image also sets. -/
def isImageField (f : Fld) : Bool :=
  (f.cls == .I && f.addr != 0x2C04 && !(decide (0x0840 ≤ f.addr) && decide (f.addr ≤ 0x084F)) && f.addr != 0x0800) ||
    (f.cls == .V && (f.addr == 0x2403 || f.addr == 0x2404 || f.addr == 0x2805 || f.addr == 0x2806)) ||
    (f.cls == .K && (f.addr == 0x3C0A || f.addr == 0x3C0B))

/-- The bits a field covers in its register. -/
def Fld.mask (f : Fld) : Nat := (2 ^ f.w - 1) * 2 ^ f.lo

/-- R306: the fields an image run may set at an address; a select register counts as one. -/
def runFields (a : Nat) : List Fld :=
  (Reg.fieldsAt a).filter (fun f => isImageField f || ((selectMax a).isSome && f.lo == 0))

/-- R306: the bits an image run may set at an address. DMP_SCHED.EFF shows the limits of its own register and takes any value. -/
def runMask (a : Nat) : Nat := (runFields a).foldl (fun m f => m + f.mask) (if a = 0x3811 then 0x70000 else 0)

/-- R306: one data word of a run is legal: in its type's blocks, nothing outside the fields it may set, a select register in its
range, and MODE 15 for the inputs that have no MODE (R133). -/
def State.runWordOk (s : State) (t a v : Nat) : Bool :=
  typeAddr t a && clearBits v (runMask a &&& (s.liveBits a ||| if a = 0x2401 then 15 else 0)) == 0 &&
    (match selectMax a with | some m => decide (v ≤ m) | none => true) &&
    (a != 0x2401 || decide (s.rd Reg.UI_SEL_SEL < 40) || v % 16 == 15)

/-- R310: the internal copy of the values of the CALIBRATION section, TYPE 3. -/
def State.keepCal (s : State) (typ a v : Nat) : State :=
  let k := s.rd Reg.CAL_SEL_SEL
  let i := s.rd Reg.UI_SEL_SEL
  if typ ≠ 3 then s
  else if a = 0x2805 then (s.wrAt Hid.ccTrimLo k v).orAt Hid.ccTrimHas k 1
  else if a = 0x2806 then (s.wrAt Hid.ccTrimHi k v).orAt Hid.ccTrimHas k 2
  else if a = 0x2403 then (s.wrAt Hid.ccOff i v).orAt Hid.ccUiHas i 1
  else if a = 0x2404 then (s.wrAt Hid.ccGain i v).orAt Hid.ccUiHas i 2
  else s

/-- The effect of one data word of a run of a section of TYPE `typ`. -/
def State.runWord (s : State) (typ a v : Nat) : State :=
  (s.keepCal typ a (v &&& s.liveBits a)).each (runFields a) (fun t f => t.wrAt f (f.chan a s) (bits (v &&& s.liveBits a) f.lo f.w))

/-- R306, R318: a data word of a region update writes a field outside its region: any field of another block, a field that the region does
not hold in its type's blocks. A register of the type's blocks without an image field may be covered by 0. -/
def outsideRegion (t a v : Nat) : Bool :=
  !regionAddr t a &&
    (if typeAddr t a then runMask a != 0 || (Reg.fieldsAt a).any (fun f => v &&& f.mask != 0) else !(Reg.fieldsAt a).isEmpty)

/-- The data words of one run. -/
def State.runWords (s : State) (t a : Nat) (region : Bool) : List Nat → Except Nat State
  | [] => .ok s
  | v :: l =>
    if region = true ∧ outsideRegion t a v = true then .error rNotRegion
    else if s.runWordOk t a v = false then .error rContent
    else (s.runWord t a v).runWords t (a + 1) region l

/-- R306: the runs of a payload, applied in order. -/
def State.runs (s : State) (t : Nat) (region : Bool) : Nat → List Nat → Except Nat State
  | 0, l => if l.isEmpty then .ok s else .error rLayout
  | fuel + 1, l =>
    match l with
    | [] => .ok s
    | h :: rest =>
      let n := h % 65536
      if rest.length < n then .error rLayout
      else
        match s.runWords t (h / 65536) region (rest.take n) with
        | .ok u => u.runs t region fuel (rest.drop n)
        | .error e => .error e

/-- R30: the bits of a configuration word of a coach that hold fields; the others read 0 (R8). -/
def coachMask (w : Nat) : Nat :=
  if w = 0 then 0xFFFF
  else if 2 ≤ w ∧ w ≤ 5 then 0x7FFF7FFF
  else if w = 6 ∨ w = 7 then 0x07FF07FF
  else if 27 ≤ w ∧ w ≤ 29 then 0
  else if w = 31 then 0xFFFF0FFF
  else 0xFFFFFFFF

/-- R307: the coach words a group carries, in order. -/
def groupWords : List Nat := upTo 41 ++ [43]

/-- R307: the FIRST and N of a coach group. -/
def groupOf (p : List Nat) : Nat × Nat := (bits (p.headD 0) 0 8, bits (p.headD 0) 8 8)

/-- R307: a coach group's payload is well formed. -/
def groupOk (p : List Nat) : Bool :=
  let g := groupOf p
  decide (p.headD 0 < 65536) && p.length == 1 + 42 * g.2 && decide (g.1 + g.2 ≤ 160)

/-- R307: the coaches of a group. -/
def groupCoaches (p : List Nat) : List Nat := (upTo (groupOf p).2).map (fun k => (groupOf p).1 + k)

/-- R307, R320: the words of a group written. -/
def State.writeGroup (s : State) (p : List Nat) : State :=
  s.each (upTo (groupOf p).2) (fun t k =>
    t.each (upTo 42) (fun u j =>
      let w := groupWords.getD j 0
      u.wrCoach ((groupOf p).1 + k) w ((p.getD (1 + 42 * k + j) 0) &&& coachMask w)))

/-- R427: a 16-bit or 32-bit unit of the composer's tables. -/
def State.compWord (s : State) (o : Nat) : Nat := s.rdAt Hid.comp o

/-- R427: one byte of the tables. -/
def State.compByte (s : State) (b : Nat) : Nat := bits (s.rdAt Hid.comp (b / 4)) (8 * (3 - b % 4)) 8

/-- R427: the number of fonts. -/
def State.nfonts (s : State) : Nat := bits (s.rd Hid.compHdr) 8 8

/-- R427: the word offset of page `p`. -/
def State.pageAt (s : State) (p : Nat) : Nat := s.compWord p

/-- R427: the word offset of font `f`. -/
def State.fontAt (s : State) (f : Nat) : Nat := s.compWord (s.npages + f)

/-- R427: the height and width of font `f`. -/
def State.fontSize (s : State) (f : Nat) : Nat × Nat := (bits (s.compWord (s.fontAt f)) 0 8, bits (s.compWord (s.fontAt f)) 8 8)

/-- An item of a page (R427): its two words. -/
structure Item where
  w0 : Nat
  w1 : Nat
  deriving DecidableEq, Repr

/-- TYPE. -/
def Item.typ (i : Item) : Nat := bits i.w0 28 4
/-- FONT. -/
def Item.font (i : Item) : Nat := bits i.w0 26 2
/-- LEVEL. -/
def Item.level (i : Item) : Nat := bits i.w0 24 2
/-- X. -/
def Item.x (i : Item) : Nat := bits i.w0 16 8
/-- Y. -/
def Item.y (i : Item) : Nat := bits i.w0 8 8
/-- LEN. -/
def Item.len (i : Item) : Nat := bits i.w0 0 8

/-- R427: the items of a page from a word offset on, ended by TYPE 0; none where the tables end first. -/
def State.itemsAt (s : State) : Nat → Nat → Option (List Item)
  | 0, _ => none
  | fuel + 1, o =>
    let i : Item := ⟨s.compWord o, s.compWord (o + 1)⟩
    if 6144 ≤ o then none
    else if i.typ = 0 then some []
    else (s.itemsAt fuel (o + 2)).map (fun l => i :: l)

/-- R427: the width and height of an item in pixels. -/
def State.itemSize (s : State) (i : Item) : Nat × Nat :=
  if i.typ = 1 ∨ i.typ = 2 then ((s.fontSize i.font).2 * i.len, (s.fontSize i.font).1)
  else if i.typ = 3 then (i.len, bits i.w1 24 8)
  else (i.len, bits i.w1 0 8)

/-- R34, R35, R427: a field's binding is one of R34 with a listed unit, or one of the composer's own, and DEC is listed. -/
def fieldOk (w : Nat) : Bool :=
  let typ := bits w 0 4
  decide (bits w 16 4 ≤ 4) && (typ == 8 || ((typ == 9 || typ == 10) && decide (bits w 4 8 ≤ 159)) || bindOk 160 (bits w 0 16))

/-- R427: an item is of a known type, names a font that exists and stays on the panel. -/
def State.itemOk (s : State) (i : Item) : Bool :=
  let z := s.itemSize i
  decide (i.typ ≤ 4) && (i.typ != 2 || fieldOk i.w1) && decide (i.font < s.nfonts) && decide (i.x + z.1 ≤ 192) && decide (i.y + z.2 ≤ 160)

/-- R317, R427: the composer tables satisfy their rules. -/
def State.compOk (s : State) : Bool :=
  within 1 16 s.npages && within 1 4 s.nfonts &&
    ((upTo s.nfonts).all (fun f => within 1 32 (s.fontSize f).1 && within 1 16 (s.fontSize f).2)) &&
    (upTo s.npages).all (fun p => match s.itemsAt 3072 (s.pageAt p) with | some l => l.all s.itemOk | none => false)

/-- R427: a DISPLAY section's payload loaded; none where it is too short or too long. -/
def State.loadDisplay (s : State) (p : List Nat) : Except Nat State :=
  if p.length < 9 ∨ 9 + 6144 < p.length then .error rContent
  else
    let h := p.getD 8 0
    let word := fun (t : State) (a v : Nat) => t.each ((Reg.fieldsAt a).filter (fun f => f.cls == .I)) (fun u f =>
      u.wrAt f (f.chan a u) (bits v f.lo f.w))
    let t := s.each (upTo 8) (fun t k => word t (if k = 0 then 0x5000 else if k ≤ 3 then 0x5000 + k else if k = 4 then 0x5004
      else if k = 5 then 0x5005 else if k = 6 then 0x5006 else 0x5007) (p.getD k 0))
    let u := (t.each (upTo 6144) (fun t k => t.wrAt Hid.comp k (p.getD (9 + k) 0))).wrs
      [(Hid.compHdr, bits h 0 24), (Reg.DISP_PAGE_PAGE, bits h 16 8)]
    if u.compOk ∧ bits h 16 8 < u.npages then .ok { u with compBad := [] } else .error rContent

/-- R305, R385: a NETWORK section's payload loaded: the image-set NET registers, and what no register shows. -/
def State.loadNetwork (s : State) (p : List Nat) : Except Nat State :=
  match Sys2Proof.Config.netBlob p with
  | none => .error rContent
  | some img =>
    if img.words.all (fun q => decide (0x4000 ≤ q.1) && decide (q.1 < 0x4800)) then
      .ok (({ s with netImg := img } : State).each img.words (fun t q =>
        t.each ((Reg.fieldsAt q.1).filter (fun f => f.cls == .I)) (fun u f => u.wrAt f (f.chan q.1 u) (bits q.2 f.lo f.w))))
    else .error rContent

/-- R305: what one section writes. `region` says that it is a region update. -/
def State.loadSection (s : State) (t : Nat) (p : List Nat) (region : Bool) : Except Nat State :=
  if p.isEmpty then .ok s
  else if 1 ≤ t ∧ t ≤ 10 then s.runs t region p.length p
  else if t = 11 then (if groupOk p then .ok (s.writeGroup p) else .error rContent)
  else if t = 12 then s.loadDisplay p
  else if t = 13 then s.loadNetwork p
  else if t = 14 then
    (if p.length ≤ 4096 then .ok (s.each (upTo p.length) (fun u k => u.wrAt Hid.patch k (p.getD k 0))) else .error rContent)
  else .ok s

/-- R305: a type of the table, or an ignored one. -/
def knownType (t : Nat) : Bool := (decide (1 ≤ t) && decide (t ≤ 14)) || t == 255 || decide (0x8000 ≤ t)

/-- R304: a type that may stand once only. -/
def oneOf (t : Nat) : Bool := t != 11 && decide (t < 0x8000)

/-- The sections of a copy checked and loaded as they arrive (R304 to R307): in their order, each for its CRC, its type, its
place and its content. `seen` holds the types so far, `cov` the coaches covered. -/
def State.loadSections (s : State) : Nat → List Nat → List Nat → List Sec → Except Rej State
  | _, seen, _, [] => if seen.contains 1 then .ok s else .error { reason := rLayout }
  | i, seen, cov, c :: l =>
    let rej := fun r => (.error { reason := r, index := min i 255, typ := c.typ } : Except Rej State)
    let g := if c.typ = 11 ∧ c.payload.isEmpty = false then groupCoaches c.payload else []
    if c.crcOk = false then rej rSectionCrc
    else if knownType c.typ = false then rej rType
    else if (oneOf c.typ && seen.contains c.typ) || (c.typ == 255 && !l.isEmpty) || (c.typ == 11 && groupOk c.payload && g.any cov.contains) then
      rej rLayout
    else
      match s.loadSection c.typ c.payload false with
      | .error r => rej r
      | .ok t => t.loadSections (i + 1) (c.typ :: seen) (cov ++ g) l

/-- R10, R184, R310: OFFSET, GAIN and trims as the internal copy has them, else the factory's in OTP (log entry 3: 0, and GAIN 1.0,
where OTP holds none). -/
def State.calValues (s : State) : State :=
  let t := s.each (upTo 64) (fun t i =>
    let p := t.otp.uis.getD i (0, 16384)
    let has := t.rdAt Hid.ccUiHas i
    t.wrsAt i [(Reg.UI_OFFSET_OFFSET, if bit has 0 then t.rdAt Hid.ccOff i else p.1),
      (Reg.UI_GAIN_GAIN, if bit has 1 then t.rdAt Hid.ccGain i else p.2)])
  t.each (upTo 12) State.reloadTrim

/-- R309, R184: what a field reads that no section writes: the default that its register table states, or the factory's value. -/
def State.imageDefaults (s : State) : State :=
  (s.calValues.each (upTo 8) (fun t n => t.wrAt Reg.VLV_TIMING_PEAK_WAIT n 10)).wrs
    [(Reg.DMP_SCHED_MAX_MOVING, 2), (Reg.NET_BIP_PORT, 47808), (Reg.THERM_THR0_WARN, 13440), (Reg.THERM_THR0_L1, 14720),
     (Reg.THERM_THR1_L2, 15360), (Reg.THERM_THR1_L3, 16000)]

/-- R308, R315: how the signature of sections stands: 0 passes or is not needed, else the reason. `last` is the payload of the
SIGNATURE section, `body` the words it covers, and `crypto` says whether CRYPTO runs. -/
def State.signatureJudge (s : State) (last : Option (List Nat)) (body : List Nat) (crypto : Bool) : Nat :=
  let o := s.otp
  match last with
  | none => if o.actSigned then (if crypto then rSigMissing else rSigUnchecked) else 0
  | some p =>
    if o.actHashSet = false ∧ o.actSigned = false then 0
    else if crypto = false then rSigUnchecked
    else if p.length = 32 ∧ signatureOk o.actHash p body = true then 0
    else rSigBad

/-- R303: the words of a copy, and the checks of its header: the reason it is not eligible, or 0. -/
def headerReason (m : List Host.Cell) (base : Nat) : Nat :=
  if Memory.word m base ≠ 0x4B5A4931 then rMagic
  else if Memory.word m (base + 4) ≠ 0x0100 then rFormat
  else if Memory.word m (base + 12) < 10 ∨ 131072 < Memory.word m (base + 12) then rLength
  else 0

/-- R304, R308: the payload of the last section where it is a SIGNATURE, and the words it covers. -/
def signedPart (body : List Nat) (l : List Sec) : Option (List Nat) × List Nat :=
  match l.getLast? with
  | some c => if c.typ = 255 then (some c.payload, body.take (body.length - c.payload.length - 2)) else (none, body)
  | none => (none, body)

/-- R303: the CRC of a copy. -/
def copyCrcOk (header body : List Nat) : Bool := header.getD 7 0 == crcWords (header.take 7 ++ body)

/-- R304 to R312: the sections of a copy checked against a machine whose destinations hold their reset contents: the machine
with the copy loaded, or why it is rejected; and whether its signature was checked and passed. -/
def State.judgeBody (s : State) (body : List Nat) (crcOk : Bool) (crypto : Bool) : Except Rej (State × Bool) :=
  match sectionsOf (body.length + 1) body with
  | none => .error { reason := rLayout }
  | some l =>
    match s.loadSections 0 [] [] l with
    | .error e => .error e
    | .ok t =>
      if crcOk = false then .error { reason := rCopyCrc }
      else
        let sp := signedPart body l
        let r := s.signatureJudge sp.1 sp.2 crypto
        if r ≠ 0 then .error { reason := r, index := if sp.1.isSome then min (l.length - 1) 255 else 255, typ := if sp.1.isSome then 255 else 0 }
        else if t.imageOk then .ok (t, sp.1.isSome && s.otp.actHashSet) else .error { reason := rContent }

/-- R303 to R312: one copy of the flash read and judged. -/
def State.judgeCopy (s : State) (base : Nat) (crypto : Bool) : Except Rej (State × Bool) :=
  let n := Memory.word s.flash (base + 12)
  let header := Memory.words s.flash base 8
  let body := Memory.words s.flash (base + 32) (n - 8)
  s.judgeBody body (copyCrcOk header body) crypto

/-- R302: where a copy begins. -/
def copyBase (c : Nat) : Nat := if c = 0 then 0 else 0x080000

end Sys2Proof.Machine
end

