-- ==== Sys2Proof/Machine/Iz.lean ====
section
/-! DEFINITION. IZ-30 mode (R432 to R454): the EEPROM image, the native settings underneath, the IZ-30 registers and the loops.
The host's transactions are in IzPort.lean. -/

namespace Sys2Proof.Machine

/-- R435: a register that the EEPROM image mirrors. -/
def izMirrored (r : Nat) : Bool := within 0x08 0x0D r || within 0x10 0xBF r

/-- R442: the bits of a writable configuration register; 0 for every other register. -/
def izMask (r : Nat) : Nat :=
  if within 0x08 0x0D r then 255
  else if within 0x10 0x8F r then (let o := r % 16; if o = 1 then 15 else if o = 0 ∨ o = 2 ∨ o = 3 then 7 else 255)
  else if within 0x90 0x99 r then 7
  else if within 0x9C 0x9F r then 3
  else if within 0xA0 0xAF r then 255
  else if within 0xB0 0xB3 r then 0x8F
  else 0

/-- R442: the present value of an IZ-30 register; status bits and pairs that other blocks hold are shown as they are. -/
def State.iz (s : State) (r : Nat) : Nat :=
  if r = 0x00 then 0x30
  else if r = 0x01 then 0x14
  else if r = 0x02 then
    b2n (!s.on Hid.izReload && !s.on Reg.SUPV_LANE_STOPPED) + (s.rdAt Hid.izV 2 &&& 0x8E) +
      16 * b2n ((upTo 4).any (fun j => let v := s.vlv (2 * j); v == vFault || v == vBlocked)) + 32 * b2n (s.rdAt Hid.izV 0x0E != 0)
  else if r = 0x03 then 0
  else if izMirrored r then s.rdAt Hid.izI r
  else if within 0xC0 0xDF r then s.rdAt Hid.izH r
  else if within 0xF0 0xF3 r then
    let f := (r - 0xF0) / 2
    let v := if s.onAt Reg.FANT_CTRL_TACH_EN f then s.rdAt Reg.FANT_MEAS_SPEED f else 0
    if r % 2 = 0 then v / 256 else v % 256
  else if within 0xF4 0xFB r then
    let v := s.rdAt Hid.ruCode ((r - 0xF4) / 2)
    if r % 2 = 0 then v / 16 else v % 16 * 16
  else s.rdAt Hid.izV r

/-- A signed 16-bit IZ-30 value, its high byte at the lower number (R440). -/
def State.iz16 (s : State) (r : Nat) : Int := toI 16 (s.iz r * 256 + s.iz (r + 1))

/-- R440: registers that hold the high byte of a pair. -/
def izPairHigh (r : Nat) : Bool :=
  r % 2 == 0 && ((within 0x10 0x8F r && within 4 12 (r % 16)) || (within 0xC0 0xDF r && r % 4 == 0) || within 0xE0 0xFB r)

/-- R440: registers that hold the low byte of a pair. -/
def izPairLow (r : Nat) : Bool := r % 2 == 1 && izPairHigh (r - 1)

/-- R442: PV_IN of loop `n`; 12 to 15 act as 0. -/
def State.izPv (s : State) (n : Nat) : Nat := let v := s.iz (0x11 + 16 * n) % 16; if 12 ≤ v then 0 else v

/-- OUTSEL of loop `n`; 7 acts as 0. -/
def State.izOutsel (s : State) (n : Nat) : Nat := let v := s.iz (0x13 + 16 * n) % 8; if v = 7 then 0 else v

/-- EN of loop `n`. -/
def State.izEn (s : State) (n : Nat) : Bool := bit (s.iz (0x10 + 16 * n)) 0

/-- R445: the output that loop `n` names, 0 where it is disabled. -/
def State.izNames (s : State) (n : Nat) : Nat := if s.izEn n then s.izOutsel n else 0

/-- R445, R450, R451: at the end of BOOT each loop drives the output that the image gives it. -/
def State.izDrivers (s : State) : State := s.each (upTo 8) (fun t n => t.wrAt Hid.izDrv n (t.izNames n))

/-- R445: the highest-numbered enabled loop that names output `o` (1 to 6), as the loops read EN and OUTSEL at their last evaluations, or
as BOOT left them before the first. -/
def State.izDriver (s : State) (o : Nat) : Option Nat := (upTo 8).reverse.find? (fun n => s.rdAt Hid.izDrv n == o)

/-- R442: MODE of input `k`, as the native MODE of R438; a reserved code acts as 0. -/
def izUiMode (v : Nat) : Nat := [0, 1, 4, 5, 6, 10, 7].getD (v % 8) 0

/-- R450: MODE of output `j`, as the native MODE; 3 acts as 0. -/
def izVlvMode (v : Nat) : Nat := [0, 1, 3].getD (v % 4) 0

/-- R438, R450, R451: the native settings that follow the IZ-30 registers. `act` says that the changes act at once. -/
def State.izNative (s : State) (act : Bool) : State :=
  let t := s.each (upTo 8) (fun t k =>
    let u := t.wrAt Reg.UI_CFG_MODE k (izUiMode (t.iz (0x90 + k)))
    if act then u.settingsChanged t k else u)
  let u := t.each (upTo 4) (fun t j =>
    let n := 2 * j
    let mode := izVlvMode (t.iz (0x9C + j))
    let hold := (clampI 20 (if mode = 0 then 1500 else 800) (10 * t.iz (0xA2 + 4 * j))).toNat
    let peak := min 1500 (10 * t.iz (0xA0 + 4 * j))
    let tpk := min 1000 (10 * t.iz (0xA1 + 4 * j))
    let v := t.wrsAt n [(Reg.VLV_PEAK0_I_PEAK, peak), (Reg.VLV_PEAK1_I_PEAK, peak), (Reg.VLV_PEAK2_I_PEAK, peak),
      (Reg.VLV_PEAK0_T_PEAK, tpk), (Reg.VLV_PEAK1_T_PEAK, tpk), (Reg.VLV_PEAK2_T_PEAK, tpk), (Reg.VLV_HOLD_I_HOLD, hold),
      (Reg.VLV_HOLD_I_HOLD_MIN, hold), (Reg.VLV_THERM_V_RATED, (clampI 1000 32000 (200 * t.iz (0xA3 + 4 * j))).toNat)]
    if act then v.vlvWriteCfg n (mode + 4 + 8)
    else v.wrsAt n [(Reg.VLV_CFG_MODE, mode), (Reg.VLV_CFG_HS_USE, 1), (Reg.VLV_CFG_DIAG_OFF, 1)])
  u.each (upTo 2) (fun t f =>
    let c := t.iz (0x98 + f)
    t.wrsAt f [(Reg.FANT_CTRL_TACH_EN, bits c 0 1), (Reg.FANT_CTRL_OD, bits c 1 1), (Reg.FANT_CTRL_INV, bits c 2 1)])

/-- R438: the fixed native settings. OSR 4 is code 1 (R153). -/
def State.izFixed (s : State) : State :=
  let t := s.wrs [(Reg.CONV_VREF_VREF, 25000), (Reg.CONV_PRIV_THERM, 1), (Reg.CONV_PRIV_SUPV, 1), (Reg.CONV_PRIV_CAL, 1),
    (Reg.CONV_OWN_HI_OWN, 0x403F0000), (Reg.CAL_CTRL_AUTO_EN, 1), (Reg.ARB_HOLD_HOLD_LIMIT, 64), (Reg.SUPV_WDT_TIMEOUT, 100),
    (Reg.VLV_DIAG_CFG_DIAG_PERIOD, 60)]
  let u := (t.wrsAt 0 [(Reg.CONV_SCAN_LO_MASK, 0xFF), (Reg.CONV_SCAN_HI_MASK, 0x3FC00000)]).wrsAt 1 [(Reg.CONV_SCAN_HI_MASK, 0x403F0000)]
  let v := u.each (upTo 8) (fun t k => (t.wrsAt k [(Reg.UI_FILT_OSR, 1), (Reg.UI_LIN_BETA, 3950)]).each [0, 1] (fun t w =>
    t.wrCoach k w (if w = 0 then 64 + 256 else 250)))
  let w := v.each (upTo 4) (fun t j => t.wrsAt (2 * j) [(Reg.VLV_TIMING_PEAK_WAIT, 10), (Reg.VLV_TIMING_T_RISE, 20)])
  (w.each (upTo 2) (fun t f => t.wrsAt f [(Reg.FANT_CTRL_EN, 1), (Reg.FANT_LIM_MAX_RPM, 10000)])).wrsAt 1
    [(Reg.BUS_CFG_BAUD, 0), (Reg.BUS_CFG_PARITY, 0), (Reg.BUS_CFG_BIAS, 1)]

/-- R435, R436: the mirrored bytes of an EEPROM image copied into the registers. -/
def State.izMirror (s : State) (m : List Host.Cell) : State :=
  s.each ((upTo 256).filter izMirrored) (fun t r => t.wrAt Hid.izI r (Memory.read m r &&& izMask r))

/-- R434: an address byte that is not acknowledged is sent again up to 8 times. -/
def eepAnswers (a : Sys2Proof.EepAcks) : Bool := decide (a.write ≤ 8) && decide (a.read ≤ 8)

/-- R436, R437: why an EEPROM image is rejected: reason and index, or none. -/
def State.izReject (s : State) (m : List Host.Cell) (answers : Bool) : Option (Nat × Nat) :=
  let len := Memory.read m 2
  let l := if len = 0 then 256 else len
  if answers = false then some (rMemory, 255)
  else if s.otp.actSigned then some (rSigMissing, 255)
  else if Memory.read m 0 ≠ 0x49 then some (rMagic, 0)
  else if Memory.read m 1 ≠ 0x5A then some (rMagic, 1)
  else if within 1 3 (Memory.read m 3) = false then some (rFormat, 3)
  else if within 1 4 len then some (rLength, 2)
  else if ((upTo l).foldl (fun a k => a + Memory.read m k) 0) % 256 ≠ 0 then some (rCopyCrc, 255)
  else none

/-- Saturation to 24 bits (R446). -/
def sat24 (x : Int) : Int := clampI (-8388608) 8388607 x

/-- R446, R452: the code a loop reads as PV. -/
def State.izCodeOf (s : State) (sel : Nat) : Int := if sel < 8 then s.rdAt Hid.izCode sel else s.rdAt Hid.ruCode (sel - 8)

/-- R447: the set-point of loop `n`. -/
def State.izSetpoint (s : State) (n : Nat) : Int :=
  if bit (s.iz (0x10 + 16 * n)) 2 then
    let lo := s.iz16 (0x1A + 16 * n)
    let hi := s.iz16 (0x1C + 16 * n)
    lo + truncDiv ((hi - lo) * s.izCodeOf (s.iz (0x12 + 16 * n) % 8)) 4095
  else s.iz16 (0x14 + 16 * n)

/-- R446: one evaluation of a CLOSED loop: the new ACC and the output byte. -/
def State.izLaw (s : State) (n : Nat) (acc : Int) : Int × Nat :=
  let e0 := sat16 (s.izSetpoint n - s.izCodeOf (s.izPv n))
  let e := if bit (s.iz (0x10 + 16 * n)) 1 then sat16 (-e0) else e0
  let p := sat16 (truncDiv (e * s.iz16 (0x16 + 16 * n)) 256)
  let a := sat24 (acc + truncDiv (e * s.iz16 (0x18 + 16 * n)) 256)
  let u := p + truncDiv a 256
  (a, (max (min u (s.iz (0x1F + 16 * n))) (s.iz (0x1E + 16 * n))).toNat)

/-- R448: the AINs a loop uses. -/
def State.izUses (s : State) (n : Nat) : List Nat :=
  if s.izEn n then
    (if s.izPv n < 8 then [s.izPv n] else []) ++ (if bit (s.iz (0x10 + 16 * n)) 2 then [s.iz (0x12 + 16 * n) % 8] else [])
  else []

/-- R449, R450, R451: a byte sent to output `o` (1 to 6) over the actuator command bus. -/
def State.izSend (s : State) (o byte src : Nat) : State :=
  if o = 0 then s
  else
    let a : ActCmd := if o ≤ 4 then { kind := 1, index := 2 * (o - 1), value := byte * 257, src := src }
      else { kind := 3, index := o - 4, value := byte * 257, src := src }
    { s.count 0x29 with actQ := s.actQ ++ [a] }

/-- What one evaluation of an IZ-30 loop leaves: STATE, PRE_SHUT, cause, RELCNT, ACC, output byte, the PV code when it is new, the bits
it sets in STICKY, events; whether the output byte is known (R102), and whether it may be sent. -/
structure IzEv where
  state : Nat
  pre : Nat
  sticky : Nat
  cause : Nat
  rel : Nat
  acc : Int
  out : Nat
  pv : Option Nat
  hold : Bool
  entered : Bool
  codes : List Nat
  known : Bool := true
  send : Bool := true
  deriving DecidableEq, Repr

/-- R102, R438: the byte that a loop shuttered for ECC holds. SAFE_SEL is 1, so it is `out` where the words it needs can be read: OUT, and
CFG where the loop enters SHUTTERED (log entry 29); else it is that of SAFE_VALUE, which is 0 in IZ-30 mode; none where that cannot be
read either. -/
def State.izHeld (s : State) (n out : Nat) (entering : Bool) : Option Nat :=
  let bad := s.unreadable n
  if bad 52 || (entering && bad 0) then (if bad 21 then none else some 0) else some out

/-- R102, R445 to R448: one evaluation of loop `n`. A loop whose EN is 0 is OPEN, whatever shuttered it. A STATUS that cannot be read is taken
as SHUTTERED for ECC with PRE_SHUT OPEN and RELCNT 0 (log entry 72). -/
def State.izEvaluate (s : State) (n : Nat) : IzEv :=
  let bad := s.unreadable n
  let st := if bad 44 then 3 + 3 * 256 else s.cw n 44
  let uses := s.izUses n
  let ecc := (upTo 64).any bad
  let stale := uses.any (fun k => decide (750 < s.rdAt Reg.UI_AGE_AGE k))
  let hold := uses.any (fun k => let r := s.rdAt Reg.UI_VALUE_REASON k; r == 1 || decide (6 ≤ r))
  let out := s.rdAt Hid.izH (0xC2 + 4 * n)
  let acc := toI 32 (s.cw n 49)
  let e : IzEv :=
    { state := stState st, pre := bits st 16 2, sticky := b2n stale * 64 + b2n hold * 256, cause := stCause st, rel := bits st 20 4, acc := acc,
      out := out, pv := none, hold := false, entered := false, codes := [] }
  let cause := if ecc then 3 else if stale then 1 else 0
  let staleCode := if stale then [0x24] else []
  if s.izEn n = false then
    { e with state := 0, cause := 0, rel := if ecc then 0 else capN 15 (e.rel + 1), acc := 0, out := 0 }
  else if cause ≠ 0 then
    let held := if ecc then s.izHeld n out (e.state != 3 || bad 44) else some out
    let e1 := { e with
      sticky := b2n stale * 64, rel := 0, out := held.getD out, known := held.isSome,
      send := held.isSome && !(bad 52 && (bad 6 || bad 7)) }
    if e.state = 3 then { e1 with cause := if causeRank e.cause < causeRank cause then cause else e.cause, codes := staleCode }
    else { e1 with state := 3, pre := e.state, sticky := e1.sticky + 128, cause := cause, entered := true, codes := staleCode ++ [0x23] }
  else
    let r := capN 15 (e.rel + 1)
    if hold then { e with rel := r, hold := true, codes := [0x22] }
    else if e.state = 3 ∧ (r < 10 ∨ e.cause = 3) then { e with rel := r }
    else
      let l := s.izLaw n acc
      { e with state := 1, cause := 0, rel := r, acc := l.1, out := l.2, pv := some (s.izCodeOf (s.izPv n)).toNat }

/-- R46: the words that a commit writes and that hold nothing of an IZ-30 loop. -/
def izIdle : List Nat := [41, 42, 46, 47, 48, 50, 51] ++ (upTo 9).map (fun k => 54 + k)

/-- R46, R445: the words a commit of an IZ-30 loop forms: STATUS, STICKY, LAST_TICK; I_TERM, which holds ACC, but of a loop that is and stays
SHUTTERED; OUT, which holds the command, where it is known. -/
def State.izWords (s : State) (n tick : Nat) (e : IzEv) : List (Nat × Nat) :=
  let status := e.state + 4 + 8 + b2n e.hold * 128 + e.cause * 256 + e.pre * 65536 + e.rel * 1048576
  [(44, status), (45, s.cw n 45 ||| e.sticky), (63, tick % 2 ^ 32)] ++
    (if e.state = 3 ∧ e.entered = false then [] else [(49, ofI 32 e.acc)]) ++ (if e.known then [(52, e.out * 257)] else [])

/-- R445, R46, R102: the commit of an evaluation of an IZ-30 loop, and what it sends: the highest-numbered enabled loop of an output
sends its byte, and a loop that has just been disabled sends 0 where no enabled loop names its output (log entry 20). -/
def State.izCommit (s : State) (n tick : Nat) (e : IzEv) : State :=
  let drv := s.izNames n
  let t1 := (s.commitFixed (s.commitWords n (s.izWords n tick e)) n).wrAt Hid.first n 0
  let u := (t1.wrAt Hid.izH (0xC2 + 4 * n) e.out).wrAt Hid.izH (0xC3 + 4 * n) (ofI 24 e.acc / 65536)
  let v := match e.pv with
    | some p => (u.wrAt Hid.izH (0xC0 + 4 * n) (p / 16)).wrAt Hid.izH (0xC1 + 4 * n) (p % 16 * 16)
    | none => u
  let w := (((v.countAll e.codes).count 0x21).whenB e.entered (fun t => t.raise 0)).kick
  let x := w.wrAt Hid.izDrv n drv
  if s.izEn n then (if x.izDriver drv = some n ∧ e.send = true then x.izSend drv e.out n else x)
  else if s.rdAt Hid.izDrv n ≠ 0 ∧ (x.izDriver (s.rdAt Hid.izDrv n)).isNone = true then x.izSend (s.rdAt Hid.izDrv n) 0 n
  else x

/-- R83, R445: one evaluation of a due loop in IZ-30 mode, voted as in the native modes. -/
def State.evalIz (s : State) (d : Due) (env : Sys2Proof.EvalEnv) : State :=
  let c := d.coach
  let t0 := s.each env.upsets (fun t p => t.upset c p.1 p.2)
  let t1 := (t0.each ((upTo 64).map (fun w => (c, w))) (fun t p => t.eccRead c p)).resultErrors env.badResults
  let e := t1.izEvaluate c
  let v := t1.vote c env
  if v.2 then v.1.izCommit c d.tick e else v.1

/-- R450, R451: at each tick the outputs and fans that no enabled loop drives follow their value registers. A value that
stands already is not sent again. They follow while the engine is stopped too, since the IZ-30 view and not a lane sends them (DESIGN
CHOICE, log entry 73: R97 and R98 speak of the engine's commands). -/
def State.izTickOut (s : State) : State :=
  let t := s.each (upTo 4) (fun t j =>
    if (t.izDriver (j + 1)).isSome ∨ t.rdAt Reg.VLV_STATE_VALUE (2 * j) = t.iz (0x0A + j) * 257 then t
    else t.izSend (j + 1) (t.iz (0x0A + j)) 160)
  t.each (upTo 2) (fun t f =>
    if (t.izDriver (f + 5)).isSome ∨ t.rdAt Reg.FANT_MEAS_DUTY f = t.iz (0x08 + f) * 257 then t
    else t.izSend (f + 5) (t.iz (0x08 + f)) 160)

/-- R452, R383: room units are polled in IZ-30 mode outside clock fallback. -/
def State.ruOn (s : State) : Bool := s.mode == mIz30 && s.alive && !s.on Reg.CLK_STAT_FALLBACK

/-- R452: EN of room unit `j`. -/
def State.ruEn (s : State) (j : Nat) : Bool := bit (s.iz (0xB0 + j)) 7

/-- R452: every second the enabled room units fall due. -/
def State.ruSecond (s : State) : State :=
  if s.ruOn then s.each ((upTo 4).filter s.ruEn) (fun t j => t.wrAt Hid.ruDue j 1) else s

/-- R452: of the room units due, the one polled next. -/
def State.ruNext (s : State) : Option Nat := (upTo 4).find? (fun j => s.onAt Hid.ruDue j && s.ruEn j)

/-- R441: the loops after a reload: ACC and OUT 0, and the coach words of coaches 0 to 7 rewritten with fresh check bits. So that no ECC
shutter outlasts it, the other words are rewritten with what they hold (log entry 72). -/
def State.izReloadLoops (s : State) : State :=
  s.each (upTo 8) (fun t n =>
    let ecc := t.unreadable n 44 || (stState (t.cw n 44) == 3 && stCause (t.cw n 44) == 3)
    let u := t.each groupWords (fun t w => t.wrCoach n w (if w = 0 then 64 + 256 else if w = 1 then 250 else 0))
    let v := (u.each (izIdle ++ [44, 45, 53, 63]) (fun t w => t.wrCoach n w (t.cw n w))).each [49, 52] (fun t w => t.wrCoach n w 0)
    let w := (v.wrAt Hid.izH (0xC2 + 4 * n) 0).wrAt Hid.izH (0xC3 + 4 * n) 0
    if ecc then w.wrCoach n 44 (if w.izEn n then 13 else 12) else w)

end Sys2Proof.Machine
end

