-- ==== Sys2Proof/Machine/NetBase.lean ====
section
/-! DEFINITION. What other chapters do to the network (R356 to R360, R377, R383): its ports start and stop with the modes, the
clock and the protocol processor. Its own commands stand in Net.lean. The panel's start and stop conditions (R422, R424) stand
here too. -/

namespace Sys2Proof.Machine

/-- R383: the protocol processor runs and its ports may. -/
def State.netOn (s : State) : Bool := s.native && s.alive && !s.on Reg.CLK_STAT_FALLBACK && s.on Reg.NET_STAT_PP_RUN

/-- NET_CTRL.EN: port or protocol `k` (0 T1L, 1 BACnet/IP, 2 BACnet/SC, 3 BUS1, 4 BUS2). -/
def State.netEn (s : State) (k : Nat) : Bool := bit (s.rd Reg.NET_CTRL_EN) k

/-- What the controller answers or sends. -/
def State.say (s : State) (l : List NetOut) : State := { s with net := { s.net with out := s.net.out ++ l } }

/-- A network command begins: the messages of the one before are gone. -/
def State.hush (s : State) : State := { s with net := { s.net with out := [] } }

/-- R26: whether the buffer of the next frame to be sent has an error. -/
def State.setTxBad (s : State) (b : Bool) : State := { s with net := { s.net with txBad := b } }

/-- R26: the MAC's record of an error in one of its buffers. -/
def State.macErr (s : State) : State := (s.setTxBad false).memErr Reg.MEM_ERR_MAC

/-- R357: the PHY wakes from low-power idle for `n` frames, received or sent, and enters it again when it has nothing to send. -/
def State.lpiWake (s : State) (n : Nat) : State := s.levelDrop 0xBF n

/-- R386: `n` Ethernet frames go out. -/
def State.txFrames (s : State) (n : Nat) : State := (s.lpiWake n).countN 0xB3 n

/-- What the controller sends of its own accord on T1L: each message is counted as a frame (R386). A frame whose buffer has an error is
not sent (R26). -/
def State.tx (s : State) (l : List NetSend) : State :=
  let t := if s.net.txBad = true ∧ l ≠ [] then s.macErr else s
  let sent := if s.net.txBad then l.drop 1 else l
  (t.txFrames sent.length).say (sent.map NetOut.send)

/-- The T1L port carries traffic. -/
def State.t1l (s : State) : Bool := s.netOn && s.netEn 0 && s.on Reg.NET_STAT_LINK

/-- R361: a BACnet/SC connection is up. -/
def State.scUp (s : State) : Bool := s.rd Reg.NET_STAT_SC_STATE == 4 || s.rd Reg.NET_STAT_SC_STATE == 5

/-- An RS-485 port runs with a protocol: 1 MS/TP, 2 Modbus server, 3 Modbus client. -/
def State.busOn (s : State) (k proto : Nat) : Bool := s.netOn && s.netEn (3 + k) && s.rdAt Reg.BUS_CFG_PROTO k == proto

/-- R353: BACnet runs on a port: 0 BACnet/IP, 1 BACnet/SC, 2 BUS1, 3 BUS2. -/
def State.bacOn (s : State) (port : Nat) : Bool :=
  if port = 0 then s.t1l && s.netEn 1 && s.on Reg.NET_STAT_IP_OK
  else if port = 1 then s.netOn && s.netEn 2 && s.scUp
  else s.busOn (port - 2) 1

/-- R353: the port that carries BACnet now. -/
def State.bacPort (s : State) : Option Nat := (upTo 4).find? s.bacOn

/-- R26: a message of port `port` cannot be sent, because its MAC buffer has an error. -/
def State.blocked (s : State) (port : Nat) : Bool := s.net.txBad && decide (port ≤ 1)

/-- R386: Ethernet frames of a TCP connection, of TLS and of WebSocket that no message of the model is: acknowledgements, records of a
handshake, closes. The spec does not number them: a free count (log entry 72). -/
def State.scFrames (s : State) : State := (s.freeBelow 65536).2.txFrames (s.freeBelow 65536).1

/-- R386: a message goes out on a port: it is a frame of T1L, and on BACnet/SC the crypto engine works for it and the connection may
need more frames. -/
def State.put (s : State) (port : Nat) (l : List NetOut) : State :=
  let t := s.txFrames (b2n (decide (port ≤ 1)))
  (if port = 1 then (t.levelPulse 0xBE).scFrames else t).say l

/-- A frame of port `port` that may go: its messages, and the event that counts it as it is sent (R386). One whose buffer has an error is not
sent (R26). -/
def State.sendFrame (s : State) (port : Nat) (m : List NetOut × Option Nat) : State :=
  if s.blocked port then s.macErr
  else (match m.2 with | some c => s.count c | none => s).put port m.1

/-- R366: a frame waits for the token. -/
def State.waitToken (s : State) (m : List NetOut × Option Nat) : State :=
  { s with net := { s.net with queue := s.net.queue ++ [m] } }

/-- R366: a frame of the node's own waits for the token on MS/TP, which a sole master holds. -/
def State.needsToken (s : State) (port : Nat) : Bool := decide (2 ≤ port) && s.rdAt Reg.BUS_STAT_STATE (port - 2) != 3

/-- R366: an answer that Reply Postponed has put off waits for the token. -/
def State.putOff (s : State) (port : Nat) : Bool := s.net.postponed && s.needsToken port

/-- A frame that answers a request of port `port`. -/
def State.replyFrame (s : State) (port : Nat) (m : List NetOut × Option Nat) : State :=
  if s.putOff port then s.waitToken m else s.sendFrame port m

/-- A message that answers a request of port `port`. -/
def State.answer (s : State) (port : Nat) (l : List NetOut) : State := s.replyFrame port (l, none)

/-- R386: the notification that a message is, as it is sent. -/
def NetOut.notice : NetOut → Option Nat
  | .covNotify _ _ _ => some 0xC2
  | .eventNotify _ _ => some 0xC3
  | .ackNotify _ _ => some 0xC3
  | .bufferReady _ _ => some 0xC3
  | _ => none

/-- A message of the controller's own accord on a port. -/
def State.sendOwn (s : State) (port : Nat) (m : NetOut) : State :=
  if s.needsToken port then s.waitToken ([m], m.notice) else s.sendFrame port ([m], m.notice)

/-- A message that the device initiates goes to the port that carries BACnet. Without such a port nothing is sent. -/
def State.initiate (s : State) (m : NetOut) : State :=
  match s.bacPort with
  | none => s
  | some p => s.sendOwn p m

/-- R360: how a broadcast goes out on a port. -/
def State.castHow (s : State) (port : Nat) : NetCast :=
  if port = 0 ∧ s.rd Reg.NET_FDR_FDR_STATE = 2 then .distribute else .onLink

/-- R358: no address is in use or being probed, and no foreign-device registration stands (R360). -/
def State.ipDrop (s : State) : State :=
  s.wrs [(Reg.NET_STAT_IP_OK, 0), (Reg.NET_IP_ADDR_ADDR, 0), (Reg.NET_IP_MASK_MASK, 0), (Reg.NET_IP_GW_GW, 0), (Hid.ipSrc, 0),
    (Reg.NET_FDR_FDR_STATE, 0), (Hid.ipWait, 0)]

/-- R358: an address is in use: registration and BACnet/SC start. -/
def State.ipUse (s : State) (src addr mask gw : Nat) : State :=
  let t := s.wrs [(Reg.NET_STAT_IP_OK, 1), (Reg.NET_IP_ADDR_ADDR, addr), (Reg.NET_IP_MASK_MASK, mask), (Reg.NET_IP_GW_GW, gw), (Hid.ipSrc, src),
    (Hid.ipWait, 0)]
  if s.netEn 1 && s.on Reg.NET_CTRL_FDR_EN && s.rd Reg.NET_FDR_FDR_STATE == 0 then
    (t.wr Reg.NET_FDR_FDR_STATE 1).tx [.fdrRegister]
  else t

/-- R358: an address is probed: the three ARP probes go out, and the address is used when they have gone unanswered for the time of
RFC 5227, 4 to 7 s, which ends at one of the next 4 to 8 whole seconds (log entry 70). -/
def State.ipProbe (s : State) (src addr mask gw : Nat) : State :=
  let f := s.freeBelow 5
  (f.2.wrs [(Hid.ipSrc, src), (Hid.ipWait, 4 + f.1), (Hid.ipCand, addr), (Hid.ipCandMask, mask), (Hid.ipCandGw, gw)]).tx
    [.arpProbe, .arpProbe, .arpProbe]

/-- R358: a second of probing passes; at the last one the address is used. -/
def State.ipSecond (s : State) : State :=
  if s.rd Hid.ipWait = 0 then s
  else if 1 < s.rd Hid.ipWait then s.wr Hid.ipWait (s.rd Hid.ipWait - 1)
  else s.ipUse (s.rd Hid.ipSrc) (s.rd Hid.ipCand) (s.rd Hid.ipCandMask) (s.rd Hid.ipCandGw)

/-- R358: IPv4 starts: a DHCP client looks for a lease, or the static address is probed. -/
def State.ipStart (s : State) : State :=
  let t := s.ipDrop
  if s.on Reg.NET_CTRL_DHCP_EN then (t.wr Hid.ipSrc 1).tx [.dhcpDiscover]
  else t.ipProbe 2 s.netImg.ip s.netImg.mask s.netImg.gw

/-- R363: the state of BACnet/SC before its first attempt: off, without a key, with a certificate for another key, or connecting. -/
def State.scInit (s : State) : State :=
  let t := s.wrs [(Hid.scOn, 0), (Hid.scBackoff, s.netImg.scMin), (Hid.scAlt, 0), (Reg.NET_SC_STAT_WAIT, 0)]
  if s.netEn 2 = false then t.wr Reg.NET_STAT_SC_STATE 0
  else if s.otp.keySet = false then t.wr Reg.NET_STAT_SC_STATE 1
  else if s.netImg.certKey ≠ s.otp.pub then (t.wr Reg.NET_STAT_SC_STATE 2).or Reg.NET_FLAGS_FLAGS 32
  else t.wrs [(Reg.NET_STAT_SC_STATE, 3), (Hid.scOn, 1)]

/-- R356, R364: a BACnet/SC connection closes. An attempt may follow at once, so no wait runs. -/
def State.scClose (s : State) : State :=
  if s.rd Reg.NET_STAT_SC_STATE = 4 ∨ s.rd Reg.NET_STAT_SC_STATE = 5 then
    ((s.wrs [(Reg.NET_STAT_SC_STATE, 3), (Reg.NET_SC_STAT_WAIT, 0)]).scFrames).count 0xBA
  else s

/-- R356: the link goes down. -/
def State.linkDrop (s : State) : State :=
  if s.on Reg.NET_STAT_LINK then
    (((((s.wr Reg.NET_STAT_LINK 0).or Reg.NET_FLAGS_FLAGS 1).scClose).ipDrop).count 0xB1).raise 11
  else s

/-- BUS_STAT.STATE of an RS-485 port at its start (R383): idle where it is enabled and has a protocol; BUS2 carries the room
units in IZ-30 mode. -/
def State.busInit (s : State) (k : Nat) : State :=
  let st := if s.mode = mIz30 then (if k = 1 ∧ s.on Reg.CLK_STAT_FALLBACK = false then 5 else 0)
    else if s.netOn && s.netEn (3 + k) && s.rdAt Reg.BUS_CFG_PROTO k != 0 then 1 else 0
  s.wrsAt k [(Reg.BUS_STAT_STATE, st), (Reg.BUS_STAT_TOKEN_AGE, 65535)]

/-- R368, R452: no Modbus or room-unit poll is due or awaits a reply any more. -/
def State.mbEnd (s : State) : State :=
  (s.each (upTo 32) (fun t k => t.wrsAt k [(Hid.mbDue, 0), (Hid.mbWait, 0), (Hid.mbTries, 0)])).each (upTo 4) (fun t j =>
    t.wrsAt j [(Hid.ruDue, 0), (Hid.ruWait, 0)])

/-- R368: MB_FAIL shows an entry's number for both buses. -/
def State.mbFlag (s : State) (e : Nat) : State :=
  s.putBit Reg.NET_MB_CLI_MB_FAIL e (s.onAt Hid.mbFail e || s.onAt Hid.mbFail (16 + e))

/-- R19, R383: clock fallback stops the ports: the link is lost, sessions end, polls under way among them, and the buses are off.
NET_STAT.PP_RUN keeps its value while the NET domain stands still: the spec does not say what it reads then (log entry 47). -/
def State.netStop (s : State) : State :=
  let t := ({ s with net := { s.net with queue := [] } } : State).linkDrop.mbEnd
  t.each [0, 1] (fun t k => t.wrAt Reg.BUS_STAT_STATE k 0)

/-- R22, R383: the ports restart; the link trains, which LINK_UP ends. -/
def State.netPorts (s : State) : State := ((s.scInit).busInit 0).busInit 1

/-- R371: the value of an Analog Input as the result store gives it when the protocol processor starts; a SETTLE result gives none, and
then the input has none yet. -/
def State.aiShow (s : State) (i : Nat) : State :=
  if s.rdAt Reg.UI_VALUE_REASON i = 1 then s.wrsAt i [(Hid.aiVal, 0), (Hid.aiRsn, 6)]
  else s.wrsAt i [(Hid.aiVal, s.rdAt Reg.UI_VALUE_VALUE i), (Hid.aiRsn, s.rdAt Reg.UI_VALUE_REASON i)]

/-- R26, R347, R377: the protocol processor starts: what its RAM holds comes from the image, sessions have ended, the
supervision timer starts at NET_TO, the VMAC is drawn (R361), and a non-zero ZONE_FORCE stands at priority 16 (R375). While its patch RAM
waits to be reloaded it does not run. -/
def State.netRestart (s : State) : State :=
  let img := s.netImg
  let zs := (upTo 16).filter (fun z => s.rdAt Reg.ZONE_FORCE_FORCE z != 0)
  let zones := zs.map (fun z => (z, List.replicate 15 none ++ [some (s.rdAt Reg.ZONE_FORCE_FORCE z)]))
  let ram : NetS :=
    { zones := zones, trends := (img.trends ++ List.replicate 8 ({} : TrendLog)).take 8, objs := img.objs,
      classes := (img.classes ++ List.replicate 4 ({} : NotifyClass)).take 4, utcOffset := img.utcOffset, dst := img.dst }
  let avs : List Av := (img.avRel.filter (fun p => p.2 != 0)).map (fun p => { inst := p.1, rel := p.2, out := p.2 })
  let pp := s.native && !s.on Hid.ppRom && !s.hatch.path.contains 4
  let run := pp && !s.on Reg.CLK_STAT_FALLBACK
  let t := ({ s with net := ram, avs := avs } : State).ipDrop
  let u := t.wrs [(Reg.NET_STAT_LINK, 0), (Reg.NET_STAT_AMPL, 0), (Reg.NET_STAT_TIME_UNCHK, 0), (Reg.NET_STAT_DCC, 0),
    (Reg.NET_STAT_PP_RUN, b2n pp), (Hid.supAge, 0), (Reg.NET_PHY_SQI, 0), (Reg.NET_SUP_LEFT_LEFT, s.rd Reg.NET_SUP_NET_TO),
    (Reg.NET_SC_STAT_ALERT, 0), (Reg.NET_MB_CLI_MB_FAIL, 0), (Reg.NET_COV_ACTIVE, 0), (Hid.eee, 0)]
  let w := (u.mbEnd.each (upTo 32) (fun t k => t.wrAt Hid.mbFail k 0)).each (upTo 40) State.aiShow
  let x := w.freeBelow (2 ^ 48)
  let y := x.2.wr Hid.vmac x.1
  if run then y.netPorts else (y.wr Reg.NET_STAT_SC_STATE 0).each [0, 1] (fun t k => (t.wrAt Reg.BUS_STAT_STATE k 0).busInit k)

/-- R26: the patch RAM is reloaded from the PATCH section of the active copy. -/
def State.patchReload (s : State) : State :=
  if 2 ≤ s.rd Reg.BOOT_STAT_COPY then s
  else
    let base := copyBase (s.rd Reg.BOOT_STAT_COPY)
    if headerReason s.flash base ≠ 0 then s
    else
      let n := Memory.word s.flash (base + 12)
      match sectionsOf (n + 1) (Memory.words s.flash (base + 32) (n - 8)) with
      | none => s
      | some l =>
        match l.find? (fun x => x.typ == 14 && x.crcOk) with
        | none => s
        | some x => s.each (upTo x.payload.length) (fun t k => t.wrAt Hid.patch k (x.payload.getD k 0))

/-- R26, R401: the reload of the patch RAM through the hatch path ends at a wheel tick at which the path serves it, by a free bit
(DESIGN CHOICE, log entry 72: no row of the table ends it); the protocol processor then starts. -/
def State.patchTick (s : State) : State :=
  if s.hatch.path.contains 4 && s.pathServes 4 then
    let f := s.freeBelow 2
    if f.1 = 0 then f.2 else ((f.2.pathLeave 4).patchReload).netRestart
  else s

/-- R420, R422: the panel may run: LINES, the mode, no OFF and no EW. -/
def State.panelMay (s : State) : Bool :=
  s.native && s.alive && s.rd Reg.DISP_CTRL_LINES != 0 && !s.on Hid.dispOff && !s.on Reg.PWR_STAT_EW

/-- R430: STATE of a panel that does not run. -/
def State.panelIdle (s : State) : State :=
  let st := s.rd Reg.DISP_STAT_STATE
  if 2 ≤ st ∧ st ≤ 4 then s
  else s.wr Reg.DISP_STAT_STATE (if s.panelMay = false then 0 else if st = 5 ∧ s.rd Reg.DISP_STAT_SUP_OK ≠ 15 then 5 else 1)

/-- R421, R424: a discharge starts; during one, a request changes nothing. -/
def State.panelDischarge (s : State) : State :=
  if s.rd Reg.DISP_STAT_STATE = 2 ∨ s.rd Reg.DISP_STAT_STATE = 3 then
    s.panelAbandon.wrs [(Reg.DISP_STAT_STATE, 4), (Reg.DISP_STAT_SLOT, 0), (Hid.dispHold, 0), (Hid.dispRb, 0), (Hid.dispUs, 0)]
  else s.panelIdle

end Sys2Proof.Machine
end

