-- ==== Sys2Proof/Machine/Reset.lean ====
section
/-! DEFINITION. What resets do (R344 to R348): a coach's enable (R69), the flash at a reset (R348), the boot reset and the soft
reset with its exceptions (R347). -/

namespace Sys2Proof.Machine

/-- R69: an evaluation of coach `c` that is due and has not begun is not made. -/
def State.dropDue (s : State) (c : Nat) : State := { s with due := s.due.filter (fun d => d.coach != c) }

/-- R69: PERIOD has become non-zero. STATE stays, which R103 uses. The close of INIT_CLOSED of a coach enabled later than at boot
does not take place: its first evaluation is in OPEN (DESIGN CHOICE, log entry 64: R31 and R69 differ). CMD_PEND stays, so a command
that was pending acts at that evaluation (DESIGN CHOICE, log entry 71). -/
def State.coachEnable (s : State) (c : Nat) : State :=
  let s := s.dropDue c
  let t := s.each ([41, 42] ++ (upTo 18).map (fun k => 46 + k)) (fun t w => t.wrCoach c w 0)
  let u := (t.wrCoach c 52 (t.cw c 21)).wrCoach c 44 (clearBits (t.cw c 44) 0x270C + 4)
  u.wrsAt c [(Hid.first, 1), (Hid.closeInit, 0), (Hid.svcOpen, 0), (Hid.svcDrop, 0)]

/-- R32, R69: PERIOD has become 0: EN reads 0 and STATE OPEN, for a coach that a group found SHUTTERED as well (R320). -/
def State.coachDisable (s : State) (c : Nat) : State := (s.dropDue c).wrCoach c 44 (clearBits (s.cw c 44) 0x707)

/-- R69, after words of coach `c` have changed from a machine in which its PERIOD was `was`. -/
def State.coachPeriodChange (s : State) (c was : Nat) : State :=
  if was = 0 ∧ s.coachPeriod c ≠ 0 then s.coachEnable c
  else if was ≠ 0 ∧ s.coachPeriod c = 0 then s.coachDisable c
  else s

/-- R342, R400: with straps 0b10 the hatch reaches the IZ-30 EEPROM. -/
def State.onEeprom (s : State) : Bool := s.rd Reg.BOOT_STAT_STRAP == 2

/-- R400: what a completed program or erase leaves in the memory. -/
def State.hatchApply (s : State) : State :=
  let h := s.hatch
  let l := wordBytes h.addr h.words
  if h.op = 2 then (if s.onEeprom then { s with eeprom := Memory.writes s.eeprom l } else { s with flash := Memory.program s.flash l })
  else if h.op = 3 then { s with flash := Memory.erase s.flash h.addr 4096 }
  else s

/-- A flash byte whose program or erase lost its supply: between `all`, fully done, and the old byte, with free bits. -/
def State.tornByte (s : State) (a all : Nat) : State :=
  let old := Memory.read s.flash a
  let f := s.takeFree
  { f.2 with flash := Memory.write s.flash a ((old &&& all) ||| ((old ||| all) &&& f.1 % 256)) }

/-- R327, R348: a program or erase that loses its supply leaves bits of it done and others not (log entry 21). -/
def State.hatchTorn (s : State) : State :=
  let h := s.hatch
  let l := wordBytes h.addr h.words
  if h.op = 2 then
    (if s.onEeprom then s.each l (fun t p => let f := t.takeFree; { f.2 with eeprom := Memory.write t.eeprom p.1 (f.1 % 256) })
    else s.each l (fun t p => t.tornByte p.1 (Memory.read t.flash p.1 &&& p.2)))
  else if h.op = 3 then s.each (upTo 4096) (fun t k => t.tornByte (h.addr + k) 255)
  else s

/-- R326: a machine as a boot finds it before it reads an image: what the target is judged against. -/
def State.freshBoot (s : State) : State :=
  let t : State := { regs := s.regs.filter (fun c => c.id % 4 == 0), otp := s.otp, flash := s.flash }
  t.imageDefaults

/-- R326: the check of the target: 0, or the reason. -/
def State.targetJudge (s : State) : Nat :=
  let base := copyBase (s.rd Reg.IMG_PERSIST_TARGET)
  let n := s.rd Reg.IMG_PLEN_LENGTH
  if n < 10 ∨ 131072 < n then rLength
  else
    match s.freshBoot.judgeBody (Memory.words s.flash (base + 32) (n - 8)) true (!s.on Reg.CLK_STAT_FALLBACK) with
    | .ok _ => 0
    | .error r => r.reason

/-- R326: SEQ of a new header. -/
def State.nextSeq (s : State) : Nat :=
  if s.mode = mSafe then 0 else (Memory.word s.flash (copyBase (s.rd Reg.BOOT_STAT_COPY) + 8) + 1) % 2 ^ 32

/-- R303, R326: the words of the new header. -/
def State.newHeader (s : State) : List Nat :=
  let base := copyBase (s.rd Reg.IMG_PERSIST_TARGET)
  let n := s.rd Reg.IMG_PLEN_LENGTH
  let h := [0x4B5A4931, 0x0100, s.nextSeq, n, 0, 0, 0]
  h ++ [crcWords (h ++ Memory.words s.flash (base + 32) (n - 8))]

/-- R326: the active copy is whole: its CRC and every section's CRC. -/
def State.activeWhole (s : State) : Bool :=
  let base := copyBase (s.rd Reg.BOOT_STAT_COPY)
  if headerReason s.flash base ≠ 0 then false
  else
    let body := Memory.words s.flash (base + 32) (Memory.word s.flash (base + 12) - 8)
    copyCrcOk (Memory.words s.flash base 8) body &&
      (match sectionsOf (body.length + 1) body with | some l => l.all (fun c => c.crcOk) | none => false)

/-- R326, R327, R348: a persist that a reset ends. An erase that runs ends as erased where the supply holds, and without it may be done
in part; behind an OPEN's check, where the active copy passes it, it has begun or not, by a free bit; one that waits for the hatch path
has not; a COMMIT that a boot reset ends has programmed its header or not, or a part of it without supply (log entry 21). -/
def State.persistCut (s : State) (power boot : Bool) : State :=
  let b := copyBase (s.rd Reg.IMG_PERSIST_TARGET)
  let st := s.rd Reg.IMG_PERSIST_STATE
  let f := s.freeBelow 2
  if s.pathServes 3 = false ∨ (st = 1 ∧ s.activeWhole = false) then s
  else if st = 1 ∨ st = 2 then
    if power then s.each (upTo 4096) (fun t k => t.tornByte (b + k) 255)
    else if st = 2 ∨ f.1 = 1 then { f.2 with flash := Memory.erase f.2.flash b 4096 }
    else f.2
  else if 4 ≤ st ∧ boot = true ∧ s.targetJudge = 0 then
    let l := wordBytes b s.newHeader
    if power then s.each l (fun t p => t.tornByte p.1 (Memory.read t.flash p.1 &&& p.2))
    else if f.1 = 1 then { f.2 with flash := Memory.program f.2.flash l }
    else f.2
  else s

/-- R410: OTP programming that ends: 1 the hash, whose words stand already, 2 SIGNED. -/
def State.otpApply (s : State) : State :=
  if s.rd Hid.otpOp = 1 then { s with otp := { s.otp with hashSet := true } }
  else if s.rd Hid.otpOp = 2 then { s with otp := { s.otp with signed := true } }
  else s

/-- R348, R401: memory operations under way at a reset: a flash operation that runs completes where the supply holds, one that waits for the
hatch path has done nothing, and OTP programming is
done or not by a free bit (log entry 21). -/
def State.memoryEnd (s : State) (power boot : Bool) : State :=
  let t := (if s.pathServes 1 = false then s else if power then s.hatchTorn else s.hatchApply).persistCut power boot
  let f := t.freeBelow 2
  if t.rd Hid.otpOp = 0 then t else if f.1 = 1 then f.2.otpApply else f.2

/-- R425: the panel is clearing, running or discharging. -/
def State.panelLive (s : State) : Bool := decide (2 ≤ s.rd Reg.DISP_STAT_STATE) && decide (s.rd Reg.DISP_STAT_STATE ≤ 4)

/-- R344, R345, R350: a boot reset takes hold: everything but class K, the attached memory, OTP and the test port returns to
its reset contents. -/
def State.bootReset (s : State) (cause : Nat) : State :=
  let m := s.memoryEnd (cause == 1 || cause == 2) true
  let t : State := { pending := m.pending, free := m.free, regs := m.regs.filter (fun c => c.id % 4 == 0), otp := m.otp, flash := m.flash,
                     eeprom := m.eeprom, tap := m.tap }
  t.wrs [(Reg.PWR_MODE_MODE, mBoot), (Reg.RST_CAUSE_CAUSE, cause), (Hid.resetActive, 1), (Hid.pwrCause, cause),
    (Hid.panelDis, b2n (s.panelLive || s.on Hid.panelDis)),
    (Hid.panelDisV, if s.panelLive then s.rd Reg.DISP_VCOM_VCOM_DC else s.rd Hid.panelDisV)]

/-- R320, R324: the restoring commands of an update that a soft reset ends are lost: those of the coaches that it recorded CLOSED or MANUAL
and opened. Coach words are class H, so an OPEN that an update has pended stays. -/
def State.rgnUnpend (s : State) : State :=
  if s.rgn.written then
    s.each (s.rgn.coaches.filter (fun p => p.2 == 1 || p.2 == 2)) (fun t p =>
      let st := t.cw p.1 44
      if stPend st == 2 || stPend st == 3 then t.pokeCoach p.1 44 (clearBits st 0x70) else t)
  else s

/-- The fields that a soft reset leaves alone although their class is V: supply conditions that still hold, the panel, which
keeps running (R429), the duty that the tachometer fans carry, a shift that completes, the wait of R334 (R347, R348; log entry 22). -/
def softKept : List Fld :=
  [Reg.PWR_STAT_EW, Reg.PWR_STAT_VDDA_UV, Reg.PWR_STAT_VM_UV, Reg.PWR_STAT_VM_OV, Reg.PWR_STAT_VDRV_LOW, Reg.DISP_STAT_STATE,
   Reg.DISP_STAT_POL, Reg.DISP_STAT_BAND, Reg.DISP_STAT_SUP_OK, Reg.DISP_STAT_SLOT, Reg.FANT_MEAS_DUTY, Reg.RTC_STAT_SHIFT_PEND, Hid.dispOff, Hid.dispFrames,
   Hid.dispLines, Hid.dispRefresh, Hid.dispHold, Hid.dispRb, Hid.dispUs, Hid.dispDrew, Hid.dispTick, Hid.calHold]

/-- R347: what the mover has of the entry in progress: it is stored where it ends after the hold. -/
def ConvS.inProgress (x : ConvS) : Option Accu :=
  x.entry.bind (fun e => ((x.buf ++ x.data.toList).foldl Accu.take x.accu).filter (fun a => a.seq == e.seq))

/-- R182, R347, R348: calibration and scans at a soft reset: a running calibration is abandoned, every converter scans again,
and C hands a scan it holds back at its next boundary. An entry in progress goes on. -/
def State.softScan (s : State) : State :=
  let r : Relief := match s.relief.target with
    | some c => { target := some c, back := true }
    | none => {}
  let conv := fun (x : ConvS) => ({ phase := x.phase, entry := x.entry, pos := x.pos, seq := x.seq, accu := x.inProgress } : ConvS)
  { s with cals := [{}, {}, {}], relief := r, convs := s.convs.map conv, urgMore := [], xchks := [], pulses := [], snsTx := {}, arb := {} }

/-- R142: every occupancy channel's last detection is this moment. -/
def State.occMoment (s : State) : State := (s.each (upTo 4) (fun t n => t.wrAt Hid.occLast n (t.tick + 1))).occFresh

/-- R347, R348: a soft reset or a warm reinitialise. -/
def State.softReset (s : State) (warm : Bool) : State :=
  let m := (s.memoryEnd false false).rgnUnpend
  let t0 : State := { m with
    regs := m.regs.filter (fun c => c.id % 4 != 3 || softKept.any (fun f => f.id == c.id)),
    intCause := 0, evcs := List.replicate 16 {}, evcWrap := 0, evcStamp := 0, rgn := {}, hatch := { path := m.hatch.path.filter (fun k => k == 4) }, drawn := [], held := [], fbBad := [] }
  let t1 := (t0.softScan.calValues.refreshRelief).each (upTo 12) (fun t k => t.wrAt Hid.calTick k s.tick)
  let t2 := t1.wrs [(Hid.softHold, 1), (Reg.RST_CAUSE_SOFT_CNT, capN 255 (s.rd Reg.RST_CAUSE_SOFT_CNT + 1)),
    (Reg.RST_CAUSE_LAST_SOFT, b2n warm), (Reg.HOST_HB_CFG_LEFT, s.rd Reg.HOST_HB_CFG_HB_TIMEOUT),
    (Reg.SUPV_WDT_REMAIN, s.rd Reg.SUPV_WDT_TIMEOUT), (Hid.dispPage, b2n (!s.on Reg.DISP_CTRL_SRC))]
  let t3 := t2.whenB (s.rd Reg.SUPV_LANE_CMD_CMD == 1) (fun t => t.wr Reg.SUPV_LANE_SWAP_BUSY 0)
  (t3.whenB (t3.mode == mIz30) (fun t => t.wrAt Hid.izV 2 0x82)).netRestart.occMoment.fastBesideFailed

/-- R347: the hold ends: every occupancy channel's last detection is this moment (R142). -/
def State.softEnd (s : State) : State := (s.wr Hid.softHold 0).occMoment

end Sys2Proof.Machine
end

