-- ==== Sys2Proof/Machine/NetObj.lean ====
section
/-! DEFINITION. The object model (R369 to R377): REAL values (R370), what each property reads, and what changes of a value do to
subscriptions and trend logs. Codes of enumerations are those of ANSI/ASHRAE 135, which R359 names (log entry 23). -/

namespace Sys2Proof.Machine

open Sys2Proof (BacObj BacProp BacVal BacRef NetObj)

/-- The binary32 of 2^k ≤ |x| < 2^(k+1), where the significand is `q` of 24 bits. -/
def packReal (neg : Bool) (k : Int) (q : Nat) : Nat :=
  let r := if q = 2 ^ 24 then (q / 2, k + 1) else (q, k)
  b2n neg * 2 ^ 31 + (r.2 + 127).toNat * 2 ^ 23 + (r.1 - 2 ^ 23)

/-- A quotient of naturals to nearest, ties to even. -/
def divEven (a b : Nat) : Nat :=
  let q := a / b
  let r := a % b
  if b < 2 * r ∨ (2 * r = b ∧ q % 2 = 1) then q + 1 else q

/-- R370: the binary32 nearest to `n / d`, ties to even, for values of normal size. -/
def realOf (n : Int) (d : Nat) : Nat :=
  let m := n.natAbs
  if m = 0 then 0
  else
    let k0 : Int := (Nat.log2 m : Int) - Nat.log2 d
    let le := fun (k : Int) => if 0 ≤ k then decide (d * 2 ^ k.toNat ≤ m) else decide (d ≤ m * 2 ^ (-k).toNat)
    let k := if le k0 then k0 else k0 - 1
    let s := 23 - k
    packReal (decide (n < 0)) k (if 0 ≤ s then divEven (m * 2 ^ s.toNat) d else divEven m (d * 2 ^ (-s).toNat))

/-- R370: a Q16.16 value as a binary32. -/
def realOfQ (x : Int) : Nat := realOf x 65536

/-- A finite binary32 as a multiple of 2^-149; none for NaN and the infinities. -/
def realScaled (b : Nat) : Option Int :=
  let e := bits b 23 8
  let f := bits b 0 23
  if e = 255 then none
  else
    let m := if e = 0 then f else (f + 2 ^ 23) * 2 ^ (e - 1)
    some (if bit b 31 then -(m : Int) else m)

/-- A rational rounded to Q16.16 with ties away from zero; none where it lies outside 32 bits (R370). -/
def qOfRat (n : Int) (d : Nat) : Option Int :=
  let q := rndAway (n * 65536) d
  if -2147483648 ≤ q ∧ q ≤ 2147483647 then some q else none

/-- R370: a written REAL as it is stored, or none where it is refused. -/
def qOfReal (b : Nat) : Option Int := (realScaled b).bind (fun x => qOfRat x (2 ^ 149))

/-- The objects that exist (R369). -/
def objExists : BacObj → Bool
  | .device => true
  | .analogInput n => decide (n < 40)
  | .analogValue n => decide (n < 256)
  | .binaryOutput n => decide (n ≤ 5) || (decide (10 ≤ n) && decide (n ≤ 17))
  | .multiState n => decide (n < 16)
  | .loop n => decide (n < 160)
  | .schedule n => decide (n < 16)
  | .calendar => true
  | .notificationClass n => decide (n < 4)
  | .trendLog n => decide (n < 8)
  | .file => true
  | .networkPort n => decide (1 ≤ n) && decide (n ≤ 4)
  | .unknown => false

/-- What the network keeps for an object. -/
def State.netObj (s : State) (o : BacObj) : NetObj := (s.net.objs.find? (fun x => x.obj = o)).getD { obj := o }

/-- The network's record of an object replaced. -/
def State.setNetObj (s : State) (x : NetObj) : State :=
  let rest := s.net.objs.filter (fun y => !decide (y.obj = x.obj))
  { s with net := { s.net with objs := rest ++ [x] } }

/-- The Analog Value record of an instance. -/
def State.av (s : State) (i : Nat) : Av := (s.avs.find? (fun a => a.inst == i)).getD { inst := i }

/-- The Analog Value record of an instance replaced; a value at rest is not listed. -/
def State.setAv (s : State) (a : Av) : State :=
  let rest := s.avs.filter (fun b => b.inst != a.inst)
  let b : Av := if a.prio.all Option.isNone then { a with prio := [] } else a
  { s with avs := if b.prio.isEmpty && b.rel == 0 && b.out == 0 then rest else rest ++ [b] }

/-- R371: Reliability of an Analog Input from the REASON of its result. -/
def reasonReliability (r : Nat) : Nat := [0, 0, 7, 3, 2, 7, 1, 7].getD r 0

/-- R371: the value of an Analog Input in its mode's unit. -/
def State.aiReal (s : State) (i : Nat) : Nat :=
  let v := s.rdAt Hid.aiVal i
  let m := s.rdAt Reg.UI_CFG_MODE i
  if 1 ≤ m ∧ m ≤ 3 then realOf (toI 16 v) 128
  else if 4 ≤ m ∧ m ≤ 6 then realOf (if s.onAt Reg.UI_CFG_SSIGN i then toI 16 v else (v : Int)) 1
  else if m = 9 then realOf v 16
  else if m = 10 then realOf (100 * v) 65535
  else realOf v 1

/-- R374: whether a Binary Output reads ACTIVE. -/
def State.boActive (s : State) (n : Nat) : Bool :=
  if n ≤ 5 then s.onAt Reg.BO_STATE_OUT n else decide (2 ≤ s.vlv (n - 10)) && decide (s.vlv (n - 10) ≤ 4)

/-- R368, R371, R373, R374: Reliability. A coach whose STATUS cannot be read is SHUTTERED (R102). -/
def State.reliability (s : State) : BacObj → Nat
  | .analogInput n => if s.rdAt Reg.UI_CFG_MODE n = 0 then 1 else reasonReliability (s.rdAt Hid.aiRsn n)
  | .analogValue n =>
    if (upTo 2).any (fun b => (s.netImg.clients.filter (fun (c : Sys2Proof.MbClient) => c.bus == b)).zipIdx.any (fun p =>
      p.1.target == n && s.onAt Hid.mbFail (16 * b + p.2 % 16))) then 12 else 0
  | .binaryOutput n => if (if n ≤ 5 then decide (2 ≤ s.rdAt Reg.BO_STATE_FORCED n) else decide (5 ≤ s.vlv (n - 10))) then 7 else 0
  | .loop n => if s.coachPeriod n = 0 then 10 else if s.unreadable n 44 = true ∨ stState (s.cw n 44) = 3 then 7 else 0
  | _ => 0

/-- R354: a coach word as the protocol processor reads it, in one carriage. A word with an uncorrectable error gives a value the spec
does not state. -/
def State.coachWord (s : State) (c w : Nat) : Nat × State :=
  if s.unreadable c w then (s.coachGet c w).freeBelow (2 ^ 32) else (s.cw c w, s.coachGet c w)

/-- R373: a coach word of Q16.16 as a property. -/
def State.coachReal (s : State) (c w : Nat) : BacVal × State := (.real (realOfQ (toI 32 (s.coachWord c w).1)), (s.coachWord c w).2)

/-- R373: a property formed from fields of a coach word. -/
def State.coachProp (s : State) (c w : Nat) (f : Nat → BacVal) : BacVal × State := (f (s.coachWord c w).1, (s.coachWord c w).2)

/-- R373: the unit of a measured value. -/
def pvUnits (unit : Nat) : Nat := [62, 29, 98, 95].getD unit 95

/-- R373: a Loop's property. -/
def State.loopProp (s : State) (n : Nat) (p : BacProp) : Option (BacVal × State) :=
  match p with
  | .presentValue => some (s.coachReal n 52)
  | .controlledVariableValue => some (s.coachReal n 47)
  | .setpoint => some (s.coachReal n 46)
  | .proportionalConstant => some (s.coachReal n 12)
  | .integralConstant => some (s.coachReal n 13)
  | .derivativeConstant => some (s.coachReal n 14)
  | .maximumOutput => some (s.coachReal n 19)
  | .minimumOutput => some (s.coachReal n 18)
  | .action => some (s.coachProp n 0 (fun v => .num (if bit v 3 then 0 else 1)))
  | .controlledVariableUnits => some (s.coachProp n 2 (fun v => .num (pvUnits (bits v 12 3))))
  | .outputUnits => some (s.coachProp n 0 (fun v => .num (if bits v 0 3 = 6 then 104 else 98)))
  | .outOfService => some (s.coachProp n 44 (fun v => .bool (stState v == 2)))
  | .reliability => some (.num (s.reliability (.loop n)), s.coachGet n 44)
  | _ => none

/-- The reporting properties of an object that has them (R376). -/
def State.reportProp (s : State) (o : BacObj) (p : BacProp) : Option BacVal :=
  let x := s.netObj o
  match p with
  | .highLimit => some (.real x.high)
  | .lowLimit => some (.real x.low)
  | .deadband => some (.real x.deadband)
  | .errorLimit => some (.real x.errorLimit)
  | .timeDelay => some (.num x.delay)
  | .eventEnable => some (.num x.enable)
  | .notificationClass => some (.num x.cls)
  | .eventState => some (.num (match x.event with | .normal => 0 | .fault => 1 | .offnormal => 2 | .highLimit => 3 | .lowLimit => 4))
  | .reliability => some (.num (s.reliability o))
  | _ => none

/-- The zone's priority array (R375); all NULL when none is listed. -/
def State.zoneArray (s : State) (z : Nat) : List (Option Nat) :=
  ((s.net.zones.find? (fun p => p.1 == z)).map (fun p => p.2)).getD (List.replicate 16 none)

/-- Today is one of the exception dates (R369). -/
def State.calendarNow (s : State) : Bool :=
  (upTo 32).any (fun n => s.onAt Reg.SCHED_EX_EN n && !bit (s.rd Hid.schedBad) (64 + n) &&
    s.rdAt Reg.SCHED_EX_DAY n == s.rd Reg.RTC_DATE_DAY && s.rdAt Reg.SCHED_EX_MONTH n == s.rd Reg.RTC_DATE_MONTH &&
    (s.rdAt Reg.SCHED_EX_YEAR n == 255 || s.rdAt Reg.SCHED_EX_YEAR n == s.rd Reg.RTC_DATE_YEAR))

/-- RGN_RES as a word (R381). -/
def State.rgnRes (s : State) : Nat := s.rd Reg.RGN_RES_RESULT + 16 * s.rd Reg.RGN_RES_REASON + 65536 * s.rd Reg.RGN_RES_LEFT

/-- R371: the unit of an Analog Input: degrees Celsius in the temperature modes, the image's in the scaled ones, percent of a duty. -/
def State.aiUnits (s : State) (n : Nat) : Option BacVal :=
  let m := s.rdAt Reg.UI_CFG_MODE n
  if 1 ≤ m ∧ m ≤ 3 then some (.num 62) else if 4 ≤ m ∧ m ≤ 6 then some (.num (s.netObj (.analogInput n)).units)
  else if m = 10 then some (.num 98) else none

/-- R379: the WDAY of a day of the week, 0 Monday. -/
def State.wdayOf (s : State) (day : Nat) : Nat := (day + s.rd Reg.NET_DEV_SYNC_MON) % 7

/-- R379: the day of the week, 1 Monday, that a WDAY stands for. -/
def State.dayOfWeek (s : State) (wday : Nat) : Nat := (wday + 7 - s.rd Reg.NET_DEV_SYNC_MON % 7) % 7 + 1

/-- R369, R379: the weekly entries of a zone on a weekday, each as its hour, minute and set (1 OCCUPIED to 4 OFF). -/
def State.weekDay (s : State) (z wday : Nat) : List Nat :=
  ((upTo 64).filter (fun e => s.onAt Reg.SCHED_WK_EN e && bit (s.rdAt Reg.SCHED_WK_WDAYS e) wday && bit (s.rdAt Reg.SCHED_WKZ_ZONES e) z)).flatMap
    (fun e => [s.rdAt Reg.SCHED_WK_MINUTE e / 60, s.rdAt Reg.SCHED_WK_MINUTE e % 60, s.rdAt Reg.SCHED_WK_SET e + 1])

/-- R369: an exception's date: year, month, day. -/
def State.exDate (s : State) (n : Nat) : List Nat := [s.rdAt Reg.SCHED_EX_YEAR n, s.rdAt Reg.SCHED_EX_MONTH n, s.rdAt Reg.SCHED_EX_DAY n]

/-- R369: a Schedule's property. -/
def State.scheduleProp (s : State) (z : Nat) (p : BacProp) : Option BacVal :=
  match p with
  | .presentValue => some (.num (s.rdAt Reg.ZONE_STATE_SCHED_SET z + 1))
  | .scheduleDefault => some (.num (s.rdAt Reg.ZONE_CFG_DEFAULT_SET z + 1))
  | .weeklySchedule => some (.blobs ((upTo 7).map (fun d => s.weekDay z (s.wdayOf d))))
  | .exceptionSchedule => some (.blobs (((upTo 32).filter (fun n => s.onAt Reg.SCHED_EX_EN n && bit (s.rdAt Reg.SCHED_EXZ_ZONES n) z)).map
      (fun n => s.exDate n ++ [s.rdAt Reg.SCHED_EX_ACTION n,
        if s.rdAt Reg.SCHED_EX_ACTION n = 1 then s.dayOfWeek (s.rdAt Reg.SCHED_EX_ARG n) else s.rdAt Reg.SCHED_EX_ARG n + 1])))
  | _ => none

/-- R361: a hub's URI in a property: its address, or its name. -/
def hubVal : Option Sys2Proof.HubUri → BacVal
  | none => .null
  | some (.address a) => .num a
  | some (.name l) => .blob l

/-- R365: the rates that BAUD codes. -/
def baudOf (code : Nat) : Nat := [9600, 19200, 38400, 57600, 76800, 115200].getD code 0

/-- R352, R358 to R366: a Network Port's property: 1 BACnet/IP, 2 BACnet/SC, 3 BUS1, 4 BUS2. -/
def State.portProp (s : State) (n : Nat) (p : BacProp) : Option BacVal :=
  let k := n - 3
  match p with
  | .ipAddress => if n ≤ 2 then some (.num (s.rd Reg.NET_IP_ADDR_ADDR)) else none
  | .ipSubnetMask => if n ≤ 2 then some (.num (s.rd Reg.NET_IP_MASK_MASK)) else none
  | .ipGateway => if n ≤ 2 then some (.num (s.rd Reg.NET_IP_GW_GW)) else none
  | .ipDnsServer => if n ≤ 2 then some (.num (if s.rd Hid.ipSrc = 1 then s.rd Hid.ipDns else s.netImg.dns)) else none
  | .dhcpEnable => if n ≤ 2 then some (.bool (s.on Reg.NET_CTRL_DHCP_EN)) else none
  | .udpPort => if n = 1 then some (.num (s.rd Reg.NET_BIP_PORT)) else none
  | .fdBbmd => if n = 1 then some (.num s.netImg.bbmd) else none
  | .fdLifetime => if n = 1 then some (.num (s.rd Reg.NET_FDR_TTL)) else none
  | .scMinReconnect => if n = 2 then some (.num s.netImg.scMin) else none
  | .scMaxReconnect => if n = 2 then some (.num s.netImg.scMax) else none
  | .scHeartbeatTimeout => if n = 2 then some (.num s.netImg.scHeartbeat) else none
  | .scHubUri => if n = 2 then some (hubVal (s.netImg.hubs.getD 0 none)) else none
  | .macAddress => if n = 2 then some (.num (s.rd Hid.vmac)) else if 3 ≤ n then some (.num (s.rdAt Reg.BUS_CFG_ADDR k)) else none
  | .maxMaster => if 3 ≤ n then some (.num (s.rdAt Reg.BUS_MSTP_MAX_MASTER k)) else none
  | .maxInfoFrames => if 3 ≤ n then some (.num (s.rdAt Reg.BUS_MSTP_MAX_INFO k)) else none
  | .linkSpeed => if 3 ≤ n then some (.num (baudOf (s.rdAt Reg.BUS_CFG_BAUD k))) else none
  | .maxApdu => some (.num (if n ≤ 2 then 1476 else 480))
  | _ => none

/-- R359: the Device's properties of its APDUs: the most octets on the port that carries BACnet, segmentation both ways, 16 segments, a
window of 4. -/
def State.deviceApdu (s : State) (p : BacProp) : Option BacVal :=
  match p with
  | .maxApdu => some (.num (match s.bacPort with | some k => if k ≤ 1 then 1476 else 480 | none => 1476))
  | .segmentation => some (.num 0)
  | .maxSegments => some (.num 16)
  | .apduSegmentWindow => some (.num 4)
  | _ => none

/-- The properties of an object that the spec gives a value; none where it gives none. -/
def State.propOf (s : State) (r : BacRef) : Option (BacVal × State) :=
  let same := fun (v : Option BacVal) => v.map (fun x => (x, s))
  match r.obj with
  | .device => same (match r.prop with
    | .utcOffset => some (.int s.net.utcOffset)
    | .daylightSavings => some (.bool s.net.dst)
    | .stageResult => some (.num s.rgnRes)
    | .stageCommand => some (.num 0)
    | p => s.deviceApdu p)
  | .analogInput n =>
    let x := s.netObj r.obj
    same (match r.prop with
    | .presentValue => some (if x.oos && !decide (x.written = .null) then x.written else .real (s.aiReal n))
    | .outOfService => some (.bool x.oos)
    | .units => s.aiUnits n
    | p => s.reportProp r.obj p)
  | .analogValue n => same (match r.prop with
    | .presentValue => some (.real (realOfQ (s.avValue (s.avBound n) n)))
    | .relinquishDefault => some (.real (realOfQ (s.av n).rel))
    | .priorityArray => if s.avBound n then none else some (.blob ((s.av n).prio.map (fun v => match v with | some q => realOfQ q + 1 | none => 0)))
    | p => s.reportProp r.obj p)
  | .binaryOutput n => same (match r.prop with
    | .presentValue => some (.num (b2n (s.boActive n)))
    | p => s.reportProp r.obj p)
  | .multiState n => same (match r.prop with
    | .presentValue => some (.num (s.rdAt Reg.ZONE_STATE_SET n + 1))
    | .priorityArray => some (.blob ((s.zoneArray n).map (fun v => v.getD 0)))
    | _ => none)
  | .loop n => match s.loopProp n r.prop with
    | some v => some v
    | none => same (s.reportProp r.obj r.prop)
  | .calendar => same (match r.prop with
    | .presentValue => some (.bool s.calendarNow)
    | .dateList => some (.blobs (((upTo 32).filter (fun n => s.onAt Reg.SCHED_EX_EN n)).map s.exDate))
    | _ => none)
  | .schedule z => same (s.scheduleProp z r.prop)
  | .networkPort n => same (s.portProp n r.prop)
  | .file => same (match r.prop with
    | .fileAccess => some (.num 1)
    | _ => none)
  | .notificationClass n =>
    let c := s.net.classes.getD n {}
    same (match r.prop with
    | .priority => some (.blob c.prio)
    | .ackRequired => some (.num c.ackRequired)
    | .recipientList => some (.blobs c.recipients)
    | _ => none)
  | .trendLog n =>
    let t := s.net.trends.getD n {}
    same (match r.prop with
    | .enable => some (.bool t.enable)
    | .logInterval => some (.num (100 * t.interval))
    | .logProperty => t.ref.map BacVal.ref
    | .recordCount => some (.num t.records.length)
    | _ => none)
  | _ => none

/-- R372: an object lacks a property: an Analog Value that a coach output binds has no priority array. -/
def State.propLacks (s : State) (r : BacRef) : Bool :=
  match r.obj with
  | .analogValue n => r.prop == .priorityArray && s.avBound n
  | _ => false

/-- R369: reading a property: its value, or a free value where the spec gives none (log entry 23). -/
def State.readProp (s : State) (r : BacRef) : Except NetErr (BacVal × State) :=
  if objExists r.obj = false then .error .unknownObject
  else if s.propLacks r then .error .unknownProperty
  else
    match s.propOf r with
    | some v => .ok v
    | none => let f := s.takeFree; .ok (.num f.1, f.2)

/-- Whether a change of a value is reported: always, but for REAL values, whose increment the spec does not state (log entry 23). -/
def State.changeSeen (s : State) (old new : BacVal) : Bool × State :=
  if old = new then (false, s)
  else
    match new with
    | .real _ => let f := s.freeBelow 2; (f.1 == 1, f.2)
    | _ => (true, s)

/-- R376: a subscription's value compared with the one last notified, while a port carries BACnet. -/
def State.covCheck (s : State) (c : CovSub) : State :=
  if s.bacPort.isNone then s
  else
    match s.propOf c.ref with
    | none => s
    | some p =>
      let ch := p.2.changeSeen c.last p.1
      if ch.1 then
        let subs := ch.2.net.subs.map (fun (d : CovSub) => if d.who = c.who ∧ d.ref = c.ref then { d with last := p.1 } else d)
        ({ ch.2 with net := { ch.2.net with subs := subs } } : State).initiate (.covNotify c.who c.ref p.1)
      else ch.2

/-- R378: DM-DDB-A: a notification to a recipient whose address is not known is preceded by a Who-Is. Whether it is known is a free bit
(DESIGN CHOICE, log entry 72). -/
def State.notify (s : State) (m : NetOut) : State :=
  let f := s.freeBelow 2
  (if f.1 = 1 then f.2.initiate .whoIs else f.2).initiate m

/-- R376, R378, R380: a notification goes to each recipient of a class, unless initiation is disabled. -/
def State.notifyClass (s : State) (cls : Nat) (m : NetOut) : State :=
  if s.rd Reg.NET_STAT_DCC ≠ 0 then s
  else s.each (s.net.classes.getD cls {}).recipients (fun t _ => t.notify m)

/-- A record added to a trend log of at most 512; the oldest goes (R369). Records are stamped with the wheel tick (DESIGN CHOICE, log
entry 70). After the records of its threshold the log notifies that its buffer is ready (T-ATR-B, R378). -/
def State.trendAdd (s : State) (k : Nat) (v : BacVal) : State :=
  let t := s.net.trends.getD k {}
  let l := t.records ++ [(s.tick, v)]
  let ready := t.threshold != 0 && decide (t.threshold ≤ t.since + 1)
  let u : Sys2Proof.TrendLog := { t with records := l.drop (l.length - 512), since := if ready then 0 else t.since + 1 }
  let w : State := { s with net := { s.net with trends := setAt s.net.trends k u } }
  if ready then w.notifyClass t.cls (.bufferReady k u.records.length) else w

/-- R369: a trend log on COV takes a record when its property has changed. -/
def State.trendCheck (s : State) (k : Nat) : State :=
  let t := s.net.trends.getD k {}
  match t.ref with
  | none => s
  | some r =>
    if t.enable = false ∨ t.interval ≠ 0 then s
    else
      match s.propOf r with
      | none => s
      | some p =>
        match t.records.getLast? with
        | none => p.2.trendAdd k p.1
        | some q => let ch := p.2.changeSeen q.2 p.1; if ch.1 then ch.2.trendAdd k p.1 else ch.2

/-- R368: entry `e` of a bus. -/
def State.mbEntry (s : State) (bus e : Nat) : Option Sys2Proof.MbClient :=
  (s.netImg.clients.filter (fun (c : Sys2Proof.MbClient) => c.bus == bus))[e]?

/-- R368: an entry of a bus falls due at the ticks of which its period, in seconds, has made a multiple (DESIGN CHOICE for the phase,
log entry 70). -/
def State.mbFallsDue (s : State) (k : Nat) : Bool :=
  match s.mbEntry (k / 16) (k % 16) with
  | none => false
  | some c => s.busOn (k / 16) 3 && c.period != 0 && s.tick % (1000 * c.period) == 0

/-- R369: a trend log's interval has passed (DESIGN CHOICE for the phase, log entry 70). -/
def State.trendFallsDue (s : State) (k : Nat) : Bool :=
  let t := s.net.trends.getD k {}
  t.enable && t.interval != 0 && s.tick % (1000 * t.interval) == 0

/-- R376: a second of every subscription's lifetime passes; its last one rests until COV_SUBSCRIPTION_EXPIRY. -/
def State.covAge (s : State) : State :=
  { s with net := { s.net with subs := s.net.subs.map (fun c => { c with life := max 1 (c.life - 1) }) } }

/-- R358, R368, R369, R376: what the network times in seconds. -/
def State.netSecond (s : State) : State :=
  if s.netOn = false then s
  else
    let t := s.ipSecond.covAge.each ((upTo 32).filter s.mbFallsDue) (fun t k => t.wrAt Hid.mbDue k 1)
    t.each ((upTo 8).filter s.trendFallsDue) (fun t k => t.wrAt Hid.trendDue k 1)

/-- R376, R369: at each wheel tick the subscribed and logged properties are compared with what was last reported. With
DeviceCommunicationControl in force the device initiates nothing (R380). -/
def State.covTick (s : State) : State :=
  if s.netOn = false then s
  else
    let t := if s.rd Reg.NET_STAT_DCC = 0 then s.each s.net.subs State.covCheck else s
    t.each (upTo t.net.trends.length) State.trendCheck

end Sys2Proof.Machine
end

