-- ==== Sys2Proof/Machine/Tick.lean ====
section
/-! DEFINITION. The wheel tick and what happens at it (R47, R48, R337 to R340), mode changes, and coach evaluations taken from
the queue (R50, R83, R89). -/

namespace Sys2Proof.Machine

/-- R247: on leaving SERVICE every MAN_EN clears, and each channel acts on its recorded command. -/
def State.manLeave (s : State) : State :=
  let v := s.each ((upTo 8).filter (fun n => s.onAt Reg.VLV_MAN_MAN_EN n)) (fun t n => (t.wrAt Reg.VLV_MAN_MAN_EN n 0).vlvFollow t n)
  let d := v.each (upTo 4) (fun t n => t.wrAt Reg.DMP_MAN_MAN_EN n 0)
  (d.each (upTo 6) (fun t n => t.wrAt Reg.BO_MAN_MAN_EN n 0)).boRefresh

/-- R71: on leaving SERVICE each OPEN coach with INIT_CLOSED is closed at its next evaluation. The wheel takes the words as last written, here
and below (DESIGN CHOICE, log entry 29). -/
def State.closeInits (s : State) : State :=
  s.each ((upTo 160).filter (fun c => bit (s.cell c 0) 7 && stEn (s.cell c 44) && stState (s.cell c 44) == 0)) (fun t c => t.wrAt Hid.closeInit c 2)

/-- R71: on entry to SERVICE the coaches that are CLOSED, and those with a CLOSE pending. -/
def State.svcMark (s : State) : State :=
  let t := s.each ((upTo 160).filter (fun c => stEn (s.cell c 44) && stState (s.cell c 44) == 1)) (fun t c => t.wrAt Hid.svcOpen c 1)
  t.each ((upTo 160).filter (fun c => stEn (s.cell c 44) && stPend (s.cell c 44) == 2)) (fun t c => t.wrAt Hid.svcDrop c 1)

/-- R339, R375: on entry to AUTONOMOUS with FREL every zone follows its schedule. -/
def State.releaseZones (s : State) : State :=
  if s.on Reg.PWR_AUTO_FREL then
    let t := s.each (upTo 16) (fun t z => (t.wrAt Reg.ZONE_FORCE_FORCE z 0).zoneApply z false)
    { t with net := { t.net with zones := [] } }
  else s

/-- R337, R338: the mode changes. -/
def State.setMode (s : State) (m : Nat) : State :=
  let old := s.mode
  let t := (s.wrs [(Reg.PWR_MODE_MODE, m), (Reg.PWR_FLAGS_MODE_CHG, 1)]).raise 9
  let u := if old = mService then t.manLeave.closeInits.sysAbort else if old = mAuto then t.fanAutoLeave else t
  (if m = mAuto then (u.wr Reg.PWR_MODE_PREV old).releaseZones.fanAutoEnter else if m = mService then u.svcMark else u).panelIdle

/-- R339: a cause of AUTONOMOUS is present. -/
def State.lost (s : State) : Bool := s.on Reg.PWR_STAT_HOST_LOST || s.on Reg.PWR_STAT_NET_LOST

/-- R337: a mode command is allowed in the mode that stands: 1 NATIVE, 2 SERVICE, 3 STANDBY, 4 WAKE. -/
def State.modeAllows (s : State) (c : Nat) : Bool :=
  (c == 1 && s.mode == mService) || ((c == 2 || c == 3) && s.mode == mNative) ||
    (c == 4 && (s.mode == mStandby || (s.mode == mAuto && s.rd Reg.PWR_MODE_PREV == mStandby)))

/-- R339: the causes of AUTONOMOUS act. -/
def State.autoTick (s : State) : State :=
  if (s.mode = mNative ∨ s.mode = mStandby) ∧ s.lost = true then s.setMode mAuto
  else if s.mode = mAuto ∧ s.lost = false then s.setMode (s.rd Reg.PWR_MODE_PREV)
  else s

/-- STANDBY ends, at once or as the mode AUTONOMOUS returns to (R337). -/
def State.wake (s : State) (last : Nat) : State :=
  (if s.mode = mStandby then s.setMode mNative else s.wr Reg.PWR_MODE_PREV mNative).wr Reg.PWR_WAKE_LAST last

/-- R340: the wake events since the last tick: ALARM, OCC, SCHED, NET in bits 0 to 3. -/
def State.wakeBits (s : State) : Nat :=
  (s.rd Hid.wakeAlarm + 2 * s.rd Hid.wakeOcc + 4 * s.rd Hid.wakeSched + 8 * s.rd Hid.wakeNet) &&& s.rd Reg.PWR_WAKE_EN

/-- R340: an enabled wake event acts; of several, the lowest bit is recorded (log entry 24). -/
def State.wakeTick (s : State) : State :=
  let t := if s.modeAllows 4 then (match (upTo 4).find? (bit s.wakeBits) with | some k => s.wake (k + 1) | none => s) else s
  t.wrs [(Hid.wakeAlarm, 0), (Hid.wakeOcc, 0), (Hid.wakeSched, 0), (Hid.wakeNet, 0)]

/-- R338: the pending command acts or is discarded. -/
def State.modeCmdTick (s : State) : State :=
  if s.on Reg.PWR_MODE_PEND = false then s
  else
    let c := s.rd Hid.modeCmd
    let t := s.wrs [(Reg.PWR_MODE_PEND, 0), (Hid.modeCmd, 0)]
    if s.modeAllows c = false then t.wr Reg.PWR_MODE_RESULT 4
    else
      let u := if c = 1 then (let v := t.setMode mNative; if v.lost then v.setMode mAuto else v)
        else if c = 2 then t.setMode mService else if c = 3 then t.setMode mStandby else t.wake 5
      u.wr Reg.PWR_MODE_RESULT 1

/-- R48: the period multiplier of the mode and the lanes. -/
def State.pmulNow (s : State) : Nat := (if s.mode = mStandby then 8 else 1) * (if s.on Reg.SUPV_LANE_DEGRADED then 2 else 1)

/-- R13, R47, R109, R445: the coaches due at this tick, in ascending order. -/
def State.dueNow (s : State) : List Nat :=
  if s.on Reg.SUPV_LANE_STOPPED ∨ s.operating = false then []
  else if s.mode = mIz30 then (if s.tick % 250 = 0 ∧ s.on Hid.izReload = false then upTo 8 else [])
  else (upTo 160).filter (fun c =>
    let w := s.cell c 1
    let p := bits w 0 16
    p != 0 && s.tick % (p * s.rd Reg.ENG_STATUS_PMUL) == bits w 16 16)

/-- R47, R50, R107: the coaches due join the queue; at a tick with an empty queue the engine kicks the watchdog. -/
def State.dueTick (s : State) : State :=
  let t := (s.wr Reg.ENG_STATUS_PMUL s.pmulNow).countIf (!s.due.isEmpty) 0x27
  let u : State := { t with due := t.due ++ t.dueNow.map (fun c => ⟨s.tick, c⟩) }
  if u.due.isEmpty ∧ u.operating = true ∧ u.on Reg.SUPV_LANE_STOPPED = false then u.kick else u

/-- R152, R162: the AGE of every result and of every polling-list entry. -/
def State.ageTick (s : State) : State :=
  let t := s.each (upTo 64) (fun t i => t.wrAt Reg.UI_AGE_AGE i (capN 0xFFFFFF (t.rdAt Reg.UI_AGE_AGE i + 1)))
  t.each (upTo 32) (fun t n => t.wrAt Reg.SNS_AGE_AGE n (capN 0xFFFFFF (t.rdAt Reg.SNS_AGE_AGE n + 1)))

/-- A timer that a row of the table ends: it counts down and rests at 1 until that row comes. -/
def State.timer (s : State) (f : Fld) : State := if 1 < s.rd f then s.wr f (s.rd f - 1) else s

/-- What is counted in seconds (R229, R364, R368, R369, R376, R382, R452). -/
def State.secondTimers (s : State) : State :=
  let t := s.vlvSecond
  let u := if t.netOn || (t.native && t.on Reg.NET_SUP_SUP_EN) then
      (t.timer Reg.NET_SUP_LEFT_LEFT).wr Hid.supAge (capN 65535 (t.rd Hid.supAge + 1)) else t
  (if u.netOn = true ∧ (u.rd Reg.NET_STAT_SC_STATE = 5 ∨ u.rd Reg.NET_STAT_SC_STATE = 6) then u.timer Reg.NET_SC_STAT_WAIT else u).netSecond.ruSecond

/-- What is counted in ms: the audit watchdog (R107), the heartbeat (R402), the wait of R334, the buses (R385), clock
fallback. -/
def State.msTimers (s : State) : State :=
  let t := if s.on Reg.CLK_STAT_AUDIT_OK = true ∧ s.operating = true then s.timer Reg.SUPV_WDT_REMAIN else s
  let u := (t.timer Reg.HOST_HB_CFG_LEFT).wr Hid.calHold (t.rd Hid.calHold - 1)
  let v := u.each [0, 1] (fun t k => t.wrAt Reg.BUS_STAT_TOKEN_AGE k (capN 65535 (t.rdAt Reg.BUS_STAT_TOKEN_AGE k + 1)))
  if v.on Reg.CLK_STAT_FALLBACK then v.wr Reg.CLK_FB_TIME_MS (capN (2 ^ 32 - 1) (v.rd Reg.CLK_FB_TIME_MS + 1)) else v

/-- R17, R47: one period-wheel tick; the count is 0 at the first one after BOOT. -/
def State.wheelTick (s : State) : State :=
  let t0 := if s.on Hid.tickRun then s.wr Hid.tick (s.tick + 1) else s.wrs [(Hid.tickRun, 1), (Hid.tick, 0)]
  let t1 := t0.ageTick.dueTick
  let t2 := ((t1.autoTick).wakeTick).modeCmdTick
  let t3 := (((((t2.msTimers).pollTick).scanTick).healthTick).boTick).fanTick.dmpTick.each (upTo 8) State.vlvMeasure
  let t4 := if t3.mode = mIz30 then t3.izTickOut else t3.patchTick.covTick
  ((if t4.tick % 1000 = 0 then t4.secondTimers else t4).evcTick).wr Hid.evcFb (t4.rd Reg.CLK_STAT_FALLBACK)

/-- PERIOD_WHEEL_TICK, R47. A tick within the hold of a soft reset waits for its end (R347). -/
def execPeriodWheelTick (s : State) : Out :=
  if s.alive = false ∨ s.mode = mBoot then fin s
  else if s.on Hid.softHold then fin (s.wr Hid.heldTicks (s.rd Hid.heldTicks + 1))
  else fin s.wheelTick

/-- SOFT_RESET_RESUME, R347, R21: dispatch resumes, and ticks that fell in the hold are delivered in order. -/
def execSoftResetResume (s : State) : Out :=
  if s.on Hid.softHold then
    let n := s.rd Hid.heldTicks
    fin (((s.wr Hid.heldTicks 0).softEnd).each (upTo n) (fun t _ => t.wheelTick))
  else fin s

/-- R320: the coaches of a written group whose restoring command has not acted; a disabled coach takes none. -/
def State.groupLeft (s : State) : Nat :=
  (s.rgn.coaches.filter (fun q => stPend (s.cw q.1 44) != 0 && (q.2 == 1 || q.2 == 2) && stEn (s.cw q.1 44))).length

/-- R319, R320: a coach of a queued group has opened, so the update runs; or the last restoring command has acted. -/
def State.rgnAfter (s : State) (c : Nat) : State :=
  let st := s.rd Reg.RGN_CTRL_STATE
  if s.rgn.coaches.any (fun p => p.1 == c) = false then s
  else if st = 3 ∧ s.rgn.coaches.any (fun p => p.1 == c && (p.2 == 1 || p.2 == 2)) = true ∧ s.coachState c = 0 then
    s.wr Reg.RGN_CTRL_STATE 4
  else if st = 4 ∧ s.rgn.written = true then
    if s.groupLeft = 0 then s.rgnDone else s.wr Reg.RGN_RES_LEFT s.groupLeft
  else s

/-- R50, R83: the coach at the head of the queue is evaluated. A coach disabled since it fell due is passed over (R69). -/
def State.evalHead (s : State) (env : Sys2Proof.EvalEnv) : State :=
  match s.due with
  | [] => s
  | d :: rest =>
    if s.on Reg.SUPV_LANE_SWAP_BUSY || s.on Reg.SUPV_LANE_STOPPED || s.on Hid.softHold || !s.operating || !s.alive then s
    else
      let t : State := { s with due := rest }
      if stEn (t.cell d.coach 44) = false then t
      else ((if s.mode = mIz30 then t.evalIz d env else t.evalNative d env)).rgnAfter d.coach

/-- COACH_EVALUATION, R83. -/
def execCoachEvaluation (env : Sys2Proof.EvalEnv) (s : State) : Out := fin (s.evalHead env)

/-- The position a lane holds: 0 lead, 1 follow, 2 spare. -/
def State.lanePos (s : State) (l : Nat) : Option Nat :=
  if s.rd Reg.SUPV_LANE_LEAD = l then some 0 else if s.rd Reg.SUPV_LANE_FOLLOW = l then some 1
  else if s.rd Reg.SUPV_LANE_SPARE = l then some 2 else none

/-- LANE_TIMEOUT, R89: the lane delivers nothing, which counts as a disagreement; an evaluation in which it takes no part is
as any other. -/
def execLaneTimeout (lane : Fin 3) (env : Sys2Proof.EvalEnv) (s : State) : Out :=
  match s.lanePos lane.val with
  | none => fin s
  | some k =>
    let runs := env.runs ++ List.replicate (k + 1 - env.runs.length) .good
    fin (s.evalHead { env with runs := setAt runs k (.bad 127) })

end Sys2Proof.Machine
end

