-- ==== Sys2Proof/Machine/Clock.lean ====
section
/-! DEFINITION. The root clock (R18 to R24), the supplies (R332 to R335), and what asserts a boot reset (R344, R346). -/

namespace Sys2Proof.Machine

/-- R344: a boot reset is asserted. Of sources that act together the higher row of the table is recorded. -/
def State.assertReset (s : State) (cause : Nat) : State :=
  if s.mode = mBackup then s
  else if s.on Hid.resetActive then
    let c := min cause (s.rd Hid.pwrCause)
    s.wrs [(Reg.RST_CAUSE_CAUSE, c), (Hid.pwrCause, c)]
  else s.bootReset cause

/-- R18, R19, R21: clock fallback begins: NET and CRYPTO stop, and a running calibration is abandoned (R178). -/
def State.fallbackEnter (s : State) : State :=
  if s.on Reg.CLK_STAT_FALLBACK then s
  else ((((s.wr Reg.CLK_STAT_FALLBACK 1).raise 10).netStop).calAbandonAll)

/-- A window of 64 AUDIT cycles expects 50 edges; fewer than 40 or more than 60 are bad (R18). -/
def windowBad (edges : Nat) : Bool := decide (edges < 40) || decide (60 < edges)

/-- R18: one audit window; nothing is compared while AUDIT is absent (R24). The window that confirms the loss decides the flags: XTAL_LOSS
for a bad crystal comparison, PLL_LOSS for a bad PLL one, both for both, whatever the window before it found (DESIGN CHOICE, log
entry 32: R18 does not say). -/
def State.auditStep (s : State) (xtal pll : Nat) : State :=
  if s.on Reg.CLK_STAT_AUDIT_OK = false ∨ s.up = false then s
  else
    let t := s.wr Reg.CLK_STAT_XTAL_OK (b2n (!windowBad xtal))
    if s.on Reg.CLK_STAT_FALLBACK then t
    else if windowBad xtal || windowBad pll then
      if s.rd Hid.audBad = 0 then t.wr Hid.audBad 1
      else
        (((t.wr Hid.audBad 0).whenB (windowBad xtal) (fun u => u.wr Reg.CLK_FLAGS_XTAL_LOSS 1)).whenB (windowBad pll)
          (fun u => u.wr Reg.CLK_FLAGS_PLL_LOSS 1)).fallbackEnter
    else t.wr Hid.audBad 0

/-- AUDIT_WINDOW, R18. -/
def execAuditWindow (xtalEdges pllEdges : Nat) (s : State) : Out := fin (s.auditStep xtalEdges pllEdges)

/-- PLL_LOCK_LOSS, R18: fallback begins at once; without AUDIT it is out of service (R24). -/
def execPllLockLoss (s : State) : Out :=
  if s.up = false then fin s
  else
    let t := s.wrs [(Reg.CLK_STAT_PLL_LOCK, 0), (Reg.CLK_FLAGS_PLL_LOSS, 1)]
    fin (if s.on Reg.CLK_STAT_AUDIT_OK then t.fallbackEnter else t)

/-- R22, R315: the clock returns. A boot made in fallback left the converters' calibration due; with SIG_WAIT set the
controller boots again at once. -/
def State.fallbackEnd (s : State) : State :=
  let t := ((s.wrs [(Reg.CLK_STAT_FALLBACK, 0), (Reg.CLK_STAT_XTAL_OK, 1), (Reg.CLK_STAT_PLL_LOCK, 1), (Reg.CLK_FLAGS_RETURN, 1),
    (Hid.audBad, 0)]).raise 10)
  if s.on Reg.BOOT_STAT_SIG_WAIT then t.assertReset 7
  else
    let u := t.whenB t.netOn State.netPorts
    u.whenB (u.mode == mIz30) (fun v => v.busInit 1)

/-- CLOCK_FALLBACK_RETURN, R22: not while the crystal's last window was bad. -/
def execClockFallbackReturn (s : State) : Out :=
  if s.up = false ∨ s.on Reg.CLK_STAT_FALLBACK = false ∨ s.on Reg.CLK_STAT_XTAL_OK = false then fin s
  else
    let t := s.fallbackEnd
    if t.up = true ∧ s.on Reg.BOOT_STAT_FALLBACK = true then
      fin (t.each ((upTo 3).filter (fun c => t.rd Reg.CLK_STAT_FALLBACK == 0 && !t.onAt Hid.calPassed c)) (fun u c => u.calDue c false))
    else fin t

/-- AUDIT_OSC_FAIL, R24. -/
def execAuditOscFail (s : State) : Out :=
  if s.up = false ∨ s.on Reg.CLK_STAT_AUDIT_OK = false then fin s
  else fin ((s.wrs [(Reg.CLK_STAT_AUDIT_OK, 0), (Reg.CLK_FLAGS_AUDIT_LOSS, 1), (Hid.audBad, 0)]).raise 10)

/-- AUDIT_OSC_RETURN, R24. A PLL lock that was lost while AUDIT was absent begins no fallback now: the loops stay on the PLL until the next
loss of lock or the next two bad windows (DESIGN CHOICE, log entry 72: R24 is silent). -/
def execAuditOscReturn (s : State) : Out := if s.up then fin (s.wr Reg.CLK_STAT_AUDIT_OK 1) else fin s

/-- WATCHDOG_EXPIRY, R107, R24: the watchdog is off in BOOT and SAFE and out of service without AUDIT. -/
def execWatchdogExpiry (s : State) : Out :=
  if s.up = true ∧ s.operating = true ∧ s.on Reg.CLK_STAT_AUDIT_OK = true then fin (s.assertReset 4) else fin s

/-- RESET_N_ASSERT, R346. RESET_N has no effect while VDD_IO is absent. -/
def execResetNAssert (s : State) : Out := fin (s.assertReset 3)

/-- BROWN_OUT, R332, R344. -/
def execBrownOut (s : State) : Out := fin (s.assertReset 2)

/-- POWER_ON, R337, R344, R345: VDD_IO rises through 2.90 V. It ends BACKUP; elsewhere a fall below 1.80 V marks the reset that
stands as power-on. The test port resets at a power-on. -/
def execPowerOn (below180 : Bool) (s : State) : Out :=
  let tap := fun (t : State) => if below180 then { t with tap := ({ idcode := true } : TapS) } else t
  if s.mode = mBackup then
    let cause := if below180 then 1 else 2
    fin (tap (s.wrs [(Reg.PWR_MODE_MODE, mBoot), (Hid.resetActive, 1), (Reg.RST_CAUSE_CAUSE, cause), (Hid.pwrCause, cause)]))
  else if below180 then fin (tap (s.assertReset 1))
  else fin s

/-- BACKUP_SWITCH_VBAT, R270, R283, R337: the domain switches to VBAT; after the brown-out reset, with VBAT present, the mode is
BACKUP, in which the panel's discharge is over and the test port's contents are lost (R350). -/
def execBackupSwitchVbat (vbat : Bool) (s : State) : Out :=
  if s.on Reg.RTC_STAT_ON_VBAT then fin s
  else
    let t := ((s.count 0xA7).stamp).wr Reg.RTC_STAT_ON_VBAT 1
    if vbat = true ∧ s.on Hid.resetActive = true then 
      fin { t.wrs [(Reg.PWR_MODE_MODE, mBackup), (Hid.panelDis, 0)] with tap := { idcode := true } }
    else fin t

/-- R333, R335: a supply condition begins: its status and flag bits, and the power cause. -/
def State.supplyBad (s : State) (f : Fld) (k : Nat) (cause : Bool) : State :=
  ((s.wr f 1).or Reg.PWR_FLAGS_FLAGS (2 ^ k)).whenB cause (fun t => t.raise 9)

/-- EARLY_WARNING, R333. -/
def execEarlyWarning (s : State) : Out :=
  if s.up = false ∨ s.on Reg.PWR_STAT_EW = true then fin s
  else fin ((s.supplyBad Reg.PWR_STAT_EW 0 true).panelDischarge)

/-- EARLY_WARNING_CLEAR, R333: the panel may start again. -/
def execEarlyWarningClear (s : State) : Out :=
  if s.up = false ∨ s.on Reg.PWR_STAT_EW = false then fin s else fin ((s.wr Reg.PWR_STAT_EW 0).panelIdle)

/-- VDDA_UV, R334: the converters stop. -/
def execVddaUv (s : State) : Out :=
  if s.up = false ∨ s.on Reg.PWR_STAT_VDDA_UV = true then fin s
  else
    let t := (s.supplyBad Reg.PWR_STAT_VDDA_UV 1 false).calAbandonAll
    fin (({ t with convs := t.convs.map (fun (x : ConvS) => { x.boundary with phase := .stopped }) } : State).refreshRelief)

/-- VDDA_UV_CLEAR, R334: each converter resumes at the start of its walk, every input's first entry marked SETTLE; no calibration
starts for 1 s. -/
def execVddaUvClear (s : State) : Out :=
  if s.up = false ∨ s.on Reg.PWR_STAT_VDDA_UV = false then fin s
  else
    let t := s.wrs [(Reg.PWR_STAT_VDDA_UV, 0), (Hid.calHold, 1000)]
    let u : State := { t with convs := t.convs.map (fun (x : ConvS) => { x with phase := if x.urg.isSome || !x.wait.isEmpty then .starting else .off, entry := none, pos := 0 }) }
    fin ((u.each (upTo 64) (fun v i => if v.rdAt Reg.UI_STAT_SETTLE_LEFT i = 0 then v.wrAt Reg.UI_STAT_SETTLE_LEFT i 1 else v)).refreshRelief)

/-- VM_FAULT, R335: undervoltage, or overvoltage. -/
def execVmFault (ov : Bool) (s : State) : Out :=
  let f := if ov then Reg.PWR_STAT_VM_OV else Reg.PWR_STAT_VM_UV
  if s.up = false ∨ s.on f = true then fin s else fin ((s.supplyBad f (if ov then 3 else 2) true).cutRefresh)

/-- VM_FAULT_CLEAR, R335: when both conditions are clear the channels are released as from a CUT. -/
def execVmFaultClear (ov : Bool) (s : State) : Out :=
  let f := if ov then Reg.PWR_STAT_VM_OV else Reg.PWR_STAT_VM_UV
  if s.up = false ∨ s.on f = false then fin s else fin ((s.wr f 0).cutRefresh)

/-- R103, R307: the words 0 to 40 and 43 of coach `c` in the active copy; zeros where no group covers it, none where the copy
cannot be read. -/
def State.copyCoachWords (s : State) (c : Nat) : Option (List Nat) :=
  if 2 ≤ s.rd Reg.BOOT_STAT_COPY then none
  else
    let base := copyBase (s.rd Reg.BOOT_STAT_COPY)
    let n := Memory.word s.flash (base + 12)
    if headerReason s.flash base ≠ 0 then none
    else
      match sectionsOf (n + 1) (Memory.words s.flash (base + 32) (n - 8)) with
      | none => none
      | some l =>
        match l.find? (fun x => x.typ == 11 && groupOk x.payload && (groupCoaches x.payload).contains c) with
        | none => some (List.replicate 42 0)
        | some x => if x.crcOk then some ((x.payload.drop (1 + 42 * (c - (groupOf x.payload).1))).take 42) else none

/-- R103: the coach's words are written with fresh check bits; then it is enabled under R69, left SHUTTERED, or disabled. A STATUS that cannot
be read is taken as R102 has it: SHUTTERED for ECC. STICKY, word 45, is written with its stored bits and fresh check bits, so that no ECC
cause remains (DEDUCED, log entry 72: R103 lists no word 45, but says that none remains). -/
def State.repairWith (s : State) (c : Nat) (l : List Nat) : State :=
  let s := s.whenB (s.unreadable c 44) (fun u => u.wrCoach c 44 (clearBits (s.cw c 44) 0xF32773 + 0x303))
  let t := s.each (upTo 42) (fun t j => let w := groupWords.getD j 0; t.wrCoach c w (l.getD j 0 &&& coachMask w))
  let u := (t.coachEnable c).wrCoach c 45 (t.cw c 45)
  let v := if t.coachPeriod c = 0 then u.wrCoach c 44 (clearBits (u.cw c 44) 0x7) else u
  v.wrs [(Reg.SUPV_REPAIR_GO, 0), (Reg.SUPV_REPAIR_RESULT, 1)]

/-- SUPV_REPAIR_DONE, R103. `readable` says that the memory answers. It ends no sooner than the path serves it (R401). -/
def execSupvRepairDone (readable : Bool) (s : State) : Out :=
  if s.on Reg.SUPV_REPAIR_GO = false ∨ s.up = false ∨ s.pathServes 2 = false then fin s
  else
    match (if readable then s.copyCoachWords (s.rd Hid.repairCoach) else none) with
    | none => fin ((s.pathLeave 2).wrs [(Reg.SUPV_REPAIR_GO, 0), (Reg.SUPV_REPAIR_RESULT, 3)])
    | some l => fin ((s.pathLeave 2).repairWith (s.rd Hid.repairCoach) l)

end Sys2Proof.Machine
end

