-- ==== Sys2Proof/Machine/Boot.lean ====
section
/-! DEFINITION. BOOT (R311 to R316, R432): from the release of a boot reset to the entry of the selected mode. -/

namespace Sys2Proof.Machine

/-- Steps 1 to 4 of R311: straps, clock, what OTP says, the lanes' entry tests (R98), the retention latch (R285).
A boot that finds AUDIT absent sets neither AUDIT_LOSS nor the CLK cause; AUDIT_OK reads 0 (DESIGN CHOICE, log entry 72: R24 speaks of a
failure that a running controller detects). One that finds neither crystal nor AUDIT, for which no rule names a clock, boots as on the PLL
(DESIGN CHOICE, log entry 73). -/
def State.bootStart (s : State) (env : Sys2Proof.BootEnv) : State :=
  let o := s.otp
  let strap := env.straps.val
  let good := env.crystal || !env.audit
  let t : State := { s with otp := { o with actHash := o.hash, actHashSet := o.hashSet, actSigned := o.signed } }
  let i2c := strap == 1 || strap == 2
  let u := t.wrs [(Hid.resetActive, 0), (Reg.BOOT_STAT_STRAP, strap), (Reg.BOOT_STAT_SIGNED, b2n o.signed),
    (Reg.HOST_CFG_PORT, b2n i2c), (Reg.HOST_CFG_ADDR, if strap = 1 then 0x3A else if strap = 2 then 0x4C else 0),
    (Reg.CLK_STAT_FALLBACK, b2n (!good)), (Reg.BOOT_STAT_FALLBACK, b2n (!good)), (Reg.CLK_STAT_XTAL_OK, b2n good),
    (Reg.CLK_STAT_PLL_LOCK, b2n good), (Reg.CLK_FLAGS_XTAL_LOSS, b2n (!good)), (Reg.CLK_STAT_AUDIT_OK, b2n env.audit)]
  let l := [env.lanes.1, env.lanes.2.1, env.lanes.2.2]
  let v := ((u.whenB (!good) (fun x => x.raise 10)).seatLanes ((upTo 3).filter (fun k => l.getD k false))).or
    Reg.SUPV_LANE_RETIRED (bitMap 3 (fun k => !l.getD k false))
  let w := v.whenB (v.on Hid.latch) State.backupReset
  let x : State := if strap = 2 then { w with eeprom := Memory.writes w.eeprom env.placed } else { w with flash := Memory.writes w.flash env.placed }
  if env.romOk then x else (x.wr Hid.ppRom 1).memErr Reg.MEM_ERR_ROM

/-- R328: why a copy was rejected. -/
def State.bootRej (s : State) (c : Nat) (r : Rej) : State :=
  s.wrsAt c [(Reg.BOOT_REJ_REASON, r.reason), (Reg.BOOT_REJ_INDEX, r.index), (Reg.BOOT_REJ_TYPE, r.typ)]

/-- Why the header of a copy is not eligible (R313); a memory that does not answer gives no header. -/
def State.copyHeader (s : State) (c : Nat) (answers : Bool) : Nat := if answers then headerReason s.flash (copyBase c) else rMemory

/-- SEQ of a copy's header. -/
def State.copySeq (s : State) (c : Nat) : Nat := Memory.word s.flash (copyBase c + 8)

/-- R313: the copies to try, in order. -/
def State.bootOrder (s : State) (answers : Bool) : List Nat :=
  let ok := (upTo 2).filter (fun c => s.copyHeader c answers == 0)
  let d := (s.copySeq 1 + 2 ^ 32 - s.copySeq 0) % 2 ^ 32
  if ok = [0, 1] ∧ 1 ≤ d ∧ d < 2 ^ 31 then [1, 0] else ok

/-- R313: the records of headers (BOOT_SEQ, and BOOT_REJ of an ineligible one). -/
def State.bootHeaders (s : State) (answers : Bool) : State :=
  s.each (upTo 2) (fun t c =>
    let r := s.copyHeader c answers
    if r = 0 then t.wrAt Reg.BOOT_SEQ_SEQ c (s.copySeq c) else t.bootRej c { reason := r })

/-- R311, R313: one copy read and judged against destinations that hold their reset contents. -/
def State.bootJudge (s : State) (c : Nat) : Except Rej (State × Bool) :=
  s.imageDefaults.judgeCopy (copyBase c) (!s.on Reg.CLK_STAT_FALLBACK)

/-- R313, R328: the records of the copies that were tried and rejected. -/
def State.bootTried (s : State) (l : List (Nat × Rej)) : State := s.each l (fun t p => (t.bootRej p.1 p.2).wr Reg.BOOT_STAT_ALT 1)

/-- Steps 6 to 8 of R311: the copies are tried in order. A rejected one, in `tried`, leaves nothing but its record. -/
def State.bootCopies (s : State) (tried : List (Nat × Rej)) : List Nat → State × Bool
  | [] => (s.bootTried tried, false)
  | c :: l =>
    match s.bootJudge c with
    | .ok (t, sig) => ((t.wrs [(Reg.BOOT_STAT_COPY, c), (Reg.BOOT_STAT_SIG_OK, b2n sig)]).bootTried tried, true)
    | .error r => s.bootCopies (tried ++ [(c, r)]) l

/-- R315: an eligible copy was rejected only because its signature could not be checked. -/
def State.sigWaits (s : State) (order : List Nat) : Bool := order.any (fun c => s.rdAt Reg.BOOT_REJ_REASON c == rSigUnchecked)

/-- Steps 5 to 8 for the flash. -/
def State.bootFlash (s : State) (answers : Bool) : State × Bool :=
  let order := s.bootOrder answers
  let r := (s.bootHeaders answers).bootCopies [] order
  if r.2 then r
  else (r.1.imageDefaults.wrs [(Reg.BOOT_STAT_COPY, 2), (Reg.BOOT_STAT_SIG_WAIT, b2n (r.1.sigWaits order))], false)

/-- R432 to R438: the IZ-30 EEPROM in their place. -/
def State.bootEeprom (s : State) (answers : Bool) : State × Bool :=
  match s.izReject s.eeprom answers with
  | some r => ((s.imageDefaults.bootRej 0 { reason := r.1, index := r.2 }).wr Reg.BOOT_STAT_COPY 2, false)
  | none => (((((s.imageDefaults.izFixed).izMirror s.eeprom).izNative false).wr Reg.BOOT_STAT_COPY 3).wrAt Hid.izV 2 0x82 |>.izDrivers, true)

/-- R187: the record of one boot calibration. -/
def State.bootCalFail (s : State) (k reason : Nat) : State :=
  let t := s.wr Reg.CAL_FLAGS_BOOT_FAIL 1
  if k < 3 then t.calRecord k 2 reason
  else t.wrsAt k [(Reg.CAL_INFO_RESULT, 2), (Reg.CAL_INFO_REASON, reason), (Reg.CAL_INFO_FAILS, 1)]

/-- R187, R189: the taps of set `k`: a converter's nine, PEAK and HOLD of a valve, OFFSET of the fan. -/
def State.setTaps (s : State) (k : Nat) : List Int :=
  let lo := s.rdAt Reg.CAL_TRIM_LO_TAPS k
  if k < 3 then s.tapsOf k else if k < 11 then [toI 6 (bits lo 0 6), toI 6 (bits lo 8 6)] else [toI 6 (bits lo 0 6)]

/-- New taps of set `k` applied. -/
def State.applySet (s : State) (k : Nat) (l : List Int) : State :=
  if k < 3 then s.applyTaps k l
  else s.wrAt Reg.CAL_TRIM_LO_TAPS k (ofI 6 (l.getD 0 0) + (if k < 11 then ofI 6 (l.getD 1 0) * 256 else 0))

/-- R187, R174 to R176: the boot calibration of set `k`. -/
def State.bootCal (s : State) (k : Nat) (b : Sys2Proof.BootCal) : State :=
  match runTaps (s.setTaps k) b.run1, runTaps (s.setTaps k) b.run2 with
  | some x, some y =>
    let t := s.wrAt Reg.CAL_INFO_SPREAD k (capN 15 (spread x y))
    if 2 < spread x y then t.bootCalFail k 2
    else if k < 3 ∧ endPass b.zero b.half = false then t.bootCalFail k 3
    else
      let u := t.applySet k y
      if k < 3 then u.calRecord k 1 0
      else u.wrsAt k [(Reg.CAL_INFO_RESULT, 1), (Reg.CAL_INFO_TEMP, u.ts1), (Hid.calTick, u.tick)]
  | _, _ => s.bootCalFail k 1

/-- R70: the coaches at the end of BOOT. -/
def State.bootCoaches (s : State) : State :=
  s.each (upTo 160) (fun t c =>
    let u := t.wrCoach c 52 (t.cw c 21)
    if u.coachPeriod c = 0 then u else (u.coachEnable c).wrAt Hid.closeInit c 1)

/-- R311, step 11: what starts with the selected mode. -/
def State.bootUnits (s : State) (mode : Nat) : State :=
  let t := (s.wr Reg.PWR_MODE_MODE mode).bootCoaches
  let v := ((t.each (upTo 8) State.vlvLeave).dmpEnable).each (upTo 4) (fun u d =>
    if u.onAt Reg.DMP_CFG_EN d && u.onAt Reg.DMP_CFG_HOME_BOOT d then u.wrAt Hid.dmpHome d 1 else u)
  let w := v.fanEnable.boRefresh
  w.schedStart

/-- R306: every select register returns to 0. -/
def State.selectsClear (s : State) : State :=
  s.wrs [(Reg.ARB_WSEL_SEL, 0), (Reg.COACH_SEL_SEL, 0), (Reg.UI_SEL_SEL, 0), (Reg.CAL_SEL_SEL, 0), (Reg.TS_SEL_SEL, 0), (Reg.VLV_SEL_SEL, 0),
    (Reg.DMP_SEL_SEL, 0), (Reg.BO_SEL_SEL, 0), (Reg.SCHED_ZSEL_SEL, 0), (Reg.EVC_SEL_SEL, 0)]

/-- R316, R336: the mode a passing boot enters. -/
def strapMode (strap : Nat) : Nat := if strap = 3 then mService else if strap = 2 then mIz30 else mNative

/-- Steps 9 and 10: boot calibration but in clock fallback (R315), and the thermal offsets (R261). -/
def State.bootMeasure (s : State) (env : Sys2Proof.BootEnv) : State :=
  let u := if s.on Reg.CLK_STAT_FALLBACK then s else s.each (upTo 12) (fun v k => v.bootCal k (env.cals.getD k {}))
  (u.learnOffsets ((upTo 8).map (fun i => u.bootTemps i (env.temps.getD i []))) 16 8).fastBesideFailed.thermRefresh

/-- Step 11 of R311: the values that the end of BOOT gives to what shows other state. The first wheel tick is number 0 (R47). -/
def State.bootEnd (s : State) (env : Sys2Proof.BootEnv) : State :=
  let t := s.selectsClear.wrs [(Reg.BOOT_STAT_BOOT_TIME, env.ms), (Reg.HOST_HB_CFG_LEFT, s.rd Reg.HOST_HB_CFG_HB_TIMEOUT),
    (Reg.SUPV_WDT_REMAIN, s.rd Reg.SUPV_WDT_TIMEOUT), (Reg.ARB_STATUS_SEAT_COUNT, s.rd Reg.ARB_SWAP_SHADOW_COUNT),
    (Hid.dispPage, b2n (!s.on Reg.DISP_CTRL_SRC)), (Hid.tickRun, 0)]
  let u := t.each (upTo 16) (fun v k => v.wrAt Reg.ARB_ACT_SEATS k (v.rdAt Reg.ARB_SHD_SEATS k))
  (u.wr Reg.ENG_STATUS_PMUL u.pmulNow).compOff.netRestart.panelIdle.occMoment

/-- R331, R334: supply conditions that hold at the release. Boot calibration has waited until VDDA_UV was clear, and of the 1 s in which
no further one starts at most its own 82 ms are over (R187); a boot in clock fallback calibrates nothing and does not wait (R315). -/
def State.bootSupplies (s : State) (m : Nat) : State :=
  let fb := s.on Reg.CLK_STAT_FALLBACK
  let w := if bit m 0 && !fb then (let f := s.freeBelow 83; f.2.wr Hid.calHold (1000 - f.1)) else s
  let t := w.wrs [(Reg.PWR_STAT_VDDA_UV, b2n (bit m 0 && fb)), (Reg.PWR_STAT_VM_UV, bits m 1 1), (Reg.PWR_STAT_VM_OV, bits m 2 1),
    (Reg.PWR_STAT_VDRV_LOW, bits m 3 1), (Hid.vdrvBlock, bits m 3 1)]
  if bit m 0 && fb then { t with convs := t.convs.map (fun (x : ConvS) => { x with phase := .stopped }) } else t

/-- R311: BOOT as a whole. -/
def State.boot (s : State) (env : Sys2Proof.BootEnv) : State :=
  let t := s.bootStart env
  let r := if env.straps.val = 2 then t.bootEeprom (env.answers && eepAnswers env.acks) else t.bootFlash env.answers
  let mode := if r.2 then strapMode env.straps.val else mSafe
  let u := (r.1.bootMeasure env).bootSupplies env.supplies.val
  (((u.bootUnits mode).bootEnd env).refreshRelief).cutRefresh

/-- BOOT_RESET_RELEASE, R311, R337. -/
def execBootResetRelease (env : Sys2Proof.BootEnv) (s : State) : Out := if s.mode = mBoot then fin (s.boot env) else fin s

end Sys2Proof.Machine
end

