-- ==== Sys2Proof/Machine/Region.lean ====
section
/-! DEFINITION. Region updates (R318 to R324): staging, validation, the changes of each region, abort. -/

namespace Sys2Proof.Machine

/-- R26, R63, R102: CMD_PEND of a coach is written, in the STATUS that stands. -/
def State.wrPend (s : State) (c cmd : Nat) : State := s.pokeCoach c 44 (clearBits (s.cw c 44) 0x70 + cmd * 16)

/-- R320: a command pended for a coach of a group; it replaces one that waits. -/
def State.pendCmd (s : State) (c cmd : Nat) : State := (s.wrPend c cmd).wrAt Hid.svcDrop c 0

/-- R320, R71: the command that returns a coach to the state recorded; SERVICE refuses CLOSE. MAN_OUT of a coach that returns to MANUAL is
written by the commit that enters MANUAL, with the output held (DESIGN CHOICE, log entry 73: R46 and R320 name the update as its writer
and not the moment). -/
def State.restoreCoach (s : State) (p : Nat × Nat) : State :=
  if stEn (s.cw p.1 44) = false then s
  else if p.2 = 1 then (if s.mode = mService then s else s.pendCmd p.1 2)
  else if p.2 = 2 then s.pendCmd p.1 3
  else s

/-- R322, R323: an update is discarded. A coach that waits to be opened goes on; one that has been opened is restored. -/
def State.rgnDiscard (s : State) (result reason code : Nat) : State :=
  let t := if s.rgn.written then s else
    s.each s.rgn.coaches (fun t p =>
      if p.2 = 1 ∨ p.2 = 2 then
        if t.coachState p.1 = 0 then t.restoreCoach p
        else if stPend (t.cw p.1 44) = 1 then t.wrPend p.1 0
        else t
      else t)
  t.rgnEnd result reason code

/-- What a write to the staging buffer finds (R322, R324): taken, refused with BUSY or with REGION_BUSY. -/
inductive StageAns where
  | taken | busy | regionBusy
  deriving DecidableEq, Repr

/-- R322: whether a source (0 host, 1 network) may write to the buffer. -/
def State.stageAns (s : State) (src : Nat) : StageAns :=
  let st := s.rd Reg.RGN_CTRL_STATE
  if st = 4 then .regionBusy
  else if st = 2 then .busy
  else if st = 1 ∧ s.rd Reg.RGN_CTRL_SRC ≠ src then .busy
  else .taken

/-- R324: region updates run in this mode. -/
def State.rgnMode (s : State) : Bool := s.native && s.up

/-- R318, R322, R324: words written to the buffer by a source that may. A queued update is discarded. -/
def State.stageWrite (s : State) (src first : Nat) (data : List Nat) : State :=
  if s.rgnMode = false then s.wr Reg.RGN_RES_RESULT 5
  else
    let t := if s.rd Reg.RGN_CTRL_STATE = 3 then s.rgnDiscard 3 0 0xF2 else s
    let u := t.wrs [(Reg.RGN_CTRL_STATE, 1), (Reg.RGN_CTRL_SRC, src)]
    let v := u.each (upTo data.length) (fun v k => v.wrAt Hid.stage (first + k) (data.getD k 0))
    v.wr Reg.RGN_CTRL_TYPE (v.rdAt Hid.stage 0 / 65536)

/-- R318: START, where an update is loading. -/
def State.rgnStart (s : State) : State :=
  if s.rgnMode = false then s.wr Reg.RGN_RES_RESULT 5 else (s.wr Reg.RGN_CTRL_STATE 2).count 0xF0

/-- R323: ABORT. It waits for a running seat plan, which then ends as aborted; a coach group whose words are written goes on to its
end (DEDUCED, log entry 43: R323 names no effect on it). -/
def State.rgnAbort (s : State) : State :=
  let st := s.rd Reg.RGN_CTRL_STATE
  let typ := s.rd Reg.RGN_CTRL_TYPE
  if s.rgnMode = false then s.wr Reg.RGN_RES_RESULT 5
  else if st = 0 then s
  else if st = 4 then
    (if typ = 6 ∨ (typ = 11 ∧ s.rgn.written = false) then s.rgnDiscard 4 0 0xF5
     else if typ = 11 then s
     else { s with rgn := { s.rgn with aborted := true } })
  else s.rgnDiscard 4 0 0xF5

/-- The words of the staging buffer from `a` on. -/
def State.stageWords (s : State) (a n : Nat) : List Nat := (upTo n).map (fun k => s.rdAt Hid.stage (a + k))

/-- The type and payload of the staged section. -/
def State.staged (s : State) : Nat × List Nat :=
  let h := s.rdAt Hid.stage 0
  (h / 65536, s.stageWords 1 (h % 65536))

/-- R305: the types that are regions. -/
def isRegion (t : Nat) : Bool := [5, 6, 9, 10, 11, 12, 13].contains t

/-- The select registers keep the host's numbers (R396). -/
def State.selectsOf (s t : State) : State :=
  s.wrs ([Reg.ARB_WSEL_SEL, Reg.COACH_SEL_SEL, Reg.UI_SEL_SEL, Reg.CAL_SEL_SEL, Reg.TS_SEL_SEL, Reg.VLV_SEL_SEL, Reg.DMP_SEL_SEL, Reg.BO_SEL_SEL,
    Reg.SCHED_ZSEL_SEL, Reg.EVC_SEL_SEL].map (fun f => (f, t.rd f)))

/-- A section as an update writes it. A seat plan leaves the words of the shadow that its runs do not name, and the swap takes them with it
(DESIGN CHOICE, log entry 73: R127 has the whole shadow written). -/
def State.loadRegion (s : State) (t : Nat) (p : List Nat) : Except Nat State :=
  match s.loadSection t p true with
  | .ok u => .ok (u.selectsOf s)
  | .error e => .error e

/-- R321: the state that a queued or running update will leave. -/
def State.withUpdate (s : State) : State :=
  if (s.rd Reg.RGN_CTRL_STATE = 3 ∨ s.rd Reg.RGN_CTRL_STATE = 4) ∧ s.rgn.written = false then
    match s.loadRegion s.staged.1 s.staged.2 with
    | .ok u => u
    | .error _ => s
  else s

/-- R318: the reason to reject the staged update, 0 for none. A SIGNATURE section is staged with it where the word behind it names one
(DESIGN CHOICE, log entry 43: the buffer keeps what earlier updates left in it). -/
def State.rgnJudge (s : State) (memOk : Bool) : Nat :=
  let h := s.rdAt Hid.stage 0
  let t := h / 65536
  let n := h % 65536
  let body := s.stageWords 0 (n + 2)
  let sh := s.rdAt Hid.stage (n + 2)
  let m := sh % 65536
  let sig := if sh / 65536 = 255 ∧ n + 2 < 8192 then some (s.stageWords (n + 3) m) else none
  if memOk = false then rMemory
  else if 8192 < n + 2 ∨ (sig.isSome = true ∧ 8192 < n + m + 4) then rSize
  else if s.rdAt Hid.stage (n + 1) ≠ crcWords (body.take (n + 1)) then rSectionCrc
  else if sig.isSome = true ∧ s.rdAt Hid.stage (n + m + 3) ≠ crcWords (s.stageWords (n + 2) (m + 1)) then rSectionCrc
  else if knownType t = false then rType
  else if isRegion t = false then rNotRegion
  else
    let r := s.signatureJudge sig body (!s.on Reg.CLK_STAT_FALLBACK)
    if r ≠ 0 then r
    else
      match s.loadRegion t s.staged.2 with
      | .error e => e
      | .ok u => if u.imageOk then 0 else rContent

/-- R308, R386: CRYPTO checks a signature of the staged update. -/
def State.rgnSigned (s : State) : Bool :=
  s.rdAt Hid.stage (s.rdAt Hid.stage 0 % 65536 + 2) / 65536 == 255 && (s.otp.actHashSet || s.otp.actSigned) && !s.on Reg.CLK_STAT_FALLBACK

/-- The writes of a runs payload, with the channel that its last 0x3400 named: channel, address, word (R319). -/
def valveWrites : Nat → Nat → List Nat → List (Nat × Nat × Nat)
  | 0, _, _ => []
  | fuel + 1, sel, l =>
    match l with
    | [] => []
    | h :: rest =>
      let n := h % 65536
      let a := h / 65536
      let ws := (upTo n).map (fun k => (a + k, rest.getD k 0))
      let q := ws.foldl (fun (q : Nat × List (Nat × Nat × Nat)) p =>
        if p.1 = 0x3400 then (p.2 % 256, q.2) else (q.1, q.2 ++ [(q.1, p.1, p.2)])) (sel, [])
      q.2 ++ valveWrites fuel q.1 (rest.drop n)

/-- R319: at the moment an update is queued a channel in OFF, disabled, FAULT, BLOCKED or CUT takes its profile. -/
def State.vlvTakes (s : State) (n : Nat) : Bool := !(decide (2 ≤ s.vlv n) && decide (s.vlv n ≤ 4))

/-- R319, R226: after that moment a channel takes its profile in OFF or disabled alone. -/
def State.vlvLate (s : State) (n : Nat) : Bool := decide (s.vlv n ≤ vOff)

/-- R319: the channels of a valve-profile update that can take it do. -/
def State.valveApply (s : State) (takes : State → Nat → Bool) : State :=
  if s.rgn.writes.isEmpty then s.rgnDone
  else s.each ((upTo 8).filter (takes s)) State.vlvTake

/-- R319, R320: a valid update is queued, and what can happen at once does. -/
def State.rgnQueue (s : State) : State :=
  let t := s.wr Reg.RGN_CTRL_STATE 3
  let d := s.staged
  if d.1 = 11 then
    let g := if d.2.isEmpty then [] else groupCoaches d.2
    if g.isEmpty then t.rgnDone
    else
      let rec' := g.map (fun c => (c, if stEn (s.cw c 44) then s.coachState c else 0))
      let u : State := { t.each g (fun v c => v.coachGet c 44) with rgn := { coaches := rec' } }
      (u.each (rec'.filter (fun p => p.2 == 1 || p.2 == 2)) (fun v p => v.pendCmd p.1 1)).wr Reg.RGN_RES_LEFT g.length
  else if d.1 = 6 then
    let ws := valveWrites (d.2.length + 1) (s.rd Reg.VLV_SEL_SEL) d.2
    let named := (upTo 8).filter (fun n => ws.any (fun w => w.1 == n))
    let u : State := { t with rgn := { writes := ws, named := named } }
    (u.wr Reg.RGN_RES_LEFT named.length).valveApply State.vlvTakes
  else t

/-- REGION_VALIDATION_DONE, R318. -/
def execRegionValidationDone (memOk : Bool) (s : State) : Out :=
  if s.rd Reg.RGN_CTRL_STATE ≠ 2 ∨ s.rgnMode = false then fin s
  else
    let t := (if memOk then s else s.memErr Reg.MEM_ERR_STAGE).whenB s.rgnSigned (fun u => u.levelPulse 0xBE)
    let r := t.rgnJudge memOk
    if r = 0 then fin (t.wr Reg.RGN_CTRL_TYPE t.staged.1).rgnQueue else fin (t.rgnEnd 2 r 0xF4)

/-- R381: what the settings of a part of the network are: of T1L, IPv4 and DNS (with what runs over them), of BACnet/SC's certificates
and hubs, and of a bus. -/
def State.ipSettings (s : State) : List Nat :=
  [s.rd Reg.NET_CTRL_EN % 4, s.rd Reg.NET_CTRL_DHCP_EN, s.rd Reg.NET_CTRL_STATIC_FB, s.rd Reg.NET_CTRL_FDR_EN, s.storedWord 0x4004,
   s.storedWord 0x400B, s.storedWord 0x400C, s.netImg.ip, s.netImg.mask, s.netImg.gw, s.netImg.dns, s.netImg.bbmd]

/-- R381: the settings of BACnet/SC: its enable, certificates, trust anchors and hub URIs. -/
def State.scSettings (s : State) : Bool × List (List Nat) × List (List Nat) × List (Option Sys2Proof.HubUri) :=
  (s.netEn 2, s.netImg.cert :: s.netImg.certKey :: s.netImg.intermediates, s.netImg.anchors, s.netImg.hubs)

/-- R381: the settings of a bus: its enable, its registers and its client entries. -/
def State.busSettings (s : State) (k : Nat) : Bool × List Nat × List Sys2Proof.MbClient :=
  (s.netEn (3 + k), [s.storedWord (0x4030 + 8 * k), s.storedWord (0x4031 + 8 * k)],
   s.netImg.clients.filter (fun (c : Sys2Proof.MbClient) => c.bus == k))

/-- R381: the objects, limits, recipients and trend configuration of a network update; subscriptions, trend records, event states and what
has been written of an object's service are kept, of objects that the image does not list too. -/
def State.netObjects (s was : State) : State :=
  let img := s.netImg
  let objs := img.objs.map (fun o =>
    let x := was.netObj o.obj
    { o with oos := x.oos, written := x.written, event := x.event, unacked := x.unacked })
  let rest := (was.net.objs.filter (fun x => !img.objs.any (fun o => decide (o.obj = x.obj)))).map (fun x =>
    ({ obj := x.obj, oos := x.oos, written := x.written, event := x.event, unacked := x.unacked } : NetObj))
  let trends := ((img.trends ++ List.replicate 8 ({} : TrendLog)).take 8).zipIdx.map (fun p =>
    { p.1 with records := (was.net.trends.getD p.2 {}).records, since := (was.net.trends.getD p.2 {}).since })
  let t : State := { s with net := { s.net with objs := objs ++ rest, classes := (img.classes ++ List.replicate 4 ({} : NotifyClass)).take 4, trends := trends } }
  t.each (upTo 256) (fun u i =>
    let r := ((img.avRel.find? (fun p => p.1 == i)).map (fun p => p.2)).getD 0
    if (u.av i).rel = r then u else u.setAv { u.av i with rel := r, out := if u.avBound i then (u.av i).out else r })

/-- R381: a bus restarts: what was under way on it ends, the frames that wait for its token too (`mstp`). -/
def State.busRestart (s : State) (k : Nat) (mstp : Bool) : State :=
  let t := s.each (upTo 16) (fun t e =>
    (t.wrsAt (16 * k + e) [(Hid.mbDue, 0), (Hid.mbWait, 0), (Hid.mbTries, 0), (Hid.mbFail, 0)]).mbFlag e)
  (if mstp then { t with net := { t.net with queue := [], postponed := false } } else t).busInit k

/-- R382: a new NET_TO counts from the last supervising message: the cause is present by it, or by NET_SUPERVISION_EXPIRY. -/
def State.supRetime (s : State) : State :=
  let limit := s.rd Reg.NET_SUP_NET_TO
  let age := s.rd Hid.supAge
  if age < limit then s.wrs [(Reg.NET_SUP_LEFT_LEFT, limit - age), (Reg.PWR_STAT_NET_LOST, 0)]
  else if s.on Reg.PWR_STAT_NET_LOST then s else s.wr Reg.NET_SUP_LEFT_LEFT 1

/-- R381, R382: what a network update restarts: the link and IPv4, the BACnet/SC connection, each bus. Without SUP_EN there is no network
cause, a SUP_EN that becomes 1 starts its timer, and a new NET_TO is counted at once. -/
def State.netChanged (s was : State) : State :=
  let ram := s.netObjects was
  let t := if ram.netOn = false then ram
    else if s.ipSettings ≠ was.ipSettings then (ram.linkDrop).scInit
    else if s.scSettings ≠ was.scSettings then (ram.scClose).scInit
    else ram
  let u := if s.on Reg.NET_SUP_SUP_EN = false then t.wr Reg.PWR_STAT_NET_LOST 0
    else if was.on Reg.NET_SUP_SUP_EN = false then t.wrs [(Reg.NET_SUP_LEFT_LEFT, s.rd Reg.NET_SUP_NET_TO), (Hid.supAge, 0)]
    else if s.rd Reg.NET_SUP_NET_TO ≠ was.rd Reg.NET_SUP_NET_TO then t.supRetime else t
  u.each (upTo 2) (fun v k => if s.busSettings k ≠ was.busSettings k then v.busRestart k (was.netEn (3 + k) && was.rdAt Reg.BUS_CFG_PROTO k == 1) else v)

/-- R319: the change of a region that changes in one step, from its type and payload. -/
def State.regionStep (s u : State) (t : Nat) (p : List Nat) : State :=
  if t = 10 then
    ((u.each ((valveWrites (p.length + 1) 0 p).map (fun w => w.2.1)) State.schedFresh).schedRefresh).rgnDone
  else if t = 12 then
    let v := u.wr Hid.dispPage (b2n (!u.on Reg.DISP_CTRL_SRC))
    ((if v.rd Reg.DISP_CTRL_LINES = 0 then v.panelDischarge else v).panelIdle).rgnDone
  else if t = 13 then (u.netChanged s).rgnDone
  else if t = 5 then u.fanEnable.rgnDone
  else u.rgnDone

/-- REGION_APPLY, R319: a queued update makes its change at its region's moment; a valve-profile update its next ones. -/
def execRegionApply (memOk : Bool) (s : State) : Out :=
  let st := s.rd Reg.RGN_CTRL_STATE
  let d := s.staged
  if s.rgnMode = false ∨ (st ≠ 3 ∧ st ≠ 4) ∨ d.1 = 11 ∨ (st = 4 ∧ d.1 ≠ 6) then fin s
  else if memOk = false then fin ((s.memErr Reg.MEM_ERR_STAGE).rgnDiscard 2 rMemory 0xF4)
  else if d.1 = 6 then fin (s.valveApply State.vlvLate)
  else
    match s.loadRegion d.1 d.2 with
    | .error e => fin (s.rgnDiscard 2 e 0xF4)
    | .ok u =>
      if d.1 = 9 then fin (u.wrs [(Reg.RGN_CTRL_STATE, 4), (Reg.ARB_SWAP_REQ, 1), (Reg.ARB_STATUS_SWAP_PEND, 1)])
      else fin (s.regionStep u d.1 d.2)

/-- R320: every coach of the group is OPEN, SHUTTERED or disabled. -/
def State.groupOpen (s : State) : Bool :=
  s.rgn.coaches.all (fun p => !stEn (s.cw p.1 44) || s.coachState p.1 == 0 || s.coachState p.1 == 3)

/-- R320: the group's words are written in one step, and each coach is pended the command that returns it. -/
def State.groupWrite (s : State) (p : List Nat) : State :=
  let t := s.writeGroup p
  let u := t.each s.rgn.coaches (fun v q => v.coachPeriodChange q.1 (s.coachPeriod q.1))
  let v := u.each u.rgn.coaches State.restoreCoach
  let w : State := { v with rgn := { v.rgn with written := true } }
  if w.groupLeft = 0 then w.rgnDone else w.wrs [(Reg.RGN_CTRL_STATE, 4), (Reg.RGN_RES_LEFT, w.groupLeft)]

/-- COACH_GROUP_WRITE, R320, R26: the update is checked again in full first. -/
def execCoachGroupWrite (memOk : Bool) (s : State) : Out :=
  let st := s.rd Reg.RGN_CTRL_STATE
  if s.rgnMode = false ∨ (st ≠ 3 ∧ st ≠ 4) ∨ s.staged.1 ≠ 11 ∨ s.rgn.written = true ∨ s.groupOpen = false then fin s
  else
    let t := if memOk then s else s.memErr Reg.MEM_ERR_STAGE
    let r := t.rgnJudge memOk
    if r = 0 then fin (t.groupWrite t.staged.2) else fin (t.rgnDiscard 2 r 0xF4)

end Sys2Proof.Machine
end

