-- ==== Sys2Proof/Machine/Persist.lean ====
section
/-! DEFINITION. Persists (R325 to R327): OPEN, COMMIT and ABORT of IMG_PERSIST, and the ends of their checks. -/

namespace Sys2Proof.Machine

/-- R326: the copy a persist writes: the other copy, or in SAFE the one TARGET_B names. -/
def State.persistTarget (s : State) : Nat :=
  if s.mode = mSafe then s.rd Reg.IMG_PERSIST_TARGET_B else 1 - s.rd Reg.BOOT_STAT_COPY

/-- R326: a persist ends. -/
def State.persistEnd (s : State) (result reason code : Nat) : State :=
  (((s.pathLeave 3).wrs [(Reg.IMG_PERSIST_STATE, 0), (Reg.IMG_PERSIST_RESULT, result), (Reg.IMG_PERSIST_REASON, reason)]).countIf (code != 0) code).raise
    14

/-- R326: OPEN, COMMIT or ABORT; persists are refused in IZ-30 mode. In SAFE no copy is active, and OPEN erases at once. An OPEN during
a persist and a COMMIT without an open one change nothing. An ABORT lets an erase that runs end. -/
def State.persistCmd (s : State) (cmd : Nat) : State :=
  let st := s.rd Reg.IMG_PERSIST_STATE
  if cmd = 0 then s
  else if s.mode = mIz30 then (s.wr Reg.IMG_PERSIST_RESULT 5).count 0xF7
  else if cmd = 1 then
    (if st = 0 then (s.wrs [(Reg.IMG_PERSIST_STATE, if s.mode = mSafe then 2 else 1), (Reg.IMG_PERSIST_TARGET, s.persistTarget), (Reg.IMG_PERSIST_RESULT, 0),
      (Reg.IMG_PERSIST_REASON, 0)]).pathJoin 3 else s)
  else if cmd = 2 then (if st = 3 then (s.wr Reg.IMG_PERSIST_STATE 4).pathJoin 3 else s)
  else if st = 2 ∧ s.pathServes 3 = true then ({ s with flash := Memory.erase s.flash (copyBase (s.rd Reg.IMG_PERSIST_TARGET)) 4096 } : State).persistEnd 4 0 0
  else if st = 3 ∨ st = 1 ∨ st = 2 then s.persistEnd 4 0 0
  else s

/-- R326, R328: a persist moves on to its erase, or to its header, at a moment that no row of the table gives (log entry 69): before a
host frame it has done so or not, by a free bit, where its check passes. -/
def State.persistRun (s : State) : State :=
  let st := s.rd Reg.IMG_PERSIST_STATE
  if (st ≠ 1 ∧ st ≠ 4) ∨ s.pathServes 3 = false then s
  else
    let f := s.freeBelow 2
    if f.1 = 0 then f.2
    else if st = 1 then (if s.activeWhole then f.2.wr Reg.IMG_PERSIST_STATE 2 else f.2)
    else if s.targetJudge = 0 then f.2.wr Reg.IMG_PERSIST_STATE 5 else f.2

/-- PERSIST_OPEN_DONE, R326: the active copy has been checked and the target's first sector erased. In SAFE no copy is active. -/
def execPersistOpenDone (memOk : Bool) (s : State) : Out :=
  if s.up = false ∨ s.pathServes 3 = false ∨ (s.rd Reg.IMG_PERSIST_STATE ≠ 1 ∧ s.rd Reg.IMG_PERSIST_STATE ≠ 2) then fin s
  else if memOk = false then fin (s.persistEnd 2 rMemory 0xF7)
  else if s.rd Reg.IMG_PERSIST_STATE = 1 ∧ s.activeWhole = false then fin (s.persistEnd 3 0 0xF7)
  else
    let base := copyBase (s.rd Reg.IMG_PERSIST_TARGET)
    fin ((({ s with flash := Memory.erase s.flash base 4096 } : State).wr Reg.IMG_PERSIST_STATE 3).pathLeave 3)

/-- PERSIST_COMMIT_DONE, R326: the target has been checked and its header programmed and read back; `memOk` false says that the
memory did not answer or the header read back wrong. -/
def execPersistCommitDone (memOk : Bool) (s : State) : Out :=
  if s.up = false ∨ s.pathServes 3 = false ∨ s.rd Reg.IMG_PERSIST_STATE < 4 then fin s
  else
    let s := s.whenB ((s.otp.actHashSet || s.otp.actSigned) && !s.on Reg.CLK_STAT_FALLBACK) (fun u => u.levelPulse 0xBE)
    let r := s.targetJudge
    if r ≠ 0 then fin (s.persistEnd 2 r 0xF7)
    else
      let base := copyBase (s.rd Reg.IMG_PERSIST_TARGET)
      let l := wordBytes base s.newHeader
      let good : State := { s with flash := Memory.program s.flash l }
      let ok := memOk && Memory.words good.flash base 8 == s.newHeader
      if ok then fin ((good.wr Reg.IMG_PSEQ_SEQ s.nextSeq).persistEnd 1 0 0xF6)
      else fin ((s.each l (fun t p => t.tornByte p.1 (Memory.read t.flash p.1 &&& p.2))).persistEnd 2 rMemory 0xF7)

end Sys2Proof.Machine
end

