-- ==== Sys2Proof/Machine/Access.lean ====
section
/-! DEFINITION. What host frames and network writes have in common: coach commands (R63, R71), the lock of RWL words (R65), the
registers that a queued or running update holds (R321), and the hatch's range (R325). -/

namespace Sys2Proof.Machine

/-- R63, R71: RESULT of a coach command: 3 disabled, 4 not allowed in this mode, 2 replaced, 1 accepted. A command that both R63 and
R71 refuse answers 3 (DESIGN CHOICE, log entry 64). A STATUS that cannot be read answers as its stored bits stand (DESIGN CHOICE, log
entry 72). -/
def State.coachCmdResult (s : State) (c cmd : Nat) : Nat :=
  let st := s.cw c 44
  if stEn st = false then 3
  else if (s.mode = mService ∧ cmd = 2) ∨ (s.mode = mIz30 ∧ 8 ≤ c) then 4
  else if stPend st = 0 then 1 else 2

/-- R63: a command to a coach whose STATUS has been read: 1 OPEN, 2 CLOSE, 3 MANUAL, 4 SHUTTER. -/
def State.coachCmd (s : State) (c cmd : Nat) : State :=
  let r := s.coachCmdResult c cmd
  (s.whenB (decide (r ≤ 2)) (fun t => t.pendCmd c cmd)).wrs [(Reg.COACH_CMD_STAT_RESULT, r), (Reg.COACH_CMD_STAT_COACH, c)]

/-- R65, R102: the RWL words of a coach may not change: STATE is not OPEN, or a CLOSE is pending. -/
def State.coachLocked (s : State) (c : Nat) : Bool := s.coachState c != 0 || stPend (s.cw c 44) == 2

/-- An update is queued or running (R318). -/
def State.rgnHolds (s : State) : Bool := s.rd Reg.RGN_CTRL_STATE == 3 || s.rd Reg.RGN_CTRL_STATE == 4

/-- R320: a coach belongs to the group of a queued or running update. -/
def State.inGroup (s : State) (c : Nat) : Bool :=
  s.rgnHolds && s.rd Reg.RGN_CTRL_TYPE == 11 && s.rgn.coaches.any (fun p => p.1 == c)

/-- R307: the words of a coach that a group carries. -/
def groupWord (w : Nat) : Bool := decide (w ≤ 40) || w == 43

/-- R325: a hatch program or erase of `n` bytes at `a` may be done. -/
def State.hatchMay (s : State) (a n : Nat) : Bool :=
  s.mode == mSafe || decide (0x100000 ≤ a) ||
    (s.rd Reg.IMG_PERSIST_STATE == 3 && decide (copyBase (s.rd Reg.IMG_PERSIST_TARGET) + 32 ≤ a) &&
      decide (a + n ≤ copyBase (s.rd Reg.IMG_PERSIST_TARGET) + 0x080000))

end Sys2Proof.Machine
end

