-- ==== Sys2Proof/Machine/Net.lean ====
section
/-! DEFINITION. The network below the object model (R355 to R366, R382): the link, IPv4, foreign-device registration, BACnet/SC,
MS/TP, supervision, and what every confirmed request does first. -/

namespace Sys2Proof.Machine

/-- R355: 2.4 Vpp from AMPL_CFG and what the link partner requests. -/
def amplOf (cfg : Nat) (partner24 : Bool) : Nat := if cfg = 0 then 0 else if cfg = 1 then 1 else b2n partner24

/-- R364: BACnet/SC starts afresh: the wait is reset, and the primary is tried first. -/
def State.scFresh (s : State) : State :=
  let t := s.wrs [(Hid.scBackoff, s.netImg.scMin), (Hid.scAlt, 0), (Reg.NET_SC_STAT_WAIT, 0)]
  if t.on Hid.scOn then t.wr Reg.NET_STAT_SC_STATE 3 else t

/-- LINK_UP, R356, R358, R364. -/
def execLinkUp (partner24 eee : Bool) (sqi : Fin 8) (s : State) : Out :=
  if s.netOn = false ∨ s.netEn 0 = false ∨ s.on Reg.NET_STAT_LINK = true then fin s
  else
    let t := (s.hush).wrs [(Reg.NET_STAT_LINK, 1), (Reg.NET_STAT_AMPL, amplOf (s.rd Reg.NET_PHY_AMPL_CFG) partner24),
      (Reg.NET_PHY_SQI, sqi.val), (Hid.eee, b2n eee)]
    fin ((t.count 0xB0).ipStart.scFresh)

/-- LINK_DOWN, R356. -/
def execLinkDown (s : State) : Out := fin s.hush.linkDrop

/-- R358: a DHCP offer to a client without an address is asked for. -/
def State.dhcpOffer (s : State) : State :=
  if s.on Reg.NET_CTRL_DHCP_EN = false ∨ s.rd Hid.ipSrc ≠ 1 ∨ s.on Reg.NET_STAT_IP_OK = true ∨ s.rd Hid.ipWait ≠ 0 then s
  else s.tx [.dhcpRequest]

/-- R358: a DHCP lease, new or renewed, with options 1, 3 and 6. A lease of another address than the one in use ends the traffic on
that one until the new one is probed. -/
def State.dhcpLease (s : State) (addr mask gw dns : Nat) : State :=
  if s.on Reg.NET_CTRL_DHCP_EN = false ∨ s.rd Hid.ipSrc ≠ 1 then s
  else
    let t := (s.count 0xB5).wr Hid.ipDns dns
    if s.on Reg.NET_STAT_IP_OK ∧ s.rd Reg.NET_IP_ADDR_ADDR = addr then t.wrs [(Reg.NET_IP_MASK_MASK, mask), (Reg.NET_IP_GW_GW, gw)]
    else (if s.on Reg.NET_STAT_IP_OK then t.scClose.ipDrop else t).ipProbe 1 addr mask gw

/-- R360: the answer to a registration. -/
def State.bvllResult (s : State) (ok : Bool) : State :=
  let st := s.rd Reg.NET_FDR_FDR_STATE
  if s.netEn 1 = false ∨ (st ≠ 1 ∧ st ≠ 2) then s
  else if ok then (s.wr Reg.NET_FDR_FDR_STATE 2).count 0xB7
  else (s.wr Reg.NET_FDR_FDR_STATE 3).count 0xB8

/-- R358 to R361: what an accepted frame's content does. -/
def State.ethLoad (s : State) (l : Sys2Proof.EthLoad) : State :=
  let ip := s.on Reg.NET_STAT_IP_OK
  match l with
  | .other => s
  | .arp => if ip then s.tx [.arpReply] else s
  | .echo => if ip then s.tx [.echoReply] else s
  | .dhcpOffer => s.dhcpOffer
  | .dhcpLease a m g d => s.dhcpLease a m g d
  | .bvllResult ok => if ip then s.bvllResult ok else s
  | .bvllTable => if ip && s.netEn 1 then s.tx [.bvllNak] else s
  | .scMessage => if s.scUp then (s.levelPulse 0xBE).scFrames else s
  | .scDuplicate => if s.on Hid.scOn && ip then (s.freeBelow (2 ^ 48)).2.wr Hid.vmac (s.freeBelow (2 ^ 48)).1 else s

/-- R356: the MAC drops a frame. -/
def frameDropped (f : Sys2Proof.EthFrame) : Bool :=
  !f.fcsOk || f.vlan || f.dest == .multicast || decide (1518 < f.len) || !f.room

/-- ETH_FRAME_RX, R356, R26: a received frame whose buffer has an error is dropped. The buffer in which the MAC puts the next frame to
be sent has an error where `txOk` is false: that frame, in answer to this one or later, is not sent. A frame to another station is not
for the controller; fragments are dropped after the MAC (R358). -/
def execEthFrameRx (frame : Sys2Proof.EthFrame) (s : State) : Out :=
  let t := (if frame.txOk then s.hush else s.hush.setTxBad true).lpiWake 1
  if s.t1l = false then fin s
  else if frameDropped frame then fin (t.count 0xB4)
  else if frame.memOk = false then fin ((t.memErr Reg.MEM_ERR_MAC).count 0xB4)
  else if frame.dest = .other then fin t
  else fin ((t.count 0xB2).whenB (!frame.fragment) (fun u => u.ethLoad frame.load))

/-- R358: DHCP discovery starts again. -/
def State.dhcpAgain (s : State) : State := (s.wr Hid.ipSrc 1).tx [.dhcpDiscover]

/-- DHCP_TIMER, R358. -/
def execDhcpTimer (tick : Sys2Proof.DhcpTick) (s : State) : Out :=
  let t := s.hush
  if s.t1l = false ∨ s.on Reg.NET_CTRL_DHCP_EN = false ∨ s.rd Hid.ipSrc ≠ 1 then fin s
  else
    match tick, s.on Reg.NET_STAT_IP_OK with
    | .renew, true => fin (t.tx [.dhcpRequest])
    | .expired, true => fin (t.scClose.ipDrop.dhcpAgain)
    | .noOffer, false =>
      let u := t.or Reg.NET_FLAGS_FLAGS 4
      if s.rd Hid.ipWait ≠ 0 then fin s
      else if s.on Reg.NET_CTRL_STATIC_FB then fin (u.ipProbe 2 s.netImg.ip s.netImg.mask s.netImg.gw)
      else fin u.dhcpAgain
    | _, _ => fin s

/-- R358: the address in use or being claimed conflicts. -/
def State.ipConflict (s : State) : State :=
  let src := s.rd Hid.ipSrc
  let t := ((s.count 0xB6).or Reg.NET_FLAGS_FLAGS 2).scClose.ipDrop
  if src = 1 then (t.tx [.dhcpDecline]).dhcpAgain else t.wr Hid.ipSrc src

/-- IP_CONFLICT, R358. -/
def execIpConflict (s : State) : Out :=
  if s.t1l = false ∨ s.rd Hid.ipSrc = 0 then fin s else fin s.hush.ipConflict

/-- STATIC_REPROBE, R358: a static address in conflict has been probed again, and its probes were answered or were not. -/
def execStaticReprobe (answered : Bool) (s : State) : Out :=
  let t := s.hush.tx [.arpProbe, .arpProbe, .arpProbe]
  if s.t1l = false ∨ s.rd Hid.ipSrc ≠ 2 ∨ s.on Reg.NET_STAT_IP_OK = true ∨ s.rd Hid.ipWait ≠ 0 then fin s
  else if answered then fin t.ipConflict
  else fin (t.ipUse 2 s.netImg.ip s.netImg.mask s.netImg.gw)

/-- FDR_TIMER, R360: no answer after three tries, or the time to register again. -/
def execFdrTimer (failed : Bool) (s : State) : Out :=
  if s.t1l = false ∨ s.netEn 1 = false ∨ s.on Reg.NET_CTRL_FDR_EN = false ∨ s.on Reg.NET_STAT_IP_OK = false then fin s
  else if failed then fin ((s.hush.wr Reg.NET_FDR_FDR_STATE 3).count 0xB8)
  else
    let st := s.rd Reg.NET_FDR_FDR_STATE
    fin ((s.hush.wr Reg.NET_FDR_FDR_STATE (if st = 2 then 2 else 1)).tx [.fdrRegister])

/-- R361: the DNS server: of the lease, or the static one. -/
def State.dnsServer (s : State) : Nat := if s.rd Hid.ipSrc = 1 then s.rd Hid.ipDns else s.netImg.dns

/-- R362: the controller accepts a hub's chain: the suite is the one it offers, each signature verifies up to one of its two trust
anchors, the chain has at most 4 certificates, and while OSF is 0 each is valid now. -/
def State.chainOk (s : State) (c : Sys2Proof.HubChain) : Bool :=
  let now := s.today * 86400 + s.todSec
  c.suite && decide (1 ≤ c.certs.length) && decide (c.certs.length ≤ 4) && (s.netImg.anchors.take 2).contains c.anchor &&
    c.certs.all (fun h => h.signed && (s.on Reg.RTC_STAT_OSF || (decide (h.notBefore ≤ now) && decide (now ≤ h.notAfter))))

/-- R361, R364: an attempt at hub `k` (0 primary, 1 failover) leaves the controller: with an address, a hub that the image names and,
for a name, a DNS server that is asked. -/
def State.scReach (s : State) (k : Nat) : Bool × State :=
  if s.t1l && s.on Reg.NET_STAT_IP_OK then
    match s.netImg.hubs.getD k none with
    | none => (false, s)
    | some (.address _) => (true, s)
    | some (.name n) => if s.dnsServer = 0 then (false, s) else (true, s.tx [.dnsQuery n s.dnsServer])
  else (false, s)

/-- R362: the handshake has failed with an alert. -/
def State.scAlert (s : State) (c : Nat) : State := ((s.wr Reg.NET_SC_STAT_ALERT c).count 0xBC).or Reg.NET_FLAGS_FLAGS 8

/-- R361, R362, R364: an attempt at hub `k`: whether the controller is connected, and what it leaves. The controller presents its
certificate and up to 2 intermediates. The alert that it sends itself for a chain it refuses is a free code, as the spec names none. -/
def State.scTry (s : State) (k : Nat) (t : Sys2Proof.ScTry) : Bool × State :=
  let r := s.scReach k
  let u := ((r.2.scFrames.tx [.scHello (s.netImg.cert :: s.netImg.intermediates.take 2)]).levelPulse 0xBE).wr Reg.NET_STAT_TIME_UNCHK (s.rd Reg.RTC_STAT_OSF)
  if r.1 = false then (false, r.2)
  else
    match t with
    | .unreachable => (false, r.2.scFrames)
    | .tlsAlert c => (false, u.scAlert c)
    | .connected ch =>
      if s.chainOk ch then (true, u.tx [.scConnect (s.rd Hid.vmac) (Sys2Proof.Config.deviceUuid s.otp.uid % 2 ^ 128)])
      else (false, (u.freeBelow 256).2.scAlert (u.freeBelow 256).1)

/-- R364: a wait begins; each further failure doubles it, up to the maximum. -/
def State.scWait (s : State) : State :=
  let b := s.rd Hid.scBackoff
  s.wrs [(Reg.NET_SC_STAT_WAIT, b), (Hid.scBackoff, capN s.netImg.scMax (2 * b))]

/-- R364: connected to the primary; a connection to the failover hub closes. -/
def State.scPrimary (s : State) : State :=
  ((s.countIf (s.rd Reg.NET_STAT_SC_STATE == 5) 0xBA).wrs [(Reg.NET_STAT_SC_STATE, 4), (Hid.scBackoff, s.netImg.scMin),
    (Reg.NET_SC_STAT_WAIT, 0)]).count 0xB9

/-- R364: the failover hub is tried; a failure there ends the attempt. -/
def State.scFailover (s : State) (t : Sys2Proof.ScTry) : State :=
  let r := s.scTry 1 t
  if r.1 then ((((r.2.wr Reg.NET_STAT_SC_STATE 5).count 0xB9).count 0xBB).or Reg.NET_FLAGS_FLAGS 16).scWait
  else (r.2.wr Reg.NET_STAT_SC_STATE 6).scWait

/-- R364: the wait before the next attempt still runs. -/
def State.scWaits (s : State) : Bool :=
  (s.rd Reg.NET_STAT_SC_STATE == 5 || s.rd Reg.NET_STAT_SC_STATE == 6) && decide (1 < s.rd Reg.NET_SC_STAT_WAIT)

/-- SC_CONNECT_ATTEMPT, R361 to R364: the primary first, then the failover hub; after the loss of the primary's connection the
failover hub alone; while connected to it, the primary alone. -/
def execScConnectAttempt (primary failover : Sys2Proof.ScTry) (s : State) : Out :=
  let st := s.rd Reg.NET_STAT_SC_STATE
  let t := s.hush.wr Hid.scAlt 0
  if s.netOn = false ∨ s.on Hid.scOn = false ∨ (st ≠ 3 ∧ st ≠ 5 ∧ st ≠ 6) ∨ s.scWaits = true then fin s
  else if s.on Hid.scAlt = true ∧ st ≠ 5 then fin (t.scFailover failover)
  else
    let r := t.scTry 0 primary
    if r.1 then fin r.2.scPrimary
    else if st = 5 then fin r.2.scWait
    else fin (r.2.scFailover failover)

/-- SC_CONNECTION_LOST, R364: after the loss of the primary the failover hub is tried. -/
def execScConnectionLost (s : State) : Out :=
  if s.netOn = false ∨ s.scUp = false then fin s
  else fin ((s.hush.scClose).wr Hid.scAlt (b2n (s.rd Reg.NET_STAT_SC_STATE == 4)))

/-- SC_HEARTBEAT_DUE, R364. -/
def execScHeartbeatDue (s : State) : Out :=
  if s.netOn = false ∨ s.scUp = false then fin s else fin (((s.hush.levelPulse 0xBE).scFrames.tx [.heartbeat]).count 0xBD)

/-- SC_KEY_GENERATION, R363: the pair is made from `random` and stored in OTP. -/
def execScKeyGeneration (random : Nat) (s : State) : Out :=
  if s.netOn = false ∨ s.netEn 2 = false ∨ s.otp.keySet = true then fin s
  else
    let d := 1 + random % (n256 - 1)
    let p := (gPoint.times d).affine
    let t : State := { s.hush with otp := { s.otp with keySet := true, priv := d, pub := toWords 8 p.1 ++ toWords 8 p.2 } }
    fin t.scInit

/-- A bit of BUS_FLAGS set. -/
def State.busFlag (s : State) (k b : Nat) : State := s.orAt Reg.BUS_FLAGS_FLAGS k (2 ^ b)

/-- R366: the node sends the frames that wait, at most Max_Info_Frames of them. -/
def State.tokenSend (s : State) (k : Nat) : State :=
  let n := s.rdAt Reg.BUS_MSTP_MAX_INFO k
  ({ s with net := { s.net with queue := s.net.queue.drop n } } : State).each (s.net.queue.take n) (fun t m => t.sendFrame (2 + k) m)

/-- R366, R385: the token is passed on, and the node is idle. -/
def State.tokenPass (s : State) (k : Nat) : State := (s.wrAt Reg.BUS_STAT_STATE k 1).say [.send .passToken]

/-- R367, R385: a Modbus port of a bus, server or client. -/
def State.mbPort (s : State) (k : Nat) : Bool := s.busOn k 2 || s.busOn k 3

/-- MSTP_FRAME, R366: a received token lets the node send, and the end of its use passes the token on. A node without a token whose
poll finds no other master is the sole master (R385); one whose poll finds one, a sole master's too, passes the token to it. A Modbus port flags frames with
errors too. -/
def execMstpFrame (bus : Fin 2) (frame : Sys2Proof.MstpFrame) (s : State) : Out :=
  let k := bus.val
  let t := s.hush
  if s.mbPort k = true ∧ frame = .badFraming then fin (t.busFlag k 0)
  else if s.mbPort k = true ∧ frame = .badCrc then fin (t.busFlag k 1)
  else if s.busOn k 1 = false then fin s
  else
    match frame with
    | .token => fin (((t.wrsAt k [(Reg.BUS_STAT_STATE, 2), (Reg.BUS_STAT_TOKEN_AGE, 0)]).count 0xC7).tokenSend k)
    | .tokenUsed => if s.rdAt Reg.BUS_STAT_STATE k = 2 then fin (t.tokenPass k) else fin s
    | .badFraming => fin ((t.busFlag k 0).count 0xC8)
    | .badCrc => fin ((t.busFlag k 1).count 0xC8)
    | .ownAddress => fin ((t.busFlag k 2).count 0xC9)
    | .expectingReply ready =>
      fin (({ t with net := { t.net with postponed := !ready } } : State).say [.send (if ready then .replyNow else .replyPostponed)])
    | .other => fin t
    | .pollEnd found =>
      if s.rdAt Reg.BUS_STAT_STATE k ≠ 4 ∧ s.rdAt Reg.BUS_STAT_STATE k ≠ 3 then fin t
      else if found then fin (t.tokenPass k)
      else fin ((t.wrAt Reg.BUS_STAT_STATE k 3).tokenSend k)

/-- MSTP_NO_TOKEN, R366: the node sets NO_TOKEN and starts to claim the token. -/
def execMstpNoToken (bus : Fin 2) (s : State) : Out :=
  let k := bus.val
  if s.busOn k 1 = false then fin s
  else fin (((s.hush.busFlag k 3).wrAt Reg.BUS_STAT_STATE k 4).say [.send .pollForMaster])

/-- NET_SUPERVISION_EXPIRY, R382: the time left has run out; the timer runs in clock fallback too. -/
def execNetSupervisionExpiry (s : State) : Out :=
  if 1 < s.rd Reg.NET_SUP_LEFT_LEFT ∨ s.on Reg.NET_SUP_SUP_EN = false ∨ s.on Reg.PWR_STAT_NET_LOST = true ∨ s.native = false ∨ s.alive = false then fin s
  else fin ((s.wrs [(Reg.NET_SUP_LEFT_LEFT, 0), (Reg.PWR_STAT_NET_LOST, 1)]).count 0xCE)

/-- R382: a supervising message on port 0 BACnet/IP, 1 BACnet/SC, 2 BUS1, 3 BUS2. -/
def State.supMessage (s : State) (port : Nat) : State :=
  if bit (s.rd Reg.NET_SUP_SUP_PORTS) port then
    (s.wrs [(Reg.NET_SUP_LEFT_LEFT, s.rd Reg.NET_SUP_NET_TO), (Hid.supAge, 0), (Reg.PWR_STAT_NET_LOST, 0)]).count 0xCD
  else s

/-- R26: an uncorrectable error in the protocol processor's RAM (1) or patch RAM (2) restarts it: the link and its sessions end, and after an
error in patch RAM it runs again when the hatch path has reloaded that (R401). -/
def State.ppError (s : State) (ram : Nat) : State :=
  if ram = 1 then ((s.memErr Reg.MEM_ERR_PP_RAM).linkDrop).netRestart
  else (((s.memErr Reg.MEM_ERR_PATCH).linkDrop).pathJoin 4).netRestart

/-- R340, R382, R386: what every confirmed request does as it arrives. -/
def State.confirmed (s : State) (f : Sys2Proof.NetFrom) : State :=
  let t := (s.hush.count 0xC0).whenB (f.port.val == 1) (fun u => u.levelPulse 0xBE)
  if f.alone then (t.wr Hid.wakeNet 1).supMessage f.port.val else t

/-- R378, R386: an Error, Reject or Abort, counted as it is sent. -/
def State.netError (s : State) (port : Nat) (e : NetErr) : State :=
  s.replyFrame port ([.error e], some 0xC1)

/-- R359: the octets of an APDU that a port accepts. -/
def apduMax (port : Nat) : Nat := if port ≤ 1 then 1476 else 480

/-- R359: the most segments of a message. -/
def maxSegments : Nat := 16

/-- R359: the most segments in one window. -/
def maxWindow : Nat := 4

/-- R359: a request within what its port accepts, of one segment, with an answer of one segment. -/
def plainReq (f : Sys2Proof.NetFrom) : Bool := decide (f.octets ≤ apduMax f.port.val) && decide (f.reqSegs ≤ 1) && decide (f.ansSegs ≤ 1)

/-- R359: the window of a segmented message: the one proposed, or 4, whichever is less. -/
def windowOf (f : Sys2Proof.NetFrom) : Nat := max 1 (min f.window maxWindow)

/-- R359: a segmented request is acknowledged window by window. -/
def State.segmentAcks (s : State) (f : Sys2Proof.NetFrom) : State :=
  let w := windowOf f
  if f.reqSegs ≤ 1 then s else s.each (upTo ((f.reqSegs + w - 1) / w)) (fun t _ => t.answer f.port.val [.send (.segmentAck w)])

/-- R359: an answer of several segments goes out in as many frames. -/
def State.segmented (s : State) (f : Sys2Proof.NetFrom) : State :=
  if f.ansSegs ≤ 1 then s
  else if f.port.val ≤ 1 then (s.txFrames (f.ansSegs - 1)).say [.segments f.ansSegs (windowOf f)]
  else s.answer f.port.val [.segments f.ansSegs (windowOf f)]

/-- R366: the answer that Reply Postponed has put off has been given. -/
def State.replyEnd (s : State) (f : Sys2Proof.NetFrom) : State :=
  if f.port.val ≤ 1 then s else { s with net := { s.net with postponed := false } }

/-- A confirmed request handled: its port carries BACnet, its APDUs are within R359, the RAM reads without error (R26), and the device
is not silenced (R380; `always` for the services that Clause 16 leaves). -/
def State.request (s : State) (f : Sys2Proof.NetFrom) (always : Bool) (act : State → State) : State :=
  if s.bacOn f.port.val = false then s
  else
    let t := s.confirmed f
    if f.ram.val ≠ 0 then t.ppError f.ram.val
    else if s.rd Reg.NET_STAT_DCC = 1 ∧ always = false then t.replyEnd f
    else if apduMax f.port.val < f.octets then (t.netError f.port.val .apduTooLong).replyEnd f
    else if maxSegments < f.reqSegs ∨ maxSegments < f.ansSegs then (t.netError f.port.val .tooManySegments).replyEnd f
    else ((act (t.segmentAcks f)).segmented f).replyEnd f

/-- The answer of a service that may be refused. -/
def State.reqAnswer (s : State) (port : Nat) (r : Except NetErr State) : State :=
  match r with
  | .ok t => t.answer port [.ack]
  | .error e => s.netError port e

end Sys2Proof.Machine
end

