-- ==== Sys2Proof/Machine/Modbus.lean ====
section
/-! DEFINITION. The Modbus server and client (R367, R368, R384). -/

namespace Sys2Proof.Machine

/-- R384: whether a register is half of a pair, in the input map or the holding map. -/
def mbPair (input : Bool) (r : Nat) : Bool :=
  if input then decide (0x0100 ≤ r) && decide (r < 0x0380) else decide (r < 0x0340)

/-- R384: whether the map has a register. -/
def mbHas (input : Bool) (r : Nat) : Bool :=
  let inn := fun (lo hi : Nat) => decide (lo ≤ r) && decide (r ≤ hi)
  if input then
    inn 0x0000 0x007F || inn 0x0100 0x037F || inn 0x0400 0x049F || inn 0x0500 0x050F || inn 0x0520 0x052C || inn 0x0530 0x0532 ||
      inn 0x0600 0x0607 || inn 0x0700 0x0702 || inn 0x0780 0x0783
  else inn 0x0000 0x033F || inn 0x0400 0x040F

/-- R384: the registers of a request all exist, and no pair is cut in half. -/
def mbSpanOk (input : Bool) (start count : Nat) : Bool :=
  (upTo count).all (fun k => mbHas input (start + k)) && !(mbPair input start && start % 2 == 1) &&
    !(mbPair input (start + count - 1) && (start + count) % 2 == 1)

/-- R384: the coach word an input register is taken from. -/
def mbInputCoach (r : Nat) : Option (Nat × Nat) :=
  if 0x0100 ≤ r ∧ r < 0x0380 then some ((r - 0x0100) / 4, if (r - 0x0100) % 4 < 2 then 47 else 52)
  else if 0x0400 ≤ r ∧ r < 0x04A0 then some (r - 0x0400, 44)
  else none

/-- R384: the coach word a holding register is taken from. -/
def mbHoldingCoach (r : Nat) : Option (Nat × Nat) :=
  if 0x0200 ≤ r ∧ r < 0x0340 then some ((r - 0x0200) / 2, 8) else none

/-- The half of a 32-bit value that stands in a register: the high word first. -/
def mbHalf (v r : Nat) : Nat := if r % 2 = 0 then v / 65536 % 65536 else v % 65536

/-- R384: the measured speed of a fan channel; channel 0's is a measurement of the world outside. -/
def State.mbFan (s : State) (n : Nat) : Nat × State :=
  if n = 0 then (let w := s.readWord 0x3003; (w.1 % 65536, w.2)) else (s.rdAt Reg.FANT_MEAS_SPEED (n - 1), s)

/-- R384: the plain input registers. -/
def State.mbInputLow (s : State) (r : Nat) : Nat :=
  if r < 0x0040 then s.rdAt Reg.UI_VALUE_VALUE r
  else if r < 0x0080 then s.rdAt Reg.UI_VALUE_VALID (r - 0x40) + 2 * s.rdAt Reg.UI_VALUE_REASON (r - 0x40)
  else if r < 0x0510 then
    let z := r - 0x0500
    s.rdAt Reg.ZONE_STATE_SET z + 16 * s.rdAt Reg.ZONE_STATE_PRESTART z + 256 * b2n (bit (s.rd Reg.OCC_ZONE_OCC) z)
  else if r < 0x0528 then s.vlvValue (r - 0x0520)
  else s.dmpValue (r - 0x0528)

/-- R384: the status registers. -/
def State.mbInputHigh (s : State) (r : Nat) : Nat :=
  if r = 0x052C then s.regWord 0x3A08 % 65536
  else if r ≤ 0x0607 then s.rdAt Reg.TS_VALUE_T (r - 0x0600)
  else if r = 0x0700 then s.mode
  else if r = 0x0701 then s.pwrCond % 65536
  else if r = 0x0702 then s.regWord 0x2C00 % 65536
  else s.otp.uid / 65536 ^ (0x0783 - r) % 65536

/-- R384: one input register. -/
def State.mbInput (s : State) (r : Nat) : Nat × State :=
  match mbInputCoach r with
  | some p => (if p.2 = 44 then s.cw p.1 44 % 65536 else mbHalf (s.cw p.1 p.2) r, s.ceFix p.1 p.2)
  | none =>
    if 0x0530 ≤ r ∧ r ≤ 0x0532 then s.mbFan (r - 0x0530)
    else if r < 0x052C then (s.mbInputLow r, s)
    else (s.mbInputHigh r, s)

/-- R384: one holding register. A zone reads the value that stands at priority 16, 0 for none. -/
def State.mbHolding (s : State) (r : Nat) : Nat × State :=
  match mbHoldingCoach r with
  | some p => (mbHalf (s.cw p.1 p.2) r, s.ceFix p.1 p.2)
  | none =>
    if r < 0x0200 then (mbHalf (ofI 32 (s.avValue (s.avBound (r / 2)) (r / 2))) r, s)
    else (((s.zoneArray (r - 0x0400)).getD 15 none).getD 0, s)

/-- R384: a run of registers. -/
def State.mbRead (s : State) (input : Bool) (r : Nat) : Nat → List Nat × State
  | 0 => ([], s)
  | n + 1 =>
    let p := s.mbRead input r n
    let q := if input then p.2.mbInput (r + n) else p.2.mbHolding (r + n)
    (p.1 ++ [q.1], q.2)

/-- The coach words that a request reads. -/
def mbCoaches (input : Bool) (start count : Nat) : List (Nat × Nat) :=
  (upTo count).filterMap (fun k => if input then mbInputCoach (start + k) else mbHoldingCoach (start + k))

/-- R384: an exception, or a good answer. -/
def State.mbExc (s : State) (code : Nat) : State := ((s.count 0xCB).count 0xCA).say [.exception code]

/-- R384: the answer to a good request. -/
def State.mbGood (s : State) (l : List NetOut) : State := (s.count 0xCA).say l

/-- R384: a read. An unreadable coach word is noted under R102 and answers 0x04. -/
def State.mbReadReq (s : State) (input : Bool) (start count : Nat) : State :=
  let bad := (mbCoaches input start count).filter (fun p => s.unreadable p.1 p.2)
  if count = 0 ∨ 125 < count then s.mbExc 3
  else if mbSpanOk input start count = false then s.mbExc 2
  else if bad.isEmpty = false then (s.each bad.dedup (fun t p => t.noteDue p.1 p.2 false)).mbExc 4
  else
    let r := s.mbRead input start count
    r.2.mbGood [.regs r.1]

/-- R367, R382: a request to a Modbus server at its address; in broadcast, which has no reply, `quiet` is what it does. -/
def State.mbServe (s : State) (bus addr : Nat) (act : State → State) (quiet : State → State) : State :=
  if s.busOn bus 2 = false then s
  else if addr = s.rdAt Reg.BUS_CFG_ADDR bus then
    act (((s.hush).wrAt Reg.BUS_STAT_TOKEN_AGE bus 0).supMessage (2 + bus))
  else if addr = 0 then quiet ((s.hush).wrAt Reg.BUS_STAT_TOKEN_AGE bus 0)
  else s

/-- MODBUS_READ_HOLDING_REGISTERS, R384. -/
def execModbusReadHoldingRegisters (bus : Fin 2) (addr : Fin 256) (start count : Nat) (s : State) : Out :=
  fin (s.mbServe bus.val addr.val (fun t => t.mbReadReq false start count) id)

/-- MODBUS_READ_INPUT_REGISTERS, R384. -/
def execModbusReadInputRegisters (bus : Fin 2) (addr : Fin 256) (start count : Nat) (s : State) : Out :=
  fin (s.mbServe bus.val addr.val (fun t => t.mbReadReq true start count) id)

/-- A value put at a priority of an Analog Value's array; none relinquishes. -/
def State.avPut (s : State) (i prio : Nat) (v : Option Int) : State :=
  let a := s.av i
  s.setAv { a with prio := setAt ((a.prio ++ List.replicate 16 none).take 16) (prio - 1) v }

/-- R375: a value put at a priority of a zone's array; the highest priority drives ZONE_FORCE. -/
def State.zonePut (s : State) (z prio : Nat) (v : Option Nat) : State :=
  let l := setAt (s.zoneArray z) (prio - 1) v
  let rest := s.net.zones.filter (fun p => p.1 != z)
  let zs := if l.all Option.isNone then rest else rest ++ [(z, l)]
  let t : State := { s with net := { s.net with zones := zs } }
  (t.wrAt Reg.ZONE_FORCE_FORCE z ((l.findSome? id).getD 0)).zoneApply z false

/-- R384: the exception that one register of a write meets, 0 for none. -/
def State.mbWriteBad (s : State) (r v : Nat) : Nat :=
  match mbHoldingCoach r with
  | some p => if s.inGroup p.1 then 6 else 0
  | none => if r < 0x0200 then (if s.avBound (r / 2) then 2 else 0) else if 4 < v then 3 else 0

/-- R384: what a write does from a register on; pairs are taken whole, high word first. -/
def State.mbStore (s : State) (r : Nat) : List Nat → State
  | [] => s
  | [v] => if 0x0400 ≤ r then s.zonePut (r - 0x0400) 16 (if v = 0 then none else some v) else s
  | v :: w :: t =>
    if 0x0400 ≤ r then (s.zonePut (r - 0x0400) 16 (if v = 0 then none else some v)).mbStore (r + 1) (w :: t)
    else
      let x := v % 65536 * 65536 + w % 65536
      match mbHoldingCoach r with
      | some p => (s.wrCoach p.1 p.2 x).mbStore (r + 2) t
      | none => (s.avPut (r / 2) 16 (some (toI 32 x))).mbStore (r + 2) t

/-- R384: the exception that a write meets, 0 for none. -/
def State.mbWriteExc (s : State) (start : Nat) (values : List Nat) : Nat :=
  let n := values.length
  if n = 0 ∨ 123 < n then 3
  else if mbSpanOk false start n = false then 2
  else (((upTo n).map (fun k => s.mbWriteBad (start + k) (values.getD k 0))).find? (fun b => b != 0)).getD 0

/-- R384: a write in broadcast, all of it or nothing, without a reply. -/
def State.mbWriteQuiet (s : State) (start : Nat) (values : List Nat) : State :=
  if s.mbWriteExc start values = 0 then s.mbStore start values else s

/-- R384: a write, all of it or nothing. -/
def State.mbWriteReq (s : State) (start : Nat) (values : List Nat) : State :=
  let x := s.mbWriteExc start values
  if x = 0 then (s.mbStore start values).mbGood [.ack] else s.mbExc x

/-- MODBUS_WRITE_SINGLE_REGISTER, R384: a register that is half of a pair answers 0x02. -/
def execModbusWriteSingleRegister (bus : Fin 2) (addr : Fin 256) (reg value : Nat) (s : State) : Out :=
  fin (s.mbServe bus.val addr.val (fun t => t.mbWriteReq reg [value]) (fun t => t.mbWriteQuiet reg [value]))

/-- MODBUS_WRITE_MULTIPLE_REGISTERS, R384. -/
def execModbusWriteMultipleRegisters (bus : Fin 2) (addr : Fin 256) (start : Nat) (values : List Nat) (s : State) : Out :=
  fin (s.mbServe bus.val addr.val (fun t => t.mbWriteReq start values) (fun t => t.mbWriteQuiet start values))

/-- R367: the basic identification objects, in ASCII: "Bassindi Microsystems", "KZ-5160", the revision of ID_DIE. -/
def State.mbIdent (s : State) : List (List Nat) :=
  [[66, 97, 115, 115, 105, 110, 100, 105, 32, 77, 105, 99, 114, 111, 115, 121, 115, 116, 101, 109, 115], [75, 90, 45, 53, 49, 54, 48],
   [s.otp.die / 256 % 256, 48 + s.otp.die % 16]]

/-- MODBUS_READ_DEVICE_IDENTIFICATION, R367. -/
def execModbusReadDeviceIdentification (bus : Fin 2) (addr : Fin 256) (s : State) : Out :=
  fin (s.mbServe bus.val addr.val (fun t => t.mbGood [.ident t.mbIdent]) id)

/-- R367: the functions a server answers; 43 is 0x2B, whose MEI type 0x0E alone is answered. -/
def mbKnown (f : Nat) : Bool := f == 3 || f == 4 || f == 6 || f == 16

/-- MODBUS_UNSUPPORTED_FUNCTION, R367: any function byte that the server does not answer. A function that it answers comes with its
own row, and is no request here. -/
def execModbusUnsupportedFunction (bus : Fin 2) (addr : Fin 256) (function : Nat) (s : State) : Out :=
  if mbKnown (function % 256) then fin s else fin (s.mbServe bus.val addr.val (fun t => t.mbExc 1) id)

/-- R368: how many registers a format takes. -/
def mbWidth (format : Nat) : Nat := if format < 2 then 1 else 2

/-- R368: an entry's request is sent. -/
def State.mbAsk (s : State) (c : Sys2Proof.MbClient) : State :=
  s.say [.send (.modbusPoll c.server c.function c.start (mbWidth c.format))]

/-- R385: a Modbus client port is active while a reply is awaited, and idle otherwise. -/
def State.mbState (s : State) (bus : Nat) : State :=
  s.wrAt Reg.BUS_STAT_STATE bus (if (upTo 16).any (fun e => s.onAt Hid.mbWait (16 * bus + e)) then 2 else 1)

/-- R368, R385: an entry's poll has failed or succeeded. -/
def State.mbResult (s : State) (k : Nat) (bad : Bool) : State :=
  ((s.wrsAt k [(Hid.mbWait, 0), (Hid.mbTries, 0), (Hid.mbFail, b2n bad)]).mbFlag (k % 16)).mbState (k / 16)

/-- MODBUS_CLIENT_POLL, R368: an entry that is due sends its request. -/
def execModbusClientPoll (bus : Fin 2) (entry : Fin 16) (s : State) : Out :=
  let k := 16 * bus.val + entry.val
  match s.mbEntry bus.val entry.val with
  | none => fin s
  | some c =>
    if s.busOn bus.val 3 = false ∨ s.onAt Hid.mbDue k = false then fin s
    else fin (((s.hush.wrsAt k [(Hid.mbDue, 0), (Hid.mbWait, 1), (Hid.mbTries, 0)]).mbState bus.val).mbAsk c)

/-- R368: the value read, in units of 2^-149. -/
def mbRaw (format : Nat) (l : List Nat) : Option Int :=
  let x := l.foldl (fun a b => a * 65536 + b % 65536) 0
  let one : Int := 2 ^ 149
  if format = 0 then some (toI 16 x * one)
  else if format = 1 then some ((x : Int) * one)
  else if format = 2 then some (toI 32 x * one)
  else realScaled x

/-- R368, R370: the value read, times gain, plus offset, in Q16.16; none where it is no number or has no place there. -/
def mbScale (c : Sys2Proof.MbClient) (l : List Nat) : Option Int :=
  match mbRaw c.format l, realScaled c.gain, realScaled c.offset with
  | some x, some g, some o => qOfRat (x * g + o * 2 ^ 149) (2 ^ 298)
  | _, _, _ => none

/-- MODBUS_CLIENT_REPLY, R368. A value without a place in Q16.16 leaves a free value, because the spec states none. -/
def execModbusClientReply (bus : Fin 2) (entry : Fin 16) (values : List Nat) (s : State) : Out :=
  let k := 16 * bus.val + entry.val
  match s.mbEntry bus.val entry.val with
  | none => fin s
  | some c =>
    if s.busOn bus.val 3 = false ∨ s.onAt Hid.mbWait k = false ∨ values.length ≠ mbWidth c.format then fin s
    else
      let t := s.hush.mbResult k false
      match mbScale c values with
      | some q => fin (t.avPut c.target 16 (some q))
      | none => fin ((t.freeBelow (2 ^ 32)).2.avPut c.target 16 (some (toI 32 (t.freeBelow (2 ^ 32)).1)))

/-- MODBUS_CLIENT_TIMEOUT, R368: one retry, then the poll has failed. -/
def execModbusClientTimeout (bus : Fin 2) (entry : Fin 16) (s : State) : Out :=
  let k := 16 * bus.val + entry.val
  match s.mbEntry bus.val entry.val with
  | none => fin s
  | some c =>
    if s.busOn bus.val 3 = false ∨ s.onAt Hid.mbWait k = false then fin s
    else if s.onAt Hid.mbTries k = false then fin ((s.hush.wrAt Hid.mbTries k 1).mbAsk c)
    else
      fin ((s.hush.mbResult k true).count 0xCC)

end Sys2Proof.Machine
end

