-- ==== Sys2Proof/Machine/Bacnet.lean ====
section
/-! DEFINITION. The BACnet services (R369 to R381): property writes, reporting, trend logs, time synchronisation,
reinitialisation, the staging of region updates. -/

namespace Sys2Proof.Machine

open Sys2Proof (BacObj BacProp BacVal BacRef BacWrite NetFrom NetObj NotifyClass TrendLog EventTo)

/-- A REAL that is stored in Q16.16 (R370). -/
def storedReal (v : BacVal) : Except NetErr Int :=
  match v with
  | .real b => (match qOfReal b with | some q => .ok q | none => .error .valueOutOfRange)
  | _ => .error .valueOutOfRange

/-- R370: a REAL that a property of the network takes: stored in Q16.16, and presented as such. -/
def takenReal (v : BacVal) : Except NetErr Nat := (storedReal v).map realOfQ

/-- An unsigned value up to `hi`. -/
def numUpTo (hi : Nat) (v : BacVal) : Except NetErr Nat :=
  match v with
  | .num n => if n ≤ hi then .ok n else .error .valueOutOfRange
  | _ => .error .valueOutOfRange

/-- A Boolean. -/
def boolOf (v : BacVal) : Except NetErr Bool :=
  match v with
  | .bool b => .ok b
  | _ => .error .valueOutOfRange

/-- R376: a write of an object's limits, delays, Event_Enable or Notification_Class. -/
def reportWrite (x : NetObj) (p : BacProp) (v : BacVal) : Except NetErr NetObj :=
  match p with
  | .highLimit => (takenReal v).map (fun b => { x with high := b })
  | .lowLimit => (takenReal v).map (fun b => { x with low := b })
  | .deadband => (takenReal v).map (fun b => { x with deadband := b })
  | .errorLimit => (takenReal v).map (fun b => { x with errorLimit := b })
  | .timeDelay => (numUpTo (2 ^ 32 - 1) v).map (fun n => { x with delay := n })
  | .eventEnable => (numUpTo 7 v).map (fun n => { x with enable := n })
  | .notificationClass => (numUpTo 3 v).map (fun n => { x with cls := n })
  | _ => .error .writeAccessDenied

/-- R376: the reporting properties that an object has: limits on Analog Inputs and Analog Values, the error limit and the
deadband on Loops, and the
rest on these and on Binary Outputs. -/
def hasReport (o : BacObj) (p : BacProp) : Bool :=
  let limits := p == .highLimit || p == .lowLimit || p == .deadband
  let common := p == .timeDelay || p == .eventEnable || p == .notificationClass
  match o with
  | .analogInput _ => limits || common
  | .analogValue _ => limits || common
  | .loop _ => p == .errorLimit || p == .deadband || common
  | .binaryOutput _ => common
  | _ => false

/-- R376: a write to a reporting property. -/
def State.writeReport (s : State) (w : BacWrite) : Except NetErr State :=
  if hasReport w.ref.obj w.ref.prop then (reportWrite (s.netObj w.ref.obj) w.ref.prop w.val).map s.setNetObj else .error .writeAccessDenied

/-- R381: a write of Device property 512: 1 START, 2 ABORT. -/
def State.stageCommand (s : State) (v : BacVal) : Except NetErr State :=
  match v with
  | .num 1 =>
    if s.rd Reg.RGN_CTRL_STATE = 0 then .error .valueOutOfRange
    else if s.rd Reg.RGN_CTRL_STATE = 1 then .ok s.rgnStart
    else .error .deviceBusy
  | .num 2 => .ok s.rgnAbort
  | _ => .error .valueOutOfRange

/-- R369, R381: a write to the Device object. -/
def State.writeDevice (s : State) (p : BacProp) (v : BacVal) : Except NetErr State :=
  match p with
  | .utcOffset => (match v with
    | .int i => .ok { s with net := { s.net with utcOffset := i } }
    | _ => .error .valueOutOfRange)
  | .daylightSavings => (boolOf v).map (fun b => { s with net := { s.net with dst := b } })
  | .stageCommand => s.stageCommand v
  | _ => .error .writeAccessDenied

/-- R371: a write to an Analog Input. -/
def State.writeInput (s : State) (w : BacWrite) : Except NetErr State :=
  let x := s.netObj w.ref.obj
  match w.ref.prop with
  | .outOfService => (boolOf w.val).map (fun b => s.setNetObj { x with oos := b, written := if b then x.written else .null })
  | .presentValue =>
    if x.oos then (takenReal w.val).map (fun b => s.setNetObj { x with written := .real b }) else .error .writeAccessDenied
  | _ => s.writeReport w

/-- R372: a write to an Analog Value. -/
def State.writeValue (s : State) (i : Nat) (w : BacWrite) : Except NetErr State :=
  match w.ref.prop with
  | .presentValue =>
    if s.avBound i then .error .writeAccessDenied
    else if w.prio.val = 0 then .error .valueOutOfRange
    else if w.val = .null then .ok (s.avPut i w.prio.val none)
    else (storedReal w.val).map (fun q => s.avPut i w.prio.val (some q))
  | _ => s.writeReport w

/-- R375: a write to a zone's Multi-state Value. -/
def State.writeZone (s : State) (z : Nat) (w : BacWrite) : Except NetErr State :=
  match w.ref.prop with
  | .presentValue =>
    if w.prio.val = 0 then .error .valueOutOfRange
    else if w.val = .null then .ok (s.zonePut z w.prio.val none)
    else
      match numUpTo 4 w.val with
      | .ok n => if n = 0 then .error .valueOutOfRange else .ok (s.zonePut z w.prio.val (some n))
      | .error e => .error e
  | _ => .error .writeAccessDenied

/-- R373: a coach word written by the network: refused while an update holds it, while R65 locks it, or where R33 and R86 would be
broken. -/
def State.writeCoach (s : State) (c w : Nat) (q : Int) : Except NetErr State :=
  let rwl := Reg.coachAcc w == .rwl
  let v := ofI 32 q
  let t := s.wrCoach c w v
  if groupWord w && s.inGroup c then .error .deviceBusy
  else if rwl && s.coachLocked c && v != s.cw c w then .error .writeAccessDenied
  else if rwl && !t.withUpdate.coachOk c then .error .valueOutOfRange
  else .ok t

/-- R373: a command to a coach by way of Out_Of_Service. An accepted one writes COACH_CMD_STAT as the host's does; a refused one is
answered on the network and leaves COACH_CMD_STAT, the record of the host's last command, as it was (DESIGN CHOICE, log entry 64). -/
def State.netCoachCmd (s : State) (c cmd : Nat) : Except NetErr State :=
  if s.inGroup c then .error .deviceBusy
  else if 2 < s.coachCmdResult c cmd then .error .writeAccessDenied
  else .ok (s.coachCmd c cmd)

/-- R373: the coach word that a Loop property writes. -/
def loopWord (p : BacProp) : Option Nat :=
  match p with
  | .setpoint => some 8
  | .proportionalConstant => some 12
  | .integralConstant => some 13
  | .derivativeConstant => some 14
  | .maximumOutput => some 19
  | .minimumOutput => some 18
  | _ => none

/-- R373: a write to a Loop. -/
def State.writeLoop (s : State) (c : Nat) (w : BacWrite) : Except NetErr State :=
  match loopWord w.ref.prop with
  | some k => (match storedReal w.val with | .ok q => s.writeCoach c k q | .error e => .error e)
  | none =>
    match w.ref.prop with
    | .outOfService => (match boolOf w.val with | .ok b => s.netCoachCmd c (if b then 3 else 2) | .error e => .error e)
    | .presentValue =>
      if s.coachState c = 2 then (match storedReal w.val with | .ok q => s.writeCoach c 53 q | .error e => .error e)
      else .error .writeAccessDenied
    | _ => s.writeReport w

/-- R369: a write to a Notification Class: up to 4 recipients, three priorities. -/
def State.writeClass (s : State) (n : Nat) (w : BacWrite) : Except NetErr State :=
  let c : NotifyClass := s.net.classes.getD n {}
  let put := fun (d : NotifyClass) => ({ s with net := { s.net with classes := setAt s.net.classes n d } } : State)
  match w.ref.prop, w.val with
  | .recipientList, .blobs l => if l.length ≤ 4 then .ok (put { c with recipients := l }) else .error .noSpace
  | .priority, .blob l => if l.length = 3 ∧ l.all (fun p => decide (p ≤ 255)) then .ok (put { c with prio := l }) else .error .valueOutOfRange
  | .recipientList, _ => .error .valueOutOfRange
  | .priority, _ => .error .valueOutOfRange
  | _, _ => .error .writeAccessDenied

/-- R369: a write to a Trend Log. Log_Interval is in hundredths of a second, 1 s to 3600 s, or 0 for COV (log entry 23). -/
def State.writeTrend (s : State) (n : Nat) (w : BacWrite) : Except NetErr State :=
  let t : TrendLog := s.net.trends.getD n {}
  let put := fun (d : TrendLog) => ({ s with net := { s.net with trends := setAt s.net.trends n d } } : State)
  match w.ref.prop with
  | .enable => (boolOf w.val).map (fun b => put { t with enable := b })
  | .logInterval => (match numUpTo 360000 w.val with
    | .ok k => if k % 100 = 0 then .ok (put { t with interval := k / 100 }) else .error .valueOutOfRange
    | .error e => .error e)
  | .logProperty => (match w.val with
    | .ref r => if objExists r.obj then .ok (put { t with ref := some r }) else .error .unknownObject
    | _ => .error .valueOutOfRange)
  | _ => .error .writeAccessDenied

/-- R369: one property written. -/
def State.writeProp (s : State) (w : BacWrite) : Except NetErr State :=
  if objExists w.ref.obj = false then .error .unknownObject
  else
    match w.ref.obj with
    | .device => s.writeDevice w.ref.prop w.val
    | .analogInput _ => s.writeInput w
    | .analogValue i => s.writeValue i w
    | .binaryOutput _ => s.writeReport w
    | .multiState z => s.writeZone z w
    | .loop c => s.writeLoop c w
    | .notificationClass n => s.writeClass n w
    | .trendLog n => s.writeTrend n w
    | _ => .error .writeAccessDenied

/-- R26, R65, R373: a write to a Loop that depends on STATE or gives a command reads the coach's STATUS, and one that names an RWL word of a
locked coach that word, each with its check bits. -/
def State.writeRead (s : State) (w : BacWrite) : State :=
  match w.ref.obj with
  | .loop c =>
    let status := w.ref.prop == .outOfService || w.ref.prop == .presentValue
    let rwl := (loopWord w.ref.prop).toList.filter (fun k => Reg.coachAcc k == .rwl)
    if objExists (.loop c) = false then s
    else (s.whenB (status || !rwl.isEmpty) (fun t => t.coachGet c 44)).each (if s.coachLocked c then rwl else []) (fun t k => t.coachGet c k)
  | _ => s

/-- R378: WritePropertyMultiple writes in order and stops at the first refusal; what was written before it stands. -/
def State.writeProps (s : State) (port : Nat) : List BacWrite → State
  | [] => s.answer port [.ack]
  | w :: l =>
    let u := s.writeRead w
    match u.writeProp w with
    | .ok t => t.writeProps port l
    | .error e => u.netError port e

/-- BACNET_WRITE_PROPERTY, R369 to R377. -/
def execBacnetWriteProperty (sender : NetFrom) (writes : List BacWrite) (s : State) : Out :=
  fin (s.request sender false (fun t => t.writeProps sender.port.val writes))

/-- R378: ReadPropertyMultiple: each property in a carriage of its own, in order. -/
def State.readProps (s : State) : List BacRef → List NetOut × State
  | [] => ([], s)
  | r :: l =>
    let p : NetOut × State := match s.readProp r with
      | .ok v => (.property r v.1, v.2)
      | .error e => (.error e, s)
    let q := p.2.readProps l
    (p.1 :: q.1, q.2)

/-- BACNET_READ_PROPERTY, R369: a single property that cannot be read is an Error. -/
def execBacnetReadProperty (sender : NetFrom) (refs : List BacRef) (s : State) : Out :=
  fin (s.request sender false (fun t =>
    match refs with
    | [r] => (match t.readProp r with
      | .ok v => v.2.answer sender.port.val [.property r v.1]
      | .error e => t.netError sender.port.val e)
    | l => (t.readProps l).2.answer sender.port.val (t.readProps l).1))

/-- R376: the subscriptions replaced; NET_COV shows how many are active. -/
def State.setSubs (s : State) (l : List CovSub) : State :=
  ({ s with net := { s.net with subs := l } } : State).wr Reg.NET_COV_ACTIVE l.length

/-- R376: a subscription without that of `who` to `ref`. -/
def dropSub (l : List CovSub) (who : Nat) (ref : BacRef) : List CovSub := l.filter (fun d => !(decide (d.who = who) && decide (d.ref = ref)))

/-- R376: a subscription is accepted, or renewed, with a first notification unless initiation is disabled. -/
def State.subscribe (s : State) (port : Nat) (q : Sys2Proof.CovReq) : State :=
  match s.readProp q.ref with
  | .error e => s.netError port e
  | .ok v =>
    let rest := dropSub v.2.net.subs q.who q.ref
    if q.cancel then (v.2.setSubs rest).answer port [.ack]
    else if q.life = 0 ∨ 28800 < q.life then s.netError port .valueOutOfRange
    else if 32 ≤ rest.length then s.netError port .noSpace
    else
      let t := (v.2.setSubs (rest ++ [⟨q.who, q.ref, q.life, v.1⟩])).answer port [.ack]
      if t.rd Reg.NET_STAT_DCC = 0 then t.initiate (.covNotify q.who q.ref v.1) else t

/-- BACNET_SUBSCRIBE_COV, R376. -/
def execBacnetSubscribeCov (sender : NetFrom) (req : Sys2Proof.CovReq) (s : State) : Out :=
  fin (s.request sender false (fun t => t.subscribe sender.port.val req))

/-- R376: a subscription of `who` to `ref` has come to the end of its lifetime. -/
def State.subEnded (s : State) (who : Nat) (ref : BacRef) : Bool :=
  s.net.subs.any (fun d => decide (d.who = who) && decide (d.ref = ref) && decide (d.life ≤ 1))

/-- COV_SUBSCRIPTION_EXPIRY, R376. -/
def execCovSubscriptionExpiry (who : Nat) (ref : BacRef) (s : State) : Out :=
  if s.netOn && s.subEnded who ref then fin (s.hush.setSubs (dropSub s.net.subs who ref)) else fin s

/-- The bit of a transition: to off-normal, to fault, to normal. -/
def eventBit (e : EventTo) : Nat :=
  match e with
  | .offnormal => 0
  | .highLimit => 0
  | .lowLimit => 0
  | .fault => 1
  | .normal => 2

/-- BACNET_ACKNOWLEDGE_ALARM, R378: AE-ACK-B answers the request and notifies the recipients of the object's class that the event has
been acknowledged (DEDUCED from ANSI/ASHRAE 135, which R359 names, log entry 72). -/
def execBacnetAcknowledgeAlarm (sender : NetFrom) (obj : BacObj) (dest : EventTo) (s : State) : Out :=
  fin (s.request sender false (fun t =>
    if objExists obj = false then t.netError sender.port.val .unknownObject
    else
      let x := t.netObj obj
      ((t.setNetObj { x with unacked := clearBits x.unacked (2 ^ eventBit dest) }).answer sender.port.val [.ack]).notifyClass x.cls
        (.ackNotify obj dest)))

/-- R376: objects with intrinsic reporting. -/
def reports (o : BacObj) : Bool :=
  match o with
  | .analogInput n => objExists (.analogInput n)
  | .analogValue n => objExists (.analogValue n)
  | .loop n => objExists (.loop n)
  | .binaryOutput n => objExists (.binaryOutput n)
  | _ => false

/-- BACNET_GET_EVENT_INFORMATION, R378: a GetEventInformation answers the objects whose event state is not normal or that wait for an
acknowledgement, a GetEnrollmentSummary the objects that report events, with their state and class. -/
def execBacnetGetEventInformation (sender : NetFrom) (s : State) : Out :=
  fin (s.request sender false (fun t =>
    let l := t.net.objs.filter (fun (x : NetObj) => x.event != .normal || x.unacked != 0)
    if sender.summary then
      t.answer sender.port.val (.ack :: (t.net.objs.filter (fun (x : NetObj) => reports x.obj)).map (fun (x : NetObj) => NetOut.enrolled x.obj x.event x.cls))
    else t.answer sender.port.val (.ack :: l.map (fun (x : NetObj) => NetOut.event x.obj x.event x.unacked))))

/-- BACNET_READ_RANGE, R378: records of a trend log. -/
def execBacnetReadRange (sender : NetFrom) (log : Fin 8) (first count : Nat) (s : State) : Out :=
  fin (s.request sender false (fun t =>
    let r := (t.net.trends.getD log.val {}).records
    t.answer sender.port.val (.ack :: ((r.drop first).take count).map (fun p => NetOut.record p.1 p.2))))

/-- BACNET_UNRECOGNIZED_SERVICE, R378. -/
def execBacnetUnrecognizedService (sender : NetFrom) (s : State) : Out :=
  fin (s.request sender false (fun t => t.netError sender.port.val .unrecognizedService))

/-- R378: a device instance lies in the limits of a Who-Is or Who-Has. -/
def inLimits (limits : Option (Nat × Nat)) (d : Nat) : Bool :=
  match limits with
  | none => true
  | some (lo, hi) => decide (lo ≤ d) && decide (d ≤ hi)

/-- R360, R378: the answer to a Who-Is or Who-Has, if there is one: a broadcast on the port it came by. -/
def State.whoAnswer (s : State) (port : Nat) (asked : Sys2Proof.WhoReq) : Option NetOut :=
  let d := s.rd Reg.NET_DEV_DEV_INST
  match asked with
  | .is l => if inLimits l d then some (.iAm d (s.castHow port)) else none
  | .has l o => if inLimits l d && objExists o then some (.iHave d o (s.castHow port)) else none

/-- BACNET_WHO_IS, R378: answered where the instance lies in the limits and the object exists; not by a device that is silenced. On
MS/TP the answer waits for the token (R366). -/
def execBacnetWhoIs (sender : NetFrom) (asked : Sys2Proof.WhoReq) (s : State) : Out :=
  if s.bacOn sender.port.val = false ∨ s.rd Reg.NET_STAT_DCC = 1 then fin s
  else
    match s.whoAnswer sender.port.val asked with
    | some m => fin (s.hush.sendOwn sender.port.val m)
    | none => fin s.hush

/-- R376: the value that intrinsic reporting watches and its limits, low and high, in units of 2^-149: the value of an Analog Input or Analog
Value against its two limits, and of a Loop the distance from Setpoint to Controlled_Variable_Value against Error_Limit on both sides. -/
def State.eventRange (s : State) (obj : BacObj) : Option (Int × Int × Int) :=
  let x := s.netObj obj
  let watch := fun (v : BacVal) (lo hi : Nat) => (match v with
    | .real b => (match realScaled b, realScaled lo, realScaled hi with
      | some r, some l, some h => some (r, l, h)
      | _, _, _ => none)
    | _ => none)
  match obj with
  | .analogInput _ => (s.propOf ⟨obj, .presentValue⟩).bind (fun p => watch p.1 x.low x.high)
  | .analogValue _ => (s.propOf ⟨obj, .presentValue⟩).bind (fun p => watch p.1 x.low x.high)
  | .loop n => (realScaled x.errorLimit).map (fun e => ((s.cq n 47 - s.cq n 46) * 2 ^ 133, -e, e))
  | _ => none

/-- R26, R376: the coach words that the reporting of a Loop reads, each in a carriage: STATUS, SP_WORK and PV. -/
def State.eventRead (s : State) (obj : BacObj) : State :=
  match obj with
  | .loop n => s.each [44, 46, 47] (fun t w => t.coachGet n w)
  | _ => s

/-- R376: the limit state that a value asks for (OUT_OF_RANGE and FLOATING_LIMIT of ANSI/ASHRAE 135, which R359 names): a limit state is
entered outside its limit, from the other one too, and left inside its limit by more than the deadband. -/
def limitState (was : EventTo) (v lo hi d : Int) : EventTo :=
  if was = .highLimit then (if v < lo then .lowLimit else if v < hi - d then .normal else .highLimit)
  else if was = .lowLimit then (if hi < v then .highLimit else if lo + d < v then .normal else .lowLimit)
  else if hi < v then .highLimit
  else if v < lo then .lowLimit
  else .normal

/-- R376: the event state that an object's values ask for: a fault where CHANGE_OF_RELIABILITY watches it and its Reliability is one; else
that of its limits. -/
def State.eventAsked (s : State) (obj : BacObj) : EventTo :=
  let x := s.netObj obj
  let watched := match obj with | .analogValue _ => false | _ => true
  if watched && s.reliability obj != 0 then .fault
  else
    match s.eventRange obj with
    | none => .normal
    | some (v, lo, hi) => limitState x.event v lo hi ((realScaled x.deadband).getD 0)

/-- EVENT_TIME_DELAY_EXPIRY, R376: an event state that the object's values ask for has lasted for the time delay and is taken; with the
transition enabled each recipient of the class is notified, unless initiation is disabled (R380). -/
def execEventTimeDelayExpiry (obj : BacObj) (dest : EventTo) (s : State) : Out :=
  let x := s.netObj obj
  let c : NotifyClass := s.net.classes.getD x.cls {}
  let b := eventBit dest
  if s.netOn = false ∨ reports obj = false ∨ x.event = dest ∨ s.eventAsked obj ≠ dest then fin s
  else
    let t := (s.eventRead obj).hush.setNetObj { x with event := dest, unacked := if bit c.ackRequired b then x.unacked ||| 2 ^ b else clearBits x.unacked (2 ^ b) }
    if bit x.enable b = false then fin t else fin (t.notifyClass x.cls (.eventNotify obj dest))

/-- TREND_LOG_INTERVAL, R369. -/
def execTrendLogInterval (log : Fin 8) (s : State) : Out :=
  let t : TrendLog := s.net.trends.getD log.val {}
  if s.netOn = false ∨ t.enable = false ∨ t.interval = 0 ∨ s.onAt Hid.trendDue log.val = false then fin s
  else
    let u := s.hush.wrAt Hid.trendDue log.val 0
    match t.ref with
    | none => fin u
    | some r => (match u.readProp r with
      | .ok v => fin (v.2.trendAdd log.val v.1)
      | .error _ => fin u)

/-- R379: seconds since 2000-01-01 of a complete date and time; none where a field is unspecified or no date. -/
def syncSeconds (t : Sys2Proof.SyncTime) : Option (Nat × Nat) :=
  match t.year, t.month, t.day, t.hour, t.minute, t.second, t.hundredths with
  | some y, some m, some d, some h, some mi, some sec, some hu =>
    if 2000 ≤ y ∧ y ≤ 2199 ∧ 1 ≤ m ∧ m ≤ 12 ∧ 1 ≤ d ∧ d ≤ monthLen (y - 2000) m ∧ h ≤ 23 ∧ mi ≤ 59 ∧ sec ≤ 59 ∧ hu ≤ 99 then
      some (dayOf (y - 2000) m d * 86400 + h * 3600 + mi * 60 + sec, hu)
    else none
  | _, _, _, _, _, _, _ => none

/-- R379: what UTC takes to local time, in seconds. -/
def State.localShift (s : State) (utc : Bool) : Int :=
  if utc then -(s.net.utcOffset * 60) + (if s.net.dst then 3600 else 0) else 0

/-- R379: a synchronisation ignored. -/
def State.syncIgnored (s : State) : State := s.count 0xC5

/-- R379, R386: a synchronisation applied. -/
def State.syncApplied (s : State) : State := (s.or Reg.NET_FLAGS_FLAGS 128).count 0xC4

/-- R379: the synchronisation as a shift; `d` is the difference to the RTC in 1/3 276 800 s. WDAY follows a day of week that is given.
A difference that rounds to a whole second has no N, and the spec states none: a free value. -/
def State.syncShift (s : State) (d : Int) (wday : Nat) : State :=
  let n := (rndUp (d.natAbs : Int) 100).toNat
  if n = 0 then s.wr Reg.RTC_DATE_WDAY wday
  else if s.on Reg.RTC_STAT_SHIFT_PEND ∨ s.on Hid.oscStopped then s.syncIgnored
  else
    let f := if n < 32768 then (n, s) else (1 + (s.freeBelow 32767).1, (s.freeBelow 32767).2)
    (f.2.wrs [(Hid.rtcShPend, 1), (Hid.rtcShift, f.1 + (if d < 0 then 2 ^ 15 else 0)), (Reg.RTC_STAT_SHIFT_PEND, 1),
      (Reg.RTC_DATE_WDAY, wday)]).syncApplied

/-- R379: the synchronisation as a SET; `sec` counts from 2000-01-01, `wday` is the WDAY it writes. -/
def State.syncSet (s : State) (sec wday : Nat) : State :=
  let d := dateOf (sec / 86400)
  let t := sec % 86400
  if s.on Hid.oscStopped then s.syncIgnored
  else
    (s.setAccept (t % 60 + t / 60 % 60 * 256 + t / 3600 * 65536) (d.2.2 + d.2.1 * 256 + d.1 * 65536 + wday * 16777216)).syncApplied

/-- R379: WDAY from a day of week (1 Monday) and the days that the local time lies from the day given. -/
def State.syncWday (s : State) (dow : Option Nat) (days : Int) : Nat :=
  match dow with
  | none => s.rd Reg.RTC_DATE_WDAY
  | some w => (((w : Int) - 1 + s.rd Reg.NET_DEV_SYNC_MON + days) % 7).toNat

/-- R379: a day of week that is given is one. -/
def dowOk (dow : Option Nat) : Bool :=
  match dow with
  | none => true
  | some w => decide (1 ≤ w) && decide (w ≤ 7)

/-- R379: a synchronisation. -/
def State.synchronise (s : State) (utc : Bool) (t : Sys2Proof.SyncTime) : State :=
  match syncSeconds t with
  | none => s.syncIgnored
  | some (given, hu) =>
    let loc : Int := given + s.localShift utc
    if loc < 0 ∨ (dayOf 200 1 1 : Int) * 86400 ≤ loc ∨ dowOk t.dow = false then s.syncIgnored
    else
      let r := s.rtcRun
      let rtc : Int := s.today * 86400 + s.todSec
      let d : Int := ((loc - rtc) * 100 + hu) * 32768 - 100 * r.rd Reg.RTC_SUBSEC_SUBSEC
      let wday := r.syncWday t.dow (loc / 86400 - given / 86400)
      if s.on Reg.RTC_STAT_OSF = false ∧ d.natAbs < 3276800 then r.syncShift d wday else r.syncSet loc.toNat wday

/-- TIME_SYNCHRONIZATION, R379. -/
def execTimeSynchronization (utc : Bool) (time : Sys2Proof.SyncTime) (s : State) : Out :=
  if (upTo 4).any s.bacOn = false ∨ s.rd Reg.NET_STAT_DCC = 1 then fin s else fin (s.hush.synchronise utc time)

/-- R380: the password of the image; an image without one takes any. -/
def State.passwordOk (s : State) (p : List Nat) : Bool := s.netImg.password.isEmpty || s.netImg.password == p

/-- R380: a wrong password. -/
def State.passwordBad (s : State) (port : Nat) : State := (s.or Reg.NET_FLAGS_FLAGS 64).netError port .passwordFailure

/-- R344, R347, R380: a ReinitializeDevice; Result(+) goes out before the reset. -/
def State.reinit (s : State) (port : Nat) (dest : Sys2Proof.ReinitTo) (password : List Nat) : State :=
  if s.passwordOk password = false then s.passwordBad port
  else
    match dest with
    | .other => s.netError port .optionalNotSupported
    | .warm =>
      if s.on Hid.softHold then s.netError port .deviceBusy
      else if s.blocked port then (s.count 0xC6).macErr.softReset true
      else (((s.count 0xC6).txFrames (b2n (decide (port ≤ 1)))).softReset true).say [.ack]
    | .cold => ((s.count 0xC6).assertReset 5).say (if s.blocked port then [] else [.ack])

/-- REINITIALIZE_DEVICE, R380. -/
def execReinitializeDevice (sender : NetFrom) (dest : Sys2Proof.ReinitTo) (password : List Nat) (s : State) : Out :=
  fin (s.request sender true (fun t => t.reinit sender.port.val dest password))

/-- DEVICE_COMMUNICATION_CONTROL, R380: 0 enable, 1 disable, 2 disable initiation. -/
def execDeviceCommunicationControl (sender : NetFrom) (mode : Fin 3) (timed : Bool) (password : List Nat) (s : State) : Out :=
  fin (s.request sender true (fun t =>
    if t.passwordOk password then
      (t.wrs [(Reg.NET_STAT_DCC, mode.val), (Hid.dccTimed, b2n (timed && mode.val != 0))]).answer sender.port.val [.ack]
    else t.passwordBad sender.port.val))

/-- DCC_DURATION_EXPIRY, R380. -/
def execDccDurationExpiry (s : State) : Out :=
  if s.netOn = true ∧ s.on Hid.dccTimed = true then fin (s.hush.wrs [(Reg.NET_STAT_DCC, 0), (Hid.dccTimed, 0)]) else fin s

/-- R381: words of a stream of bytes, most significant byte first (R3). -/
def streamWords (data : List Nat) : List Nat := (upTo (data.length / 4)).map (fun k => ofBeBytes ((data.drop (4 * k)).take 4))

/-- R381: an AtomicWriteFile. -/
def State.writeFile (s : State) (port file : Nat) (start : Int) (data : List Nat) : State :=
  if file ≠ 1 then s.netError port .unknownObject
  else if start < 0 ∨ start % 4 ≠ 0 ∨ data.length % 4 ≠ 0 then s.netError port .invalidFileStart
  else if 8192 < start.toNat / 4 + data.length / 4 then s.netError port .valueOutOfRange
  else
    match s.stageAns 1 with
    | .busy => s.netError port .deviceBusy
    | .regionBusy => (s.count 0xF3).netError port .deviceBusy
    | .taken => (s.stageWrite 1 (start.toNat / 4) (streamWords data)).answer port [.ack]

/-- ATOMIC_WRITE_FILE, R381. -/
def execAtomicWriteFile (sender : NetFrom) (file : Nat) (start : Int) (data : List Nat) (s : State) : Out :=
  fin (s.request sender false (fun t => t.writeFile sender.port.val file start data))

end Sys2Proof.Machine
end

