-- ==== Sys2Proof/Machine/HostCheck.lean ====
section
/-! DEFINITION. How one word of a write frame is judged (R392, R393): doors (R397), locks (R65), updates (R321, R322), occupied
resources, and values. -/

namespace Sys2Proof.Machine

/-- R393: the statuses, in the order of their precedence. -/
inductive HostStat where
  | ok | crc | busyPort | rangeForm | door | locked | regionBusy | busy | range
  deriving DecidableEq, Repr

/-- R393: the code of a status. -/
def HostStat.code : HostStat → Nat
  | .ok => 0 | .crc => 1 | .busyPort => 3 | .rangeForm => 6 | .door => 5 | .locked => 2 | .regionBusy => 4 | .busy => 3 | .range => 6

/-- R393: precedence; OK comes last. -/
def HostStat.rank : HostStat → Nat
  | .ok => 9 | .crc => 1 | .busyPort => 2 | .rangeForm => 3 | .door => 4 | .locked => 5 | .regionBusy => 6 | .busy => 7 | .range => 8

/-- R393: of two statuses the one that is returned. -/
def HostStat.worst (a b : HostStat) : HostStat := if a.rank ≤ b.rank then a else b

/-- R397: the door that guards a register. -/
def doorOf (a : Nat) : Option Nat :=
  if a = 0x1801 ∨ a = 0x1808 ∨ a = 0x1809 then some 0
  else if a = 0x0801 ∨ (0x0860 ≤ a ∧ a ≤ 0x086F) then some 1
  else if a = 0x4813 ∨ a = 0x0028 ∨ a = 0x0029 ∨ a = 0x002C ∨ a = 0x002D ∨ (0x0100 ≤ a ∧ a ≤ 0x01FF) then some 2
  else if 0x0030 ≤ a ∧ a ≤ 0x0038 then some 3
  else none

/-- R5, R7: a word would change an RWD field, or start an action through one. A command value written again counts as starting its action, also
where that would do nothing, as CMD 3 in RGN_CTRL, an ABORT with STATE 0 and a COMMIT with no persist open (DESIGN CHOICE, log entry 73). -/
def State.doorActs (s : State) (a v : Nat) : Bool :=
  (Reg.fieldsAt a).any (fun f => f.acc == .rwd && bits (s.regWord a) f.lo f.w != bits (v &&& s.liveBits a) f.lo f.w) ||
    ((a == 0x0028 || a == 0x002C || a == 0x0038) && v % 4 != 0) ||
    (decide (0x0100 ≤ a) && decide (a ≤ 0x01FF) && s.rd Reg.RGN_CTRL_STATE != 1)

/-- R397: a word that a closed door keeps out. -/
def State.doorBad (s : State) (a v : Nat) : Bool :=
  match doorOf a with
  | some d => !bit (s.rd Reg.HOST_DOOR_OPEN) d && s.doorActs a v
  | none => false

/-- R65: a word that would change an RWL word of a locked coach. -/
def State.lockBad (s : State) (a v : Nat) : Bool :=
  let w := a - 0x1040
  let c := s.rd Reg.COACH_SEL_SEL
  decide (0x1040 ≤ a) && decide (a < 0x1080) && Reg.coachAcc w == .rwl && s.coachLocked c && (v &&& coachMask w) != s.cw c w

/-- R321, R322, R127, R295: a register that an update holds. -/
def State.rgnBad (s : State) (a v : Nat) : Bool :=
  let t := s.rd Reg.RGN_CTRL_TYPE
  if 0x0100 ≤ a ∧ a ≤ 0x01FF then s.stageAns 0 == .regionBusy
  else if s.rgnHolds = false then false
  else if t = 11 then
    (if a = 0x1001 then s.inGroup (s.rd Reg.COACH_SEL_SEL) && decide (1 ≤ v % 8) && decide (v % 8 ≤ 3)
     else decide (0x1040 ≤ a) && decide (a < 0x1080) && groupWord (a - 0x1040) && s.inGroup (s.rd Reg.COACH_SEL_SEL))
  else if t = 6 then decide (0x3401 ≤ a) && decide (a ≤ 0x3408) && s.rgn.named.contains (s.rd Reg.VLV_SEL_SEL)
  else if t = 9 then a == 0x0801 || (decide (0x0860 ≤ a) && decide (a ≤ 0x086F))
  else if t = 10 then decide (0x3E00 ≤ a) && decide (a ≤ 0x3EFF)
  else if t = 5 then regionAddr 5 a
  else if t = 12 then (decide (0x5000 ≤ a) && decide (a ≤ 0x5007)) || a == 0x500D
  else false

/-- R401: a register of the hatch that a running operation keeps. -/
def hatchReg (a : Nat) : Bool := (decide (0x4810 ≤ a) && decide (a ≤ 0x4813)) || (decide (0x4840 ≤ a) && decide (a ≤ 0x487F))

/-- A word starts a hatch operation. -/
def hatchStarts (a v : Nat) : Bool := (a == 0x4812 && bit v 0) || (a == 0x4813 && (v % 4 == 1 || v % 4 == 2))

/-- R112, R121: a register that the host bridge reaches over the coach bus: a coach word, or the selected input's result, which is one beat
of the result store: UI_VALUE, UI_AGE and UI_RAW. UI_VALID_LO and UI_VALID_HI are taken as registers of PERIPH (DESIGN CHOICE, log
entry 72: R392 lists no registers). -/
def busAddr (a : Nat) : Bool := (decide (0x1040 ≤ a) && decide (a < 0x1080)) || (decide (0x2407 ≤ a) && decide (a ≤ 0x2409))

/-- R124: a frame of `n` words at `a` needs the coach bus while the host bridge still owns it. -/
def State.hostOrder (s : State) (a n : Nat) : Bool := s.ownsBus 11 && (upTo n).any (fun k => busAddr (a + k))

/-- R393, BUSY of a resource: `was` is the machine before the frame, `s` the one its earlier words have left. -/
def State.busyBad (was s : State) (a v : Nat) : Bool :=
  if a = 0x002C then v % 4 == 1 && s.rgnMode && decide (2 ≤ s.rd Reg.RGN_CTRL_STATE)
  else if 0x0100 ≤ a ∧ a ≤ 0x01FF then s.stageAns 0 == .busy
  else if a = 0x0038 then s.on Reg.OTP_PROG_BUSY || s.on Reg.PWR_STAT_EW
  else if busAddr a = true then was.ownsBus 11
  else if a = 0x1801 then v % 4 == 1 && s.rd Hid.swapPos != 0
  else if a = 0x2805 ∨ a = 0x2806 then decide (s.rd Reg.CAL_SEL_SEL ≤ 2) && s.calibrating (s.rd Reg.CAL_SEL_SEL)
  else if hatchReg a = true then was.hatchBusy || (hatchStarts a v && (s.hatchBusy || s.on Reg.PWR_STAT_EW))
  else if a = 0x3C05 then decide (1 ≤ v % 4) && s.on Hid.oscStopped
  else if a = 0x3C09 then bit v 31 && (s.on Reg.RTC_STAT_SHIFT_PEND || s.on Hid.oscStopped)
  else false

/-- R400, R325: the range of a hatch read, program or erase; `refused` says that R325 refuses it. -/
def State.hatchRange (s : State) (op : Nat) : Bool × Bool :=
  let a := s.rd Reg.HATCH_ADDR_ADDR
  let n := 4 * (s.rd Reg.HATCH_LEN_WORDS_M1 + 1)
  let ee := s.onEeprom
  if op = 1 then (a % 4 != 0 || (ee && decide (0xFF < a)), false)
  else if op = 2 then
    let form := a % 4 != 0 || (if ee then decide (0xFF < a) || decide (8 < a % 8 + n) else decide (256 < a % 256 + n))
    (form || (!ee && !s.hatchMay a n), !form && !ee && !s.hatchMay a n)
  else
    let form := a % 4096 != 0 || ee
    (form || !s.hatchMay a 4096, !form && !s.hatchMay a 4096)

/-- R276: the staged time is one the clock can take. -/
def State.setOk (s : State) : Bool :=
  let y := s.rd Reg.RTC_SET_DATE_YEAR
  let m := s.rd Reg.RTC_SET_DATE_MONTH
  decide (s.rd Reg.RTC_SET_TIME_SEC ≤ 59) && decide (s.rd Reg.RTC_SET_TIME_MIN ≤ 59) && decide (s.rd Reg.RTC_SET_TIME_HOUR ≤ 23) &&
    within 1 12 m && decide (y ≤ 199) && within 1 (monthLen y m) (s.rd Reg.RTC_SET_DATE_DAY) && decide (s.rd Reg.RTC_SET_DATE_WDAY ≤ 6)

/-- R407: the source codes that the chapters list as reserved. -/
def srcReserved (c : Nat) : Bool :=
  [0x0E, 0x0F, 0x5C, 0x5D, 0x5E, 0x5F, 0x7F, 0xCF, 0xEC, 0xED, 0xEE, 0xEF].contains c || decide (0xFA ≤ c)

/-- Values below 0x2000 that refuse a frame. -/
def State.rangeLow (s : State) (a v : Nat) : Bool :=
  if a = 0x0029 then decide (v % 2 ^ 18 < 10) || decide (131072 < v % 2 ^ 18)
  else if a = 0x002C then v % 4 == 1 && s.rgnMode && s.rd Reg.RGN_CTRL_STATE == 0
  else if 0x0100 ≤ a ∧ a ≤ 0x01FF then decide (8191 < s.rd Reg.RGN_OFS_OFS + (a - 0x0100))
  else if a = 0x0038 then
    (v % 4 == 3 || (v % 4 == 1 && s.otp.hashSet) || (v % 4 == 2 && (!s.otp.hashSet || s.otp.signed)))
  else if a = 0x0410 then !s.modeAllows (bits v 8 3)
  else if a = 0x0416 then bits v 8 8 != 0x5A || v % 4 == 3
  else if a = 0x1001 then v % 8 == 0 || decide (4 < v % 8)
  else if a = 0x1801 then v % 4 != 1
  else false

/-- Values from 0x2000 up that refuse a frame. -/
def State.rangeHigh (s : State) (a v : Nat) : Bool :=
  if a = 0x2401 then decide (40 ≤ s.rd Reg.UI_SEL_SEL) && v % 16 != 15
  else if a = 0x2810 then decide (40 ≤ bits v 0 6) || bits v 8 2 == 0 || bits v 8 2 == 3
  else if a = 0x4812 then bit v 0 && (s.hatchRange 1).1
  else if a = 0x4813 then v % 4 == 3 || (v % 4 != 0 && (s.hatchRange (v % 4 + 1)).1)
  else if a = 0x3C05 then (bit v 0 && !s.setOk) || (bit v 1 && decide (6 < s.rd Reg.RTC_SET_DATE_WDAY))
  else if a = 0x3C09 then bit v 31 && bits v 0 15 == 0
  else if a = 0x4C01 then bits v 12 2 == 3 || srcReserved (bits v 0 8)
  else if a = 0x5008 then v % 4 == 3
  else false

/-- R393, RANGE of a value: a select register's own range (R396), and those of the commands. -/
def State.rangeBad (s : State) (a v : Nat) : Bool :=
  (match selectMax a with
    | some m => (Reg.fieldsAt a).any (fun f => f.lo == 0 && decide (m < bits v 0 f.w))
    | none => false) || (if a < 0x2000 then s.rangeLow a v else s.rangeHigh a v)

/-- What a word of a write frame meets. -/
def State.wordStat (was s : State) (a v : Nat) : HostStat :=
  if s.doorBad a v then .door
  else if s.lockBad a v then .locked
  else if s.rgnBad a v then .regionBusy
  else if was.busyBad s a v then .busy
  else if s.rangeBad a v then .range
  else .ok

end Sys2Proof.Machine
end

