-- ==== Sys2Proof/Machine/Host.lean ====
section
/-! DEFINITION. The host port (R387 to R402): what a word of a write frame does, write and read frames, commands and doors, and
the response. -/

namespace Sys2Proof.Machine

/-- R5: a word written to one field. -/
def State.fieldWrite (s : State) (a v : Nat) (t : State) (f : Fld) : State :=
  let ch := f.chan a s
  match f.acc with
  | .rw | .rwd | .rwl => t.wrAt f ch (bits v f.lo f.w)
  | .w1c | .st => t.clrAt f ch (bits v f.lo f.w)
  | .ro | .wo => t

/-- R30, R44: word `w` of the selected coach written by the host; reserved bits stay 0. STICKY is read with its check bits (R26, R100), and
the bits named are cleared in what the read returns. -/
def State.coachWrite (s : State) (c w v : Nat) : State :=
  match Reg.coachAcc w with
  | .rw | .rwl => s.wrCoach c w (v &&& coachMask w)
  | .st => (s.coachGet c w).pokeCoach c w (clearBits (s.cw c w) v)
  | _ => s

/-- Registers whose fields only their own meaning writes: commands that read back while they run (R110, R130), HATCH_PROG (R413),
the staging window (R328), VLV_CFG (R476), C's masks (R163). -/
def State.ownWrite (s : State) (a : Nat) : Bool :=
  a == 0x0801 || a == 0x1801 || a == 0x1808 || a == 0x4813 || (decide (0x0100 ≤ a) && decide (a ≤ 0x01FF)) || a == 0x3401 ||
    a == 0x2031 || a == 0x2032

/-- R5: the fields of a register written by a word. -/
def State.wordStore (s : State) (a v : Nat) : State :=
  if 0x1040 ≤ a ∧ a < 0x1080 then s.coachWrite (s.rd Reg.COACH_SEL_SEL) (a - 0x1040) v
  else if s.ownWrite a then s
  else s.each (Reg.fieldsAt a) (s.fieldWrite a (v &&& s.liveBits a))

/-- R103, R102: GO in SUPV_REPAIR, accepted for a coach shuttered for ECC, as one is taken whose STATUS cannot be read. -/
def State.repairGo (s : State) : State :=
  let c := s.rd Reg.COACH_SEL_SEL
  if s.on Reg.SUPV_REPAIR_GO then s
  else if s.unreadable c 44 = true ∨ (stState (s.cw c 44) = 3 ∧ stCause (s.cw c 44) = 3) then (s.wrs [(Reg.SUPV_REPAIR_GO, 1), (Hid.repairCoach, c)]).pathJoin 2
  else s.wr Reg.SUPV_REPAIR_RESULT 2

/-- R338: a mode command is pending until the next tick. -/
def State.modeWrite (s : State) (c : Nat) : State :=
  (s.whenB (s.on Reg.PWR_MODE_PEND) (fun t => t.wr Reg.PWR_MODE_RESULT 3)).wrs [(Reg.PWR_MODE_PEND, 1), (Hid.modeCmd, c)]

/-- R410: OTP programming starts; the staged hash is taken. -/
def State.otpStart (s : State) (cmd : Nat) : State :=
  let t := s.wrs [(Reg.OTP_PROG_BUSY, 1), (Hid.otpOp, cmd)]
  if cmd = 1 then { t with otp := { t.otp with hash := (upTo 8).map (fun k => s.rdAt Reg.OTP_HASH_HASH k) } } else t

/-- What a word below 0x2000 does beside its fields. -/
def State.hookLow (s : State) (a v : Nat) : State :=
  if a = 0x0028 then s.persistCmd (v % 4)
  else if a = 0x002C then (if v % 4 = 1 then s.rgnStart else if v % 4 = 2 then s.rgnAbort else s)
  else if a = 0x0038 then (if v % 4 = 0 then s else s.otpStart (v % 4))
  else if 0x0100 ≤ a ∧ a ≤ 0x01FF then s.stageWrite 0 (s.rd Reg.RGN_OFS_OFS + (a - 0x0100)) [v % 2 ^ 32]
  else if a = 0x0410 then s.modeWrite (bits v 8 3)
  else if a = 0x0801 then
    let t := s.wr Reg.ARB_SWAP_SHADOW_COUNT (bits v 16 7)
    if bit v 0 then t.wrs [(Reg.ARB_SWAP_REQ, 1), (Reg.ARB_STATUS_SWAP_PEND, 1)] else t
  else if a = 0x0808 then (if bit v 8 then s.wrAt Hid.wmax (s.rd Reg.ARB_WSEL_SEL) 0 else s)
  else if a = 0x1001 then (s.coachGet (s.rd Reg.COACH_SEL_SEL) 44).coachCmd (s.rd Reg.COACH_SEL_SEL) (v % 8)
  else if a = 0x1801 then (if v % 4 = 1 then s.wrs [(Reg.SUPV_LANE_CMD_CMD, 1), (Reg.SUPV_LANE_SWAP_BUSY, 1)] else s)
  else if a = 0x1808 then (if bit v 0 then (s.coachGet (s.rd Reg.COACH_SEL_SEL) 44).repairGo else s)
  else s

/-- R172, R189: REQ in CAL_CTRL. -/
def State.calReq (s : State) (mask : Nat) : State := s.each ((upTo 3).filter (bit mask)) (fun t c => t.calDue c true)

/-- R160, R163: GO in CONV_URG. -/
def State.urgGo (s : State) : State :=
  let k := s.rd Reg.CONV_URG_CONV
  (s.wrs [(Reg.CONV_URG_DONE, 0), (Reg.CONV_URG_DROPPED, 0)]).urgIssue .host (s.rd Reg.CONV_URG_INPUT) (if k = 0 then none else some (k - 1))

/-- R141: PERSIST or ZONES of a channel has been written: an off channel reads not occupied. -/
def State.occWrite (s : State) (n : Nat) : State := s.setOcc n (s.occHeld n || bit (s.rd Reg.OCC_STAT_DET) n)

/-- What a word from 0x2000 to 0x33FF does beside its fields; `was` is the machine before the word. -/
def State.hookMid (was s : State) (a v : Nat) : State :=
  if a = 0x2006 then (if bit v 15 then s.urgGo else s)
  else if 0x2401 ≤ a ∧ a ≤ 0x2406 then (s.settingsChanged was (s.rd Reg.UI_SEL_SEL)).wakeConvs
  else if 0x2002 ≤ a ∧ a ≤ 0x2022 then s.wakeConvs
  else if 0x2420 ≤ a ∧ a ≤ 0x2423 then s.occWrite (a - 0x2420)
  else if (0x2424 ≤ a ∧ a ≤ 0x2427) ∨ a = 0x242A then s.refreshZones
  else if a = 0x2800 then s.calReq (bits v 4 3)
  else if a = 0x2810 then
    let t := if bit v 14 then s.sysAbort else s
    if bit v 15 then t.sysGo (t.rd Reg.CAL_SYS_CMD_INPUT) (t.rd Reg.CAL_SYS_CMD_POINT) else t
  else if a = 0x2C08 then s.thermReadmit (v % 256)
  else if a = 0x3000 ∨ (0x3020 ≤ a ∧ a < 0x3040) then s.fanEnable
  else if a = 0x3010 then s.fanUnlock (v % 8)
  else s

/-- R276: SET, SET_WDAY and REARM in RTC_CMD. -/
def State.rtcCmd (s : State) (v : Nat) : State :=
  let t := if bit v 0 then s.setAccept (s.storedWord 0x3C03) (s.storedWord 0x3C04) else s
  let u := if bit v 1 then t.wr Reg.RTC_DATE_WDAY (t.rd Reg.RTC_SET_DATE_WDAY) else t
  if bit v 2 then u.wr Reg.RTC_STAMP_DATE_STAMPED 0 else u

/-- R279: GO in RTC_SHIFT. -/
def State.shiftGo (s : State) : State :=
  s.wrs [(Hid.rtcShPend, 1), (Hid.rtcShift, s.rd Reg.RTC_SHIFT_N + s.rd Reg.RTC_SHIFT_SUB * 2 ^ 15), (Reg.RTC_STAT_SHIFT_PEND, 1)]

/-- R248: CLEAR, DIAG_NOW and HS_CLEAR in VLV_CMD. -/
def State.vlvCmd (s : State) (v : Nat) : State :=
  let t := s.vlvClear (bits v 0 8)
  (t.each ((upTo 4).filter (fun h => bit v (8 + h))) State.vlvTestStart).vlvHsClear (bits v 16 4)

/-- What a word from 0x3400 to 0x3FFF does beside its fields; `was` is the machine before the word. -/
def State.hookOut (was s : State) (a v : Nat) : State :=
  if a = 0x3401 then s.vlvWriteCfg (s.rd Reg.VLV_SEL_SEL) v
  else if a = 0x340C then s.vlvFollow was (s.rd Reg.VLV_SEL_SEL)
  else if a = 0x3410 then s.vlvCmd v
  else if a = 0x3801 then s.dmpEnable
  else if a = 0x3810 then (s.dmpHomeCmd (bits v 0 4)).dmpClear (bits v 4 4)
  else if a = 0x3A01 ∨ a = 0x3A02 ∨ a = 0x3A04 then s.boRefresh
  else if a = 0x3A09 then s.boClear (bits v 0 6)
  else if a = 0x3C05 then s.rtcCmd v
  else if a = 0x3C09 then (if bit v 31 then s.shiftGo else s)
  else if a = 0x3C0B then s.compOff
  else if a = 0x3E00 then s.schedRefresh
  else if a = 0x3E07 then s.zoneApply (s.rd Reg.SCHED_ZSEL_SEL) false
  else if 0x3E40 ≤ a ∧ a ≤ 0x3EFF then s.schedFresh a
  else s

/-- R402: the heartbeat timer restarts at HB_TIMEOUT, and the host cause clears. -/
def State.hbRestart (s : State) : State :=
  s.wrs [(Reg.HOST_HB_CFG_LEFT, s.rd Reg.HOST_HB_CFG_HB_TIMEOUT), (Reg.PWR_STAT_HOST_LOST, 0)]

/-- R400, R401: a hatch operation starts: 1 read, 2 program, 3 erase. A program copies HATCH_DATA. It waits while the path serves
another. -/
def State.hatchStart (s : State) (op : Nat) : State :=
  let n := s.rd Reg.HATCH_LEN_WORDS_M1 + 1
  let ws := if op = 2 then (upTo n).map (fun k => s.rdAt Reg.HATCH_DATA_DATA k) else []
  let h : HatchS := { op := op, addr := s.rd Reg.HATCH_ADDR_ADDR, count := n, words := ws, path := s.hatch.path }
  ({ s with hatch := h } : State).pathJoin 1

/-- R405: a write of EVC_CFG; a change clears COUNT. -/
def State.evcConfig (s : State) (k v : Nat) : State :=
  let c := s.evcs.getD k {}
  let n : EvCtr := { c with src := bits v 0 8, mode := bits v 8 2, presc := bits v 12 2 }
  if n = c then s
  else { s with evcs := setAt s.evcs k { s.evcBegin n with count := 0, part := 0, lvl := isLevel n.src && s.level n.src } }

/-- R364: the reconnect wait is reset. -/
def State.scRetry (s : State) : State :=
  let t := s.wrs [(Hid.scBackoff, s.netImg.scMin), (Reg.NET_SC_STAT_WAIT, 0)]
  if t.rd Reg.NET_STAT_SC_STATE = 6 then t.wr Reg.NET_STAT_SC_STATE 3 else t

/-- R424: 1 OFF, 2 ON. -/
def State.dispCmd (s : State) (cmd : Nat) : State :=
  if cmd = 1 then (s.wr Hid.dispOff 1).panelDischarge else if cmd = 2 then (s.wr Hid.dispOff 0).panelIdle else s

/-- What a word from 0x4000 up does beside its fields; `was` is the machine before the word. -/
def State.hookHigh (was s : State) (a v : Nat) : State :=
  if a = 0x4001 then
    let t := if bit v 0 && s.netOn then s.linkDrop else s
    if bit v 1 then t.scRetry else t
  else if a = 0x4801 then s.hbRestart.count 0xD7
  else if a = 0x4802 then s.hbRestart
  else if a = 0x4808 then { s with intCause := clearBits s.intCause (v % 65536) }
  else if a = 0x4812 then (if bit v 0 then s.hatchStart 1 else s)
  else if a = 0x4813 then (if v % 4 = 0 then s else s.hatchStart (v % 4 + 1))
  else if a = 0x4C01 then s.evcConfig (s.rd Reg.EVC_SEL_SEL) v
  else if a = 0x4C02 then
    let k := s.rd Reg.EVC_SEL_SEL
    { s with evcs := setAt s.evcs k { s.evcBegin (s.evcs.getD k {}) with count := v % 2 ^ 32 } }
  else if a = 0x4C09 then { s with evcWrap := clearBits s.evcWrap (v % 65536) }
  else if a = 0x5000 then
    let t := if s.on Reg.DISP_CTRL_SRC then s.wr Hid.dispPage 0 else if was.on Reg.DISP_CTRL_SRC then s.wr Hid.dispPage 1 else s
    (if t.rd Reg.DISP_CTRL_LINES = 0 then t.panelDischarge else t).panelIdle
  else if a = 0x5008 then s.dispCmd (v % 4)
  else if 0x5800 ≤ a ∧ a < 0x5F80 then { s with fbBad := s.fbBad.filter (fun k => k / 4 != a - 0x5800) }
  else if a = 0x500D then
    (if s.rd Reg.DISP_PAGE_PAGE ≠ was.rd Reg.DISP_PAGE_PAGE ∧ s.on Reg.DISP_CTRL_SRC = false then s.wr Hid.dispPage 1 else s)
  else s

/-- One word of an accepted write frame. -/
def State.wordApply (s : State) (a v : Nat) : State :=
  let t := s.wordStore a v
  if a < 0x2000 then t.hookLow a v
  else if a < 0x3400 then s.hookMid t a v
  else if a < 0x4000 then s.hookOut t a v
  else s.hookHigh t a v

/-- A write frame under way on a machine that its earlier words have changed (R392): the worst status so far, the registers
written with their channels, the coach whose words are written with its PERIOD before the frame, a write refused by R325, and
the reset it asks for (1 SOFT, 2 COLD). `bus` says that the words travel on the coach bus, `seq` how many have been applied, and `cnt`
how many of these have been counted (R405). -/
structure Wr where
  s : State
  bad : HostStat := .ok
  regs : List (Nat × Nat) := []
  coach : Option (Nat × Nat) := none
  refused : Bool := false
  rst : Nat := 0
  bus : Bool := false
  seq : Nat := 0
  cnt : Nat := 0
  deriving DecidableEq, Repr

/-- The channel under which R392's final check looks at a register. -/
def State.checkChan (s : State) (a : Nat) : Nat × Nat :=
  if 0x1040 ≤ a ∧ a < 0x1080 then (0x1040, s.rd Reg.COACH_SEL_SEL)
  else
    match (Reg.fieldsAt a).find? (fun f => match f.idx with | .win _ _ => true | _ => false) with
    | some f => (a, f.chan a s)
    | none => (a, 0)

/-- R405: a register of the counters: INT_CAUSE with the EVC cause, EVC_CFG, EVC_COUNT, EVC_WRAP. -/
def counterReg (a : Nat) : Bool := a == 0x4808 || a == 0x4C01 || a == 0x4C02 || a == 0x4C09

/-- R405: before a word that presets, clears or acknowledges a counter, the words applied before it are counted: each reaches its counter
within 2 cycles, so all but the last 2 of them, and of these as many as a free value gives (log entry 6). -/
def Wr.countBefore (w : Wr) (a : Nat) : Wr :=
  if w.seq = 0 ∨ counterReg a = false then w
  else
    let f := w.s.freeBelow 3
    let m := max w.cnt (w.seq - f.1)
    { w with s := f.2.countWords 0xD5 (m - w.cnt) (!w.bus) (w.cnt == 0), cnt := m }

/-- One word of a write frame, judged and done. -/
def Wr.word (was : State) (w0 : Wr) (a v : Nat) : Wr :=
  let w := w0.countBefore a
  let p := w.s.checkChan a
  { s := w.s.wordApply a v, bus := w.bus, seq := w.seq + 1, cnt := w.cnt,
    bad := w.bad.worst (was.wordStat w.s a v),
    regs := if w.regs.contains p then w.regs else p :: w.regs,
    coach := if p.1 = 0x1040 ∧ w.coach.isNone = true then some (p.2, w.s.coachPeriod p.2) else w.coach,
    refused := w.refused || (a == 0x4813 && (v % 4 == 1 || v % 4 == 2) && (w.s.hatchRange (v % 4 + 1)).2),
    rst := if a = 0x0416 then v % 4 else w.rst }

/-- The words of a write frame in ascending address order. -/
def Wr.words (was : State) (w : Wr) (a : Nat) : List Nat → Wr
  | [] => w
  | v :: t => (w.word was a v).words was (a + 1) t

/-- R392, R321: the state a frame would leave, with an update that waits, satisfies the rules about what it writes. -/
def Wr.fits (was : State) (w : Wr) : Bool :=
  let u := w.s.withUpdate
  w.regs.all (fun p => u.regOk p.1 p.2) &&
    (!(w.regs.any (fun p => p.1 == 0x2002 || p.1 == 0x2003)) || was.ownersKept w.s)

/-- The status of a write frame. -/
def Wr.stat (was : State) (w : Wr) : HostStat :=
  if w.bad = .ok then (if w.fits was then .ok else .range) else w.bad

/-- What a frame answers: status, data, the machine, and the reset that follows the response. -/
structure Answer where
  stat : HostStat := .ok
  data : List Nat := []
  s : State
  rst : Nat := 0
  deriving DecidableEq, Repr

/-- What a refused write frame counts: COEF_LOCK (R65), RANGE_REJ (R72, R165), RGN_BUSY (R322), HATCH_REFUSE (R325). -/
def State.refuseCounts (s : State) (st : HostStat) (a n : Nat) (refused : Bool) : State :=
  let touches := fun (lo hi : Nat) => decide (a < hi) && decide (lo < a + n)
  (((((s.countIf (st == .locked) 0x20).countIf (st == .range && touches 0x1000 0x1080) 0x2A).countIf
    (st == .range && touches 0x2000 0x2800) 0x5B).countIf (st == .regionBusy) 0xF3).countIf (st == .range && refused) 0xF8)

/-- R44: the coach words that a frame of `n` words at `a` names. -/
def coachWordsAt (a n : Nat) : List Nat :=
  (upTo n).filterMap (fun k => if 0x1040 ≤ a + k ∧ a + k < 0x1080 then some (a + k - 0x1040) else none)

/-- R45, R112, R121: the coach bus carriages of a frame of `n` words at `a`: the selected coach's words that it names, or the selected
input's result. They carry what the frame has done in one step (log entry 65). -/
def State.hostBursts (s : State) (a n : Nat) : List (Nat × Nat) :=
  let words := coachWordsAt a n
  match words with
  | [] => if (upTo n).any (fun k => busAddr (a + k)) then [(0x1400 + s.rd Reg.UI_SEL_SEL, 1)] else []
  | w :: _ => splitBurst words.length (beatOf (s.rd Reg.COACH_SEL_SEL) w).1 ((w + words.length - 1) / 2 - w / 2 + 1)

/-- R122: the host bridge raises its requests. -/
def State.hostAsk (s : State) (write : Bool) (a n : Nat) : State :=
  (s.hostBursts a n).foldl (fun t b => t.busAsk 11 { beat := b.1, write := write, beats := b.2 }
    { enables := enablesOf (s.rd Reg.COACH_SEL_SEL) (coachWordsAt a n) b.1 b.2 }) s

/-- R44: the coach whose words a frame of `data` at `a` names. -/
def State.frameCoach (s : State) (a : Nat) (data : List Nat) : Nat :=
  if a ≤ 0x1000 then (match data.drop (0x1000 - a) with | v :: _ => v % 256 | [] => s.rd Reg.COACH_SEL_SEL) else s.rd Reg.COACH_SEL_SEL

/-- R26, R65, R100: the test of R65 reads the STATUS of the coach whose RWL words a frame names and, of a locked coach, those words with
their check bits. A frame that gives that coach a command first has both read. -/
def State.lockRead (s : State) (a : Nat) (data : List Nat) : State :=
  let c := s.frameCoach a data
  let l := (coachWordsAt a data.length).filter (fun w => Reg.coachAcc w == .rwl)
  if l.isEmpty then s else (s.coachGet c 44).each (if s.coachLocked c || decide (a ≤ 0x1001) then l else []) (fun t w => t.coachGet c w)

/-- R391, R392: a write frame. -/
def State.frameWrite (s0 : State) (a : Nat) (data : List Nat) : Answer :=
  if data.isEmpty then { s := s0 }
  else if 0x10000 < a + data.length then { stat := .rangeForm, s := s0 }
  else
    let s := s0.lockRead a data
    let w := ({ s := s, bus := (s.hostBursts a data.length).isEmpty = false } : Wr).words s a data
    let st := w.stat s
    if st = .ok then
      let t := match w.coach with | some p => w.s.coachPeriodChange p.1 p.2 | none => w.s
      { s := (t.hostAsk true a data.length).countWords 0xD5 (data.length - w.cnt) (!w.bus) (w.cnt == 0), rst := w.rst }
    else
      let u := s.refuseCounts st a data.length w.refused
      { stat := st, s := if st = .busy ∧ s.hostOrder a data.length = true then u.orderRefuse 11 1 1 else u }

/-- R392, R405: the words of a read frame in ascending address order, `seq` of them read and `cnt` counted: before a word of the counters the
words read before it are counted, but for the last 2, of which a free value of them is (log entry 6). -/
def State.frameWords (s : State) (a seq cnt : Nat) : Nat → List Nat × Nat × State
  | 0 => ([], cnt, s)
  | n + 1 =>
    let f := s.freeBelow 3
    let due := seq != 0 && counterReg a
    let m := if due then max cnt (seq - f.1) else cnt
    let w := (if due then f.2.countWords 0xD4 (m - cnt) false (cnt == 0) else s).readWord a
    let r := w.2.frameWords (a + 1) (seq + 1) m n
    (w.1 :: r.1, r.2)

/-- R391, R392: a read frame. -/
def State.frameRead (s : State) (a n : Nat) : Answer :=
  if n = 0 then { s := s }
  else if 0x10000 < a + n then { stat := .rangeForm, s := s }
  else if s.hostOrder a n then { stat := .busy, s := s.orderRefuse 11 1 1 }
  else
    let r := s.frameWords a 0 0 n
    { data := r.1, s := (r.2.2.hostAsk false a n).countWords 0xD4 (n - r.2.1) false (r.2.1 == 0) }

/-- R406: EVC_SNAPSHOT. -/
def State.evcSnap (s : State) : State :=
  let t := s.each (upTo 16) State.evcShow
  { t with evcs := t.evcs.map (fun (c : EvCtr) => { c with snap := c.count }), evcStamp := s.tick % 2 ^ 32 }

/-- R406: EVC_CLEAR_ALL. -/
def State.evcClear (s : State) : State := { s with evcs := s.evcs.map (fun (c : EvCtr) => { s.evcBegin c with count := 0 }) }

/-- R398: a door step refused. -/
def State.doorRefuse (s : State) : Answer := { stat := .door, s := s.count 0xDA }

/-- R398: the first step of door `d`. -/
def State.doorFirst (s : State) (d arg : Nat) : Answer :=
  if arg = 0xC35A then { s := s.wr Reg.HOST_DOOR_STEP (2 ^ d) } else s.doorRefuse

/-- R398: the second step of door `d`. -/
def State.doorSecond (s : State) (d arg : Nat) : Answer :=
  if bit (s.rd Reg.HOST_DOOR_STEP) d ∧ arg = 0x3CA5 then
    { s := ((s.wr Reg.HOST_DOOR_STEP 0).putBit Reg.HOST_DOOR_OPEN d true).count 0xD9 }
  else s.doorRefuse

/-- R395: a command. -/
def State.frameCommand (s : State) (code : Nat) (args : List Nat) : Answer :=
  let done := fun (x : Answer) => if x.stat = .ok then { x with s := x.s.count 0xD6 } else x
  match args with
  | [] =>
    if code = 1 then done { s := s.evcSnap }
    else if code = 2 then done { s := s.evcClear }
    else if 0x30 ≤ code ∧ code ≤ 0x33 then done { s := s.putBit Reg.HOST_DOOR_OPEN (code - 0x30) false }
    else { stat := .rangeForm, s := s }
  | [arg] =>
    if 0x10 ≤ code ∧ code ≤ 0x13 then done (s.doorFirst (code - 0x10) arg)
    else if 0x20 ≤ code ∧ code ≤ 0x23 then done (s.doorSecond (code - 0x20) arg)
    else { stat := .rangeForm, s := s }
  | _ => { stat := .rangeForm, s := s }

/-- A Lyale request as the port takes it in (R390): the bytes OPC, ADDR, LEN, the words, and whether its CRC is right. -/
structure Frame where
  opc : Nat
  addr : Nat
  len : Nat
  words : List Nat := []
  crcOk : Bool := true
  deriving DecidableEq, Repr

/-- R390: the CRC of a request. -/
def requestCrc (opc addr : Nat) (len : Nat) (words : List Nat) : Nat :=
  crc8 ([opc, addr / 256, addr % 256, len] ++ words.flatMap (beBytes 4))

/-- What the port does with frames: nothing in BACKUP, under a boot reset, in IZ-30 mode and in BOOT with straps 0b10; answers
BUSY in BOOT and in the hold of a soft reset; otherwise acts (R347, R393, R415). -/
inductive Port where
  | off | busy | opened
  deriving DecidableEq, Repr

/-- R415: the port now. -/
def State.port (s : State) : Port :=
  if s.alive = false ∨ s.mode = mIz30 then .off
  else if s.mode = mBoot then (if s.rd Reg.BOOT_STAT_STRAP = 2 then .off else .busy)
  else if s.on Hid.softHold then .busy else .opened

/-- R398: the frame is the second step that a pending first step waits for. -/
def State.isSecond (s : State) (f : Frame) : Bool :=
  s.port == .opened && f.opc == 3 && decide (0x20 ≤ f.addr) && decide (f.addr ≤ 0x23) && f.words == [0x3CA5] &&
    bit (s.rd Reg.HOST_DOOR_STEP) (f.addr - 0x20)

/-- R398: a pending first step is cancelled. -/
def State.doorCancel (s : State) : State :=
  if s.rd Reg.HOST_DOOR_STEP = 0 then s else (s.wr Reg.HOST_DOOR_STEP 0).count 0xDA

/-- What no row of the table times, as a frame over `n` words at `a` finds it: a persist (R326) and a shift under way (R279). -/
def State.frameFinds (s : State) (a n : Nat) : State :=
  let at_ := fun (x : Nat) => decide (a ≤ x) && decide (x < a + n)
  (s.whenB (at_ 0x0028) State.persistRun).whenB (at_ 0x3C09) State.rtcShow

/-- R392: what an accepted request does. -/
def State.frameAct (s : State) (f : Frame) : Answer :=
  if f.opc = 1 then (s.frameFinds f.addr f.len).frameRead f.addr f.len
  else if f.opc = 2 then (s.frameFinds f.addr f.words.length).frameWrite f.addr f.words
  else if f.opc = 3 then s.frameCommand f.addr f.words
  else { stat := .rangeForm, s := s }

/-- R388, R389: bytes sent at once over SPI; over I²C they wait for a read, and what waited before is discarded. -/
def State.reply (s : State) (l : List Nat) : State :=
  if s.on Reg.HOST_CFG_PORT then { s with resp := l, sent := [] } else { s with sent := l }

/-- R390, R394: the response and HOST_LAST. RESP_WAIT is true while it is prepared (R408). -/
def State.respond (s : State) (f : Frame) (st : HostStat) (data : List Nat) : State :=
  let body := st.code :: data.flatMap (beBytes 4)
  ((s.wrs [(Reg.HOST_LAST_STATUS, st.code), (Reg.HOST_LAST_OPC, f.opc), (Reg.HOST_LAST_ADDR, f.addr)]).levelPulse 0xDF).reply
    (body ++ [crc8 body])

/-- R347, R344: the reset a frame asked for, after its response. COLD is a boot reset, whose frame leaves no response. -/
def State.frameReset (s : State) (rst : Nat) : State :=
  if rst = 1 then s.softReset false else if rst = 2 then s.assertReset 6 else s

/-- R393: a request with a correct CRC at an open or busy port. -/
def State.frameGood (s : State) (f : Frame) : State :=
  let t := s.count 0xD0
  let u := if s.isSecond f then t else t.doorCancel
  let x : Answer := if s.port = .busy then { stat := .busyPort, s := u } else u.frameAct f
  ((x.s.countIf (x.stat != .ok) 0xD3).respond f x.stat x.data).frameReset x.rst

/-- R390 to R394: a request that is not cut short. -/
def State.hostFrame (s : State) (f : Frame) : State :=
  if s.port = .off then s
  else if f.crcOk = false then (s.count 0xD1).respond f .crc []
  else s.frameGood f

/-- A write frame of one register's words. -/
def State.hostWrite (s : State) (a : Nat) (data : List Nat) : State :=
  s.hostFrame { opc := 2, addr := a, len := data.length, words := data }

/-- A read frame of one word. -/
def State.hostRead (s : State) (a : Nat) : State := s.hostFrame { opc := 1, addr := a, len := 1 }

/-- A command frame. -/
def State.hostCommand (s : State) (code : Nat) (args : List Nat) : State :=
  s.hostFrame { opc := 3, addr := code, len := args.length, words := args }

end Sys2Proof.Machine
end

