-- ==== Sys2Proof/Machine/HostRows.lean ====
section
/-! DEFINITION. The rows that the host asks for (R387 to R415), each one frame, and the ends of what the host has started: hatch
operations, OTP programming, the heartbeat, door timers. -/

namespace Sys2Proof.Machine

/-- SUPV_LANE_RESTORE, R99. -/
def execSupvLaneRestore (s : State) : Out := fin (s.hostWrite 0x1801 [1])

/-- SUPV_WDT_WRITE, R107. -/
def execSupvWdtWrite (timeout : Nat) (s : State) : Out := fin (s.hostWrite 0x1809 [timeout])

/-- SUPV_REPAIR, R103. -/
def execSupvRepair (s : State) : Out := fin (s.hostWrite 0x1808 [1])

/-- COACH_CMD_OPEN, R63. -/
def execCoachCmdOpen (s : State) : Out := fin (s.hostWrite 0x1001 [1])

/-- COACH_CMD_CLOSE, R63, R64. -/
def execCoachCmdClose (s : State) : Out := fin (s.hostWrite 0x1001 [2])

/-- COACH_CMD_MANUAL, R63. -/
def execCoachCmdManual (s : State) : Out := fin (s.hostWrite 0x1001 [3])

/-- COACH_CMD_SHUTTER, R63. -/
def execCoachCmdShutter (s : State) : Out := fin (s.hostWrite 0x1001 [4])

/-- WHEEL_LO_READ, R44: the read latches WHEEL_HI. -/
def execWheelLoRead (s : State) : Out := fin (s.hostRead 0x1004)

/-- ARB_SWAP_REQ, R126, R130: REQ with the number of shadow seats. -/
def execArbSwapReq (count : Nat) (s : State) : Out := fin (s.hostWrite 0x0801 [1 + count % 128 * 65536])

/-- ARB_WMAX_CLR, R130: CLR with the requester selected. -/
def execArbWmaxClr (sel : Fin 16) (s : State) : Out := fin (s.hostWrite 0x0808 [sel.val + 256])

/-- UI_SETTINGS_WRITE, R155, R157: one register of the UI window. -/
def execUiSettingsWrite (reg : Fin 11) (value : Nat) (s : State) : Out := fin (s.hostWrite (0x2401 + reg.val) [value])

/-- CONV_URG_GO, R160, R163. -/
def execConvUrgGo (input : Fin 64) (conv : Fin 4) (s : State) : Out := fin (s.hostWrite 0x2006 [input.val + 256 * conv.val + 2 ^ 15])

/-- CAL_REQ, R172: AUTO_EN stays. -/
def execCalReq (mask : Fin 8) (s : State) : Out := fin (s.hostWrite 0x2800 [b2n (s.on Reg.CAL_CTRL_AUTO_EN) + 16 * mask.val])

/-- CAL_SYS_GO, R185. -/
def execCalSysGo (input : Fin 64) (point : Fin 4) (s : State) : Out := fin (s.hostWrite 0x2810 [input.val + 256 * point.val + 2 ^ 15])

/-- CAL_SYS_ABORT, R186: INPUT and POINT stay. -/
def execCalSysAbort (s : State) : Out := fin (s.hostWrite 0x2810 [s.rd Reg.CAL_SYS_CMD_INPUT + 256 * s.rd Reg.CAL_SYS_CMD_POINT + 2 ^ 14])

/-- FAN_UNLOCK, R203. -/
def execFanUnlock (mask : Fin 8) (s : State) : Out := fin (s.hostWrite 0x3010 [mask.val])

/-- VALVE_MODE_WRITE, R476. -/
def execValveModeWrite (value : Nat) (s : State) : Out := fin (s.hostWrite 0x3401 [value])

/-- VLV_DIAG_NOW, R229. -/
def execVlvDiagNow (mask : Fin 16) (s : State) : Out := fin (s.hostWrite 0x3410 [256 * mask.val])

/-- VLV_CLEAR, R232. -/
def execVlvClear (mask : Fin 256) (s : State) : Out := fin (s.hostWrite 0x3410 [mask.val])

/-- VLV_HS_CLEAR, R231, R232. -/
def execVlvHsClear (mask : Fin 16) (s : State) : Out := fin (s.hostWrite 0x3410 [65536 * mask.val])

/-- DMP_HOME, R236. -/
def execDmpHome (mask : Fin 16) (s : State) : Out := fin (s.hostWrite 0x3810 [mask.val])

/-- DMP_CLEAR, R241. -/
def execDmpClear (mask : Fin 16) (s : State) : Out := fin (s.hostWrite 0x3810 [16 * mask.val])

/-- BO_CLEAR, R242. -/
def execBoClear (mask : Fin 64) (s : State) : Out := fin (s.hostWrite 0x3A09 [mask.val])

/-- THERM_READMIT, R265. -/
def execThermReadmit (mask : Fin 256) (s : State) : Out := fin (s.hostWrite 0x2C08 [mask.val])

/-- RTC_SET, R276. -/
def execRtcSet (s : State) : Out := fin (s.hostWrite 0x3C05 [1])

/-- RTC_SET_WDAY, R276. -/
def execRtcSetWday (s : State) : Out := fin (s.hostWrite 0x3C05 [2])

/-- RTC_REARM, R283. -/
def execRtcRearm (s : State) : Out := fin (s.hostWrite 0x3C05 [4])

/-- RTC_SHIFT_GO, R279. -/
def execRtcShiftGo (n : Fin 32768) (hold : Bool) (s : State) : Out := fin (s.hostWrite 0x3C09 [n.val + b2n hold * 2 ^ 15 + 2 ^ 31])

/-- RTC_TIME_READ, R275. -/
def execRtcTimeRead (s : State) : Out := fin (s.hostRead 0x3C00)

/-- ZONE_FORCE_WRITE, R291, R298: the zone that SCHED_ZSEL names. -/
def execZoneForceWrite (value : Nat) (s : State) : Out := fin (s.hostWrite 0x3E07 [value])

/-- RGN_START, R318. -/
def execRgnStart (s : State) : Out := fin (s.hostWrite 0x002C [1])

/-- RGN_ABORT, R323. -/
def execRgnAbort (s : State) : Out := fin (s.hostWrite 0x002C [2])

/-- IMG_PERSIST_OPEN, R326: TARGET_B stays. -/
def execImgPersistOpen (s : State) : Out := fin (s.hostWrite 0x0028 [1 + 8 * s.rd Reg.IMG_PERSIST_TARGET_B])

/-- IMG_PERSIST_COMMIT, R326. -/
def execImgPersistCommit (s : State) : Out := fin (s.hostWrite 0x0028 [2 + 8 * s.rd Reg.IMG_PERSIST_TARGET_B])

/-- IMG_PERSIST_ABORT, R326. -/
def execImgPersistAbort (s : State) : Out := fin (s.hostWrite 0x0028 [3 + 8 * s.rd Reg.IMG_PERSIST_TARGET_B])

/-- PWR_MODE_NATIVE, R338. -/
def execPwrModeNative (s : State) : Out := fin (s.hostWrite 0x0410 [0x100])

/-- PWR_MODE_SERVICE, R338. -/
def execPwrModeService (s : State) : Out := fin (s.hostWrite 0x0410 [0x200])

/-- PWR_MODE_STANDBY, R338. -/
def execPwrModeStandby (s : State) : Out := fin (s.hostWrite 0x0410 [0x300])

/-- PWR_MODE_WAKE, R338. -/
def execPwrModeWake (s : State) : Out := fin (s.hostWrite 0x0410 [0x400])

/-- PWR_RST_SOFT, R347. -/
def execPwrRstSoft (s : State) : Out := fin (s.hostWrite 0x0416 [0x5A01])

/-- PWR_RST_COLD, R344, R346. -/
def execPwrRstCold (s : State) : Out := fin (s.hostWrite 0x0416 [0x5A02])

/-- NET_RELINK, R357, R385. -/
def execNetRelink (s : State) : Out := fin (s.hostWrite 0x4001 [1])

/-- NET_SC_RETRY, R364, R385. -/
def execNetScRetry (s : State) : Out := fin (s.hostWrite 0x4001 [2])

/-- EVC_SNAPSHOT, R406. -/
def execEvcSnapshot (s : State) : Out := fin (s.hostCommand 0x0001 [])

/-- EVC_CLEAR_ALL, R406. -/
def execEvcClearAll (s : State) : Out := fin (s.hostCommand 0x0002 [])

/-- DOOR_FIRST_STEP, R398. -/
def execDoorFirstStep (door : Fin 4) (arg : Nat) (s : State) : Out := fin (s.hostCommand (0x10 + door.val) [arg % 2 ^ 32])

/-- DOOR_SECOND_STEP, R398. -/
def execDoorSecondStep (door : Fin 4) (arg : Nat) (s : State) : Out := fin (s.hostCommand (0x20 + door.val) [arg % 2 ^ 32])

/-- DOOR_CLOSE, R399. -/
def execDoorClose (door : Fin 4) (s : State) : Out := fin (s.hostCommand (0x30 + door.val) [])

/-- HOST_HB_WRITE, R402. -/
def execHostHbWrite (value : Nat) (s : State) : Out := fin (s.hostWrite 0x4801 [value])

/-- HB_TIMEOUT_WRITE, R402. -/
def execHbTimeoutWrite (value : Nat) (s : State) : Out := fin (s.hostWrite 0x4802 [value])

/-- HATCH_READ, R400. -/
def execHatchRead (s : State) : Out := fin (s.hostWrite 0x4812 [1])

/-- HATCH_PROGRAM, R400. -/
def execHatchProgram (s : State) : Out := fin (s.hostWrite 0x4813 [1])

/-- HATCH_ERASE, R400. -/
def execHatchErase (s : State) : Out := fin (s.hostWrite 0x4813 [2])

/-- EVC_CFG_WRITE, R405. -/
def execEvcCfgWrite (value : Nat) (s : State) : Out := fin (s.hostWrite 0x4C01 [value])

/-- OTP_PROG_HASH, R410. -/
def execOtpProgHash (s : State) : Out := fin (s.hostWrite 0x0038 [1])

/-- OTP_PROG_SIGNED, R410. -/
def execOtpProgSigned (s : State) : Out := fin (s.hostWrite 0x0038 [2])

/-- DISP_OFF, R424. -/
def execDispOff (s : State) : Out := fin (s.hostWrite 0x5008 [1])

/-- DISP_ON, R422, R424. -/
def execDispOn (s : State) : Out := fin (s.hostWrite 0x5008 [2])

/-- COACH_WINDOW_WRITE, R44, R45: words of the selected coach from a word on. A frame carries at most 255 words (R391). -/
def execCoachWindowWrite (first : Fin 64) (data : List Nat) (s : State) : Out :=
  fin (s.hostWrite (0x1040 + first.val) (data.take 255))

/-- REGION_STAGE_WRITE, R318, R322: words to the staging window. -/
def execRegionStageWrite (first : Fin 256) (data : List Nat) (s : State) : Out :=
  fin (s.hostWrite (0x0100 + first.val) (data.take 255))

/-- R390: a request as its bytes say it: OPC, LEN and CRC have 8 bits, ADDR 16, a word 32, and a frame carries at most 255 words.
The model takes an operand modulo what its bytes hold. -/
def frameOf (opc addr len : Nat) (words : List Nat) (crc : Option Nat) : Frame :=
  let o := opc % 256
  let a := addr % 65536
  let n := len % 256
  let l := (words.take 255).map (fun v => v % 2 ^ 32)
  { opc := o, addr := a, len := n, words := l, crcOk := match crc with | some c => c % 256 == requestCrc o a n l | none => true }

/-- LYALE_READ, R390 to R393; `crc` is the request's CRC byte. -/
def execLyaleRead (addr len crc : Nat) (s : State) : Out := fin (s.hostFrame (frameOf 1 addr len [] (some crc)))

/-- LYALE_WRITE, R390 to R393. -/
def execLyaleWrite (addr : Nat) (data : List Nat) (crc : Nat) (s : State) : Out :=
  fin (s.hostFrame (frameOf 2 addr (min data.length 255) data (some crc)))

/-- R395: a request that is none of the table's: another OPC, or a command whose code or LEN the table does not give. -/
def unknownRequest (opc addr len : Nat) : Bool :=
  if opc = 3 then
    !((len == 0 && (addr == 1 || addr == 2 || (decide (0x30 ≤ addr) && decide (addr ≤ 0x33)))) ||
      (len == 1 && ((decide (0x10 ≤ addr) && decide (addr ≤ 0x13)) || (decide (0x20 ≤ addr) && decide (addr ≤ 0x23)))))
  else opc != 1 && opc != 2

/-- LYALE_UNKNOWN_OPC, R390, R393: the frame that its bytes are, with words of 0 where its OPC carries words. A command's request with
a wrong CRC, of any code, comes by this row. -/
def execLyaleUnknownOpc (opc : Sys2Proof.ReqOpc) (addr len : Nat) (s : State) : Out :=
  let f := frameOf opc.code addr len (if opc.code % 256 = 2 ∨ opc.code % 256 = 3 then List.replicate (len % 256) 0 else []) none
  fin (s.hostFrame { f with crcOk := opc.crcOk })

/-- HOST_FRAME_TRUNCATED, R394: no response; over I²C the transaction discards a response that has not been read. -/
def execHostFrameTruncated (s : State) : Out :=
  if s.port = .off then fin s else fin ((s.count 0xD2).reply [])

/-- I2C_RESPONSE_READ, R389: the response is read; what lies beyond it, or a read with none, gives 0xFF. -/
def execI2cResponseRead (count : Nat) (s : State) : Out :=
  if s.port = .off ∨ s.on Reg.HOST_CFG_PORT = false then fin s
  else fin { s with sent := (s.resp ++ List.replicate count 0xFF).take count, resp := [] }

/-- DOOR_STEP_TIMEOUT, R398. -/
def execDoorStepTimeout (s : State) : Out := fin s.doorCancel

/-- DOOR_TIMEOUT, R399. -/
def execDoorTimeout (door : Fin 4) (s : State) : Out :=
  if bit (s.rd Reg.HOST_DOOR_OPEN) door.val then fin ((s.putBit Reg.HOST_DOOR_OPEN door.val false).count 0xDB) else fin s

/-- HEARTBEAT_EXPIRY, R402: LEFT reaches 0 with HB_TIMEOUT non-zero. -/
def execHeartbeatExpiry (s : State) : Out :=
  if s.up = false ∨ s.rd Reg.HOST_HB_CFG_HB_TIMEOUT = 0 ∨ s.rd Reg.HOST_HB_CFG_LEFT = 0 then fin s
  else fin (((s.wrs [(Reg.HOST_HB_CFG_LEFT, 0), (Reg.PWR_STAT_HOST_LOST, 1)]).raise 12).count 0xD8)

/-- R400: what a read puts into HATCH_DATA. The EEPROM holds 256 bytes, and the spec gives nothing for words beyond them. -/
def State.hatchWord (s : State) (k : Nat) : State :=
  let a := s.hatch.addr + 4 * k
  if s.onEeprom = false then s.wrAt Reg.HATCH_DATA_DATA k (Memory.word s.flash a)
  else if a ≤ 0xFC then s.wrAt Reg.HATCH_DATA_DATA k (Memory.word s.eeprom a)
  else (s.takeFree.2).wrAt Reg.HATCH_DATA_DATA k s.takeFree.1

/-- R401, R403: a hatch operation ends. -/
def State.hatchEnd (s : State) (result : Nat) : State :=
  let t := s.wrs [(Reg.HATCH_STAT_LAST_OP, s.hatch.op), (Reg.HATCH_STAT_RESULT, result)]
  ((({ t with hatch := { path := s.hatch.path } } : State).pathLeave 1).count (if result = 1 then 0xDC else 0xDD)).raise 14

/-- R400: what a program of the flash left reads back as its words. The EEPROM's programs and erases are not read back. -/
def State.hatchReadsBack (s : State) : Bool :=
  s.onEeprom || s.hatch.op != 2 || Memory.words s.flash s.hatch.addr s.hatch.words.length == s.hatch.words

/-- HATCH_OP_DONE, R400. A read always completes; a program or an erase that does not leaves bits of it done and others not (log
entry 21). One that completes fails where it reads back otherwise. It ends no sooner than the path serves it (R401). -/
def execHatchOpDone (outcome : Sys2Proof.HatchEnd) (status : Fin 256) (s : State) : Out :=
  let op := s.hatch.op
  if op = 0 ∨ s.up = false ∨ s.pathServes 1 = false then fin s
  else if op = 1 then fin ((s.each (upTo s.hatch.count) State.hatchWord).hatchEnd 1)
  else
    let t := s.whenB (!s.onEeprom) (fun u => u.wr Reg.HATCH_STAT_FSTAT status.val)
    if outcome = .done ∨ (outcome = .mismatch ∧ op = 3) then fin (t.hatchApply.hatchEnd (if t.hatchApply.hatchReadsBack then 1 else 3))
    else fin (t.hatchTorn.hatchEnd (if outcome = .timeout then 2 else 3))

/-- OTP_PROG_DONE, R410. -/
def execOtpProgDone (ok : Bool) (s : State) : Out :=
  if s.on Reg.OTP_PROG_BUSY = false ∨ s.up = false then fin s
  else fin ((if ok then s.otpApply else s).wrs [(Reg.OTP_PROG_BUSY, 0), (Reg.OTP_PROG_RESULT, if ok then 1 else 2), (Hid.otpOp, 0)])

end Sys2Proof.Machine
end

