-- ==== Sys2Proof/Machine/IzPort.lean ====
section
/-! DEFINITION. The IZ-30 host's transactions (R439 to R444), the reload of an IZ-30 reset, the ADC view, and the fans and room
units as the IZ-30 host sees them (R450 to R452). -/

namespace Sys2Proof.Machine

/-- R439: the port acknowledges its address. -/
def State.izUp (s : State) : Bool := s.mode == mIz30 && s.alive && !s.on Hid.izReload

/-- R440, R444: the byte a read of register `r` returns. -/
def State.izByte (s : State) (r : Nat) : Nat :=
  if r = 6 ∧ 256 ≤ s.rd Hid.izAdcLat then s.rd Hid.izAdcLat % 256
  else if 256 ≤ s.rdAt Hid.izLat r then s.rdAt Hid.izLat r % 256
  else s.iz r

/-- R440, R444: what a read of register `r` leaves: a high byte latches its low byte, a low byte uses the latch up, and
IZ_ADC_DL clears NEW and OVR. -/
def State.izRead (s : State) (r : Nat) : State :=
  if r = 5 then s.wr Hid.izAdcLat (256 + s.iz 6)
  else if r = 6 then (s.wrs [(Hid.izAdcLat, 0), (Hid.izNew, 0)]).wrAt Hid.izV 6 (clearBits (s.rdAt Hid.izV 6) 8)
  else if izPairHigh r then s.wrAt Hid.izLat (r + 1) (256 + s.iz (r + 1))
  else s.wrAt Hid.izLat r 0

/-- R442: a configuration register written; the native settings follow. -/
def State.izConfig (s : State) (l : List (Nat × Nat)) : State :=
  (s.each l (fun t p => t.wrAt Hid.izI p.1 (p.2 &&& izMask p.1))).izNative true

/-- R441: 0xA5 in IZ_CMD: a soft reset, after which the EEPROM is read again. No loop is evaluated until that read ends. -/
def State.izReset (s : State) : State :=
  let t := (s.softReset false).wr Hid.izReload 1
  { t with due := [] }

/-- R439, R440: one byte written to register `r`. -/
def State.izWrite (s : State) (r v : Nat) : State :=
  if r = 2 then s.wrAt Hid.izV 2 (clearBits (s.rdAt Hid.izV 2) (v &&& 0x80))
  else if r = 3 then (if v = 0xA5 then s.izReset else s)
  else if r = 4 then
    ((s.wrAt Hid.izV 4 (v &&& 0x8F)).wrs [(Hid.izNew, 0), (Hid.izScan, v % 8)]).wrAt Hid.izV 6 (clearBits (s.rdAt Hid.izV 6) 8)
  else if r = 7 then
    ((s.wrAt Hid.izV 7 (clearBits (s.rdAt Hid.izV 7) (v &&& 0x3F))).vlvClear (bitMap 8 (fun n => n % 2 == 0 && bit (v % 16) (n / 2)))).vlvHsClear
      (v % 16)
  else if izMask r = 0 then s
  else if izPairHigh r then s.wrAt Hid.izHeld r (256 + v)
  else if izPairLow r then
    let h := s.rdAt Hid.izHeld (r - 1)
    (s.wrAt Hid.izHeld (r - 1) 0).izConfig [(r - 1, if 256 ≤ h then h % 256 else s.iz (r - 1)), (r, v)]
  else s.izConfig [(r, v)]

/-- R439: the bytes that follow the pointer; after an IZ-30 reset the port no longer takes any. -/
def State.izBytes (s : State) : List Nat → State
  | [] => s
  | v :: l =>
    if s.izUp = false then s
    else
      let p := s.rd Hid.izPtr
      ((s.wr Hid.izPtr (p + 1)).izWrite p (v % 256)).izBytes l

/-- R439: a write transaction. -/
def State.izWriteTrans (s : State) (l : List Nat) : State :=
  let t := { s with sent := [] }
  match l with
  | [] => t
  | p :: rest => if s.izUp then (t.wr Hid.izPtr p).izBytes rest else t

/-- R439: the registers a read transaction of `n` bytes returns, and the machine after it. -/
def State.izReadBytes (s : State) : Nat → List Nat × State
  | 0 => ([], s)
  | n + 1 =>
    let p := s.rd Hid.izPtr
    let r := ((s.izRead p).wr Hid.izPtr (p + 1)).izReadBytes n
    (s.izByte p :: r.1, r.2)

/-- R439: a read transaction. -/
def State.izReadTrans (s : State) (n : Nat) : State :=
  if s.izUp then
    let r := s.izReadBytes n
    { r.2 with sent := r.1 }
  else { s with sent := [] }

/-- IZ30_WRITE_TRANSACTION, R439. -/
def execIz30WriteTransaction (bytes : List Nat) (s : State) : Out := fin (s.izWriteTrans bytes)

/-- IZ30_READ_TRANSACTION, R439. -/
def execIz30ReadTransaction (count : Nat) (s : State) : Out := fin (s.izReadTrans count)

/-- IZ_PAIR_HIGH_READ, R440: the pointer is set to the high byte of a pair, and one byte is read. -/
def execIzPairHighRead (reg : Fin 256) (s : State) : Out :=
  if izPairHigh reg.val then fin ((s.izWriteTrans [reg.val]).izReadTrans 1) else fin s

/-- IZ_PAIR_LOW_WRITE, R440. -/
def execIzPairLowWrite (reg : Fin 256) (value : Nat) (s : State) : Out :=
  if izPairLow reg.val then fin (s.izWriteTrans [reg.val, value]) else fin s

/-- IZ_CMD_RESET, R441. -/
def execIzCmdReset (s : State) : Out := fin (s.izWriteTrans [3, 0xA5])

/-- IZ_CMD_SAVE, R441: it has no effect but the pointer's. -/
def execIzCmdSave (s : State) : Out := fin (s.izWriteTrans [3, 0x5A])

/-- IZ30_RELOAD_DONE, R441, R434: the EEPROM, whose bytes are as `placed` outside the controller, has been read and checked. BOOT_REJ_A records
why it is rejected (R437), and nothing after it passes. -/
def execIz30ReloadDone (acks : Sys2Proof.EepAcks) (placed : List (Nat × Nat)) (s : State) : Out :=
  if s.mode ≠ mIz30 ∨ s.alive = false ∨ s.on Hid.izReload = false then fin s
  else
    let t : State := { s with eeprom := Memory.writes s.eeprom placed }
    let u := t.wr Hid.izReload 0
    match u.izReject u.eeprom (eepAnswers acks) with
    | some r => fin ((u.bootRej 0 { reason := r.1, index := r.2 }).wrAt Hid.izV 2 (clearBits (u.rdAt Hid.izV 2) 2))
    | none => fin (((((u.bootRej 0 { reason := 0, index := 0 }).izMirror u.eeprom).izNative true).izReloadLoops).wrAt Hid.izV 2 (u.rdAt Hid.izV 2 ||| 0x82))

/-- IZ30_ADC_CONVERSION, R444: one IZ-30 conversion. -/
def execIz30AdcConversion (s : State) : Out :=
  let ctrl := s.rdAt Hid.izV 4
  if s.mode ≠ mIz30 ∨ s.alive = false ∨ bit ctrl 7 = false then fin s
  else
    let ch := if bit ctrl 3 then s.rd Hid.izScan else ctrl % 8
    let code := s.rdAt Hid.izCode ch
    let low := code % 16 * 16
    let t := ((s.wrAt Hid.izV 5 (code / 16)).wrAt Hid.izV 6 (low + 8 * s.rd Hid.izNew + ch)).wrs [(Hid.izNew, 1), (Hid.izScan, s.rd Hid.izScan + 1)]
    fin ((t.wrAt Hid.izV (0xE0 + 2 * ch) (code / 16)).wrAt Hid.izV (0xE1 + 2 * ch) low)

/-- IZ_ADC_DH_READ, R444. -/
def execIzAdcDhRead (s : State) : Out := fin ((s.izWriteTrans [5]).izReadTrans 1)

/-- IZ_ADC_DL_READ, R444. -/
def execIzAdcDlRead (s : State) : Out := fin ((s.izWriteTrans [6]).izReadTrans 1)

/-- IZ_ADC_CTRL_WRITE, R444. -/
def execIzAdcCtrlWrite (value : Nat) (s : State) : Out := fin (s.izWriteTrans [4, value])

/-- IZ_FAULT_CLEAR, R450. -/
def execIzFaultClear (mask : Nat) (s : State) : Out := fin (s.izWriteTrans [7, mask])

/-- IZ30_FAN_FAIL, R451: 2 s without a plausible edge of a fan whose byte is 77 or more. -/
def execIz30FanFail (fan : Fin 2) (s : State) : Out :=
  let f := fan.val
  if s.mode ≠ mIz30 ∨ s.alive = false ∨ s.rdAt Reg.FANT_MEAS_DUTY f < 77 * 257 then fin s
  else fin ((s.orAt Hid.izV 2 (2 ^ (2 + f))).orAt Hid.izV 7 (2 ^ (4 + f)))

/-- ROOM_UNIT_POLL, R452: the request of the lowest unit due is sent on BUS2, once the poll before it has ended. -/
def execRoomUnitPoll (unit : Fin 4) (s : State) : Out :=
  if s.ruOn = false ∨ s.ruNext ≠ some unit.val ∨ (upTo 4).any (s.onAt Hid.ruWait) = true then fin s
  else
    let b := 0x80 + s.iz (0xB0 + unit.val) % 16
    fin (((s.hush).say [NetOut.send (NetSend.roomUnit [b, 255 - b])]).wrsAt unit.val [(Hid.ruDue, 0), (Hid.ruWait, 1)])

/-- R452: a reply of a unit: its four bytes, address and checksum. -/
def State.ruGood (s : State) (unit : Nat) (l : List Nat) : Bool :=
  l.length == 4 && l.all (fun b => decide (b < 256)) && l.headD 0 == s.iz (0xB0 + unit) % 16 && l.sum % 256 == 0

/-- ROOM_UNIT_REPLY, R452: a good reply gives the unit's code; any other is no reply. -/
def execRoomUnitReply (unit : Fin 4) (bytes : List Nat) (s : State) : Out :=
  let u := unit.val
  if s.ruOn = false ∨ s.onAt Hid.ruWait u = false ∨ s.ruGood u bytes = false then fin s
  else
    let code := bytes.getD 1 0 * 16 + bytes.getD 2 0 / 16
    fin ((s.wrsAt u [(Hid.ruCode, code), (Hid.ruFails, 0), (Hid.ruWait, 0)]).wrAt Hid.izV 0x0E (clearBits (s.rdAt Hid.izV 0x0E) (2 ^ u)))

/-- ROOM_UNIT_TIMEOUT, R452: 20 ms without a good reply; three failed polls in a row set FAIL. -/
def execRoomUnitTimeout (unit : Fin 4) (s : State) : Out :=
  let u := unit.val
  if s.ruOn = false ∨ s.onAt Hid.ruWait u = false then fin s
  else
    let n := capN 3 (s.rdAt Hid.ruFails u + 1)
    fin ((s.wrsAt u [(Hid.ruFails, n), (Hid.ruWait, 0)]).whenB (n == 3) (fun t => t.orAt Hid.izV 0x0E (2 ^ u)))

end Sys2Proof.Machine
end

