-- ==== Sys2Proof/Machine/Panel.lean ====
section
/-! DEFINITION. The panel drive (R416 to R431): the line slots and their read-back, the frames and the DC balance, the supplies,
the discharge, and the display composer. -/

namespace Sys2Proof.Machine

/-- The panel is clearing or running. -/
def State.panelScans (s : State) : Bool := s.rd Reg.DISP_STAT_STATE == 2 || s.rd Reg.DISP_STAT_STATE == 3

/-- R430: pixel `x` of row `y` in the frame buffer. -/
def State.pixel (s : State) (x y : Nat) : Nat := bits (s.rdAt Reg.DISP_FB_PIX (12 * y + x / 16)) (2 * (x % 16)) 2

/-- R417: the code a source carries for a pixel of value `p` in the running frame; a clearing frame takes M as 0 (R422). -/
def State.sourceCode (s : State) (p : Nat) : Int :=
  let m : Nat := if s.rd Reg.DISP_STAT_STATE = 2 then 0 else bits (s.rdAt Reg.DISP_LEV_M (s.rd Reg.DISP_STAT_BAND)) (8 * p) 8
  let v : Nat := s.rd Reg.DISP_VCOM_VCOM_DC
  if s.on Reg.DISP_STAT_POL then (v : Int) - m else v + m

/-- R418, R419: the level of a gate output at cycle 1000 of slot `n`: 0 to 3 GCK0 to GCK3, 4 GSTV; 1 is VGH. -/
def gateLevel (n g : Nat) : Nat := if g = 4 then b2n (n == 0) else b2n (g == (n + 2) % 4)

/-- R419, R456: the level of a gate, start or demultiplexer output. -/
inductive GateLevel where
  | vgh | vgl | volts0
  deriving DecidableEq, Repr

/-- R422, R456: an output that is `high` is at VGH; else it is at its off level, VGL, which is 0 V while that supply is absent. -/
def gateAt (vgl high : Bool) : GateLevel := if high then .vgh else if vgl then .vgl else .volts0

/-- What the panel balls carry: GCK0 to GCK3, GSTV, DMX0 to DMX5, and the codes on SRC0 to SRC31 and on VCOM (none: 0 V). -/
structure PanelPins where
  gck : List GateLevel
  gstv : GateLevel
  dmx : List GateLevel
  src : List (Option Int)
  vcom : Option Int
  deriving DecidableEq, Repr

/-- R417, R422, R424: every gate and demultiplexer output at one level, and every source and VCOM at one code. -/
def PanelPins.all (level : GateLevel) (code : Option Int) : PanelPins :=
  { gck := List.replicate 4 level, gstv := level, dmx := List.replicate 6 level, src := List.replicate 32 code, vcom := code }

/-- R26: a pixel as it is driven: 0 where its byte has a parity error, one that stands or one of the bytes in `bad`, which this row's slot
has met. Byte 48y + k holds pixels 4k to 4k + 3 of row y. -/
def State.shownPixel (s : State) (bad : List Nat) (x y : Nat) : Nat :=
  if s.fbBad.contains (48 * y + x / 4) || bad.contains (48 * y + x / 4) then 0 else s.pixel x y

/-- R418: the codes of row `r` for columns 6n + `k`. -/
def State.rowCodes (s : State) (bad : List Nat) (r k : Nat) : List (Option Int) :=
  (upTo 32).map (fun n => some (s.sourceCode (s.shownPixel bad (6 * n + k) r)))

/-- R418, R419: the sources at cycle `c` of slot `n`: a row's levels change at cycles 20 + 320k; until the first change what the slot before
left stands. -/
def State.slotCodes (s : State) (bad : List Nat) (n c : Nat) : List (Option Int) :=
  let rest := List.replicate 32 (some (s.rd Reg.DISP_VCOM_VCOM_DC : Int))
  let row := fun m => decide (2 ≤ m) && decide (m ≤ s.rd Hid.dispLines + 1)
  if row n = false then rest
  else if c < 20 then (if row (n - 1) then s.rowCodes bad (n - 3) 5 else rest)
  else s.rowCodes bad (n - 2) (min 5 ((c - 20) / 320))

/-- R418, R419: the balls at cycle `c` of slot `n`. -/
def State.slotPins (s : State) (vgl : Bool) (bad : List Nat) (n c : Nat) : PanelPins :=
  let row := decide (2 ≤ n) && decide (n ≤ s.rd Hid.dispLines + 1)
  { gck := (upTo 4).map (fun g => gateAt vgl (g == (n + 2) % 4 && decide (c < 1990)))
    gstv := gateAt vgl (n == 0)
    dmx := (upTo 6).map (fun k => gateAt vgl (row && decide (40 + 320 * k ≤ c) && decide (c < 340 + 320 * k)))
    src := s.slotCodes bad n c
    vcom := some (s.rd Reg.DISP_VCOM_VCOM_DC : Int) }

/-- R26, R417 to R419, R422, R424, R425: what the panel balls carry, `c` cycles into the present slot, whose row reads the bytes in `bad`
with a parity error. `vgl` says that the supply VGL is present: without it the off level of a gate is 0 V (R456). -/
def State.panelPins (s : State) (vgl : Bool) (bad : List Nat) (c : Nat) : PanelPins :=
  if s.on Hid.panelDis then .all .vgh (some (s.rd Hid.panelDisV : Int))
  else if s.rd Reg.DISP_STAT_STATE = 4 then .all .vgh (some (s.rd Reg.DISP_VCOM_VCOM_DC : Int))
  else if s.panelScans then
    (if s.on Hid.dispHold then .all (gateAt vgl false) (some (s.rd Reg.DISP_VCOM_VCOM_DC : Int))
    else s.slotPins vgl bad (s.rd Reg.DISP_STAT_SLOT) c)
  else .all (gateAt vgl false) none

/-- R423: read-back runs on row `r`. -/
def State.readBack (s : State) (r : Nat) : Bool :=
  let first := s.rd Reg.DISP_RB_RB_FIRST
  let step := s.rd Reg.DISP_RB_RB_STEP
  s.on Reg.DISP_RB_RB_EN && (r == first || (step != 0 && decide (first ≤ r) && (r - first) % step == 0))

/-- R423: the outputs that differ from what is meant on row `r`: gates (32 to 36) at cycle 1000, then sources in their window.
`sources` are the codes measured on SRC0 to SRC31 and `gates` the levels on GCK0 to GCK3 and GSTV; an output without a
measurement matches. A pixel whose byte is in `bad` is driven as 0 (R26). -/
def State.mismatches (s : State) (r : Nat) (sources gates bad : List Nat) : List Nat :=
  let g := ((upTo 5).filter (fun k => gates.getD k (gateLevel (r + 2) k) != gateLevel (r + 2) k)).map (fun k => 32 + k)
  let c := (upTo 32).filter (fun n =>
    let x := 6 * n + 5
    let want := s.sourceCode (s.shownPixel (bad.map (fun k => 48 * r + k)) x r)
    match sources.drop n with
    | v :: _ => decide (s.rd Reg.DISP_RB_RB_TOL < (Int.ofNat v - want).natAbs)
    | [] => false)
  g ++ c

/-- R423: one mismatch counted, flagged and recorded. -/
def State.mismatch (s : State) (r out : Nat) : State :=
  (s.wrs [(if 32 ≤ out then Reg.DISP_FLAGS_RB_GATE else Reg.DISP_FLAGS_RB_SRC, 1), (Reg.DISP_RB_LOG_ROW, r),
    (Reg.DISP_RB_LOG_OUT, out)]).count (if 32 ≤ out then 0xE3 else 0xE2)

/-- R423: the read-back of row `r`; the first mismatch of a frame raises the cause. -/
def State.readBackRow (s : State) (r : Nat) (l : List Nat) : State :=
  let t := s.each l (fun t o => t.mismatch r o)
  if l.isEmpty = false ∧ s.on Hid.dispRb = false then (t.wr Hid.dispRb 1).raise 13 else t

/-- R26: the bytes of row `r` that its slot reads with a parity error: those of `bad` (byte k holds pixels 4k to 4k + 3), and those that
still have one. -/
def State.badBytes (s : State) (r : Nat) (bad : List Nat) : List Nat :=
  (upTo 48).filter (fun k => bad.contains k || s.fbBad.contains (48 * r + k))

/-- R26: a row has been read with errors in its bytes. With SRC 0 the composer redraws the whole page; with SRC 1 the bytes stay wrong
until the host writes them. -/
def State.fbError (s : State) (r : Nat) (l : List Nat) : State :=
  if l.isEmpty then s
  else
    let t : State := { s with fbBad := s.fbBad ++ (l.map (fun k => 48 * r + k)).filter (fun k => !s.fbBad.contains k) }
    (t.memErr Reg.MEM_ERR_FB).whenB (!s.on Reg.DISP_CTRL_SRC) (fun u => u.wr Hid.dispPage 1)

/-- PANEL_LINE_SLOT, R418, R419, R423: the present slot ends, `us` µs after it began. `bad` are the bytes of its row (byte k
holds pixels 4k to 4k + 3) found with a parity error (R26). -/
def execPanelLineSlot (us : Nat) (sources gates bad : List Nat) (s : State) : Out :=
  if s.panelScans = false ∨ s.on Hid.dispHold = true then fin s
  else
    let n := s.rd Reg.DISP_STAT_SLOT
    let r := n - 2
    let row := decide (2 ≤ n) && decide (n ≤ s.rd Hid.dispLines + 1)
    let bytes := if row && s.rd Reg.DISP_STAT_STATE == 3 then s.badBytes r bad else []
    let t := s.fbError r bytes
    let u := if row && s.readBack r then t.readBackRow r (s.mismatches r sources gates bytes) else t
    let v := (u.balance us).wr Hid.dispTick s.tick
    fin (if s.rd Hid.dispLines + 3 ≤ n then v.wrs [(Reg.DISP_STAT_SLOT, 255), (Hid.dispHold, 1)] else v.wr Reg.DISP_STAT_SLOT (n + 1))

/-- A blank place of a field's text, drawn as 0 (R427, right-aligned). -/
def blank : Nat := 256

/-- The decimal digits of a number as character codes, at least `n` of them. -/
def digits (n v : Nat) : List Nat :=
  let l := (Nat.digits 10 v).reverse.map (fun d => 48 + d)
  List.replicate (n - l.length) 48 ++ l

/-- R427: a Q16.16 value printed with `d` digits after the point, rounded, ties away from zero. -/
def printQ (v : Int) (d : Nat) : List Nat :=
  let r := rndAway (v * (10 ^ d : Nat)) 65536
  let l := digits (d + 1) r.natAbs
  let k := l.length - d
  (if r < 0 then [45] else []) ++ l.take k ++ (if d = 0 then [] else 46 :: l.drop k)

/-- R427: right-aligned in `n` characters; what does not fit prints as #. -/
def fitText (n : Nat) (l : List Nat) : List Nat :=
  let t := if n < l.length then [35] else l
  List.replicate (n - t.length) blank ++ t.drop (t.length - n)

/-- A coach word that a field fetches; a word with an uncorrectable error gives a value the spec does not state (R102). -/
def State.fetchWord (s : State) (c w : Nat) : Int × State :=
  if s.unreadable c w then
    let f := (s.noteDue c w false).freeBelow (2 ^ 32)
    (toI 32 f.1, f.2)
  else (s.cq c w, s.ceFix c w)

/-- R426, R427: the value of a field's binding, none for an invalid result. -/
def State.fieldValue (s : State) (w : Nat) : Option Int × State :=
  let typ := bits w 0 4
  let idx := bits w 4 8
  if typ = 9 ∨ typ = 10 then (let f := s.fetchWord idx (if typ = 9 then 46 else 47); (some f.1, f.2))
  else
    let i := s.input (bits w 0 16) 0 []
    if i.bound = false ∨ i.valid = false then (none, s)
    else if typ = 2 then (let f := s.fetchWord idx 52; (some f.1, f.2))
    else (some i.v, s)

/-- R427: the characters of a field item. -/
def State.fieldText (s : State) (i : Item) : List Nat × State :=
  if bits i.w1 0 4 = 8 then
    (fitText i.len (if s.on Reg.RTC_STAT_OSF then [45]
      else digits 2 (s.rd Reg.RTC_TIME_HOUR) ++ 58 :: digits 2 (s.rd Reg.RTC_TIME_MIN)), s)
  else
    let v := s.fieldValue i.w1
    (fitText i.len (match v.1 with | some q => printQ q (bits i.w1 16 4) | none => [45]), v.2)

/-- R427: the characters of an item, and the machine after a field's fetch. -/
def State.itemText (s : State) (i : Item) : List Nat × State :=
  if i.typ = 1 then ((upTo i.len).map (fun k => s.compByte (i.w1 + k)), s)
  else if i.typ = 2 then s.fieldText i
  else ([], s)

/-- R427: the items of the page shown. -/
def State.pageItems (s : State) : List Item := (s.itemsAt 3072 (s.pageAt (s.rd Reg.DISP_PAGE_PAGE))).getD []

/-- R427: the table word at which item `k` of the page shown stands. -/
def State.itemAt (s : State) (k : Nat) : Nat := s.pageAt (s.rd Reg.DISP_PAGE_PAGE) + 2 * k

/-- R26: item `k` of the page shown has read with a parity error; it is not drawn until a display region update or a boot rewrites the
tables. -/
def State.itemBad (s : State) (k : Nat) : Bool := s.compBad.contains (s.itemAt k)

/-- R26: the items `l` of the page shown have read with a parity error: no text of theirs is kept, and no redraw of theirs waits. -/
def State.composerError (s : State) (l : List Nat) : State :=
  if l.isEmpty then s
  else
    let t : State := { s with
      compBad := s.compBad ++ (l.map s.itemAt).filter (fun o => !s.compBad.contains o),
      held := s.held.filter (fun p => !l.contains p.1) }
    (t.each l (fun t k => t.wr Hid.compWait (clearBits (t.rd Hid.compWait) (2 ^ k)))).memErr Reg.MEM_ERR_COMPOSER

/-- R121, R426: the beat of the coach bus that holds what a field shows: SP_WORK or PV of a coach, the OUT of one, or an input's result. None
where the value stands in neither memory. -/
def fieldBeat (w : Nat) : Option Nat :=
  let typ := bits w 0 4
  let idx := bits w 4 8
  if typ = 9 then some (beatOf idx 46).1
  else if typ = 10 then some (beatOf idx 47).1
  else if typ = 2 then some (beatOf idx 52).1
  else if typ = 1 then some (0x1400 + idx % 64)
  else none

/-- R426: a bound field is fetched, in one carriage of requester 12. The beat that the carriage of a value outside the bus's memories names
is a free value (log entry 65). -/
def State.fieldFetch (s : State) (i : Item) : List Nat × State :=
  match fieldBeat i.w1 with
  | some b => (s.fetchAsk b).itemText i
  | none => (let f := s.freeBelow 0x1440; (f.2.fetchAsk f.1).itemText i)

/-- The items of a list with their texts, fetched in order. -/
def State.texts (s : State) : List Item → List (Item × List Nat) × State
  | [] => ([], s)
  | i :: l =>
    let r := if i.typ = 2 then s.fieldFetch i else s.itemText i
    let q := r.2.texts l
    ((i, r.1) :: q.1, q.2)

/-- The composer works: SRC 0, in a mode with the panel's configuration. -/
def State.composes (s : State) : Bool := s.native && s.alive && !s.on Reg.DISP_CTRL_SRC

/-- R426: at a frame start, and at most every 100 ms, the composer fetches every bound field of the page shown, but one whose item is bad
(R26). A field whose text is again
the one drawn waits for no redraw. -/
def State.compFetch (s : State) : State :=
  if s.composes = false ∨ s.on Hid.dispPage = true ∨ s.tick + 1 < s.rd Hid.compTick then s
  else
    (s.pageItems.zipIdx.filter (fun p => p.1.typ == 2 && !s.itemBad p.2)).foldl (fun t p =>
      let r := t.fieldFetch p.1
      let u : State := { r.2 with held := (p.2, r.1) :: r.2.held.filter (fun q => q.1 != p.2) }
      if u.drawn.any (fun q => q.1 == p.2 && q.2 == r.1) then u.wr Hid.compWait (clearBits (u.rd Hid.compWait) (2 ^ p.2)) else u)
      (s.wr Hid.compTick (s.tick + 101))

/-- R428: the band of the panel temperature. -/
def State.bandNow (s : State) : Nat :=
  let i := s.rd Reg.DISP_BAND_CFG_PT_IN
  if s.on Reg.DISP_BAND_CFG_PT_EN ∧ s.onAt Reg.UI_VALUE_VALID i then
    let v := s.rdI Reg.UI_VALUE_VALUE i
    if v < s.rdI Reg.DISP_BAND_LIM_BAND_LO 0 then 0 else if s.rdI Reg.DISP_BAND_LIM_BAND_HI 0 ≤ v then 2 else 1
  else 1

/-- R419, R420, R426, R428: a frame starts: its band is latched, LINES and REFRESH are taken at a positive one, and the composer's fields
are fetched. -/
def State.frameStart (s : State) (pol : Nat) : State :=
  let t := s.wrs [(Reg.DISP_STAT_POL, pol), (Reg.DISP_STAT_SLOT, 0), (Hid.dispHold, 0), (Hid.dispRb, 0), (Hid.dispUs, 0),
    (Hid.dispDrew, 0), (Hid.dispTick, s.tick)]
  let u := if pol = 0 then
      t.wrs [(Hid.dispLines, s.rd Reg.DISP_CTRL_LINES), (Hid.dispRefresh, if s.mode = mStandby then 1 else s.rd Reg.DISP_CTRL_REFRESH)]
    else t
  let b := s.bandNow
  let v := (u.countIf (b != s.rd Reg.DISP_STAT_BAND) 0xEA).wr Reg.DISP_STAT_BAND b
  (if v.rd Reg.DISP_STAT_STATE = 3 then (v.wr Reg.DISP_FRAMES_COUNT (v.rd Reg.DISP_FRAMES_COUNT + 1)).count 0xE0 else v).compFetch

/-- R421: the running frame's balance lets it end. -/
def State.frameMayEnd (s : State) : Bool :=
  let b := s.rdI Reg.DISP_BAL_BAL 0
  if s.on Reg.DISP_STAT_POL then decide (b ≤ 0) else decide ((s.panelPeriod : Int) ≤ b * s.panelRate)

/-- R421: the running frame has lasted longer than its nominal period, counted in whole µs. -/
def State.frameLong (s : State) : Bool := decide ((s.panelPeriod + s.panelRate - 1) / s.panelRate < s.rd Hid.dispUs)

/-- R421, R422: what follows the frame that ends. -/
def State.frameNext (s : State) : State :=
  let pol := 1 - s.rd Reg.DISP_STAT_POL
  if s.rd Reg.DISP_STAT_STATE = 2 then
    if s.rd Hid.dispFrames ≤ 1 then (s.wrs [(Reg.DISP_STAT_STATE, 3), (Hid.dispFrames, 0), (Reg.DISP_BAL_BAL, 0)]).frameStart 0
    else (s.wr Hid.dispFrames (s.rd Hid.dispFrames - 1)).frameStart pol
  else s.frameStart pol

/-- PANEL_FRAME_END, R421: `us` µs of hold have passed; where the frame may end, the next one starts. A frame ends at the first moment at
which it may, so more µs of hold than the balance needs have passed only where a page was drawn in it. -/
def execPanelFrameEnd (us : Nat) (s : State) : Out :=
  let t := s.balance (if s.on Hid.dispDrew then us else min us s.holdNeed)
  if s.panelScans = false ∨ s.on Hid.dispHold = false ∨ s.on Hid.dispPage = true ∨ t.frameMayEnd = false then fin s
  else fin ((t.countIf t.frameLong 0xE1).frameNext)

/-- PANEL_SUPPLY_GOOD, R422: supply 0 VGH, 1 VGL, 2 VSH, 3 VSL has been inside its range for 10 ms. -/
def execPanelSupplyGood (supply : Fin 4) (s : State) : Out :=
  if s.alive then fin ((s.putBit Reg.DISP_STAT_SUP_OK supply.val true).panelIdle) else fin s

/-- PANEL_START, R422: two clearing frames begin. -/
def execPanelStart (s : State) : Out :=
  if s.rd Reg.DISP_STAT_STATE = 1 ∧ s.rd Reg.DISP_STAT_SUP_OK = 15 ∧ s.panelMay = true ∧ s.on Hid.panelDis = false then
    fin (((s.wrs [(Reg.DISP_STAT_STATE, 2), (Hid.dispFrames, 2)]).count 0xE6).frameStart 0)
  else fin s

/-- PANEL_SUPPLY_FAULT, R421, R422, R424, R425: a supply leaves its range. A panel that runs stops, and a discharge ends, that of a boot reset
too. -/
def execPanelSupplyFault (supply : Fin 4) (s : State) : Out :=
  let a := if s.panelScans then s.panelAbandon else s
  let t := (if s.alive then a.putBit Reg.DISP_STAT_SUP_OK supply.val false else a).wr Hid.panelDis 0
  if s.panelLive = true ∨ s.on Hid.panelDis = true then
    fin ((((t.wrs [(Reg.DISP_STAT_STATE, 5), (Reg.DISP_STAT_SLOT, 0), (Hid.dispHold, 0), (Hid.dispRb, 0), (Hid.dispUs, 0),
      (Reg.DISP_FLAGS_SUP_FAULT, 1)]).count 0xE5).raise 13).panelIdle)
  else fin (if s.alive then t.panelIdle else t)

/-- PANEL_DISCHARGE_DONE, R424, R425: the three discharge frames have ended. -/
def execPanelDischargeDone (s : State) : Out :=
  if s.on Hid.panelDis then fin (s.wrs [(Hid.panelDis, 0), (Reg.DISP_BAL_BAL, 0)])
  else if s.rd Reg.DISP_STAT_STATE = 4 then
    fin ((((s.wrs [(Reg.DISP_BAL_BAL, 0), (Reg.DISP_FLAGS_DISCHG_DONE, 1), (Reg.DISP_STAT_STATE, 0)]).count 0xE4).raise 13).panelIdle)
  else fin s

/-- What an item puts on a pixel. -/
inductive Ink where
  /-- The item does not cover the pixel. -/
  | none
  /-- A pixel of a character that the font does not hold: the spec gives no value. -/
  | open
  /-- A pixel value. -/
  | value (p : Nat)
  deriving DecidableEq, Repr

/-- R427: pixel (`px`, `py`) of a character in font `f`, drawn at a level. -/
def State.glyph (s : State) (f level code px py : Nat) : Ink :=
  let o := s.fontAt f
  let h := s.compWord o
  let first := bits h 16 8
  if code = blank then .value 0
  else if code < first ∨ bits h 24 8 ≤ code - first then .open
  else
    let k := (code - first) * bits h 0 8 + py
    let row := bits (s.compWord (o + 1 + k / 2)) (16 * (1 - k % 2)) 16
    .value (if bit row (15 - px) then level else 0)

/-- R427: what an item with a text puts on pixel (`x`, `y`). -/
def State.ink (s : State) (i : Item) (text : List Nat) (x y : Nat) : Ink :=
  let z := s.itemSize i
  if x < i.x ∨ y < i.y ∨ i.x + z.1 ≤ x ∨ i.y + z.2 ≤ y then .none
  else if i.typ = 1 ∨ i.typ = 2 then
    let w := max 1 (s.fontSize i.font).2
    s.glyph i.font i.level (text.getD ((x - i.x) / w) blank) ((x - i.x) % w) (y - i.y)
  else if i.typ = 3 then
    let k := x - i.x
    .value (bits (s.compWord (bits i.w1 0 24 + (y - i.y) * ((i.len + 15) / 16) + k / 16)) (2 * (k % 16)) 2)
  else .value i.level

/-- The value of pixel (`x`, `y`) after the items of a list, in their order, over what stood there. -/
def State.inkAll (s : State) (l : List (Item × List Nat)) (old x y : Nat) : Nat :=
  l.foldl (fun v p => match s.ink p.1 p.2 x y with
    | .none => v
    | .open => Sys2Proof.Config.freeValue (s.free + 192 * y + x) % 4
    | .value q => q) old

/-- The frame buffer with the items of a list drawn; `clear` says that it is cleared first. Each pixel has its own free value. -/
def State.draw (s : State) (l : List (Item × List Nat)) (clear : Bool) : State :=
  let t := s.each (upTo 1920) (fun t n =>
    t.wrAt Reg.DISP_FB_PIX n ((upTo 16).foldl (fun v i =>
      v + s.inkAll l (if clear then 0 else s.pixel (16 * (n % 12) + i) (n / 12)) (16 * (n % 12) + i) (n / 12) * 4 ^ i) 0))
  { t with free := s.free + 30720, fbBad := if clear then [] else s.fbBad }

/-- COMPOSER_PAGE_DRAW, R426, R427: the frame buffer is cleared and the whole page drawn, without the items whose tables hold a
parity error: those of `badItems`, and those that still have one (R26). While a frame scans, the draw waits for its hold, so that no frame
shows parts of two pages. -/
def execComposerPageDraw (badItems : List Nat) (s : State) : Out :=
  if s.composes = false ∨ s.on Hid.dispPage = false ∨ (s.panelScans = true ∧ s.on Hid.dispHold = false) then fin s
  else
    let all := s.pageItems.zipIdx
    let good := all.filter (fun p => !(badItems.contains p.2 || s.itemBad p.2))
    let t := s.composerError ((upTo all.length).filter (fun k => badItems.contains k || s.itemBad k))
    let r := t.texts (good.map (fun p => p.1))
    let u := r.2.draw r.1 true
    let kept := (r.1.zip good).filter (fun q => q.1.1.typ == 2)
    let texts := kept.map (fun q => (q.2.2, q.1.2))
    let w := u.wrs [(Hid.dispPage, 0), (Hid.compWait, 0), (Hid.compTick, s.tick + 101), (Hid.dispDrew, b2n (s.on Hid.dispHold))]
    fin (({ w with drawn := texts, held := texts } : State).count 0xE8)

/-- R426: the scan is within the rows of an item. -/
def State.scanWithin (s : State) (i : Item) : Bool :=
  let r := s.rd Reg.DISP_STAT_SLOT
  s.panelScans && !s.on Hid.dispHold && decide (i.y + 2 ≤ r) && decide (r < i.y + (s.itemSize i).2 + 2)

/-- R426: a field whose text has changed is redrawn; a redraw that the scan had delayed counts. -/
def State.redraw (s : State) (item : Nat) (i : Item) (text : List Nat) : State :=
  let t := s.draw [(i, text)] false
  let u := { t with drawn := (item, text) :: t.drawn.filter (fun p => p.1 != item) }
  ((u.count 0xE7).countIf (bit (s.rd Hid.compWait) item) 0xE9).wr Hid.compWait (clearBits (s.rd Hid.compWait) (2 ^ item))

/-- COMPOSER_FIELD_REDRAW, R426: the composer redraws field item `item` of the page shown where the text it fetched has changed, once the
scan is not within its rows. An item whose tables read with a parity error (`bad`) is not drawn, now and
from then on (R26). -/
def execComposerFieldRedraw (item : Nat) (bad : Bool) (s : State) : Out :=
  if s.composes = false ∨ s.on Hid.dispPage = true then fin s
  else
    match s.pageItems[item]?, s.held.find? (fun p => p.1 == item) with
    | some i, some h =>
      if i.typ ≠ 2 then fin s
      else if bad then fin (s.composerError [item])
      else if s.drawn.any (fun p => p.1 == item && p.2 == h.2) then fin s
      else if s.scanWithin i then fin (s.or Hid.compWait (2 ^ item))
      else fin (s.redraw item i h.2)
    | _, _ => fin s

end Sys2Proof.Machine
end

