-- ==== Sys2Proof/Machine/Nor.lean ====
section
/-! DEFINITION. What the controller sends to the attached memory (R300, R301, R400): the flash's commands as they stand on NSCK and
NIO0, and the commands of what is under way. These are outputs: functions of the state. -/

namespace Sys2Proof.Machine

/-- R300, R301, R434: the commands the controller gives the attached memory: those of the flash, and a read or write of the IZ-30 EEPROM, a
transaction of it that ends with an address byte that is not acknowledged, and a read that goes on from there. -/
inductive NorCmd where
  | wake
  | read (addr bytes : Nat)
  | writeEnable
  | program (addr : Nat) (data : List Nat)
  | erase (addr : Nat)
  | status
  | eepromRead (addr bytes : Nat)
  | eepromTry (out : List Nat)
  | eepromOn (bytes : Nat)
  | eepromWrite (addr : Nat) (data : List Nat)
  deriving DecidableEq, Repr

/-- A command on the wires: the bytes sent on NIO0, the dummy clocks after them, the bytes read, whether those come on four lines, and
the wait after the command in µs; or a transaction on the I²C bus of R301, its address bytes among those sent. -/
structure NorWire where
  out : List Nat
  dummy : Nat := 0
  bytes : Nat := 0
  quad : Bool := false
  wait : Nat := 0
  i2c : Bool := false
  deriving DecidableEq, Repr

/-- R300: a command as it is sent: Release from Deep Power-down and 30 µs, Quad Output Fast Read with 8 dummy clocks, Write Enable,
Page Program, 4 KiB Sector Erase, Read Status; addresses are 3 bytes. R434: an EEPROM
address byte that is not acknowledged is sent again after 1 ms. -/
def NorCmd.wire : NorCmd → NorWire
  | .wake => { out := [0xAB], wait := 30 }
  | .read a n => { out := 0x6B :: beBytes 3 a, dummy := 8, bytes := n, quad := true }
  | .writeEnable => { out := [0x06] }
  | .program a d => { out := 0x02 :: (beBytes 3 a ++ d) }
  | .erase a => { out := 0x20 :: beBytes 3 a }
  | .status => { out := [0x05], bytes := 1 }
  | .eepromRead a n => { out := [0x50 * 2, a % 256, 0x50 * 2 + 1], bytes := n, i2c := true }
  | .eepromTry l => { out := l, wait := 1000, i2c := true }
  | .eepromOn n => { out := [0x50 * 2 + 1], bytes := n, i2c := true }
  | .eepromWrite a d => { out := [0x50 * 2, a % 256] ++ d, i2c := true }

/-- R400: an erase of the sector at `a`: Read Status is repeated until the flash is ready. -/
def eraseCmds (a : Nat) : List NorCmd := [.writeEnable, .erase a, .status]

/-- R400: a page program, with its read-back. -/
def programCmds (a : Nat) (d : List Nat) : List NorCmd := [.writeEnable, .program a d, .status, .read a d.length]

/-- R303: the reads of a copy: its header, and the sections that LENGTH names. -/
def State.copyCmds (s : State) (c : Nat) : List NorCmd :=
  .read (copyBase c) 32 ::
    (if headerReason s.flash (copyBase c) = 0 then [.read (copyBase c + 32) (4 * (Memory.word s.flash (copyBase c + 12) - 8))] else [])

/-- R434: the read of the whole EEPROM. An address byte is sent once and, not acknowledged, up to 8 times more; after 9 the read is given
up. -/
def eepromReadAll (a : Sys2Proof.EepAcks) : List NorCmd :=
  List.replicate (min a.write 9) (.eepromTry [0xA0]) ++
    (if 8 < a.write then []
     else if a.read = 0 then [.eepromRead 0 256]
     else .eepromTry [0xA0, 0, 0xA1] :: (List.replicate (min a.read 9 - 1) (.eepromTry [0xA1]) ++
       (if 8 < a.read then [] else [.eepromOn 256])))

/-- R300, R311, R313, R434: what a boot sends: with straps 0b10 the read of the whole EEPROM, else the wake, both headers, and the
sections of the copies it tries. -/
def State.bootCmds (s : State) (env : Sys2Proof.BootEnv) : List NorCmd :=
  if s.onEeprom then eepromReadAll env.acks
  else
  let order := s.bootOrder env.answers
  let tried := match order with
    | c :: l => (match s.imageDefaults.judgeCopy (copyBase c) (!s.on Reg.CLK_STAT_FALLBACK) with | .ok _ => [c] | .error _ => c :: l)
    | [] => []
  [.wake, .read (copyBase 0) 32, .read (copyBase 1) 32] ++ tried.flatMap (fun c => (s.copyCmds c).drop 1)

/-- R400: what the hatch operation under way sends. -/
def State.hatchCmds (s : State) : List NorCmd :=
  let h := s.hatch
  if s.onEeprom then
    (if h.op = 1 then [.eepromRead h.addr (4 * h.count)]
     else if h.op = 2 then [.eepromWrite h.addr ((wordBytes h.addr h.words).map (fun p => p.2))]
     else [])
  else if h.op = 1 then [.read h.addr (4 * h.count)]
  else if h.op = 2 then programCmds h.addr ((wordBytes h.addr h.words).map (fun p => p.2))
  else if h.op = 3 then eraseCmds h.addr
  else []

/-- R326: what the persist under way sends: OPEN reads the active copy and erases the target's first sector; COMMIT reads the target and
programs its header in one page. -/
def State.persistCmds (s : State) : List NorCmd :=
  let st := s.rd Reg.IMG_PERSIST_STATE
  let b := copyBase (s.rd Reg.IMG_PERSIST_TARGET)
  if st = 1 then s.copyCmds (s.rd Reg.BOOT_STAT_COPY)
  else if st = 2 then eraseCmds b
  else if st = 4 then [.read (b + 32) (4 * (s.rd Reg.IMG_PLEN_LENGTH - 8))]
  else if st = 5 then programCmds b (s.newHeader.flatMap (beBytes 4))
  else []

/-- R434, R441: the EEPROM read of an IZ-30 reset. -/
def State.reloadCmds (s : State) (a : Sys2Proof.EepAcks) : List NorCmd :=
  if s.mode = mIz30 ∧ s.on Hid.izReload = true then eepromReadAll a else []

/-- R103: what SUPV_REPAIR sends: a read of the active copy. -/
def State.repairCmds (s : State) : List NorCmd := if s.on Reg.SUPV_REPAIR_GO then s.copyCmds (s.rd Reg.BOOT_STAT_COPY) else []

/-- R26: what the reload of the patch RAM sends: a read of the active copy. -/
def State.patchCmds (s : State) : List NorCmd := if s.hatch.path.contains 4 then s.copyCmds (s.rd Reg.BOOT_STAT_COPY) else []

/-- R300, R301, R400, R401: everything that the memory port carries now: the transactions of the one operation that the hatch path
serves, and of a reload, whose address the EEPROM acknowledges as `a` has it. -/
def State.memWires (s : State) (a : Sys2Proof.EepAcks) : List NorWire :=
  let serve := fun (k : Nat) (l : List NorCmd) => if s.pathServes k then l else []
  (serve 1 s.hatchCmds ++ serve 2 s.repairCmds ++ serve 3 s.persistCmds ++ serve 4 s.patchCmds ++ s.reloadCmds a).map NorCmd.wire

/-- R301: what NCS_N, NSCK, NIO2 and NIO3 do: `none` is high impedance or, while the port carries a flash command, that command's. -/
structure MemPins where
  ncs : Option Bool
  nsck : Option Bool
  nio2 : Option Bool
  nio3 : Option Bool
  deriving DecidableEq, Repr

/-- R300, R301: with straps 0b10 the memory port is an I²C-bus master on NIO0 (SDA) and NIO1 (SCL), and the flash pins rest: NCS_N high,
NSCK low, NIO2 and NIO3 at high impedance. So does a flash that is not addressed, in SPI mode 0 (DEDUCED). -/
def State.memPins (s : State) : MemPins :=
  if s.onEeprom ∨ (s.memWires {}).isEmpty = true then { ncs := some true, nsck := some false, nio2 := none, nio3 := none }
  else { ncs := some false, nsck := none, nio2 := none, nio3 := none }

end Sys2Proof.Machine
end

