-- ==== Sys2Proof/Machine/Pins.lean ====
section
/-! DEFINITION. The balls and the wires (R345, R355, R365 to R367, R388, R389, R455, R456): the ball map, what each group of balls does
through a boot reset, and what the bus and host ports put on their lines. These are outputs: functions of the state. -/

namespace Sys2Proof.Machine

/-- R455: the letters of the rows. -/
def ballRows : List String := ["A", "B", "C", "D", "E", "F", "G", "H", "J", "K", "L", "M", "N", "P", "T", "U"]

/-- R455: rows A to H of the ball map, columns 1 to 16. -/
def ballMapUpper : List (List String) :=
  [
    ["GND", "SRC0", "SRC1", "SRC2", "SRC3", "SRC4", "SRC5", "SRC6", "SRC7", "SRC8", "SRC9", "SRC10", "SRC11", "SRC12", "SRC13", "GND"],
    ["VGH", "SRC14", "SRC15", "SRC16", "SRC17", "SRC18", "SRC19", "SRC20", "SRC21", "SRC22", "SRC23", "SRC24", "SRC25", "SRC26", "SRC27", "VGL"],
    ["VSH", "SRC28", "SRC29", "SRC30", "SRC31", "DMX0", "DMX1", "DMX2", "DMX3", "DMX4", "DMX5", "GCK0", "GCK1", "GCK2", "GCK3", "VSL"],
    ["UI0", "UI1", "UI2", "UI3", "UI4", "GSTV", "VCOM", "GND", "GND", "VDD_IO", "VCORE", "VM", "VM", "HS0", "HS0", "V0"],
    ["UI5", "UI6", "UI7", "UI8", "UI9", "VDD_IO", "VCORE", "TCK", "TMS", "TDI", "TDO", "VM", "V1", "HS1", "HS1", "V2"],
    ["UI10", "UI11", "UI12", "UI13", "UI14", "GND", "GND", "GND", "GND", "GND", "GND", "V3", "VM", "HS2", "HS2", "V4"],
    ["UI15", "UI16", "UI17", "UI18", "UI19", "GND", "GND", "GND", "GND", "GND", "GND", "V5", "VM", "HS3", "HS3", "V6"],
    ["UI20", "UI21", "UI22", "UI23", "UI24", "GND", "GND", "GND", "GND", "GND", "GND", "V7", "VM", "D0A1", "D0A2", "D0B1"]]

/-- R455: rows J to U of the ball map, columns 1 to 16. -/
def ballMapLower : List (List String) :=
  [
    ["UI25", "UI26", "UI27", "UI28", "UI29", "GND", "GND", "GND", "GND", "GND", "GND", "D0B2", "VM", "D1A1", "D1A2", "D1B1"],
    ["UI30", "UI31", "UI32", "UI33", "UI34", "GND", "GND", "GND", "GND", "GND", "GND", "D1B2", "VM", "D2A1", "D2A2", "D2B1"],
    ["UI35", "UI36", "UI37", "UI38", "UI39", "GND", "GND", "GND", "GND", "GND", "GND", "D2B2", "D3A1", "D3A2", "D3B1", "D3B2"],
    ["OCC0P", "OCC0N", "OCC1P", "OCC1N", "VDDA", "GND", "GND", "GND", "GND", "ISNS_N", "ISNS_P", "BO0", "BO1", "BO2", "BO3", "BO4"],
    ["OCC2P", "OCC2N", "OCC3P", "OCC3N", "VDDA", "FANPWM0", "FANTACH0", "FANPWM1", "FANTACH1", "GND", "GLC", "BO5", "GHA", "SWA", "BSTA", "GLA"],
    ["REFIN_P", "REFIN_N", "VREF_DEC", "GND", "VDDA", "VDD_IO", "VCORE", "GND", "GHC", "SWC", "BSTC", "VDRV", "GHB", "SWB", "BSTB", "GLB"],
    ["XIN", "XOUT", "VDD_IO", "X32IN", "X32OUT", "VBAT", "RESET_N", "STRAP0", "STRAP1", "FAULT_N", "HINT_N", "HSS_N", "VDD_IO", "TRX_P", "TRX_N", "VCORE"],
    ["NSCK", "NCS_N", "NIO0", "NIO1", "NIO2", "NIO3", "SSCL", "SSDA", "VDD_IO", "HSCK", "HSDI", "HSDO", "BUS1A", "BUS1B", "BUS2A", "BUS2B"]]

/-- R455: the signal on a ball: rows counted from A, columns from 1. -/
def ballAt (row col : Nat) : Option String := ((ballMapUpper ++ ballMapLower)[row]?).bind (fun l => l[col - 1]?)

/-- R455: how many balls carry a signal. -/
def ballCount (name : String) : Nat := ((ballMapUpper ++ ballMapLower).map (fun l => l.count name)).sum

/-- R456: the groups of balls that the controller drives or pulls. -/
inductive BallGroup where
  | refin | universal | occupancy | source | vcom | panelGate | gateLow | gateHigh | bootstrap | fanPwm | fanTach | valveLow | valveHigh
  | damper | binaryOut | trx | bus | hsck | hsdi | hsdo | hssN | hintN | faultN | sscl | ssda | nsck | ncsN | nio | resetN | strap
  | tck | tms | tdi | tdo | xin | x32
  deriving DecidableEq, Repr

/-- R456: what a ball does through a boot reset and BOOT. -/
inductive BallRest where
  | highZ | low | off | driven (level : Bool) | atSw | running | code (k : Option Int) | gate (level : GateLevel) | pullUp (ohm : Nat) | pullDown (ohm : Nat) | input | released | asserted | receiving
  deriving DecidableEq, Repr

/-- R456: the state of a group from the assertion of a boot reset to the end of BOOT. The panel's balls are what State.panelPins says: the
discharge of R425 while it runs, then 0 V and the gates' off level. The test port runs on, and drives TDO in Shift-DR and Shift-IR. -/
def State.restOf (s : State) (vgl : Bool) : BallGroup → BallRest
  | .refin | .universal | .occupancy => .highZ
  | .source | .vcom => .code (s.panelPins vgl [] 0).vcom
  | .panelGate => .gate (s.panelPins vgl [] 0).gstv
  | .gateLow => .low
  | .gateHigh => .atSw
  | .bootstrap => .off
  | .fanPwm => .highZ
  | .fanTach => .pullUp 20000
  | .valveLow | .valveHigh | .binaryOut => .off
  | .damper | .trx => .highZ
  | .bus => .receiving
  | .hsck | .hsdi => .input
  | .hsdo => .highZ
  | .hssN => .pullUp 50000
  | .hintN => .released
  | .faultN => .asserted
  | .sscl | .ssda => .released
  | .nsck => .low
  | .ncsN | .nio => .pullUp 50000
  | .resetN => .pullUp 50000
  | .strap => .pullDown 50000
  | .tck => .pullDown 50000
  | .tms | .tdi => .pullUp 50000
  | .tdo => match s.tap.tdo with
    | some b => .driven b
    | none => .highZ
  | .xin | .x32 => .running

/-- R345, R456: what a group of balls is at while a boot reset holds the controller or BOOT runs; none at any other time, when the rules of
each block say it. The domain of X32IN and X32OUT runs on through all of it (R271). -/
def State.bootRest (s : State) (vgl : Bool) (g : BallGroup) : Option BallRest :=
  if s.mode = mBoot ∨ s.on Hid.resetActive = true then some (s.restOf vgl g) else none

/-- R301, R456: the level of NSCK and of NCS_N: the flash pins rest between commands; through a boot reset and BOOT NSCK is low and NCS_N
has its pull-up alone. -/
def State.flashLevel (s : State) (clock : Bool) : Option Bool :=
  if s.mode = mBoot ∨ s.on Hid.resetActive = true then (if clock then some false else none)
  else if s.memPins.nsck.isNone then none
  else if clock then s.memPins.nsck else s.memPins.ncs

/-- R419, R422, R424, R425: the level of one of GCK0 to GCK3, GSTV and DMX0 to DMX5: high in a discharge, off while no slot runs. In a slot
GSTV and the three clocks that do not run stand still, as the demultiplexers do in a slot without a row; the clock that runs and, in a row's
slot, the demultiplexers change within the slot. -/
def State.panelLevel (s : State) (name : String) : Option Bool :=
  let n := s.rd Reg.DISP_STAT_SLOT
  if s.on Hid.panelDis = true ∨ s.rd Reg.DISP_STAT_STATE = 4 then some true
  else if s.panelScans = false ∨ s.on Hid.dispHold = true then some false
  else if name = "GSTV" then some (n == 0)
  else match ["GCK0", "GCK1", "GCK2", "GCK3"].idxOf? name with
    | some g => if g = (n + 2) % 4 then none else some false
    | none => if 2 ≤ n ∧ n ≤ s.rd Hid.dispLines + 1 then none else some false

/-- The level that the controller's own logic gives a digital ball, where it determines one: a low-side or open-drain output that is on pulls
its ball low, a high-side switch that is on pulls it up (R219, R242, R345, R404); the gate drive, FANPWM, the flash pins and the panel's
gates where they stand still (R200, R205, R301, R419). -/
def State.coreLevel (s : State) (name : String) : Option Bool :=
  if name = "FAULT_N" then (if s.faultN then some false else none)
  else if name = "HINT_N" then (if s.hintN then some false else none)
  else if name = "NSCK" then s.flashLevel true
  else if name = "NCS_N" then s.flashLevel false
  else if name = "FANPWM0" then (s.fanPwm 1).level
  else if name = "FANPWM1" then (s.fanPwm 2).level
  else if name = "GLA" ∨ name = "GLB" ∨ name = "GLC" then s.fanLowSides
  else if ["GCK0", "GCK1", "GCK2", "GCK3", "GSTV", "DMX0", "DMX1", "DMX2", "DMX3", "DMX4", "DMX5"].contains name then s.panelLevel name
  else match ["BO0", "BO1", "BO2", "BO3", "BO4", "BO5"].idxOf? name with
    | some n => if s.onAt Reg.BO_STATE_OUT n then some false else none
    | none =>
      match ["HS0", "HS1", "HS2", "HS3"].idxOf? name with
      | some n => if s.hsOn n then some true else none
      | none => none

/-- R365, R366: the bits of a character: start, 8 data bits, parity, and stop bits; without parity a Modbus port has 2 stop bits and
MS/TP 1. -/
def charBits (mstp : Bool) (parity : Nat) : Nat := if mstp && parity == 0 then 10 else 11

/-- R365: the bits of a data byte, least significant first, with the parity bit that the code asks for: 1 even, 2 odd. -/
def serialBits (parity v : Nat) : List Bool :=
  let d := (upTo 8).map (bit v)
  if parity = 0 then d else d ++ [(d.count true % 2 == 1) == (parity == 1)]

/-- R367: the inter-frame gap of a Modbus port in ns: 3.5 character times, or 1.75 ms above 19 200 baud. -/
def modbusGapNs (baud : Nat) : Nat := if 19200 < baud then 1750000 else 35 * 11 * 10 ^ 8 / baud

/-- R367: the inter-character limit of a Modbus port in ns: 1.5 character times, or 750 µs above 19 200 baud. -/
def modbusCharNs (baud : Nat) : Nat := if 19200 < baud then 750000 else 15 * 11 * 10 ^ 8 / baud

/-- R345, R365, R383: what an idle RS-485 pair reads: a mark where the port runs with its bias on, and nothing that the controller
determines otherwise. -/
def State.busIdle (s : State) (k : Nat) : Option Bool :=
  if s.rdAt Reg.BUS_STAT_STATE k ≠ 0 ∧ s.onAt Reg.BUS_CFG_BIAS k = true then some true else none

/-- R355, R383: the peak-to-peak transmit level of T1L in mV, none at high impedance. -/
def State.t1lLevel (s : State) : Option Nat :=
  if s.netOn && s.netEn 0 then some (if s.on Reg.NET_STAT_AMPL then 2400 else 1000) else none

/-- R388: byte `i` on HSDO in a frame whose request has `req` bytes and whose response follows `wait` wait bytes. -/
def hsdoByte (req wait : Nat) (resp : List Nat) (i : Nat) : Nat := if i < req + wait then 0xFF else resp.getD (i - (req + wait)) 0xFF

/-- R389: the bytes of an I²C read transaction of `n` bytes: the response pending, and 0xFF where there is none. -/
def State.i2cRead (s : State) (n : Nat) : List Nat := (upTo n).map (fun i => s.resp.getD i 0xFF)

end Sys2Proof.Machine
end

