-- ==== Sys2Proof/Machine/Tap.lean ====
section
/-! DEFINITION. The IEEE 1149.1 test port (R456): the TAP controller, IDCODE, BYPASS and the boundary scan register with SAMPLE, PRELOAD and
EXTEST. The spec gives no instruction codes, no lengths and no order of the boundary cells: log entry 19. -/

namespace Sys2Proof.Machine

/-- The TAP controller's next state at a rising edge of TCK. -/
def TapState.next (st : TapState) (tms : Bool) : TapState :=
  match st with
  | .reset => if tms then .reset else .idle
  | .idle => if tms then .selectDr else .idle
  | .selectDr => if tms then .selectIr else .captureDr
  | .captureDr => if tms then .exit1Dr else .shiftDr
  | .shiftDr => if tms then .exit1Dr else .shiftDr
  | .exit1Dr => if tms then .updateDr else .pauseDr
  | .pauseDr => if tms then .exit2Dr else .pauseDr
  | .exit2Dr => if tms then .updateDr else .shiftDr
  | .updateDr => if tms then .selectDr else .idle
  | .selectIr => if tms then .reset else .captureIr
  | .captureIr => if tms then .exit1Ir else .shiftIr
  | .shiftIr => if tms then .exit1Ir else .shiftIr
  | .exit1Ir => if tms then .updateIr else .pauseIr
  | .pauseIr => if tms then .exit2Ir else .pauseIr
  | .exit2Ir => if tms then .updateIr else .shiftIr
  | .updateIr => if tms then .selectDr else .idle

/-- A register of `w` bits shifted by one towards TDO, with TDI at the far end. -/
def shiftIn (w v : Nat) (tdi : Bool) : Nat := v / 2 + b2n tdi * 2 ^ (w - 1)

/-- The length of the instruction register. -/
def tapIrLen : Nat := Sys2Proof.Config.tapIrLess1 + 1

/-- The instruction in force is BYPASS, whose code is all ones. -/
def TapS.bypass (t : TapS) : Bool := !t.idcode && t.ir == 2 ^ tapIrLen - 1

/-- What the instruction in force does with the boundary scan register: 1 SAMPLE, 2 PRELOAD, 3 EXTEST, 0 nothing. -/
def TapS.kind (t : TapS) : Nat := if t.idcode || t.bypass then 0 else Sys2Proof.Config.tapKind t.ir % 4

/-- The length of the boundary scan register. -/
def bsrLen : Nat := Sys2Proof.Config.bsrLess1 + 1

/-- The signal on the ball of cell `k`; "" for a cell that belongs to none. -/
def bsrName (k : Nat) : String := (ballAt (Sys2Proof.Config.bsrBall k / 16) (Sys2Proof.Config.bsrBall k % 16 + 1)).getD ""

/-- The cell that drives a ball under EXTEST. -/
def bsrCell (name : String) : Option Nat := (upTo bsrLen).find? (fun k => Sys2Proof.Config.bsrDrives k && bsrName k == name)

/-- R456: the level at a digital ball: under EXTEST that of the cell that drives it, otherwise what the controller's logic gives it (none: not
determined by the controller). -/
def State.ballLevel (s : State) (name : String) : Option Bool :=
  match s.tap.kind, bsrCell name with
  | 3, some k => some (bit s.tap.bsr k)
  | _, _ => s.coreLevel name

/-- R456: what the boundary scan register captures: a driving cell takes the level that the logic gives its ball, any other the level at its
ball; a level that the controller does not determine is a bit of `free`. -/
def State.bsrCapture (s : State) (free : Nat) : Nat :=
  bitMap bsrLen (fun k =>
    ((if Sys2Proof.Config.bsrDrives k then s.coreLevel (bsrName k) else s.ballLevel (bsrName k)).getD (bit free k)))

/-- R456: the identification register: ID_PART in bits 27:12, bit 0 at 1. -/
def State.tapId (s : State) : Nat :=
  1 + Sys2Proof.Config.tapIdOther % 2 ^ 11 * 2 + s.otp.part % 2 ^ 16 * 2 ^ 12 + Sys2Proof.Config.tapIdOther / 2 ^ 11 % 16 * 2 ^ 28

/-- The length of the data register that the instruction in force selects. -/
def TapS.drLen (t : TapS) : Nat :=
  if t.idcode then 32 else if t.bypass then 1 else if t.kind ≠ 0 then bsrLen else Sys2Proof.Config.tapDrLess1 t.ir + 1

/-- What that register captures, with the boundary levels in `free` that the controller does not determine. -/
def State.tapCaptured (s : State) (free : Nat) : Nat :=
  if s.tap.idcode then s.tapId else if s.tap.bypass then 0
  else if s.tap.kind ≠ 0 then s.bsrCapture free else Sys2Proof.Config.tapCapture s.tap.ir % 2 ^ s.tap.drLen

/-- A rising edge: the present state acts, and the controller moves. -/
def State.tapRise (s : State) (tms tdi : Bool) (free : Nat) : TapS :=
  let t := s.tap
  let u := match t.st with
    | .captureIr => { t with irShift := (Sys2Proof.Config.tapIrCapture * 4 + 1) % 2 ^ tapIrLen }
    | .shiftIr => { t with irShift := shiftIn tapIrLen t.irShift tdi }
    | .captureDr => { t with drShift := s.tapCaptured free }
    | .shiftDr => { t with drShift := shiftIn t.drLen t.drShift tdi }
    | _ => t
  { u with st := t.st.next tms }

/-- A falling edge: TDO, the instruction in force and the latches of the boundary scan register change; SAMPLE writes no latch. -/
def TapS.fall (t : TapS) : TapS :=
  match t.st with
  | .shiftIr => { t with tdo := some (bit t.irShift 0) }
  | .shiftDr => { t with tdo := some (bit t.drShift 0) }
  | .updateIr => { t with tdo := none, ir := t.irShift, idcode := t.irShift == Sys2Proof.Config.tapIdcode % 2 ^ tapIrLen }
  | .updateDr => { t with tdo := none, bsr := if 2 ≤ t.kind then t.drShift else t.bsr }
  | .reset => { t with tdo := none, idcode := true }
  | _ => { t with tdo := none }

/-- TAP_TCK_EDGE, R456. The port has no power in BACKUP; every other reset but power-on leaves it alone. -/
def execTapTckEdge (rising tms tdi : Bool) (s : State) : Out :=
  if s.mode = mBackup then fin s
  else if rising = false then fin { s with tap := s.tap.fall }
  else
    let f := s.takeFree
    fin { f.2 with tap := s.tapRise tms tdi f.1 }

end Sys2Proof.Machine
end

