-- ==== Sys2Proof/Machine/Dispatch.lean ====
section
/-! DEFINITION. The meaning of each command: one arm per constructor, each one direct call. -/

namespace Sys2Proof.Machine

def exec (i : Instr) (s : State) : Host.Outcome State Fault Refusal :=
  match i with
  | .periodWheelTick => Sys2Proof.Machine.execPeriodWheelTick s
  | .coachEvaluation env => Sys2Proof.Machine.execCoachEvaluation env s
  | .laneTimeout lane env => Sys2Proof.Machine.execLaneTimeout lane env s
  | .laneSwapEntryTest pass => Sys2Proof.Machine.execLaneSwapEntryTest pass s
  | .supvLaneRestore => Sys2Proof.Machine.execSupvLaneRestore s
  | .laneRestoreRun passA passB passS => Sys2Proof.Machine.execLaneRestoreRun passA passB passS s
  | .watchdogExpiry => Sys2Proof.Machine.execWatchdogExpiry s
  | .supvWdtWrite timeout => Sys2Proof.Machine.execSupvWdtWrite timeout s
  | .supvRepair => Sys2Proof.Machine.execSupvRepair s
  | .supvRepairDone readable => Sys2Proof.Machine.execSupvRepairDone readable s
  | .scrubCarriage upsets => Sys2Proof.Machine.execScrubCarriage upsets s
  | .actuatorCommand flips => Sys2Proof.Machine.execActuatorCommand flips s
  | .actuatorCommandNack => Sys2Proof.Machine.execActuatorCommandNack s
  | .crossCheckRetry coach => Sys2Proof.Machine.execCrossCheckRetry coach s
  | .crossCheckResult coach => Sys2Proof.Machine.execCrossCheckResult coach s
  | .crossCheckAbandon coach => Sys2Proof.Machine.execCrossCheckAbandon coach s
  | .coachCmdOpen => Sys2Proof.Machine.execCoachCmdOpen s
  | .coachCmdClose => Sys2Proof.Machine.execCoachCmdClose s
  | .coachCmdManual => Sys2Proof.Machine.execCoachCmdManual s
  | .coachCmdShutter => Sys2Proof.Machine.execCoachCmdShutter s
  | .coachWindowWrite first data => Sys2Proof.Machine.execCoachWindowWrite first data s
  | .wheelLoRead => Sys2Proof.Machine.execWheelLoRead s
  | .auditWindow xtalEdges pllEdges => Sys2Proof.Machine.execAuditWindow xtalEdges pllEdges s
  | .pllLockLoss => Sys2Proof.Machine.execPllLockLoss s
  | .clockFallbackReturn => Sys2Proof.Machine.execClockFallbackReturn s
  | .auditOscFail => Sys2Proof.Machine.execAuditOscFail s
  | .coachBusRequest req beat write beats ask => Sys2Proof.Machine.execCoachBusRequest req beat write beats ask s
  | .arbitration pointer seatBad pendBad wait contAfter => Sys2Proof.Machine.execArbitration pointer seatBad pendBad wait contAfter s
  | .carriageEnd len => Sys2Proof.Machine.execCarriageEnd len s
  | .holdLong => Sys2Proof.Machine.execHoldLong s
  | .resourceRequest req held asked => Sys2Proof.Machine.execResourceRequest req held asked s
  | .arbSwapReq count => Sys2Proof.Machine.execArbSwapReq count s
  | .seatPlanSwap => Sys2Proof.Machine.execSeatPlanSwap s
  | .arbWmaxClr sel => Sys2Proof.Machine.execArbWmaxClr sel s
  | .scanEntryStart conv trimBad => Sys2Proof.Machine.execScanEntryStart conv trimBad s
  | .conversionResult conv code gapLong => Sys2Proof.Machine.execConversionResult conv code gapLong s
  | .converterStartUpDone conv => Sys2Proof.Machine.execConverterStartUpDone conv s
  | .sampleMoverEntry conv => Sys2Proof.Machine.execSampleMoverEntry conv s
  | .occHoldExpiry chan => Sys2Proof.Machine.execOccHoldExpiry chan s
  | .lrWindowEnd input => Sys2Proof.Machine.execLrWindowEnd input s
  | .uiComparatorEdge input high us => Sys2Proof.Machine.execUiComparatorEdge input high us s
  | .uiLogicStore us => Sys2Proof.Machine.execUiLogicStore us s
  | .uiSettingsWrite reg value => Sys2Proof.Machine.execUiSettingsWrite reg value s
  | .sensorPollStart entry => Sys2Proof.Machine.execSensorPollStart entry s
  | .sensorPollDone reply => Sys2Proof.Machine.execSensorPollDone reply s
  | .snsStretchTimeout => Sys2Proof.Machine.execSnsStretchTimeout s
  | .urgentRequest src input conv => Sys2Proof.Machine.execUrgentRequest src input conv s
  | .urgentConversionDone conv code gapLong => Sys2Proof.Machine.execUrgentConversionDone conv code gapLong s
  | .convUrgGo input conv => Sys2Proof.Machine.execConvUrgGo input conv s
  | .calReq mask => Sys2Proof.Machine.execCalReq mask s
  | .selfCalDue conv => Sys2Proof.Machine.execSelfCalDue conv s
  | .selfCalStart conv zero half => Sys2Proof.Machine.execSelfCalStart conv zero half s
  | .reliefHandover conv zero half => Sys2Proof.Machine.execReliefHandover conv zero half s
  | .calRunDone conv searches zero half => Sys2Proof.Machine.execCalRunDone conv searches zero half s
  | .calHandback conv => Sys2Proof.Machine.execCalHandback conv s
  | .healthCheckDone conv zero half => Sys2Proof.Machine.execHealthCheckDone conv zero half s
  | .converterStuck conv zero half => Sys2Proof.Machine.execConverterStuck conv zero half s
  | .refinLoss => Sys2Proof.Machine.execRefinLoss s
  | .refinRestore => Sys2Proof.Machine.execRefinRestore s
  | .calSysGo input point => Sys2Proof.Machine.execCalSysGo input point s
  | .calSysAbort => Sys2Proof.Machine.execCalSysAbort s
  | .calSysPointDone => Sys2Proof.Machine.execCalSysPointDone s
  | .fanCatchTimeout => Sys2Proof.Machine.execFanCatchTimeout s
  | .fanAlignOpenPhase => Sys2Proof.Machine.execFanAlignOpenPhase s
  | .fanAlignDone => Sys2Proof.Machine.execFanAlignDone s
  | .fanObserverConverged speed field dirOk => Sys2Proof.Machine.execFanObserverConverged speed field dirOk s
  | .fanRampTimeout => Sys2Proof.Machine.execFanRampTimeout s
  | .fanRetryWaitEnd => Sys2Proof.Machine.execFanRetryWaitEnd s
  | .fanStopDone => Sys2Proof.Machine.execFanStopDone s
  | .fanCoastEnd => Sys2Proof.Machine.execFanCoastEnd s
  | .fanStallWaitEnd chan => Sys2Proof.Machine.execFanStallWaitEnd chan s
  | .fanOvercurrent => Sys2Proof.Machine.execFanOvercurrent s
  | .fanVdrvLow => Sys2Proof.Machine.execFanVdrvLow s
  | .fanVdrvGood => Sys2Proof.Machine.execFanVdrvGood s
  | .fanBootstrapLow periods => Sys2Proof.Machine.execFanBootstrapLow periods s
  | .fanSyncLoss => Sys2Proof.Machine.execFanSyncLoss s
  | .fanUnlock mask => Sys2Proof.Machine.execFanUnlock mask s
  | .fanStallCntReset chan => Sys2Proof.Machine.execFanStallCntReset chan s
  | .fanTachEdge chan us => Sys2Proof.Machine.execFanTachEdge chan us s
  | .fanTachSpeedTimeout chan => Sys2Proof.Machine.execFanTachSpeedTimeout chan s
  | .fanSpeedStep chan => Sys2Proof.Machine.execFanSpeedStep chan s
  | .fanTstartTimeout chan => Sys2Proof.Machine.execFanTstartTimeout chan s
  | .fanKickEnd chan => Sys2Proof.Machine.execFanKickEnd chan s
  | .fanTachLost chan => Sys2Proof.Machine.execFanTachLost chan s
  | .fanAutoTableStep chan => Sys2Proof.Machine.execFanAutoTableStep chan s
  | .valvePulseGrid chan => Sys2Proof.Machine.execValvePulseGrid chan s
  | .valvePeakEnd chan => Sys2Proof.Machine.execValvePeakEnd chan s
  | .valveHoldEnd chan => Sys2Proof.Machine.execValveHoldEnd chan s
  | .valveCoilBandRead => Sys2Proof.Machine.execValveCoilBandRead s
  | .valveModeWrite value => Sys2Proof.Machine.execValveModeWrite value s
  | .valveOffTestStart hs => Sys2Proof.Machine.execValveOffTestStart hs s
  | .valveOffTestDone hs limit low1 high2 low2 => Sys2Proof.Machine.execValveOffTestDone hs limit low1 high2 low2 s
  | .vlvDiagNow mask => Sys2Proof.Machine.execVlvDiagNow mask s
  | .valveOpenLoadCheck chan current => Sys2Proof.Machine.execValveOpenLoadCheck chan current s
  | .valveLowSideOvercurrent chan => Sys2Proof.Machine.execValveLowSideOvercurrent chan s
  | .valveHighSideOvercurrent hs lowSum => Sys2Proof.Machine.execValveHighSideOvercurrent hs lowSum s
  | .valveHsOcRestart chan => Sys2Proof.Machine.execValveHsOcRestart chan s
  | .vlvClear mask => Sys2Proof.Machine.execVlvClear mask s
  | .vlvHsClear mask => Sys2Proof.Machine.execVlvHsClear mask s
  | .damperSchedTick => Sys2Proof.Machine.execDamperSchedTick s
  | .damperMoveDone damper => Sys2Proof.Machine.execDamperMoveDone damper s
  | .damperStall damper => Sys2Proof.Machine.execDamperStall damper s
  | .damperHomeFail damper => Sys2Proof.Machine.execDamperHomeFail damper s
  | .damperFeedbackCheck damper => Sys2Proof.Machine.execDamperFeedbackCheck damper s
  | .damperBridgeOvercurrent damper => Sys2Proof.Machine.execDamperBridgeOvercurrent damper s
  | .damperOpenWinding damper => Sys2Proof.Machine.execDamperOpenWinding damper s
  | .dmpHome mask => Sys2Proof.Machine.execDmpHome mask s
  | .dmpClear mask => Sys2Proof.Machine.execDmpClear mask s
  | .boOvercurrent out => Sys2Proof.Machine.execBoOvercurrent out s
  | .boOcRestart out => Sys2Proof.Machine.execBoOcRestart out s
  | .boMinTimeExpiry out => Sys2Proof.Machine.execBoMinTimeExpiry out s
  | .boOpenLoad out => Sys2Proof.Machine.execBoOpenLoad out s
  | .boClear mask => Sys2Proof.Machine.execBoClear mask s
  | .thermalSample sensor => Sys2Proof.Machine.execThermalSample sensor s
  | .thermalFastStep => Sys2Proof.Machine.execThermalFastStep s
  | .thermalNodata sensor => Sys2Proof.Machine.execThermalNodata sensor s
  | .thermalHoldEnd => Sys2Proof.Machine.execThermalHoldEnd s
  | .thermalPowerEstimate currents => Sys2Proof.Machine.execThermalPowerEstimate currents s
  | .thermReadmit mask => Sys2Proof.Machine.execThermReadmit mask s
  | .thermReadmitResult sensor => Sys2Proof.Machine.execThermReadmitResult sensor s
  | .rtcSecondTick bad => Sys2Proof.Machine.execRtcSecondTick bad s
  | .rtcCompSample temp => Sys2Proof.Machine.execRtcCompSample temp s
  | .rtcCompWindow => Sys2Proof.Machine.execRtcCompWindow s
  | .rtcOscStop => Sys2Proof.Machine.execRtcOscStop s
  | .rtcOscRestart => Sys2Proof.Machine.execRtcOscRestart s
  | .rtcSet => Sys2Proof.Machine.execRtcSet s
  | .rtcSetLoad sub => Sys2Proof.Machine.execRtcSetLoad sub s
  | .rtcSetWday => Sys2Proof.Machine.execRtcSetWday s
  | .rtcRearm => Sys2Proof.Machine.execRtcRearm s
  | .rtcShiftGo n hold => Sys2Proof.Machine.execRtcShiftGo n hold s
  | .rtcShiftApply sub => Sys2Proof.Machine.execRtcShiftApply sub s
  | .rtcTimeRead => Sys2Proof.Machine.execRtcTimeRead s
  | .backupSwitchVbat vbat => Sys2Proof.Machine.execBackupSwitchVbat vbat s
  | .backupSwitchMain => Sys2Proof.Machine.execBackupSwitchMain s
  | .vbatLow => Sys2Proof.Machine.execVbatLow s
  | .retentionLatchTrip => Sys2Proof.Machine.execRetentionLatchTrip s
  | .zoneForceWrite value => Sys2Proof.Machine.execZoneForceWrite value s
  | .bootResetRelease env => Sys2Proof.Machine.execBootResetRelease env s
  | .regionStageWrite first data => Sys2Proof.Machine.execRegionStageWrite first data s
  | .rgnStart => Sys2Proof.Machine.execRgnStart s
  | .rgnAbort => Sys2Proof.Machine.execRgnAbort s
  | .regionValidationDone memOk => Sys2Proof.Machine.execRegionValidationDone memOk s
  | .regionApply memOk => Sys2Proof.Machine.execRegionApply memOk s
  | .coachGroupWrite memOk => Sys2Proof.Machine.execCoachGroupWrite memOk s
  | .imgPersistOpen => Sys2Proof.Machine.execImgPersistOpen s
  | .imgPersistCommit => Sys2Proof.Machine.execImgPersistCommit s
  | .imgPersistAbort => Sys2Proof.Machine.execImgPersistAbort s
  | .persistOpenDone memOk => Sys2Proof.Machine.execPersistOpenDone memOk s
  | .persistCommitDone memOk => Sys2Proof.Machine.execPersistCommitDone memOk s
  | .powerOn below180 => Sys2Proof.Machine.execPowerOn below180 s
  | .brownOut => Sys2Proof.Machine.execBrownOut s
  | .earlyWarning => Sys2Proof.Machine.execEarlyWarning s
  | .earlyWarningClear => Sys2Proof.Machine.execEarlyWarningClear s
  | .vddaUv => Sys2Proof.Machine.execVddaUv s
  | .vddaUvClear => Sys2Proof.Machine.execVddaUvClear s
  | .vmFault ov => Sys2Proof.Machine.execVmFault ov s
  | .vmFaultClear ov => Sys2Proof.Machine.execVmFaultClear ov s
  | .resetNAssert => Sys2Proof.Machine.execResetNAssert s
  | .pwrModeNative => Sys2Proof.Machine.execPwrModeNative s
  | .pwrModeService => Sys2Proof.Machine.execPwrModeService s
  | .pwrModeStandby => Sys2Proof.Machine.execPwrModeStandby s
  | .pwrModeWake => Sys2Proof.Machine.execPwrModeWake s
  | .pwrRstSoft => Sys2Proof.Machine.execPwrRstSoft s
  | .pwrRstCold => Sys2Proof.Machine.execPwrRstCold s
  | .softResetResume => Sys2Proof.Machine.execSoftResetResume s
  | .linkUp partner24 eee sqi => Sys2Proof.Machine.execLinkUp partner24 eee sqi s
  | .linkDown => Sys2Proof.Machine.execLinkDown s
  | .netRelink => Sys2Proof.Machine.execNetRelink s
  | .netScRetry => Sys2Proof.Machine.execNetScRetry s
  | .ethFrameRx frame => Sys2Proof.Machine.execEthFrameRx frame s
  | .dhcpTimer tick => Sys2Proof.Machine.execDhcpTimer tick s
  | .ipConflict => Sys2Proof.Machine.execIpConflict s
  | .staticReprobe answered => Sys2Proof.Machine.execStaticReprobe answered s
  | .fdrTimer failed => Sys2Proof.Machine.execFdrTimer failed s
  | .scConnectAttempt primary failover => Sys2Proof.Machine.execScConnectAttempt primary failover s
  | .scConnectionLost => Sys2Proof.Machine.execScConnectionLost s
  | .scHeartbeatDue => Sys2Proof.Machine.execScHeartbeatDue s
  | .scKeyGeneration random => Sys2Proof.Machine.execScKeyGeneration random s
  | .mstpFrame bus frame => Sys2Proof.Machine.execMstpFrame bus frame s
  | .modbusReadHoldingRegisters bus addr start count => Sys2Proof.Machine.execModbusReadHoldingRegisters bus addr start count s
  | .modbusReadInputRegisters bus addr start count => Sys2Proof.Machine.execModbusReadInputRegisters bus addr start count s
  | .modbusWriteSingleRegister bus addr reg value => Sys2Proof.Machine.execModbusWriteSingleRegister bus addr reg value s
  | .modbusWriteMultipleRegisters bus addr start values => Sys2Proof.Machine.execModbusWriteMultipleRegisters bus addr start values s
  | .modbusReadDeviceIdentification bus addr => Sys2Proof.Machine.execModbusReadDeviceIdentification bus addr s
  | .modbusUnsupportedFunction bus addr function => Sys2Proof.Machine.execModbusUnsupportedFunction bus addr function s
  | .modbusClientPoll bus entry => Sys2Proof.Machine.execModbusClientPoll bus entry s
  | .modbusClientReply bus entry values => Sys2Proof.Machine.execModbusClientReply bus entry values s
  | .modbusClientTimeout bus entry => Sys2Proof.Machine.execModbusClientTimeout bus entry s
  | .bacnetReadProperty sender refs => Sys2Proof.Machine.execBacnetReadProperty sender refs s
  | .bacnetWriteProperty sender writes => Sys2Proof.Machine.execBacnetWriteProperty sender writes s
  | .bacnetSubscribeCov sender req => Sys2Proof.Machine.execBacnetSubscribeCov sender req s
  | .bacnetAcknowledgeAlarm sender obj dest => Sys2Proof.Machine.execBacnetAcknowledgeAlarm sender obj dest s
  | .bacnetGetEventInformation sender => Sys2Proof.Machine.execBacnetGetEventInformation sender s
  | .bacnetReadRange sender log first count => Sys2Proof.Machine.execBacnetReadRange sender log first count s
  | .bacnetWhoIs sender limits => Sys2Proof.Machine.execBacnetWhoIs sender limits s
  | .timeSynchronization utc time => Sys2Proof.Machine.execTimeSynchronization utc time s
  | .reinitializeDevice sender dest password => Sys2Proof.Machine.execReinitializeDevice sender dest password s
  | .deviceCommunicationControl sender mode timed password => Sys2Proof.Machine.execDeviceCommunicationControl sender mode timed password s
  | .atomicWriteFile sender file start data => Sys2Proof.Machine.execAtomicWriteFile sender file start data s
  | .bacnetUnrecognizedService sender => Sys2Proof.Machine.execBacnetUnrecognizedService sender s
  | .netSupervisionExpiry => Sys2Proof.Machine.execNetSupervisionExpiry s
  | .trendLogInterval log => Sys2Proof.Machine.execTrendLogInterval log s
  | .covSubscriptionExpiry who ref => Sys2Proof.Machine.execCovSubscriptionExpiry who ref s
  | .lyaleRead addr len crc => Sys2Proof.Machine.execLyaleRead addr len crc s
  | .lyaleWrite addr data crc => Sys2Proof.Machine.execLyaleWrite addr data crc s
  | .lyaleUnknownOpc opc addr len => Sys2Proof.Machine.execLyaleUnknownOpc opc addr len s
  | .hostFrameTruncated => Sys2Proof.Machine.execHostFrameTruncated s
  | .i2cResponseRead count => Sys2Proof.Machine.execI2cResponseRead count s
  | .evcSnapshot => Sys2Proof.Machine.execEvcSnapshot s
  | .evcClearAll => Sys2Proof.Machine.execEvcClearAll s
  | .doorFirstStep door arg => Sys2Proof.Machine.execDoorFirstStep door arg s
  | .doorSecondStep door arg => Sys2Proof.Machine.execDoorSecondStep door arg s
  | .doorClose door => Sys2Proof.Machine.execDoorClose door s
  | .doorStepTimeout => Sys2Proof.Machine.execDoorStepTimeout s
  | .doorTimeout door => Sys2Proof.Machine.execDoorTimeout door s
  | .hostHbWrite value => Sys2Proof.Machine.execHostHbWrite value s
  | .hbTimeoutWrite value => Sys2Proof.Machine.execHbTimeoutWrite value s
  | .heartbeatExpiry => Sys2Proof.Machine.execHeartbeatExpiry s
  | .hatchRead => Sys2Proof.Machine.execHatchRead s
  | .hatchProgram => Sys2Proof.Machine.execHatchProgram s
  | .hatchErase => Sys2Proof.Machine.execHatchErase s
  | .hatchOpDone outcome status => Sys2Proof.Machine.execHatchOpDone outcome status s
  | .evcCfgWrite value => Sys2Proof.Machine.execEvcCfgWrite value s
  | .otpProgHash => Sys2Proof.Machine.execOtpProgHash s
  | .otpProgSigned => Sys2Proof.Machine.execOtpProgSigned s
  | .otpProgDone ok => Sys2Proof.Machine.execOtpProgDone ok s
  | .panelLineSlot us sources gates bad => Sys2Proof.Machine.execPanelLineSlot us sources gates bad s
  | .panelFrameEnd us => Sys2Proof.Machine.execPanelFrameEnd us s
  | .composerFieldRedraw item waited => Sys2Proof.Machine.execComposerFieldRedraw item waited s
  | .composerPageDraw badItems => Sys2Proof.Machine.execComposerPageDraw badItems s
  | .panelSupplyGood supply => Sys2Proof.Machine.execPanelSupplyGood supply s
  | .panelStart => Sys2Proof.Machine.execPanelStart s
  | .panelSupplyFault supply => Sys2Proof.Machine.execPanelSupplyFault supply s
  | .dispOff => Sys2Proof.Machine.execDispOff s
  | .dispOn => Sys2Proof.Machine.execDispOn s
  | .panelDischargeDone => Sys2Proof.Machine.execPanelDischargeDone s
  | .iz30WriteTransaction bytes => Sys2Proof.Machine.execIz30WriteTransaction bytes s
  | .iz30ReadTransaction count => Sys2Proof.Machine.execIz30ReadTransaction count s
  | .izPairHighRead reg => Sys2Proof.Machine.execIzPairHighRead reg s
  | .izPairLowWrite reg value => Sys2Proof.Machine.execIzPairLowWrite reg value s
  | .izCmdReset => Sys2Proof.Machine.execIzCmdReset s
  | .izCmdSave => Sys2Proof.Machine.execIzCmdSave s
  | .iz30ReloadDone acks placed => Sys2Proof.Machine.execIz30ReloadDone acks placed s
  | .iz30AdcConversion => Sys2Proof.Machine.execIz30AdcConversion s
  | .izAdcDhRead => Sys2Proof.Machine.execIzAdcDhRead s
  | .izAdcDlRead => Sys2Proof.Machine.execIzAdcDlRead s
  | .izAdcCtrlWrite value => Sys2Proof.Machine.execIzAdcCtrlWrite value s
  | .izFaultClear mask => Sys2Proof.Machine.execIzFaultClear mask s
  | .iz30FanFail fan => Sys2Proof.Machine.execIz30FanFail fan s
  | .roomUnitPoll unit => Sys2Proof.Machine.execRoomUnitPoll unit s
  | .roomUnitReply unit bytes => Sys2Proof.Machine.execRoomUnitReply unit bytes s
  | .roomUnitTimeout unit => Sys2Proof.Machine.execRoomUnitTimeout unit s
  | .vbatLowClear => Sys2Proof.Machine.execVbatLowClear s
  | .auditOscReturn => Sys2Proof.Machine.execAuditOscReturn s
  | .dccDurationExpiry => Sys2Proof.Machine.execDccDurationExpiry s
  | .eventTimeDelayExpiry obj dest => Sys2Proof.Machine.execEventTimeDelayExpiry obj dest s
  | .mstpNoToken bus => Sys2Proof.Machine.execMstpNoToken bus s
  | .tapTckEdge rising tms tdi => Sys2Proof.Machine.execTapTckEdge rising tms tdi s
  | .damperPreemptStop damper pos => Sys2Proof.Machine.execDamperPreemptStop damper pos s

end Sys2Proof.Machine
end

