-- ==== Sys2Proof/WellFormed.lean ====
section
/-! DEFINITION. Which commands can be: the sender's frame has the sizes of R390 and R391, a request that is none of the table's is
none of it, a resource has one of the three ranks of R124. A command that fails the check completes as well (log entry 5). -/

namespace Sys2Proof

/-- The operands describe something the world outside can do. Every command that is not named takes any operands. -/
def Instr.wellFormed : Instr → Bool
  | .resourceRequest _ _ asked => decide (1 ≤ asked) && decide (asked ≤ 3)
  | .coachWindowWrite _ data => decide (data.length ≤ 255)
  | .regionStageWrite _ data => decide (data.length ≤ 255)
  | .lyaleRead addr len crc => decide (addr ≤ 0xFFFF) && decide (len ≤ 255) && decide (crc ≤ 255)
  | .lyaleWrite addr data crc => decide (addr ≤ 0xFFFF) && decide (data.length ≤ 255) && decide (crc ≤ 255)
  | .lyaleUnknownOpc opc addr len =>
    decide (opc.code ≤ 255) && decide (addr ≤ 0xFFFF) && decide (len ≤ 255) &&
      (Sys2Proof.Machine.unknownRequest opc.code addr len || !opc.crcOk && opc.code == 3)
  | .modbusUnsupportedFunction _ _ f => decide (f ≤ 127) && !Sys2Proof.Machine.mbKnown f
  | _ => true

end Sys2Proof
end

