-- ==== Sys2Proof/Safety.lean ====
section
/-! DEFINITION. What a safe run is: every command in the queue can be, so no step ends in a fault. Beside it the terms that
statements use: the canonical form of the state, and what two machines have in common. -/

namespace Sys2Proof

/-- Every command that waits is well formed. -/
def Machine.State.queueOk (s : Machine.State) : Bool := s.pending.all Instr.wellFormed

/-- A number of steps from a state runs without a fault or a refusal. -/
def Safe (n : Nat) (s : Machine.State) : Prop := ∃ t, Sys2Proof.core.run n s = .next t

/-- The canonical form of the state: the register store and the attached memories are sorted and list no resting byte, and the
blocks that come in a fixed number are all there. -/
def Machine.State.Canonical (s : Machine.State) : Prop :=
  Machine.Store.sorted s.regs ∧ Machine.Memory.wf s.flash = true ∧ Machine.Memory.wf s.eeprom = true ∧ s.evcs.length = 16 ∧
    s.convs.length = 3 ∧ s.cals.length = 3

/-- Two machines agree on every register field outside a list. -/
def Machine.State.sameBut (s : Machine.State) (l : List Machine.Fld) (t : Machine.State) : Prop :=
  ∀ f : Machine.Fld, f.id ∉ l.map Machine.Fld.id → ∀ ch : Nat, t.rdAt f ch = s.rdAt f ch

/-- No cause of INT_CAUSE (R403) is lost from one machine to the next. -/
def Machine.State.causesKept (s t : Machine.State) : Prop := ∀ n : Nat, Machine.bit s.intCause n = true → Machine.bit t.intCause n = true

/-- Two machines agree on the words of every coach, as last written, but for the pairs (coach, word) of a list. -/
def Machine.State.coachesBut (s : Machine.State) (l : List (Nat × Nat)) (t : Machine.State) : Prop :=
  ∀ c w : Nat, w < 64 → (c, w) ∉ l → t.cell c w = s.cell c w

/-- Every word of some coaches. -/
def allWords (l : List Nat) : List (Nat × Nat) := l.flatMap (fun c => (Machine.upTo 64).map (fun w => (c, w)))

/-- R46, R38: what the commit of the evaluation that is due first may write: the words R46 names of its coach, and the set-point word of a
coach it is bound to. -/
def Machine.State.dueWords (s : Machine.State) : List (Nat × Nat) :=
  match s.due with
  | [] => []
  | d :: _ => ((Machine.upTo 64).filter (fun w => decide (32 ≤ w) && w != 43)).map (fun w => (d.coach, w)) ++
      (((Machine.upTo 4).map (s.outBind d.coach)).filter (fun b => b.1 == 5)).map (fun b => (b.2, 8))

/-- R366: what a command leaves that sends one frame with the messages `l` on a port where frames wait or not: sent, or waiting for the
token behind those that wait already, to be counted by `code` when it goes. -/
def Machine.State.sends (s t : Machine.State) (waits : Bool) (l : List Machine.NetOut) (code : Option Nat) : Prop :=
  if waits = true then t.net.out = [] ∧ t.net.queue = s.net.queue ++ [(l, code)] else t.net.out = l ∧ t.net.queue = s.net.queue

/-- R366: the answer to a request of a port, one frame with the messages `l`. -/
def Machine.State.replies (s t : Machine.State) (port : Nat) (l : List Machine.NetOut) (code : Option Nat) : Prop :=
  s.sends t (s.putOff port) l code

/-- R373: the coach words that a list of BACnet writes names. -/
def loopWords (l : List BacWrite) : List (Nat × Nat) :=
  l.flatMap (fun w => match w.ref.obj with
    | .loop c => [8, 12, 13, 14, 18, 19, 44, 53].map (fun k => (c, k))
    | _ => [])

/-- Two machines agree on the attached flash outside `n` bytes from `a` on. -/
def Machine.State.flashBut (s : Machine.State) (a n : Nat) (t : Machine.State) : Prop :=
  ∀ x : Nat, x < a ∨ a + n ≤ x → Machine.Memory.read t.flash x = Machine.Memory.read s.flash x

/-- Two attached memories agree outside some spans, each given by its first byte and its length. -/
def memoryBut (m n : List Host.Cell) (l : List (Nat × Nat)) : Prop :=
  ∀ x : Nat, (∀ r ∈ l, x < r.1 ∨ r.1 + r.2 ≤ x) → Machine.Memory.read n x = Machine.Memory.read m x

/-- R400: the bytes that the hatch operation under way programs or erases. -/
def Machine.State.hatchSpan (s : Machine.State) : Nat × Nat :=
  (s.hatch.addr, if s.hatch.op = 2 then 4 * s.hatch.words.length else if s.hatch.op = 3 then 4096 else 0)

/-- R326: the bytes that the persist under way erases or programs: the target's first sector, or its header. -/
def Machine.State.persistSpan (s : Machine.State) : Nat × Nat :=
  (Machine.copyBase (s.rd Machine.Reg.IMG_PERSIST_TARGET),
   if s.rd Machine.Reg.IMG_PERSIST_STATE = 0 then 0 else if 4 ≤ s.rd Machine.Reg.IMG_PERSIST_STATE then 32 else 4096)

/-- A frame of `n` words at `a` reaches a register from `lo` to `hi`. -/
def frameTouches (a n lo hi : Nat) : Bool := decide (a ≤ hi) && decide (lo < a + n)

/-- R318: RGN_OFS as a frame of `data` at `a` leaves it for the words behind it. -/
def Machine.State.frameOfs (s : Machine.State) (a : Nat) (data : List Nat) : Nat :=
  if a ≤ 0x002D then (match data.drop (0x002D - a) with | v :: _ => v % 8192 | [] => s.rd Machine.Reg.RGN_OFS_OFS)
  else s.rd Machine.Reg.RGN_OFS_OFS

/-- Two machines agree on the staging buffer outside `n` words from `a` on. -/
def Machine.State.stageBut (s : Machine.State) (a n : Nat) (t : Machine.State) : Prop :=
  ∀ k : Nat, k < a ∨ a + n ≤ k → t.rdAt Machine.Hid.stage k = s.rdAt Machine.Hid.stage k

/-- Two machines agree on every register field that a given kind of change leaves, outside a list. -/
def Machine.State.sameWhere (s : Machine.State) (p : Machine.Fld → Bool) (l : List Machine.Fld) (t : Machine.State) : Prop :=
  ∀ f : Machine.Fld, p f = true → f.id ∉ l.map Machine.Fld.id → ∀ ch : Nat, t.rdAt f ch = s.rdAt f ch

/-- R303, R313: the header of the copy that begins at `base` is eligible: MAGIC, FORMAT and LENGTH are correct. -/
def eligible (m : List Host.Cell) (base : Nat) : Bool :=
  Machine.Memory.word m base == 0x4B5A4931 && Machine.Memory.word m (base + 4) == 0x00000100 &&
    decide (10 ≤ Machine.Memory.word m (base + 12)) && decide (Machine.Memory.word m (base + 12) ≤ 131072)

/-- The time of day: RTC_TIME's hour, minute and second. -/
def Machine.State.clock (s : Machine.State) : Nat × Nat × Nat :=
  (s.rd Machine.Reg.RTC_TIME_HOUR, s.rd Machine.Reg.RTC_TIME_MIN, s.rd Machine.Reg.RTC_TIME_SEC)

/-- The date: RTC_DATE's year, month and day. -/
def Machine.State.date (s : Machine.State) : Nat × Nat × Nat :=
  (s.rd Machine.Reg.RTC_DATE_YEAR, s.rd Machine.Reg.RTC_DATE_MONTH, s.rd Machine.Reg.RTC_DATE_DAY)

/-- R273: the days of a month of the Gregorian calendar from 2000 to 2199, `y` the year less 2000. -/
def monthDays (y m : Nat) : Nat :=
  if m = 2 then (if y % 4 = 0 ∧ y ≠ 100 then 29 else 28) else if m = 4 ∨ m = 6 ∨ m = 9 ∨ m = 11 then 30 else 31

/-- R274: midnight between two states: the time is 0:00:00 and the weekday counts from 0 to 6 and round. -/
def Machine.State.midnight (s t : Machine.State) : Prop :=
  t.clock = (0, 0, 0) ∧ t.rd Machine.Reg.RTC_DATE_WDAY =
    if s.rd Machine.Reg.RTC_DATE_WDAY < 6 then s.rd Machine.Reg.RTC_DATE_WDAY + 1 else 0

/-- R305, R319: the registers that the change of a region update may write. -/
def regionReg (t a : Nat) : Bool :=
  if t = 12 then decide (0x5000 ≤ a) && decide (a ≤ 0x5007) else if t = 13 then decide (0x4000 ≤ a) && decide (a < 0x4800)
  else Machine.typeAddr t a && Machine.regionAddr t a

end Sys2Proof
end

