-- ==== Sys2Proof/Certificates/Slice0/Obligations.lean ====
section
/-! DEFINITION. The statements for the provers. Each docstring says what its statement claims and names the rules it rests on;
a statement about one command holds for every state and every operand that meets the hypotheses it names. -/

open Sys2Proof Sys2Proof.Machine

/-- For every command c and state s whose queue is c followed by a rest, a step of s is exec of c on s with the queue's rest; with
an empty queue the block idles (the model's choice, log entry 1). (Rests on ISA section 00_scope) -/
def Obligations.StepRunsFrontCommand : Prop :=
  (∀ (c : Instr) (rest : List Instr) (s : State), s.pending = c :: rest → step s = exec c { s with pending := rest }) ∧
  (∀ s : State, s.pending = [] → step s = .next s)

/-- Outside boot resets and BOOT, PERIOD_WHEEL_TICK answers a next state whose tick is one more (48 bits) where ticks already run,
and 0 for the first tick; in a soft reset's hold it only counts the tick that is held. SOFT_RESET_RESUME ends the hold, and where
ticks already run it delivers those that were held, each of which raises the tick by one. (Rests on R47, R347) -/
def Obligations.WheelTickAdvances : Prop :=
  (∀ s : State, s.alive = true → s.mode ≠ mBoot → s.on Hid.softHold = false → s.on Hid.tickRun = true →
    ∃ t, exec .periodWheelTick s = .next t ∧ t.tick = (s.tick + 1) % 2 ^ 48) ∧
  (∀ s : State, s.alive = true → s.mode ≠ mBoot → s.on Hid.softHold = false → s.on Hid.tickRun = false →
    ∃ t, exec .periodWheelTick s = .next t ∧ t.tick = 0 ∧ t.on Hid.tickRun = true) ∧
  (∀ s : State, s.alive = true → s.mode ≠ mBoot → s.on Hid.softHold = true →
    ∃ t, exec .periodWheelTick s = .next t ∧ t.regs = (s.wr Hid.heldTicks (s.rd Hid.heldTicks + 1)).regs) ∧
  (∀ s : State, s.on Hid.softHold = true → ∃ t, exec .softResetResume s = .next t ∧ t.on Hid.softHold = false) ∧
  (∀ (s : State) (n : Nat), s.on Hid.softHold = true → s.on Hid.tickRun = true → s.rd Hid.heldTicks = n + 1 →
    ∃ t, exec .softResetResume s = .next t ∧ t.tick = (s.tick + (n + 1)) % 2 ^ 48)

/-- With the engine running in a native mode, COACH_EVALUATION whose two lanes agree takes the coach at the head of the queue and
commits it: the queue loses its head and LAST_TICK (word 63) holds the tick the coach fell due at. LANE_TIMEOUT of the lane in
position k answers the same next state as an evaluation in which run k disagrees. (Rests on R50, R83, R89, R46) -/
def Obligations.EvaluationCommits : Prop :=
  (∀ (s : State) (env : EvalEnv) (d : Due) (rest : List Due), s.due = d :: rest → s.on Reg.SUPV_LANE_SWAP_BUSY = false →
    s.on Reg.SUPV_LANE_STOPPED = false → s.on Hid.softHold = false → s.native = true → s.alive = true →
    stEn (s.cw d.coach 44) = true → env.upsets = [] → good env 0 = true → good env 1 = true →
    ∃ t, exec (.coachEvaluation env) s = .next t ∧ t.due = rest ∧ t.cw d.coach 63 = d.tick % 2 ^ 32) ∧
  (∀ (s : State) (env : EvalEnv) (lane : Fin 3) (k : Nat), s.lanePos lane.val = some k →
    ∃ t, exec (.laneTimeout lane env) s = .next t ∧
      exec (.coachEvaluation { env with
        runs := setAt (env.runs ++ List.replicate (k + 1 - env.runs.length) .good) k (.bad 127) }) s = .next t)

/-- LANE_SWAP_ENTRY_TEST with a pass gives the spare the free position, the lead's or the follow's, and leaves no spare; with a
failure it retires the spare too and goes on degraded with the lane in the other position. While a RESTORE waits and no spare is
being tested, LANE_RESTORE_RUN takes the passing lanes out of RETIRED, ends the command with SWAP_BUSY 0 and says in RESULT whether
any passed. SCRUB_CARRIAGE below the last carriage of a pass moves the scrubber on by eight words, and at the last one back to 0.
CROSS_CHECK_RETRY marks the coach's unserved cross-check as issued; CROSS_CHECK_ABANDON takes an unserved one off the list and sets
XCHK_SKIP; CROSS_CHECK_RESULT takes a served one off the list, and records its coach and input where it disagrees by more than
WIN_WIDTH allows. (Rests on R92, R93, R99, R87, R101) -/
def Obligations.LanesAndChecks : Prop :=
  (∀ s : State, s.alive = true → s.rd Hid.swapPos = 1 →
    ∃ t, exec (.laneSwapEntryTest true) s = .next t ∧ t.rd Reg.SUPV_LANE_LEAD = s.rd Reg.SUPV_LANE_SPARE % 4 ∧
      t.rd Reg.SUPV_LANE_FOLLOW = s.rd Reg.SUPV_LANE_FOLLOW ∧ t.rd Reg.SUPV_LANE_SPARE = 3 ∧ t.rd Reg.SUPV_LANE_SWAP_BUSY = 0 ∧
      t.rd Reg.SUPV_LANE_RETIRED = s.rd Reg.SUPV_LANE_RETIRED) ∧
  (∀ s : State, s.alive = true → s.rd Hid.swapPos = 2 →
    ∃ t, exec (.laneSwapEntryTest true) s = .next t ∧ t.rd Reg.SUPV_LANE_FOLLOW = s.rd Reg.SUPV_LANE_SPARE % 4 ∧
      t.rd Reg.SUPV_LANE_LEAD = s.rd Reg.SUPV_LANE_LEAD ∧ t.rd Reg.SUPV_LANE_SPARE = 3 ∧ t.rd Reg.SUPV_LANE_SWAP_BUSY = 0 ∧
      t.rd Reg.SUPV_LANE_RETIRED = s.rd Reg.SUPV_LANE_RETIRED) ∧
  (∀ s : State, s.alive = true → s.rd Hid.swapPos = 1 →
    ∃ t, exec (.laneSwapEntryTest false) s = .next t ∧ t.rd Reg.SUPV_LANE_LEAD = s.rd Reg.SUPV_LANE_FOLLOW % 4 ∧
      t.rd Reg.SUPV_LANE_FOLLOW = 3 ∧ t.rd Reg.SUPV_LANE_SPARE = 3 ∧ t.rd Reg.SUPV_LANE_DEGRADED = 1 ∧
      t.rd Reg.SUPV_LANE_SWAP_BUSY = 0 ∧ (∀ l : Nat, l < 3 → bit (t.rd Reg.SUPV_LANE_RETIRED) l =
        (bit (s.rd Reg.SUPV_LANE_RETIRED) l || s.rd Reg.SUPV_LANE_SPARE == l)) ∧ bit t.intCause 1 = true) ∧
  (∀ s : State, s.alive = true → s.rd Hid.swapPos = 2 →
    ∃ t, exec (.laneSwapEntryTest false) s = .next t ∧ t.rd Reg.SUPV_LANE_LEAD = s.rd Reg.SUPV_LANE_LEAD % 4 ∧
      t.rd Reg.SUPV_LANE_FOLLOW = 3 ∧ t.rd Reg.SUPV_LANE_SPARE = 3 ∧ t.rd Reg.SUPV_LANE_DEGRADED = 1 ∧
      t.rd Reg.SUPV_LANE_SWAP_BUSY = 0 ∧ (∀ l : Nat, l < 3 → bit (t.rd Reg.SUPV_LANE_RETIRED) l =
        (bit (s.rd Reg.SUPV_LANE_RETIRED) l || s.rd Reg.SUPV_LANE_SPARE == l)) ∧ bit t.intCause 1 = true) ∧
  (∀ (s : State) (a b c : Bool), s.alive = true → s.rd Reg.SUPV_LANE_CMD_CMD = 1 → s.rd Hid.swapPos = 0 →
    ∃ t, exec (.laneRestoreRun a b c) s = .next t ∧ t.rd Reg.SUPV_LANE_CMD_CMD = 0 ∧ t.rd Reg.SUPV_LANE_SWAP_BUSY = 0 ∧
      t.rd Reg.SUPV_LANE_CMD_RESULT =
        (if (upTo 3).any (fun l => bit (s.rd Reg.SUPV_LANE_RETIRED) l && [a, b, c].getD l false) then 1 else 2) ∧
      (∀ l : Nat, l < 3 → bit (t.rd Reg.SUPV_LANE_RETIRED) l = (bit (s.rd Reg.SUPV_LANE_RETIRED) l && !([a, b, c].getD l false)))) ∧
  (∀ (s : State) (u : List (Nat × Nat)), s.operating = true → s.alive = true →
    ∃ t, exec (.scrubCarriage u) s = .next t ∧
      t.rd Reg.SUPV_SCRUB_POS = if s.rd Reg.SUPV_SCRUB_POS + 8 < 10240 then s.rd Reg.SUPV_SCRUB_POS + 8 else 0) ∧
  (∀ (s : State) (c : Fin 160) (x : XChk), s.xchks = [x] → x.coach = c.val → x.issued = false → s.urgBusy .supv = true →
    ∃ t, exec (.crossCheckRetry c) s = .next t ∧ t.xchks = [{ x with issued := true }] ∧
      t.urgMore = s.urgMore ++ [⟨.supv, x.input, x.conv⟩]) ∧
  (∀ (s : State) (c : Fin 160) (x : XChk), s.xchks = [x] → x.coach = c.val → x.raw = none →
    ∃ t, exec (.crossCheckAbandon c) s = .next t ∧ t.xchks = [] ∧ t.rd Reg.SUPV_STAT_XCHK_SKIP = 1) ∧
  (∀ (s : State) (c : Fin 160) (x : XChk) (r : Int), s.xchks = [x] → x.coach = c.val → x.raw = some r →
    ∃ t, exec (.crossCheckResult c) s = .next t ∧ t.xchks = [] ∧
      (s.cq c.val 30 < 2 * (unitQ x.unit (ofI 16 (s.settleValue (s.natural x.input (s.inSet x.input (s.conv x.conv).untraced) r)).1) -
          unitQ x.unit (s.rdAt Reg.UI_VALUE_VALUE x.input)).natAbs →
        t.rd Reg.SUPV_STAT_XCHK_DIS = 1 ∧ t.rd Reg.SUPV_XCHK_COACH = c.val ∧ t.rd Reg.SUPV_XCHK_INPUT = x.input % 64))

/-- COACH_BUS_REQUEST of a requester that may ask, whose beats all lie in the memories of R112, puts its request with its word
enables among those that wait where it has none yet, no longer than its longest legal carriage, parked while the bus is held outside
an arbitration cycle (the operands' form and the beat numbers modulo 0x2000 are log entry 65); of the bus's owner it is refused with
ORDER; where a beat lies in no memory nothing happens (log entry 65). ARBITRATION with one request waiting, an idle bus and no
continuation makes it the owner whatever the seat. HOLD_LONG records the owner once per carriage and raises ARB: a second one of the
same carriage changes no register. CARRIAGE_END gives the bus to a winner that waits, and leaves it idle otherwise. SEAT_PLAN_SWAP
with a swap pending copies all 64 shadow seats into the active plan with the shadow count, puts the pointer to 0 and ends the
request. RESOURCE_REQUEST for a resource no higher than one held, the coach bus counted where the requester owns it, sets ORDER,
records requester, ranks held and rank asked and raises ARB; in rank order, or with a rank that no resource has (log entry 5), it
leaves the machine as it is but for what its event counters count; the resources held come as an operand (log entry 65). (Rests on
R113, R114, R115, R116, R122, R123, R124, R126) -/
def Obligations.SeatsAndArbitration : Prop :=
  (∀ (s : State) (req : Fin 15) (beat beats : Nat) (write : Bool) (ask : Ask), s.mayAsk req.val = true → s.ownsBus req.val = false →
    inMemory ⟨beat, write, min beats (legalBeats req.val), []⟩ = true →
    (∀ r ∈ s.arb.pend, reqOf r.id ≠ reqOf req.val) → (∀ r, s.arb.winner = some r → reqOf r.id ≠ reqOf req.val) →
    ∃ t, exec (.coachBusRequest req beat write beats ask) s = .next t ∧ t.arb.pend = s.arb.pend ++
      [⟨req.val, beat % 0x2000, write, min beats (legalBeats req.val), ask.cont,
        (s.arb.running.isSome && !ask.last) || s.arb.winner.isSome, if write then ask.enables.map (fun e => e % 4) else []⟩]) ∧
  (∀ (s : State) (req : Fin 15) (beat beats : Nat) (write : Bool) (ask : Ask),
    inMemory ⟨beat, write, min beats (legalBeats req.val), []⟩ = false →
    ∃ t, exec (.coachBusRequest req beat write beats ask) s = .next t ∧ t.arb = s.arb ∧ t.regs = s.regs) ∧
  (∀ (s : State) (req : Fin 15) (beat beats : Nat) (write : Bool) (ask : Ask), s.mayAsk req.val = true → s.ownsBus req.val = true →
    inMemory ⟨beat, write, min beats (legalBeats req.val), []⟩ = true →
    ∃ t, exec (.coachBusRequest req beat write beats ask) s = .next t ∧ t.arb.pend = s.arb.pend ∧ t.rd Reg.ARB_FLAGS_ORDER = 1 ∧
      t.rd Reg.ARB_ORDER_LOG_REQ = req.val ∧ bit t.intCause 2 = true) ∧
  (∀ (s : State) (r : BusReq) (pointer wait : Nat) (seatBad : Bool), s.arb.pend = [r] → s.arb.passed = [] → s.arb.winner = none →
    s.arb.running = none → r.id < 15 → r.cont = false → s.on Reg.CLK_STAT_FALLBACK = false →
    ∃ t, exec (.arbitration pointer seatBad [] wait none) s = .next t ∧ t.arb.running = some r ∧ t.arb.pend = [] ∧
      t.rd Reg.ARB_STATUS_OWNER = r.id ∧ t.rd Reg.ARB_STATUS_BUSY = 1) ∧
  (∀ (s : State) (r : BusReq), s.arb.running = some r → s.arb.held = false → s.rd Reg.ARB_HOLD_HOLD_LIMIT ≠ 0 →
    ∃ t, exec .holdLong s = .next t ∧ t.rd Reg.ARB_FLAGS_HOLD_LONG = 1 ∧
      t.rd Reg.ARB_HOLD_LOG_REQ = s.rd Reg.ARB_STATUS_OWNER % 16 ∧ bit t.intCause 2 = true ∧ t.arb.held = true) ∧
  (∀ s : State, s.arb.held = true → ∃ t, exec .holdLong s = .next t ∧ t.regs = s.regs ∧ t.arb = s.arb) ∧
  (∀ (s : State) (r w : BusReq) (len : Nat), s.arb.running = some r → s.arb.winner = some w →
    ∃ t, exec (.carriageEnd len) s = .next t ∧ t.arb.running = some w ∧ t.arb.winner = none ∧ t.rd Reg.ARB_STATUS_OWNER = w.id % 16) ∧
  (∀ (s : State) (r : BusReq) (len : Nat), s.arb.running = some r → s.arb.winner = none →
    ∃ t, exec (.carriageEnd len) s = .next t ∧ t.arb.running = none ∧ t.rd Reg.ARB_STATUS_BUSY = 0) ∧
  (∀ s : State, s.on Reg.ARB_STATUS_SWAP_PEND = true →
    ∃ t, exec .seatPlanSwap s = .next t ∧ (∀ k : Nat, k < 16 → t.rdAt Reg.ARB_ACT_SEATS k = s.rdAt Reg.ARB_SHD_SEATS k % 2 ^ 32) ∧
      t.rd Reg.ARB_STATUS_SEAT_COUNT = s.rd Reg.ARB_SWAP_SHADOW_COUNT % 128 ∧ t.rd Reg.ARB_STATUS_POINTER = 0 ∧
      t.rd Reg.ARB_STATUS_SWAP_PEND = 0 ∧ t.rd Reg.ARB_SWAP_REQ = 0) ∧
  (∀ (s : State) (req : Fin 15) (held asked : Nat), 1 ≤ asked → asked ≤ 3 →
    orderRefused (held % 8 ||| b2n (s.ownsBus req.val)) asked = true →
    ∃ t, exec (.resourceRequest req held asked) s = .next t ∧ t.rd Reg.ARB_FLAGS_ORDER = 1 ∧ t.rd Reg.ARB_ORDER_LOG_REQ = req.val ∧
      t.rd Reg.ARB_ORDER_LOG_HELD = held % 8 ||| b2n (s.ownsBus req.val) ∧ t.rd Reg.ARB_ORDER_LOG_ASKED = asked ∧ bit t.intCause 2 = true) ∧
  (∀ (s : State) (req : Fin 15) (held asked : Nat),
    (asked = 0 ∨ 3 < asked ∨ orderRefused (held % 8 ||| b2n (s.ownsBus req.val)) asked = false) →
    ∃ t, exec (.resourceRequest req held asked) s = .next t ∧
      t = { s with free := t.free, intCause := t.intCause, evcs := t.evcs, evcWrap := t.evcWrap })

/-- SCAN_ENTRY_START on an idle ready converter starts the next due entry under the settings in force and moves the walk on.
CONVERSION_RESULT puts the clamped code into CONV_DATA and ends the entry after its last conversion. SAMPLE_MOVER_ENTRY of a
complete entry writes its average, rounded to nearest, to UI_RAW. CONVERTER_START_UP_DONE makes a starting converter ready.
URGENT_REQUEST by the host for a named converter that is ready and idle makes its conversion the running one. URGENT_CONVERSION_DONE
of the host's conversion sets DONE and shows the raw code and the converter. (Rests on R148, R149, R150, R151, R152, R158, R160,
R161) -/
def Obligations.ScansAndUrgentConversions : Prop :=
  (∀ (s : State) (conv : Fin 3) (i : Nat), s.convs.length = 3 → (s.conv conv.val).phase = .ready → (s.conv conv.val).entry = none →
    (s.conv conv.val).urg = none → s.alive = true → s.mode ≠ mBoot → s.calibrating conv.val = false → s.nextDue conv.val = some i →
    ∃ t, exec (.scanEntryStart conv false) s = .next t ∧ (t.conv conv.val).pos = (i + 1) % 64 ∧
      (t.conv conv.val).entry = some ⟨i, osrOf (s.rdAt Reg.UI_FILT_OSR i), 0, s.rdAt Reg.UI_STAT_SETTLE_LEFT i != 0,
        s.inSet i (s.conv conv.val).untraced, (s.conv conv.val).seq + 1⟩) ∧
  (∀ (s : State) (conv : Fin 3) (e : Entry) (code : Int) (gapLong : Bool), s.convs.length = 3 → (s.conv conv.val).entry = some e →
    (s.conv conv.val).phase = .ready → (s.conv conv.val).urg = none → s.alive = true → s.on Hid.softHold = false →
    ∃ t, exec (.conversionResult conv code gapLong) s = .next t ∧
      (t.conv conv.val).entry = (if e.k + 1 = e.osr then none else some { e with k := e.k + 1 }) ∧
      t.rdAt Reg.CONV_DATA_VALUE conv.val = ofI 16 (sat16 code) ∧ t.rdAt Reg.CONV_DATA_INPUT conv.val = e.input % 64) ∧
  (∀ (s : State) (conv : Fin 3) (r : Raw) (rest : List Raw) (a : Accu), (s.conv conv.val).buf = r :: rest →
    Accu.take (s.conv conv.val).accu r = some a → a.got = a.osr →
    ∃ t, exec (.sampleMoverEntry conv) s = .next t ∧ t.rdAt Reg.UI_RAW_RAW a.input = ofI 16 (rndUp a.sum a.osr)) ∧
  (∀ (s : State) (conv : Fin 3), s.convs.length = 3 → (s.conv conv.val).phase = .starting →
    ∃ t, exec (.converterStartUpDone conv) s = .next t ∧ (t.conv conv.val).phase = .ready) ∧
  (∀ (s : State) (input : Fin 64) (conv : Fin 3), s.convs.length = 3 → s.alive = true → s.mode ≠ mBoot →
    s.servedBy .host conv.val = conv.val → (s.conv conv.val).phase = .ready → (s.conv conv.val).entry = none →
    (s.conv conv.val).urg = none → s.calibrating conv.val = false →
    ∃ t, exec (.urgentRequest .host input (some conv)) s = .next t ∧
      (t.conv conv.val).urg = some ⟨.host, input.val, conv.val⟩) ∧
  (∀ (s : State) (conv : Fin 3) (u : Urg) (code : Int) (gapLong : Bool), (s.conv conv.val).urg = some u → u.src = .host →
    ∃ t, exec (.urgentConversionDone conv code gapLong) s = .next t ∧ t.rd Reg.CONV_URG_DONE = 1 ∧
      t.rd Reg.CONV_URG_RES_RAW = ofI 16 (sat16 code) ∧ t.rd Reg.CONV_URG_BY = u.conv % 4)

/-- OCC_HOLD_EXPIRY of an enabled channel leaves it occupied only while HOLD has not passed since its last detection or it detects.
LR_WINDOW_END starts the next window of an input whose scan entries are averaged from nothing. UI_COMPARATOR_EDGE on a CONTACT input
records the contact, closed by a falling edge; on a pulse-totalising input an edge that rises in the sense INV gives at that edge
adds one (log entry 66); an edge comes filtered by the debounce (log entry 10). UI_LOGIC_STORE stores the contact of every CONTACT
input that has no settling left, inverted where INV is set, with AGE 0 and VALID. SENSOR_POLL_START of the lowest entry due (as log
entry 66 has it) begins its transaction and occupies the master. SENSOR_POLL_DONE with data of a format without CRC stores the
scaled value as VALID with no failures (that it is held to -32,768 to 65,535 before it takes 16 bits is the model's choice, log
entry 11); with a NACK it sets the flag and counts the failure; SNS_STRETCH_TIMEOUT sets STRETCH and counts the failure. Each frees
the master. (Rests on R141, R152, R154, R138, R157, R143, R144, R145) -/
def Obligations.OccupancyComparatorsSensors : Prop :=
  (∀ (s : State) (n : Fin 4), s.alive = true → s.mode ≠ mSafe → s.mode ≠ mIz30 → s.rdAt Reg.OCC_CFG_PERSIST n.val ≠ 0 →
    ∃ t, exec (.occHoldExpiry n) s = .next t ∧
      bit (t.rd Reg.OCC_STAT_CH_OCC) n.val = (decide (s.tick + 1 - s.rdAt Hid.occLast n.val < s.rdAt Reg.OCC_TIME_HOLD n.val * 1000) ||
        bit (s.rd Reg.OCC_STAT_DET) n.val)) ∧
  (∀ (s : State) (i : Fin 64), s.alive = true → (s.inForce i.val).lr ≠ 0 →
    ∃ t, exec (.lrWindowEnd i) s = .next t ∧ t.rdAt Hid.winSum i.val = 0 ∧ t.rdAt Hid.winCnt i.val = 0) ∧
  (∀ (s : State) (i : Fin 40) (high : Bool) (us : Nat), s.operating = true → s.rdAt Reg.UI_CFG_MODE i.val = 7 →
    ∃ t, exec (.uiComparatorEdge i high us) s = .next t ∧ t.rdAt Hid.contact i.val = b2n (!high)) ∧
  (∀ (s : State) (i : Fin 40) (high : Bool) (us : Nat), s.operating = true → s.rdAt Reg.UI_CFG_MODE i.val = 8 →
    (s.pulse i.val).level ≠ high →
    ∃ t, exec (.uiComparatorEdge i high us) s = .next t ∧ (t.pulse i.val).level = high ∧
      t.rdAt Reg.UI_PULSE_COUNT i.val = (if high = s.onAt Reg.UI_CFG_INV i.val then s.rdAt Reg.UI_PULSE_COUNT i.val
        else (s.rdAt Reg.UI_PULSE_COUNT i.val + 1) % 2 ^ 32)) ∧
  (∀ (s : State) (i : Fin 40) (us : Nat), s.operating = true → s.rdAt Reg.UI_CFG_MODE i.val = 7 →
    s.rdAt Reg.UI_STAT_SETTLE_LEFT i.val = 0 →
    ∃ t, exec (.uiLogicStore us) s = .next t ∧ t.rdAt Reg.UI_VALUE_VALUE i.val = b2n (s.onAt Hid.contact i.val != s.onAt Reg.UI_CFG_INV i.val) ∧
      t.rdAt Reg.UI_VALUE_VALID i.val = 1 ∧ t.rdAt Reg.UI_AGE_AGE i.val = 0) ∧
  (∀ (s : State) (n : Fin 32), s.polling = true → s.pollNext = some n.val → s.on Reg.SNS_STAT_BUSY = false →
    ∃ t, exec (.sensorPollStart n) s = .next t ∧ t.rd Reg.SNS_STAT_BUSY = 1 ∧ t.rd Reg.SNS_STAT_ENTRY = n.val ∧
      t.snsTx = s.pollTx n.val ∧ t.rdAt Hid.snsDue n.val = 0) ∧
  (∀ (s : State) (hi lo crc : Nat), s.on Reg.SNS_STAT_BUSY = true → s.alive = true →
    s.rdAt Reg.SNS_ENT_FMT (s.rd Reg.SNS_STAT_ENTRY) < 2 →
    ∃ t, exec (.sensorPollDone (.data hi lo crc)) s = .next t ∧ t.rd Reg.SNS_STAT_BUSY = 0 ∧
      t.rdAt Reg.SNS_VAL_VALUE (s.rd Reg.SNS_STAT_ENTRY) = s.pollValue (s.rd Reg.SNS_STAT_ENTRY) hi lo % 2 ^ 16 ∧
      t.rdAt Reg.SNS_VAL_VALID (s.rd Reg.SNS_STAT_ENTRY) = 1 ∧ t.rdAt Reg.SNS_VAL_FAILS (s.rd Reg.SNS_STAT_ENTRY) = 0) ∧
  (∀ s : State, s.on Reg.SNS_STAT_BUSY = true → s.alive = true →
    ∃ t, exec (.sensorPollDone .nack) s = .next t ∧ t.rd Reg.SNS_STAT_BUSY = 0 ∧ t.rd Reg.SNS_STAT_NACK = 1 ∧
      t.rdAt Reg.SNS_VAL_FAILS (s.rd Reg.SNS_STAT_ENTRY) = min 15 (s.rdAt Reg.SNS_VAL_FAILS (s.rd Reg.SNS_STAT_ENTRY) + 1)) ∧
  (∀ s : State, s.on Reg.SNS_STAT_BUSY = true → s.alive = true →
    ∃ t, exec .snsStretchTimeout s = .next t ∧ t.rd Reg.SNS_STAT_BUSY = 0 ∧ t.rd Reg.SNS_STAT_STRETCH = 1 ∧
      t.rdAt Reg.SNS_VAL_FAILS (s.rd Reg.SNS_STAT_ENTRY) = min 15 (s.rdAt Reg.SNS_VAL_FAILS (s.rd Reg.SNS_STAT_ENTRY) + 1))

/-- SELF_CAL_DUE marks a converter due that is 15 min past its last pass, more than 5 °C from it, or 60 s past a failed attempt; one
whose calibration is running stays as it was. SELF_CAL_START with C free starts C's own runs, or has A or B, A before B, wait for
the boundary after C has passed its check. RELIEF_HANDOVER gives the scan, with its walk position, to C. CAL_RUN_DONE of a plausible
first run keeps its taps and begins the second. CAL_HANDBACK returns the scan and its walk position, and C then takes a replaced
converter that waits for it (log entry 66). HEALTH_CHECK_DONE with a pass of a converter that is not suspect ends the check.
CONVERTER_STUCK of A or B, with C idle and passing its check, replaces the converter for good. REFIN_LOSS sets REF_LOW and
CAL_UNTRACED and puts every converter on VREF_INT, one in an entry at the end of it and any other at once (log entry 34);
REFIN_RESTORE clears REF_LOW. CAL_SYS_POINT_DONE with 256 averages of point 1, none at a limit, ends the point, puts its mean into
CAL_SYS_M0 and sets RESULT to 1. (Rests on R169, R172, R173, R174, R176, R179, R180, R183, R185, R186) -/
def Obligations.CalibrationRuns : Prop :=
  (∀ (s : State) (c : Fin 3), s.up = true → s.calNowDue c.val = true → s.cals.length = 3 → s.replaced c.val = false → s.calRuns c.val = false →
    ∃ t, exec (.selfCalDue c) s = .next t ∧ (t.cal c.val).due = true) ∧
  (∀ (s : State) (c : Fin 3), s.calRuns c.val = true → ∃ t, exec (.selfCalDue c) s = .next t ∧ (t.cal c.val).due = (s.cal c.val).due) ∧
  (∀ (s : State) (z h : Int), s.cals.length = 3 → s.calAllowed 2 = true → s.cFree = true →
    ∃ t, exec (.selfCalStart 2 z h) s = .next t ∧ (t.cal 2).phase = 3 ∧ (t.cal 2).due = false) ∧
  (∀ (s : State) (c : Fin 2) (z h : Int), s.cals.length = 3 → s.calAllowed c.val = true → s.cFree = true → healthPass z h = true →
    (c.val = 1 → s.calAllowed 0 = false) → (s.conv 2).entry = none → (s.conv 2).urg = none →
    ∃ t, exec (.selfCalStart (Fin.castLE (by decide) c) z h) s = .next t ∧ (t.cal c.val).phase = 2 ∧ (t.cal c.val).due = false) ∧
  (∀ (s : State) (z h : Int), s.cals.length = 3 → s.calAllowed 1 = true → s.calAllowed 0 = true →
    ∃ t, exec (.selfCalStart 1 z h) s = .next t ∧ (t.cal 1).phase = 1 ∧ (t.cal 1).due = (s.cal 1).due) ∧
  (∀ (s : State) (c : Fin 2) (z h : Int), s.cals.length = 3 → s.convs.length = 3 → (s.cal c.val).phase = 2 → s.boundary c.val = true →
    s.replaced 2 = false → s.relief.forGood = false → s.relief.target = none →
    ∃ t, exec (.reliefHandover c z h) s = .next t ∧ t.relief.target = some c.val ∧ (t.cal c.val).phase = 3 ∧
      (t.conv 2).pos = (s.conv c.val).pos) ∧
  (∀ (s : State) (c : Fin 3) (l : List TapSearch) (z h : Int) (taps : List Int), s.cals.length = 3 → (s.cal c.val).phase = 3 →
    runTaps (s.tapsOf c.val) l = some taps →
    ∃ t, exec (.calRunDone c l z h) s = .next t ∧ (t.cal c.val).phase = 4 ∧ (t.cal c.val).run1 = taps) ∧
  (∀ (s : State) (c : Fin 2), s.convs.length = 3 → s.relief.target = some c.val → s.relief.back = true → s.boundary 2 = true →
    s.relief.forGood = false → s.relief.wanted = [] →
    ∃ t, exec (.calHandback (Fin.castLE (by decide) c)) s = .next t ∧ t.relief.target = none ∧ (t.conv c.val).pos = (s.conv 2).pos ∧
      (t.conv c.val).phase = (s.conv c.val).go) ∧
  (∀ (s : State) (c k : Fin 2), s.convs.length = 3 → s.relief.target = some c.val → s.relief.back = true → s.boundary 2 = true →
    s.relief.forGood = false → s.relief.wanted = [k.val] → s.replaced k.val = true →
    ∃ t, exec (.calHandback (Fin.castLE (by decide) c)) s = .next t ∧ t.relief.target = some k.val ∧ t.relief.forGood = true) ∧
  (∀ (s : State) (c : Fin 3) (z h : Int), s.cals.length = 3 → (s.cal c.val).health = true → (s.cal c.val).suspect = false →
    healthPass z h = true → ∃ t, exec (.healthCheckDone c z h) s = .next t ∧ (t.cal c.val).health = false) ∧
  (∀ (s : State) (c : Fin 2) (z h : Int), s.cals.length = 3 → s.scanOf c.val = some c.val → (s.conv c.val).entry ≠ none →
    s.replaced 2 = false → s.relief.forGood = false → s.relief.target = none → healthPass z h = true →
    ∃ t, exec (.converterStuck c z h) s = .next t ∧ (t.cal c.val).phase = 7 ∧ t.relief.target = some c.val ∧
      t.relief.forGood = true ∧ bit (t.rd Reg.CAL_FLAGS_REPLACED) c.val = true) ∧
  (∀ s : State, s.convs.length = 3 → s.on Reg.CAL_STAT_REF_LOW = false → s.alive = true →
    ∃ t, exec .refinLoss s = .next t ∧ t.rd Reg.CAL_STAT_REF_LOW = 1 ∧ t.rd Reg.CAL_STAT_CAL_UNTRACED = 1 ∧
      (∀ c : Nat, c < 3 → if (s.conv c).entry.isNone then (t.conv c).untraced = true else (t.conv c).toInt = true)) ∧
  (∀ s : State, ∃ t, exec .refinRestore s = .next t ∧ t.rd Reg.CAL_STAT_REF_LOW = 0) ∧
  (∀ s : State, s.on Reg.CAL_SYS_STAT_BUSY = true → 256 ≤ s.rd Hid.sysCnt → s.on Hid.sysClip = false → s.rd Hid.sysPoint = 1 →
     ∃ t, exec .calSysPointDone s = .next t ∧ t.rd Reg.CAL_SYS_STAT_BUSY = 0 ∧ t.rd Reg.CAL_SYS_STAT_RESULT = 1 ∧
       t.rd Reg.CAL_SYS_M0_M0 = ofI 24 (s.rdI Hid.sysSum 0))

/-- A thermal sample of a sensor without a usable neighbour goes straight to the thresholds: TS_VALUE shows it, with NOCHECK.
THERMAL_FAST_STEP asks for an urgent conversion of a sensor at the fast rate. THERMAL_NODATA fails the sensor with cause 3 and
starts the hold; THERMAL_HOLD_END ends it. THERMAL_POWER_ESTIMATE shows the powers of the five regions, formed from the measured
currents (log entry 69). THERM_READMIT_RESULT within 5 °C of the expectation readmits the sensor, and beyond it or without a code it
does not. (Rests on R254, R259, R262, R264, R265, R268) -/
def Obligations.ThermalSamplesAndFailures : Prop :=
  (∀ (s : State) (i : Fin 8), s.thermOn = true → s.tsFailed i.val = false → s.onAt Reg.TS_STATE_FAST i.val = false →
    s.onAt Hid.tsNew i.val = true → s.tsUsables i.val = [] →
    ∃ t, exec (.thermalSample i) s = .next t ∧ t.rdAt Reg.TS_VALUE_T i.val = ofI 16 (s.rdI Hid.tsGot i.val) ∧
      t.rdAt Reg.TS_VALUE_VALID i.val = 1 ∧ t.rdAt Reg.TS_STATE_NOCHECK i.val = 1) ∧
  (∀ (s : State) (i : Fin 8), s.thermOn = true → (∀ j : Nat, j < 8 → s.tsFailed j = false) →
    (∀ j : Nat, j < 8 → (s.onAt Reg.TS_STATE_FAST j = true ↔ j = i.val)) → s.urgBusy .therm = true →
    ∃ t, exec .thermalFastStep s = .next t ∧ t.urgMore = s.urgMore ++ [⟨.therm, 54 + i.val, 3⟩]) ∧
  (∀ (s : State) (i : Fin 8), s.thermOn = true → s.tsFailed i.val = false →
    ∃ t, exec (.thermalNodata i) s = .next t ∧ t.rdAt Reg.TS_STATE_FAILED i.val = 1 ∧ t.rdAt Reg.TS_STATE_CAUSE i.val = 3 ∧
      t.rd Reg.THERM_STAT_HOLD = 1 ∧ bit t.intCause 4 = true) ∧
  (∀ s : State, ∃ t, exec .thermalHoldEnd s = .next t ∧ t.on Reg.THERM_STAT_HOLD = false) ∧
  (∀ (s : State) (currents : List Nat), s.thermOn = true →
    ∃ t, exec (.thermalPowerEstimate currents) s = .next t ∧ t.rd Reg.THERM_PWR0_P2 = s.regionPower currents 2 ∧
      t.rd Reg.THERM_PWR0_P3 = s.regionPower currents 3 ∧ t.rd Reg.THERM_PWR0_P4 = s.regionPower currents 4 ∧
      t.rd Reg.THERM_PWR0_P5 = s.regionPower currents 5 ∧ t.rd Reg.THERM_PWR1_P6 = s.regionPower currents 6) ∧
  (∀ (s : State) (i : Fin 8), s.onAt Hid.tsReadmit i.val = true → s.onAt Hid.tsUrgNew i.val = true → s.tsUsables i.val ≠ [] →
    ((s.tsUrgTemp i.val * (s.tsExpect i.val).2 - (s.tsExpect i.val).1).natAbs : Int) ≤ 640 * ((s.tsExpect i.val).2 : Int) →
    ∃ t, exec (.thermReadmitResult i) s = .next t ∧ t.rdAt Reg.TS_STATE_FAILED i.val = 0 ∧ t.rdAt Reg.TS_STATE_CAUSE i.val = 0 ∧
      t.rd Reg.THERM_CMD_STAT_RESULT = 1) ∧
  (∀ (s : State) (i : Fin 8), s.onAt Hid.tsReadmit i.val = true → s.onAt Hid.tsUrgNew i.val = false →
    ∃ t, exec (.thermReadmitResult i) s = .next t ∧ t.rd Reg.THERM_CMD_STAT_RESULT = 3 ∧
      t.rdAt Reg.TS_STATE_FAILED i.val = s.rdAt Reg.TS_STATE_FAILED i.val) ∧
  (∀ (s : State) (i : Fin 8), s.onAt Hid.tsReadmit i.val = true →
    640 * ((s.tsExpect i.val).2 : Int) < ((s.tsUrgTemp i.val * (s.tsExpect i.val).2 - (s.tsExpect i.val).1).natAbs : Int) →
    ∃ t, exec (.thermReadmitResult i) s = .next t ∧ t.rd Reg.THERM_CMD_STAT_RESULT = 3 ∧
      t.rdAt Reg.TS_STATE_FAILED i.val = s.rdAt Reg.TS_STATE_FAILED i.val ∧
      t.rdAt Reg.TS_STATE_CAUSE i.val = s.rdAt Reg.TS_STATE_CAUSE i.val)

/-- ACTUATOR_COMMAND with no bit inverted, to a target that exists and with the sender's sequence number one above the receiver's,
leaves the bus with the receiver at that number. ACTUATOR_COMMAND_NACK of a first NACK has the command sent again; of a second one
it gives the command up, marks its target in SUPV_CMD_PATH and raises SUPV. While the hatch path serves it, SUPV_REPAIR_DONE ends a
repair: RESULT 1 where the active copy gives the coach's words, 3 where it cannot be read. (Rests on R104, R105, R106, R103) -/
def Obligations.ActuatorsAndRepairs : Prop :=
  (∀ (s : State) (a : ActCmd) (rest : List ActCmd), s.actQ = a :: rest → a.nacked = false → s.alive = true →
    targetOk a.kind a.index = true → a.value < 2 ^ 32 →
    s.rdAt Hid.sndSeq (targetBit a.kind a.index) % 32 = (s.rdAt Hid.rcvSeq (targetBit a.kind a.index) + 1) % 32 →
    ∃ t, exec (.actuatorCommand 0) s = .next t ∧ t.actQ = rest ∧
      t.rdAt Hid.rcvSeq (targetBit a.kind a.index) = s.rdAt Hid.sndSeq (targetBit a.kind a.index) % 32) ∧
  (∀ (s : State) (a : ActCmd) (rest : List ActCmd), s.actQ = a :: rest → a.nacked = true → a.again = false →
    ∃ t, exec .actuatorCommandNack s = .next t ∧ t.actQ = { a with nacked := false, again := true } :: rest ∧ t.regs = s.regs) ∧
  (∀ (s : State) (a : ActCmd) (rest : List ActCmd), s.actQ = a :: rest → a.nacked = true → a.again = true →
    targetOk a.kind a.index = true →
    ∃ t, exec .actuatorCommandNack s = .next t ∧ t.actQ = rest ∧
      bit (t.rd Reg.SUPV_CMD_PATH_MAP) (targetBit a.kind a.index) = true ∧ t.rd Reg.SUPV_STAT_CMD_PATH = 1 ∧ bit t.intCause 1 = true) ∧
  (∀ (s : State) (l : List Nat), s.on Reg.SUPV_REPAIR_GO = true → s.up = true → s.pathServes 2 = true → s.copyCoachWords (s.rd Hid.repairCoach) = some l →
    ∃ t, exec (.supvRepairDone true) s = .next t ∧ t.rd Reg.SUPV_REPAIR_GO = 0 ∧ t.rd Reg.SUPV_REPAIR_RESULT = 1) ∧
  (∀ s : State, s.on Reg.SUPV_REPAIR_GO = true → s.up = true → s.pathServes 2 = true →
    ∃ t, exec (.supvRepairDone false) s = .next t ∧ t.rd Reg.SUPV_REPAIR_GO = 0 ∧ t.rd Reg.SUPV_REPAIR_RESULT = 3)

/-- Whatever command crosses the bus, an inversion of any one of its 56 bits makes the receiving block answer NACK: the command
stays at the head, marked, every register is as it was, and no block has acted. (Rests on R104, R106) -/
def Obligations.SingleBitErrorsAreRefused : Prop :=
  ∀ (s : State) (a : ActCmd) (rest : List ActCmd) (k : Fin 56), s.actQ = a :: rest → a.nacked = false → s.alive = true →
    targetOk a.kind a.index = true → a.value < 2 ^ 32 →
    ∃ t, exec (.actuatorCommand (2 ^ k.val)) s = .next t ∧ t.actQ = { a with nacked := true } :: rest ∧ t.regs = s.regs ∧
      t.flash = s.flash ∧ t.eeprom = s.eeprom

/-- An AUDIT window in which the comparison of the crystal or of the PLL is bad is remembered, and a second one in a row begins
clock fallback; the flags it sets are those of its own bad comparisons, XTAL_LOSS, PLL_LOSS or both (that the confirming window
alone decides them is the model's choice, log entry 32). A lost PLL lock begins it at once; CLOCK_FALLBACK_RETURN ends it once the
last window was good (XTAL_OK), by a new boot reset of cause 7 where SIG_WAIT is set. The AUDIT oscillator's failure clears AUDIT_OK
and sets AUDIT_LOSS, and its return sets AUDIT_OK. EARLY_WARNING, VDDA_UV and VM_FAULT set their PWR_STAT and PWR_FLAGS bits; EW and
the VM faults raise PWR; VDDA undervoltage stops every converter. The clear of each clears its PWR_STAT bit; after VDDA is good no
input is without a SETTLE mark and no calibration starts for 1 s. (Rests on R18, R22, R24, R333, R334, R335) -/
def Obligations.SupervisionOfSupplies : Prop :=
  (∀ (s : State) (x p : Nat), s.up = true → s.on Reg.CLK_STAT_AUDIT_OK = true → s.on Reg.CLK_STAT_FALLBACK = false →
    windowBad x = true → s.rd Hid.audBad = 0 →
    ∃ t, exec (.auditWindow x p) s = .next t ∧ t.rd Hid.audBad = 1 ∧ t.on Reg.CLK_STAT_FALLBACK = false ∧ t.rd Reg.CLK_STAT_XTAL_OK = 0) ∧
  (∀ (s : State) (x p : Nat), s.up = true → s.on Reg.CLK_STAT_AUDIT_OK = true → s.on Reg.CLK_STAT_FALLBACK = false →
    windowBad x = true → s.rd Hid.audBad ≠ 0 →
    ∃ t, exec (.auditWindow x p) s = .next t ∧ t.rd Reg.CLK_STAT_FALLBACK = 1 ∧ t.rd Reg.CLK_FLAGS_XTAL_LOSS = 1 ∧
      bit t.intCause 10 = true) ∧
  (∀ (s : State) (x p : Nat), s.up = true → s.on Reg.CLK_STAT_AUDIT_OK = true → s.on Reg.CLK_STAT_FALLBACK = false →
    windowBad x = false → windowBad p = true → s.rd Hid.audBad = 0 →
    ∃ t, exec (.auditWindow x p) s = .next t ∧ t.rd Hid.audBad = 1 ∧ t.on Reg.CLK_STAT_FALLBACK = false ∧ t.rd Reg.CLK_STAT_XTAL_OK = 1) ∧
  (∀ (s : State) (x p : Nat), s.up = true → s.on Reg.CLK_STAT_AUDIT_OK = true → s.on Reg.CLK_STAT_FALLBACK = false →
    windowBad x = false → windowBad p = true → s.rd Hid.audBad ≠ 0 →
    ∃ t, exec (.auditWindow x p) s = .next t ∧ t.rd Reg.CLK_STAT_FALLBACK = 1 ∧ t.rd Reg.CLK_FLAGS_PLL_LOSS = 1 ∧
      t.rd Reg.CLK_FLAGS_XTAL_LOSS = s.rd Reg.CLK_FLAGS_XTAL_LOSS ∧ bit t.intCause 10 = true) ∧
  (∀ (s : State) (x p : Nat), s.up = true → s.on Reg.CLK_STAT_AUDIT_OK = true → s.on Reg.CLK_STAT_FALLBACK = false →
    windowBad x = true → windowBad p = true → s.rd Hid.audBad ≠ 0 →
    ∃ t, exec (.auditWindow x p) s = .next t ∧ t.rd Reg.CLK_STAT_FALLBACK = 1 ∧ t.rd Reg.CLK_FLAGS_XTAL_LOSS = 1 ∧
      t.rd Reg.CLK_FLAGS_PLL_LOSS = 1 ∧ bit t.intCause 10 = true) ∧
  (∀ s : State, s.up = true → s.on Reg.CLK_STAT_AUDIT_OK = true →
    ∃ t, exec .pllLockLoss s = .next t ∧ t.rd Reg.CLK_STAT_FALLBACK = 1 ∧ t.rd Reg.CLK_STAT_PLL_LOCK = 0 ∧ t.rd Reg.CLK_FLAGS_PLL_LOSS = 1) ∧
  (∀ s : State, s.up = true → s.on Reg.CLK_STAT_FALLBACK = true → s.on Reg.CLK_STAT_XTAL_OK = true → s.on Reg.BOOT_STAT_SIG_WAIT = false →
    ∃ t, exec .clockFallbackReturn s = .next t ∧ t.rd Reg.CLK_STAT_FALLBACK = 0 ∧ t.rd Reg.CLK_STAT_PLL_LOCK = 1 ∧
      t.rd Reg.CLK_FLAGS_RETURN = 1) ∧
  (∀ s : State, s.up = true → s.on Reg.CLK_STAT_FALLBACK = true → s.on Reg.CLK_STAT_XTAL_OK = true → s.on Reg.BOOT_STAT_SIG_WAIT = true → s.on Hid.resetActive = false →
    ∃ t, exec .clockFallbackReturn s = .next t ∧ t.rd Reg.RST_CAUSE_CAUSE = 7 ∧ t.mode = mBoot ∧ t.rd Hid.resetActive = 1) ∧
  (∀ s : State, s.up = true → s.on Reg.CLK_STAT_AUDIT_OK = true →
    ∃ t, exec .auditOscFail s = .next t ∧ t.rd Reg.CLK_STAT_AUDIT_OK = 0 ∧ t.rd Reg.CLK_FLAGS_AUDIT_LOSS = 1 ∧ bit t.intCause 10 = true) ∧
  (∀ s : State, s.up = true → ∃ t, exec .auditOscReturn s = .next t ∧ t.rd Reg.CLK_STAT_AUDIT_OK = 1) ∧
  (∀ s : State, s.up = true → s.on Reg.PWR_STAT_EW = false →
    ∃ t, exec .earlyWarning s = .next t ∧ t.rd Reg.PWR_STAT_EW = 1 ∧ bit (t.rd Reg.PWR_FLAGS_FLAGS) 0 = true ∧ bit t.intCause 9 = true) ∧
  (∀ s : State, s.up = true → ∃ t, exec .earlyWarningClear s = .next t ∧ t.on Reg.PWR_STAT_EW = false) ∧
  (∀ s : State, s.up = true → s.on Reg.PWR_STAT_VDDA_UV = false →
    ∃ t, exec .vddaUv s = .next t ∧ t.rd Reg.PWR_STAT_VDDA_UV = 1 ∧ bit (t.rd Reg.PWR_FLAGS_FLAGS) 1 = true ∧
      (∀ x ∈ t.convs, x.phase = .stopped ∧ x.entry = none)) ∧
  (∀ s : State, s.up = true → s.on Reg.PWR_STAT_VDDA_UV = true →
    ∃ t, exec .vddaUvClear s = .next t ∧ t.rd Reg.PWR_STAT_VDDA_UV = 0 ∧ t.rd Hid.calHold = 1000 ∧
      (∀ i : Nat, i < 64 → t.rdAt Reg.UI_STAT_SETTLE_LEFT i ≠ 0) ∧ (∀ x ∈ t.convs, x.pos = 0 ∧ x.entry = none)) ∧
  (∀ s : State, s.up = true → s.on Reg.PWR_STAT_VM_UV = false →
    ∃ t, exec (.vmFault false) s = .next t ∧ t.rd Reg.PWR_STAT_VM_UV = 1 ∧ bit (t.rd Reg.PWR_FLAGS_FLAGS) 2 = true ∧ bit t.intCause 9 = true) ∧
  (∀ s : State, s.up = true → s.on Reg.PWR_STAT_VM_OV = false →
    ∃ t, exec (.vmFault true) s = .next t ∧ t.rd Reg.PWR_STAT_VM_OV = 1 ∧ bit (t.rd Reg.PWR_FLAGS_FLAGS) 3 = true ∧ bit t.intCause 9 = true) ∧
  (∀ (s : State) (ov : Bool), s.up = true →
    ∃ t, exec (.vmFaultClear ov) s = .next t ∧ t.on (if ov then Reg.PWR_STAT_VM_OV else Reg.PWR_STAT_VM_UV) = false)

/-- From an operating mode with the AUDIT oscillator good and no reset asserted, WATCHDOG_EXPIRY is a boot reset of cause 4; outside
BACKUP, RESET_N_ASSERT is one of cause 3, BROWN_OUT of cause 2 and POWER_ON from below 1.80 V of cause 1; POWER_ON ends BACKUP with
cause 1 or 2. Every field that is not of class K, but the mode, the cause and the model's own reset records, then rests at its reset
value, where the spec gives none at the one that log entries 3 and 56 name; the engine's queue of due coaches and the queue of
actuator commands are empty, and no interrupt cause is there. (Rests on R9, R344, R345, R346, R350) -/
def Obligations.BootResets : Prop :=
  let back : State → Nat → Prop := fun t cause => t.mode = mBoot ∧ t.rd Reg.RST_CAUSE_CAUSE = cause ∧ t.rd Hid.resetActive = 1 ∧
    t.due = [] ∧ t.actQ = [] ∧ t.intCause = 0 ∧ (∀ (f : Fld) (ch : Nat), f.id % 4 ≠ 0 → f.id ≠ Reg.PWR_MODE_MODE.id → f.id ≠ Reg.RST_CAUSE_CAUSE.id →
      f.id ≠ Hid.resetActive.id → f.id ≠ Hid.pwrCause.id → f.id ≠ Hid.panelDis.id → f.id ≠ Hid.panelDisV.id → t.rdAt f ch = f.boot)
  (∀ s : State, s.up = true → s.operating = true → s.on Reg.CLK_STAT_AUDIT_OK = true →
    ∃ t, exec .watchdogExpiry s = .next t ∧ back t 4) ∧
  (∀ s : State, s.alive = true → ∃ t, exec .resetNAssert s = .next t ∧ back t 3) ∧
  (∀ s : State, s.alive = true → ∃ t, exec .brownOut s = .next t ∧ back t 2) ∧
  (∀ s : State, s.alive = true → ∃ t, exec (.powerOn true) s = .next t ∧ back t 1) ∧
  (∀ (s : State) (below : Bool), s.mode = mBackup → ∃ t, exec (.powerOn below) s = .next t ∧ t.mode = mBoot ∧
    t.rd Hid.resetActive = 1 ∧ t.rd Reg.RST_CAUSE_CAUSE = if below then 1 else 2)

/-- BOOT_RESET_RELEASE whose attached memory does not answer ends the reset and enters SAFE with BOOT_COPY 2. (Rests on R311, R312,
R313) -/
def Obligations.BootWithoutAnImageEndsInSafe : Prop :=
  ∀ (s : State) (env : BootEnv), s.mode = mBoot → env.answers = false →
    ∃ t, exec (.bootResetRelease env) s = .next t ∧ t.mode = mSafe ∧ t.rd Reg.BOOT_STAT_COPY = 2 ∧ t.rd Hid.resetActive = 0 ∧
      t.rd Reg.BOOT_STAT_STRAP = env.straps.val

/-- In BOOT, whatever the boot finds, BOOT_RESET_RELEASE ends the reset and enters SAFE or the mode that the straps select. With
straps other than 0b10 and a memory that answers it tries the copies with an eligible header, of two the newer one first, and A
where neither is newer. Where the copy tried first passes, BOOT ends in the mode that the straps select, with COPY and SIG_OK of
that copy and the wheel at rest, so that the next wheel tick is number 0. Where the first is rejected and the second passes, the
same holds of the second, ALT is set, and BOOT_REJ shows why the first was rejected. Where every copy tried is rejected, BOOT ends
in SAFE with COPY 2. With straps 0b10 an EEPROM image that is not rejected leads into IZ-30 mode with COPY 3. (Rests on R311, R313,
R316, R328, R47, R435, R436) -/
def Obligations.BootLoadsTheCopyThatPasses : Prop :=
  (∀ (s : State) (env : BootEnv), s.mode = mBoot →
    ∃ t, exec (.bootResetRelease env) s = .next t ∧ (t.mode = mSafe ∨ t.mode = strapMode env.straps.val) ∧ t.rd Hid.resetActive = 0 ∧
      t.rd Reg.BOOT_STAT_STRAP = env.straps.val ∧ t.on Hid.tickRun = false) ∧
  (∀ (s : State) (env : BootEnv) (c : Nat) (rest : List Nat) (u : State) (sig : Bool), s.mode = mBoot → env.straps.val ≠ 2 → env.answers = true →
    (s.bootStart env).bootOrder true = c :: rest → ((s.bootStart env).bootHeaders true).bootJudge c = .ok (u, sig) →
    ∃ t, exec (.bootResetRelease env) s = .next t ∧ t.mode = strapMode env.straps.val ∧ t.rd Reg.BOOT_STAT_COPY = c ∧
      t.rd Reg.BOOT_STAT_SIG_OK = b2n sig ∧ t.on Hid.tickRun = false) ∧
  (∀ (s : State) (env : BootEnv) (c d : Nat) (r : Rej) (u : State) (sig : Bool), s.mode = mBoot → env.straps.val ≠ 2 → env.answers = true →
    (s.bootStart env).bootOrder true = [c, d] → ((s.bootStart env).bootHeaders true).bootJudge c = .error r →
    ((s.bootStart env).bootHeaders true).bootJudge d = .ok (u, sig) →
    ∃ t, exec (.bootResetRelease env) s = .next t ∧ t.mode = strapMode env.straps.val ∧ t.rd Reg.BOOT_STAT_COPY = d ∧
      t.rd Reg.BOOT_STAT_SIG_OK = b2n sig ∧ t.rd Reg.BOOT_STAT_ALT = 1 ∧ t.rdAt Reg.BOOT_REJ_REASON c = r.reason % 16 ∧
      t.rdAt Reg.BOOT_REJ_INDEX c = r.index % 256 ∧ t.rdAt Reg.BOOT_REJ_TYPE c = r.typ % 65536 ∧ t.on Hid.tickRun = false) ∧
  (∀ (s : State) (env : BootEnv) (l : List Nat), s.mode = mBoot → env.straps.val ≠ 2 → env.answers = true →
    (s.bootStart env).bootOrder true = l → (∀ c ∈ l, ∃ r, ((s.bootStart env).bootHeaders true).bootJudge c = .error r) →
    ∃ t, exec (.bootResetRelease env) s = .next t ∧ t.mode = mSafe ∧ t.rd Reg.BOOT_STAT_COPY = 2) ∧
  (∀ (s : State) (env : BootEnv), s.mode = mBoot → env.straps.val = 2 →
    (s.bootStart env).izReject (s.bootStart env).eeprom (env.answers && eepAnswers env.acks) = none →
    ∃ t, exec (.bootResetRelease env) s = .next t ∧ t.mode = mIz30 ∧ t.rd Reg.BOOT_STAT_COPY = 3 ∧ t.on Hid.tickRun = false) ∧
  (∀ s : State, eligible s.flash 0 = true → eligible s.flash 0x080000 = true →
    s.bootOrder true = if 1 ≤ (Memory.word s.flash 0x080008 + 2 ^ 32 - Memory.word s.flash 8) % 2 ^ 32 ∧
      (Memory.word s.flash 0x080008 + 2 ^ 32 - Memory.word s.flash 8) % 2 ^ 32 < 2 ^ 31 then [1, 0] else [0, 1]) ∧
  (∀ s : State, eligible s.flash 0x080000 = false → s.bootOrder true = if eligible s.flash 0 = true then [0] else []) ∧
  (∀ s : State, eligible s.flash 0 = false → s.bootOrder true = if eligible s.flash 0x080000 = true then [1] else [])

/-- While the hatch path serves the persist: PERSIST_OPEN_DONE with an answering memory, and a whole active copy where it is still
to be checked, leaves the persist open with exactly the target's first 4 KiB erased. PERSIST_COMMIT_DONE ends the persist: with
RESULT 2 and the reason for a target that fails its check, the flash as it was; for one that passes, with an erased header, with
RESULT 1 and the new header in the target, every byte outside its 32 bytes as it was. (Rests on R325, R326, R303) -/
def Obligations.PersistsEnd : Prop :=
  (∀ s : State, s.up = true → s.pathServes 3 = true → (s.rd Reg.IMG_PERSIST_STATE = 2 ∨ (s.rd Reg.IMG_PERSIST_STATE = 1 ∧ s.activeWhole = true)) →
    ∃ t, exec (.persistOpenDone true) s = .next t ∧ t.rd Reg.IMG_PERSIST_STATE = 3 ∧
      (∀ a : Nat, Memory.read t.flash a = if copyBase (s.rd Reg.IMG_PERSIST_TARGET) ≤ a ∧ a < copyBase (s.rd Reg.IMG_PERSIST_TARGET) + 4096
        then 255 else Memory.read s.flash a)) ∧
  (∀ s : State, s.up = true → s.pathServes 3 = true → s.rd Reg.IMG_PERSIST_STATE = 4 →
    ∃ t, exec (.persistCommitDone true) s = .next t ∧ t.rd Reg.IMG_PERSIST_STATE = 0 ∧ bit t.intCause 14 = true ∧
      (s.targetJudge ≠ 0 → t.rd Reg.IMG_PERSIST_RESULT = 2 ∧ t.rd Reg.IMG_PERSIST_REASON = s.targetJudge % 16 ∧ t.flash = s.flash) ∧
      (s.targetJudge = 0 → (∀ k : Nat, k < 32 → Memory.read s.flash (copyBase (s.rd Reg.IMG_PERSIST_TARGET) + k) = 255) →
        t.rd Reg.IMG_PERSIST_RESULT = 1 ∧ t.rd Reg.IMG_PSEQ_SEQ = s.nextSeq ∧
        Memory.words t.flash (copyBase (s.rd Reg.IMG_PERSIST_TARGET)) 8 = s.newHeader ∧
        (∀ a : Nat, a < copyBase (s.rd Reg.IMG_PERSIST_TARGET) ∨ copyBase (s.rd Reg.IMG_PERSIST_TARGET) + 32 ≤ a →
          Memory.read t.flash a = Memory.read s.flash a)))

/-- REGION_VALIDATION_DONE queues a valid update that is neither a coach group nor a valve profile, and rejects one whose memory
does not answer. REGION_APPLY of a queued schedule update ends it as done. COACH_GROUP_WRITE with every coach of the group open
writes the group's words, their reserved bits masked (a deduction, log entry 42; R320 does not speak of them). (Rests on R318, R319,
R320, R328) -/
def Obligations.RegionUpdatesEnd : Prop :=
  (∀ s : State, s.rd Reg.RGN_CTRL_STATE = 2 → s.rgnMode = true → s.rgnJudge true = 0 → s.staged.1 ≠ 6 → s.staged.1 ≠ 11 →
    ∃ t, exec (.regionValidationDone true) s = .next t ∧ t.rd Reg.RGN_CTRL_STATE = 3 ∧ t.rd Reg.RGN_CTRL_TYPE = s.staged.1 % 256) ∧
  (∀ s : State, s.rd Reg.RGN_CTRL_STATE = 2 → s.rgnMode = true →
    ∃ t, exec (.regionValidationDone false) s = .next t ∧ t.rd Reg.RGN_CTRL_STATE = 0 ∧ t.rd Reg.RGN_RES_RESULT = 2 ∧
      t.rd Reg.RGN_RES_REASON = rMemory ∧ bit t.intCause 14 = true) ∧
  (∀ s : State, s.rd Reg.RGN_CTRL_STATE = 3 → s.rgnMode = true → s.staged.1 = 10 → (s.loadRegion 10 s.staged.2).toBool = true →
    ∃ t, exec (.regionApply true) s = .next t ∧ t.rd Reg.RGN_CTRL_STATE = 0 ∧ t.rd Reg.RGN_RES_RESULT = 1 ∧ t.rgn = {} ∧
      bit t.intCause 14 = true) ∧
  (∀ s : State, s.rd Reg.RGN_CTRL_STATE = 3 → s.rgnMode = true → s.staged.1 = 11 → s.rgn.written = false → s.groupOpen = true →
    s.rgnJudge true = 0 →
    ∃ t, exec (.coachGroupWrite true) s = .next t ∧ (∀ k : Nat, k < (groupOf s.staged.2).2 → ∀ j : Nat, j < 42 →
      t.cw ((groupOf s.staged.2).1 + k) (groupWords.getD j 0) =
        (s.staged.2.getD (1 + 42 * k + j) 0 &&& coachMask (groupWords.getD j 0)) % 2 ^ 32))

/-- A truncated frame is answered with nothing and changes no register. I2C_RESPONSE_READ returns the waiting response, with 0xFF
after it, and leaves none, one read in part included (log entry 45). DOOR_STEP_TIMEOUT cancels the pending step; DOOR_TIMEOUT closes
its door. HEARTBEAT_EXPIRY clears LEFT, sets HOST_LOST and raises HOST. While the hatch path serves the host: a hatch read ends with
the addressed flash words in HATCH_DATA; a program clears bits of exactly its words and an erase sets exactly its sector; each ends
with its operation in LAST_OP, IMG raised and RESULT 1, but a program of the flash whose words then read back otherwise with RESULT
3. With straps 0b10 a read ends with the words of the EEPROM that lie within its 256 bytes, and a program stores its words, most
significant byte first, in the EEPROM and nothing else. OTP_PROG_DONE that reads back right ends with RESULT 1 and HASH_SET or
SIGNED programmed. (Rests on R389, R394, R398, R399, R402, R400, R401, R403, R410) -/
def Obligations.HostTimersHatchAndOtp : Prop :=
  (∀ s : State, s.port ≠ .off → ∃ t, exec .hostFrameTruncated s = .next t ∧ t.sent = [] ∧ t.regs = s.regs) ∧
  (∀ (s : State) (n : Nat), s.port ≠ .off → s.on Reg.HOST_CFG_PORT = true →
    ∃ t, exec (.i2cResponseRead n) s = .next t ∧ t.sent = (s.resp ++ List.replicate n 0xFF).take n ∧ t.resp = [] ∧ t.regs = s.regs) ∧
  (∀ s : State, ∃ t, exec .doorStepTimeout s = .next t ∧ t.rd Reg.HOST_DOOR_STEP = 0) ∧
  (∀ (s : State) (d : Fin 4), ∃ t, exec (.doorTimeout d) s = .next t ∧ bit (t.rd Reg.HOST_DOOR_OPEN) d.val = false) ∧
  (∀ s : State, s.up = true → s.rd Reg.HOST_HB_CFG_HB_TIMEOUT ≠ 0 → s.rd Reg.HOST_HB_CFG_LEFT ≠ 0 →
    ∃ t, exec .heartbeatExpiry s = .next t ∧ t.rd Reg.HOST_HB_CFG_LEFT = 0 ∧ t.rd Reg.PWR_STAT_HOST_LOST = 1 ∧ bit t.intCause 12 = true) ∧
  (∀ (s : State) (st : Fin 256), s.up = true → s.pathServes 1 = true → s.onEeprom = false → s.hatch.op = 1 →
    ∃ t, exec (.hatchOpDone .done st) s = .next t ∧ (∀ k : Nat, k < s.hatch.count →
      t.rdAt Reg.HATCH_DATA_DATA k = Memory.word s.flash (s.hatch.addr + 4 * k) % 2 ^ 32) ∧
      t.rd Reg.HATCH_STAT_RESULT = 1 ∧ t.rd Reg.HATCH_STAT_LAST_OP = 1 ∧ t.hatch.op = 0 ∧ bit t.intCause 14 = true) ∧
  (∀ (s : State) (st : Fin 256), s.up = true → s.pathServes 1 = true → s.onEeprom = false → s.hatch.op = 2 →
    Memory.words (Memory.program s.flash (wordBytes s.hatch.addr s.hatch.words)) s.hatch.addr s.hatch.words.length = s.hatch.words →
    ∃ t, exec (.hatchOpDone .done st) s = .next t ∧ t.flash = Memory.program s.flash (wordBytes s.hatch.addr s.hatch.words) ∧
      t.rd Reg.HATCH_STAT_RESULT = 1 ∧ t.rd Reg.HATCH_STAT_LAST_OP = 2 ∧ t.rd Reg.HATCH_STAT_FSTAT = st.val ∧ t.hatch.op = 0 ∧
      bit t.intCause 14 = true) ∧
  (∀ (s : State) (st : Fin 256), s.up = true → s.pathServes 1 = true → s.onEeprom = false → s.hatch.op = 2 →
    Memory.words (Memory.program s.flash (wordBytes s.hatch.addr s.hatch.words)) s.hatch.addr s.hatch.words.length ≠ s.hatch.words →
    ∃ t, exec (.hatchOpDone .done st) s = .next t ∧ t.flash = Memory.program s.flash (wordBytes s.hatch.addr s.hatch.words) ∧
      t.rd Reg.HATCH_STAT_RESULT = 3 ∧ t.rd Reg.HATCH_STAT_LAST_OP = 2 ∧ t.rd Reg.HATCH_STAT_FSTAT = st.val ∧ t.hatch.op = 0 ∧
      bit t.intCause 14 = true) ∧
  (∀ (s : State) (st : Fin 256), s.up = true → s.pathServes 1 = true → s.onEeprom = false → s.hatch.op = 3 →
    ∃ t, exec (.hatchOpDone .done st) s = .next t ∧ (∀ a : Nat, Memory.read t.flash a =
      if s.hatch.addr ≤ a ∧ a < s.hatch.addr + 4096 then 255 else Memory.read s.flash a) ∧
      t.rd Reg.HATCH_STAT_RESULT = 1 ∧ t.rd Reg.HATCH_STAT_LAST_OP = 3 ∧ t.hatch.op = 0 ∧ bit t.intCause 14 = true) ∧
  (∀ (s : State) (st : Fin 256), s.up = true → s.pathServes 1 = true → s.onEeprom = true → s.hatch.op = 1 →
    ∃ t, exec (.hatchOpDone .done st) s = .next t ∧ (∀ k : Nat, k < s.hatch.count → s.hatch.addr + 4 * k ≤ 0xFC →
      t.rdAt Reg.HATCH_DATA_DATA k = Memory.word s.eeprom (s.hatch.addr + 4 * k) % 2 ^ 32) ∧
      t.rd Reg.HATCH_STAT_RESULT = 1 ∧ t.rd Reg.HATCH_STAT_LAST_OP = 1 ∧ t.hatch.op = 0 ∧ bit t.intCause 14 = true) ∧
  (∀ (s : State) (st : Fin 256), s.up = true → s.pathServes 1 = true → s.onEeprom = true → s.hatch.op = 2 →
    ∃ t, exec (.hatchOpDone .done st) s = .next t ∧ t.eeprom = Memory.writes s.eeprom (wordBytes s.hatch.addr s.hatch.words) ∧
      t.flash = s.flash ∧ (∀ k : Nat, k < 4 * s.hatch.words.length →
        Memory.read t.eeprom (s.hatch.addr + k) = bits (s.hatch.words.getD (k / 4) 0) (8 * (3 - k % 4)) 8) ∧
      (∀ a : Nat, a < s.hatch.addr ∨ s.hatch.addr + 4 * s.hatch.words.length ≤ a → Memory.read t.eeprom a = Memory.read s.eeprom a) ∧
      t.rd Reg.HATCH_STAT_RESULT = 1 ∧ t.rd Reg.HATCH_STAT_LAST_OP = 2 ∧ t.hatch.op = 0 ∧ bit t.intCause 14 = true) ∧
  (∀ s : State, s.up = true → s.on Reg.OTP_PROG_BUSY = true → s.rd Hid.otpOp = 1 →
    ∃ t, exec (.otpProgDone true) s = .next t ∧ t.rd Reg.OTP_PROG_BUSY = 0 ∧ t.rd Reg.OTP_PROG_RESULT = 1 ∧ t.otp.hashSet = true) ∧
  (∀ s : State, s.up = true → s.on Reg.OTP_PROG_BUSY = true → s.rd Hid.otpOp = 2 →
    ∃ t, exec (.otpProgDone true) s = .next t ∧ t.rd Reg.OTP_PROG_BUSY = 0 ∧ t.rd Reg.OTP_PROG_RESULT = 1 ∧ t.otp.signed = true)

/-- While the oscillator runs, RTC_SECOND_TICK advances the second, at 59 the minute, at 59:59 the hour, and at 23:59:59 the day:
the weekday counts from 0 to 6 and round, a month has 31, 30, 28 or, in a leap year, 29 days, the year follows its twelfth month,
and after year 199 the calendar is at 1 January of year 0 with OSF set. RTC_SET_LOAD loads the time and date of the pending SET,
clears OSF and cancels a pending shift. The load puts the sub-second counter at 0. RTC_SHIFT_APPLY without HOLD adds N to the
counter, less 32,768 where it carries, and ends the shift; with HOLD it leaves N cycles to hold, and the shift pending until they
are over. (Rests on R273, R274, R276, R279) -/
def Obligations.CalendarTimeRuns : Prop :=
  (∀ (s : State) (bad : List Nat), s.on Hid.oscStopped = false → s.rd Reg.RTC_TIME_SEC < 59 →
    ∃ t, exec (.rtcSecondTick bad) s = .next t ∧
      t.clock = (s.rd Reg.RTC_TIME_HOUR, s.rd Reg.RTC_TIME_MIN, s.rd Reg.RTC_TIME_SEC + 1) ∧ t.date = s.date) ∧
  (∀ (s : State) (bad : List Nat), s.on Hid.oscStopped = false → s.rd Reg.RTC_TIME_SEC = 59 → s.rd Reg.RTC_TIME_MIN < 59 →
    ∃ t, exec (.rtcSecondTick bad) s = .next t ∧ t.clock = (s.rd Reg.RTC_TIME_HOUR, s.rd Reg.RTC_TIME_MIN + 1, 0) ∧ t.date = s.date) ∧
  (∀ (s : State) (bad : List Nat), s.on Hid.oscStopped = false → s.rd Reg.RTC_TIME_SEC = 59 → s.rd Reg.RTC_TIME_MIN = 59 →
    s.rd Reg.RTC_TIME_HOUR < 23 →
    ∃ t, exec (.rtcSecondTick bad) s = .next t ∧ t.clock = (s.rd Reg.RTC_TIME_HOUR + 1, 0, 0) ∧ t.date = s.date ∧
      t.rd Reg.RTC_DATE_WDAY = s.rd Reg.RTC_DATE_WDAY) ∧
  (∀ (s : State) (bad : List Nat), s.on Hid.oscStopped = false → s.clock = (23, 59, 59) →
    s.rd Reg.RTC_DATE_DAY < monthDays (s.rd Reg.RTC_DATE_YEAR) (s.rd Reg.RTC_DATE_MONTH) →
    ∃ t, exec (.rtcSecondTick bad) s = .next t ∧ s.midnight t ∧
      t.date = (s.rd Reg.RTC_DATE_YEAR, s.rd Reg.RTC_DATE_MONTH, s.rd Reg.RTC_DATE_DAY + 1)) ∧
  (∀ (s : State) (bad : List Nat), s.on Hid.oscStopped = false → s.clock = (23, 59, 59) →
    s.rd Reg.RTC_DATE_DAY = monthDays (s.rd Reg.RTC_DATE_YEAR) (s.rd Reg.RTC_DATE_MONTH) → s.rd Reg.RTC_DATE_MONTH < 12 →
    ∃ t, exec (.rtcSecondTick bad) s = .next t ∧ s.midnight t ∧ t.date = (s.rd Reg.RTC_DATE_YEAR, s.rd Reg.RTC_DATE_MONTH + 1, 1)) ∧
  (∀ (s : State) (bad : List Nat), s.on Hid.oscStopped = false → s.clock = (23, 59, 59) →
    s.rd Reg.RTC_DATE_DAY = 31 → s.rd Reg.RTC_DATE_MONTH = 12 → s.rd Reg.RTC_DATE_YEAR < 199 →
    ∃ t, exec (.rtcSecondTick bad) s = .next t ∧ s.midnight t ∧ t.date = (s.rd Reg.RTC_DATE_YEAR + 1, 1, 1)) ∧
  (∀ (s : State) (bad : List Nat), s.on Hid.oscStopped = false → s.clock = (23, 59, 59) → s.date = (199, 12, 31) →
    ∃ t, exec (.rtcSecondTick bad) s = .next t ∧ s.midnight t ∧ t.date = (0, 1, 1) ∧ t.rd Reg.RTC_STAT_OSF = 1) ∧
  (∀ (s : State) (sub : Fin 32768), s.on Hid.rtcPend = true → s.on Hid.oscStopped = false →
    ∃ t, exec (.rtcSetLoad sub) s = .next t ∧ t.rd Reg.RTC_TIME_SEC = bits (s.rd Hid.rtcPendT) 0 6 ∧
      t.rd Reg.RTC_TIME_MIN = bits (s.rd Hid.rtcPendT) 8 6 ∧ t.rd Reg.RTC_TIME_HOUR = bits (s.rd Hid.rtcPendT) 16 5 ∧
      t.rd Reg.RTC_DATE_DAY = bits (s.rd Hid.rtcPendD) 0 5 ∧ t.rd Reg.RTC_DATE_MONTH = bits (s.rd Hid.rtcPendD) 8 4 ∧
      t.rd Reg.RTC_DATE_YEAR = bits (s.rd Hid.rtcPendD) 16 8 ∧ t.rd Reg.RTC_DATE_WDAY = bits (s.rd Hid.rtcPendD) 24 3 ∧
      t.rd Reg.RTC_STAT_OSF = 0 ∧ t.rd Reg.RTC_STAT_SHIFT_PEND = 0 ∧ t.rd Hid.rtcPend = 0 ∧ t.rd Reg.RTC_SUBSEC_SUBSEC = 0) ∧
  (∀ (s : State) (sub : Fin 32768), s.on Hid.rtcShPend = true → s.on Hid.oscStopped = false → bit (s.rd Hid.rtcShift) 15 = false →
    ∃ t, exec (.rtcShiftApply sub) s = .next t ∧ t.rd Reg.RTC_STAT_SHIFT_PEND = 0 ∧ t.rd Hid.rtcShPend = 0 ∧
      t.rd Reg.RTC_SUBSEC_SUBSEC = (s.subAt sub + bits (s.rd Hid.rtcShift) 0 15) % 32768) ∧
  (∀ (s : State) (sub : Fin 32768), s.on Hid.rtcShPend = true → s.on Hid.oscStopped = false → bit (s.rd Hid.rtcShift) 15 = true →
    ∃ t, exec (.rtcShiftApply sub) s = .next t ∧ t.rd Hid.rtcShPend = 0 ∧ t.rd Hid.rtcHold = bits (s.rd Hid.rtcShift) 0 15 ∧
      t.rd Reg.RTC_STAT_SHIFT_PEND = s.rd Reg.RTC_STAT_SHIFT_PEND)

/-- RTC_COMP_SAMPLE shows the temperature and, with COMP_EN, the clamped compensation of R277; RTC_COMP_WINDOW after 32 second ticks
starts a window with it, or with 0. RTC_OSC_STOP sets OSF. BACKUP_SWITCH_VBAT sets ON_VBAT and stamps the time where the stamp is
armed; BACKUP_SWITCH_MAIN clears it, and VBAT_LOW as well (the latter is the model's deduction, log entry 40; R284 clears VBAT_LOW
above 2.25 V). VBAT_LOW on battery sets VBAT_LOW and its clear clears it. RETENTION_LATCH_TRIP trips the latch. (Rests on R270,
R272, R277, R283, R284) -/
def Obligations.BackupDomainEvents : Prop :=
  (∀ (s : State) (temp : Int), s.on Reg.RTC_COMP1_COMP_EN = true →
    ∃ t, exec (.rtcCompSample temp) s = .next t ∧ t.rd Reg.RTC_COMP_STAT_TEMP = ofI 16 temp ∧
      t.rdI Reg.RTC_COMP_STAT_N 0 = clampI (-255) 255 (rndUp (s.rdI Reg.RTC_COMP0_OFFSET 0 * 4194304 +
        s.rdI Reg.RTC_COMP1_K 0 * ((temp - s.rdI Reg.RTC_COMP0_T0 0) * (temp - s.rdI Reg.RTC_COMP0_T0 0))) 1024000000)) ∧
  (∀ s : State, s.rd Hid.rtcSecs = 0 → ∃ t, exec .rtcCompWindow s = .next t ∧
    t.rd Hid.rtcCompN = if s.on Reg.RTC_COMP1_COMP_EN = true then s.rd Reg.RTC_COMP_STAT_N % 512 else 0) ∧
  (∀ s : State, ∃ t, exec .rtcOscStop s = .next t ∧ t.rd Reg.RTC_STAT_OSF = 1 ∧ t.rd Hid.oscStopped = 1) ∧
  (∀ s : State, ∃ t, exec .rtcOscRestart s = .next t ∧ t.rd Hid.oscStopped = 0 ∧ t.rd Reg.RTC_STAT_OSF = s.rd Reg.RTC_STAT_OSF) ∧
  (∀ (s : State) (vbat : Bool), s.on Reg.RTC_STAT_ON_VBAT = false → s.on Reg.RTC_STAMP_DATE_STAMPED = false →
    ∃ t, exec (.backupSwitchVbat vbat) s = .next t ∧ t.rd Reg.RTC_STAT_ON_VBAT = 1 ∧ t.rd Reg.RTC_STAMP_DATE_STAMPED = 1 ∧
      t.rd Reg.RTC_STAMP_TIME_SEC = s.rd Reg.RTC_TIME_SEC % 64 ∧ t.rd Reg.RTC_STAMP_TIME_MIN = s.rd Reg.RTC_TIME_MIN % 64 ∧
      t.rd Reg.RTC_STAMP_TIME_HOUR = s.rd Reg.RTC_TIME_HOUR % 32 ∧ t.rd Reg.RTC_STAMP_DATE_DAY = s.rd Reg.RTC_DATE_DAY % 32) ∧
  (∀ s : State, ∃ t, exec .backupSwitchMain s = .next t ∧ t.rd Reg.RTC_STAT_ON_VBAT = 0 ∧ t.rd Reg.RTC_STAT_VBAT_LOW = 0) ∧
  (∀ s : State, s.on Reg.RTC_STAT_ON_VBAT = true → s.on Reg.RTC_STAT_VBAT_LOW = false → s.mode ≠ mBackup →
    ∃ t, exec .vbatLow s = .next t ∧ t.rd Reg.RTC_STAT_VBAT_LOW = 1 ∧ bit t.intCause 8 = true) ∧
  (∀ s : State, ∃ t, exec .vbatLowClear s = .next t ∧ t.rd Reg.RTC_STAT_VBAT_LOW = 0) ∧
  (∀ s : State, ∃ t, exec .retentionLatchTrip s = .next t ∧ t.rd Hid.latch = 1)

/-- BO_OVERCURRENT turns an output off and flags it. BO_OC_RESTART and BO_MIN_TIME_EXPIRY turn on an output that is wanted and not
blocked. BO_OPEN_LOAD flags an output that is on with OPEN_EN. (Rests on R242, R243, R244) -/
def Obligations.BinaryOutputs : Prop :=
  (∀ (s : State) (n : Fin 6), s.onAt Reg.BO_STATE_OUT n.val = true →
    ∃ t, exec (.boOvercurrent n) s = .next t ∧ t.rdAt Reg.BO_STATE_OUT n.val = 0 ∧ bit (t.rd Reg.BO_FLAGS_OC) n.val = true) ∧
  (∀ (s : State) (n : Fin 6), s.onAt Hid.boOc n.val = true → s.onAt Reg.BO_STATE_OUT n.val = false → s.boWanted n.val = true →
    s.boBlocked n.val = false →
    ∃ t, exec (.boOcRestart n) s = .next t ∧ t.rdAt Reg.BO_STATE_OUT n.val = 1 ∧ t.rdAt Hid.boOc n.val = 0) ∧
  (∀ (s : State) (n : Fin 6), s.rdAt Reg.BO_STATE_WAIT n.val ≠ 0 → s.onAt Hid.boOc n.val = false →
    s.onAt Reg.BO_STATE_OUT n.val = false → s.boWanted n.val = true → s.boBlocked n.val = false →
    ∃ t, exec (.boMinTimeExpiry n) s = .next t ∧ t.rdAt Reg.BO_STATE_OUT n.val = 1 ∧ t.rdAt Reg.BO_STATE_WAIT n.val = 0) ∧
  (∀ (s : State) (n : Fin 6), s.onAt Reg.BO_CFG_OPEN_EN n.val = true → s.onAt Reg.BO_STATE_OUT n.val = true →
    ∃ t, exec (.boOpenLoad n) s = .next t ∧ bit (t.rd Reg.BO_FLAGS_OPEN) n.val = true)

/-- A grid time of a PULSED channel in OFF starts it: with HOLD where T_PEAK is 0, else with a peak, for which it waits while its
partner is in PEAK. One that finds the channel in WAIT, PEAK or HOLD leaves it there and moves the origin of its pulse to this tick.
VALVE_PEAK_END of an ON_OFF channel without partner leaves it in HOLD; VALVE_HOLD_END turns a PULSED channel in HOLD off.
VALVE_COIL_BAND_READ takes every channel's band from its coil temperature. VALVE_OFF_TEST_START puts under test every channel that
R229 takes in. VALVE_OFF_TEST_DONE gives a low-side-only channel its result and age 0. VALVE_OPEN_LOAD_CHECK below 20 mA flags an
open load. A low-side overcurrent latches FAULT with cause 1; a high-side one with too little low-side current blocks the switch,
and a first one with enough turns its running channels off to restart. VALVE_HS_OC_RESTART ends the wait. (Rests on R218, R220,
R221, R222, R223, R229, R230, R231, R232) -/
def Obligations.ValveChannels : Prop :=
  (∀ (s : State) (n : Fin 8), s.onAt Hid.vlvGrid n.val = true → s.rdAt Reg.VLV_CFG_MODE n.val = 2 → s.vlvWants n.val = true →
    s.vlvActive n.val = true → s.vlv n.val = vOff → s.onAt Hid.vlvOcWait n.val = false → s.vlvPartner n.val = none →
    s.tPeak n.val (s.rdAt Hid.vlvBandNow n.val) ≠ 0 →
    ∃ t, exec (.valvePulseGrid n) s = .next t ∧ t.vlv n.val = vPeak ∧ t.rdAt Hid.vlvOrg n.val = s.tick % 2 ^ 48) ∧
  (∀ (s : State) (n : Fin 8), s.onAt Hid.vlvGrid n.val = true → s.rdAt Reg.VLV_CFG_MODE n.val = 2 → s.vlvWants n.val = true →
    s.vlvActive n.val = true → 2 ≤ s.vlv n.val → s.vlv n.val ≤ 4 →
    ∃ t, exec (.valvePulseGrid n) s = .next t ∧ t.vlv n.val = s.vlv n.val ∧ t.rdAt Hid.vlvOrg n.val = s.tick % 2 ^ 48) ∧
  (∀ (s : State) (n p : Fin 8), s.onAt Hid.vlvGrid n.val = true → s.rdAt Reg.VLV_CFG_MODE n.val = 2 → s.vlvWants n.val = true →
    s.vlvActive n.val = true → s.vlv n.val = vOff → s.onAt Hid.vlvOcWait n.val = false → s.vlvPartner n.val = some p.val →
    s.tPeak n.val (s.rdAt Hid.vlvBandNow n.val) ≠ 0 → s.vlv p.val ≠ vPeak →
    ∃ t, exec (.valvePulseGrid n) s = .next t ∧ t.vlv n.val = vPeak ∧ t.vlv p.val = s.vlv p.val ∧
      t.rdAt Hid.vlvOrg n.val = s.tick % 2 ^ 48) ∧
  (∀ (s : State) (n p : Fin 8), s.onAt Hid.vlvGrid n.val = true → s.rdAt Reg.VLV_CFG_MODE n.val = 2 → s.vlvWants n.val = true →
    s.vlvActive n.val = true → s.vlv n.val = vOff → s.onAt Hid.vlvOcWait n.val = false → s.vlvPartner n.val = some p.val →
    s.tPeak n.val (s.rdAt Hid.vlvBandNow n.val) ≠ 0 → s.vlv p.val = vPeak →
    ∃ t, exec (.valvePulseGrid n) s = .next t ∧ t.vlv n.val = vWait ∧ t.vlv p.val = vPeak) ∧
  (∀ (s : State) (n : Fin 8), s.onAt Hid.vlvGrid n.val = true → s.rdAt Reg.VLV_CFG_MODE n.val = 2 → s.vlvWants n.val = true →
    s.vlvActive n.val = true → s.vlv n.val = vOff → s.onAt Hid.vlvOcWait n.val = false →
    s.tPeak n.val (s.rdAt Hid.vlvBandNow n.val) = 0 →
    ∃ t, exec (.valvePulseGrid n) s = .next t ∧ t.vlv n.val = vHold ∧ t.rdAt Hid.vlvOrg n.val = s.tick % 2 ^ 48) ∧
  (∀ (s : State) (n : Fin 8), s.vlv n.val = vPeak → s.rdAt Reg.VLV_CFG_MODE n.val = 1 → s.vlvPartner n.val = none →
    ∃ t, exec (.valvePeakEnd n) s = .next t ∧ t.vlv n.val = vHold) ∧
  (∀ (s : State) (n : Fin 8), s.vlv n.val = vHold → s.rdAt Reg.VLV_CFG_MODE n.val = 2 →
    ∃ t, exec (.valveHoldEnd n) s = .next t ∧ t.vlv n.val = vOff) ∧
  (∀ s : State, s.alive = true → s.operating = true →
    ∃ t, exec .valveCoilBandRead s = .next t ∧ (∀ n : Nat, n < 8 → t.rdAt Hid.vlvBandNow n = s.vlvBand n)) ∧
  (∀ (s : State) (h : Fin 4), s.alive = true → s.operating = true →
    ∃ t, exec (.valveOffTestStart h) s = .next t ∧ (∀ n ∈ (s.vlvTestable h.val).1, t.onAt Hid.vlvTest n = true)) ∧
  (∀ (s : State) (h : Fin 4) (limit : Bool) (low1 high2 low2 : Fin 4), s.onAt Hid.vlvTest (2 * h.val) = true →
    s.onAt Reg.VLV_CFG_HS_USE (2 * h.val) = false → s.onAt Hid.vlvHsTest h.val = false →
    ∃ t, exec (.valveOffTestDone h limit low1 high2 low2) s = .next t ∧
      t.rdAt Reg.VLV_DIAG_OFF_RES (2 * h.val) = (if bit low2.val 0 then 5 else 1) ∧ t.rdAt Reg.VLV_DIAG_OFF_AGE (2 * h.val) = 0 ∧
      t.onAt Hid.vlvTest (2 * h.val) = false) ∧
  (∀ (s : State) (n : Fin 8) (current : Nat), s.vlv n.val = vHold → current < 20 →
    ∃ t, exec (.valveOpenLoadCheck n current) s = .next t ∧ t.rdAt Reg.VLV_DIAG_ON_RES n.val = 2 ∧
      bit (t.rd Reg.VLV_FLAGS_OPEN) n.val = true) ∧
  (∀ (s : State) (n : Fin 8) (current : Nat), s.vlv n.val = vHold → 20 ≤ current →
    ∃ t, exec (.valveOpenLoadCheck n current) s = .next t ∧ t.rdAt Reg.VLV_DIAG_ON_RES n.val = 1) ∧
  (∀ (s : State) (n : Fin 8), (s.vlv n.val = vPeak ∨ s.vlv n.val = vHold) →
    ∃ t, exec (.valveLowSideOvercurrent n) s = .next t ∧ t.vlv n.val = vFault ∧ t.rdAt Reg.VLV_DIAG_CAUSE n.val = 1 ∧
      t.rdAt Reg.VLV_DIAG_ON_RES n.val = 4 ∧ bit (t.rd Reg.VLV_FLAGS_SHORT_SUP) n.val = true ∧ bit t.intCause 6 = true) ∧
  (∀ (s : State) (h : Fin 4) (lowSum : Nat), s.hsOn h.val = true → lowSum < 40 →
    ∃ t, exec (.valveHighSideOvercurrent h lowSum) s = .next t ∧ bit (t.rd Reg.VLV_HS_BLOCKED) h.val = true ∧
      bit (t.rd Reg.VLV_FLAGS_SHORT_GND) h.val = true) ∧
  (∀ (s : State) (h : Fin 4) (lowSum : Nat), s.hsOn h.val = true → 40 ≤ lowSum → s.rdAt Hid.vlvOcAt (2 * h.val + 1) = 0 →
    ∃ t, exec (.valveHighSideOvercurrent h lowSum) s = .next t ∧ bit (t.rd Reg.VLV_FLAGS_HS_OC) h.val = true ∧
      (∀ n ∈ s.hsServes h.val, 2 ≤ s.vlv n → s.vlv n ≤ 4 → t.vlv n = vOff ∧ t.onAt Hid.vlvOcWait n = true)) ∧
  (∀ (s : State) (n : Fin 8), s.onAt Hid.vlvOcWait n.val = true →
    ∃ t, exec (.valveHsOcRestart n) s = .next t ∧ t.onAt Hid.vlvOcWait n.val = false)

/-- DAMPER_SCHED_TICK with one damper in need of a slot and a free slot starts it, homing first where its position is not known.
DAMPER_MOVE_DONE, taken whenever the damper moves (log entry 13), leaves it idle at its target. DAMPER_STALL at STALL_MIN or faster
ends a homing at 0 with POS_OK, homes again after the first stall of a move and faults after the second; below STALL_MIN it does
nothing. DAMPER_PREEMPT_STOP puts a stopping damper, at the position that its operand gives (log entry 13), in front of the queue.
DAMPER_HOME_FAIL, DAMPER_BRIDGE_OVERCURRENT and DAMPER_OPEN_WINDING put the damper in FAULT with causes 1, 4 and 5 and raise DMP.
DAMPER_FEEDBACK_CHECK within the tolerance shows the position, which it reads as unsigned (the model's deduction, log entry 37), and
changes no state of the damper. (Rests on R234, R235, R236, R237, R239, R238, R241) -/
def Obligations.DamperRuns : Prop :=
  (∀ (s : State) (d : Fin 4), s.dmpActive = true → s.dmp.moving = [] → s.dmp.front = [] → s.dmp.queue = [] → 1 ≤ s.dmpLimit →
    s.dst d.val = 1 → s.dmpNeeds d.val = true → (∀ e : Nat, e < 4 → e ≠ d.val → s.dst e ≠ 1 ∧ s.dst e ≠ 2) →
    ∃ t, exec .damperSchedTick s = .next t ∧ t.dmp.moving = [(s.dmp.stamp, d.val)] ∧
      t.dst d.val = if s.onAt Reg.DMP_STATE_POS_OK d.val = false ∨ s.onAt Hid.dmpHome d.val = true then 4 else 3) ∧
  (∀ (s : State) (d : Fin 4), s.dst d.val = 3 →
    ∃ t, exec (.damperMoveDone d) s = .next t ∧ t.dst d.val = 1 ∧
      t.rdAt Reg.DMP_POS_POS d.val = s.dmpTarget d.val % 2 ^ Reg.DMP_POS_POS.w ∧ (∀ p ∈ t.dmp.moving, p.2 ≠ d.val)) ∧
  (∀ (s : State) (d : Fin 4), s.rdAt Reg.DMP_STALL_STALL_MIN d.val * 1000 ≤ s.rdAt Hid.dmpVel d.val → s.dst d.val = 4 →
    s.dmpTarget d.val = 0 →
    ∃ t, exec (.damperStall d) s = .next t ∧ t.dst d.val = 1 ∧ t.rdAt Reg.DMP_POS_POS d.val = 0 ∧ t.rdAt Reg.DMP_STATE_POS_OK d.val = 1) ∧
  (∀ (s : State) (d : Fin 4), s.rdAt Reg.DMP_STALL_STALL_MIN d.val * 1000 ≤ s.rdAt Hid.dmpVel d.val → s.dst d.val = 3 →
    s.onAt Hid.dmpStalled d.val = false →
    ∃ t, exec (.damperStall d) s = .next t ∧ t.dst d.val = 4 ∧ t.rdAt Reg.DMP_STATE_POS_OK d.val = 0 ∧
      bit (t.rd Reg.DMP_FLAGS_STALL) d.val = true) ∧
  (∀ (s : State) (d : Fin 4), s.rdAt Reg.DMP_STALL_STALL_MIN d.val * 1000 ≤ s.rdAt Hid.dmpVel d.val → s.dst d.val = 3 →
    s.onAt Hid.dmpStalled d.val = true →
    ∃ t, exec (.damperStall d) s = .next t ∧ t.dst d.val = 5 ∧ t.rdAt Reg.DMP_STATE_CAUSE d.val = 2 ∧ bit t.intCause 7 = true) ∧
  (∀ (s : State) (d : Fin 4), s.rdAt Hid.dmpVel d.val < s.rdAt Reg.DMP_STALL_STALL_MIN d.val * 1000 →
    ∃ t, exec (.damperStall d) s = .next t ∧ t.regs = s.regs ∧ t.dmp = s.dmp) ∧
  (∀ (s : State) (d : Fin 4) (pos : Nat), s.dmp.stopping.contains d.val = true → s.dmpActive = true → s.dst d.val = 3 →
    ∃ t, exec (.damperPreemptStop d pos) s = .next t ∧ t.dst d.val = 2 ∧
      t.rdAt Reg.DMP_POS_POS d.val = min pos (s.dmpTravel d.val) % 2 ^ Reg.DMP_POS_POS.w ∧
      t.dmp.front.any (fun p => p.2 == d.val) = true ∧ t.dmp.stopping.contains d.val = false) ∧
  (∀ (s : State) (d : Fin 4), s.dst d.val = 4 →
    ∃ t, exec (.damperHomeFail d) s = .next t ∧ t.dst d.val = 5 ∧ t.rdAt Reg.DMP_STATE_CAUSE d.val = 1 ∧
      bit (t.rd Reg.DMP_FLAGS_HOME_FAIL) d.val = true ∧ bit t.intCause 7 = true) ∧
  (∀ (s : State) (d : Fin 4), s.dmpActive = true → (s.dst d.val = 3 ∨ s.dst d.val = 4) →
    ∃ t, exec (.damperBridgeOvercurrent d) s = .next t ∧ t.dst d.val = 5 ∧ t.rdAt Reg.DMP_STATE_CAUSE d.val = 4 ∧
      bit (t.rd Reg.DMP_FLAGS_BRIDGE) d.val = true ∧ bit t.intCause 7 = true) ∧
  (∀ (s : State) (d : Fin 4), (s.dst d.val = 3 ∨ s.dst d.val = 4) →
    ∃ t, exec (.damperOpenWinding d) s = .next t ∧ t.dst d.val = 5 ∧ t.rdAt Reg.DMP_STATE_CAUSE d.val = 5 ∧
      bit (t.rd Reg.DMP_FLAGS_BRIDGE) d.val = true ∧ bit t.intCause 7 = true) ∧
  (∀ (s : State) (d : Fin 4), s.onAt Hid.dmpFb d.val = true → s.onAt Reg.DMP_CFG_FB_EN d.val = true → s.dmpActive = true →
    s.onAt Reg.UI_VALUE_VALID (s.rdAt Reg.DMP_CFG_FB_IN d.val) = true →
    absDiff (fbOf (s.rdAt Reg.UI_VALUE_VALUE (s.rdAt Reg.DMP_CFG_FB_IN d.val)) (s.rdAt Reg.DMP_FB_FB_LO d.val)
      (s.rdAt Reg.DMP_FB_FB_HI d.val)) (s.dmpValue d.val) ≤ s.rdAt Reg.DMP_FB_TOL_TOL d.val →
    ∃ t, exec (.damperFeedbackCheck d) s = .next t ∧ t.rdAt Reg.DMP_FBPOS_FB_VALID d.val = 1 ∧ t.dst d.val = s.dst d.val ∧
      t.rdAt Reg.DMP_FBPOS_FB_POS d.val = fbOf (s.rdAt Reg.UI_VALUE_VALUE (s.rdAt Reg.DMP_CFG_FB_IN d.val))
        (s.rdAt Reg.DMP_FB_FB_LO d.val) (s.rdAt Reg.DMP_FB_FB_HI d.val))

/-- Channel 0 goes from CATCH to ALIGN at the time limit and to RUN at a turning rotor (the operand `field` of
FAN_OBSERVER_CONVERGED is not used, since State holds the field speed: the model's choice, log entry 67); an open phase in ALIGN
locks it with cause 2; ALIGN ends in RAMP; RAMP ends in RUN, at the observed speed, once the field has reached MIN_RPM and the
observed speed is within 12.5 % of it, or in RETRY_WAIT while attempts are left; RETRY_WAIT ends in ALIGN; a stop ends in STOPPED
once the reference has fallen to MIN_RPM; COAST ends in CATCH with a demand. A first overcurrent with the gates driven coasts
channel 0 and flags it. VDRV low blocks the drive and shows in PWR_STAT, and VDRV good clears both. A low bootstrap is flagged. A
synchronisation loss in RUN coasts. FAN_STALL_WAIT_END without demand stops the channel. FAN_STALL_CNT_RESET in RUN clears the
count. (Rests on R198, R199, R201, R202, R203, R332) -/
def Obligations.DirectFan : Prop :=
  (∀ s : State, s.fan 0 = fCatch → ∃ t, exec .fanCatchTimeout s = .next t ∧ t.fan 0 = fAlign) ∧
  (∀ s : State, s.fan 0 = fAlign →
    ∃ t, exec .fanAlignOpenPhase s = .next t ∧ t.fan 0 = fLocked ∧ t.rd Reg.FAN_STATE_LOCK_CAUSE = 2 ∧ bit t.intCause 5 = true) ∧
  (∀ s : State, s.fan 0 = fAlign → ∃ t, exec .fanAlignDone s = .next t ∧ t.fan 0 = fRamp ∧ t.rd Hid.fanRef = 0) ∧
  (∀ (s : State) (speed field : Nat), s.fan 0 = fCatch → s.rd Reg.FAN_SPD_LIM_MIN_RPM ≤ speed →
    ∃ t, exec (.fanObserverConverged speed field true) s = .next t ∧ t.fan 0 = fRun) ∧
  (∀ (s : State) (speed field : Nat) (dir : Bool), s.fan 0 = fRamp →
    s.rd Reg.FAN_SPD_LIM_MIN_RPM * 1000 ≤ s.rd Hid.fanRef → s.fanNear speed = true →
    ∃ t, exec (.fanObserverConverged speed field dir) s = .next t ∧ t.fan 0 = fRun ∧
      t.rd Hid.fanRef = speed * 1000 % 2 ^ Hid.fanRef.w ∧ t.rd Reg.FAN_MEAS_SPEED = speed % 2 ^ Reg.FAN_MEAS_SPEED.w) ∧
  (∀ s : State, s.fan 0 = fRamp → s.rd Reg.FAN_STATE_ATTEMPT < 3 →
    ∃ t, exec .fanRampTimeout s = .next t ∧ t.fan 0 = fRetry ∧ t.rd Reg.FAN_STATE_ATTEMPT = s.rd Reg.FAN_STATE_ATTEMPT + 1) ∧
  (∀ s : State, s.fan 0 = fRetry → ∃ t, exec .fanRetryWaitEnd s = .next t ∧ t.fan 0 = fAlign) ∧
  (∀ s : State, s.fan 0 = fRun → s.fanD 0 = 0 → s.rd Hid.fanRef ≤ s.rd Reg.FAN_SPD_LIM_MIN_RPM * 1000 →
    ∃ t, exec .fanStopDone s = .next t ∧ t.fan 0 = fStopped ∧ t.rd Hid.fanRef = 0) ∧
  (∀ s : State, s.fan 0 = fCoast → s.on Hid.vdrvBlock = false → s.fanD 0 ≠ 0 →
    ∃ t, exec .fanCoastEnd s = .next t ∧ t.fan 0 = fCatch ∧ t.rd Reg.FAN_STATE_ATTEMPT = 0) ∧
  (∀ s : State, s.fanGates = true → s.rdAt Hid.fanOcAt 0 = 0 → s.rdAt Hid.fanOcAt 1 = 0 →
    ∃ t, exec .fanOvercurrent s = .next t ∧ t.fan 0 = fCoast ∧ bit (t.rd Reg.FAN_FLAGS_FLAGS) 4 = true) ∧
  (∀ s : State, s.alive = true → s.on Reg.PWR_STAT_VDRV_LOW = false →
    ∃ t, exec .fanVdrvLow s = .next t ∧ t.rd Reg.PWR_STAT_VDRV_LOW = 1 ∧ t.rd Hid.vdrvBlock = 1 ∧
      bit (t.rd Reg.PWR_FLAGS_FLAGS) 4 = true ∧ bit (t.rd Reg.FAN_FLAGS_FLAGS) 5 = true) ∧
  (∀ s : State, ∃ t, exec .fanVdrvGood s = .next t ∧ t.rd Reg.PWR_STAT_VDRV_LOW = 0 ∧ t.rd Hid.vdrvBlock = 0) ∧
  (∀ (s : State) (periods : Nat), s.fanGates = true →
    ∃ t, exec (.fanBootstrapLow periods) s = .next t ∧ bit (t.rd Reg.FAN_FLAGS_FLAGS) 6 = true) ∧
  (∀ s : State, s.fan 0 = fRun →
    ∃ t, exec .fanSyncLoss s = .next t ∧ t.fan 0 = fCoast ∧ bit (t.rd Reg.FAN_FLAGS_FLAGS) 7 = true) ∧
  (∀ (s : State) (n : Fin 3), s.fan n.val = fStalled → s.fanD n.val = 0 →
    ∃ t, exec (.fanStallWaitEnd n) s = .next t ∧ t.fan n.val = fStopped) ∧
  (∀ (s : State) (n : Fin 3), s.fan n.val = fRun →
    ∃ t, exec (.fanStallCntReset n) s = .next t ∧
      (if n.val = 0 then t.rd Reg.FAN_STATE_STALL_CNT else t.rdAt Reg.FANT_STATE_STALL_CNT (n.val - 1)) = 0)

/-- A plausible edge gives the speed of 30 s over its interval where that is whole; 600 ms without one gives 0. With no speed error
and no integral the duty of FAN_SPEED_STEP is the table's. TSTART without an edge kicks with full duty; a kick without one stalls
with duty 0. A lost tachometer drives open loop from the table. In AUTONOMOUS the table commands a channel with SRC 1. (Rests on
R205, R206, R207, R208, R209, R210) -/
def Obligations.TachometerFans : Prop :=
  (∀ (s : State) (k : Fin 2) (us : Nat), s.fanActive (k.val + 1) = true → s.fan (k.val + 1) ≠ 0 → 0 < us → 100 * us ≤ 30000000 →
    30000000 ≤ s.rdAt Reg.FANT_LIM_MAX_RPM k.val * us → 30000000 % us = 0 →
    ∃ t, exec (.fanTachEdge k us) s = .next t ∧ t.rdAt Reg.FANT_MEAS_SPEED k.val = 30000000 / us % 2 ^ Reg.FANT_MEAS_SPEED.w) ∧
  (∀ (s : State) (k : Fin 2), ∃ t, exec (.fanTachSpeedTimeout k) s = .next t ∧ t.rdAt Reg.FANT_MEAS_SPEED k.val = 0) ∧
  (∀ (s : State) (k : Fin 2), s.fan (k.val + 1) = fRun → s.onAt Reg.FANT_CTRL_TACH_EN k.val = true →
    s.fanActive (k.val + 1) = true → s.fanD (k.val + 1) = s.rdAt Reg.FANT_MEAS_SPEED k.val → s.rdI Hid.fanInt k.val = 0 →
    ∃ t, exec (.fanSpeedStep k) s = .next t ∧
      t.rdAt Reg.FANT_MEAS_DUTY k.val = min 65535 (s.fanTable (k.val + 1) (s.fanD (k.val + 1)))) ∧
  (∀ (s : State) (k : Fin 2), s.fan (k.val + 1) = fCatch → s.onAt Reg.FANT_CTRL_TACH_EN k.val = true →
    ∃ t, exec (.fanTstartTimeout k) s = .next t ∧ t.fan (k.val + 1) = fAlign ∧ t.rdAt Reg.FANT_MEAS_DUTY k.val = 65535) ∧
  (∀ (s : State) (k : Fin 2), s.fan (k.val + 1) = fAlign → s.onAt Reg.FANT_CTRL_TACH_EN k.val = true → s.rdAt Reg.FANT_STATE_STALL_CNT k.val < 9 →
    ∃ t, exec (.fanKickEnd k) s = .next t ∧ t.fan (k.val + 1) = fStalled ∧ t.rdAt Reg.FANT_MEAS_DUTY k.val = 0 ∧
      t.rdAt Reg.FANT_STATE_STALL_CNT k.val = s.rdAt Reg.FANT_STATE_STALL_CNT k.val + 1) ∧
  (∀ (s : State) (k : Fin 2), s.fan (k.val + 1) = fRun → s.onAt Reg.FANT_CTRL_TACH_EN k.val = true →
    13107 < s.rdAt Reg.FANT_MEAS_DUTY k.val →
    ∃ t, exec (.fanTachLost k) s = .next t ∧ t.fan (k.val + 1) = fRetry ∧ t.rdAt Reg.FANT_STATE_TACH_LOST k.val = 1 ∧
      t.rdAt Reg.FANT_MEAS_DUTY k.val = s.fanTable (k.val + 1) (s.fanD (k.val + 1)) % 2 ^ 16 ∧ bit t.intCause 5 = true) ∧
  (∀ (s : State) (n : Fin 3), s.mode = mAuto → bit (s.rd Reg.FAN_COMMON_SRC) n.val = true → s.alive = true →
    ∃ t, exec (.fanAutoTableStep n) s = .next t ∧
      t.actQ = s.actQ ++ [{ kind := 3, index := n.val, value := (s.autoSpeed n.val).1 + 65536, src := 160 }])

/-- LINK_UP on an enabled port shows the link, its amplitude and quality. LINK_DOWN drops the address, flags and raises NET. An
accepted echo request is answered, unless the buffer of the answer has an error, which is recorded. A new lease is probed with three
ARP probes before it is used (for 4 to 8 seconds, log entry 70). DHCP renewal sends a request, the end of a lease drops the address,
no offer is flagged. A conflict drops a static address, and an unanswered probe takes it again. A failed registration shows
FDR_STATE 3; a standing one is sent again. (Rests on R26, R355, R356, R358, R360) -/
def Obligations.LinkAndAddress : Prop :=
  (∀ (s : State) (p24 eee : Bool) (sqi : Fin 8), s.netOn = true → s.netEn 0 = true → s.on Reg.NET_STAT_LINK = false →
    ∃ t, exec (.linkUp p24 eee sqi) s = .next t ∧ t.rd Reg.NET_STAT_LINK = 1 ∧ t.rd Reg.NET_PHY_SQI = sqi.val ∧
      t.rd Reg.NET_STAT_AMPL = amplOf (s.rd Reg.NET_PHY_AMPL_CFG) p24) ∧
  (∀ s : State, s.on Reg.NET_STAT_LINK = true →
    ∃ t, exec .linkDown s = .next t ∧ t.rd Reg.NET_STAT_LINK = 0 ∧ t.rd Reg.NET_STAT_IP_OK = 0 ∧
      bit (t.rd Reg.NET_FLAGS_FLAGS) 0 = true ∧ bit t.intCause 11 = true) ∧
  (∀ (s : State) (f : EthFrame), s.t1l = true → frameDropped f = false → f.memOk = true → f.txOk = true → f.dest = .own → f.fragment = false →
    f.load = .echo → s.on Reg.NET_STAT_IP_OK = true → s.net.txBad = false →
    ∃ t, exec (.ethFrameRx f) s = .next t ∧ t.net.out = [.send .echoReply] ∧ t.regs = s.regs) ∧
  (∀ (s : State) (f : EthFrame), s.t1l = true → frameDropped f = false → f.memOk = true → f.txOk = false → f.dest = .own → f.fragment = false →
    f.load = .echo → s.on Reg.NET_STAT_IP_OK = true →
    ∃ t, exec (.ethFrameRx f) s = .next t ∧ t.net.out = [] ∧ t.rd Reg.MEM_ERR_MAC = 1 ∧ t.net.txBad = false) ∧
  (∀ (s : State) (f : EthFrame) (addr mask gw dns : Nat), s.t1l = true → frameDropped f = false → f.memOk = true → f.txOk = true → f.dest = .own →
    f.fragment = false → f.load = .dhcpLease addr mask gw dns → s.net.txBad = false → s.on Reg.NET_CTRL_DHCP_EN = true → s.rd Hid.ipSrc = 1 →
    s.on Reg.NET_STAT_IP_OK = false →
    ∃ t, exec (.ethFrameRx f) s = .next t ∧ t.net.out = [.send .arpProbe, .send .arpProbe, .send .arpProbe] ∧ t.on Reg.NET_STAT_IP_OK = false ∧
      4 ≤ t.rd Hid.ipWait ∧ t.rd Hid.ipWait ≤ 8 ∧ t.rd Hid.ipCand = addr % 2 ^ 32) ∧
  (∀ s : State, s.t1l = true → s.on Reg.NET_CTRL_DHCP_EN = true → s.rd Hid.ipSrc = 1 → s.on Reg.NET_STAT_IP_OK = true →
    s.net.txBad = false →
    ∃ t, exec (.dhcpTimer .renew) s = .next t ∧ t.net.out = [.send .dhcpRequest] ∧ t.regs = s.regs) ∧
  (∀ s : State, s.t1l = true → s.on Reg.NET_CTRL_DHCP_EN = true → s.rd Hid.ipSrc = 1 → s.on Reg.NET_STAT_IP_OK = true →
    ∃ t, exec (.dhcpTimer .expired) s = .next t ∧ t.rd Reg.NET_STAT_IP_OK = 0 ∧ t.rd Hid.ipSrc = 1) ∧
  (∀ s : State, s.t1l = true → s.on Reg.NET_CTRL_DHCP_EN = true → s.rd Hid.ipSrc = 1 → s.on Reg.NET_STAT_IP_OK = false →
    s.rd Hid.ipWait = 0 →
    ∃ t, exec (.dhcpTimer .noOffer) s = .next t ∧ bit (t.rd Reg.NET_FLAGS_FLAGS) 2 = true) ∧
  (∀ s : State, s.t1l = true → s.rd Hid.ipSrc = 2 →
    ∃ t, exec .ipConflict s = .next t ∧ t.rd Reg.NET_STAT_IP_OK = 0 ∧ bit (t.rd Reg.NET_FLAGS_FLAGS) 1 = true ∧ t.rd Hid.ipSrc = 2) ∧
  (∀ s : State, s.t1l = true → s.rd Hid.ipSrc = 2 → s.on Reg.NET_STAT_IP_OK = false → s.rd Hid.ipWait = 0 →
    ∃ t, exec (.staticReprobe false) s = .next t ∧ t.rd Reg.NET_STAT_IP_OK = 1 ∧ t.rd Reg.NET_IP_ADDR_ADDR = s.netImg.ip % 2 ^ 32) ∧
  (∀ s : State, s.t1l = true → s.netEn 1 = true → s.on Reg.NET_CTRL_FDR_EN = true → s.on Reg.NET_STAT_IP_OK = true →
    ∃ t, exec (.fdrTimer true) s = .next t ∧ t.rd Reg.NET_FDR_FDR_STATE = 3) ∧
  (∀ s : State, s.t1l = true → s.netEn 1 = true → s.on Reg.NET_CTRL_FDR_EN = true → s.on Reg.NET_STAT_IP_OK = true →
    s.rd Reg.NET_FDR_FDR_STATE = 2 → s.net.txBad = false →
    ∃ t, exec (.fdrTimer false) s = .next t ∧ t.rd Reg.NET_FDR_FDR_STATE = 2 ∧ t.net.out = [.send .fdrRegister])

/-- An attempt whose primary answers with a chain that the controller accepts connects to it (SC_STATE 4), whether the image names
the hub by address or, with a DNS server, by name; a chain that it refuses ends in the wait with TLS_FAIL where the failover hub is
out of reach. The loss of the primary's connection leads back to connecting, the failover hub next. A due heartbeat is sent. Key
generation stores the pair in OTP: a private key from 1 to n − 1, formed from the operand as log entry 58 has it, and the public key
that belongs to it. (Rests on R361, R362, R363, R364) -/
def Obligations.SecureConnect : Prop :=
  (∀ (s : State) (ip : Nat) (chain : HubChain) (fo : ScTry), s.t1l = true → s.on Reg.NET_STAT_IP_OK = true →
    s.netImg.hubs.getD 0 none = some (.address ip) → s.on Hid.scOn = true → s.rd Reg.NET_STAT_SC_STATE = 3 → s.on Hid.scAlt = false →
    s.chainOk chain = true →
    ∃ t, exec (.scConnectAttempt (.connected chain) fo) s = .next t ∧ t.rd Reg.NET_STAT_SC_STATE = 4 ∧ t.rd Reg.NET_SC_STAT_WAIT = 0) ∧
  (∀ (s : State) (n : List Nat) (chain : HubChain) (fo : ScTry), s.t1l = true → s.on Reg.NET_STAT_IP_OK = true →
    s.netImg.hubs.getD 0 none = some (.name n) → s.dnsServer ≠ 0 → s.on Hid.scOn = true → s.rd Reg.NET_STAT_SC_STATE = 3 →
    s.on Hid.scAlt = false → s.chainOk chain = true →
    ∃ t, exec (.scConnectAttempt (.connected chain) fo) s = .next t ∧ t.rd Reg.NET_STAT_SC_STATE = 4 ∧ t.rd Reg.NET_SC_STAT_WAIT = 0) ∧
  (∀ (s : State) (ip : Nat) (chain : HubChain), s.t1l = true → s.on Reg.NET_STAT_IP_OK = true →
    s.netImg.hubs.getD 0 none = some (.address ip) → s.on Hid.scOn = true → s.rd Reg.NET_STAT_SC_STATE = 3 → s.on Hid.scAlt = false →
    s.chainOk chain = false →
    ∃ t, exec (.scConnectAttempt (.connected chain) .unreachable) s = .next t ∧ t.rd Reg.NET_STAT_SC_STATE = 6 ∧
      bit (t.rd Reg.NET_FLAGS_FLAGS) 3 = true) ∧
  (∀ s : State, s.netOn = true → s.rd Reg.NET_STAT_SC_STATE = 4 →
    ∃ t, exec .scConnectionLost s = .next t ∧ t.rd Reg.NET_STAT_SC_STATE = 3 ∧ t.rd Hid.scAlt = 1) ∧
  (∀ s : State, s.netOn = true → s.scUp = true → s.net.txBad = false →
    ∃ t, exec .scHeartbeatDue s = .next t ∧ t.net.out = [.send .heartbeat] ∧ t.regs = s.regs) ∧
  (∀ (s : State) (random : Nat), s.netOn = true → s.netEn 2 = true → s.otp.keySet = false →
    ∃ t, exec (.scKeyGeneration random) s = .next t ∧ t.otp.keySet = true ∧ t.otp.priv = 1 + random % (n256 - 1) ∧
      t.otp.pub = toWords 8 ((gPoint.times (1 + random % (n256 - 1))).affine).1 ++ toWords 8 ((gPoint.times (1 + random % (n256 - 1))).affine).2 ∧
      t.otp.hash = s.otp.hash)

/-- A token makes the node its holder with token age 0, which sends Max_Info_Frames of the frames that wait; the end of its use
passes the token on and leaves the node idle (that frames wait for the token, that MAX_INFO of them go with each one and that it is
then passed on is the model's deduction, log entry 47: R366 gives the range of Max_Info_Frames). Without a token it flags NO_TOKEN
and polls for a master. NET_SUPERVISION_EXPIRY in the last second of the time out shows the network cause with LEFT 0. (Rests on
R366, R382) -/
def Obligations.MstpAndSupervision : Prop :=
  (∀ (s : State) (b : Fin 2), s.busOn b.val 1 = true →
    ∃ t, exec (.mstpFrame b .token) s = .next t ∧ t.rdAt Reg.BUS_STAT_STATE b.val = 2 ∧ t.rdAt Reg.BUS_STAT_TOKEN_AGE b.val = 0 ∧
      t.net.out = (s.net.queue.take (s.rdAt Reg.BUS_MSTP_MAX_INFO b.val)).flatMap (fun m => m.1) ∧ t.net.queue = s.net.queue.drop (s.rdAt Reg.BUS_MSTP_MAX_INFO b.val)) ∧
  (∀ (s : State) (b : Fin 2), s.busOn b.val 1 = true → s.rdAt Reg.BUS_STAT_STATE b.val = 2 →
    ∃ t, exec (.mstpFrame b .tokenUsed) s = .next t ∧ t.rdAt Reg.BUS_STAT_STATE b.val = 1 ∧ t.net.out = [.send .passToken]) ∧
  (∀ (s : State) (b : Fin 2), s.busOn b.val 1 = true →
    ∃ t, exec (.mstpNoToken b) s = .next t ∧ t.rdAt Reg.BUS_STAT_STATE b.val = 4 ∧
      bit (t.rdAt Reg.BUS_FLAGS_FLAGS b.val) 3 = true ∧ t.net.out = [.send .pollForMaster]) ∧
  (∀ s : State, s.rd Reg.NET_SUP_LEFT_LEFT ≤ 1 → s.on Reg.NET_SUP_SUP_EN = true → s.on Reg.PWR_STAT_NET_LOST = false → s.native = true → s.alive = true →
    ∃ t, exec .netSupervisionExpiry s = .next t ∧ t.rd Reg.PWR_STAT_NET_LOST = 1 ∧ t.rd Reg.NET_SUP_LEFT_LEFT = 0)

/-- Addressed to the device on a bus with the server, a read of a zone's holding register answers the value at priority 16; a read
of an input's register answers its value; a write of 1 to 4 to the register of an unforced zone forces the zone and is acknowledged;
a write of both halves of a coach's set-point register pair, outside an update, writes its word 8; identification answers the
objects of R367; any other function answers exception 1. A due entry's request is sent and awaits its reply. A reply of the entry's
width is scaled, exactly and rounded once (the model's choice, log entry 48), to the Analog Value at priority 16 and clears the
failure of its bus: MB_FAIL, which shows an entry's number for both buses (log entry 47), then shows the other bus's. The first
timeout sends the request once more; the second shows the failure. (Rests on R367, R384, R368) -/
def Obligations.ModbusServerAndClient : Prop :=
  (∀ (s : State) (b : Fin 2) (a : Fin 256) (z : Fin 16), s.busOn b.val 2 = true → a.val = s.rdAt Reg.BUS_CFG_ADDR b.val →
    ∃ t, exec (.modbusReadHoldingRegisters b a (0x0400 + z.val) 1) s = .next t ∧
      t.net.out = [.regs [((s.zoneArray z.val).getD 15 none).getD 0]]) ∧
  (∀ (s : State) (b : Fin 2) (a : Fin 256) (i : Fin 64), s.busOn b.val 2 = true → a.val = s.rdAt Reg.BUS_CFG_ADDR b.val →
    ∃ t, exec (.modbusReadInputRegisters b a i.val 1) s = .next t ∧ t.net.out = [.regs [s.rdAt Reg.UI_VALUE_VALUE i.val]]) ∧
  (∀ (s : State) (b : Fin 2) (a : Fin 256) (z : Fin 16) (v : Nat), s.busOn b.val 2 = true → a.val = s.rdAt Reg.BUS_CFG_ADDR b.val →
    1 ≤ v → v ≤ 4 → s.zoneArray z.val = List.replicate 16 none →
    ∃ t, exec (.modbusWriteSingleRegister b a (0x0400 + z.val) v) s = .next t ∧ t.net.out = [.ack] ∧
      t.rdAt Reg.ZONE_FORCE_FORCE z.val = v ∧ t.rdAt Reg.ZONE_STATE_SET z.val = v - 1) ∧
  (∀ (s : State) (b : Fin 2) (a : Fin 256) (c : Fin 160) (hi lo : Nat), s.busOn b.val 2 = true →
    a.val = s.rdAt Reg.BUS_CFG_ADDR b.val → s.inGroup c.val = false →
    ∃ t, exec (.modbusWriteMultipleRegisters b a (0x0200 + 2 * c.val) [hi, lo]) s = .next t ∧ t.net.out = [.ack] ∧
      t.cw c.val 8 = hi % 65536 * 65536 + lo % 65536) ∧
  (∀ (s : State) (b : Fin 2) (a : Fin 256), s.busOn b.val 2 = true → a.val = s.rdAt Reg.BUS_CFG_ADDR b.val →
    ∃ t, exec (.modbusReadDeviceIdentification b a) s = .next t ∧ t.net.out = [.ident s.mbIdent]) ∧
  (∀ (s : State) (b : Fin 2) (a : Fin 256) (f : Nat), s.busOn b.val 2 = true → a.val = s.rdAt Reg.BUS_CFG_ADDR b.val →
    f ≤ 127 → mbKnown f = false →
    ∃ t, exec (.modbusUnsupportedFunction b a f) s = .next t ∧ t.net.out = [.exception 1]) ∧
  (∀ (s : State) (b : Fin 2) (e : Fin 16) (c : MbClient), s.busOn b.val 3 = true → s.mbEntry b.val e.val = some c →
    s.onAt Hid.mbDue (16 * b.val + e.val) = true →
    ∃ t, exec (.modbusClientPoll b e) s = .next t ∧ t.rdAt Hid.mbWait (16 * b.val + e.val) = 1 ∧
      t.net.out = [.send (.modbusPoll c.server c.function c.start (mbWidth c.format))]) ∧
  (∀ (s : State) (b : Fin 2) (e : Fin 16) (c : MbClient) (values : List Nat) (q : Int), s.busOn b.val 3 = true →
    s.mbEntry b.val e.val = some c → s.onAt Hid.mbWait (16 * b.val + e.val) = true → values.length = mbWidth c.format →
    mbScale c values = some q →
    ∃ t, exec (.modbusClientReply b e values) s = .next t ∧ (t.av c.target).prio.getD 15 none = some q ∧
      t.rdAt Hid.mbWait (16 * b.val + e.val) = 0 ∧
      bit (t.rd Reg.NET_MB_CLI_MB_FAIL) e.val = s.onAt Hid.mbFail (16 * (1 - b.val) + e.val)) ∧
  (∀ (s : State) (b : Fin 2) (e : Fin 16) (c : MbClient), s.busOn b.val 3 = true → s.mbEntry b.val e.val = some c →
    s.onAt Hid.mbWait (16 * b.val + e.val) = true → s.onAt Hid.mbTries (16 * b.val + e.val) = false →
    ∃ t, exec (.modbusClientTimeout b e) s = .next t ∧ t.rdAt Hid.mbTries (16 * b.val + e.val) = 1 ∧
      t.net.out = [.send (.modbusPoll c.server c.function c.start (mbWidth c.format))]) ∧
  (∀ (s : State) (b : Fin 2) (e : Fin 16) (c : MbClient), s.busOn b.val 3 = true → s.mbEntry b.val e.val = some c →
    s.onAt Hid.mbWait (16 * b.val + e.val) = true → s.onAt Hid.mbTries (16 * b.val + e.val) = true →
    ∃ t, exec (.modbusClientTimeout b e) s = .next t ∧ t.rdAt Hid.mbWait (16 * b.val + e.val) = 0 ∧
      bit (t.rd Reg.NET_MB_CLI_MB_FAIL) e.val = true)

/-- On a port that carries BACnet, with the device not silenced: a request longer than the port accepts, or of more than 16
segments, is aborted; one of up to 16 segments is acknowledged window by window and answered; an answer whose buffer has an error is
not sent, and the error is recorded. Of a request and an answer of one segment each: a read of a zone's Present_Value answers its
set plus 1; a write of an unbound Analog Value at a priority stores the value in Q16.16 at that priority and is acknowledged; a
subscription with a lifetime in range is kept and counted while fewer than 32 stand, and the expiry of one whose lifetime is over
removes it. With OSF set a valid local time synchronisation is a SET that waits for the next edge. A warm reinitialise with the
right password is a soft reset that shows LAST_SOFT 1, and a cold one a boot reset of cause 5; both are acknowledged.
DeviceCommunicationControl sets its mode, and the end of its duration enables communication. AtomicWriteFile to File 1 claims the
staging buffer for the network, from whatever start (log entry 47), and stores its words. (Rests on R26, R359, R369, R370, R372,
R375, R376, R344, R347, R379, R380, R381) -/
def Obligations.BacnetServices : Prop :=
  (∀ (s : State) (f : NetFrom) (z : Fin 16), s.bacOn f.port.val = true → f.ram.val = 0 → plainReq f = true → s.net.txBad = false → s.rd Reg.NET_STAT_DCC ≠ 1 →
    ∃ t, exec (.bacnetReadProperty f [⟨.multiState z.val, .presentValue⟩]) s = .next t ∧
      s.replies t f.port.val [.property ⟨.multiState z.val, .presentValue⟩ (.num (s.rdAt Reg.ZONE_STATE_SET z.val + 1))] none) ∧
  (∀ (s : State) (f : NetFrom) (z : Fin 16), s.bacOn f.port.val = true → f.ram.val = 0 → s.net.txBad = false → s.rd Reg.NET_STAT_DCC ≠ 1 →
    f.octets ≤ apduMax f.port.val → 1 < f.reqSegs → f.reqSegs ≤ 16 → f.ansSegs ≤ 1 →
    ∃ t, exec (.bacnetReadProperty f [⟨.multiState z.val, .presentValue⟩]) s = .next t ∧
      (if s.putOff f.port.val = true then t.net.out = [] ∧ t.net.queue = s.net.queue ++
          List.replicate ((f.reqSegs + windowOf f - 1) / windowOf f) ([.send (.segmentAck (windowOf f))], none) ++
          [([.property ⟨.multiState z.val, .presentValue⟩ (.num (s.rdAt Reg.ZONE_STATE_SET z.val + 1))], none)]
        else t.net.out = List.replicate ((f.reqSegs + windowOf f - 1) / windowOf f) (.send (.segmentAck (windowOf f))) ++
          [.property ⟨.multiState z.val, .presentValue⟩ (.num (s.rdAt Reg.ZONE_STATE_SET z.val + 1))])) ∧
  (∀ (s : State) (f : NetFrom) (l : List BacRef), s.bacOn f.port.val = true → f.ram.val = 0 → s.net.txBad = false → s.rd Reg.NET_STAT_DCC ≠ 1 →
    apduMax f.port.val < f.octets → ∃ t, exec (.bacnetReadProperty f l) s = .next t ∧ s.replies t f.port.val [.error .apduTooLong] (some 0xC1)) ∧
  (∀ (s : State) (f : NetFrom) (l : List BacRef), s.bacOn f.port.val = true → f.ram.val = 0 → s.net.txBad = false → s.rd Reg.NET_STAT_DCC ≠ 1 →
    f.octets ≤ apduMax f.port.val → (16 < f.reqSegs ∨ 16 < f.ansSegs) →
    ∃ t, exec (.bacnetReadProperty f l) s = .next t ∧ s.replies t f.port.val [.error .tooManySegments] (some 0xC1)) ∧
  (∀ (s : State) (f : NetFrom) (z : Fin 16), s.bacOn f.port.val = true → f.port.val ≤ 1 → f.ram.val = 0 → plainReq f = true → s.net.txBad = true →
    s.rd Reg.NET_STAT_DCC ≠ 1 →
    ∃ t, exec (.bacnetReadProperty f [⟨.multiState z.val, .presentValue⟩]) s = .next t ∧ t.net.out = [] ∧ t.rd Reg.MEM_ERR_MAC = 1 ∧
      t.net.txBad = false) ∧
  (∀ (s : State) (f : NetFrom) (i : Fin 256) (p : Fin 17) (b : Nat) (q : Int), s.bacOn f.port.val = true → f.ram.val = 0 → plainReq f = true → s.net.txBad = false →
    s.rd Reg.NET_STAT_DCC ≠ 1 → s.avBound i.val = false → p.val ≠ 0 → qOfReal b = some q →
    ∃ t, exec (.bacnetWriteProperty f [{ ref := ⟨.analogValue i.val, .presentValue⟩, val := .real b, prio := p }]) s = .next t ∧
      s.replies t f.port.val [.ack] none ∧ (t.av i.val).prio.getD (p.val - 1) none = some q) ∧
  (∀ (s : State) (f : NetFrom) (z : Fin 16) (who life : Nat), s.bacOn f.port.val = true → f.ram.val = 0 → plainReq f = true → s.net.txBad = false →
    s.rd Reg.NET_STAT_DCC ≠ 1 → 1 ≤ life → life ≤ 28800 →
    (dropSub s.net.subs who ⟨.multiState z.val, .presentValue⟩).length < 32 →
    ∃ t, exec (.bacnetSubscribeCov f { who := who, ref := ⟨.multiState z.val, .presentValue⟩, life := life }) s = .next t ∧
      t.net.subs = dropSub s.net.subs who ⟨.multiState z.val, .presentValue⟩ ++
        [⟨who, ⟨.multiState z.val, .presentValue⟩, life, .num (s.rdAt Reg.ZONE_STATE_SET z.val + 1)⟩] ∧
      t.rd Reg.NET_COV_ACTIVE = (dropSub s.net.subs who ⟨.multiState z.val, .presentValue⟩).length + 1) ∧
  (∀ (s : State) (who : Nat) (ref : BacRef), s.netOn = true → s.subEnded who ref = true →
    ∃ t, exec (.covSubscriptionExpiry who ref) s = .next t ∧ t.net.subs = dropSub s.net.subs who ref) ∧
  (∀ (s : State) (time : SyncTime) (g hu : Nat), (upTo 4).any s.bacOn = true → s.rd Reg.NET_STAT_DCC ≠ 1 →
    syncSeconds time = some (g, hu) → g < dayOf 200 1 1 * 86400 → dowOk time.dow = true → s.on Reg.RTC_STAT_OSF = true →
    s.on Hid.oscStopped = false →
    ∃ t, exec (.timeSynchronization false time) s = .next t ∧ t.rd Hid.rtcPend = 1 ∧ bit (t.rd Reg.NET_FLAGS_FLAGS) 7 = true) ∧
  (∀ (s : State) (f : NetFrom) (pw : List Nat), s.bacOn f.port.val = true → f.ram.val = 0 → plainReq f = true → s.net.txBad = false → s.passwordOk pw = true →
    s.on Hid.softHold = false →
    ∃ t, exec (.reinitializeDevice f .warm pw) s = .next t ∧ t.rd Hid.softHold = 1 ∧ t.rd Reg.RST_CAUSE_LAST_SOFT = 1 ∧ t.net.out = [.ack]) ∧
  (∀ (s : State) (f : NetFrom) (pw : List Nat), s.bacOn f.port.val = true → f.ram.val = 0 → plainReq f = true → s.net.txBad = false → s.passwordOk pw = true →
    ∃ t, exec (.reinitializeDevice f .cold pw) s = .next t ∧ t.mode = mBoot ∧ t.rd Reg.RST_CAUSE_CAUSE = 5 ∧ t.net.out = [.ack]) ∧
  (∀ (s : State) (f : NetFrom) (m : Fin 3) (timed : Bool) (pw : List Nat), s.bacOn f.port.val = true → f.ram.val = 0 → plainReq f = true → s.net.txBad = false →
    s.passwordOk pw = true →
    ∃ t, exec (.deviceCommunicationControl f m timed pw) s = .next t ∧ t.rd Reg.NET_STAT_DCC = m.val ∧ s.replies t f.port.val [.ack] none) ∧
  (∀ s : State, s.netOn = true → s.on Hid.dccTimed = true → ∃ t, exec .dccDurationExpiry s = .next t ∧ t.rd Reg.NET_STAT_DCC = 0) ∧
  (∀ (s : State) (f : NetFrom) (k : Nat) (data : List Nat), s.bacOn f.port.val = true → f.ram.val = 0 → plainReq f = true → s.net.txBad = false →
    s.rd Reg.NET_STAT_DCC ≠ 1 → s.rd Reg.RGN_CTRL_STATE = 0 → s.rgnMode = true → data.length % 4 = 0 →
    k + data.length / 4 ≤ 8192 →
    ∃ t, exec (.atomicWriteFile f 1 ((4 * k : Nat) : Int) data) s = .next t ∧ t.rd Reg.RGN_CTRL_STATE = 1 ∧ t.rd Reg.RGN_CTRL_SRC = 1 ∧
      s.replies t f.port.val [.ack] none ∧
      (∀ j : Nat, j < data.length / 4 → t.rdAt Hid.stage (k + j) = (streamWords data).getD j 0 % 2 ^ 32))

/-- An acknowledgement clears the transition's bit and is acknowledged, and the recipients are notified of it (log entry 72). Event
information lists exactly the objects that are not normal or unacknowledged, and an enrollment summary those that report. ReadRange
gives the records asked for. Who-Is without limits is answered by the device's instance, and Who-Has for an object that exists as
well, as a broadcast that a registered foreign device has distributed. A service the device does not execute is rejected. A trend
log takes a record of its property, stamped with the wheel tick (log entry 70), where its interval is over, and a time delay's end
changes the event state to the one that the object's values ask for, as log entry 70 reads the limits. (Rests on R360, R366, R369,
R376, R378) -/
def Obligations.BacnetAlarmsAndTrends : Prop :=
  (∀ (s : State) (f : NetFrom) (obj : BacObj) (dest : EventTo), s.bacOn f.port.val = true → f.ram.val = 0 → plainReq f = true → s.net.txBad = false →
    s.rd Reg.NET_STAT_DCC ≠ 1 → objExists obj = true →
    ∃ t, exec (.bacnetAcknowledgeAlarm f obj dest) s = .next t ∧
      (if s.putOff f.port.val = true then (t.net.queue.drop s.net.queue.length).head? = some ([.ack], none) else t.net.out.head? = some .ack) ∧
      (s.rd Reg.NET_STAT_DCC = 0 → f.port.val ≤ 1 → (s.net.classes.getD (s.netObj obj).cls {}).recipients ≠ [] → .ackNotify obj dest ∈ t.net.out) ∧
      (t.netObj obj).unacked = clearBits (s.netObj obj).unacked (2 ^ eventBit dest)) ∧
  (∀ (s : State) (f : NetFrom), s.bacOn f.port.val = true → f.ram.val = 0 → plainReq f = true → s.net.txBad = false → s.rd Reg.NET_STAT_DCC ≠ 1 →
    f.summary = false →
    ∃ t, exec (.bacnetGetEventInformation f) s = .next t ∧
      s.replies t f.port.val (.ack :: (s.net.objs.filter (fun (x : NetObj) => x.event != .normal || x.unacked != 0)).map
        (fun (x : NetObj) => NetOut.event x.obj x.event x.unacked)) none) ∧
  (∀ (s : State) (f : NetFrom), s.bacOn f.port.val = true → f.ram.val = 0 → plainReq f = true → s.net.txBad = false → s.rd Reg.NET_STAT_DCC ≠ 1 →
    f.summary = true →
    ∃ t, exec (.bacnetGetEventInformation f) s = .next t ∧
      s.replies t f.port.val (.ack :: (s.net.objs.filter (fun (x : NetObj) => reports x.obj)).map (fun (x : NetObj) =>
        NetOut.enrolled x.obj x.event x.cls)) none) ∧
  (∀ (s : State) (f : NetFrom) (log : Fin 8) (first count : Nat), s.bacOn f.port.val = true → f.ram.val = 0 → plainReq f = true → s.net.txBad = false →
    s.rd Reg.NET_STAT_DCC ≠ 1 →
    ∃ t, exec (.bacnetReadRange f log first count) s = .next t ∧
      s.replies t f.port.val (.ack :: ((((s.net.trends.getD log.val {}).records.drop first).take count).map (fun p =>
        NetOut.record p.1 p.2))) none) ∧
  (∀ (s : State) (f : NetFrom), s.bacOn f.port.val = true → s.net.txBad = false → s.rd Reg.NET_STAT_DCC ≠ 1 →
    ∃ t, exec (.bacnetWhoIs f (.is none)) s = .next t ∧
      s.sends t (s.needsToken f.port.val) [.iAm (s.rd Reg.NET_DEV_DEV_INST) (s.castHow f.port.val)] none) ∧
  (∀ (s : State) (f : NetFrom) (obj : BacObj), s.bacOn f.port.val = true → s.net.txBad = false → s.rd Reg.NET_STAT_DCC ≠ 1 → objExists obj = true →
    ∃ t, exec (.bacnetWhoIs f (.has none obj)) s = .next t ∧
      s.sends t (s.needsToken f.port.val) [.iHave (s.rd Reg.NET_DEV_DEV_INST) obj (s.castHow f.port.val)] none) ∧
  (∀ (s : State) (f : NetFrom), s.bacOn f.port.val = true → f.ram.val = 0 → plainReq f = true → s.net.txBad = false → s.rd Reg.NET_STAT_DCC ≠ 1 →
    ∃ t, exec (.bacnetUnrecognizedService f) s = .next t ∧ s.replies t f.port.val [.error .unrecognizedService] (some 0xC1)) ∧
  (∀ (s : State) (log : Fin 8) (z : Fin 16), s.netOn = true → s.onAt Hid.trendDue log.val = true → s.net.trends.length = 8 →
    (s.net.trends.getD log.val {}).enable = true → (s.net.trends.getD log.val {}).interval ≠ 0 →
    (s.net.trends.getD log.val {}).ref = some ⟨.multiState z.val, .presentValue⟩ →
    (s.net.trends.getD log.val {}).records.length < 512 →
    ∃ t, exec (.trendLogInterval log) s = .next t ∧ (t.net.trends.getD log.val {}).records =
      (s.net.trends.getD log.val {}).records ++ [(s.tick, .num (s.rdAt Reg.ZONE_STATE_SET z.val + 1))]) ∧
  (∀ (s : State) (obj : BacObj) (dest : EventTo), s.netOn = true → reports obj = true → (s.netObj obj).event ≠ dest → s.eventAsked obj = dest →
    ∃ t, exec (.eventTimeDelayExpiry obj dest) s = .next t ∧ (t.netObj obj).event = dest)

/-- A slot before the frame's last moves the scan to the next one and the balance by its duration, and the last one leaves the frame
in its hold with SLOT 255. One output whose read-back differs on a row under read-back, without a byte in error, is logged with its
row, flagged, and as the frame's first raises DISP. A byte of a row of an image frame that reads with a parity error is flagged;
with SRC 0 the whole page is to be drawn, with SRC 1 the byte stays wrong. A frame whose balance lets it end, at the first moment at
which it does or, in a hold in which a page was drawn, at the operand's time, gives way to one of the other polarity at slot 0 in
the band of the panel temperature; the last clearing frame leaves the panel running with balance 0 and a positive frame. The
durations, the codes read back and the bytes in error are operands (log entry 50). A supply good for 10 ms shows in SUP_OK. With all
four good and a panel that may run and waits, PANEL_START leaves it clearing with a positive frame at slot 0. A supply that fails
stops a live panel that may run: STATE 5 (a supply fault), the supply's SUP_OK bit clear, SUP_FAULT set and DISP raised. The end of
a discharge leaves balance 0, DISCHG_DONE and DISP, and the panel off or waiting; the end of a discharge that a boot reset began
clears the balance too (log entries 50 and 70), and a supply that fails in it ends it with SUP_FAULT and DISP. (Rests on R26, R418,
R419, R420, R421, R423, R428, R422, R424, R425, R430) -/
def Obligations.PanelRuns : Prop :=
  (∀ (s : State) (us : Nat) (sources gates : List Nat), s.panelScans = true → s.on Hid.dispHold = false →
    s.rd Reg.DISP_STAT_SLOT < s.rd Hid.dispLines + 3 →
    ∃ t, exec (.panelLineSlot us sources gates []) s = .next t ∧ t.rd Reg.DISP_STAT_SLOT = (s.rd Reg.DISP_STAT_SLOT + 1) % 2 ^ 8 ∧
      t.rd Reg.DISP_BAL_BAL = ofI 24 (if s.on Reg.DISP_STAT_POL = true then s.rdI Reg.DISP_BAL_BAL 0 - us else s.rdI Reg.DISP_BAL_BAL 0 + us)) ∧
  (∀ (s : State) (us : Nat) (sources gates bad : List Nat), s.panelScans = true → s.on Hid.dispHold = false →
    s.rd Hid.dispLines + 3 ≤ s.rd Reg.DISP_STAT_SLOT →
    ∃ t, exec (.panelLineSlot us sources gates bad) s = .next t ∧ t.rd Reg.DISP_STAT_SLOT = 255 ∧ t.on Hid.dispHold = true) ∧
  (∀ (s : State) (us r out : Nat) (sources gates : List Nat), s.panelScans = true → s.on Hid.dispHold = false →
    s.rd Reg.DISP_STAT_SLOT = r + 2 → r < s.rd Hid.dispLines → r < 256 → s.readBack r = true → s.fbBad = [] →
    s.mismatches r sources gates [] = [out] → s.on Hid.dispRb = false →
    ∃ t, exec (.panelLineSlot us sources gates []) s = .next t ∧ t.rd Reg.DISP_RB_LOG_ROW = r ∧ t.rd Reg.DISP_RB_LOG_OUT = out ∧
      bit t.intCause 13 = true ∧ (out < 32 → t.on Reg.DISP_FLAGS_RB_SRC = true) ∧ (32 ≤ out → t.on Reg.DISP_FLAGS_RB_GATE = true)) ∧
  (∀ (s : State) (us : Nat) (bad : List Nat), s.rd Reg.DISP_STAT_STATE = 3 → s.on Hid.dispHold = false → 2 ≤ s.rd Reg.DISP_STAT_SLOT →
    s.rd Reg.DISP_STAT_SLOT ≤ s.rd Hid.dispLines + 1 → bad.any (fun k => decide (k < 48)) = true →
    s.on Reg.DISP_CTRL_SRC = false →
    ∃ t, exec (.panelLineSlot us [] [] bad) s = .next t ∧ t.on Reg.MEM_ERR_FB = true ∧ bit t.intCause 1 = true ∧ t.on Hid.dispPage = true) ∧
  (∀ (s : State) (us : Nat) (bad : List Nat) (k : Fin 48), s.rd Reg.DISP_STAT_STATE = 3 → s.on Hid.dispHold = false → 2 ≤ s.rd Reg.DISP_STAT_SLOT →
    s.rd Reg.DISP_STAT_SLOT ≤ s.rd Hid.dispLines + 1 → bad.contains k.val = true → s.on Reg.DISP_CTRL_SRC = true →
    ∃ t, exec (.panelLineSlot us [] [] bad) s = .next t ∧ t.on Reg.MEM_ERR_FB = true ∧
      t.fbBad.contains (48 * (s.rd Reg.DISP_STAT_SLOT - 2) + k.val) = true) ∧
  (∀ (s : State) (us : Nat), s.rd Reg.DISP_STAT_STATE = 3 → s.on Hid.dispHold = true → s.on Hid.dispPage = false →
    (s.balance (if s.on Hid.dispDrew = true then us else min us s.holdNeed)).frameMayEnd = true →
    ∃ t, exec (.panelFrameEnd us) s = .next t ∧ t.rd Reg.DISP_STAT_POL = 1 - s.rd Reg.DISP_STAT_POL ∧ t.rd Reg.DISP_STAT_SLOT = 0 ∧
      t.on Hid.dispHold = false ∧ t.rd Reg.DISP_STAT_BAND = s.bandNow ∧
      t.rd Reg.DISP_FRAMES_COUNT = (s.rd Reg.DISP_FRAMES_COUNT + 1) % 2 ^ 32) ∧
  (∀ (s : State) (us : Nat), s.rd Reg.DISP_STAT_STATE = 2 → s.rd Hid.dispFrames ≤ 1 → s.on Hid.dispHold = true → s.on Hid.dispPage = false →
    (s.balance (if s.on Hid.dispDrew = true then us else min us s.holdNeed)).frameMayEnd = true →
    ∃ t, exec (.panelFrameEnd us) s = .next t ∧ t.rd Reg.DISP_STAT_STATE = 3 ∧ t.rd Reg.DISP_BAL_BAL = 0 ∧
      t.rd Reg.DISP_STAT_POL = 0 ∧ t.rd Reg.DISP_STAT_SLOT = 0) ∧
  (∀ (s : State) (k : Fin 4), s.alive = true →
    ∃ t, exec (.panelSupplyGood k) s = .next t ∧ bit (t.rd Reg.DISP_STAT_SUP_OK) k.val = true ∧
      (∀ j : Nat, j < 4 → j ≠ k.val → bit (t.rd Reg.DISP_STAT_SUP_OK) j = bit (s.rd Reg.DISP_STAT_SUP_OK) j)) ∧
  (∀ s : State, s.rd Reg.DISP_STAT_STATE = 1 → s.rd Reg.DISP_STAT_SUP_OK = 15 → s.panelMay = true → s.on Hid.panelDis = false →
    ∃ t, exec .panelStart s = .next t ∧ t.rd Reg.DISP_STAT_STATE = 2 ∧ t.rd Reg.DISP_STAT_POL = 0 ∧ t.rd Reg.DISP_STAT_SLOT = 0 ∧
      t.rd Hid.dispFrames = 2 ∧ t.rd Hid.dispLines = s.rd Reg.DISP_CTRL_LINES % 2 ^ 8) ∧
  (∀ (s : State) (k : Fin 4), s.panelLive = true → s.panelMay = true →
    ∃ t, exec (.panelSupplyFault k) s = .next t ∧ t.rd Reg.DISP_STAT_STATE = 5 ∧ bit (t.rd Reg.DISP_STAT_SUP_OK) k.val = false ∧
      t.on Reg.DISP_FLAGS_SUP_FAULT = true ∧ bit t.intCause 13 = true ∧ t.rd Reg.DISP_STAT_SLOT = 0) ∧
  (∀ (s : State) (k : Fin 4), s.on Hid.panelDis = true →
    ∃ t, exec (.panelSupplyFault k) s = .next t ∧ t.on Hid.panelDis = false ∧ t.on Reg.DISP_FLAGS_SUP_FAULT = true ∧ bit t.intCause 13 = true) ∧
  (∀ s : State, s.on Hid.panelDis = false → s.rd Reg.DISP_STAT_STATE = 4 →
    ∃ t, exec .panelDischargeDone s = .next t ∧ t.rd Reg.DISP_BAL_BAL = 0 ∧ t.on Reg.DISP_FLAGS_DISCHG_DONE = true ∧
      bit t.intCause 13 = true ∧ t.rd Reg.DISP_STAT_STATE = (if s.panelMay = true then 1 else 0)) ∧
  (∀ s : State, s.on Hid.panelDis = true →
    ∃ t, exec .panelDischargeDone s = .next t ∧ t.rd Reg.DISP_BAL_BAL = 0 ∧ t.on Hid.panelDis = false ∧
      t.rd Reg.DISP_STAT_STATE = s.rd Reg.DISP_STAT_STATE)

/-- While no frame scans, a page without items draws to an all-zero frame buffer; while one does, the draw waits and the frame
buffer stays. A page of one filled rectangle draws its level inside the rectangle and 0 outside. The frame that starts fetches a
page's clock field where the last fetch is 100 ms old (log entry 49). A field whose fetched text has changed, with the scan outside
its rows, is redrawn with that text, and pixels outside it stay; with the scan within its rows it waits, drawn as before; an item
whose tables read with an error is not drawn, MEM_ERR shows it and SUPV is raised; one whose text has not changed leaves the frame
buffer alone. The moment of a redraw is that of its command (log entry 49). (Rests on R426, R427, R430) -/
def Obligations.ComposerDraws : Prop :=
  (∀ s : State, s.composes = true → s.on Hid.dispPage = true → s.panelScans = false ∨ s.on Hid.dispHold = true → s.pageItems = [] →
    ∃ t, exec (.composerPageDraw []) s = .next t ∧ t.on Hid.dispPage = false ∧ t.drawn = [] ∧
      (∀ n : Nat, n < 1920 → t.rdAt Reg.DISP_FB_PIX n = 0)) ∧
  (∀ (s : State) (l : List Nat), s.panelScans = true → s.on Hid.dispHold = false →
    ∃ t, exec (.composerPageDraw l) s = .next t ∧ t.rd Hid.dispPage = s.rd Hid.dispPage ∧ t.drawn = s.drawn ∧
      (∀ n : Nat, n < 1920 → t.rdAt Reg.DISP_FB_PIX n = s.rdAt Reg.DISP_FB_PIX n)) ∧
  (∀ (s : State) (i : Item), s.composes = true → s.on Hid.dispPage = true → s.panelScans = false ∨ s.on Hid.dispHold = true →
    s.pageItems = [i] → i.typ = 4 →
    ∃ t, exec (.composerPageDraw []) s = .next t ∧ t.on Hid.dispPage = false ∧
      (∀ x : Nat, x < 192 → ∀ y : Nat, y < 160 → t.pixel x y =
        if i.x ≤ x ∧ x < i.x + i.len ∧ i.y ≤ y ∧ y < i.y + bits i.w1 0 8 then i.level else 0)) ∧
  (∀ (s : State) (i : Item) (us : Nat), s.composes = true → s.pageItems = [i] → i.typ = 2 → bits i.w1 0 4 = 8 → s.rd Hid.compTick ≤ s.tick + 1 →
    s.rd Reg.DISP_STAT_STATE = 3 → s.on Hid.dispHold = true → s.on Hid.dispPage = false →
    (s.balance (if s.on Hid.dispDrew = true then us else min us s.holdNeed)).frameMayEnd = true →
    ∃ t, exec (.panelFrameEnd us) s = .next t ∧ t.held.find? (fun p => p.1 == 0) = some (0, (s.fieldText i).1)) ∧
  (∀ (s : State) (k : Nat) (i : Item) (text : List Nat), s.composes = true → s.on Hid.dispPage = false → s.pageItems[k]? = some i → i.typ = 2 →
    s.held.find? (fun p => p.1 == k) = some (k, text) →
    s.scanWithin i = false → s.drawn.any (fun p => p.1 == k && p.2 == text) = false →
    ∃ t, exec (.composerFieldRedraw k false) s = .next t ∧ (t.drawn.head? = some (k, text)) ∧
      (∀ x : Nat, x < 192 → ∀ y : Nat, y < 160 → y < i.y ∨ i.y + (s.itemSize i).2 ≤ y → t.pixel x y = s.pixel x y)) ∧
  (∀ (s : State) (k : Nat) (i : Item) (text : List Nat), s.composes = true → s.on Hid.dispPage = false → s.pageItems[k]? = some i → i.typ = 2 →
    s.held.find? (fun p => p.1 == k) = some (k, text) →
    k < 3072 → s.scanWithin i = true → s.drawn.any (fun p => p.1 == k && p.2 == text) = false →
    ∃ t, exec (.composerFieldRedraw k false) s = .next t ∧ t.drawn = s.drawn ∧ bit (t.rd Hid.compWait) k = true ∧
      (∀ n : Nat, n < 1920 → t.rdAt Reg.DISP_FB_PIX n = s.rdAt Reg.DISP_FB_PIX n)) ∧
  (∀ (s : State) (k : Nat) (i : Item) (text : List Nat), s.composes = true → s.on Hid.dispPage = false → s.pageItems[k]? = some i → i.typ = 2 →
    s.held.find? (fun p => p.1 == k) = some (k, text) →
    ∃ t, exec (.composerFieldRedraw k true) s = .next t ∧ t.drawn = s.drawn ∧ t.on Reg.MEM_ERR_COMPOSER = true ∧
      bit t.intCause 1 = true) ∧
  (∀ (s : State) (k : Nat) (i : Item) (text : List Nat), s.composes = true → s.on Hid.dispPage = false → s.pageItems[k]? = some i → i.typ = 2 →
    s.held.find? (fun p => p.1 == k) = some (k, text) →
    s.scanWithin i = false → s.drawn.any (fun p => p.1 == k && p.2 == text) = true →
    ∃ t, exec (.composerFieldRedraw k false) s = .next t ∧ t.drawn = s.drawn ∧
      (∀ n : Nat, n < 1920 → t.rdAt Reg.DISP_FB_PIX n = s.rdAt Reg.DISP_FB_PIX n))

/-- At an IZ-30 port that is up: a byte written to a writable configuration register outside the 16-bit pairs stores its bits, and
the pointer moves on; a read of one or more bytes returns the pointed registers' bytes and moves the pointer. Reading a pair's high
byte latches its low byte, for that pair alone (log entry 51); writing a pair's low byte after its high byte stores both. A read of
IZ_ADC_DH latches IZ_ADC_DL; a read of IZ_ADC_DL clears NEW and, with it, OVR (log entry 51); a write of IZ_ADC_CTRL stores its bits
and selects the channel; a write of IZ_FAULT clears the fan bits it names. 0xA5 in IZ_CMD starts the reload and empties the queue of
due loops; 0x5A changes no register. A reload whose EEPROM leaves an address byte unacknowledged more than 8 times leaves EE_OK
clear; one that is acknowledged sooner and reads a valid image sets EE_OK and RELOADED. A conversion of a fixed channel puts its
code into IZ_ADC_DH and DL. A fan that fails sets its two bits. A poll of the lowest unit due, while none is waited for, sends its
request (ADDR 0 as 0x80, log entry 51); a good reply gives its code and ends its failures; the third missing reply sets FAIL. (Rests
on R439, R440, R442, R444, R450, R441, R451, R452) -/
def Obligations.Iz30Port : Prop :=
  (∀ (s : State) (p v : Fin 256), s.izUp = true → izMask p.val ≠ 0 → izPairHigh p.val = false → izPairLow p.val = false →
    ∃ t, exec (.iz30WriteTransaction [p.val, v.val]) s = .next t ∧ t.iz p.val = v.val &&& izMask p.val ∧
      t.rd Hid.izPtr = (p.val + 1) % 256) ∧
  (∀ (s : State) (n : Nat), s.izUp = true →
    ∃ t, exec (.iz30ReadTransaction (n + 1)) s = .next t ∧ t.sent.length = n + 1 ∧ (t.sent.head? = some (s.izByte (s.rd Hid.izPtr))) ∧
      t.rd Hid.izPtr = (s.rd Hid.izPtr + n + 1) % 256) ∧
  (∀ (s : State) (r : Fin 256), s.izUp = true → izPairHigh r.val = true →
    ∃ t, exec (.izPairHighRead r) s = .next t ∧ t.sent = [s.izByte r.val] ∧ t.rdAt Hid.izLat (r.val + 1) = (256 + s.iz (r.val + 1)) % 512) ∧
  (∀ (s : State) (r : Fin 256) (v : Nat), s.izUp = true → izPairLow r.val = true → izMask r.val ≠ 0 → 256 ≤ s.rdAt Hid.izHeld (r.val - 1) →
    ∃ t, exec (.izPairLowWrite r v) s = .next t ∧ t.iz r.val = v % 256 ∧ t.iz (r.val - 1) = s.rdAt Hid.izHeld (r.val - 1) % 256 ∧
      t.rdAt Hid.izHeld (r.val - 1) = 0) ∧
  (∀ s : State, s.izUp = true →
    ∃ t, exec .izAdcDhRead s = .next t ∧ t.sent = [s.izByte 5] ∧ t.rd Hid.izAdcLat = (256 + s.iz 6) % 512) ∧
  (∀ s : State, s.izUp = true →
    ∃ t, exec .izAdcDlRead s = .next t ∧ t.sent = [s.izByte 6] ∧ t.rd Hid.izAdcLat = 0 ∧ t.rd Hid.izNew = 0 ∧ bit (t.iz 6) 3 = false) ∧
  (∀ (s : State) (v : Nat), s.izUp = true →
    ∃ t, exec (.izAdcCtrlWrite v) s = .next t ∧ t.iz 4 = v % 256 &&& 0x8F ∧ t.rd Hid.izNew = 0 ∧ t.rd Hid.izScan = v % 8) ∧
  (∀ (s : State) (m : Nat), s.izUp = true →
    ∃ t, exec (.izFaultClear m) s = .next t ∧
      (∀ b : Nat, b < 6 → bit (t.iz 7) b = (bit (s.iz 7) b && !bit m b))) ∧
  (∀ s : State, s.izUp = true → ∃ t, exec .izCmdReset s = .next t ∧ t.on Hid.izReload = true ∧ t.due = []) ∧
  (∀ s : State, s.izUp = true →
    ∃ t, exec .izCmdSave s = .next t ∧ t.rd Hid.izPtr = 4 ∧ (∀ r : Nat, r < 256 → t.iz r = s.iz r)) ∧
  (∀ (s : State) (acks : EepAcks) (placed : List (Nat × Nat)), s.mode = mIz30 → s.alive = true → s.on Hid.izReload = true →
    8 < acks.write ∨ 8 < acks.read →
    ∃ t, exec (.iz30ReloadDone acks placed) s = .next t ∧ t.on Hid.izReload = false ∧ bit (t.rdAt Hid.izV 2) 1 = false) ∧
  (∀ (s : State) (acks : EepAcks) (placed : List (Nat × Nat)), s.mode = mIz30 → s.alive = true → s.on Hid.izReload = true →
    acks.write ≤ 8 → acks.read ≤ 8 → s.izReject (Memory.writes s.eeprom placed) true = none →
    ∃ t, exec (.iz30ReloadDone acks placed) s = .next t ∧ t.on Hid.izReload = false ∧ bit (t.rdAt Hid.izV 2) 1 = true ∧
      bit (t.rdAt Hid.izV 2) 7 = true ∧
      (∀ r : Nat, r < 256 → izMirrored r = true → t.iz r = Memory.read (Memory.writes s.eeprom placed) r &&& izMask r)) ∧
  (∀ s : State, s.mode = mIz30 → s.alive = true → bit (s.rdAt Hid.izV 4) 7 = true → bit (s.rdAt Hid.izV 4) 3 = false →
    s.rd Hid.izNew ≤ 1 → s.rdAt Hid.izCode (s.rdAt Hid.izV 4 % 8) < 4096 →
    ∃ t, exec .iz30AdcConversion s = .next t ∧ t.iz 5 = s.rdAt Hid.izCode (s.rdAt Hid.izV 4 % 8) / 16 ∧
      t.iz 6 = s.rdAt Hid.izCode (s.rdAt Hid.izV 4 % 8) % 16 * 16 + 8 * s.rd Hid.izNew + s.rdAt Hid.izV 4 % 8 ∧ t.rd Hid.izNew = 1) ∧
  (∀ (s : State) (f : Fin 2), s.mode = mIz30 → s.alive = true → 77 * 257 ≤ s.rdAt Reg.FANT_MEAS_DUTY f.val →
    ∃ t, exec (.iz30FanFail f) s = .next t ∧ bit (t.rdAt Hid.izV 2) (2 + f.val) = true ∧ bit (t.iz 7) (4 + f.val) = true) ∧
  (∀ (s : State) (u : Fin 4), s.ruOn = true → s.ruNext = some u.val → (∀ j : Nat, j < 4 → s.onAt Hid.ruWait j = false) →
    ∃ t, exec (.roomUnitPoll u) s = .next t ∧ t.rdAt Hid.ruWait u.val = 1 ∧ t.rdAt Hid.ruDue u.val = 0 ∧
      t.net.out = [.send (.roomUnit [0x80 + s.iz (0xB0 + u.val) % 16, 127 - s.iz (0xB0 + u.val) % 16])]) ∧
  (∀ (s : State) (u : Fin 4) (l : List Nat), s.ruOn = true → s.onAt Hid.ruWait u.val = true → s.ruGood u.val l = true →
    ∃ t, exec (.roomUnitReply u l) s = .next t ∧ t.rdAt Hid.ruCode u.val = l.getD 1 0 * 16 + l.getD 2 0 / 16 ∧
      t.rdAt Hid.ruFails u.val = 0 ∧ t.rdAt Hid.ruWait u.val = 0 ∧ bit (t.iz 0x0E) u.val = false) ∧
  (∀ (s : State) (u : Fin 4), s.ruOn = true → s.onAt Hid.ruWait u.val = true → s.rdAt Hid.ruFails u.val = 2 →
    ∃ t, exec (.roomUnitTimeout u) s = .next t ∧ t.rdAt Hid.ruFails u.val = 3 ∧ bit (t.iz 0x0E) u.val = true)

/-- Outside BACKUP a rising edge of TCK moves the TAP controller as TMS says and changes no register; with IDCODE in force
CAPTURE-DR takes the identification and SHIFT-DR shifts it by one towards TDO, which a falling edge drives with its bit 0. Five
rising edges with TMS high reach TEST-LOGIC-RESET from every state, where a falling edge selects IDCODE. In UPDATE-DR a falling edge
loads the latches of the boundary scan register under PRELOAD and EXTEST, and keeps them otherwise. The codes and lengths are the
model's free values (log entry 19). (Rests on R456) -/
def Obligations.TestPort : Prop :=
  (∀ (s : State) (tms tdi : Bool), s.mode ≠ mBackup →
    ∃ t, exec (.tapTckEdge true tms tdi) s = .next t ∧ t.tap.st = s.tap.st.next tms ∧ t.regs = s.regs ∧ t.tap.tdo = s.tap.tdo) ∧
  (∀ (s : State) (tms tdi : Bool), s.mode ≠ mBackup → s.tap.idcode = true → s.tap.st = .captureDr →
    ∃ t, exec (.tapTckEdge true tms tdi) s = .next t ∧ t.tap.drShift = s.tapId) ∧
  (∀ (s : State) (tms tdi : Bool), s.mode ≠ mBackup → s.tap.idcode = true → s.tap.st = .shiftDr →
    ∃ t, exec (.tapTckEdge true tms tdi) s = .next t ∧ t.tap.drShift = s.tap.drShift / 2 + b2n tdi * 2 ^ 31) ∧
  (∀ (s : State) (tms tdi : Bool), s.mode ≠ mBackup → s.tap.st = .shiftDr →
    ∃ t, exec (.tapTckEdge false tms tdi) s = .next t ∧ t.tap.tdo = some (bit s.tap.drShift 0)) ∧
  (∀ (s : State) (tms tdi : Bool), s.mode ≠ mBackup → s.tap.st = .reset →
    ∃ t, exec (.tapTckEdge false tms tdi) s = .next t ∧ t.tap.idcode = true ∧ t.tap.tdo = none) ∧
  (∀ (s : State) (tms tdi : Bool), s.mode ≠ mBackup → s.tap.st = .updateDr →
    ∃ t, exec (.tapTckEdge false tms tdi) s = .next t ∧ t.tap.bsr = (if 2 ≤ s.tap.kind then s.tap.drShift else s.tap.bsr)) ∧
  (∀ st : TapState, ((((st.next true).next true).next true).next true).next true = .reset)

/-- At an open port, with door 0 open where it guards: LANE_RESTORE with no pair waiting for its swap is taken, the watchdog's
timeout is written, a repair starts for the selected coach if it is shuttered for ECC and is refused with RESULT 2 if not. OPEN,
CLOSE, MANUAL and SHUTTER wait at the selected, enabled coach and RESULT says whether they replaced a command. A read of WHEEL_LO
latches WHEEL_HI. Each is answered with STATUS 0. (Rests on R44, R63, R99, R103, R107, R392) -/
def Obligations.HostSupervisesAndCommands : Prop :=
  (∀ s : State, s.port = .opened → bit (s.rd Reg.HOST_DOOR_OPEN) 0 = true → s.rd Hid.swapPos = 0 →
    ∃ t, exec .supvLaneRestore s = .next t ∧ t.rd Reg.HOST_LAST_STATUS = 0 ∧ t.rd Reg.SUPV_LANE_CMD_CMD = 1) ∧
  (∀ (s : State) (timeout : Nat), s.port = .opened → s.rgnHolds = false → bit (s.rd Reg.HOST_DOOR_OPEN) 0 = true →
    10 ≤ timeout → timeout ≤ 1000 →
    ∃ t, exec (.supvWdtWrite timeout) s = .next t ∧ t.rd Reg.HOST_LAST_STATUS = 0 ∧ t.rd Reg.SUPV_WDT_TIMEOUT = timeout) ∧
  (∀ s : State, s.port = .opened → bit (s.rd Reg.HOST_DOOR_OPEN) 0 = true → s.on Reg.SUPV_REPAIR_GO = false →
    stState (s.cw (s.rd Reg.COACH_SEL_SEL) 44) = 3 → stCause (s.cw (s.rd Reg.COACH_SEL_SEL) 44) = 3 →
    ∃ t, exec .supvRepair s = .next t ∧ t.rd Reg.HOST_LAST_STATUS = 0 ∧ t.on Reg.SUPV_REPAIR_GO = true) ∧
  (∀ s : State, s.port = .opened → bit (s.rd Reg.HOST_DOOR_OPEN) 0 = true → s.on Reg.SUPV_REPAIR_GO = false →
    ¬(stState (s.cw (s.rd Reg.COACH_SEL_SEL) 44) = 3 ∧ stCause (s.cw (s.rd Reg.COACH_SEL_SEL) 44) = 3) →
    ∃ t, exec .supvRepair s = .next t ∧ t.rd Reg.HOST_LAST_STATUS = 0 ∧ t.rd Reg.SUPV_REPAIR_RESULT = 2) ∧
  (∀ s : State, s.port = .opened → s.rgnHolds = false → stEn (s.cw (s.rd Reg.COACH_SEL_SEL) 44) = true →
    ∃ t, exec .coachCmdOpen s = .next t ∧ t.rd Reg.HOST_LAST_STATUS = 0 ∧ stPend (t.cw (s.rd Reg.COACH_SEL_SEL) 44) = 1 ∧
      t.rd Reg.COACH_CMD_STAT_RESULT = (if stPend (s.cw (s.rd Reg.COACH_SEL_SEL) 44) = 0 then 1 else 2)) ∧
  (∀ s : State, s.port = .opened → s.rgnHolds = false → stEn (s.cw (s.rd Reg.COACH_SEL_SEL) 44) = true → s.mode ≠ mService →
    ∃ t, exec .coachCmdClose s = .next t ∧ t.rd Reg.HOST_LAST_STATUS = 0 ∧ stPend (t.cw (s.rd Reg.COACH_SEL_SEL) 44) = 2 ∧
      t.rd Reg.COACH_CMD_STAT_RESULT = (if stPend (s.cw (s.rd Reg.COACH_SEL_SEL) 44) = 0 then 1 else 2)) ∧
  (∀ s : State, s.port = .opened → s.rgnHolds = false → stEn (s.cw (s.rd Reg.COACH_SEL_SEL) 44) = true →
    ∃ t, exec .coachCmdManual s = .next t ∧ t.rd Reg.HOST_LAST_STATUS = 0 ∧ stPend (t.cw (s.rd Reg.COACH_SEL_SEL) 44) = 3 ∧
      t.rd Reg.COACH_CMD_STAT_RESULT = (if stPend (s.cw (s.rd Reg.COACH_SEL_SEL) 44) = 0 then 1 else 2)) ∧
  (∀ s : State, s.port = .opened → stEn (s.cw (s.rd Reg.COACH_SEL_SEL) 44) = true →
    ∃ t, exec .coachCmdShutter s = .next t ∧ t.rd Reg.HOST_LAST_STATUS = 0 ∧ stPend (t.cw (s.rd Reg.COACH_SEL_SEL) 44) = 4 ∧
      t.rd Reg.COACH_CMD_STAT_RESULT = (if stPend (s.cw (s.rd Reg.COACH_SEL_SEL) 44) = 0 then 1 else 2)) ∧
  (∀ s : State, s.port = .opened → stEn (s.cw (s.rd Reg.COACH_SEL_SEL) 44) = false →
    ∃ t, exec .coachCmdShutter s = .next t ∧ t.rd Reg.HOST_LAST_STATUS = 0 ∧ t.rd Reg.COACH_CMD_STAT_RESULT = 3) ∧
  (∀ s : State, s.port = .opened →
    ∃ t, exec .wheelLoRead s = .next t ∧ t.rd Reg.HOST_LAST_STATUS = 0 ∧ t.rd Reg.WHEEL_HI_TICK = s.tick / 2 ^ 32 % 2 ^ Reg.WHEEL_HI_TICK.w)

/-- At an open port with no update queued or running, while the host bridge does not own the coach bus: a word of the selected coach
that R33 and R40 allow and no lock protects is written. A frame of no words changes nothing. REQ of the plan swap, with door 1 open
and at most 64 seats, is taken with its count. WAIT_MAX of the requester selected is cleared. The selected input's filter settings
within R164 are written. (Rests on R33, R44, R45, R65, R126, R130, R155, R157, R392) -/
def Obligations.HostWritesCoachesAndPlans : Prop :=
  (∀ (s : State) (w : Fin 64) (v : Nat), s.port = .opened → s.rgnHolds = false → s.ownsBus 11 = false → (Reg.coachAcc w.val = .rw ∨ Reg.coachAcc w.val = .rwl) →
    (Reg.coachAcc w.val = .rwl → s.coachLocked (s.rd Reg.COACH_SEL_SEL) = false) →
    (s.wrCoach (s.rd Reg.COACH_SEL_SEL) w.val (v &&& coachMask w.val)).coachOk (s.rd Reg.COACH_SEL_SEL) = true →
    ∃ t, exec (.coachWindowWrite w [v]) s = .next t ∧ t.rd Reg.HOST_LAST_STATUS = 0 ∧
      (w.val ≠ 44 → t.cw (s.rd Reg.COACH_SEL_SEL) w.val = (v &&& coachMask w.val) % 2 ^ 32)) ∧
  (∀ (s : State) (w : Fin 64), s.port = .opened →
    ∃ t, exec (.coachWindowWrite w []) s = .next t ∧ t.rd Reg.HOST_LAST_STATUS = 0 ∧
      (∀ c : Nat, c < 160 → ∀ k : Nat, k < 64 → t.cw c k = s.cw c k)) ∧
  (∀ (s : State) (count : Nat), s.port = .opened → s.rgnHolds = false → bit (s.rd Reg.HOST_DOOR_OPEN) 1 = true → count ≤ 64 →
    ∃ t, exec (.arbSwapReq count) s = .next t ∧ t.rd Reg.HOST_LAST_STATUS = 0 ∧ t.rd Reg.ARB_SWAP_REQ = 1 ∧
      t.rd Reg.ARB_STATUS_SWAP_PEND = 1 ∧ t.rd Reg.ARB_SWAP_SHADOW_COUNT = count) ∧
  (∀ (s : State) (r : Fin 16), s.port = .opened →
    ∃ t, exec (.arbWmaxClr r) s = .next t ∧ t.rd Reg.HOST_LAST_STATUS = 0 ∧ t.rdAt Hid.wmax r.val = 0 ∧
      (∀ k : Nat, k < 16 → k ≠ r.val → t.rdAt Hid.wmax k = s.rdAt Hid.wmax k)) ∧
  (∀ (s : State) (v : Nat), s.port = .opened → s.rgnHolds = false → bits v Reg.UI_FILT_OSR.lo Reg.UI_FILT_OSR.w ≤ 4 →
    bits v Reg.UI_FILT_PACE.lo Reg.UI_FILT_PACE.w ≤ 16 →
    bits v Reg.UI_FILT_LR.lo Reg.UI_FILT_LR.w ≤ 2 →
    ∃ t, exec (.uiSettingsWrite 1 v) s = .next t ∧ t.rd Reg.HOST_LAST_STATUS = 0 ∧
      t.rdAt Reg.UI_FILT_OSR (s.rd Reg.UI_SEL_SEL) = bits v Reg.UI_FILT_OSR.lo Reg.UI_FILT_OSR.w ∧
      t.rdAt Reg.UI_FILT_PACE (s.rd Reg.UI_SEL_SEL) = bits v Reg.UI_FILT_PACE.lo Reg.UI_FILT_PACE.w ∧
      t.rdAt Reg.UI_FILT_LR (s.rd Reg.UI_SEL_SEL) = bits v Reg.UI_FILT_LR.lo Reg.UI_FILT_LR.w ∧
      t.rdAt Reg.UI_FILT_IIR_SHIFT (s.rd Reg.UI_SEL_SEL) = bits v Reg.UI_FILT_IIR_SHIFT.lo Reg.UI_FILT_IIR_SHIFT.w)

/-- At an open port: GO of an urgent conversion on C with C off starts C with the request waiting, DONE and DROPPED clear. REQ makes
the calibration of every named converter that C does not replace due. A system calibration point starts in SERVICE for an input with
an analogue mode, answers RESULT 7 outside SERVICE and 9 while one runs; ABORT ends it with RESULT 10. Re-admission of one sensor
answers RESULT 2 where it has not failed, or failed for a cause other than 1 and 3, and RESULT 3 where no neighbour is usable;
otherwise a readmit of the sensor stands, no earlier code counts for it, and its conversion waits behind the thermal request under
way where there is one. (Rests on R158, R160, R172, R185, R186, R265) -/
def Obligations.HostConvertsAndCalibrates : Prop :=
  (∀ (s : State) (i : Fin 64), s.port = .opened → s.convs.length = 3 → (s.conv 2).phase = .off →
    ∃ t, exec (.convUrgGo i 3) s = .next t ∧ t.rd Reg.HOST_LAST_STATUS = 0 ∧ (t.conv 2).phase = .starting ∧
      (t.conv 2).wait = (s.conv 2).wait ++ [⟨.host, i.val, 2⟩] ∧ t.rd Reg.CONV_URG_DONE = 0 ∧ t.rd Reg.CONV_URG_DROPPED = 0) ∧
  (∀ (s : State) (mask : Fin 8), s.port = .opened → s.cals.length = 3 →
    ∃ t, exec (.calReq mask) s = .next t ∧ t.rd Reg.HOST_LAST_STATUS = 0 ∧
      (∀ c : Nat, c < 3 → bit mask.val c = true → s.replaced c = false → (t.cal c).due = true)) ∧
  (∀ (s : State) (i : Fin 64) (p : Fin 4), s.port = .opened → s.mode = mService → i.val < 40 → (p.val = 1 ∨ p.val = 2) →
    1 ≤ s.uiMode i.val → s.uiMode i.val ≤ 6 → s.on Reg.CAL_SYS_STAT_BUSY = false →
    ∃ t, exec (.calSysGo i p) s = .next t ∧ t.rd Reg.HOST_LAST_STATUS = 0 ∧ t.rd Reg.CAL_SYS_STAT_BUSY = 1 ∧
      t.rd Reg.CAL_SYS_STAT_RESULT = 0 ∧ t.rd Hid.sysIn = i.val ∧ t.rd Hid.sysPoint = p.val) ∧
  (∀ (s : State) (i : Fin 64) (p : Fin 4), s.port = .opened → s.mode ≠ mService → i.val < 40 → (p.val = 1 ∨ p.val = 2) →
    s.on Reg.CAL_SYS_STAT_BUSY = false →
    ∃ t, exec (.calSysGo i p) s = .next t ∧ t.rd Reg.HOST_LAST_STATUS = 0 ∧ t.rd Reg.CAL_SYS_STAT_RESULT = 7 ∧
      t.rd Reg.CAL_SYS_STAT_BUSY = s.rd Reg.CAL_SYS_STAT_BUSY) ∧
  (∀ (s : State) (i : Fin 64) (p : Fin 4), s.port = .opened → i.val < 40 → (p.val = 1 ∨ p.val = 2) →
    s.on Reg.CAL_SYS_STAT_BUSY = true →
    ∃ t, exec (.calSysGo i p) s = .next t ∧ t.rd Reg.HOST_LAST_STATUS = 0 ∧ t.rd Reg.CAL_SYS_STAT_RESULT = 9) ∧
  (∀ s : State, s.port = .opened → s.on Reg.CAL_SYS_STAT_BUSY = true → s.rd Reg.CAL_SYS_CMD_INPUT < 40 →
    (s.rd Reg.CAL_SYS_CMD_POINT = 1 ∨ s.rd Reg.CAL_SYS_CMD_POINT = 2) →
    ∃ t, exec .calSysAbort s = .next t ∧ t.rd Reg.HOST_LAST_STATUS = 0 ∧ t.rd Reg.CAL_SYS_STAT_BUSY = 0 ∧
      t.rd Reg.CAL_SYS_STAT_RESULT = 10) ∧
  (∀ (s : State) (mask : Fin 256) (i : Fin 8), s.port = .opened → mask.val = 2 ^ i.val →
    (s.tsFailed i.val = false ∨ (s.rdAt Reg.TS_STATE_CAUSE i.val ≠ 1 ∧ s.rdAt Reg.TS_STATE_CAUSE i.val ≠ 3)) →
    ∃ t, exec (.thermReadmit mask) s = .next t ∧ t.rd Reg.HOST_LAST_STATUS = 0 ∧ t.rd Reg.THERM_CMD_STAT_RESULT = 2 ∧
      t.rdAt Hid.tsReadmit i.val = s.rdAt Hid.tsReadmit i.val) ∧
  (∀ (s : State) (mask : Fin 256) (i : Fin 8), s.port = .opened → mask.val = 2 ^ i.val → s.tsFailed i.val = true →
    s.rdAt Reg.TS_STATE_CAUSE i.val ∈ [1, 3] → s.tsUsables i.val = [] →
    ∃ t, exec (.thermReadmit mask) s = .next t ∧ t.rd Reg.HOST_LAST_STATUS = 0 ∧ t.rd Reg.THERM_CMD_STAT_RESULT = 3 ∧
      t.rdAt Hid.tsReadmit i.val = s.rdAt Hid.tsReadmit i.val) ∧
  (∀ (s : State) (mask : Fin 256) (i : Fin 8), s.port = .opened → mask.val = 2 ^ i.val → s.tsFailed i.val = true →
    s.rdAt Reg.TS_STATE_CAUSE i.val ∈ [1, 3] → s.tsUsables i.val ≠ [] →
    ∃ t, exec (.thermReadmit mask) s = .next t ∧ t.rd Reg.HOST_LAST_STATUS = 0 ∧ t.rdAt Hid.tsReadmit i.val = 1 ∧
      t.rdAt Hid.tsUrgNew i.val = 0 ∧ t.rdAt Reg.TS_STATE_FAILED i.val = s.rdAt Reg.TS_STATE_FAILED i.val ∧
      (s.urgBusy .therm = true → t.urgMore = s.urgMore ++ [⟨.therm, 54 + i.val, 3⟩]))

/-- At an open port: UNLOCK takes the fans it names, the direct drive and the tachometer fans, out of LOCKED with STALL_CNT 0.
VLV_CFG that R224 allows sets MODE, HS_USE and DIAG_OFF of the selected channel. DIAG_NOW of one switch puts its channels under
test, CLEAR takes a channel out of FAULT, HS_CLEAR unblocks a switch. HOME asks the named dampers for a homing; CLEAR takes them out
of FAULT with the position lost. BO_CLEAR ends the named outputs' FAULT. (Rests on R203, R208, R229, R231, R232, R236, R241, R242,
R476) -/
def Obligations.HostCommandsOutputs : Prop :=
  (∀ (s : State) (mask : Fin 8), s.port = .opened →
    ∃ t, exec (.fanUnlock mask) s = .next t ∧ t.rd Reg.HOST_LAST_STATUS = 0 ∧
      (∀ n : Nat, n < 3 → 1 ≤ n → bit mask.val n = true → s.fan n = fLocked → t.fan n ≠ fLocked ∧ t.rdAt Reg.FANT_STATE_STALL_CNT (n - 1) = 0) ∧
      (bit mask.val 0 = true → s.fan 0 = fLocked → t.fan 0 ≠ fLocked ∧ t.rd Reg.FAN_STATE_STALL_CNT = 0 ∧ t.rd Reg.FAN_STATE_LOCK_CAUSE = 0)) ∧
  (∀ (s : State) (v : Nat), s.port = .opened → s.rgnHolds = false →
    (s.vlvWriteCfg (s.rd Reg.VLV_SEL_SEL) v).vlvOk 0x3401 (s.rd Reg.VLV_SEL_SEL) = true →
    ∃ t, exec (.valveModeWrite v) s = .next t ∧ t.rd Reg.HOST_LAST_STATUS = 0 ∧
      t.rdAt Reg.VLV_CFG_MODE (s.rd Reg.VLV_SEL_SEL) = bits v 0 2 ∧ t.rdAt Reg.VLV_CFG_HS_USE (s.rd Reg.VLV_SEL_SEL) = bits v 2 1 ∧
      t.rdAt Reg.VLV_CFG_DIAG_OFF (s.rd Reg.VLV_SEL_SEL) = bits v 3 1) ∧
  (∀ (s : State) (mask : Fin 16) (h : Nat), s.port = .opened → s.operating = true → h < 4 → mask.val = 2 ^ h →
    ∃ t, exec (.vlvDiagNow mask) s = .next t ∧ t.rd Reg.HOST_LAST_STATUS = 0 ∧
      (∀ n ∈ (s.vlvTestable h).1, t.onAt Hid.vlvTest n = true)) ∧
  (∀ (s : State) (mask : Fin 256), s.port = .opened →
    ∃ t, exec (.vlvClear mask) s = .next t ∧ t.rd Reg.HOST_LAST_STATUS = 0 ∧
      (∀ n : Nat, n < 8 → bit mask.val n = true → s.vlv n = vFault → t.vlv n ≠ vFault ∧ t.rdAt Reg.VLV_DIAG_CAUSE n = 0)) ∧
  (∀ (s : State) (mask : Fin 16), s.port = .opened →
    ∃ t, exec (.vlvHsClear mask) s = .next t ∧ t.rd Reg.HOST_LAST_STATUS = 0 ∧
      (∀ h : Nat, h < 4 → bit mask.val h = true → bit (t.rd Reg.VLV_HS_BLOCKED) h = false)) ∧
  (∀ (s : State) (mask : Fin 16), s.port = .opened →
    ∃ t, exec (.dmpHome mask) s = .next t ∧ t.rd Reg.HOST_LAST_STATUS = 0 ∧
      (∀ d : Nat, d < 4 → t.rdAt Hid.dmpHome d = if bit mask.val d = true then 1 else s.rdAt Hid.dmpHome d)) ∧
  (∀ (s : State) (mask : Fin 16), s.port = .opened →
    ∃ t, exec (.dmpClear mask) s = .next t ∧ t.rd Reg.HOST_LAST_STATUS = 0 ∧
      (∀ d : Nat, d < 4 → bit mask.val d = true → s.dst d = 5 →
        t.dst d ≠ 5 ∧ t.rdAt Reg.DMP_STATE_POS_OK d = 0 ∧ t.rdAt Reg.DMP_STATE_CAUSE d = 0)) ∧
  (∀ (s : State) (mask : Fin 64), s.port = .opened →
    ∃ t, exec (.boClear mask) s = .next t ∧ t.rd Reg.HOST_LAST_STATUS = 0 ∧
      (∀ n : Nat, n < 6 → bit mask.val n = true → bit (t.rdAt Reg.BO_STATE_FORCED n) 2 = false))

/-- At an open port with the oscillator running: SET with a possible staged time waits for the next edge, SET_WDAY with a weekday up
to 6 loads it, GO of a shift with N not 0 and none pending waits with its N and HOLD. REARM clears STAMPED whether the oscillator
runs or not. A read of RTC_TIME latches the date. A force up to 4 of the selected zone is written and applied. SET_WDAY loads at
once (log entry 39). At an open port: a mode command allowed in the mode that stands waits for the next tick. SOFT starts a soft
reset's hold and counts it; COLD asserts a boot reset with cause 6. RELINK drops a link that is up, with LINK flagged; SC_RETRY ends
the wait at the shortest back-off. (Rests on R275, R276, R279, R283, R291, R298, R337, R338, R344, R347, R357, R364) -/
def Obligations.HostTimeModesAndResets : Prop :=
  (∀ s : State, s.port = .opened → s.on Hid.oscStopped = false → s.setOk = true →
    ∃ t, exec .rtcSet s = .next t ∧ t.rd Reg.HOST_LAST_STATUS = 0 ∧ t.rd Hid.rtcPend = 1) ∧
  (∀ s : State, s.port = .opened → s.on Hid.oscStopped = false → s.rd Reg.RTC_SET_DATE_WDAY ≤ 6 →
    ∃ t, exec .rtcSetWday s = .next t ∧ t.rd Reg.HOST_LAST_STATUS = 0 ∧ t.rd Reg.RTC_DATE_WDAY = s.rd Reg.RTC_SET_DATE_WDAY) ∧
  (∀ s : State, s.port = .opened →
    ∃ t, exec .rtcRearm s = .next t ∧ t.rd Reg.HOST_LAST_STATUS = 0 ∧ t.rd Reg.RTC_STAMP_DATE_STAMPED = 0) ∧
  (∀ (s : State) (n : Fin 32768) (hold : Bool), s.port = .opened → s.on Hid.oscStopped = false → s.on Reg.RTC_STAT_SHIFT_PEND = false →
    n.val ≠ 0 →
    ∃ t, exec (.rtcShiftGo n hold) s = .next t ∧ t.rd Reg.HOST_LAST_STATUS = 0 ∧ t.rd Reg.RTC_STAT_SHIFT_PEND = 1 ∧
      t.rd Hid.rtcShift = n.val + b2n hold * 2 ^ 15) ∧
  (∀ s : State, s.port = .opened →
    ∃ t, exec .rtcTimeRead s = .next t ∧ t.rd Reg.HOST_LAST_STATUS = 0 ∧ t.rd Hid.rtcLatDOn = 1 ∧
      t.rd Hid.rtcLatD = s.dateWord % 2 ^ 27) ∧
  (∀ (s : State) (v : Nat), s.port = .opened → s.rgnHolds = false → v ≤ 4 →
    ∃ t, exec (.zoneForceWrite v) s = .next t ∧ t.rd Reg.HOST_LAST_STATUS = 0 ∧ t.rdAt Reg.ZONE_FORCE_FORCE (s.rd Reg.SCHED_ZSEL_SEL) = v ∧
      (1 ≤ v → t.rdAt Reg.ZONE_STATE_SET (s.rd Reg.SCHED_ZSEL_SEL) = v - 1)) ∧
  (∀ s : State, s.port = .opened → s.mode = mService →
    ∃ t, exec .pwrModeNative s = .next t ∧ t.rd Reg.HOST_LAST_STATUS = 0 ∧ t.rd Reg.PWR_MODE_PEND = 1 ∧ t.rd Hid.modeCmd = 1) ∧
  (∀ s : State, s.port = .opened → s.mode = mNative →
    ∃ t, exec .pwrModeService s = .next t ∧ t.rd Reg.HOST_LAST_STATUS = 0 ∧ t.rd Reg.PWR_MODE_PEND = 1 ∧ t.rd Hid.modeCmd = 2) ∧
  (∀ s : State, s.port = .opened → s.mode = mNative →
    ∃ t, exec .pwrModeStandby s = .next t ∧ t.rd Reg.HOST_LAST_STATUS = 0 ∧ t.rd Reg.PWR_MODE_PEND = 1 ∧ t.rd Hid.modeCmd = 3) ∧
  (∀ s : State, s.port = .opened → s.mode = mStandby →
    ∃ t, exec .pwrModeWake s = .next t ∧ t.rd Reg.HOST_LAST_STATUS = 0 ∧ t.rd Reg.PWR_MODE_PEND = 1 ∧ t.rd Hid.modeCmd = 4) ∧
  (∀ s : State, s.port = .opened → s.mode = mNative →
    ∃ t, exec .pwrModeWake s = .next t ∧ t.rd Reg.HOST_LAST_STATUS = 6 ∧ t.rd Reg.PWR_MODE_PEND = s.rd Reg.PWR_MODE_PEND) ∧
  (∀ s : State, s.port = .opened →
    ∃ t, exec .pwrRstSoft s = .next t ∧ t.on Hid.softHold = true ∧ t.rd Reg.RST_CAUSE_SOFT_CNT = capN 255 (s.rd Reg.RST_CAUSE_SOFT_CNT + 1) ∧
      t.rd Reg.RST_CAUSE_LAST_SOFT = 0 ∧ t.intCause = 0) ∧
  (∀ s : State, s.port = .opened →
    ∃ t, exec .pwrRstCold s = .next t ∧ t.mode = mBoot ∧ t.rd Reg.RST_CAUSE_CAUSE = 6 ∧ t.alive = false) ∧
  (∀ s : State, s.port = .opened → s.netOn = true → s.on Reg.NET_STAT_LINK = true →
    ∃ t, exec .netRelink s = .next t ∧ t.rd Reg.HOST_LAST_STATUS = 0 ∧ t.rd Reg.NET_STAT_LINK = 0 ∧ bit (t.rd Reg.NET_FLAGS_FLAGS) 0 = true) ∧
  (∀ s : State, s.port = .opened →
    ∃ t, exec .netScRetry s = .next t ∧ t.rd Reg.HOST_LAST_STATUS = 0 ∧ t.rd Reg.NET_SC_STAT_WAIT = 0 ∧
      (s.rd Reg.NET_STAT_SC_STATE = 6 → t.rd Reg.NET_STAT_SC_STATE = 3))

/-- At an open port with door 2 open, in a mode that runs updates: a word to the staging window with nothing staged is staged and
shows STATE 1 with the host as source; START of a loading update starts its validation; ABORT of a loading update ends it with
RESULT 4. With no persist, OPEN in NATIVE opens one of the other copy; COMMIT of an open one starts its check; ABORT ends it with
RESULT 4. A first staged word claims the buffer without clearing it, and ABORT discards a loading update (log entry 43). (Rests on
R318, R322, R323, R326) -/
def Obligations.HostRunsUpdates : Prop :=
  (∀ (s : State) (k : Fin 256) (v : Nat), s.port = .opened → bit (s.rd Reg.HOST_DOOR_OPEN) 2 = true → s.rgnMode = true →
    s.rd Reg.RGN_CTRL_STATE = 0 → s.rd Reg.RGN_OFS_OFS + k.val ≤ 8191 →
    ∃ t, exec (.regionStageWrite k [v]) s = .next t ∧ t.rd Reg.HOST_LAST_STATUS = 0 ∧ t.rd Reg.RGN_CTRL_STATE = 1 ∧
      t.rd Reg.RGN_CTRL_SRC = 0 ∧ t.rdAt Hid.stage (s.rd Reg.RGN_OFS_OFS + k.val) = v % 2 ^ 32) ∧
  (∀ s : State, s.port = .opened → bit (s.rd Reg.HOST_DOOR_OPEN) 2 = true → s.rgnMode = true → s.rd Reg.RGN_CTRL_STATE = 1 →
    ∃ t, exec .rgnStart s = .next t ∧ t.rd Reg.HOST_LAST_STATUS = 0 ∧ t.rd Reg.RGN_CTRL_STATE = 2) ∧
  (∀ s : State, s.port = .opened → bit (s.rd Reg.HOST_DOOR_OPEN) 2 = true → s.rgnMode = true → s.rd Reg.RGN_CTRL_STATE = 1 →
    ∃ t, exec .rgnAbort s = .next t ∧ t.rd Reg.HOST_LAST_STATUS = 0 ∧ t.rd Reg.RGN_CTRL_STATE = 0 ∧ t.rd Reg.RGN_RES_RESULT = 4 ∧
      bit t.intCause 14 = true) ∧
  (∀ s : State, s.port = .opened → bit (s.rd Reg.HOST_DOOR_OPEN) 2 = true → s.mode = mNative → s.rd Reg.IMG_PERSIST_STATE = 0 →
    s.rd Reg.BOOT_STAT_COPY ≤ 1 →
    ∃ t, exec .imgPersistOpen s = .next t ∧ t.rd Reg.HOST_LAST_STATUS = 0 ∧ t.rd Reg.IMG_PERSIST_STATE = 1 ∧
      t.rd Reg.IMG_PERSIST_TARGET = 1 - s.rd Reg.BOOT_STAT_COPY) ∧
  (∀ s : State, s.port = .opened → bit (s.rd Reg.HOST_DOOR_OPEN) 2 = true → s.rd Reg.IMG_PERSIST_STATE = 3 →
    ∃ t, exec .imgPersistCommit s = .next t ∧ t.rd Reg.HOST_LAST_STATUS = 0 ∧ t.rd Reg.IMG_PERSIST_STATE = 4) ∧
  (∀ s : State, s.port = .opened → bit (s.rd Reg.HOST_DOOR_OPEN) 2 = true → s.rd Reg.IMG_PERSIST_STATE = 3 →
    ∃ t, exec .imgPersistAbort s = .next t ∧ t.rd Reg.HOST_LAST_STATUS = 0 ∧ t.rd Reg.IMG_PERSIST_STATE = 0 ∧
      t.rd Reg.IMG_PERSIST_RESULT = 4 ∧ bit t.intCause 14 = true)

/-- At an open port: the first step of a door with its word leaves that step pending, the second with its word opens the door,
DOOR_CLOSE shuts it. A wrong word is refused with STATUS 5 and opens nothing. A heartbeat is stored, restarts LEFT and clears the
host cause; HB_TIMEOUT of 0 or 100 and more is stored and restarts LEFT. A snapshot stamps the tick and copies every counter that
the frame itself does not count; one that counts the cycles of a level shows at most the units of the running ms more (log entry 6);
a clear leaves 0 in every counter of an event that the frame does not count. EVC_CFG sets the selected counter's source, mode and
prescaler. (Rests on R395, R398, R399, R402, R405, R406) -/
def Obligations.DoorsAndCounters : Prop :=
  (∀ (s : State) (d : Fin 4), s.port = .opened →
    ∃ t, exec (.doorFirstStep d 0xC35A) s = .next t ∧ t.rd Reg.HOST_LAST_STATUS = 0 ∧ t.rd Reg.HOST_DOOR_STEP = 2 ^ d.val ∧
      t.rd Reg.HOST_DOOR_OPEN = s.rd Reg.HOST_DOOR_OPEN) ∧
  (∀ (s : State) (d : Fin 4), s.port = .opened → bit (s.rd Reg.HOST_DOOR_STEP) d.val = true →
    ∃ t, exec (.doorSecondStep d 0x3CA5) s = .next t ∧ t.rd Reg.HOST_LAST_STATUS = 0 ∧ t.rd Reg.HOST_DOOR_STEP = 0 ∧
      bit (t.rd Reg.HOST_DOOR_OPEN) d.val = true) ∧
  (∀ (s : State) (d : Fin 4) (arg : Nat), s.port = .opened → arg < 2 ^ 32 → arg ≠ 0x3CA5 →
    ∃ t, exec (.doorSecondStep d arg) s = .next t ∧ t.rd Reg.HOST_LAST_STATUS = 5 ∧ t.rd Reg.HOST_DOOR_STEP = 0 ∧
      t.rd Reg.HOST_DOOR_OPEN = s.rd Reg.HOST_DOOR_OPEN) ∧
  (∀ (s : State) (d : Fin 4), s.port = .opened →
    ∃ t, exec (.doorClose d) s = .next t ∧ t.rd Reg.HOST_LAST_STATUS = 0 ∧ bit (t.rd Reg.HOST_DOOR_OPEN) d.val = false ∧
      (∀ e : Nat, e < 4 → e ≠ d.val → bit (t.rd Reg.HOST_DOOR_OPEN) e = bit (s.rd Reg.HOST_DOOR_OPEN) e)) ∧
  (∀ (s : State) (v : Nat), s.port = .opened →
    ∃ t, exec (.hostHbWrite v) s = .next t ∧ t.rd Reg.HOST_LAST_STATUS = 0 ∧ t.rd Reg.HOST_HB_COUNT = v % 2 ^ 16 ∧
      t.rd Reg.HOST_HB_CFG_LEFT = s.rd Reg.HOST_HB_CFG_HB_TIMEOUT % 2 ^ 16 ∧ t.rd Reg.PWR_STAT_HOST_LOST = 0) ∧
  (∀ (s : State) (v : Nat), s.port = .opened → s.rgnHolds = false → (v % 2 ^ 16 = 0 ∨ 100 ≤ v % 2 ^ 16) →
    ∃ t, exec (.hbTimeoutWrite v) s = .next t ∧ t.rd Reg.HOST_LAST_STATUS = 0 ∧ t.rd Reg.HOST_HB_CFG_HB_TIMEOUT = v % 2 ^ 16 ∧
      t.rd Reg.HOST_HB_CFG_LEFT = v % 2 ^ 16) ∧
  (∀ s : State, s.port = .opened → s.evcs.length = 16 →
    ∃ t, exec .evcSnapshot s = .next t ∧ t.rd Reg.HOST_LAST_STATUS = 0 ∧ t.evcStamp = s.tick % 2 ^ 32 ∧
      (∀ k : Nat, k < 16 → (s.evcs.getD k {}).src ≠ 0xD0 → (s.evcs.getD k {}).src ≠ 0xDA →
        ¬(isLevel (s.evcs.getD k {}).src = true ∧ (s.evcs.getD k {}).mode = 2) → (t.evcs.getD k {}).snap = (s.evcs.getD k {}).count) ∧
      (∀ k : Nat, k < 16 → isLevel (s.evcs.getD k {}).src = true → (s.evcs.getD k {}).mode = 2 →
        ∃ n, n ≤ s.msUnits (s.evcs.getD k {}) ∧ (t.evcs.getD k {}).snap % 2 ^ 32 = ((s.evcs.getD k {}).count + n) % 2 ^ 32)) ∧
  (∀ s : State, s.port = .opened → s.evcs.length = 16 →
    ∃ t, exec .evcClearAll s = .next t ∧ t.rd Reg.HOST_LAST_STATUS = 0 ∧
      (∀ k : Nat, k < 16 → (s.evcs.getD k {}).src ≠ 0xD6 → isLevel (s.evcs.getD k {}).src = false → (t.evcs.getD k {}).count = 0)) ∧
  (∀ (s : State) (v : Nat), s.port = .opened → s.evcs.length = 16 → s.rd Reg.EVC_SEL_SEL < 16 → bits v 12 2 ≠ 3 →
    srcReserved (bits v 0 8) = false →
    ∃ t, exec (.evcCfgWrite v) s = .next t ∧ t.rd Reg.HOST_LAST_STATUS = 0 ∧
      (t.evcs.getD (s.rd Reg.EVC_SEL_SEL) {}).src = bits v 0 8 ∧ (t.evcs.getD (s.rd Reg.EVC_SEL_SEL) {}).mode = bits v 8 2 ∧
      (t.evcs.getD (s.rd Reg.EVC_SEL_SEL) {}).presc = bits v 12 2)

/-- At an open port with the hatch free and no early warning: a read at a word of the flash starts; in SAFE with door 2 open a
program within one page takes its words from HATCH_DATA, and an erase at a sector starts. With door 3 open, no OTP programming and
no early warning: PROG_HASH without a hash takes the staged words, PROG_SIGNED with one starts. OFF starts a running panel's
discharge; ON lets a panel that is off wait for its supplies. (Rests on R325, R400, R401, R410, R422, R424) -/
def Obligations.HatchOtpAndPanelCommands : Prop :=
  (∀ s : State, s.port = .opened → s.hatch.op = 0 → s.on Reg.PWR_STAT_EW = false → s.rd Reg.HATCH_ADDR_ADDR % 4 = 0 → s.onEeprom = false →
    ∃ t, exec .hatchRead s = .next t ∧ t.rd Reg.HOST_LAST_STATUS = 0 ∧ t.hatch.op = 1 ∧ t.hatch.addr = s.rd Reg.HATCH_ADDR_ADDR ∧
      t.hatch.count = s.rd Reg.HATCH_LEN_WORDS_M1 + 1) ∧
  (∀ s : State, s.port = .opened → bit (s.rd Reg.HOST_DOOR_OPEN) 2 = true → s.mode = mSafe → s.hatch.op = 0 →
    s.on Reg.PWR_STAT_EW = false → s.rd Reg.HATCH_ADDR_ADDR % 4 = 0 → s.onEeprom = false →
    s.rd Reg.HATCH_ADDR_ADDR % 256 + 4 * (s.rd Reg.HATCH_LEN_WORDS_M1 + 1) ≤ 256 →
    ∃ t, exec .hatchProgram s = .next t ∧ t.rd Reg.HOST_LAST_STATUS = 0 ∧ t.hatch.op = 2 ∧
      t.hatch.words = (upTo (s.rd Reg.HATCH_LEN_WORDS_M1 + 1)).map (fun k => s.rdAt Reg.HATCH_DATA_DATA k)) ∧
  (∀ s : State, s.port = .opened → bit (s.rd Reg.HOST_DOOR_OPEN) 2 = true → s.mode = mSafe → s.hatch.op = 0 →
    s.on Reg.PWR_STAT_EW = false → s.rd Reg.HATCH_ADDR_ADDR % 4096 = 0 → s.onEeprom = false →
    ∃ t, exec .hatchErase s = .next t ∧ t.rd Reg.HOST_LAST_STATUS = 0 ∧ t.hatch.op = 3) ∧
  (∀ s : State, s.port = .opened → bit (s.rd Reg.HOST_DOOR_OPEN) 3 = true → s.on Reg.OTP_PROG_BUSY = false →
    s.on Reg.PWR_STAT_EW = false → s.otp.hashSet = false →
    ∃ t, exec .otpProgHash s = .next t ∧ t.rd Reg.HOST_LAST_STATUS = 0 ∧ t.rd Reg.OTP_PROG_BUSY = 1 ∧
      t.otp.hash = (upTo 8).map (fun k => s.rdAt Reg.OTP_HASH_HASH k)) ∧
  (∀ s : State, s.port = .opened → bit (s.rd Reg.HOST_DOOR_OPEN) 3 = true → s.on Reg.OTP_PROG_BUSY = false →
    s.on Reg.PWR_STAT_EW = false → s.otp.hashSet = true → s.otp.signed = false →
    ∃ t, exec .otpProgSigned s = .next t ∧ t.rd Reg.HOST_LAST_STATUS = 0 ∧ t.rd Reg.OTP_PROG_BUSY = 1 ∧ t.rd Hid.otpOp = 2) ∧
  (∀ s : State, s.port = .opened → s.rd Reg.DISP_STAT_STATE = 3 →
    ∃ t, exec .dispOff s = .next t ∧ t.rd Reg.HOST_LAST_STATUS = 0 ∧ t.rd Reg.DISP_STAT_STATE = 4 ∧ t.rd Hid.dispOff = 1) ∧
  (∀ s : State, s.port = .opened → s.rd Reg.DISP_STAT_STATE = 0 → s.native = true → s.rd Reg.DISP_CTRL_LINES ≠ 0 →
    s.on Reg.PWR_STAT_EW = false →
    ∃ t, exec .dispOn s = .next t ∧ t.rd Reg.HOST_LAST_STATUS = 0 ∧ t.rd Reg.DISP_STAT_STATE = 1 ∧ t.rd Hid.dispOff = 0)

/-- At an open port a read frame with its right CRC that stays below 0x10000, and needs no coach bus that the host bridge still
owns, answers STATUS 0 with four bytes a word, and HOST_LAST shows it; a write frame stores INT_EN; a request of no known kind
answers STATUS 6, with a wrong CRC 1 of whatever kind it is. A wrong CRC of a write answers STATUS 1 and leaves INT_EN alone; a busy
port answers 3; a port that is off leaves every register alone. A guarded word behind a closed door answers 5. (Rests on R388, R390,
R391, R392, R393, R394) -/
def Obligations.LyaleFrames : Prop :=
  (∀ (s : State) (a n : Nat), s.port = .opened → a + n ≤ 0x10000 → a < 0x10000 → n ≤ 255 → s.hostOrder a n = false →
    s.on Reg.HOST_CFG_PORT = false →
    ∃ t, exec (.lyaleRead a n (requestCrc 1 a n [])) s = .next t ∧ t.rd Reg.HOST_LAST_STATUS = 0 ∧ t.rd Reg.HOST_LAST_OPC = 1 ∧
      t.rd Reg.HOST_LAST_ADDR = a ∧ t.sent.length = 4 * n + 2 ∧ (t.sent.head? = some 0)) ∧
  (∀ (s : State) (v : Nat), s.port = .opened →
    ∃ t, exec (.lyaleWrite 0x4809 [v] (requestCrc 2 0x4809 1 [v % 2 ^ 32])) s = .next t ∧ t.rd Reg.HOST_LAST_STATUS = 0 ∧
      t.rd Reg.INT_EN_EN = v % 2 ^ 16 ∧ t.rd Reg.HOST_LAST_OPC = 2) ∧
  (∀ (s : State) (v crc : Nat), s.port = .opened → crc ≤ 255 → crc ≠ requestCrc 2 0x4809 1 [v % 2 ^ 32] →
    ∃ t, exec (.lyaleWrite 0x4809 [v] crc) s = .next t ∧ t.rd Reg.HOST_LAST_STATUS = 1 ∧ t.rd Reg.INT_EN_EN = s.rd Reg.INT_EN_EN) ∧
  (∀ (s : State) (a : Nat) (data : List Nat) (crc : Nat), s.port = .busy → a ≤ 0xFFFF → data.length ≤ 255 → crc ≤ 255 →
    crc = requestCrc 2 a data.length (data.map (fun v => v % 2 ^ 32)) →
    ∃ t, exec (.lyaleWrite a data crc) s = .next t ∧ t.rd Reg.HOST_LAST_STATUS = 3 ∧ t.rd Reg.INT_EN_EN = s.rd Reg.INT_EN_EN) ∧
  (∀ (s : State) (a : Nat) (data : List Nat) (crc : Nat), s.port = .off → a ≤ 0xFFFF → data.length ≤ 255 → crc ≤ 255 →
    ∃ t, exec (.lyaleWrite a data crc) s = .next t ∧ t.regs = s.regs ∧ t.sent = s.sent) ∧
  (∀ (s : State) (opc a n : Nat), s.port = .opened → 4 ≤ opc → opc ≤ 255 → a ≤ 0xFFFF → n ≤ 255 →
    ∃ t, exec (.lyaleUnknownOpc ⟨opc, true⟩ a n) s = .next t ∧ t.rd Reg.HOST_LAST_STATUS = 6 ∧ t.rd Reg.HOST_LAST_OPC = opc) ∧
  (∀ (s : State) (opc a n : Nat), s.port = .opened → opc ≤ 255 → a ≤ 0xFFFF → n ≤ 255 →
    ∃ t, exec (.lyaleUnknownOpc ⟨opc, false⟩ a n) s = .next t ∧ t.rd Reg.HOST_LAST_STATUS = 1 ∧ t.rd Reg.HOST_LAST_OPC = opc) ∧
  (∀ s : State, s.port = .opened → bit (s.rd Reg.HOST_DOOR_OPEN) 0 = false → s.rd Reg.SUPV_REPAIR_GO = 0 →
    ∃ t, exec .supvRepair s = .next t ∧ t.rd Reg.HOST_LAST_STATUS = 5 ∧ t.rd Reg.SUPV_REPAIR_GO = 0)

/-- For each command named: when it answers a next state, every register field outside the listed ones reads as before, no cause of
INT_CAUSE is lost, and every component of the machine outside the named ones (the queue, attached memory, OTP and the others) is the
same. Where coach words, flash or the staging buffer may change, a clause names the coach, the words or the bytes. (Rests on R46,
R83, R92, R101, R113, R125, R129) -/
def Obligations.EngineFrames : Prop :=
  (∀ (s t : State), exec .periodWheelTick s = .next t → s.sameBut ([Hid.aiRsn, Hid.aiVal, Hid.boMs, Hid.calHold, Hid.closeInit, Hid.dmpDir,
      Hid.dmpFrac, Hid.dmpPhase, Hid.dmpVel, Hid.eee, Hid.evcFb, Hid.fanCoasted, Hid.fanDem, Hid.fanIlim, Hid.fanInt, Hid.fanRampMs, Hid.fanRef,
      Hid.fanSpdInt, Hid.heldTicks, Hid.ipSrc, Hid.ipWait, Hid.mbDue, Hid.mbFail, Hid.mbTries, Hid.mbWait, Hid.modeCmd, Hid.patch, Hid.ruDue,
      Hid.ruWait, Hid.scAlt, Hid.scBackoff, Hid.scOn, Hid.snsDue, Hid.supAge, Hid.svcDrop, Hid.svcOpen, Hid.tick, Hid.tickRun, Hid.trendDue,
      Hid.uiDue, Hid.vlvBandNow, Hid.vlvGrid, Hid.vlvHsTest, Hid.vlvOrg, Hid.vlvOrgKind, Hid.vlvTest, Hid.vmac, Hid.wakeAlarm, Hid.wakeNet,
      Hid.wakeOcc, Hid.wakeSched, Reg.BO_MAN_MAN_EN, Reg.BO_STATE_ELAPSED, Reg.BO_STATE_FORCED, Reg.BO_STATE_OUT, Reg.BO_STATE_WAIT,
      Reg.BUS_STAT_STATE, Reg.BUS_STAT_TOKEN_AGE, Reg.CAL_SYS_STAT_BUSY, Reg.CAL_SYS_STAT_RESULT, Reg.CLK_FB_TIME_MS, Reg.CONV_FLAGS_DROP,
      Reg.CONV_URG_DROPPED, Reg.DISP_STAT_STATE, Reg.DMP_MAN_MAN_EN, Reg.DMP_POS_POS, Reg.ENG_STATUS_PMUL, Reg.FANT_DEMAND_DEMAND,
      Reg.FANT_MEAS_DUTY, Reg.FANT_STATE_STATE, Reg.FANT_STATE_TACH_LOST, Reg.FAN_COMMON_HEATER_BLOCK, Reg.FAN_COMMON_SRC, Reg.FAN_DEMAND_DEMAND,
      Reg.FAN_DEMAND_REF, Reg.FAN_MEAS_IQ, Reg.FAN_MEAS_SPEED, Reg.FAN_STATE_ATTEMPT, Reg.FAN_STATE_STATE, Reg.HOST_HB_CFG_LEFT,
      Reg.MEM_ERR_COACH, Reg.MEM_ERR_MAC, Reg.NET_COV_ACTIVE, Reg.NET_FDR_FDR_STATE, Reg.NET_FLAGS_FLAGS, Reg.NET_IP_ADDR_ADDR, Reg.NET_IP_GW_GW,
      Reg.NET_IP_MASK_MASK, Reg.NET_MB_CLI_MB_FAIL, Reg.NET_PHY_SQI, Reg.NET_SC_STAT_ALERT, Reg.NET_SC_STAT_WAIT, Reg.NET_STAT_AMPL,
      Reg.NET_STAT_DCC, Reg.NET_STAT_IP_OK, Reg.NET_STAT_LINK, Reg.NET_STAT_PP_RUN, Reg.NET_STAT_SC_STATE, Reg.NET_STAT_TIME_UNCHK,
      Reg.NET_SUP_LEFT_LEFT, Reg.PWR_FLAGS_MODE_CHG, Reg.PWR_MODE_MODE, Reg.PWR_MODE_PEND, Reg.PWR_MODE_PREV, Reg.PWR_MODE_RESULT,
      Reg.PWR_WAKE_LAST, Reg.RGN_CTRL_STATE, Reg.RGN_RES_LEFT, Reg.RGN_RES_REASON, Reg.RGN_RES_RESULT, Reg.SNS_AGE_AGE, Reg.SUPV_CE_ADDR_COACH,
      Reg.SUPV_CE_ADDR_SYNDROME, Reg.SUPV_CE_ADDR_WORD, Reg.SUPV_DUE_ADDR_BY_SCRUB, Reg.SUPV_DUE_ADDR_COACH, Reg.SUPV_DUE_ADDR_WORD,
      Reg.SUPV_STAT_CE, Reg.SUPV_STAT_DUE, Reg.SUPV_WDT_REMAIN, Reg.THERM_FLAGS_URG_DROP, Reg.UI_AGE_AGE, Reg.VLV_DIAG_OFF_AGE,
      Reg.VLV_DIAG_OFF_RES, Reg.VLV_MAN_MAN_EN, Reg.VLV_MEAS_CURRENT, Reg.VLV_MEAS_DUTY, Reg.VLV_STATE_BAND, Reg.VLV_STATE_STATE,
      Reg.ZONE_FORCE_FORCE, Reg.ZONE_STATE_SET] ++ vlvSettings) t ∧ s.causesKept t ∧
    t = { s with
        regs := t.regs, free := t.free, intCause := t.intCause, evcs := t.evcs, evcWrap := t.evcWrap, due := t.due, upsets := t.upsets,
        actQ := t.actQ, xchks := t.xchks, convs := t.convs, cals := t.cals, urgMore := t.urgMore, avs := t.avs, rgn := t.rgn, hatch := t.hatch,
        net := t.net }) ∧
  (∀ (env : EvalEnv) (s t : State), exec (.coachEvaluation env) s = .next t → s.sameBut ([Hid.aiRsn, Hid.closeInit, Hid.first, Hid.izDrv,
      Hid.izH, Hid.svcDrop, Hid.svcOpen, Hid.swapPos, Reg.COACH_CMD_STAT_COACH, Reg.COACH_CMD_STAT_RESULT, Reg.CONV_FLAGS_DROP,
      Reg.CONV_URG_DROPPED, Reg.MEM_ERR_COACH, Reg.MEM_ERR_RESULT, Reg.RGN_CTRL_STATE, Reg.RGN_RES_LEFT, Reg.RGN_RES_REASON, Reg.RGN_RES_RESULT,
      Reg.SUPV_CE_ADDR_COACH, Reg.SUPV_CE_ADDR_SYNDROME, Reg.SUPV_CE_ADDR_WORD, Reg.SUPV_DUE_ADDR_BY_SCRUB, Reg.SUPV_DUE_ADDR_COACH,
      Reg.SUPV_DUE_ADDR_WORD, Reg.SUPV_LANE_DEGRADED, Reg.SUPV_LANE_FOLLOW, Reg.SUPV_LANE_LEAD, Reg.SUPV_LANE_LOG_COACH, Reg.SUPV_LANE_LOG_ITEM,
      Reg.SUPV_LANE_LOG_LOSER, Reg.SUPV_LANE_RETIRED, Reg.SUPV_LANE_SPARE, Reg.SUPV_LANE_STOPPED, Reg.SUPV_LANE_SWAP_BUSY,
      Reg.SUPV_LANE_TICK_TICK, Reg.SUPV_STAT_CE, Reg.SUPV_STAT_DUE, Reg.SUPV_STAT_MISMATCH, Reg.SUPV_STAT_NO_MAJ, Reg.SUPV_STAT_PLAUS,
      Reg.SUPV_STAT_RETIRE, Reg.SUPV_WDT_REMAIN, Reg.THERM_FLAGS_URG_DROP, Reg.UI_VALUE_REASON,
      Reg.UI_VALUE_VALID] ++ (upTo 64).map Reg.coachW) t ∧ s.causesKept t ∧
    t = { s with
        regs := t.regs, free := t.free, intCause := t.intCause, evcs := t.evcs, evcWrap := t.evcWrap, due := t.due, upsets := t.upsets,
        actQ := t.actQ, xchks := t.xchks, convs := t.convs, cals := t.cals, urgMore := t.urgMore, avs := t.avs, rgn := t.rgn } ∧
    s.coachesBut s.dueWords t) ∧
  (∀ (lane : Fin 3) (env : EvalEnv) (s t : State), exec (.laneTimeout lane env) s = .next t → s.sameBut ([Hid.aiRsn, Hid.closeInit, Hid.first,
      Hid.izDrv, Hid.izH, Hid.svcDrop, Hid.svcOpen, Hid.swapPos, Reg.COACH_CMD_STAT_COACH, Reg.COACH_CMD_STAT_RESULT, Reg.CONV_FLAGS_DROP,
      Reg.CONV_URG_DROPPED, Reg.MEM_ERR_COACH, Reg.MEM_ERR_RESULT, Reg.RGN_CTRL_STATE, Reg.RGN_RES_LEFT, Reg.RGN_RES_REASON, Reg.RGN_RES_RESULT,
      Reg.SUPV_CE_ADDR_COACH, Reg.SUPV_CE_ADDR_SYNDROME, Reg.SUPV_CE_ADDR_WORD, Reg.SUPV_DUE_ADDR_BY_SCRUB, Reg.SUPV_DUE_ADDR_COACH,
      Reg.SUPV_DUE_ADDR_WORD, Reg.SUPV_LANE_DEGRADED, Reg.SUPV_LANE_FOLLOW, Reg.SUPV_LANE_LEAD, Reg.SUPV_LANE_LOG_COACH, Reg.SUPV_LANE_LOG_ITEM,
      Reg.SUPV_LANE_LOG_LOSER, Reg.SUPV_LANE_RETIRED, Reg.SUPV_LANE_SPARE, Reg.SUPV_LANE_STOPPED, Reg.SUPV_LANE_SWAP_BUSY,
      Reg.SUPV_LANE_TICK_TICK, Reg.SUPV_STAT_CE, Reg.SUPV_STAT_DUE, Reg.SUPV_STAT_MISMATCH, Reg.SUPV_STAT_NO_MAJ, Reg.SUPV_STAT_PLAUS,
      Reg.SUPV_STAT_RETIRE, Reg.SUPV_WDT_REMAIN, Reg.THERM_FLAGS_URG_DROP, Reg.UI_VALUE_REASON,
      Reg.UI_VALUE_VALID] ++ (upTo 64).map Reg.coachW) t ∧ s.causesKept t ∧
    t = { s with
        regs := t.regs, free := t.free, intCause := t.intCause, evcs := t.evcs, evcWrap := t.evcWrap, due := t.due, upsets := t.upsets,
        actQ := t.actQ, xchks := t.xchks, convs := t.convs, cals := t.cals, urgMore := t.urgMore, avs := t.avs, rgn := t.rgn } ∧
    s.coachesBut s.dueWords t) ∧
  (∀ (pass : Bool) (s t : State), exec (.laneSwapEntryTest pass) s = .next t → s.sameBut [Hid.swapPos, Reg.SUPV_LANE_DEGRADED,
      Reg.SUPV_LANE_FOLLOW, Reg.SUPV_LANE_LEAD, Reg.SUPV_LANE_RETIRED, Reg.SUPV_LANE_SPARE, Reg.SUPV_LANE_SWAP_BUSY,
      Reg.SUPV_STAT_RETIRE] t ∧ s.causesKept t ∧
    t = { s with regs := t.regs, free := t.free, intCause := t.intCause, evcs := t.evcs, evcWrap := t.evcWrap }) ∧
  (∀ (passA : Bool) (passB : Bool) (passS : Bool) (s t : State),
      exec (.laneRestoreRun passA passB passS) s = .next t → s.sameBut [Reg.SUPV_LANE_CMD_CMD, Reg.SUPV_LANE_CMD_RESULT, Reg.SUPV_LANE_DEGRADED,
      Reg.SUPV_LANE_FOLLOW, Reg.SUPV_LANE_LEAD, Reg.SUPV_LANE_RETIRED, Reg.SUPV_LANE_SPARE, Reg.SUPV_LANE_STOPPED,
      Reg.SUPV_LANE_SWAP_BUSY] t ∧ s.causesKept t ∧
    t = { s with regs := t.regs, free := t.free, intCause := t.intCause, evcs := t.evcs, evcWrap := t.evcWrap }) ∧
  (∀ (upsets : List (Nat × Nat)) (s t : State), exec (.scrubCarriage upsets) s = .next t → s.sameBut [Reg.MEM_ERR_COACH, Reg.SUPV_CE_ADDR_COACH,
      Reg.SUPV_CE_ADDR_SYNDROME, Reg.SUPV_CE_ADDR_WORD, Reg.SUPV_DUE_ADDR_BY_SCRUB, Reg.SUPV_DUE_ADDR_COACH, Reg.SUPV_DUE_ADDR_WORD,
      Reg.SUPV_SCRUB_PASSES, Reg.SUPV_SCRUB_POS, Reg.SUPV_STAT_CE, Reg.SUPV_STAT_DUE] t ∧ s.causesKept t ∧
    t = { s with regs := t.regs, free := t.free, intCause := t.intCause, evcs := t.evcs, evcWrap := t.evcWrap, upsets := t.upsets }) ∧
  (∀ (coach : Fin 160) (s t : State), exec (.crossCheckRetry coach) s = .next t → s.sameBut [Reg.CONV_FLAGS_DROP, Reg.CONV_URG_DROPPED,
      Reg.THERM_FLAGS_URG_DROP] t ∧ s.causesKept t ∧
    t = { s with
        regs := t.regs, free := t.free, intCause := t.intCause, evcs := t.evcs, evcWrap := t.evcWrap, xchks := t.xchks,
        convs := t.convs, cals := t.cals, urgMore := t.urgMore }) ∧
  (∀ (coach : Fin 160) (s t : State), exec (.crossCheckResult coach) s = .next t → s.sameBut [Reg.CONV_FLAGS_DROP, Reg.CONV_URG_DROPPED,
      Reg.SUPV_STAT_XCHK_DIS, Reg.SUPV_XCHK_COACH, Reg.SUPV_XCHK_DIFF, Reg.SUPV_XCHK_INPUT, Reg.THERM_FLAGS_URG_DROP] t ∧ s.causesKept t ∧
    t = { s with
        regs := t.regs, free := t.free, intCause := t.intCause, evcs := t.evcs, evcWrap := t.evcWrap, xchks := t.xchks,
        convs := t.convs, cals := t.cals, urgMore := t.urgMore }) ∧
  (∀ (coach : Fin 160) (s t : State), exec (.crossCheckAbandon coach) s = .next t → s.sameBut [Reg.SUPV_STAT_XCHK_SKIP] t ∧ s.causesKept t ∧
    t = { s with regs := t.regs, free := t.free, intCause := t.intCause, evcs := t.evcs, evcWrap := t.evcWrap, xchks := t.xchks }) ∧
  (∀ (req : Fin 15) (beat : Nat) (write : Bool) (beats : Nat) (ask : Ask) (s t : State),
      exec (.coachBusRequest req beat write beats ask) s = .next t → s.sameBut [Reg.ARB_FLAGS_ORDER, Reg.ARB_ORDER_LOG_ASKED,
      Reg.ARB_ORDER_LOG_HELD, Reg.ARB_ORDER_LOG_REQ] t ∧ s.causesKept t ∧
    t = { s with regs := t.regs, free := t.free, intCause := t.intCause, evcs := t.evcs, evcWrap := t.evcWrap, arb := t.arb }) ∧
  (∀ (pointer : Nat) (seatBad : Bool) (pendBad : List Nat) (wait : Nat) (contAfter : Option Carriage) (s t : State),
      exec (.arbitration pointer seatBad pendBad wait contAfter) s = .next t → s.sameBut [Hid.wmax, Reg.ARB_FLAGS_PEND_PAR,
      Reg.ARB_FLAGS_SEAT_PAR, Reg.ARB_LAST_BG_ID, Reg.ARB_STATUS_BUSY, Reg.ARB_STATUS_OWNER, Reg.ARB_STATUS_POINTER, Reg.MEM_ERR_PEND,
      Reg.MEM_ERR_SEAT] t ∧ s.causesKept t ∧
    t = { s with regs := t.regs, free := t.free, intCause := t.intCause, evcs := t.evcs, evcWrap := t.evcWrap, arb := t.arb }) ∧
  (∀ (len : Nat) (s t : State), exec (.carriageEnd len) s = .next t → s.sameBut [Reg.ARB_FLAGS_HOLD_LONG, Reg.ARB_FLAGS_ORDER,
      Reg.ARB_HOLD_LOG_LENGTH, Reg.ARB_HOLD_LOG_REQ, Reg.ARB_ORDER_LOG_ASKED, Reg.ARB_ORDER_LOG_HELD, Reg.ARB_ORDER_LOG_REQ, Reg.ARB_STATUS_BUSY,
      Reg.ARB_STATUS_OWNER, Reg.CONV_DATA_NEW] t ∧ s.causesKept t ∧
    t = { s with regs := t.regs, free := t.free, intCause := t.intCause, evcs := t.evcs, evcWrap := t.evcWrap, arb := t.arb, convs := t.convs }) ∧
  (∀ (s t : State), exec .holdLong s = .next t → s.sameBut [Reg.ARB_FLAGS_HOLD_LONG, Reg.ARB_HOLD_LOG_REQ] t ∧ s.causesKept t ∧
    t = { s with regs := t.regs, free := t.free, intCause := t.intCause, evcs := t.evcs, evcWrap := t.evcWrap, arb := t.arb }) ∧
  (∀ (req : Fin 15) (held : Nat) (asked : Nat) (s t : State),
      exec (.resourceRequest req held asked) s = .next t → s.sameBut [Reg.ARB_FLAGS_ORDER, Reg.ARB_ORDER_LOG_ASKED, Reg.ARB_ORDER_LOG_HELD,
      Reg.ARB_ORDER_LOG_REQ] t ∧ s.causesKept t ∧
    t = { s with regs := t.regs, free := t.free, intCause := t.intCause, evcs := t.evcs, evcWrap := t.evcWrap, arb := t.arb }) ∧
  (∀ (s t : State), exec .seatPlanSwap s = .next t → s.sameBut [Reg.ARB_ACT_SEATS, Reg.ARB_STATUS_POINTER, Reg.ARB_STATUS_SEAT_COUNT,
      Reg.ARB_STATUS_SWAP_PEND, Reg.ARB_SWAP_REQ, Reg.RGN_CTRL_STATE, Reg.RGN_RES_LEFT, Reg.RGN_RES_REASON, Reg.RGN_RES_RESULT] t ∧ s.causesKept t ∧
    t = { s with regs := t.regs, free := t.free, intCause := t.intCause, evcs := t.evcs, evcWrap := t.evcWrap, rgn := t.rgn }) ∧
  (∀ (s t : State), exec .softResetResume s = .next t → s.sameBut ([Hid.aiRsn, Hid.aiVal, Hid.boMs, Hid.calHold, Hid.closeInit, Hid.dmpDir,
      Hid.dmpFrac, Hid.dmpPhase, Hid.dmpVel, Hid.eee, Hid.evcFb, Hid.fanCoasted, Hid.fanDem, Hid.fanIlim, Hid.fanInt, Hid.fanRampMs, Hid.fanRef,
      Hid.fanSpdInt, Hid.heldTicks, Hid.ipSrc, Hid.ipWait, Hid.mbDue, Hid.mbFail, Hid.mbTries, Hid.mbWait, Hid.modeCmd, Hid.occLast, Hid.patch,
      Hid.ruDue, Hid.ruWait, Hid.scAlt, Hid.scBackoff, Hid.scOn, Hid.snsDue, Hid.softHold, Hid.supAge, Hid.svcDrop, Hid.svcOpen, Hid.tick,
      Hid.tickRun, Hid.trendDue, Hid.uiDue, Hid.vlvBandNow, Hid.vlvGrid, Hid.vlvHsTest, Hid.vlvOrg, Hid.vlvOrgKind, Hid.vlvTest, Hid.vmac,
      Hid.wakeAlarm, Hid.wakeNet, Hid.wakeOcc, Hid.wakeSched, Reg.BO_MAN_MAN_EN, Reg.BO_STATE_ELAPSED, Reg.BO_STATE_FORCED, Reg.BO_STATE_OUT,
      Reg.BO_STATE_WAIT, Reg.BUS_STAT_STATE, Reg.BUS_STAT_TOKEN_AGE, Reg.CAL_SYS_STAT_BUSY, Reg.CAL_SYS_STAT_RESULT, Reg.CLK_FB_TIME_MS,
      Reg.CONV_FLAGS_DROP, Reg.CONV_URG_DROPPED, Reg.DISP_STAT_STATE, Reg.DMP_MAN_MAN_EN, Reg.DMP_POS_POS, Reg.ENG_STATUS_PMUL,
      Reg.FANT_DEMAND_DEMAND, Reg.FANT_MEAS_DUTY, Reg.FANT_STATE_STATE, Reg.FANT_STATE_TACH_LOST, Reg.FAN_COMMON_HEATER_BLOCK,
      Reg.FAN_COMMON_SRC, Reg.FAN_DEMAND_DEMAND, Reg.FAN_DEMAND_REF, Reg.FAN_MEAS_IQ, Reg.FAN_MEAS_SPEED, Reg.FAN_STATE_ATTEMPT,
      Reg.FAN_STATE_STATE, Reg.HOST_HB_CFG_LEFT, Reg.MEM_ERR_COACH, Reg.MEM_ERR_MAC, Reg.NET_COV_ACTIVE, Reg.NET_FDR_FDR_STATE,
      Reg.NET_FLAGS_FLAGS, Reg.NET_IP_ADDR_ADDR, Reg.NET_IP_GW_GW, Reg.NET_IP_MASK_MASK, Reg.NET_MB_CLI_MB_FAIL, Reg.NET_PHY_SQI,
      Reg.NET_SC_STAT_ALERT, Reg.NET_SC_STAT_WAIT, Reg.NET_STAT_AMPL, Reg.NET_STAT_DCC, Reg.NET_STAT_IP_OK, Reg.NET_STAT_LINK,
      Reg.NET_STAT_PP_RUN, Reg.NET_STAT_SC_STATE, Reg.NET_STAT_TIME_UNCHK, Reg.NET_SUP_LEFT_LEFT, Reg.OCC_STAT_CH_OCC, Reg.OCC_ZONE_OCC,
      Reg.PWR_FLAGS_MODE_CHG, Reg.PWR_MODE_MODE, Reg.PWR_MODE_PEND, Reg.PWR_MODE_PREV, Reg.PWR_MODE_RESULT, Reg.PWR_WAKE_LAST,
      Reg.RGN_CTRL_STATE, Reg.RGN_RES_LEFT, Reg.RGN_RES_REASON, Reg.RGN_RES_RESULT, Reg.SNS_AGE_AGE, Reg.SUPV_CE_ADDR_COACH,
      Reg.SUPV_CE_ADDR_SYNDROME, Reg.SUPV_CE_ADDR_WORD, Reg.SUPV_DUE_ADDR_BY_SCRUB, Reg.SUPV_DUE_ADDR_COACH, Reg.SUPV_DUE_ADDR_WORD,
      Reg.SUPV_STAT_CE, Reg.SUPV_STAT_DUE, Reg.SUPV_WDT_REMAIN, Reg.THERM_FLAGS_URG_DROP, Reg.UI_AGE_AGE, Reg.VLV_DIAG_OFF_AGE,
      Reg.VLV_DIAG_OFF_RES, Reg.VLV_MAN_MAN_EN, Reg.VLV_MEAS_CURRENT, Reg.VLV_MEAS_DUTY, Reg.VLV_STATE_BAND, Reg.VLV_STATE_STATE,
      Reg.ZONE_FORCE_FORCE, Reg.ZONE_STATE_SET] ++ vlvSettings) t ∧ s.causesKept t ∧
    t = { s with
        regs := t.regs, free := t.free, intCause := t.intCause, evcs := t.evcs, evcWrap := t.evcWrap, due := t.due, upsets := t.upsets,
        actQ := t.actQ, xchks := t.xchks, convs := t.convs, cals := t.cals, urgMore := t.urgMore, avs := t.avs, rgn := t.rgn, hatch := t.hatch,
        net := t.net })

/-- For each command named: when it answers a next state, every register field outside the listed ones reads as before, no cause of
INT_CAUSE is lost, and every component of the machine outside the named ones (the queue, attached memory, OTP and the others) is the
same. Where coach words, flash or the staging buffer may change, a clause names the coach, the words or the bytes. (Rests on R142,
R149, R154, R158, R172, R185) -/
def Obligations.ConverterFrames : Prop :=
  (∀ (conv : Fin 3) (trimBad : Bool) (s t : State), exec (.scanEntryStart conv trimBad) s = .next t → s.sameBut [Hid.calPassed, Hid.calTick,
      Hid.sysNew, Hid.uiDue, Hid.uiSet, Hid.winCnt, Hid.winSum, Reg.CAL_FLAGS_CAL_FAIL, Reg.CAL_FLAGS_SUSPECT, Reg.CAL_INFO_FAILS,
      Reg.CAL_INFO_REASON, Reg.CAL_INFO_RESULT, Reg.CAL_INFO_TEMP, Reg.CAL_STAT_CAL_UNTRACED, Reg.CAL_TRIM_HI_TAPS, Reg.CAL_TRIM_LO_TAPS,
      Reg.MEM_ERR_TRIM, Reg.UI_GAIN_GAIN, Reg.UI_OFFSET_OFFSET, Reg.UI_STAT_LR_FILL, Reg.UI_STAT_SETTLE_LEFT] t ∧ s.causesKept t ∧
    t = { s with
        regs := t.regs, free := t.free, intCause := t.intCause, evcs := t.evcs, evcWrap := t.evcWrap, convs := t.convs, cals := t.cals,
        relief := t.relief }) ∧
  (∀ (conv : Fin 3) (code : Int) (gapLong : Bool) (s t : State),
      exec (.conversionResult conv code gapLong) s = .next t → s.sameBut [Reg.ARB_FLAGS_ORDER, Reg.ARB_ORDER_LOG_ASKED, Reg.ARB_ORDER_LOG_HELD,
      Reg.ARB_ORDER_LOG_REQ, Reg.CONV_DATA_INPUT, Reg.CONV_DATA_NEW, Reg.CONV_DATA_OVR, Reg.CONV_DATA_REASON, Reg.CONV_DATA_VALID,
      Reg.CONV_DATA_VALUE, Reg.CONV_FLAGS_OVR] t ∧ s.causesKept t ∧
    t = { s with regs := t.regs, free := t.free, intCause := t.intCause, evcs := t.evcs, evcWrap := t.evcWrap, arb := t.arb, convs := t.convs }) ∧
  (∀ (conv : Fin 3) (s t : State), exec (.converterStartUpDone conv) s = .next t → s.sameBut [] t ∧ s.causesKept t ∧
    t = { s with regs := t.regs, free := t.free, intCause := t.intCause, evcs := t.evcs, evcWrap := t.evcWrap, convs := t.convs }) ∧
  (∀ (conv : Fin 3) (s t : State), exec (.sampleMoverEntry conv) s = .next t → s.sameBut [Hid.aiRsn, Hid.aiVal, Hid.iirY, Hid.izCode, Hid.izCorr,
      Hid.occLast, Hid.occRun, Hid.sysClip, Hid.sysCnt, Hid.sysSum, Hid.tsGot, Hid.tsNew, Hid.vlvVm, Hid.wakeOcc, Hid.winCnt, Hid.winSrc,
      Hid.winSum, Reg.ARB_FLAGS_ORDER, Reg.ARB_ORDER_LOG_ASKED, Reg.ARB_ORDER_LOG_HELD, Reg.ARB_ORDER_LOG_REQ, Reg.CAL_SYS_STAT_COUNT,
      Reg.CONV_DATA_NEW, Reg.CONV_FLAGS_CLIP, Reg.OCC_FLOOR_FLOOR, Reg.OCC_STAT_CH_OCC, Reg.OCC_STAT_DET, Reg.OCC_ZONE_OCC, Reg.PWR_VMEAS0_VDDA,
      Reg.PWR_VMEAS0_VDD_IO, Reg.PWR_VMEAS1_VCORE, Reg.PWR_VMEAS1_VM, Reg.UI_AGE_AGE, Reg.UI_RAW_RAW, Reg.UI_STAT_RELOAD, Reg.UI_VALUE_REASON,
      Reg.UI_VALUE_SRC, Reg.UI_VALUE_VALID, Reg.UI_VALUE_VALUE] t ∧ s.causesKept t ∧
    t = { s with regs := t.regs, free := t.free, intCause := t.intCause, evcs := t.evcs, evcWrap := t.evcWrap, arb := t.arb, convs := t.convs }) ∧
  (∀ (chan : Fin 4) (s t : State), exec (.occHoldExpiry chan) s = .next t → s.sameBut [Hid.wakeOcc, Reg.OCC_STAT_CH_OCC,
      Reg.OCC_ZONE_OCC] t ∧ s.causesKept t ∧
    t = { s with regs := t.regs, free := t.free, intCause := t.intCause, evcs := t.evcs, evcWrap := t.evcWrap }) ∧
  (∀ (input : Fin 64) (s t : State), exec (.lrWindowEnd input) s = .next t → s.sameBut [Hid.aiRsn, Hid.aiVal, Hid.iirY, Hid.izCode, Hid.izCorr,
      Hid.occLast, Hid.occRun, Hid.tsGot, Hid.tsNew, Hid.vlvVm, Hid.wakeOcc, Hid.winCnt, Hid.winNo, Hid.winSum, Reg.CONV_FLAGS_CLIP,
      Reg.OCC_FLOOR_FLOOR, Reg.OCC_STAT_CH_OCC, Reg.OCC_STAT_DET, Reg.OCC_ZONE_OCC, Reg.PWR_VMEAS0_VDDA, Reg.PWR_VMEAS0_VDD_IO,
      Reg.PWR_VMEAS1_VCORE, Reg.PWR_VMEAS1_VM, Reg.UI_AGE_AGE, Reg.UI_STAT_LR_FILL, Reg.UI_STAT_RELOAD, Reg.UI_VALUE_REASON, Reg.UI_VALUE_SRC,
      Reg.UI_VALUE_VALID, Reg.UI_VALUE_VALUE] t ∧ s.causesKept t ∧
    t = { s with regs := t.regs, free := t.free, intCause := t.intCause, evcs := t.evcs, evcWrap := t.evcWrap }) ∧
  (∀ (input : Fin 40) (high : Bool) (us : Nat) (s t : State), exec (.uiComparatorEdge input high us) s = .next t → s.sameBut [Hid.contact,
      Reg.UI_PULSE_COUNT] t ∧ s.causesKept t ∧
    t = { s with regs := t.regs, free := t.free, intCause := t.intCause, evcs := t.evcs, evcWrap := t.evcWrap, pulses := t.pulses }) ∧
  (∀ (us : Nat) (s t : State), exec (.uiLogicStore us) s = .next t → s.sameBut [Hid.aiRsn, Hid.aiVal, Hid.izCode, Hid.occLast, Hid.occRun,
      Hid.tsGot, Hid.tsNew, Hid.vlvVm, Hid.wakeOcc, Reg.CONV_FLAGS_CLIP, Reg.OCC_FLOOR_FLOOR, Reg.OCC_STAT_CH_OCC, Reg.OCC_STAT_DET,
      Reg.OCC_ZONE_OCC, Reg.PWR_VMEAS0_VDDA, Reg.PWR_VMEAS0_VDD_IO, Reg.PWR_VMEAS1_VCORE, Reg.PWR_VMEAS1_VM, Reg.UI_AGE_AGE, Reg.UI_STAT_RELOAD,
      Reg.UI_STAT_SETTLE_LEFT, Reg.UI_VALUE_REASON, Reg.UI_VALUE_SRC, Reg.UI_VALUE_VALID, Reg.UI_VALUE_VALUE] t ∧ s.causesKept t ∧
    t = { s with regs := t.regs, free := t.free, intCause := t.intCause, evcs := t.evcs, evcWrap := t.evcWrap }) ∧
  (∀ (entry : Fin 32) (s t : State), exec (.sensorPollStart entry) s = .next t → s.sameBut [Hid.snsDue, Reg.SNS_STAT_BUSY,
      Reg.SNS_STAT_ENTRY] t ∧ s.causesKept t ∧
    t = { s with regs := t.regs, free := t.free, intCause := t.intCause, evcs := t.evcs, evcWrap := t.evcWrap, snsTx := t.snsTx }) ∧
  (∀ (reply : SensorReply) (s t : State), exec (.sensorPollDone reply) s = .next t → s.sameBut [Reg.SNS_AGE_AGE, Reg.SNS_STAT_BUSY,
      Reg.SNS_STAT_CRC, Reg.SNS_STAT_INVALID, Reg.SNS_STAT_NACK, Reg.SNS_VAL_FAILS, Reg.SNS_VAL_REASON, Reg.SNS_VAL_VALID,
      Reg.SNS_VAL_VALUE] t ∧ s.causesKept t ∧
    t = { s with regs := t.regs, free := t.free, intCause := t.intCause, evcs := t.evcs, evcWrap := t.evcWrap }) ∧
  (∀ (s t : State), exec .snsStretchTimeout s = .next t → s.sameBut [Reg.SNS_STAT_BUSY, Reg.SNS_STAT_INVALID, Reg.SNS_STAT_STRETCH,
      Reg.SNS_VAL_FAILS, Reg.SNS_VAL_REASON, Reg.SNS_VAL_VALID] t ∧ s.causesKept t ∧
    t = { s with regs := t.regs, free := t.free, intCause := t.intCause, evcs := t.evcs, evcWrap := t.evcWrap }) ∧
  (∀ (src : UrgBy) (input : Fin 64) (conv : Option (Fin 3)) (s t : State),
      exec (.urgentRequest src input conv) s = .next t → s.sameBut [Reg.CONV_FLAGS_DROP, Reg.CONV_URG_DROPPED,
      Reg.THERM_FLAGS_URG_DROP] t ∧ s.causesKept t ∧
    t = { s with
        regs := t.regs, free := t.free, intCause := t.intCause, evcs := t.evcs, evcWrap := t.evcWrap, xchks := t.xchks,
        convs := t.convs, cals := t.cals, urgMore := t.urgMore }) ∧
  (∀ (conv : Fin 3) (code : Int) (gapLong : Bool) (s t : State),
      exec (.urgentConversionDone conv code gapLong) s = .next t → s.sameBut [Hid.tsUrgCode, Hid.tsUrgNew, Reg.CONV_FLAGS_DROP, Reg.CONV_URG_BY,
      Reg.CONV_URG_DONE, Reg.CONV_URG_DROPPED, Reg.CONV_URG_RES_CORR, Reg.CONV_URG_RES_RAW, Reg.THERM_FLAGS_URG_DROP] t ∧ s.causesKept t ∧
    t = { s with
        regs := t.regs, free := t.free, intCause := t.intCause, evcs := t.evcs, evcWrap := t.evcWrap, xchks := t.xchks,
        convs := t.convs, cals := t.cals, urgMore := t.urgMore }) ∧
  (∀ (conv : Fin 3) (s t : State), exec (.selfCalDue conv) s = .next t → s.sameBut [] t ∧ s.causesKept t ∧
    t = { s with regs := t.regs, free := t.free, intCause := t.intCause, evcs := t.evcs, evcWrap := t.evcWrap, cals := t.cals }) ∧
  (∀ (conv : Fin 3) (zero : Int) (half : Int) (s t : State), exec (.selfCalStart conv zero half) s = .next t → s.sameBut [Hid.calPassed,
      Hid.calTick, Reg.CAL_FLAGS_CAL_FAIL, Reg.CAL_FLAGS_C_FAILED, Reg.CAL_INFO_FAILS, Reg.CAL_INFO_REASON, Reg.CAL_INFO_RESULT,
      Reg.CAL_INFO_TEMP, Reg.CAL_STAT_CAL_UNTRACED, Reg.CAL_STAT_NO_RELIEF, Reg.CAL_STAT_UNSERVED, Reg.CONV_FLAGS_DROP, Reg.CONV_URG_DROPPED,
      Reg.THERM_FLAGS_URG_DROP] t ∧ s.causesKept t ∧
    t = { s with
        regs := t.regs, free := t.free, intCause := t.intCause, evcs := t.evcs, evcWrap := t.evcWrap, xchks := t.xchks,
        convs := t.convs, cals := t.cals, relief := t.relief, urgMore := t.urgMore }) ∧
  (∀ (conv : Fin 2) (zero : Int) (half : Int) (s t : State), exec (.reliefHandover conv zero half) s = .next t → s.sameBut [Hid.calPassed,
      Hid.calTick, Reg.CAL_FLAGS_CAL_FAIL, Reg.CAL_FLAGS_C_FAILED, Reg.CAL_INFO_FAILS, Reg.CAL_INFO_REASON, Reg.CAL_INFO_RESULT,
      Reg.CAL_INFO_TEMP, Reg.CAL_STAT_CAL_UNTRACED, Reg.CAL_STAT_NO_RELIEF, Reg.CAL_STAT_UNSERVED, Reg.CAL_TRIM_HI_TAPS, Reg.CAL_TRIM_LO_TAPS,
      Reg.CONV_FLAGS_DROP, Reg.CONV_URG_DROPPED, Reg.THERM_FLAGS_URG_DROP] t ∧ s.causesKept t ∧
    t = { s with
        regs := t.regs, free := t.free, intCause := t.intCause, evcs := t.evcs, evcWrap := t.evcWrap, xchks := t.xchks,
        convs := t.convs, cals := t.cals, relief := t.relief, urgMore := t.urgMore }) ∧
  (∀ (conv : Fin 3) (searches : List TapSearch) (zero : Int) (half : Int) (s t : State),
      exec (.calRunDone conv searches zero half) s = .next t → s.sameBut [Hid.calPassed, Hid.calTick, Reg.CAL_FLAGS_CAL_FAIL, Reg.CAL_INFO_FAILS,
      Reg.CAL_INFO_REASON, Reg.CAL_INFO_RESULT, Reg.CAL_INFO_SPREAD, Reg.CAL_INFO_TEMP, Reg.CAL_STAT_CAL_UNTRACED, Reg.CAL_TRIM_HI_TAPS,
      Reg.CAL_TRIM_LO_TAPS] t ∧ s.causesKept t ∧
    t = { s with
        regs := t.regs, free := t.free, intCause := t.intCause, evcs := t.evcs, evcWrap := t.evcWrap, convs := t.convs, cals := t.cals,
        relief := t.relief }) ∧
  (∀ (conv : Fin 3) (s t : State), exec (.calHandback conv) s = .next t → s.sameBut [Hid.calPassed, Hid.calTick, Hid.uiSet, Hid.winCnt,
      Hid.winSum, Reg.CAL_FLAGS_CAL_FAIL, Reg.CAL_INFO_FAILS, Reg.CAL_INFO_REASON, Reg.CAL_INFO_RESULT, Reg.CAL_INFO_TEMP,
      Reg.CAL_STAT_CAL_UNTRACED, Reg.CAL_STAT_NO_RELIEF, Reg.CAL_STAT_UNSERVED, Reg.CAL_TRIM_HI_TAPS, Reg.CAL_TRIM_LO_TAPS,
      Reg.UI_STAT_LR_FILL] t ∧ s.causesKept t ∧
    t = { s with
        regs := t.regs, free := t.free, intCause := t.intCause, evcs := t.evcs, evcWrap := t.evcWrap, convs := t.convs, cals := t.cals,
        relief := t.relief }) ∧
  (∀ (conv : Fin 3) (zero : Int) (half : Int) (s t : State), exec (.healthCheckDone conv zero half) s = .next t → s.sameBut [Hid.calPassed,
      Hid.calTick, Hid.uiSet, Hid.winCnt, Hid.winSum, Reg.CAL_FLAGS_CAL_FAIL, Reg.CAL_FLAGS_C_FAILED, Reg.CAL_FLAGS_REPLACED,
      Reg.CAL_FLAGS_SUSPECT, Reg.CAL_INFO_FAILS, Reg.CAL_INFO_REASON, Reg.CAL_INFO_RESULT, Reg.CAL_INFO_TEMP, Reg.CAL_STAT_CAL_UNTRACED,
      Reg.CAL_STAT_NO_RELIEF, Reg.CAL_STAT_UNSERVED, Reg.CAL_TRIM_HI_TAPS, Reg.CAL_TRIM_LO_TAPS, Reg.CONV_FLAGS_DROP, Reg.CONV_URG_DROPPED,
      Reg.THERM_FLAGS_URG_DROP, Reg.UI_STAT_LR_FILL] t ∧ s.causesKept t ∧
    t = { s with
        regs := t.regs, free := t.free, intCause := t.intCause, evcs := t.evcs, evcWrap := t.evcWrap, xchks := t.xchks,
        convs := t.convs, cals := t.cals, relief := t.relief, urgMore := t.urgMore }) ∧
  (∀ (conv : Fin 2) (zero : Int) (half : Int) (s t : State), exec (.converterStuck conv zero half) s = .next t → s.sameBut [Hid.calPassed,
      Hid.calTick, Hid.uiSet, Hid.winCnt, Hid.winSum, Reg.CAL_FLAGS_CAL_FAIL, Reg.CAL_FLAGS_C_FAILED, Reg.CAL_FLAGS_REPLACED, Reg.CAL_INFO_FAILS,
      Reg.CAL_INFO_REASON, Reg.CAL_INFO_RESULT, Reg.CAL_INFO_TEMP, Reg.CAL_STAT_CAL_UNTRACED, Reg.CAL_STAT_NO_RELIEF, Reg.CAL_STAT_UNSERVED,
      Reg.CAL_TRIM_HI_TAPS, Reg.CAL_TRIM_LO_TAPS, Reg.CONV_FLAGS_DROP, Reg.CONV_URG_DROPPED, Reg.THERM_FLAGS_URG_DROP,
      Reg.UI_STAT_LR_FILL] t ∧ s.causesKept t ∧
    t = { s with
        regs := t.regs, free := t.free, intCause := t.intCause, evcs := t.evcs, evcWrap := t.evcWrap, xchks := t.xchks,
        convs := t.convs, cals := t.cals, relief := t.relief, urgMore := t.urgMore }) ∧
  (∀ (s t : State), exec .refinLoss s = .next t → s.sameBut [Reg.CAL_STAT_CAL_UNTRACED, Reg.CAL_STAT_REF_LOW] t ∧ s.causesKept t ∧
    t = { s with regs := t.regs, free := t.free, intCause := t.intCause, evcs := t.evcs, evcWrap := t.evcWrap, convs := t.convs, cals := t.cals }) ∧
  (∀ (s t : State), exec .refinRestore s = .next t → s.sameBut [Reg.CAL_STAT_REF_LOW] t ∧ s.causesKept t ∧
    t = { s with regs := t.regs, free := t.free, intCause := t.intCause, evcs := t.evcs, evcWrap := t.evcWrap }) ∧
  (∀ (s t : State), exec .calSysPointDone s = .next t → s.sameBut [Hid.sysNew, Hid.sysNewGain, Hid.sysNewOff, Reg.CAL_FLAGS_SYS_FAIL,
      Reg.CAL_SYS_M0_M0, Reg.CAL_SYS_M1_M1, Reg.CAL_SYS_NEW_GAIN, Reg.CAL_SYS_NEW_OFFSET, Reg.CAL_SYS_STAT_BUSY,
      Reg.CAL_SYS_STAT_RESULT] t ∧ s.causesKept t ∧
    t = { s with regs := t.regs, free := t.free, intCause := t.intCause, evcs := t.evcs, evcWrap := t.evcWrap })

/-- For each command named: when it answers a next state, every register field outside the listed ones reads as before, no cause of
INT_CAUSE is lost, and every component of the machine outside the named ones (the queue, attached memory, OTP and the others) is the
same. Where coach words, flash or the staging buffer may change, a clause names the coach, the words or the bytes. (Rests on R19,
R22, R256, R265, R333, R334, R335) -/
def Obligations.ThermalAndSupplyFrames : Prop :=
  (∀ (readable : Bool) (s t : State), exec (.supvRepairDone readable) s = .next t → s.sameBut ([Hid.closeInit, Hid.first, Hid.svcDrop,
      Hid.svcOpen, Reg.SUPV_REPAIR_GO, Reg.SUPV_REPAIR_RESULT] ++ (upTo 64).map Reg.coachW) t ∧ s.causesKept t ∧
    t = { s with
        regs := t.regs, free := t.free, intCause := t.intCause, evcs := t.evcs, evcWrap := t.evcWrap, due := t.due, upsets := t.upsets,
        hatch := t.hatch } ∧
    s.coachesBut (allWords [s.rd Hid.repairCoach]) t) ∧
  (∀ (flips : Nat) (s t : State), exec (.actuatorCommand flips) s = .next t → s.sameBut ([Hid.boArr, Hid.boCnt, Hid.boMs, Hid.fanCoasted,
      Hid.fanDem, Hid.fanIlim, Hid.fanInt, Hid.fanRampMs, Hid.fanRef, Hid.fanSpdInt, Hid.rcvSeq, Hid.sndSeq, Hid.vlvBandNow, Hid.vlvGrid,
      Hid.vlvHsTest, Hid.vlvOrg, Hid.vlvOrgKind, Hid.vlvTest, Reg.BO_STATE_CMD, Reg.BO_STATE_ELAPSED, Reg.BO_STATE_FORCED, Reg.BO_STATE_OUT,
      Reg.BO_STATE_WAIT, Reg.DMP_TARGET_VALUE, Reg.FANT_DEMAND_DEMAND, Reg.FANT_MEAS_DUTY, Reg.FANT_STATE_STATE, Reg.FANT_STATE_TACH_LOST,
      Reg.FAN_CDEM_DEMAND, Reg.FAN_COMMON_HEATER_BLOCK, Reg.FAN_DEMAND_DEMAND, Reg.FAN_DEMAND_REF, Reg.FAN_MEAS_IQ, Reg.FAN_STATE_ATTEMPT,
      Reg.FAN_STATE_STATE, Reg.RGN_CTRL_STATE, Reg.RGN_RES_LEFT, Reg.RGN_RES_REASON, Reg.RGN_RES_RESULT, Reg.VLV_DIAG_OFF_RES,
      Reg.VLV_MEAS_CURRENT, Reg.VLV_MEAS_DUTY, Reg.VLV_STATE_BAND, Reg.VLV_STATE_STATE, Reg.VLV_STATE_VALUE] ++ vlvSettings) t ∧ s.causesKept t ∧
    t = { s with regs := t.regs, free := t.free, intCause := t.intCause, evcs := t.evcs, evcWrap := t.evcWrap, actQ := t.actQ, rgn := t.rgn }) ∧
  (∀ (s t : State), exec .actuatorCommandNack s = .next t → s.sameBut [Reg.SUPV_CMD_PATH_MAP, Reg.SUPV_STAT_CMD_PATH] t ∧ s.causesKept t ∧
    t = { s with regs := t.regs, free := t.free, intCause := t.intCause, evcs := t.evcs, evcWrap := t.evcWrap, actQ := t.actQ }) ∧
  (∀ (xtalEdges : Nat) (pllEdges : Nat) (s t : State), exec (.auditWindow xtalEdges pllEdges) s = .next t → s.sameBut [Hid.audBad, Hid.calPassed,
      Hid.calTick, Hid.ipSrc, Hid.ipWait, Hid.mbDue, Hid.mbTries, Hid.mbWait, Hid.ruDue, Hid.ruWait, Reg.BUS_STAT_STATE, Reg.CAL_FLAGS_CAL_FAIL,
      Reg.CAL_INFO_FAILS, Reg.CAL_INFO_REASON, Reg.CAL_INFO_RESULT, Reg.CAL_INFO_TEMP, Reg.CAL_STAT_CAL_UNTRACED, Reg.CLK_FLAGS_PLL_LOSS,
      Reg.CLK_FLAGS_XTAL_LOSS, Reg.CLK_STAT_FALLBACK, Reg.CLK_STAT_XTAL_OK, Reg.NET_FDR_FDR_STATE, Reg.NET_FLAGS_FLAGS, Reg.NET_IP_ADDR_ADDR,
      Reg.NET_IP_GW_GW, Reg.NET_IP_MASK_MASK, Reg.NET_SC_STAT_WAIT, Reg.NET_STAT_IP_OK, Reg.NET_STAT_LINK,
      Reg.NET_STAT_SC_STATE] t ∧ s.causesKept t ∧
    t = { s with
        regs := t.regs, free := t.free, intCause := t.intCause, evcs := t.evcs, evcWrap := t.evcWrap, convs := t.convs, cals := t.cals,
        relief := t.relief, net := t.net }) ∧
  (∀ (s t : State), exec .pllLockLoss s = .next t → s.sameBut [Hid.calPassed, Hid.calTick, Hid.ipSrc, Hid.ipWait, Hid.mbDue, Hid.mbTries,
      Hid.mbWait, Hid.ruDue, Hid.ruWait, Reg.BUS_STAT_STATE, Reg.CAL_FLAGS_CAL_FAIL, Reg.CAL_INFO_FAILS, Reg.CAL_INFO_REASON,
      Reg.CAL_INFO_RESULT, Reg.CAL_INFO_TEMP, Reg.CAL_STAT_CAL_UNTRACED, Reg.CLK_FLAGS_PLL_LOSS, Reg.CLK_STAT_FALLBACK, Reg.CLK_STAT_PLL_LOCK,
      Reg.NET_FDR_FDR_STATE, Reg.NET_FLAGS_FLAGS, Reg.NET_IP_ADDR_ADDR, Reg.NET_IP_GW_GW, Reg.NET_IP_MASK_MASK, Reg.NET_SC_STAT_WAIT,
      Reg.NET_STAT_IP_OK, Reg.NET_STAT_LINK, Reg.NET_STAT_SC_STATE] t ∧ s.causesKept t ∧
    t = { s with
        regs := t.regs, free := t.free, intCause := t.intCause, evcs := t.evcs, evcWrap := t.evcWrap, convs := t.convs, cals := t.cals,
        relief := t.relief, net := t.net }) ∧
  (∀ (s t : State), exec .auditOscFail s = .next t → s.sameBut [Hid.audBad, Reg.CLK_FLAGS_AUDIT_LOSS, Reg.CLK_STAT_AUDIT_OK] t ∧ s.causesKept t ∧
    t = { s with regs := t.regs, free := t.free, intCause := t.intCause, evcs := t.evcs, evcWrap := t.evcWrap }) ∧
  (∀ (sensor : Fin 8) (s t : State), exec (.thermalSample sensor) s = .next t → s.sameBut ([Hid.boMs, Hid.dmpFb, Hid.dmpStalled, Hid.dmpVel,
      Hid.fanCoasted, Hid.fanIlim, Hid.fanRampMs, Hid.fanRef, Hid.fanSpdInt, Hid.tsAt, Hid.tsCalm, Hid.tsDn, Hid.tsHeld, Hid.tsHeldN, Hid.tsLast,
      Hid.tsNew, Hid.tsUp, Hid.tsUrgNew, Hid.vlvBandNow, Hid.vlvGrid, Hid.vlvHsKeep, Hid.vlvHsTest, Hid.vlvOcWait, Hid.vlvOrg, Hid.vlvOrgKind,
      Hid.vlvTest, Reg.BO_STATE_ELAPSED, Reg.BO_STATE_FORCED, Reg.BO_STATE_OUT, Reg.BO_STATE_WAIT, Reg.DMP_POS_POS, Reg.DMP_STATE_POS_OK,
      Reg.DMP_STATE_STATE, Reg.FANT_STATE_STATE, Reg.FAN_COMMON_HEATER_BLOCK, Reg.FAN_DEMAND_REF, Reg.FAN_FLAGS_FLAGS, Reg.FAN_MEAS_IQ,
      Reg.FAN_STATE_ATTEMPT, Reg.FAN_STATE_STATE, Reg.RGN_CTRL_STATE, Reg.RGN_RES_LEFT, Reg.RGN_RES_REASON, Reg.RGN_RES_RESULT,
      Reg.THERM_FLAGS_CUT, Reg.THERM_FLAGS_EXCLUDE, Reg.THERM_FLAGS_LEVEL_UP, Reg.THERM_FLAGS_WARN, Reg.THERM_STAT_HOLD, Reg.THERM_STAT_LVL_DMP,
      Reg.THERM_STAT_LVL_FAN, Reg.THERM_STAT_LVL_VLV, Reg.THERM_STAT_NONE_LEFT, Reg.TS_MAX_TMAX, Reg.TS_STATE_CAUSE, Reg.TS_STATE_ENTERED,
      Reg.TS_STATE_FAILED, Reg.TS_STATE_FAST, Reg.TS_STATE_NOCHECK, Reg.TS_STATE_XCNT, Reg.TS_VALUE_SUBST, Reg.TS_VALUE_T, Reg.TS_VALUE_VALID,
      Reg.TS_XCHK_DEV, Reg.TS_XCHK_EXPECT, Reg.VLV_DIAG_OFF_RES, Reg.VLV_MEAS_CURRENT, Reg.VLV_MEAS_DUTY, Reg.VLV_STATE_BAND,
      Reg.VLV_STATE_STATE] ++ vlvSettings) t ∧ s.causesKept t ∧
    t = { s with regs := t.regs, free := t.free, intCause := t.intCause, evcs := t.evcs, evcWrap := t.evcWrap, dmp := t.dmp, rgn := t.rgn }) ∧
  (∀ (s t : State), exec .thermalFastStep s = .next t → s.sameBut ([Hid.boMs, Hid.dmpFb, Hid.dmpStalled, Hid.dmpVel, Hid.fanCoasted, Hid.fanIlim,
      Hid.fanRampMs, Hid.fanRef, Hid.fanSpdInt, Hid.tsDn, Hid.tsNew, Hid.tsUp, Hid.vlvBandNow, Hid.vlvGrid, Hid.vlvHsKeep, Hid.vlvHsTest,
      Hid.vlvOcWait, Hid.vlvOrg, Hid.vlvOrgKind, Hid.vlvTest, Reg.BO_STATE_ELAPSED, Reg.BO_STATE_FORCED, Reg.BO_STATE_OUT, Reg.BO_STATE_WAIT,
      Reg.CONV_FLAGS_DROP, Reg.CONV_URG_DROPPED, Reg.DMP_POS_POS, Reg.DMP_STATE_POS_OK, Reg.DMP_STATE_STATE, Reg.FANT_STATE_STATE,
      Reg.FAN_COMMON_HEATER_BLOCK, Reg.FAN_DEMAND_REF, Reg.FAN_FLAGS_FLAGS, Reg.FAN_MEAS_IQ, Reg.FAN_STATE_ATTEMPT, Reg.FAN_STATE_STATE,
      Reg.RGN_CTRL_STATE, Reg.RGN_RES_LEFT, Reg.RGN_RES_REASON, Reg.RGN_RES_RESULT, Reg.THERM_FLAGS_CUT, Reg.THERM_FLAGS_LEVEL_UP,
      Reg.THERM_FLAGS_URG_DROP, Reg.THERM_FLAGS_WARN, Reg.THERM_STAT_LVL_DMP, Reg.THERM_STAT_LVL_FAN, Reg.THERM_STAT_LVL_VLV, Reg.TS_MAX_TMAX,
      Reg.TS_STATE_ENTERED, Reg.TS_VALUE_SUBST, Reg.TS_VALUE_T, Reg.VLV_DIAG_OFF_RES, Reg.VLV_MEAS_CURRENT, Reg.VLV_MEAS_DUTY,
      Reg.VLV_STATE_BAND, Reg.VLV_STATE_STATE] ++ vlvSettings) t ∧ s.causesKept t ∧
    t = { s with
        regs := t.regs, free := t.free, intCause := t.intCause, evcs := t.evcs, evcWrap := t.evcWrap, xchks := t.xchks,
        convs := t.convs, cals := t.cals, urgMore := t.urgMore, dmp := t.dmp, rgn := t.rgn }) ∧
  (∀ (sensor : Fin 8) (s t : State), exec (.thermalNodata sensor) s = .next t → s.sameBut ([Hid.boMs, Hid.dmpFb, Hid.dmpStalled, Hid.dmpVel,
      Hid.fanCoasted, Hid.fanIlim, Hid.fanRampMs, Hid.fanRef, Hid.fanSpdInt, Hid.tsHeld, Hid.tsHeldN, Hid.vlvBandNow, Hid.vlvGrid, Hid.vlvHsKeep,
      Hid.vlvHsTest, Hid.vlvOcWait, Hid.vlvOrg, Hid.vlvOrgKind, Hid.vlvTest, Reg.BO_STATE_ELAPSED, Reg.BO_STATE_FORCED, Reg.BO_STATE_OUT,
      Reg.BO_STATE_WAIT, Reg.DMP_POS_POS, Reg.DMP_STATE_POS_OK, Reg.DMP_STATE_STATE, Reg.FANT_STATE_STATE, Reg.FAN_COMMON_HEATER_BLOCK,
      Reg.FAN_DEMAND_REF, Reg.FAN_FLAGS_FLAGS, Reg.FAN_MEAS_IQ, Reg.FAN_STATE_ATTEMPT, Reg.FAN_STATE_STATE, Reg.RGN_CTRL_STATE, Reg.RGN_RES_LEFT,
      Reg.RGN_RES_REASON, Reg.RGN_RES_RESULT, Reg.THERM_FLAGS_EXCLUDE, Reg.THERM_FLAGS_LEVEL_UP, Reg.THERM_STAT_HOLD, Reg.THERM_STAT_LVL_DMP,
      Reg.THERM_STAT_LVL_FAN, Reg.THERM_STAT_LVL_VLV, Reg.THERM_STAT_NONE_LEFT, Reg.TS_STATE_CAUSE, Reg.TS_STATE_FAILED, Reg.TS_STATE_FAST,
      Reg.TS_STATE_XCNT, Reg.VLV_DIAG_OFF_RES, Reg.VLV_MEAS_CURRENT, Reg.VLV_MEAS_DUTY, Reg.VLV_STATE_BAND,
      Reg.VLV_STATE_STATE] ++ vlvSettings) t ∧ s.causesKept t ∧
    t = { s with regs := t.regs, free := t.free, intCause := t.intCause, evcs := t.evcs, evcWrap := t.evcWrap, dmp := t.dmp, rgn := t.rgn }) ∧
  (∀ (s t : State), exec .thermalHoldEnd s = .next t → s.sameBut ([Hid.boMs, Hid.dmpFb, Hid.dmpStalled, Hid.dmpVel, Hid.fanCoasted, Hid.fanIlim,
      Hid.fanRampMs, Hid.fanRef, Hid.fanSpdInt, Hid.vlvBandNow, Hid.vlvGrid, Hid.vlvHsKeep, Hid.vlvHsTest, Hid.vlvOcWait, Hid.vlvOrg,
      Hid.vlvOrgKind, Hid.vlvTest, Reg.BO_STATE_ELAPSED, Reg.BO_STATE_FORCED, Reg.BO_STATE_OUT, Reg.BO_STATE_WAIT, Reg.DMP_POS_POS,
      Reg.DMP_STATE_POS_OK, Reg.DMP_STATE_STATE, Reg.FANT_STATE_STATE, Reg.FAN_COMMON_HEATER_BLOCK, Reg.FAN_DEMAND_REF, Reg.FAN_FLAGS_FLAGS,
      Reg.FAN_MEAS_IQ, Reg.FAN_STATE_ATTEMPT, Reg.FAN_STATE_STATE, Reg.RGN_CTRL_STATE, Reg.RGN_RES_LEFT, Reg.RGN_RES_REASON, Reg.RGN_RES_RESULT,
      Reg.THERM_FLAGS_LEVEL_UP, Reg.THERM_STAT_HOLD, Reg.THERM_STAT_LVL_DMP, Reg.THERM_STAT_LVL_FAN, Reg.THERM_STAT_LVL_VLV,
      Reg.TS_STATE_ENTERED, Reg.VLV_DIAG_OFF_RES, Reg.VLV_MEAS_CURRENT, Reg.VLV_MEAS_DUTY, Reg.VLV_STATE_BAND,
      Reg.VLV_STATE_STATE] ++ vlvSettings) t ∧ s.causesKept t ∧
    t = { s with regs := t.regs, free := t.free, intCause := t.intCause, evcs := t.evcs, evcWrap := t.evcWrap, dmp := t.dmp, rgn := t.rgn }) ∧
  (∀ (currents : List Nat) (s t : State), exec (.thermalPowerEstimate currents) s = .next t → s.sameBut [Reg.THERM_PWR0_P2, Reg.THERM_PWR0_P3,
      Reg.THERM_PWR0_P4, Reg.THERM_PWR0_P5, Reg.THERM_PWR1_P6] t ∧ s.causesKept t ∧
    t = { s with regs := t.regs, free := t.free, intCause := t.intCause, evcs := t.evcs, evcWrap := t.evcWrap }) ∧
  (∀ (sensor : Fin 8) (s t : State), exec (.thermReadmitResult sensor) s = .next t → s.sameBut ([Hid.boMs, Hid.dmpFb, Hid.dmpStalled, Hid.dmpVel,
      Hid.fanCoasted, Hid.fanIlim, Hid.fanRampMs, Hid.fanRef, Hid.fanSpdInt, Hid.tsCalm, Hid.tsDn, Hid.tsHeld, Hid.tsHeldN, Hid.tsReadmit,
      Hid.tsUp, Hid.tsUrgNew, Hid.vlvBandNow, Hid.vlvGrid, Hid.vlvHsKeep, Hid.vlvHsTest, Hid.vlvOcWait, Hid.vlvOrg, Hid.vlvOrgKind, Hid.vlvTest,
      Reg.BO_STATE_ELAPSED, Reg.BO_STATE_FORCED, Reg.BO_STATE_OUT, Reg.BO_STATE_WAIT, Reg.DMP_POS_POS, Reg.DMP_STATE_POS_OK, Reg.DMP_STATE_STATE,
      Reg.FANT_STATE_STATE, Reg.FAN_COMMON_HEATER_BLOCK, Reg.FAN_DEMAND_REF, Reg.FAN_FLAGS_FLAGS, Reg.FAN_MEAS_IQ, Reg.FAN_STATE_ATTEMPT,
      Reg.FAN_STATE_STATE, Reg.RGN_CTRL_STATE, Reg.RGN_RES_LEFT, Reg.RGN_RES_REASON, Reg.RGN_RES_RESULT, Reg.THERM_CMD_STAT_RESULT,
      Reg.THERM_FLAGS_LEVEL_UP, Reg.THERM_STAT_LVL_DMP, Reg.THERM_STAT_LVL_FAN, Reg.THERM_STAT_LVL_VLV, Reg.THERM_STAT_NONE_LEFT,
      Reg.TS_STATE_CAUSE, Reg.TS_STATE_FAILED, Reg.TS_STATE_FAST, Reg.TS_STATE_XCNT, Reg.VLV_DIAG_OFF_RES, Reg.VLV_MEAS_CURRENT,
      Reg.VLV_MEAS_DUTY, Reg.VLV_STATE_BAND, Reg.VLV_STATE_STATE] ++ vlvSettings) t ∧ s.causesKept t ∧
    t = { s with regs := t.regs, free := t.free, intCause := t.intCause, evcs := t.evcs, evcWrap := t.evcWrap, dmp := t.dmp, rgn := t.rgn }) ∧
  (∀ (vbat : Bool) (s t : State), exec (.backupSwitchVbat vbat) s = .next t → s.sameBut [Hid.panelDis, Reg.PWR_MODE_MODE, Reg.RTC_STAMP_DATE_DAY,
      Reg.RTC_STAMP_DATE_MONTH, Reg.RTC_STAMP_DATE_STAMPED, Reg.RTC_STAMP_DATE_WDAY, Reg.RTC_STAMP_DATE_YEAR, Reg.RTC_STAMP_TIME_HOUR,
      Reg.RTC_STAMP_TIME_MIN, Reg.RTC_STAMP_TIME_SEC, Reg.RTC_STAT_ON_VBAT] t ∧ s.causesKept t ∧
    t = { s with regs := t.regs, free := t.free, intCause := t.intCause, evcs := t.evcs, evcWrap := t.evcWrap, tap := t.tap }) ∧
  (∀ (s t : State), exec .earlyWarning s = .next t → s.sameBut [Hid.dispHold, Hid.dispRb, Hid.dispUs, Reg.DISP_BAL_BAL, Reg.DISP_STAT_SLOT,
      Reg.DISP_STAT_STATE, Reg.PWR_FLAGS_FLAGS, Reg.PWR_STAT_EW] t ∧ s.causesKept t ∧
    t = { s with regs := t.regs, free := t.free, intCause := t.intCause, evcs := t.evcs, evcWrap := t.evcWrap }) ∧
  (∀ (s t : State), exec .earlyWarningClear s = .next t → s.sameBut [Reg.DISP_STAT_STATE, Reg.PWR_STAT_EW] t ∧ s.causesKept t ∧
    t = { s with regs := t.regs, free := t.free, intCause := t.intCause, evcs := t.evcs, evcWrap := t.evcWrap }) ∧
  (∀ (s t : State), exec .vddaUv s = .next t → s.sameBut [Hid.calPassed, Hid.calTick, Reg.CAL_FLAGS_CAL_FAIL, Reg.CAL_INFO_FAILS,
      Reg.CAL_INFO_REASON, Reg.CAL_INFO_RESULT, Reg.CAL_INFO_TEMP, Reg.CAL_STAT_CAL_UNTRACED, Reg.CAL_STAT_NO_RELIEF, Reg.CAL_STAT_UNSERVED,
      Reg.PWR_FLAGS_FLAGS, Reg.PWR_STAT_VDDA_UV] t ∧ s.causesKept t ∧
    t = { s with
        regs := t.regs, free := t.free, intCause := t.intCause, evcs := t.evcs, evcWrap := t.evcWrap, convs := t.convs, cals := t.cals,
        relief := t.relief }) ∧
  (∀ (s t : State), exec .vddaUvClear s = .next t → s.sameBut [Hid.calHold, Reg.CAL_STAT_NO_RELIEF, Reg.CAL_STAT_UNSERVED, Reg.PWR_STAT_VDDA_UV,
      Reg.UI_STAT_SETTLE_LEFT] t ∧ s.causesKept t ∧
    t = { s with regs := t.regs, free := t.free, intCause := t.intCause, evcs := t.evcs, evcWrap := t.evcWrap, convs := t.convs }) ∧
  (∀ (ov : Bool) (s t : State), exec (.vmFault ov) s = .next t → s.sameBut ([Hid.boMs, Hid.dmpFb, Hid.dmpStalled, Hid.dmpVel, Hid.fanCoasted,
      Hid.fanIlim, Hid.fanRampMs, Hid.fanRef, Hid.fanSpdInt, Hid.vlvBandNow, Hid.vlvGrid, Hid.vlvHsKeep, Hid.vlvHsTest, Hid.vlvOcWait,
      Hid.vlvOrg, Hid.vlvOrgKind, Hid.vlvTest, Reg.BO_STATE_ELAPSED, Reg.BO_STATE_FORCED, Reg.BO_STATE_OUT, Reg.BO_STATE_WAIT, Reg.DMP_POS_POS,
      Reg.DMP_STATE_POS_OK, Reg.DMP_STATE_STATE, Reg.FANT_STATE_STATE, Reg.FAN_COMMON_HEATER_BLOCK, Reg.FAN_DEMAND_REF, Reg.FAN_FLAGS_FLAGS,
      Reg.FAN_MEAS_IQ, Reg.FAN_STATE_ATTEMPT, Reg.FAN_STATE_STATE, Reg.PWR_FLAGS_FLAGS, Reg.PWR_STAT_VM_OV, Reg.PWR_STAT_VM_UV,
      Reg.RGN_CTRL_STATE, Reg.RGN_RES_LEFT, Reg.RGN_RES_REASON, Reg.RGN_RES_RESULT, Reg.VLV_DIAG_OFF_RES, Reg.VLV_MEAS_CURRENT,
      Reg.VLV_MEAS_DUTY, Reg.VLV_STATE_BAND, Reg.VLV_STATE_STATE] ++ vlvSettings) t ∧ s.causesKept t ∧
    t = { s with regs := t.regs, free := t.free, intCause := t.intCause, evcs := t.evcs, evcWrap := t.evcWrap, dmp := t.dmp, rgn := t.rgn }) ∧
  (∀ (ov : Bool) (s t : State), exec (.vmFaultClear ov) s = .next t → s.sameBut ([Hid.boMs, Hid.dmpFb, Hid.dmpStalled, Hid.dmpVel,
      Hid.fanCoasted, Hid.fanIlim, Hid.fanRampMs, Hid.fanRef, Hid.fanSpdInt, Hid.vlvBandNow, Hid.vlvGrid, Hid.vlvHsKeep, Hid.vlvHsTest,
      Hid.vlvOcWait, Hid.vlvOrg, Hid.vlvOrgKind, Hid.vlvTest, Reg.BO_STATE_ELAPSED, Reg.BO_STATE_FORCED, Reg.BO_STATE_OUT, Reg.BO_STATE_WAIT,
      Reg.DMP_POS_POS, Reg.DMP_STATE_POS_OK, Reg.DMP_STATE_STATE, Reg.FANT_STATE_STATE, Reg.FAN_COMMON_HEATER_BLOCK, Reg.FAN_DEMAND_REF,
      Reg.FAN_FLAGS_FLAGS, Reg.FAN_MEAS_IQ, Reg.FAN_STATE_ATTEMPT, Reg.FAN_STATE_STATE, Reg.PWR_STAT_VM_OV, Reg.PWR_STAT_VM_UV,
      Reg.RGN_CTRL_STATE, Reg.RGN_RES_LEFT, Reg.RGN_RES_REASON, Reg.RGN_RES_RESULT, Reg.VLV_DIAG_OFF_RES, Reg.VLV_MEAS_CURRENT,
      Reg.VLV_MEAS_DUTY, Reg.VLV_STATE_BAND, Reg.VLV_STATE_STATE] ++ vlvSettings) t ∧ s.causesKept t ∧
    t = { s with regs := t.regs, free := t.free, intCause := t.intCause, evcs := t.evcs, evcWrap := t.evcWrap, dmp := t.dmp, rgn := t.rgn }) ∧
  (∀ (s t : State), exec .auditOscReturn s = .next t → s.sameBut [Reg.CLK_STAT_AUDIT_OK] t ∧ s.causesKept t ∧
    t = { s with regs := t.regs, free := t.free, intCause := t.intCause, evcs := t.evcs, evcWrap := t.evcWrap })

/-- For each command named: when it answers a next state, every register field outside the listed ones reads as before, no cause of
INT_CAUSE is lost, and every component of the machine outside the named ones (the queue, attached memory, OTP and the others) is the
same. Where coach words, flash or the staging buffer may change, a clause names the coach, the words or the bytes. (Rests on R220,
R230, R231, R235, R238, R242) -/
def Obligations.OutputFrames : Prop :=
  (∀ (chan : Fin 8) (s t : State), exec (.valvePulseGrid chan) s = .next t → s.sameBut [Hid.vlvHsTest, Hid.vlvOrg, Hid.vlvOrgKind, Hid.vlvTest,
      Reg.VLV_DIAG_OFF_RES, Reg.VLV_MEAS_CURRENT, Reg.VLV_MEAS_DUTY, Reg.VLV_STATE_BAND, Reg.VLV_STATE_STATE] t ∧ s.causesKept t ∧
    t = { s with regs := t.regs, free := t.free, intCause := t.intCause, evcs := t.evcs, evcWrap := t.evcWrap }) ∧
  (∀ (chan : Fin 8) (s t : State), exec (.valvePeakEnd chan) s = .next t → s.sameBut ([Hid.vlvBandNow, Hid.vlvGrid, Hid.vlvHsTest, Hid.vlvOrg,
      Hid.vlvOrgKind, Hid.vlvTest, Reg.RGN_CTRL_STATE, Reg.RGN_RES_LEFT, Reg.RGN_RES_REASON, Reg.RGN_RES_RESULT, Reg.VLV_DIAG_OFF_RES,
      Reg.VLV_MEAS_CURRENT, Reg.VLV_MEAS_DUTY, Reg.VLV_STATE_BAND, Reg.VLV_STATE_STATE] ++ vlvSettings) t ∧ s.causesKept t ∧
    t = { s with regs := t.regs, free := t.free, intCause := t.intCause, evcs := t.evcs, evcWrap := t.evcWrap, rgn := t.rgn }) ∧
  (∀ (chan : Fin 8) (s t : State), exec (.valveHoldEnd chan) s = .next t → s.sameBut ([Hid.vlvBandNow, Hid.vlvGrid, Hid.vlvHsTest, Hid.vlvOrg,
      Hid.vlvOrgKind, Hid.vlvTest, Reg.RGN_CTRL_STATE, Reg.RGN_RES_LEFT, Reg.RGN_RES_REASON, Reg.RGN_RES_RESULT, Reg.VLV_DIAG_OFF_RES,
      Reg.VLV_MEAS_CURRENT, Reg.VLV_MEAS_DUTY, Reg.VLV_STATE_BAND, Reg.VLV_STATE_STATE] ++ vlvSettings) t ∧ s.causesKept t ∧
    t = { s with regs := t.regs, free := t.free, intCause := t.intCause, evcs := t.evcs, evcWrap := t.evcWrap, rgn := t.rgn }) ∧
  (∀ (s t : State), exec .valveCoilBandRead s = .next t → s.sameBut [Hid.vlvBandNow] t ∧ s.causesKept t ∧
    t = { s with regs := t.regs, free := t.free, intCause := t.intCause, evcs := t.evcs, evcWrap := t.evcWrap }) ∧
  (∀ (hs : Fin 4) (s t : State), exec (.valveOffTestStart hs) s = .next t → s.sameBut [Hid.vlvHsTest, Hid.vlvTest] t ∧ s.causesKept t ∧
    t = { s with regs := t.regs, free := t.free, intCause := t.intCause, evcs := t.evcs, evcWrap := t.evcWrap }) ∧
  (∀ (hs : Fin 4) (limit : Bool) (low1 : Fin 4) (high2 : Fin 4) (low2 : Fin 4) (s t : State),
      exec (.valveOffTestDone hs limit low1 high2 low2) s = .next t → s.sameBut ([Hid.izV, Hid.vlvBandNow, Hid.vlvGrid, Hid.vlvHsTest,
      Hid.vlvOcWait, Hid.vlvOrg, Hid.vlvOrgKind, Hid.vlvTest, Reg.RGN_CTRL_STATE, Reg.RGN_RES_LEFT, Reg.RGN_RES_REASON, Reg.RGN_RES_RESULT,
      Reg.VLV_DIAG_CAUSE, Reg.VLV_DIAG_OFF_AGE, Reg.VLV_DIAG_OFF_RES, Reg.VLV_FLAGS_OPEN, Reg.VLV_FLAGS_SHORT_GND, Reg.VLV_FLAGS_SHORT_SUP,
      Reg.VLV_HS_BLOCKED, Reg.VLV_MEAS_CURRENT, Reg.VLV_MEAS_DUTY, Reg.VLV_STATE_BAND, Reg.VLV_STATE_STATE] ++ vlvSettings) t ∧ s.causesKept t ∧
    t = { s with regs := t.regs, free := t.free, intCause := t.intCause, evcs := t.evcs, evcWrap := t.evcWrap, rgn := t.rgn }) ∧
  (∀ (chan : Fin 8) (current : Nat) (s t : State), exec (.valveOpenLoadCheck chan current) s = .next t → s.sameBut [Reg.VLV_DIAG_ON_RES,
      Reg.VLV_FLAGS_OPEN] t ∧ s.causesKept t ∧
    t = { s with regs := t.regs, free := t.free, intCause := t.intCause, evcs := t.evcs, evcWrap := t.evcWrap }) ∧
  (∀ (chan : Fin 8) (s t : State), exec (.valveLowSideOvercurrent chan) s = .next t → s.sameBut ([Hid.izV, Hid.vlvBandNow, Hid.vlvGrid,
      Hid.vlvHsTest, Hid.vlvOcWait, Hid.vlvOrg, Hid.vlvOrgKind, Hid.vlvTest, Reg.RGN_CTRL_STATE, Reg.RGN_RES_LEFT, Reg.RGN_RES_REASON,
      Reg.RGN_RES_RESULT, Reg.VLV_DIAG_CAUSE, Reg.VLV_DIAG_OFF_RES, Reg.VLV_DIAG_ON_RES, Reg.VLV_FLAGS_SHORT_SUP, Reg.VLV_MEAS_CURRENT,
      Reg.VLV_MEAS_DUTY, Reg.VLV_STATE_BAND, Reg.VLV_STATE_STATE] ++ vlvSettings) t ∧ s.causesKept t ∧
    t = { s with regs := t.regs, free := t.free, intCause := t.intCause, evcs := t.evcs, evcWrap := t.evcWrap, rgn := t.rgn }) ∧
  (∀ (hs : Fin 4) (lowSum : Nat) (s t : State), exec (.valveHighSideOvercurrent hs lowSum) s = .next t → s.sameBut ([Hid.izV, Hid.vlvBandNow,
      Hid.vlvGrid, Hid.vlvHsTest, Hid.vlvOcAt, Hid.vlvOcWait, Hid.vlvOrg, Hid.vlvOrgKind, Hid.vlvTest, Reg.RGN_CTRL_STATE, Reg.RGN_RES_LEFT,
      Reg.RGN_RES_REASON, Reg.RGN_RES_RESULT, Reg.VLV_DIAG_CAUSE, Reg.VLV_DIAG_OFF_RES, Reg.VLV_DIAG_ON_RES, Reg.VLV_FLAGS_HS_OC,
      Reg.VLV_FLAGS_SHORT_GND, Reg.VLV_HS_BLOCKED, Reg.VLV_MEAS_CURRENT, Reg.VLV_MEAS_DUTY, Reg.VLV_STATE_BAND,
      Reg.VLV_STATE_STATE] ++ vlvSettings) t ∧ s.causesKept t ∧
    t = { s with regs := t.regs, free := t.free, intCause := t.intCause, evcs := t.evcs, evcWrap := t.evcWrap, rgn := t.rgn }) ∧
  (∀ (chan : Fin 8) (s t : State), exec (.valveHsOcRestart chan) s = .next t → s.sameBut [Hid.vlvGrid, Hid.vlvHsTest, Hid.vlvOcWait, Hid.vlvOrg,
      Hid.vlvOrgKind, Hid.vlvTest, Reg.VLV_DIAG_OFF_RES, Reg.VLV_MEAS_CURRENT, Reg.VLV_MEAS_DUTY, Reg.VLV_STATE_BAND,
      Reg.VLV_STATE_STATE] t ∧ s.causesKept t ∧
    t = { s with regs := t.regs, free := t.free, intCause := t.intCause, evcs := t.evcs, evcWrap := t.evcWrap }) ∧
  (∀ (s t : State), exec .damperSchedTick s = .next t → s.sameBut [Hid.dmpFb, Hid.dmpStalled, Hid.dmpVel, Reg.DMP_FLAGS_PREEMPT,
      Reg.DMP_STATE_STATE] t ∧ s.causesKept t ∧
    t = { s with regs := t.regs, free := t.free, intCause := t.intCause, evcs := t.evcs, evcWrap := t.evcWrap, dmp := t.dmp }) ∧
  (∀ (damper : Fin 4) (s t : State), exec (.damperMoveDone damper) s = .next t → s.sameBut [Hid.dmpFb, Hid.dmpFrac, Hid.dmpPhase, Hid.dmpStalled,
      Hid.dmpVel, Reg.DMP_POS_POS, Reg.DMP_STATE_STATE] t ∧ s.causesKept t ∧
    t = { s with regs := t.regs, free := t.free, intCause := t.intCause, evcs := t.evcs, evcWrap := t.evcWrap, dmp := t.dmp }) ∧
  (∀ (damper : Fin 4) (s t : State), exec (.damperStall damper) s = .next t → s.sameBut [Hid.dmpFb, Hid.dmpFrac, Hid.dmpHome, Hid.dmpStalled,
      Hid.dmpVel, Reg.DMP_FLAGS_STALL, Reg.DMP_POS_POS, Reg.DMP_STATE_CAUSE, Reg.DMP_STATE_POS_OK, Reg.DMP_STATE_STATE] t ∧ s.causesKept t ∧
    t = { s with regs := t.regs, free := t.free, intCause := t.intCause, evcs := t.evcs, evcWrap := t.evcWrap, dmp := t.dmp }) ∧
  (∀ (damper : Fin 4) (s t : State), exec (.damperHomeFail damper) s = .next t → s.sameBut [Hid.dmpFb, Hid.dmpStalled, Hid.dmpVel,
      Reg.DMP_FLAGS_HOME_FAIL, Reg.DMP_POS_POS, Reg.DMP_STATE_CAUSE, Reg.DMP_STATE_POS_OK, Reg.DMP_STATE_STATE] t ∧ s.causesKept t ∧
    t = { s with regs := t.regs, free := t.free, intCause := t.intCause, evcs := t.evcs, evcWrap := t.evcWrap, dmp := t.dmp }) ∧
  (∀ (damper : Fin 4) (s t : State), exec (.damperFeedbackCheck damper) s = .next t → s.sameBut [Hid.dmpFb, Hid.dmpFbTry, Hid.dmpHome,
      Hid.dmpStalled, Hid.dmpVel, Reg.DMP_FBPOS_FB_POS, Reg.DMP_FBPOS_FB_VALID, Reg.DMP_FLAGS_FB_MISMATCH, Reg.DMP_POS_POS, Reg.DMP_STATE_CAUSE,
      Reg.DMP_STATE_POS_OK, Reg.DMP_STATE_STATE] t ∧ s.causesKept t ∧
    t = { s with regs := t.regs, free := t.free, intCause := t.intCause, evcs := t.evcs, evcWrap := t.evcWrap, dmp := t.dmp }) ∧
  (∀ (damper : Fin 4) (s t : State), exec (.damperBridgeOvercurrent damper) s = .next t → s.sameBut [Hid.dmpFb, Hid.dmpStalled, Hid.dmpVel,
      Reg.DMP_FLAGS_BRIDGE, Reg.DMP_POS_POS, Reg.DMP_STATE_CAUSE, Reg.DMP_STATE_POS_OK, Reg.DMP_STATE_STATE] t ∧ s.causesKept t ∧
    t = { s with regs := t.regs, free := t.free, intCause := t.intCause, evcs := t.evcs, evcWrap := t.evcWrap, dmp := t.dmp }) ∧
  (∀ (damper : Fin 4) (s t : State), exec (.damperOpenWinding damper) s = .next t → s.sameBut [Hid.dmpFb, Hid.dmpStalled, Hid.dmpVel,
      Reg.DMP_FLAGS_BRIDGE, Reg.DMP_POS_POS, Reg.DMP_STATE_CAUSE, Reg.DMP_STATE_POS_OK, Reg.DMP_STATE_STATE] t ∧ s.causesKept t ∧
    t = { s with regs := t.regs, free := t.free, intCause := t.intCause, evcs := t.evcs, evcWrap := t.evcWrap, dmp := t.dmp }) ∧
  (∀ (out : Fin 6) (s t : State), exec (.boOvercurrent out) s = .next t → s.sameBut [Hid.boMs, Hid.boOc, Hid.boOcAt, Reg.BO_FLAGS_LATCH,
      Reg.BO_FLAGS_OC, Reg.BO_STATE_ELAPSED, Reg.BO_STATE_FORCED, Reg.BO_STATE_OUT, Reg.BO_STATE_WAIT] t ∧ s.causesKept t ∧
    t = { s with regs := t.regs, free := t.free, intCause := t.intCause, evcs := t.evcs, evcWrap := t.evcWrap }) ∧
  (∀ (out : Fin 6) (s t : State), exec (.boOcRestart out) s = .next t → s.sameBut [Hid.boMs, Hid.boOc, Reg.BO_STATE_ELAPSED, Reg.BO_STATE_FORCED,
      Reg.BO_STATE_OUT, Reg.BO_STATE_WAIT] t ∧ s.causesKept t ∧
    t = { s with regs := t.regs, free := t.free, intCause := t.intCause, evcs := t.evcs, evcWrap := t.evcWrap }) ∧
  (∀ (out : Fin 6) (s t : State), exec (.boMinTimeExpiry out) s = .next t → s.sameBut [Hid.boMs, Reg.BO_STATE_ELAPSED, Reg.BO_STATE_FORCED,
      Reg.BO_STATE_OUT, Reg.BO_STATE_WAIT] t ∧ s.causesKept t ∧
    t = { s with regs := t.regs, free := t.free, intCause := t.intCause, evcs := t.evcs, evcWrap := t.evcWrap }) ∧
  (∀ (out : Fin 6) (s t : State), exec (.boOpenLoad out) s = .next t → s.sameBut [Reg.BO_FLAGS_OPEN] t ∧ s.causesKept t ∧
    t = { s with regs := t.regs, free := t.free, intCause := t.intCause, evcs := t.evcs, evcWrap := t.evcWrap }) ∧
  (∀ (damper : Fin 4) (pos : Nat) (s t : State), exec (.damperPreemptStop damper pos) s = .next t → s.sameBut [Hid.dmpFrac, Hid.dmpHome,
      Hid.dmpVel, Reg.DMP_POS_POS, Reg.DMP_STATE_STATE] t ∧ s.causesKept t ∧
    t = { s with regs := t.regs, free := t.free, intCause := t.intCause, evcs := t.evcs, evcWrap := t.evcWrap, dmp := t.dmp })

/-- For each command named: when it answers a next state, every register field outside the listed ones reads as before, no cause of
INT_CAUSE is lost, and every component of the machine outside the named ones (the queue, attached memory, OTP and the others) is the
same. Where coach words, flash or the staging buffer may change, a clause names the coach, the words or the bytes. (Rests on R193,
R197, R199, R202, R203, R208) -/
def Obligations.FanFrames : Prop :=
  (∀ (s t : State), exec .fanCatchTimeout s = .next t → s.sameBut [Hid.fanIlim, Hid.fanRampMs, Hid.fanRef, Hid.fanSpdInt, Reg.FANT_STATE_STATE,
      Reg.FAN_DEMAND_REF, Reg.FAN_MEAS_IQ, Reg.FAN_STATE_STATE] t ∧ s.causesKept t ∧
    t = { s with regs := t.regs, free := t.free, intCause := t.intCause, evcs := t.evcs, evcWrap := t.evcWrap }) ∧
  (∀ (s t : State), exec .fanAlignOpenPhase s = .next t → s.sameBut [Hid.boMs, Hid.fanIlim, Hid.fanRampMs, Hid.fanRef, Hid.fanSpdInt,
      Reg.BO_STATE_ELAPSED, Reg.BO_STATE_FORCED, Reg.BO_STATE_OUT, Reg.BO_STATE_WAIT, Reg.FANT_STATE_STATE, Reg.FAN_COMMON_HEATER_BLOCK,
      Reg.FAN_DEMAND_REF, Reg.FAN_FLAGS_FLAGS, Reg.FAN_MEAS_IQ, Reg.FAN_STATE_LOCK_CAUSE, Reg.FAN_STATE_STATE] t ∧ s.causesKept t ∧
    t = { s with regs := t.regs, free := t.free, intCause := t.intCause, evcs := t.evcs, evcWrap := t.evcWrap }) ∧
  (∀ (s t : State), exec .fanAlignDone s = .next t → s.sameBut [Hid.fanRampMs, Hid.fanRef, Reg.FANT_STATE_STATE, Reg.FAN_DEMAND_REF,
      Reg.FAN_STATE_STATE] t ∧ s.causesKept t ∧
    t = { s with regs := t.regs, free := t.free, intCause := t.intCause, evcs := t.evcs, evcWrap := t.evcWrap }) ∧
  (∀ (speed : Nat) (field : Nat) (dirOk : Bool) (s t : State),
      exec (.fanObserverConverged speed field dirOk) s = .next t → s.sameBut [Hid.fanRef, Hid.fanSpdInt, Reg.FANT_STATE_STATE,
      Reg.FAN_DEMAND_REF, Reg.FAN_MEAS_SPEED, Reg.FAN_STATE_STATE] t ∧ s.causesKept t ∧
    t = { s with regs := t.regs, free := t.free, intCause := t.intCause, evcs := t.evcs, evcWrap := t.evcWrap }) ∧
  (∀ (s t : State), exec .fanRampTimeout s = .next t → s.sameBut [Hid.boMs, Hid.fanIlim, Hid.fanRampMs, Hid.fanRef, Hid.fanSpdInt,
      Reg.BO_STATE_ELAPSED, Reg.BO_STATE_FORCED, Reg.BO_STATE_OUT, Reg.BO_STATE_WAIT, Reg.FANT_STATE_STALL_CNT, Reg.FANT_STATE_STATE,
      Reg.FAN_COMMON_HEATER_BLOCK, Reg.FAN_DEMAND_REF, Reg.FAN_FLAGS_FLAGS, Reg.FAN_MEAS_IQ, Reg.FAN_STATE_ATTEMPT, Reg.FAN_STATE_LOCK_CAUSE,
      Reg.FAN_STATE_STALL_CNT, Reg.FAN_STATE_STATE] t ∧ s.causesKept t ∧
    t = { s with regs := t.regs, free := t.free, intCause := t.intCause, evcs := t.evcs, evcWrap := t.evcWrap }) ∧
  (∀ (s t : State), exec .fanRetryWaitEnd s = .next t → s.sameBut [Hid.fanIlim, Hid.fanRampMs, Hid.fanRef, Hid.fanSpdInt, Reg.FANT_STATE_STATE,
      Reg.FAN_DEMAND_REF, Reg.FAN_MEAS_IQ, Reg.FAN_STATE_STATE] t ∧ s.causesKept t ∧
    t = { s with regs := t.regs, free := t.free, intCause := t.intCause, evcs := t.evcs, evcWrap := t.evcWrap }) ∧
  (∀ (s t : State), exec .fanStopDone s = .next t → s.sameBut [Hid.fanCoasted, Hid.fanIlim, Hid.fanRampMs, Hid.fanRef, Hid.fanSpdInt,
      Reg.FANT_STATE_STATE, Reg.FAN_DEMAND_REF, Reg.FAN_MEAS_IQ, Reg.FAN_STATE_ATTEMPT, Reg.FAN_STATE_STATE] t ∧ s.causesKept t ∧
    t = { s with regs := t.regs, free := t.free, intCause := t.intCause, evcs := t.evcs, evcWrap := t.evcWrap }) ∧
  (∀ (s t : State), exec .fanCoastEnd s = .next t → s.sameBut [Hid.fanCoasted, Hid.fanIlim, Hid.fanRampMs, Hid.fanRef, Hid.fanSpdInt,
      Reg.FANT_STATE_STATE, Reg.FAN_DEMAND_REF, Reg.FAN_MEAS_IQ, Reg.FAN_STATE_ATTEMPT, Reg.FAN_STATE_STATE] t ∧ s.causesKept t ∧
    t = { s with regs := t.regs, free := t.free, intCause := t.intCause, evcs := t.evcs, evcWrap := t.evcWrap }) ∧
  (∀ (chan : Fin 3) (s t : State), exec (.fanStallWaitEnd chan) s = .next t → s.sameBut [Hid.boMs, Hid.fanCoasted, Hid.fanIlim, Hid.fanInt,
      Hid.fanRampMs, Hid.fanRef, Hid.fanSpdInt, Reg.BO_STATE_ELAPSED, Reg.BO_STATE_FORCED, Reg.BO_STATE_OUT, Reg.BO_STATE_WAIT,
      Reg.FANT_MEAS_DUTY, Reg.FANT_STATE_STATE, Reg.FANT_STATE_TACH_LOST, Reg.FAN_COMMON_HEATER_BLOCK, Reg.FAN_DEMAND_REF, Reg.FAN_MEAS_IQ,
      Reg.FAN_STATE_ATTEMPT, Reg.FAN_STATE_STATE] t ∧ s.causesKept t ∧
    t = { s with regs := t.regs, free := t.free, intCause := t.intCause, evcs := t.evcs, evcWrap := t.evcWrap }) ∧
  (∀ (s t : State), exec .fanOvercurrent s = .next t → s.sameBut [Hid.boMs, Hid.fanCoasted, Hid.fanIlim, Hid.fanOcAt, Hid.fanRampMs, Hid.fanRef,
      Hid.fanSpdInt, Reg.BO_STATE_ELAPSED, Reg.BO_STATE_FORCED, Reg.BO_STATE_OUT, Reg.BO_STATE_WAIT, Reg.FANT_STATE_STATE,
      Reg.FAN_COMMON_HEATER_BLOCK, Reg.FAN_DEMAND_REF, Reg.FAN_FLAGS_FLAGS, Reg.FAN_MEAS_IQ, Reg.FAN_STATE_LOCK_CAUSE,
      Reg.FAN_STATE_STATE] t ∧ s.causesKept t ∧
    t = { s with regs := t.regs, free := t.free, intCause := t.intCause, evcs := t.evcs, evcWrap := t.evcWrap }) ∧
  (∀ (s t : State), exec .fanVdrvLow s = .next t → s.sameBut [Hid.fanCoasted, Hid.fanIlim, Hid.fanRampMs, Hid.fanRef, Hid.fanSpdInt,
      Hid.vdrvBlock, Reg.FANT_STATE_STATE, Reg.FAN_DEMAND_REF, Reg.FAN_FLAGS_FLAGS, Reg.FAN_MEAS_IQ, Reg.FAN_STATE_STATE, Reg.PWR_FLAGS_FLAGS,
      Reg.PWR_STAT_VDRV_LOW] t ∧ s.causesKept t ∧
    t = { s with regs := t.regs, free := t.free, intCause := t.intCause, evcs := t.evcs, evcWrap := t.evcWrap }) ∧
  (∀ (s t : State), exec .fanVdrvGood s = .next t → s.sameBut [Hid.fanCoasted, Hid.fanIlim, Hid.fanRampMs, Hid.fanRef, Hid.fanSpdInt,
      Hid.vdrvBlock, Reg.FANT_STATE_STATE, Reg.FAN_DEMAND_REF, Reg.FAN_MEAS_IQ, Reg.FAN_STATE_ATTEMPT, Reg.FAN_STATE_STATE,
      Reg.PWR_STAT_VDRV_LOW] t ∧ s.causesKept t ∧
    t = { s with regs := t.regs, free := t.free, intCause := t.intCause, evcs := t.evcs, evcWrap := t.evcWrap }) ∧
  (∀ (periods : Nat) (s t : State), exec (.fanBootstrapLow periods) s = .next t → s.sameBut [Hid.fanCoasted, Hid.fanIlim, Hid.fanRampMs,
      Hid.fanRef, Hid.fanSpdInt, Reg.FANT_STATE_STATE, Reg.FAN_DEMAND_REF, Reg.FAN_FLAGS_FLAGS, Reg.FAN_MEAS_IQ,
      Reg.FAN_STATE_STATE] t ∧ s.causesKept t ∧
    t = { s with regs := t.regs, free := t.free, intCause := t.intCause, evcs := t.evcs, evcWrap := t.evcWrap }) ∧
  (∀ (s t : State), exec .fanSyncLoss s = .next t → s.sameBut [Hid.fanCoasted, Hid.fanIlim, Hid.fanRampMs, Hid.fanRef, Hid.fanSpdInt,
      Reg.FANT_STATE_STATE, Reg.FAN_DEMAND_REF, Reg.FAN_FLAGS_FLAGS, Reg.FAN_MEAS_IQ, Reg.FAN_STATE_STATE] t ∧ s.causesKept t ∧
    t = { s with regs := t.regs, free := t.free, intCause := t.intCause, evcs := t.evcs, evcWrap := t.evcWrap }) ∧
  (∀ (chan : Fin 3) (s t : State), exec (.fanStallCntReset chan) s = .next t → s.sameBut [Reg.FANT_STATE_STALL_CNT,
      Reg.FAN_STATE_STALL_CNT] t ∧ s.causesKept t ∧
    t = { s with regs := t.regs, free := t.free, intCause := t.intCause, evcs := t.evcs, evcWrap := t.evcWrap }) ∧
  (∀ (chan : Fin 2) (us : Nat) (s t : State), exec (.fanTachEdge chan us) s = .next t → s.sameBut [Hid.fanInt, Hid.izV, Reg.FANT_MEAS_DUTY,
      Reg.FANT_MEAS_SPEED, Reg.FANT_STATE_PLAUS_RUN, Reg.FANT_STATE_STATE, Reg.FANT_STATE_TACH_LOST, Reg.FAN_STATE_STATE] t ∧ s.causesKept t ∧
    t = { s with regs := t.regs, free := t.free, intCause := t.intCause, evcs := t.evcs, evcWrap := t.evcWrap }) ∧
  (∀ (chan : Fin 2) (s t : State), exec (.fanTachSpeedTimeout chan) s = .next t → s.sameBut [Reg.FANT_MEAS_SPEED] t ∧ s.causesKept t ∧
    t = { s with regs := t.regs, free := t.free, intCause := t.intCause, evcs := t.evcs, evcWrap := t.evcWrap }) ∧
  (∀ (chan : Fin 2) (s t : State), exec (.fanSpeedStep chan) s = .next t → s.sameBut [Hid.fanInt, Reg.FANT_MEAS_DUTY] t ∧ s.causesKept t ∧
    t = { s with regs := t.regs, free := t.free, intCause := t.intCause, evcs := t.evcs, evcWrap := t.evcWrap }) ∧
  (∀ (chan : Fin 2) (s t : State), exec (.fanTstartTimeout chan) s = .next t → s.sameBut [Reg.FANT_MEAS_DUTY, Reg.FANT_STATE_STATE,
      Reg.FAN_FLAGS_FLAGS, Reg.FAN_STATE_STATE] t ∧ s.causesKept t ∧
    t = { s with regs := t.regs, free := t.free, intCause := t.intCause, evcs := t.evcs, evcWrap := t.evcWrap }) ∧
  (∀ (chan : Fin 2) (s t : State), exec (.fanKickEnd chan) s = .next t → s.sameBut [Hid.boMs, Hid.fanIlim, Hid.fanRampMs, Hid.fanRef,
      Hid.fanSpdInt, Reg.BO_STATE_ELAPSED, Reg.BO_STATE_FORCED, Reg.BO_STATE_OUT, Reg.BO_STATE_WAIT, Reg.FANT_MEAS_DUTY,
      Reg.FANT_STATE_STALL_CNT, Reg.FANT_STATE_STATE, Reg.FAN_COMMON_HEATER_BLOCK, Reg.FAN_DEMAND_REF, Reg.FAN_FLAGS_FLAGS, Reg.FAN_MEAS_IQ,
      Reg.FAN_STATE_LOCK_CAUSE, Reg.FAN_STATE_STALL_CNT, Reg.FAN_STATE_STATE] t ∧ s.causesKept t ∧
    t = { s with regs := t.regs, free := t.free, intCause := t.intCause, evcs := t.evcs, evcWrap := t.evcWrap }) ∧
  (∀ (chan : Fin 2) (s t : State), exec (.fanTachLost chan) s = .next t → s.sameBut [Reg.FANT_MEAS_DUTY, Reg.FANT_STATE_PLAUS_RUN,
      Reg.FANT_STATE_STATE, Reg.FANT_STATE_TACH_LOST, Reg.FAN_FLAGS_FLAGS, Reg.FAN_STATE_STATE] t ∧ s.causesKept t ∧
    t = { s with regs := t.regs, free := t.free, intCause := t.intCause, evcs := t.evcs, evcWrap := t.evcWrap }) ∧
  (∀ (chan : Fin 3) (s t : State), exec (.fanAutoTableStep chan) s = .next t → s.sameBut [Reg.FAN_FLAGS_FLAGS, Reg.MEM_ERR_COACH,
      Reg.SUPV_CE_ADDR_COACH, Reg.SUPV_CE_ADDR_SYNDROME, Reg.SUPV_CE_ADDR_WORD, Reg.SUPV_DUE_ADDR_BY_SCRUB, Reg.SUPV_DUE_ADDR_COACH,
      Reg.SUPV_DUE_ADDR_WORD, Reg.SUPV_STAT_CE, Reg.SUPV_STAT_DUE] t ∧ s.causesKept t ∧
    t = { s with regs := t.regs, free := t.free, intCause := t.intCause, evcs := t.evcs, evcWrap := t.evcWrap, upsets := t.upsets, actQ := t.actQ })

/-- For each command named: when it answers a next state, every register field outside the listed ones reads as before, no cause of
INT_CAUSE is lost, and every component of the machine outside the named ones (the queue, attached memory, OTP and the others) is the
same. Where coach words, flash or the staging buffer may change, a clause names the coach, the words or the bytes. REGION_APPLY is
framed for the registers outside those its type may write. (Rests on R276, R279, R281, R318, R326, R398, R402) -/
def Obligations.TimeAndUpdateFrames : Prop :=
  (∀ (bad : List Nat) (s t : State), exec (.rtcSecondTick bad) s = .next t → s.sameBut [Hid.preAt, Hid.rtcEdges, Hid.rtcHold, Hid.rtcSecs,
      Hid.schedBad, Hid.wakeAlarm, Hid.wakeSched, Reg.MEM_ERR_COACH, Reg.MEM_ERR_SCHED, Reg.RTC_AFLAG_AF_A, Reg.RTC_AFLAG_AF_B, Reg.RTC_DATE_DAY,
      Reg.RTC_DATE_MONTH, Reg.RTC_DATE_WDAY, Reg.RTC_DATE_YEAR, Reg.RTC_STAT_OSF, Reg.RTC_STAT_SHIFT_PEND, Reg.RTC_SUBSEC_SUBSEC,
      Reg.RTC_TIME_HOUR, Reg.RTC_TIME_MIN, Reg.RTC_TIME_SEC, Reg.SCHED_STAT_NOTIME, Reg.SUPV_CE_ADDR_COACH, Reg.SUPV_CE_ADDR_SYNDROME,
      Reg.SUPV_CE_ADDR_WORD, Reg.SUPV_DUE_ADDR_BY_SCRUB, Reg.SUPV_DUE_ADDR_COACH, Reg.SUPV_DUE_ADDR_WORD, Reg.SUPV_STAT_CE, Reg.SUPV_STAT_DUE,
      Reg.ZONE_STATE_LEAD, Reg.ZONE_STATE_PRESTART, Reg.ZONE_STATE_SCHED_SET, Reg.ZONE_STATE_SET] t ∧ s.causesKept t ∧
    t = { s with
        regs := t.regs, free := t.free, intCause := t.intCause, evcs := t.evcs, evcWrap := t.evcWrap, upsets := t.upsets,
        schedLog := t.schedLog }) ∧
  (∀ (temp : Int) (s t : State), exec (.rtcCompSample temp) s = .next t → s.sameBut [Reg.RTC_COMP_STAT_N,
      Reg.RTC_COMP_STAT_TEMP] t ∧ s.causesKept t ∧
    t = { s with regs := t.regs, free := t.free, intCause := t.intCause, evcs := t.evcs, evcWrap := t.evcWrap }) ∧
  (∀ (s t : State), exec .rtcCompWindow s = .next t → s.sameBut [Hid.rtcCompN] t ∧ s.causesKept t ∧
    t = { s with regs := t.regs, free := t.free, intCause := t.intCause, evcs := t.evcs, evcWrap := t.evcWrap }) ∧
  (∀ (s t : State), exec .rtcOscStop s = .next t → s.sameBut [Hid.oscStopped, Hid.rtcHold, Hid.wakeSched, Reg.RTC_STAT_OSF,
      Reg.RTC_STAT_SHIFT_PEND, Reg.RTC_SUBSEC_SUBSEC, Reg.SCHED_STAT_NOTIME, Reg.ZONE_STATE_SCHED_SET, Reg.ZONE_STATE_SET] t ∧ s.causesKept t ∧
    t = { s with regs := t.regs, free := t.free, intCause := t.intCause, evcs := t.evcs, evcWrap := t.evcWrap }) ∧
  (∀ (s t : State), exec .rtcOscRestart s = .next t → s.sameBut [Hid.oscStopped] t ∧ s.causesKept t ∧
    t = { s with regs := t.regs, free := t.free, intCause := t.intCause, evcs := t.evcs, evcWrap := t.evcWrap }) ∧
  (∀ (sub : Fin 32768) (s t : State), exec (.rtcSetLoad sub) s = .next t → s.sameBut [Hid.preAt, Hid.rtcHold, Hid.rtcPend, Hid.rtcShPend,
      Hid.schedBack, Hid.wakeAlarm, Hid.wakeSched, Reg.RTC_AFLAG_AF_B, Reg.RTC_AFLAG_CATCH_B, Reg.RTC_DATE_DAY, Reg.RTC_DATE_MONTH,
      Reg.RTC_DATE_WDAY, Reg.RTC_DATE_YEAR, Reg.RTC_STAT_OSF, Reg.RTC_STAT_SHIFT_PEND, Reg.RTC_SUBSEC_SUBSEC, Reg.RTC_TIME_HOUR,
      Reg.RTC_TIME_MIN, Reg.RTC_TIME_SEC, Reg.SCHED_STAT_LAST_CHG, Reg.SCHED_STAT_NOTIME, Reg.ZONE_STATE_PRESTART, Reg.ZONE_STATE_SCHED_SET,
      Reg.ZONE_STATE_SET] t ∧ s.causesKept t ∧
    t = { s with regs := t.regs, free := t.free, intCause := t.intCause, evcs := t.evcs, evcWrap := t.evcWrap, schedLog := t.schedLog }) ∧
  (∀ (sub : Fin 32768) (s t : State), exec (.rtcShiftApply sub) s = .next t → s.sameBut [Hid.preAt, Hid.rtcEdges, Hid.rtcHold, Hid.rtcSecs,
      Hid.rtcShPend, Hid.wakeAlarm, Hid.wakeSched, Reg.MEM_ERR_COACH, Reg.RTC_AFLAG_AF_A, Reg.RTC_AFLAG_AF_B, Reg.RTC_DATE_DAY,
      Reg.RTC_DATE_MONTH, Reg.RTC_DATE_WDAY, Reg.RTC_DATE_YEAR, Reg.RTC_STAT_OSF, Reg.RTC_STAT_SHIFT_PEND, Reg.RTC_SUBSEC_SUBSEC,
      Reg.RTC_TIME_HOUR, Reg.RTC_TIME_MIN, Reg.RTC_TIME_SEC, Reg.SCHED_STAT_NOTIME, Reg.SUPV_CE_ADDR_COACH, Reg.SUPV_CE_ADDR_SYNDROME,
      Reg.SUPV_CE_ADDR_WORD, Reg.SUPV_DUE_ADDR_BY_SCRUB, Reg.SUPV_DUE_ADDR_COACH, Reg.SUPV_DUE_ADDR_WORD, Reg.SUPV_STAT_CE, Reg.SUPV_STAT_DUE,
      Reg.ZONE_STATE_LEAD, Reg.ZONE_STATE_PRESTART, Reg.ZONE_STATE_SCHED_SET, Reg.ZONE_STATE_SET] t ∧ s.causesKept t ∧
    t = { s with
        regs := t.regs, free := t.free, intCause := t.intCause, evcs := t.evcs, evcWrap := t.evcWrap, upsets := t.upsets,
        schedLog := t.schedLog }) ∧
  (∀ (s t : State), exec .backupSwitchMain s = .next t → s.sameBut [Reg.RTC_STAT_ON_VBAT, Reg.RTC_STAT_VBAT_LOW] t ∧ s.causesKept t ∧
    t = { s with regs := t.regs, free := t.free, intCause := t.intCause, evcs := t.evcs, evcWrap := t.evcWrap }) ∧
  (∀ (s t : State), exec .vbatLow s = .next t → s.sameBut [Reg.RTC_STAT_VBAT_LOW] t ∧ s.causesKept t ∧
    t = { s with regs := t.regs, free := t.free, intCause := t.intCause, evcs := t.evcs, evcWrap := t.evcWrap }) ∧
  (∀ (s t : State), exec .retentionLatchTrip s = .next t → s.sameBut [Hid.latch] t ∧ s.causesKept t ∧
    t = { s with regs := t.regs, free := t.free, intCause := t.intCause, evcs := t.evcs, evcWrap := t.evcWrap }) ∧
  (∀ (memOk : Bool) (s t : State), exec (.regionValidationDone memOk) s = .next t → s.sameBut ([Hid.svcDrop, Hid.vlvBandNow, Hid.vlvGrid,
      Hid.vlvHsTest, Hid.vlvOrg, Hid.vlvOrgKind, Hid.vlvTest, Reg.MEM_ERR_COACH, Reg.MEM_ERR_STAGE, Reg.RGN_CTRL_STATE, Reg.RGN_CTRL_TYPE,
      Reg.RGN_RES_LEFT, Reg.RGN_RES_REASON, Reg.RGN_RES_RESULT, Reg.SUPV_CE_ADDR_COACH, Reg.SUPV_CE_ADDR_SYNDROME, Reg.SUPV_CE_ADDR_WORD,
      Reg.SUPV_DUE_ADDR_BY_SCRUB, Reg.SUPV_DUE_ADDR_COACH, Reg.SUPV_DUE_ADDR_WORD, Reg.SUPV_STAT_CE, Reg.SUPV_STAT_DUE, Reg.VLV_DIAG_OFF_RES,
      Reg.VLV_MEAS_CURRENT, Reg.VLV_MEAS_DUTY, Reg.VLV_STATE_BAND,
      Reg.VLV_STATE_STATE] ++ (upTo 64).map Reg.coachW ++ vlvSettings) t ∧ s.causesKept t ∧
    t = { s with regs := t.regs, free := t.free, intCause := t.intCause, evcs := t.evcs, evcWrap := t.evcWrap, upsets := t.upsets, rgn := t.rgn } ∧
    s.coachesBut ((groupCoaches s.staged.2).map (fun c => (c, 44))) t) ∧
  (∀ (memOk : Bool) (s t : State), exec (.regionApply memOk) s = .next t → s.sameWhere (fun f => !regionReg s.staged.1 f.addr)
      ([Hid.boMs, Hid.ccGain, Hid.ccOff, Hid.ccTrimHas, Hid.ccTrimHi, Hid.ccTrimLo, Hid.ccUiHas, Hid.comp, Hid.compHdr, Hid.dispHold,
      Hid.dispPage, Hid.dispRb, Hid.dispUs, Hid.fanCoasted, Hid.fanIlim, Hid.fanInt, Hid.fanRampMs, Hid.fanRef, Hid.fanSpdInt, Hid.ipSrc,
      Hid.ipWait, Hid.mbDue, Hid.mbFail, Hid.mbTries, Hid.mbWait, Hid.patch, Hid.scAlt, Hid.scBackoff, Hid.scOn, Hid.schedBad, Hid.supAge,
      Hid.svcDrop, Hid.vlvBandNow, Hid.vlvGrid, Hid.vlvHsTest, Hid.vlvOrg, Hid.vlvOrgKind, Hid.vlvTest, Hid.wakeSched, Reg.ARB_STATUS_SWAP_PEND,
      Reg.ARB_SWAP_REQ, Reg.ARB_WSEL_SEL, Reg.BO_SEL_SEL, Reg.BO_STATE_ELAPSED, Reg.BO_STATE_FORCED, Reg.BO_STATE_OUT, Reg.BO_STATE_WAIT,
      Reg.BUS_STAT_STATE, Reg.BUS_STAT_TOKEN_AGE, Reg.CAL_SEL_SEL, Reg.COACH_SEL_SEL, Reg.DISP_BAL_BAL, Reg.DISP_PAGE_PAGE, Reg.DISP_STAT_SLOT,
      Reg.DISP_STAT_STATE, Reg.DMP_SEL_SEL, Reg.EVC_SEL_SEL, Reg.FANT_MEAS_DUTY, Reg.FANT_STATE_STATE, Reg.FANT_STATE_TACH_LOST,
      Reg.FAN_COMMON_HEATER_BLOCK, Reg.FAN_DEMAND_REF, Reg.FAN_FLAGS_FLAGS, Reg.FAN_MEAS_IQ, Reg.FAN_STATE_ATTEMPT, Reg.FAN_STATE_STATE,
      Reg.MEM_ERR_STAGE, Reg.NET_FDR_FDR_STATE, Reg.NET_FLAGS_FLAGS, Reg.NET_IP_ADDR_ADDR, Reg.NET_IP_GW_GW, Reg.NET_IP_MASK_MASK,
      Reg.NET_MB_CLI_MB_FAIL, Reg.NET_SC_STAT_WAIT, Reg.NET_STAT_IP_OK, Reg.NET_STAT_LINK, Reg.NET_STAT_SC_STATE, Reg.NET_SUP_LEFT_LEFT,
      Reg.PWR_STAT_NET_LOST, Reg.RGN_CTRL_STATE, Reg.RGN_RES_LEFT, Reg.RGN_RES_REASON, Reg.RGN_RES_RESULT, Reg.SCHED_STAT_NOTIME,
      Reg.SCHED_ZSEL_SEL, Reg.TS_SEL_SEL, Reg.UI_SEL_SEL, Reg.VLV_DIAG_OFF_RES, Reg.VLV_MEAS_CURRENT, Reg.VLV_MEAS_DUTY, Reg.VLV_SEL_SEL,
      Reg.VLV_STATE_BAND, Reg.VLV_STATE_STATE, Reg.ZONE_STATE_SCHED_SET,
      Reg.ZONE_STATE_SET] ++ (upTo 64).map Reg.coachW ++ vlvSettings) t ∧ s.causesKept t ∧
    t = { s with
        regs := t.regs, free := t.free, intCause := t.intCause, evcs := t.evcs, evcWrap := t.evcWrap, upsets := t.upsets, avs := t.avs,
        rgn := t.rgn, netImg := t.netImg, net := t.net, compBad := t.compBad } ∧
    s.coachesBut (s.rgn.coaches.map (fun p => (p.1, 44))) t) ∧
  (∀ (memOk : Bool) (s t : State), exec (.coachGroupWrite memOk) s = .next t → s.sameBut ([Hid.closeInit, Hid.first, Hid.svcDrop, Hid.svcOpen,
      Reg.MEM_ERR_STAGE, Reg.RGN_CTRL_STATE, Reg.RGN_RES_LEFT, Reg.RGN_RES_REASON,
      Reg.RGN_RES_RESULT] ++ (upTo 64).map Reg.coachW) t ∧ s.causesKept t ∧
    t = { s with
        regs := t.regs, free := t.free, intCause := t.intCause, evcs := t.evcs, evcWrap := t.evcWrap, due := t.due, upsets := t.upsets,
        rgn := t.rgn } ∧
    s.coachesBut (allWords (groupCoaches s.staged.2 ++ s.rgn.coaches.map Prod.fst)) t) ∧
  (∀ (memOk : Bool) (s t : State), exec (.persistOpenDone memOk) s = .next t → s.sameBut [Reg.IMG_PERSIST_REASON, Reg.IMG_PERSIST_RESULT,
      Reg.IMG_PERSIST_STATE] t ∧ s.causesKept t ∧
    t = { s with
        regs := t.regs, free := t.free, intCause := t.intCause, evcs := t.evcs, evcWrap := t.evcWrap, flash := t.flash,
        hatch := t.hatch } ∧
    s.flashBut (copyBase (s.rd Reg.IMG_PERSIST_TARGET)) 4096 t) ∧
  (∀ (memOk : Bool) (s t : State), exec (.persistCommitDone memOk) s = .next t → s.sameBut [Reg.IMG_PERSIST_REASON, Reg.IMG_PERSIST_RESULT,
      Reg.IMG_PERSIST_STATE, Reg.IMG_PSEQ_SEQ] t ∧ s.causesKept t ∧
    t = { s with
        regs := t.regs, free := t.free, intCause := t.intCause, evcs := t.evcs, evcWrap := t.evcWrap, flash := t.flash,
        hatch := t.hatch } ∧
    s.flashBut (copyBase (s.rd Reg.IMG_PERSIST_TARGET)) 32 t) ∧
  (∀ (s t : State), exec .hostFrameTruncated s = .next t → s.sameBut [] t ∧ s.causesKept t ∧
    t = { s with regs := t.regs, free := t.free, intCause := t.intCause, evcs := t.evcs, evcWrap := t.evcWrap, resp := t.resp, sent := t.sent }) ∧
  (∀ (count : Nat) (s t : State), exec (.i2cResponseRead count) s = .next t → s.sameBut [] t ∧ s.causesKept t ∧
    t = { s with regs := t.regs, free := t.free, intCause := t.intCause, evcs := t.evcs, evcWrap := t.evcWrap, resp := t.resp, sent := t.sent }) ∧
  (∀ (s t : State), exec .doorStepTimeout s = .next t → s.sameBut [Reg.HOST_DOOR_STEP] t ∧ s.causesKept t ∧
    t = { s with regs := t.regs, free := t.free, intCause := t.intCause, evcs := t.evcs, evcWrap := t.evcWrap }) ∧
  (∀ (door : Fin 4) (s t : State), exec (.doorTimeout door) s = .next t → s.sameBut [Reg.HOST_DOOR_OPEN] t ∧ s.causesKept t ∧
    t = { s with regs := t.regs, free := t.free, intCause := t.intCause, evcs := t.evcs, evcWrap := t.evcWrap }) ∧
  (∀ (s t : State), exec .heartbeatExpiry s = .next t → s.sameBut [Reg.HOST_HB_CFG_LEFT, Reg.PWR_STAT_HOST_LOST] t ∧ s.causesKept t ∧
    t = { s with regs := t.regs, free := t.free, intCause := t.intCause, evcs := t.evcs, evcWrap := t.evcWrap }) ∧
  (∀ (outcome : HatchEnd) (status : Fin 256) (s t : State), exec (.hatchOpDone outcome status) s = .next t → s.sameBut [Reg.HATCH_DATA_DATA,
      Reg.HATCH_STAT_FSTAT, Reg.HATCH_STAT_LAST_OP, Reg.HATCH_STAT_RESULT] t ∧ s.causesKept t ∧
    t = { s with
        regs := t.regs, free := t.free, intCause := t.intCause, evcs := t.evcs, evcWrap := t.evcWrap, flash := t.flash,
        eeprom := t.eeprom, hatch := t.hatch } ∧
    (s.hatch.op = 1 → t.flash = s.flash ∧ t.eeprom = s.eeprom) ∧
    (if s.onEeprom = true ∧ s.hatch.op = 2 then t.flash = s.flash else t.eeprom = s.eeprom) ∧
    memoryBut s.flash t.flash [s.hatchSpan] ∧
    memoryBut s.eeprom t.eeprom [s.hatchSpan]) ∧
  (∀ (ok : Bool) (s t : State), exec (.otpProgDone ok) s = .next t → s.sameBut [Hid.otpOp, Reg.OTP_PROG_BUSY,
      Reg.OTP_PROG_RESULT] t ∧ s.causesKept t ∧
    t = { s with regs := t.regs, free := t.free, intCause := t.intCause, evcs := t.evcs, evcWrap := t.evcWrap, otp := t.otp }) ∧
  (∀ (s t : State), exec .vbatLowClear s = .next t → s.sameBut [Reg.RTC_STAT_VBAT_LOW] t ∧ s.causesKept t ∧
    t = { s with regs := t.regs, free := t.free, intCause := t.intCause, evcs := t.evcs, evcWrap := t.evcWrap })

/-- For each command named: when it answers a next state, every register field outside the listed ones reads as before, no cause of
INT_CAUSE is lost, and every component of the machine outside the named ones (the queue, attached memory, OTP and the others) is the
same. Where coach words, flash or the staging buffer may change, a clause names the coach, the words or the bytes. (Rests on R355,
R366, R367, R368, R372, R382) -/
def Obligations.NetworkFrames : Prop :=
  (∀ (partner24 : Bool) (eee : Bool) (sqi : Fin 8) (s t : State), exec (.linkUp partner24 eee sqi) s = .next t → s.sameBut [Hid.eee, Hid.ipCand,
      Hid.ipCandGw, Hid.ipCandMask, Hid.ipSrc, Hid.ipWait, Hid.scAlt, Hid.scBackoff, Reg.MEM_ERR_MAC, Reg.NET_FDR_FDR_STATE,
      Reg.NET_IP_ADDR_ADDR, Reg.NET_IP_GW_GW, Reg.NET_IP_MASK_MASK, Reg.NET_PHY_SQI, Reg.NET_SC_STAT_WAIT, Reg.NET_STAT_AMPL, Reg.NET_STAT_IP_OK,
      Reg.NET_STAT_LINK, Reg.NET_STAT_SC_STATE] t ∧ s.causesKept t ∧
    t = { s with regs := t.regs, free := t.free, intCause := t.intCause, evcs := t.evcs, evcWrap := t.evcWrap, net := t.net }) ∧
  (∀ (s t : State), exec .linkDown s = .next t → s.sameBut [Hid.ipSrc, Hid.ipWait, Reg.NET_FDR_FDR_STATE, Reg.NET_FLAGS_FLAGS,
      Reg.NET_IP_ADDR_ADDR, Reg.NET_IP_GW_GW, Reg.NET_IP_MASK_MASK, Reg.NET_SC_STAT_WAIT, Reg.NET_STAT_IP_OK, Reg.NET_STAT_LINK,
      Reg.NET_STAT_SC_STATE] t ∧ s.causesKept t ∧
    t = { s with regs := t.regs, free := t.free, intCause := t.intCause, evcs := t.evcs, evcWrap := t.evcWrap, net := t.net }) ∧
  (∀ (frame : EthFrame) (s t : State), exec (.ethFrameRx frame) s = .next t → s.sameBut [Hid.ipCand, Hid.ipCandGw, Hid.ipCandMask, Hid.ipDns,
      Hid.ipSrc, Hid.ipWait, Hid.vmac, Reg.MEM_ERR_MAC, Reg.NET_FDR_FDR_STATE, Reg.NET_IP_ADDR_ADDR, Reg.NET_IP_GW_GW, Reg.NET_IP_MASK_MASK,
      Reg.NET_SC_STAT_WAIT, Reg.NET_STAT_IP_OK, Reg.NET_STAT_SC_STATE] t ∧ s.causesKept t ∧
    t = { s with regs := t.regs, free := t.free, intCause := t.intCause, evcs := t.evcs, evcWrap := t.evcWrap, net := t.net }) ∧
  (∀ (tick : DhcpTick) (s t : State), exec (.dhcpTimer tick) s = .next t → s.sameBut [Hid.ipCand, Hid.ipCandGw, Hid.ipCandMask, Hid.ipSrc,
      Hid.ipWait, Reg.MEM_ERR_MAC, Reg.NET_FDR_FDR_STATE, Reg.NET_FLAGS_FLAGS, Reg.NET_IP_ADDR_ADDR, Reg.NET_IP_GW_GW, Reg.NET_IP_MASK_MASK,
      Reg.NET_SC_STAT_WAIT, Reg.NET_STAT_IP_OK, Reg.NET_STAT_SC_STATE] t ∧ s.causesKept t ∧
    t = { s with regs := t.regs, free := t.free, intCause := t.intCause, evcs := t.evcs, evcWrap := t.evcWrap, net := t.net }) ∧
  (∀ (s t : State), exec .ipConflict s = .next t → s.sameBut [Hid.ipSrc, Hid.ipWait, Reg.MEM_ERR_MAC, Reg.NET_FDR_FDR_STATE, Reg.NET_FLAGS_FLAGS,
      Reg.NET_IP_ADDR_ADDR, Reg.NET_IP_GW_GW, Reg.NET_IP_MASK_MASK, Reg.NET_SC_STAT_WAIT, Reg.NET_STAT_IP_OK,
      Reg.NET_STAT_SC_STATE] t ∧ s.causesKept t ∧
    t = { s with regs := t.regs, free := t.free, intCause := t.intCause, evcs := t.evcs, evcWrap := t.evcWrap, net := t.net }) ∧
  (∀ (answered : Bool) (s t : State), exec (.staticReprobe answered) s = .next t → s.sameBut [Hid.ipSrc, Hid.ipWait, Reg.MEM_ERR_MAC,
      Reg.NET_FDR_FDR_STATE, Reg.NET_FLAGS_FLAGS, Reg.NET_IP_ADDR_ADDR, Reg.NET_IP_GW_GW, Reg.NET_IP_MASK_MASK, Reg.NET_SC_STAT_WAIT,
      Reg.NET_STAT_IP_OK, Reg.NET_STAT_SC_STATE] t ∧ s.causesKept t ∧
    t = { s with regs := t.regs, free := t.free, intCause := t.intCause, evcs := t.evcs, evcWrap := t.evcWrap, net := t.net }) ∧
  (∀ (failed : Bool) (s t : State), exec (.fdrTimer failed) s = .next t → s.sameBut [Reg.MEM_ERR_MAC, Reg.NET_FDR_FDR_STATE] t ∧ s.causesKept t ∧
    t = { s with regs := t.regs, free := t.free, intCause := t.intCause, evcs := t.evcs, evcWrap := t.evcWrap, net := t.net }) ∧
  (∀ (primary : ScTry) (failover : ScTry) (s t : State), exec (.scConnectAttempt primary failover) s = .next t → s.sameBut [Hid.scAlt,
      Hid.scBackoff, Reg.MEM_ERR_MAC, Reg.NET_FLAGS_FLAGS, Reg.NET_SC_STAT_ALERT, Reg.NET_SC_STAT_WAIT, Reg.NET_STAT_SC_STATE,
      Reg.NET_STAT_TIME_UNCHK] t ∧ s.causesKept t ∧
    t = { s with regs := t.regs, free := t.free, intCause := t.intCause, evcs := t.evcs, evcWrap := t.evcWrap, net := t.net }) ∧
  (∀ (s t : State), exec .scConnectionLost s = .next t → s.sameBut [Hid.scAlt, Reg.NET_SC_STAT_WAIT, Reg.NET_STAT_SC_STATE] t ∧ s.causesKept t ∧
    t = { s with regs := t.regs, free := t.free, intCause := t.intCause, evcs := t.evcs, evcWrap := t.evcWrap, net := t.net }) ∧
  (∀ (s t : State), exec .scHeartbeatDue s = .next t → s.sameBut [Reg.MEM_ERR_MAC] t ∧ s.causesKept t ∧
    t = { s with regs := t.regs, free := t.free, intCause := t.intCause, evcs := t.evcs, evcWrap := t.evcWrap, net := t.net }) ∧
  (∀ (random : Nat) (s t : State), exec (.scKeyGeneration random) s = .next t → s.sameBut [Hid.scAlt, Hid.scBackoff, Hid.scOn,
      Reg.NET_FLAGS_FLAGS, Reg.NET_SC_STAT_WAIT, Reg.NET_STAT_SC_STATE] t ∧ s.causesKept t ∧
    t = { s with regs := t.regs, free := t.free, intCause := t.intCause, evcs := t.evcs, evcWrap := t.evcWrap, otp := t.otp, net := t.net }) ∧
  (∀ (bus : Fin 2) (frame : MstpFrame) (s t : State), exec (.mstpFrame bus frame) s = .next t → s.sameBut [Reg.BUS_FLAGS_FLAGS,
      Reg.BUS_STAT_STATE, Reg.BUS_STAT_TOKEN_AGE, Reg.MEM_ERR_MAC] t ∧ s.causesKept t ∧
    t = { s with regs := t.regs, free := t.free, intCause := t.intCause, evcs := t.evcs, evcWrap := t.evcWrap, net := t.net }) ∧
  (∀ (bus : Fin 2) (addr : Fin 256) (start : Nat) (count : Nat) (s t : State),
      exec (.modbusReadHoldingRegisters bus addr start count) s = .next t → s.sameBut [Hid.dispUs, Hid.rtcHold, Hid.rtcLatD, Hid.rtcLatDOn,
      Hid.rtcLatS, Hid.rtcLatSOn, Hid.supAge, Reg.BUS_STAT_TOKEN_AGE, Reg.DISP_BAL_BAL, Reg.MEM_ERR_COACH, Reg.NET_SUP_LEFT_LEFT,
      Reg.PWR_STAT_NET_LOST, Reg.RTC_STAT_SHIFT_PEND, Reg.RTC_SUBSEC_SUBSEC, Reg.SUPV_CE_ADDR_COACH, Reg.SUPV_CE_ADDR_SYNDROME,
      Reg.SUPV_CE_ADDR_WORD, Reg.SUPV_DUE_ADDR_BY_SCRUB, Reg.SUPV_DUE_ADDR_COACH, Reg.SUPV_DUE_ADDR_WORD, Reg.SUPV_STAT_CE, Reg.SUPV_STAT_DUE,
      Reg.WHEEL_HI_TICK] t ∧ s.causesKept t ∧
    t = { s with regs := t.regs, free := t.free, intCause := t.intCause, evcs := t.evcs, evcWrap := t.evcWrap, upsets := t.upsets, net := t.net }) ∧
  (∀ (bus : Fin 2) (addr : Fin 256) (start : Nat) (count : Nat) (s t : State),
      exec (.modbusReadInputRegisters bus addr start count) s = .next t → s.sameBut [Hid.dispUs, Hid.rtcHold, Hid.rtcLatD, Hid.rtcLatDOn,
      Hid.rtcLatS, Hid.rtcLatSOn, Hid.supAge, Reg.BUS_STAT_TOKEN_AGE, Reg.DISP_BAL_BAL, Reg.MEM_ERR_COACH, Reg.NET_SUP_LEFT_LEFT,
      Reg.PWR_STAT_NET_LOST, Reg.RTC_STAT_SHIFT_PEND, Reg.RTC_SUBSEC_SUBSEC, Reg.SUPV_CE_ADDR_COACH, Reg.SUPV_CE_ADDR_SYNDROME,
      Reg.SUPV_CE_ADDR_WORD, Reg.SUPV_DUE_ADDR_BY_SCRUB, Reg.SUPV_DUE_ADDR_COACH, Reg.SUPV_DUE_ADDR_WORD, Reg.SUPV_STAT_CE, Reg.SUPV_STAT_DUE,
      Reg.WHEEL_HI_TICK] t ∧ s.causesKept t ∧
    t = { s with regs := t.regs, free := t.free, intCause := t.intCause, evcs := t.evcs, evcWrap := t.evcWrap, upsets := t.upsets, net := t.net }) ∧
  (∀ (bus : Fin 2) (addr : Fin 256) (reg : Nat) (value : Nat) (s t : State),
      exec (.modbusWriteSingleRegister bus addr reg value) s = .next t → s.sameBut [Hid.supAge, Hid.wakeSched, Reg.BUS_STAT_TOKEN_AGE,
      Reg.NET_SUP_LEFT_LEFT, Reg.PWR_STAT_NET_LOST, Reg.ZONE_FORCE_FORCE, Reg.ZONE_STATE_SET] t ∧ s.causesKept t ∧
    t = { s with
        regs := t.regs, free := t.free, intCause := t.intCause, evcs := t.evcs, evcWrap := t.evcWrap, upsets := t.upsets, avs := t.avs,
        net := t.net }) ∧
  (∀ (bus : Fin 2) (addr : Fin 256) (start : Nat) (values : List Nat) (s t : State),
      exec (.modbusWriteMultipleRegisters bus addr start values) s = .next t → s.sameBut ([Hid.supAge, Hid.wakeSched, Reg.BUS_STAT_TOKEN_AGE,
      Reg.NET_SUP_LEFT_LEFT, Reg.PWR_STAT_NET_LOST, Reg.ZONE_FORCE_FORCE, Reg.ZONE_STATE_SET] ++ (upTo 64).map Reg.coachW) t ∧ s.causesKept t ∧
    t = { s with
        regs := t.regs, free := t.free, intCause := t.intCause, evcs := t.evcs, evcWrap := t.evcWrap, upsets := t.upsets, avs := t.avs,
        net := t.net } ∧
    s.coachesBut ((upTo values.length).filterMap (fun k => mbHoldingCoach (start + k))) t) ∧
  (∀ (bus : Fin 2) (addr : Fin 256) (s t : State), exec (.modbusReadDeviceIdentification bus addr) s = .next t → s.sameBut [Hid.supAge,
      Reg.BUS_STAT_TOKEN_AGE, Reg.NET_SUP_LEFT_LEFT, Reg.PWR_STAT_NET_LOST] t ∧ s.causesKept t ∧
    t = { s with regs := t.regs, free := t.free, intCause := t.intCause, evcs := t.evcs, evcWrap := t.evcWrap, net := t.net }) ∧
  (∀ (bus : Fin 2) (addr : Fin 256) (function : Nat) (s t : State),
      exec (.modbusUnsupportedFunction bus addr function) s = .next t → s.sameBut [Hid.supAge, Reg.BUS_STAT_TOKEN_AGE, Reg.NET_SUP_LEFT_LEFT,
      Reg.PWR_STAT_NET_LOST] t ∧ s.causesKept t ∧
    t = { s with regs := t.regs, free := t.free, intCause := t.intCause, evcs := t.evcs, evcWrap := t.evcWrap, net := t.net }) ∧
  (∀ (bus : Fin 2) (entry : Fin 16) (s t : State), exec (.modbusClientPoll bus entry) s = .next t → s.sameBut [Hid.mbDue, Hid.mbTries,
      Hid.mbWait, Reg.BUS_STAT_STATE] t ∧ s.causesKept t ∧
    t = { s with regs := t.regs, free := t.free, intCause := t.intCause, evcs := t.evcs, evcWrap := t.evcWrap, net := t.net }) ∧
  (∀ (bus : Fin 2) (entry : Fin 16) (values : List Nat) (s t : State),
      exec (.modbusClientReply bus entry values) s = .next t → s.sameBut [Hid.mbFail, Hid.mbTries, Hid.mbWait, Reg.BUS_STAT_STATE,
      Reg.NET_MB_CLI_MB_FAIL] t ∧ s.causesKept t ∧
    t = { s with regs := t.regs, free := t.free, intCause := t.intCause, evcs := t.evcs, evcWrap := t.evcWrap, avs := t.avs, net := t.net }) ∧
  (∀ (bus : Fin 2) (entry : Fin 16) (s t : State), exec (.modbusClientTimeout bus entry) s = .next t → s.sameBut [Hid.mbFail, Hid.mbTries,
      Hid.mbWait, Reg.BUS_STAT_STATE, Reg.NET_MB_CLI_MB_FAIL] t ∧ s.causesKept t ∧
    t = { s with regs := t.regs, free := t.free, intCause := t.intCause, evcs := t.evcs, evcWrap := t.evcWrap, net := t.net }) ∧
  (∀ (sender : NetFrom) (refs : List BacRef) (s t : State), exec (.bacnetReadProperty sender refs) s = .next t → s.sameBut [Hid.aiRsn, Hid.aiVal,
      Hid.eee, Hid.ipSrc, Hid.ipWait, Hid.mbDue, Hid.mbFail, Hid.mbTries, Hid.mbWait, Hid.ruDue, Hid.ruWait, Hid.scAlt, Hid.scBackoff, Hid.scOn,
      Hid.supAge, Hid.vmac, Hid.wakeNet, Reg.BUS_STAT_STATE, Reg.BUS_STAT_TOKEN_AGE, Reg.MEM_ERR_COACH, Reg.MEM_ERR_MAC, Reg.MEM_ERR_PATCH,
      Reg.MEM_ERR_PP_RAM, Reg.NET_COV_ACTIVE, Reg.NET_FDR_FDR_STATE, Reg.NET_FLAGS_FLAGS, Reg.NET_IP_ADDR_ADDR, Reg.NET_IP_GW_GW,
      Reg.NET_IP_MASK_MASK, Reg.NET_MB_CLI_MB_FAIL, Reg.NET_PHY_SQI, Reg.NET_SC_STAT_ALERT, Reg.NET_SC_STAT_WAIT, Reg.NET_STAT_AMPL,
      Reg.NET_STAT_DCC, Reg.NET_STAT_IP_OK, Reg.NET_STAT_LINK, Reg.NET_STAT_PP_RUN, Reg.NET_STAT_SC_STATE, Reg.NET_STAT_TIME_UNCHK,
      Reg.NET_SUP_LEFT_LEFT, Reg.PWR_STAT_NET_LOST, Reg.SUPV_CE_ADDR_COACH, Reg.SUPV_CE_ADDR_SYNDROME, Reg.SUPV_CE_ADDR_WORD,
      Reg.SUPV_DUE_ADDR_BY_SCRUB, Reg.SUPV_DUE_ADDR_COACH, Reg.SUPV_DUE_ADDR_WORD, Reg.SUPV_STAT_CE, Reg.SUPV_STAT_DUE] t ∧ s.causesKept t ∧
    t = { s with
        regs := t.regs, free := t.free, intCause := t.intCause, evcs := t.evcs, evcWrap := t.evcWrap, upsets := t.upsets, avs := t.avs,
        hatch := t.hatch, net := t.net }) ∧
  (∀ (sender : NetFrom) (writes : List BacWrite) (s t : State), exec (.bacnetWriteProperty sender writes) s = .next t → s.sameBut ([Hid.aiRsn,
      Hid.aiVal, Hid.eee, Hid.ipSrc, Hid.ipWait, Hid.mbDue, Hid.mbFail, Hid.mbTries, Hid.mbWait, Hid.ruDue, Hid.ruWait, Hid.scAlt, Hid.scBackoff,
      Hid.scOn, Hid.supAge, Hid.svcDrop, Hid.vmac, Hid.wakeNet, Hid.wakeSched, Reg.BUS_STAT_STATE, Reg.BUS_STAT_TOKEN_AGE,
      Reg.COACH_CMD_STAT_COACH, Reg.COACH_CMD_STAT_RESULT, Reg.MEM_ERR_COACH, Reg.MEM_ERR_MAC, Reg.MEM_ERR_PATCH, Reg.MEM_ERR_PP_RAM,
      Reg.NET_COV_ACTIVE, Reg.NET_FDR_FDR_STATE, Reg.NET_FLAGS_FLAGS, Reg.NET_IP_ADDR_ADDR, Reg.NET_IP_GW_GW, Reg.NET_IP_MASK_MASK,
      Reg.NET_MB_CLI_MB_FAIL, Reg.NET_PHY_SQI, Reg.NET_SC_STAT_ALERT, Reg.NET_SC_STAT_WAIT, Reg.NET_STAT_AMPL, Reg.NET_STAT_DCC,
      Reg.NET_STAT_IP_OK, Reg.NET_STAT_LINK, Reg.NET_STAT_PP_RUN, Reg.NET_STAT_SC_STATE, Reg.NET_STAT_TIME_UNCHK, Reg.NET_SUP_LEFT_LEFT,
      Reg.PWR_STAT_NET_LOST, Reg.RGN_CTRL_STATE, Reg.RGN_RES_LEFT, Reg.RGN_RES_REASON, Reg.RGN_RES_RESULT, Reg.SUPV_CE_ADDR_COACH,
      Reg.SUPV_CE_ADDR_SYNDROME, Reg.SUPV_CE_ADDR_WORD, Reg.SUPV_DUE_ADDR_BY_SCRUB, Reg.SUPV_DUE_ADDR_COACH, Reg.SUPV_DUE_ADDR_WORD,
      Reg.SUPV_STAT_CE, Reg.SUPV_STAT_DUE, Reg.ZONE_FORCE_FORCE, Reg.ZONE_STATE_SET] ++ (upTo 64).map Reg.coachW) t ∧ s.causesKept t ∧
    t = { s with
        regs := t.regs, free := t.free, intCause := t.intCause, evcs := t.evcs, evcWrap := t.evcWrap, upsets := t.upsets, avs := t.avs,
        rgn := t.rgn, hatch := t.hatch, net := t.net } ∧
    s.coachesBut (loopWords writes) t) ∧
  (∀ (sender : NetFrom) (req : CovReq) (s t : State), exec (.bacnetSubscribeCov sender req) s = .next t → s.sameBut [Hid.aiRsn, Hid.aiVal,
      Hid.eee, Hid.ipSrc, Hid.ipWait, Hid.mbDue, Hid.mbFail, Hid.mbTries, Hid.mbWait, Hid.ruDue, Hid.ruWait, Hid.scAlt, Hid.scBackoff, Hid.scOn,
      Hid.supAge, Hid.vmac, Hid.wakeNet, Reg.BUS_STAT_STATE, Reg.BUS_STAT_TOKEN_AGE, Reg.MEM_ERR_COACH, Reg.MEM_ERR_MAC, Reg.MEM_ERR_PATCH,
      Reg.MEM_ERR_PP_RAM, Reg.NET_COV_ACTIVE, Reg.NET_FDR_FDR_STATE, Reg.NET_FLAGS_FLAGS, Reg.NET_IP_ADDR_ADDR, Reg.NET_IP_GW_GW,
      Reg.NET_IP_MASK_MASK, Reg.NET_MB_CLI_MB_FAIL, Reg.NET_PHY_SQI, Reg.NET_SC_STAT_ALERT, Reg.NET_SC_STAT_WAIT, Reg.NET_STAT_AMPL,
      Reg.NET_STAT_DCC, Reg.NET_STAT_IP_OK, Reg.NET_STAT_LINK, Reg.NET_STAT_PP_RUN, Reg.NET_STAT_SC_STATE, Reg.NET_STAT_TIME_UNCHK,
      Reg.NET_SUP_LEFT_LEFT, Reg.PWR_STAT_NET_LOST, Reg.SUPV_CE_ADDR_COACH, Reg.SUPV_CE_ADDR_SYNDROME, Reg.SUPV_CE_ADDR_WORD,
      Reg.SUPV_DUE_ADDR_BY_SCRUB, Reg.SUPV_DUE_ADDR_COACH, Reg.SUPV_DUE_ADDR_WORD, Reg.SUPV_STAT_CE, Reg.SUPV_STAT_DUE] t ∧ s.causesKept t ∧
    t = { s with
        regs := t.regs, free := t.free, intCause := t.intCause, evcs := t.evcs, evcWrap := t.evcWrap, upsets := t.upsets, avs := t.avs,
        hatch := t.hatch, net := t.net }) ∧
  (∀ (sender : NetFrom) (obj : BacObj) (dest : EventTo) (s t : State),
      exec (.bacnetAcknowledgeAlarm sender obj dest) s = .next t → s.sameBut [Hid.aiRsn, Hid.aiVal, Hid.eee, Hid.ipSrc, Hid.ipWait, Hid.mbDue,
      Hid.mbFail, Hid.mbTries, Hid.mbWait, Hid.ruDue, Hid.ruWait, Hid.scAlt, Hid.scBackoff, Hid.scOn, Hid.supAge, Hid.vmac, Hid.wakeNet,
      Reg.BUS_STAT_STATE, Reg.BUS_STAT_TOKEN_AGE, Reg.MEM_ERR_MAC, Reg.MEM_ERR_PATCH, Reg.MEM_ERR_PP_RAM, Reg.NET_COV_ACTIVE,
      Reg.NET_FDR_FDR_STATE, Reg.NET_FLAGS_FLAGS, Reg.NET_IP_ADDR_ADDR, Reg.NET_IP_GW_GW, Reg.NET_IP_MASK_MASK, Reg.NET_MB_CLI_MB_FAIL,
      Reg.NET_PHY_SQI, Reg.NET_SC_STAT_ALERT, Reg.NET_SC_STAT_WAIT, Reg.NET_STAT_AMPL, Reg.NET_STAT_DCC, Reg.NET_STAT_IP_OK, Reg.NET_STAT_LINK,
      Reg.NET_STAT_PP_RUN, Reg.NET_STAT_SC_STATE, Reg.NET_STAT_TIME_UNCHK, Reg.NET_SUP_LEFT_LEFT, Reg.PWR_STAT_NET_LOST] t ∧ s.causesKept t ∧
    t = { s with
        regs := t.regs, free := t.free, intCause := t.intCause, evcs := t.evcs, evcWrap := t.evcWrap, avs := t.avs, hatch := t.hatch,
        net := t.net }) ∧
  (∀ (sender : NetFrom) (s t : State), exec (.bacnetGetEventInformation sender) s = .next t → s.sameBut [Hid.aiRsn, Hid.aiVal, Hid.eee,
      Hid.ipSrc, Hid.ipWait, Hid.mbDue, Hid.mbFail, Hid.mbTries, Hid.mbWait, Hid.ruDue, Hid.ruWait, Hid.scAlt, Hid.scBackoff, Hid.scOn,
      Hid.supAge, Hid.vmac, Hid.wakeNet, Reg.BUS_STAT_STATE, Reg.BUS_STAT_TOKEN_AGE, Reg.MEM_ERR_MAC, Reg.MEM_ERR_PATCH, Reg.MEM_ERR_PP_RAM,
      Reg.NET_COV_ACTIVE, Reg.NET_FDR_FDR_STATE, Reg.NET_FLAGS_FLAGS, Reg.NET_IP_ADDR_ADDR, Reg.NET_IP_GW_GW, Reg.NET_IP_MASK_MASK,
      Reg.NET_MB_CLI_MB_FAIL, Reg.NET_PHY_SQI, Reg.NET_SC_STAT_ALERT, Reg.NET_SC_STAT_WAIT, Reg.NET_STAT_AMPL, Reg.NET_STAT_DCC,
      Reg.NET_STAT_IP_OK, Reg.NET_STAT_LINK, Reg.NET_STAT_PP_RUN, Reg.NET_STAT_SC_STATE, Reg.NET_STAT_TIME_UNCHK, Reg.NET_SUP_LEFT_LEFT,
      Reg.PWR_STAT_NET_LOST] t ∧ s.causesKept t ∧
    t = { s with
        regs := t.regs, free := t.free, intCause := t.intCause, evcs := t.evcs, evcWrap := t.evcWrap, avs := t.avs, hatch := t.hatch,
        net := t.net }) ∧
  (∀ (sender : NetFrom) (log : Fin 8) (first : Nat) (count : Nat) (s t : State),
      exec (.bacnetReadRange sender log first count) s = .next t → s.sameBut [Hid.aiRsn, Hid.aiVal, Hid.eee, Hid.ipSrc, Hid.ipWait, Hid.mbDue,
      Hid.mbFail, Hid.mbTries, Hid.mbWait, Hid.ruDue, Hid.ruWait, Hid.scAlt, Hid.scBackoff, Hid.scOn, Hid.supAge, Hid.vmac, Hid.wakeNet,
      Reg.BUS_STAT_STATE, Reg.BUS_STAT_TOKEN_AGE, Reg.MEM_ERR_MAC, Reg.MEM_ERR_PATCH, Reg.MEM_ERR_PP_RAM, Reg.NET_COV_ACTIVE,
      Reg.NET_FDR_FDR_STATE, Reg.NET_FLAGS_FLAGS, Reg.NET_IP_ADDR_ADDR, Reg.NET_IP_GW_GW, Reg.NET_IP_MASK_MASK, Reg.NET_MB_CLI_MB_FAIL,
      Reg.NET_PHY_SQI, Reg.NET_SC_STAT_ALERT, Reg.NET_SC_STAT_WAIT, Reg.NET_STAT_AMPL, Reg.NET_STAT_DCC, Reg.NET_STAT_IP_OK, Reg.NET_STAT_LINK,
      Reg.NET_STAT_PP_RUN, Reg.NET_STAT_SC_STATE, Reg.NET_STAT_TIME_UNCHK, Reg.NET_SUP_LEFT_LEFT, Reg.PWR_STAT_NET_LOST] t ∧ s.causesKept t ∧
    t = { s with
        regs := t.regs, free := t.free, intCause := t.intCause, evcs := t.evcs, evcWrap := t.evcWrap, avs := t.avs, hatch := t.hatch,
        net := t.net }) ∧
  (∀ (sender : NetFrom) (asked : WhoReq) (s t : State),
      exec (.bacnetWhoIs sender asked) s = .next t → s.sameBut [Reg.MEM_ERR_MAC] t ∧ s.causesKept t ∧
    t = { s with regs := t.regs, free := t.free, intCause := t.intCause, evcs := t.evcs, evcWrap := t.evcWrap, net := t.net }) ∧
  (∀ (utc : Bool) (time : SyncTime) (s t : State), exec (.timeSynchronization utc time) s = .next t → s.sameBut [Hid.rtcHold, Hid.rtcPend,
      Hid.rtcPendD, Hid.rtcPendT, Hid.rtcShPend, Hid.rtcShift, Reg.NET_FLAGS_FLAGS, Reg.RTC_DATE_WDAY, Reg.RTC_STAT_SHIFT_PEND,
      Reg.RTC_SUBSEC_SUBSEC] t ∧ s.causesKept t ∧
    t = { s with regs := t.regs, free := t.free, intCause := t.intCause, evcs := t.evcs, evcWrap := t.evcWrap, net := t.net }) ∧
  (∀ (sender : NetFrom) (mode : Fin 3) (timed : Bool) (password : List Nat) (s t : State),
      exec (.deviceCommunicationControl sender mode timed password) s = .next t → s.sameBut [Hid.aiRsn, Hid.aiVal, Hid.dccTimed, Hid.eee,
      Hid.ipSrc, Hid.ipWait, Hid.mbDue, Hid.mbFail, Hid.mbTries, Hid.mbWait, Hid.ruDue, Hid.ruWait, Hid.scAlt, Hid.scBackoff, Hid.scOn,
      Hid.supAge, Hid.vmac, Hid.wakeNet, Reg.BUS_STAT_STATE, Reg.BUS_STAT_TOKEN_AGE, Reg.MEM_ERR_MAC, Reg.MEM_ERR_PATCH, Reg.MEM_ERR_PP_RAM,
      Reg.NET_COV_ACTIVE, Reg.NET_FDR_FDR_STATE, Reg.NET_FLAGS_FLAGS, Reg.NET_IP_ADDR_ADDR, Reg.NET_IP_GW_GW, Reg.NET_IP_MASK_MASK,
      Reg.NET_MB_CLI_MB_FAIL, Reg.NET_PHY_SQI, Reg.NET_SC_STAT_ALERT, Reg.NET_SC_STAT_WAIT, Reg.NET_STAT_AMPL, Reg.NET_STAT_DCC,
      Reg.NET_STAT_IP_OK, Reg.NET_STAT_LINK, Reg.NET_STAT_PP_RUN, Reg.NET_STAT_SC_STATE, Reg.NET_STAT_TIME_UNCHK, Reg.NET_SUP_LEFT_LEFT,
      Reg.PWR_STAT_NET_LOST] t ∧ s.causesKept t ∧
    t = { s with
        regs := t.regs, free := t.free, intCause := t.intCause, evcs := t.evcs, evcWrap := t.evcWrap, avs := t.avs, hatch := t.hatch,
        net := t.net }) ∧
  (∀ (sender : NetFrom) (file : Nat) (start : Int) (data : List Nat) (s t : State),
      exec (.atomicWriteFile sender file start data) s = .next t → s.sameBut ([Hid.aiRsn, Hid.aiVal, Hid.eee, Hid.ipSrc, Hid.ipWait, Hid.mbDue,
      Hid.mbFail, Hid.mbTries, Hid.mbWait, Hid.ruDue, Hid.ruWait, Hid.scAlt, Hid.scBackoff, Hid.scOn, Hid.stage, Hid.supAge, Hid.svcDrop,
      Hid.vmac, Hid.wakeNet, Reg.BUS_STAT_STATE, Reg.BUS_STAT_TOKEN_AGE, Reg.MEM_ERR_MAC, Reg.MEM_ERR_PATCH, Reg.MEM_ERR_PP_RAM,
      Reg.NET_COV_ACTIVE, Reg.NET_FDR_FDR_STATE, Reg.NET_FLAGS_FLAGS, Reg.NET_IP_ADDR_ADDR, Reg.NET_IP_GW_GW, Reg.NET_IP_MASK_MASK,
      Reg.NET_MB_CLI_MB_FAIL, Reg.NET_PHY_SQI, Reg.NET_SC_STAT_ALERT, Reg.NET_SC_STAT_WAIT, Reg.NET_STAT_AMPL, Reg.NET_STAT_DCC,
      Reg.NET_STAT_IP_OK, Reg.NET_STAT_LINK, Reg.NET_STAT_PP_RUN, Reg.NET_STAT_SC_STATE, Reg.NET_STAT_TIME_UNCHK, Reg.NET_SUP_LEFT_LEFT,
      Reg.PWR_STAT_NET_LOST, Reg.RGN_CTRL_SRC, Reg.RGN_CTRL_STATE, Reg.RGN_CTRL_TYPE, Reg.RGN_RES_LEFT, Reg.RGN_RES_REASON,
      Reg.RGN_RES_RESULT] ++ (upTo 64).map Reg.coachW) t ∧ s.causesKept t ∧
    t = { s with
        regs := t.regs, free := t.free, intCause := t.intCause, evcs := t.evcs, evcWrap := t.evcWrap, upsets := t.upsets, avs := t.avs,
        rgn := t.rgn, hatch := t.hatch, net := t.net } ∧
    s.coachesBut (s.rgn.coaches.map (fun p => (p.1, 44))) t ∧
    s.stageBut (start.toNat / 4) (data.length / 4) t) ∧
  (∀ (sender : NetFrom) (s t : State), exec (.bacnetUnrecognizedService sender) s = .next t → s.sameBut [Hid.aiRsn, Hid.aiVal, Hid.eee,
      Hid.ipSrc, Hid.ipWait, Hid.mbDue, Hid.mbFail, Hid.mbTries, Hid.mbWait, Hid.ruDue, Hid.ruWait, Hid.scAlt, Hid.scBackoff, Hid.scOn,
      Hid.supAge, Hid.vmac, Hid.wakeNet, Reg.BUS_STAT_STATE, Reg.BUS_STAT_TOKEN_AGE, Reg.MEM_ERR_MAC, Reg.MEM_ERR_PATCH, Reg.MEM_ERR_PP_RAM,
      Reg.NET_COV_ACTIVE, Reg.NET_FDR_FDR_STATE, Reg.NET_FLAGS_FLAGS, Reg.NET_IP_ADDR_ADDR, Reg.NET_IP_GW_GW, Reg.NET_IP_MASK_MASK,
      Reg.NET_MB_CLI_MB_FAIL, Reg.NET_PHY_SQI, Reg.NET_SC_STAT_ALERT, Reg.NET_SC_STAT_WAIT, Reg.NET_STAT_AMPL, Reg.NET_STAT_DCC,
      Reg.NET_STAT_IP_OK, Reg.NET_STAT_LINK, Reg.NET_STAT_PP_RUN, Reg.NET_STAT_SC_STATE, Reg.NET_STAT_TIME_UNCHK, Reg.NET_SUP_LEFT_LEFT,
      Reg.PWR_STAT_NET_LOST] t ∧ s.causesKept t ∧
    t = { s with
        regs := t.regs, free := t.free, intCause := t.intCause, evcs := t.evcs, evcWrap := t.evcWrap, avs := t.avs, hatch := t.hatch,
        net := t.net }) ∧
  (∀ (s t : State), exec .netSupervisionExpiry s = .next t → s.sameBut [Reg.NET_SUP_LEFT_LEFT, Reg.PWR_STAT_NET_LOST] t ∧ s.causesKept t ∧
    t = { s with regs := t.regs, free := t.free, intCause := t.intCause, evcs := t.evcs, evcWrap := t.evcWrap }) ∧
  (∀ (log : Fin 8) (s t : State), exec (.trendLogInterval log) s = .next t → s.sameBut [Hid.trendDue, Reg.MEM_ERR_COACH, Reg.MEM_ERR_MAC,
      Reg.SUPV_CE_ADDR_COACH, Reg.SUPV_CE_ADDR_SYNDROME, Reg.SUPV_CE_ADDR_WORD, Reg.SUPV_DUE_ADDR_BY_SCRUB, Reg.SUPV_DUE_ADDR_COACH,
      Reg.SUPV_DUE_ADDR_WORD, Reg.SUPV_STAT_CE, Reg.SUPV_STAT_DUE] t ∧ s.causesKept t ∧
    t = { s with regs := t.regs, free := t.free, intCause := t.intCause, evcs := t.evcs, evcWrap := t.evcWrap, upsets := t.upsets, net := t.net }) ∧
  (∀ (who : Nat) (ref : BacRef) (s t : State),
      exec (.covSubscriptionExpiry who ref) s = .next t → s.sameBut [Reg.NET_COV_ACTIVE] t ∧ s.causesKept t ∧
    t = { s with regs := t.regs, free := t.free, intCause := t.intCause, evcs := t.evcs, evcWrap := t.evcWrap, net := t.net }) ∧
  (∀ (s t : State), exec .dccDurationExpiry s = .next t → s.sameBut [Hid.dccTimed, Reg.NET_STAT_DCC] t ∧ s.causesKept t ∧
    t = { s with regs := t.regs, free := t.free, intCause := t.intCause, evcs := t.evcs, evcWrap := t.evcWrap, net := t.net }) ∧
  (∀ (obj : BacObj) (dest : EventTo) (s t : State), exec (.eventTimeDelayExpiry obj dest) s = .next t → s.sameBut [Reg.MEM_ERR_COACH,
      Reg.MEM_ERR_MAC, Reg.SUPV_CE_ADDR_COACH, Reg.SUPV_CE_ADDR_SYNDROME, Reg.SUPV_CE_ADDR_WORD, Reg.SUPV_DUE_ADDR_BY_SCRUB,
      Reg.SUPV_DUE_ADDR_COACH, Reg.SUPV_DUE_ADDR_WORD, Reg.SUPV_STAT_CE, Reg.SUPV_STAT_DUE] t ∧ s.causesKept t ∧
    t = { s with regs := t.regs, free := t.free, intCause := t.intCause, evcs := t.evcs, evcWrap := t.evcWrap, upsets := t.upsets, net := t.net }) ∧
  (∀ (bus : Fin 2) (s t : State), exec (.mstpNoToken bus) s = .next t → s.sameBut [Reg.BUS_FLAGS_FLAGS, Reg.BUS_STAT_STATE] t ∧ s.causesKept t ∧
    t = { s with regs := t.regs, free := t.free, intCause := t.intCause, evcs := t.evcs, evcWrap := t.evcWrap, net := t.net })

/-- For each command named: when it answers a next state, every register field outside the listed ones reads as before, no cause of
INT_CAUSE is lost, and every component of the machine outside the named ones (the queue, attached memory, OTP and the others) is the
same. Where coach words, flash or the staging buffer may change, a clause names the coach, the words or the bytes. IZ_CMD_RESET is
framed for the fields outside class V, and loses the causes; IZ30_WRITE_TRANSACTION where no byte is 0xA5. (Rests on R421, R426,
R439, R444, R452, R456) -/
def Obligations.PanelAndPortFrames : Prop :=
  (∀ (us : Nat) (sources : List Nat) (gates : List Nat) (bad : List Nat) (s t : State),
      exec (.panelLineSlot us sources gates bad) s = .next t → s.sameBut [Hid.dispHold, Hid.dispPage, Hid.dispRb, Hid.dispTick, Hid.dispUs,
      Reg.DISP_BAL_BAL, Reg.DISP_FLAGS_RB_GATE, Reg.DISP_FLAGS_RB_SRC, Reg.DISP_RB_LOG_OUT, Reg.DISP_RB_LOG_ROW, Reg.DISP_STAT_SLOT,
      Reg.MEM_ERR_FB] t ∧ s.causesKept t ∧
    t = { s with regs := t.regs, free := t.free, intCause := t.intCause, evcs := t.evcs, evcWrap := t.evcWrap, fbBad := t.fbBad }) ∧
  (∀ (us : Nat) (s t : State), exec (.panelFrameEnd us) s = .next t → s.sameBut [Hid.compTick, Hid.compWait, Hid.dispDrew, Hid.dispFrames,
      Hid.dispHold, Hid.dispLines, Hid.dispRb, Hid.dispRefresh, Hid.dispTick, Hid.dispUs, Reg.ARB_FLAGS_ORDER, Reg.ARB_ORDER_LOG_ASKED,
      Reg.ARB_ORDER_LOG_HELD, Reg.ARB_ORDER_LOG_REQ, Reg.DISP_BAL_BAL, Reg.DISP_FRAMES_COUNT, Reg.DISP_STAT_BAND, Reg.DISP_STAT_POL,
      Reg.DISP_STAT_SLOT, Reg.DISP_STAT_STATE, Reg.MEM_ERR_COACH, Reg.SUPV_CE_ADDR_COACH, Reg.SUPV_CE_ADDR_SYNDROME, Reg.SUPV_CE_ADDR_WORD,
      Reg.SUPV_DUE_ADDR_BY_SCRUB, Reg.SUPV_DUE_ADDR_COACH, Reg.SUPV_DUE_ADDR_WORD, Reg.SUPV_STAT_CE, Reg.SUPV_STAT_DUE] t ∧ s.causesKept t ∧
    t = { s with
        regs := t.regs, free := t.free, intCause := t.intCause, evcs := t.evcs, evcWrap := t.evcWrap, upsets := t.upsets, arb := t.arb,
        held := t.held }) ∧
  (∀ (item : Nat) (bad : Bool) (s t : State), exec (.composerFieldRedraw item bad) s = .next t → s.sameBut [Hid.compWait, Reg.DISP_FB_PIX,
      Reg.MEM_ERR_COMPOSER] t ∧ s.causesKept t ∧
    t = { s with
        regs := t.regs, free := t.free, intCause := t.intCause, evcs := t.evcs, evcWrap := t.evcWrap, drawn := t.drawn, held := t.held,
        fbBad := t.fbBad, compBad := t.compBad }) ∧
  (∀ (badItems : List Nat) (s t : State), exec (.composerPageDraw badItems) s = .next t → s.sameBut [Hid.compTick, Hid.compWait, Hid.dispDrew,
      Hid.dispPage, Reg.ARB_FLAGS_ORDER, Reg.ARB_ORDER_LOG_ASKED, Reg.ARB_ORDER_LOG_HELD, Reg.ARB_ORDER_LOG_REQ, Reg.DISP_FB_PIX,
      Reg.MEM_ERR_COACH, Reg.MEM_ERR_COMPOSER, Reg.SUPV_CE_ADDR_COACH, Reg.SUPV_CE_ADDR_SYNDROME, Reg.SUPV_CE_ADDR_WORD,
      Reg.SUPV_DUE_ADDR_BY_SCRUB, Reg.SUPV_DUE_ADDR_COACH, Reg.SUPV_DUE_ADDR_WORD, Reg.SUPV_STAT_CE, Reg.SUPV_STAT_DUE] t ∧ s.causesKept t ∧
    t = { s with
        regs := t.regs, free := t.free, intCause := t.intCause, evcs := t.evcs, evcWrap := t.evcWrap, upsets := t.upsets, arb := t.arb,
        drawn := t.drawn, held := t.held, fbBad := t.fbBad, compBad := t.compBad }) ∧
  (∀ (supply : Fin 4) (s t : State), exec (.panelSupplyGood supply) s = .next t → s.sameBut [Reg.DISP_STAT_STATE,
      Reg.DISP_STAT_SUP_OK] t ∧ s.causesKept t ∧
    t = { s with regs := t.regs, free := t.free, intCause := t.intCause, evcs := t.evcs, evcWrap := t.evcWrap }) ∧
  (∀ (s t : State), exec .panelStart s = .next t → s.sameBut [Hid.compTick, Hid.compWait, Hid.dispDrew, Hid.dispFrames, Hid.dispHold,
      Hid.dispLines, Hid.dispRb, Hid.dispRefresh, Hid.dispTick, Hid.dispUs, Reg.ARB_FLAGS_ORDER, Reg.ARB_ORDER_LOG_ASKED, Reg.ARB_ORDER_LOG_HELD,
      Reg.ARB_ORDER_LOG_REQ, Reg.DISP_FRAMES_COUNT, Reg.DISP_STAT_BAND, Reg.DISP_STAT_POL, Reg.DISP_STAT_SLOT, Reg.DISP_STAT_STATE,
      Reg.MEM_ERR_COACH, Reg.SUPV_CE_ADDR_COACH, Reg.SUPV_CE_ADDR_SYNDROME, Reg.SUPV_CE_ADDR_WORD, Reg.SUPV_DUE_ADDR_BY_SCRUB,
      Reg.SUPV_DUE_ADDR_COACH, Reg.SUPV_DUE_ADDR_WORD, Reg.SUPV_STAT_CE, Reg.SUPV_STAT_DUE] t ∧ s.causesKept t ∧
    t = { s with
        regs := t.regs, free := t.free, intCause := t.intCause, evcs := t.evcs, evcWrap := t.evcWrap, upsets := t.upsets, arb := t.arb,
        held := t.held }) ∧
  (∀ (supply : Fin 4) (s t : State), exec (.panelSupplyFault supply) s = .next t → s.sameBut [Hid.dispHold, Hid.dispRb, Hid.dispUs, Hid.panelDis,
      Reg.DISP_BAL_BAL, Reg.DISP_FLAGS_SUP_FAULT, Reg.DISP_STAT_SLOT, Reg.DISP_STAT_STATE, Reg.DISP_STAT_SUP_OK] t ∧ s.causesKept t ∧
    t = { s with regs := t.regs, free := t.free, intCause := t.intCause, evcs := t.evcs, evcWrap := t.evcWrap }) ∧
  (∀ (s t : State), exec .panelDischargeDone s = .next t → s.sameBut [Hid.panelDis, Reg.DISP_BAL_BAL, Reg.DISP_FLAGS_DISCHG_DONE,
      Reg.DISP_STAT_STATE] t ∧ s.causesKept t ∧
    t = { s with regs := t.regs, free := t.free, intCause := t.intCause, evcs := t.evcs, evcWrap := t.evcWrap }) ∧
  (∀ (bytes : List Nat) (s t : State), exec (.iz30WriteTransaction bytes) s = .next t → (∀ b ∈ bytes, b % 256 ≠ 0xA5) →
    s.sameBut ([Hid.izHeld, Hid.izI, Hid.izNew, Hid.izPtr, Hid.izScan, Hid.izV, Hid.vlvBandNow, Hid.vlvGrid, Hid.vlvHsTest, Hid.vlvOcAt,
      Hid.vlvOcWait, Hid.vlvOrg, Hid.vlvOrgKind, Hid.vlvTest, Reg.FANT_CTRL_INV, Reg.FANT_CTRL_OD, Reg.FANT_CTRL_TACH_EN, Reg.RGN_CTRL_STATE,
      Reg.RGN_RES_LEFT, Reg.RGN_RES_REASON, Reg.RGN_RES_RESULT, Reg.UI_CFG_MODE, Reg.UI_FILT_IIR_SHIFT, Reg.UI_FILT_OSR, Reg.UI_STAT_RELOAD,
      Reg.UI_STAT_SETTLE_LEFT, Reg.VLV_CFG_DIAG_OFF, Reg.VLV_CFG_HS_USE, Reg.VLV_CFG_MODE, Reg.VLV_DIAG_CAUSE, Reg.VLV_DIAG_OFF_RES,
      Reg.VLV_HOLD_I_HOLD, Reg.VLV_HOLD_I_HOLD_MIN, Reg.VLV_HS_BLOCKED, Reg.VLV_MEAS_CURRENT, Reg.VLV_MEAS_DUTY, Reg.VLV_PEAK0_I_PEAK,
      Reg.VLV_PEAK0_T_PEAK, Reg.VLV_PEAK1_I_PEAK, Reg.VLV_PEAK1_T_PEAK, Reg.VLV_PEAK2_I_PEAK, Reg.VLV_PEAK2_T_PEAK, Reg.VLV_STATE_BAND,
      Reg.VLV_STATE_STATE, Reg.VLV_THERM_V_RATED] ++ vlvSettings) t ∧ s.causesKept t ∧
    t = { s with regs := t.regs, free := t.free, intCause := t.intCause, evcs := t.evcs, evcWrap := t.evcWrap, rgn := t.rgn, sent := t.sent }) ∧
  (∀ (count : Nat) (s t : State), exec (.iz30ReadTransaction count) s = .next t → s.sameBut [Hid.izAdcLat, Hid.izLat, Hid.izNew, Hid.izPtr,
      Hid.izV] t ∧ s.causesKept t ∧
    t = { s with regs := t.regs, free := t.free, intCause := t.intCause, evcs := t.evcs, evcWrap := t.evcWrap, sent := t.sent }) ∧
  (∀ (reg : Fin 256) (s t : State), exec (.izPairHighRead reg) s = .next t → s.sameBut [Hid.izLat, Hid.izPtr] t ∧ s.causesKept t ∧
    t = { s with regs := t.regs, free := t.free, intCause := t.intCause, evcs := t.evcs, evcWrap := t.evcWrap, sent := t.sent }) ∧
  (∀ (reg : Fin 256) (value : Nat) (s t : State), exec (.izPairLowWrite reg value) s = .next t → s.sameBut ([Hid.izHeld, Hid.izI, Hid.izPtr,
      Hid.vlvBandNow, Hid.vlvGrid, Hid.vlvHsTest, Hid.vlvOcWait, Hid.vlvOrg, Hid.vlvOrgKind, Hid.vlvTest, Reg.FANT_CTRL_INV, Reg.FANT_CTRL_OD,
      Reg.FANT_CTRL_TACH_EN, Reg.RGN_CTRL_STATE, Reg.RGN_RES_LEFT, Reg.RGN_RES_REASON, Reg.RGN_RES_RESULT, Reg.UI_CFG_MODE,
      Reg.UI_FILT_IIR_SHIFT, Reg.UI_FILT_OSR, Reg.UI_STAT_RELOAD, Reg.UI_STAT_SETTLE_LEFT, Reg.VLV_CFG_DIAG_OFF, Reg.VLV_CFG_HS_USE,
      Reg.VLV_CFG_MODE, Reg.VLV_DIAG_OFF_RES, Reg.VLV_HOLD_I_HOLD, Reg.VLV_HOLD_I_HOLD_MIN, Reg.VLV_MEAS_CURRENT, Reg.VLV_MEAS_DUTY,
      Reg.VLV_PEAK0_I_PEAK, Reg.VLV_PEAK0_T_PEAK, Reg.VLV_PEAK1_I_PEAK, Reg.VLV_PEAK1_T_PEAK, Reg.VLV_PEAK2_I_PEAK, Reg.VLV_PEAK2_T_PEAK,
      Reg.VLV_STATE_BAND, Reg.VLV_STATE_STATE, Reg.VLV_THERM_V_RATED] ++ vlvSettings) t ∧ s.causesKept t ∧
    t = { s with regs := t.regs, free := t.free, intCause := t.intCause, evcs := t.evcs, evcWrap := t.evcWrap, rgn := t.rgn, sent := t.sent }) ∧
  (∀ (s t : State), exec .izCmdReset s = .next t → s.sameWhere (fun f => f.cls != .V)
      ([Hid.aiRsn, Hid.aiVal, Hid.calTick, Hid.dispPage, Hid.eee, Hid.ipSrc, Hid.ipWait, Hid.izPtr, Hid.izReload, Hid.izV, Hid.mbDue, Hid.mbFail,
      Hid.mbTries, Hid.mbWait, Hid.occLast, Hid.ruDue, Hid.ruWait, Hid.scAlt, Hid.scBackoff, Hid.scOn, Hid.softHold, Hid.supAge, Hid.vmac,
      Hid.wakeOcc, Reg.BUS_STAT_STATE, Reg.BUS_STAT_TOKEN_AGE, Reg.CAL_STAT_NO_RELIEF, Reg.CAL_STAT_UNSERVED, Reg.CAL_TRIM_HI_TAPS,
      Reg.CAL_TRIM_LO_TAPS, Reg.HOST_HB_CFG_LEFT, Reg.NET_COV_ACTIVE, Reg.NET_FDR_FDR_STATE, Reg.NET_FLAGS_FLAGS, Reg.NET_IP_ADDR_ADDR,
      Reg.NET_IP_GW_GW, Reg.NET_IP_MASK_MASK, Reg.NET_MB_CLI_MB_FAIL, Reg.NET_PHY_SQI, Reg.NET_SC_STAT_ALERT, Reg.NET_SC_STAT_WAIT,
      Reg.NET_STAT_AMPL, Reg.NET_STAT_DCC, Reg.NET_STAT_IP_OK, Reg.NET_STAT_LINK, Reg.NET_STAT_PP_RUN, Reg.NET_STAT_SC_STATE,
      Reg.NET_STAT_TIME_UNCHK, Reg.NET_SUP_LEFT_LEFT, Reg.OCC_STAT_CH_OCC, Reg.OCC_ZONE_OCC, Reg.RST_CAUSE_LAST_SOFT, Reg.RST_CAUSE_SOFT_CNT,
      Reg.SUPV_LANE_SWAP_BUSY, Reg.SUPV_WDT_REMAIN, Reg.TS_STATE_FAST, Reg.UI_GAIN_GAIN,
      Reg.UI_OFFSET_OFFSET] ++ (upTo 64).map Reg.coachW) t ∧ t = { s with
          regs := t.regs, free := t.free, intCause := t.intCause, evcs := t.evcs,
          evcWrap := t.evcWrap, evcStamp := t.evcStamp, due := t.due, upsets := t.upsets, xchks := t.xchks, arb := t.arb, convs := t.convs,
          cals := t.cals, relief := t.relief, urgMore := t.urgMore, pulses := t.pulses, snsTx := t.snsTx, otp := t.otp, avs := t.avs,
          flash := t.flash, eeprom := t.eeprom, rgn := t.rgn, hatch := t.hatch, sent := t.sent, net := t.net, drawn := t.drawn, held := t.held,
          fbBad := t.fbBad } ∧
    memoryBut s.flash t.flash [s.hatchSpan, s.persistSpan] ∧
    memoryBut s.eeprom t.eeprom [s.hatchSpan] ∧
    (s.hatch.op = 0 → t.eeprom = s.eeprom) ∧
    (s.hatch.op = 0 → s.rd Reg.IMG_PERSIST_STATE = 0 → t.flash = s.flash) ∧
    (s.rd Hid.otpOp = 0 → t.otp = s.otp) ∧
    s.coachesBut (s.rgn.coaches.map (fun p => (p.1, 44))) t) ∧
  (∀ (s t : State), exec .izCmdSave s = .next t → s.sameBut [Hid.izPtr] t ∧ s.causesKept t ∧
    t = { s with regs := t.regs, free := t.free, intCause := t.intCause, evcs := t.evcs, evcWrap := t.evcWrap, sent := t.sent }) ∧
  (∀ (acks : EepAcks) (placed : List (Nat × Nat)) (s t : State), exec (.iz30ReloadDone acks placed) s = .next t → s.sameBut ([Hid.izH, Hid.izI,
      Hid.izReload, Hid.izV, Hid.vlvBandNow, Hid.vlvGrid, Hid.vlvHsTest, Hid.vlvOcWait, Hid.vlvOrg, Hid.vlvOrgKind, Hid.vlvTest,
      Reg.BOOT_REJ_INDEX, Reg.BOOT_REJ_REASON, Reg.BOOT_REJ_TYPE, Reg.FANT_CTRL_INV, Reg.FANT_CTRL_OD, Reg.FANT_CTRL_TACH_EN, Reg.RGN_CTRL_STATE,
      Reg.RGN_RES_LEFT, Reg.RGN_RES_REASON, Reg.RGN_RES_RESULT, Reg.UI_CFG_MODE, Reg.UI_FILT_IIR_SHIFT, Reg.UI_FILT_OSR, Reg.UI_STAT_RELOAD,
      Reg.UI_STAT_SETTLE_LEFT, Reg.VLV_CFG_DIAG_OFF, Reg.VLV_CFG_HS_USE, Reg.VLV_CFG_MODE, Reg.VLV_DIAG_OFF_RES, Reg.VLV_HOLD_I_HOLD,
      Reg.VLV_HOLD_I_HOLD_MIN, Reg.VLV_MEAS_CURRENT, Reg.VLV_MEAS_DUTY, Reg.VLV_PEAK0_I_PEAK, Reg.VLV_PEAK0_T_PEAK, Reg.VLV_PEAK1_I_PEAK,
      Reg.VLV_PEAK1_T_PEAK, Reg.VLV_PEAK2_I_PEAK, Reg.VLV_PEAK2_T_PEAK, Reg.VLV_STATE_BAND, Reg.VLV_STATE_STATE,
      Reg.VLV_THERM_V_RATED] ++ (upTo 64).map Reg.coachW ++ vlvSettings) t ∧ s.causesKept t ∧
    t = { s with
        regs := t.regs, free := t.free, intCause := t.intCause, evcs := t.evcs, evcWrap := t.evcWrap, upsets := t.upsets,
        eeprom := t.eeprom, rgn := t.rgn } ∧
    s.coachesBut (allWords (upTo 8)) t ∧
    (∀ x : Nat, x ∉ placed.map Prod.fst → Memory.read t.eeprom x = Memory.read s.eeprom x)) ∧
  (∀ (s t : State), exec .iz30AdcConversion s = .next t → s.sameBut [Hid.izNew, Hid.izScan, Hid.izV] t ∧ s.causesKept t ∧
    t = { s with regs := t.regs, free := t.free, intCause := t.intCause, evcs := t.evcs, evcWrap := t.evcWrap }) ∧
  (∀ (s t : State), exec .izAdcDhRead s = .next t → s.sameBut [Hid.izAdcLat, Hid.izPtr] t ∧ s.causesKept t ∧
    t = { s with regs := t.regs, free := t.free, intCause := t.intCause, evcs := t.evcs, evcWrap := t.evcWrap, sent := t.sent }) ∧
  (∀ (s t : State), exec .izAdcDlRead s = .next t → s.sameBut [Hid.izAdcLat, Hid.izNew, Hid.izPtr, Hid.izV] t ∧ s.causesKept t ∧
    t = { s with regs := t.regs, free := t.free, intCause := t.intCause, evcs := t.evcs, evcWrap := t.evcWrap, sent := t.sent }) ∧
  (∀ (value : Nat) (s t : State), exec (.izAdcCtrlWrite value) s = .next t → s.sameBut [Hid.izNew, Hid.izPtr, Hid.izScan,
      Hid.izV] t ∧ s.causesKept t ∧
    t = { s with regs := t.regs, free := t.free, intCause := t.intCause, evcs := t.evcs, evcWrap := t.evcWrap, sent := t.sent }) ∧
  (∀ (mask : Nat) (s t : State), exec (.izFaultClear mask) s = .next t → s.sameBut ([Hid.izPtr, Hid.izV, Hid.vlvBandNow, Hid.vlvGrid,
      Hid.vlvHsTest, Hid.vlvOcAt, Hid.vlvOcWait, Hid.vlvOrg, Hid.vlvOrgKind, Hid.vlvTest, Reg.RGN_CTRL_STATE, Reg.RGN_RES_LEFT,
      Reg.RGN_RES_REASON, Reg.RGN_RES_RESULT, Reg.VLV_DIAG_CAUSE, Reg.VLV_DIAG_OFF_RES, Reg.VLV_HS_BLOCKED, Reg.VLV_MEAS_CURRENT,
      Reg.VLV_MEAS_DUTY, Reg.VLV_STATE_BAND, Reg.VLV_STATE_STATE] ++ vlvSettings) t ∧ s.causesKept t ∧
    t = { s with regs := t.regs, free := t.free, intCause := t.intCause, evcs := t.evcs, evcWrap := t.evcWrap, rgn := t.rgn, sent := t.sent }) ∧
  (∀ (fan : Fin 2) (s t : State), exec (.iz30FanFail fan) s = .next t → s.sameBut [Hid.izV] t ∧ s.causesKept t ∧
    t = { s with regs := t.regs, free := t.free, intCause := t.intCause, evcs := t.evcs, evcWrap := t.evcWrap }) ∧
  (∀ (unit : Fin 4) (s t : State), exec (.roomUnitPoll unit) s = .next t → s.sameBut [Hid.ruDue, Hid.ruWait] t ∧ s.causesKept t ∧
    t = { s with regs := t.regs, free := t.free, intCause := t.intCause, evcs := t.evcs, evcWrap := t.evcWrap, net := t.net }) ∧
  (∀ (unit : Fin 4) (bytes : List Nat) (s t : State), exec (.roomUnitReply unit bytes) s = .next t → s.sameBut [Hid.izV, Hid.ruCode, Hid.ruFails,
      Hid.ruWait] t ∧ s.causesKept t ∧
    t = { s with regs := t.regs, free := t.free, intCause := t.intCause, evcs := t.evcs, evcWrap := t.evcWrap }) ∧
  (∀ (unit : Fin 4) (s t : State), exec (.roomUnitTimeout unit) s = .next t → s.sameBut [Hid.izV, Hid.ruFails, Hid.ruWait] t ∧ s.causesKept t ∧
    t = { s with regs := t.regs, free := t.free, intCause := t.intCause, evcs := t.evcs, evcWrap := t.evcWrap }) ∧
  (∀ (rising : Bool) (tms : Bool) (tdi : Bool) (s t : State), exec (.tapTckEdge rising tms tdi) s = .next t → s.sameBut [] t ∧ s.causesKept t ∧
    t = { s with regs := t.regs, free := t.free, intCause := t.intCause, evcs := t.evcs, evcWrap := t.evcWrap, tap := t.tap })

/-- For each command named: when it answers a next state, every register field outside the listed ones reads as before, no cause of
INT_CAUSE is lost, and every component of the machine outside the named ones (the queue, attached memory, OTP and the others) is the
same. Where coach words, flash or the staging buffer may change, a clause names the coach, the words or the bytes. PWR_RST_SOFT and
PWR_RST_COLD are framed for the fields outside class V and of class K, and lose the causes; LYALE_WRITE where it does not reach
PWR_RST, for the fields no word is written to. (Rests on R392, R395) -/
def Obligations.HostCommandFrames : Prop :=
  (∀ (s t : State), exec .supvLaneRestore s = .next t → s.sameBut [Reg.HOST_DOOR_STEP, Reg.HOST_LAST_ADDR, Reg.HOST_LAST_OPC,
      Reg.HOST_LAST_STATUS, Reg.SUPV_LANE_CMD_CMD, Reg.SUPV_LANE_SWAP_BUSY] t ∧ s.causesKept t ∧
    t = { s with regs := t.regs, free := t.free, intCause := t.intCause, evcs := t.evcs, evcWrap := t.evcWrap, resp := t.resp, sent := t.sent }) ∧
  (∀ (timeout : Nat) (s t : State), exec (.supvWdtWrite timeout) s = .next t → s.sameBut [Reg.HOST_DOOR_STEP, Reg.HOST_LAST_ADDR,
      Reg.HOST_LAST_OPC, Reg.HOST_LAST_STATUS, Reg.SUPV_WDT_TIMEOUT] t ∧ s.causesKept t ∧
    t = { s with regs := t.regs, free := t.free, intCause := t.intCause, evcs := t.evcs, evcWrap := t.evcWrap, resp := t.resp, sent := t.sent }) ∧
  (∀ (s t : State), exec .supvRepair s = .next t → s.sameBut [Hid.repairCoach, Reg.HOST_DOOR_STEP, Reg.HOST_LAST_ADDR, Reg.HOST_LAST_OPC,
      Reg.HOST_LAST_STATUS, Reg.SUPV_REPAIR_GO, Reg.SUPV_REPAIR_RESULT] t ∧ s.causesKept t ∧
    t = { s with
        regs := t.regs, free := t.free, intCause := t.intCause, evcs := t.evcs, evcWrap := t.evcWrap, hatch := t.hatch, resp := t.resp,
        sent := t.sent }) ∧
  (∀ (s t : State), exec .coachCmdOpen s = .next t → s.sameBut [Hid.svcDrop, Reg.COACH_CMD_STAT_COACH, Reg.COACH_CMD_STAT_RESULT,
      Reg.HOST_DOOR_STEP, Reg.HOST_LAST_ADDR, Reg.HOST_LAST_OPC, Reg.HOST_LAST_STATUS, Reg.coachW 44] t ∧ s.causesKept t ∧
    t = { s with
        regs := t.regs, free := t.free, intCause := t.intCause, evcs := t.evcs, evcWrap := t.evcWrap, upsets := t.upsets,
        resp := t.resp, sent := t.sent } ∧
    s.coachesBut [(s.rd Reg.COACH_SEL_SEL, 44)] t) ∧
  (∀ (s t : State), exec .coachCmdClose s = .next t → s.sameBut [Hid.svcDrop, Reg.COACH_CMD_STAT_COACH, Reg.COACH_CMD_STAT_RESULT,
      Reg.HOST_DOOR_STEP, Reg.HOST_LAST_ADDR, Reg.HOST_LAST_OPC, Reg.HOST_LAST_STATUS, Reg.coachW 44] t ∧ s.causesKept t ∧
    t = { s with
        regs := t.regs, free := t.free, intCause := t.intCause, evcs := t.evcs, evcWrap := t.evcWrap, upsets := t.upsets,
        resp := t.resp, sent := t.sent } ∧
    s.coachesBut [(s.rd Reg.COACH_SEL_SEL, 44)] t) ∧
  (∀ (s t : State), exec .coachCmdManual s = .next t → s.sameBut [Hid.svcDrop, Reg.COACH_CMD_STAT_COACH, Reg.COACH_CMD_STAT_RESULT,
      Reg.HOST_DOOR_STEP, Reg.HOST_LAST_ADDR, Reg.HOST_LAST_OPC, Reg.HOST_LAST_STATUS, Reg.coachW 44] t ∧ s.causesKept t ∧
    t = { s with
        regs := t.regs, free := t.free, intCause := t.intCause, evcs := t.evcs, evcWrap := t.evcWrap, upsets := t.upsets,
        resp := t.resp, sent := t.sent } ∧
    s.coachesBut [(s.rd Reg.COACH_SEL_SEL, 44)] t) ∧
  (∀ (s t : State), exec .coachCmdShutter s = .next t → s.sameBut [Hid.svcDrop, Reg.COACH_CMD_STAT_COACH, Reg.COACH_CMD_STAT_RESULT,
      Reg.HOST_DOOR_STEP, Reg.HOST_LAST_ADDR, Reg.HOST_LAST_OPC, Reg.HOST_LAST_STATUS, Reg.coachW 44] t ∧ s.causesKept t ∧
    t = { s with
        regs := t.regs, free := t.free, intCause := t.intCause, evcs := t.evcs, evcWrap := t.evcWrap, upsets := t.upsets,
        resp := t.resp, sent := t.sent } ∧
    s.coachesBut [(s.rd Reg.COACH_SEL_SEL, 44)] t) ∧
  (∀ (first : Fin 64) (data : List Nat) (s t : State), exec (.coachWindowWrite first data) s = .next t → s.sameBut ([Hid.closeInit, Hid.first,
      Hid.svcDrop, Hid.svcOpen, Reg.ARB_FLAGS_ORDER, Reg.ARB_ORDER_LOG_ASKED, Reg.ARB_ORDER_LOG_HELD, Reg.ARB_ORDER_LOG_REQ, Reg.HOST_DOOR_STEP,
      Reg.HOST_LAST_ADDR, Reg.HOST_LAST_OPC, Reg.HOST_LAST_STATUS, Reg.MEM_ERR_COACH, Reg.SUPV_CE_ADDR_COACH, Reg.SUPV_CE_ADDR_SYNDROME,
      Reg.SUPV_CE_ADDR_WORD, Reg.SUPV_DUE_ADDR_BY_SCRUB, Reg.SUPV_DUE_ADDR_COACH, Reg.SUPV_DUE_ADDR_WORD, Reg.SUPV_STAT_CE,
      Reg.SUPV_STAT_DUE] ++ (upTo 64).map Reg.coachW) t ∧ s.causesKept t ∧
    t = { s with
        regs := t.regs, free := t.free, intCause := t.intCause, evcs := t.evcs, evcWrap := t.evcWrap, due := t.due, upsets := t.upsets,
        arb := t.arb, resp := t.resp, sent := t.sent } ∧
    s.coachesBut (allWords [s.rd Reg.COACH_SEL_SEL]) t) ∧
  (∀ (s t : State), exec .wheelLoRead s = .next t → s.sameBut [Reg.HOST_DOOR_STEP, Reg.HOST_LAST_ADDR, Reg.HOST_LAST_OPC, Reg.HOST_LAST_STATUS,
      Reg.WHEEL_HI_TICK] t ∧ s.causesKept t ∧
    t = { s with regs := t.regs, free := t.free, intCause := t.intCause, evcs := t.evcs, evcWrap := t.evcWrap, resp := t.resp, sent := t.sent }) ∧
  (∀ (count : Nat) (s t : State), exec (.arbSwapReq count) s = .next t → s.sameBut [Reg.ARB_STATUS_SWAP_PEND, Reg.ARB_SWAP_REQ,
      Reg.ARB_SWAP_SHADOW_COUNT, Reg.HOST_DOOR_STEP, Reg.HOST_LAST_ADDR, Reg.HOST_LAST_OPC, Reg.HOST_LAST_STATUS] t ∧ s.causesKept t ∧
    t = { s with regs := t.regs, free := t.free, intCause := t.intCause, evcs := t.evcs, evcWrap := t.evcWrap, resp := t.resp, sent := t.sent }) ∧
  (∀ (sel : Fin 16) (s t : State), exec (.arbWmaxClr sel) s = .next t → s.sameBut [Hid.wmax, Reg.ARB_WSEL_SEL, Reg.HOST_DOOR_STEP,
      Reg.HOST_LAST_ADDR, Reg.HOST_LAST_OPC, Reg.HOST_LAST_STATUS] t ∧ s.causesKept t ∧
    t = { s with regs := t.regs, free := t.free, intCause := t.intCause, evcs := t.evcs, evcWrap := t.evcWrap, resp := t.resp, sent := t.sent }) ∧
  (∀ (reg : Fin 11) (value : Nat) (s t : State), exec (.uiSettingsWrite reg value) s = .next t → s.sameBut [Reg.ARB_FLAGS_ORDER,
      Reg.ARB_ORDER_LOG_ASKED, Reg.ARB_ORDER_LOG_HELD, Reg.ARB_ORDER_LOG_REQ, Reg.HOST_DOOR_STEP, Reg.HOST_LAST_ADDR, Reg.HOST_LAST_OPC,
      Reg.HOST_LAST_STATUS, Reg.UI_CFG_INV, Reg.UI_CFG_MODE, Reg.UI_CFG_SSIGN, Reg.UI_FILT_IIR_SHIFT, Reg.UI_FILT_LR, Reg.UI_FILT_OSR,
      Reg.UI_FILT_PACE, Reg.UI_GAIN_GAIN, Reg.UI_LIN_BETA, Reg.UI_OFFSET_OFFSET, Reg.UI_PULSE_COUNT, Reg.UI_SCALE_HI, Reg.UI_SCALE_LO,
      Reg.UI_STAT_RELOAD, Reg.UI_STAT_SETTLE_LEFT] t ∧ s.causesKept t ∧
    t = { s with
        regs := t.regs, free := t.free, intCause := t.intCause, evcs := t.evcs, evcWrap := t.evcWrap, arb := t.arb, convs := t.convs,
        resp := t.resp, sent := t.sent }) ∧
  (∀ (input : Fin 64) (conv : Fin 4) (s t : State), exec (.convUrgGo input conv) s = .next t → s.sameBut [Reg.CONV_FLAGS_DROP, Reg.CONV_URG_CONV,
      Reg.CONV_URG_DONE, Reg.CONV_URG_DROPPED, Reg.CONV_URG_INPUT, Reg.HOST_DOOR_STEP, Reg.HOST_LAST_ADDR, Reg.HOST_LAST_OPC,
      Reg.HOST_LAST_STATUS, Reg.THERM_FLAGS_URG_DROP] t ∧ s.causesKept t ∧
    t = { s with
        regs := t.regs, free := t.free, intCause := t.intCause, evcs := t.evcs, evcWrap := t.evcWrap, xchks := t.xchks,
        convs := t.convs, cals := t.cals, urgMore := t.urgMore, resp := t.resp, sent := t.sent }) ∧
  (∀ (mask : Fin 8) (s t : State), exec (.calReq mask) s = .next t → s.sameBut [Reg.CAL_CTRL_AUTO_EN, Reg.HOST_DOOR_STEP, Reg.HOST_LAST_ADDR,
      Reg.HOST_LAST_OPC, Reg.HOST_LAST_STATUS] t ∧ s.causesKept t ∧
    t = { s with
        regs := t.regs, free := t.free, intCause := t.intCause, evcs := t.evcs, evcWrap := t.evcWrap, cals := t.cals, resp := t.resp,
        sent := t.sent }) ∧
  (∀ (input : Fin 64) (point : Fin 4) (s t : State), exec (.calSysGo input point) s = .next t → s.sameBut [Hid.sysClip, Hid.sysCnt, Hid.sysIn,
      Hid.sysPoint, Hid.sysSum, Reg.CAL_SYS_CMD_INPUT, Reg.CAL_SYS_CMD_POINT, Reg.CAL_SYS_STAT_BUSY, Reg.CAL_SYS_STAT_COUNT,
      Reg.CAL_SYS_STAT_RESULT, Reg.HOST_DOOR_STEP, Reg.HOST_LAST_ADDR, Reg.HOST_LAST_OPC, Reg.HOST_LAST_STATUS] t ∧ s.causesKept t ∧
    t = { s with regs := t.regs, free := t.free, intCause := t.intCause, evcs := t.evcs, evcWrap := t.evcWrap, resp := t.resp, sent := t.sent }) ∧
  (∀ (s t : State), exec .calSysAbort s = .next t → s.sameBut [Reg.CAL_SYS_CMD_INPUT, Reg.CAL_SYS_CMD_POINT, Reg.CAL_SYS_STAT_BUSY,
      Reg.CAL_SYS_STAT_RESULT, Reg.HOST_DOOR_STEP, Reg.HOST_LAST_ADDR, Reg.HOST_LAST_OPC, Reg.HOST_LAST_STATUS] t ∧ s.causesKept t ∧
    t = { s with regs := t.regs, free := t.free, intCause := t.intCause, evcs := t.evcs, evcWrap := t.evcWrap, resp := t.resp, sent := t.sent }) ∧
  (∀ (mask : Fin 8) (s t : State), exec (.fanUnlock mask) s = .next t → s.sameBut [Hid.boMs, Hid.fanCoasted, Hid.fanIlim, Hid.fanInt,
      Hid.fanOcAt, Hid.fanRampMs, Hid.fanRef, Hid.fanSpdInt, Reg.BO_STATE_ELAPSED, Reg.BO_STATE_FORCED, Reg.BO_STATE_OUT, Reg.BO_STATE_WAIT,
      Reg.FANT_MEAS_DUTY, Reg.FANT_STATE_STALL_CNT, Reg.FANT_STATE_STATE, Reg.FANT_STATE_TACH_LOST, Reg.FAN_COMMON_HEATER_BLOCK,
      Reg.FAN_DEMAND_REF, Reg.FAN_FLAGS_FLAGS, Reg.FAN_MEAS_IQ, Reg.FAN_STATE_ATTEMPT, Reg.FAN_STATE_LOCK_CAUSE, Reg.FAN_STATE_STALL_CNT,
      Reg.FAN_STATE_STATE, Reg.HOST_DOOR_STEP, Reg.HOST_LAST_ADDR, Reg.HOST_LAST_OPC, Reg.HOST_LAST_STATUS] t ∧ s.causesKept t ∧
    t = { s with regs := t.regs, free := t.free, intCause := t.intCause, evcs := t.evcs, evcWrap := t.evcWrap, resp := t.resp, sent := t.sent }) ∧
  (∀ (value : Nat) (s t : State), exec (.valveModeWrite value) s = .next t → s.sameBut ([Hid.vlvBandNow, Hid.vlvGrid, Hid.vlvHsTest,
      Hid.vlvOcWait, Hid.vlvOrg, Hid.vlvOrgKind, Hid.vlvTest, Reg.HOST_DOOR_STEP, Reg.HOST_LAST_ADDR, Reg.HOST_LAST_OPC, Reg.HOST_LAST_STATUS,
      Reg.RGN_CTRL_STATE, Reg.RGN_RES_LEFT, Reg.RGN_RES_REASON, Reg.RGN_RES_RESULT, Reg.VLV_DIAG_OFF_RES, Reg.VLV_MEAS_CURRENT,
      Reg.VLV_MEAS_DUTY, Reg.VLV_STATE_BAND, Reg.VLV_STATE_STATE] ++ vlvSettings) t ∧ s.causesKept t ∧
    t = { s with
        regs := t.regs, free := t.free, intCause := t.intCause, evcs := t.evcs, evcWrap := t.evcWrap, rgn := t.rgn, resp := t.resp,
        sent := t.sent }) ∧
  (∀ (mask : Fin 16) (s t : State), exec (.vlvDiagNow mask) s = .next t → s.sameBut [Hid.vlvHsTest, Hid.vlvTest, Reg.HOST_DOOR_STEP,
      Reg.HOST_LAST_ADDR, Reg.HOST_LAST_OPC, Reg.HOST_LAST_STATUS] t ∧ s.causesKept t ∧
    t = { s with regs := t.regs, free := t.free, intCause := t.intCause, evcs := t.evcs, evcWrap := t.evcWrap, resp := t.resp, sent := t.sent }) ∧
  (∀ (mask : Fin 256) (s t : State), exec (.vlvClear mask) s = .next t → s.sameBut ([Hid.vlvBandNow, Hid.vlvGrid, Hid.vlvHsTest, Hid.vlvOcWait,
      Hid.vlvOrg, Hid.vlvOrgKind, Hid.vlvTest, Reg.HOST_DOOR_STEP, Reg.HOST_LAST_ADDR, Reg.HOST_LAST_OPC, Reg.HOST_LAST_STATUS,
      Reg.RGN_CTRL_STATE, Reg.RGN_RES_LEFT, Reg.RGN_RES_REASON, Reg.RGN_RES_RESULT, Reg.VLV_DIAG_CAUSE, Reg.VLV_DIAG_OFF_RES,
      Reg.VLV_MEAS_CURRENT, Reg.VLV_MEAS_DUTY, Reg.VLV_STATE_BAND, Reg.VLV_STATE_STATE] ++ vlvSettings) t ∧ s.causesKept t ∧
    t = { s with
        regs := t.regs, free := t.free, intCause := t.intCause, evcs := t.evcs, evcWrap := t.evcWrap, rgn := t.rgn, resp := t.resp,
        sent := t.sent }) ∧
  (∀ (mask : Fin 16) (s t : State), exec (.vlvHsClear mask) s = .next t → s.sameBut ([Hid.vlvBandNow, Hid.vlvGrid, Hid.vlvHsTest, Hid.vlvOcAt,
      Hid.vlvOcWait, Hid.vlvOrg, Hid.vlvOrgKind, Hid.vlvTest, Reg.HOST_DOOR_STEP, Reg.HOST_LAST_ADDR, Reg.HOST_LAST_OPC, Reg.HOST_LAST_STATUS,
      Reg.RGN_CTRL_STATE, Reg.RGN_RES_LEFT, Reg.RGN_RES_REASON, Reg.RGN_RES_RESULT, Reg.VLV_DIAG_CAUSE, Reg.VLV_DIAG_OFF_RES, Reg.VLV_HS_BLOCKED,
      Reg.VLV_MEAS_CURRENT, Reg.VLV_MEAS_DUTY, Reg.VLV_STATE_BAND, Reg.VLV_STATE_STATE] ++ vlvSettings) t ∧ s.causesKept t ∧
    t = { s with
        regs := t.regs, free := t.free, intCause := t.intCause, evcs := t.evcs, evcWrap := t.evcWrap, rgn := t.rgn, resp := t.resp,
        sent := t.sent }) ∧
  (∀ (mask : Fin 16) (s t : State), exec (.dmpHome mask) s = .next t → s.sameBut [Hid.dmpHome, Reg.HOST_DOOR_STEP, Reg.HOST_LAST_ADDR,
      Reg.HOST_LAST_OPC, Reg.HOST_LAST_STATUS] t ∧ s.causesKept t ∧
    t = { s with regs := t.regs, free := t.free, intCause := t.intCause, evcs := t.evcs, evcWrap := t.evcWrap, resp := t.resp, sent := t.sent }) ∧
  (∀ (mask : Fin 16) (s t : State), exec (.dmpClear mask) s = .next t → s.sameBut [Hid.dmpFbTry, Reg.DMP_STATE_CAUSE, Reg.DMP_STATE_POS_OK,
      Reg.DMP_STATE_STATE, Reg.HOST_DOOR_STEP, Reg.HOST_LAST_ADDR, Reg.HOST_LAST_OPC, Reg.HOST_LAST_STATUS] t ∧ s.causesKept t ∧
    t = { s with regs := t.regs, free := t.free, intCause := t.intCause, evcs := t.evcs, evcWrap := t.evcWrap, resp := t.resp, sent := t.sent }) ∧
  (∀ (mask : Fin 64) (s t : State), exec (.boClear mask) s = .next t → s.sameBut [Hid.boMs, Hid.boOcAt, Reg.BO_STATE_ELAPSED,
      Reg.BO_STATE_FORCED, Reg.BO_STATE_OUT, Reg.BO_STATE_WAIT, Reg.HOST_DOOR_STEP, Reg.HOST_LAST_ADDR, Reg.HOST_LAST_OPC,
      Reg.HOST_LAST_STATUS] t ∧ s.causesKept t ∧
    t = { s with regs := t.regs, free := t.free, intCause := t.intCause, evcs := t.evcs, evcWrap := t.evcWrap, resp := t.resp, sent := t.sent }) ∧
  (∀ (mask : Fin 256) (s t : State), exec (.thermReadmit mask) s = .next t → s.sameBut [Hid.tsReadmit, Hid.tsUrgNew, Reg.CONV_FLAGS_DROP,
      Reg.CONV_URG_DROPPED, Reg.HOST_DOOR_STEP, Reg.HOST_LAST_ADDR, Reg.HOST_LAST_OPC, Reg.HOST_LAST_STATUS, Reg.THERM_CMD_STAT_RESULT,
      Reg.THERM_FLAGS_URG_DROP] t ∧ s.causesKept t ∧
    t = { s with
        regs := t.regs, free := t.free, intCause := t.intCause, evcs := t.evcs, evcWrap := t.evcWrap, xchks := t.xchks,
        convs := t.convs, cals := t.cals, urgMore := t.urgMore, resp := t.resp, sent := t.sent }) ∧
  (∀ (s t : State), exec .rtcSet s = .next t → s.sameBut [Hid.rtcPend, Hid.rtcPendD, Hid.rtcPendT, Reg.HOST_DOOR_STEP, Reg.HOST_LAST_ADDR,
      Reg.HOST_LAST_OPC, Reg.HOST_LAST_STATUS] t ∧ s.causesKept t ∧
    t = { s with regs := t.regs, free := t.free, intCause := t.intCause, evcs := t.evcs, evcWrap := t.evcWrap, resp := t.resp, sent := t.sent }) ∧
  (∀ (s t : State), exec .rtcSetWday s = .next t → s.sameBut [Reg.HOST_DOOR_STEP, Reg.HOST_LAST_ADDR, Reg.HOST_LAST_OPC, Reg.HOST_LAST_STATUS,
      Reg.RTC_DATE_WDAY] t ∧ s.causesKept t ∧
    t = { s with regs := t.regs, free := t.free, intCause := t.intCause, evcs := t.evcs, evcWrap := t.evcWrap, resp := t.resp, sent := t.sent }) ∧
  (∀ (s t : State), exec .rtcRearm s = .next t → s.sameBut [Reg.HOST_DOOR_STEP, Reg.HOST_LAST_ADDR, Reg.HOST_LAST_OPC, Reg.HOST_LAST_STATUS,
      Reg.RTC_STAMP_DATE_STAMPED] t ∧ s.causesKept t ∧
    t = { s with regs := t.regs, free := t.free, intCause := t.intCause, evcs := t.evcs, evcWrap := t.evcWrap, resp := t.resp, sent := t.sent }) ∧
  (∀ (n : Fin 32768) (hold : Bool) (s t : State), exec (.rtcShiftGo n hold) s = .next t → s.sameBut [Hid.rtcHold, Hid.rtcShPend, Hid.rtcShift,
      Reg.HOST_DOOR_STEP, Reg.HOST_LAST_ADDR, Reg.HOST_LAST_OPC, Reg.HOST_LAST_STATUS, Reg.RTC_SHIFT_N, Reg.RTC_SHIFT_SUB,
      Reg.RTC_STAT_SHIFT_PEND, Reg.RTC_SUBSEC_SUBSEC] t ∧ s.causesKept t ∧
    t = { s with regs := t.regs, free := t.free, intCause := t.intCause, evcs := t.evcs, evcWrap := t.evcWrap, resp := t.resp, sent := t.sent }) ∧
  (∀ (s t : State), exec .rtcTimeRead s = .next t → s.sameBut [Hid.rtcLatD, Hid.rtcLatDOn, Hid.rtcLatS, Hid.rtcLatSOn, Reg.HOST_DOOR_STEP,
      Reg.HOST_LAST_ADDR, Reg.HOST_LAST_OPC, Reg.HOST_LAST_STATUS] t ∧ s.causesKept t ∧
    t = { s with regs := t.regs, free := t.free, intCause := t.intCause, evcs := t.evcs, evcWrap := t.evcWrap, resp := t.resp, sent := t.sent }) ∧
  (∀ (value : Nat) (s t : State), exec (.zoneForceWrite value) s = .next t → s.sameBut [Hid.wakeSched, Reg.HOST_DOOR_STEP, Reg.HOST_LAST_ADDR,
      Reg.HOST_LAST_OPC, Reg.HOST_LAST_STATUS, Reg.ZONE_FORCE_FORCE, Reg.ZONE_STATE_SET] t ∧ s.causesKept t ∧
    t = { s with regs := t.regs, free := t.free, intCause := t.intCause, evcs := t.evcs, evcWrap := t.evcWrap, resp := t.resp, sent := t.sent }) ∧
  (∀ (first : Fin 256) (data : List Nat) (s t : State), exec (.regionStageWrite first data) s = .next t → s.sameBut ([Hid.stage, Hid.svcDrop,
      Reg.HOST_DOOR_STEP, Reg.HOST_LAST_ADDR, Reg.HOST_LAST_OPC, Reg.HOST_LAST_STATUS, Reg.RGN_CTRL_SRC, Reg.RGN_CTRL_STATE, Reg.RGN_CTRL_TYPE,
      Reg.RGN_RES_LEFT, Reg.RGN_RES_REASON, Reg.RGN_RES_RESULT] ++ (upTo 64).map Reg.coachW) t ∧ s.causesKept t ∧
    t = { s with
        regs := t.regs, free := t.free, intCause := t.intCause, evcs := t.evcs, evcWrap := t.evcWrap, upsets := t.upsets, rgn := t.rgn,
        resp := t.resp, sent := t.sent } ∧
    s.coachesBut (s.rgn.coaches.map (fun p => (p.1, 44))) t ∧
    s.stageBut (s.rd Reg.RGN_OFS_OFS + first.val) data.length t) ∧
  (∀ (s t : State), exec .rgnStart s = .next t → s.sameBut [Reg.HOST_DOOR_STEP, Reg.HOST_LAST_ADDR, Reg.HOST_LAST_OPC, Reg.HOST_LAST_STATUS,
      Reg.RGN_CTRL_CMD, Reg.RGN_CTRL_STATE, Reg.RGN_RES_RESULT] t ∧ s.causesKept t ∧
    t = { s with regs := t.regs, free := t.free, intCause := t.intCause, evcs := t.evcs, evcWrap := t.evcWrap, resp := t.resp, sent := t.sent }) ∧
  (∀ (s t : State), exec .rgnAbort s = .next t → s.sameBut ([Hid.svcDrop, Reg.HOST_DOOR_STEP, Reg.HOST_LAST_ADDR, Reg.HOST_LAST_OPC,
      Reg.HOST_LAST_STATUS, Reg.RGN_CTRL_CMD, Reg.RGN_CTRL_STATE, Reg.RGN_RES_LEFT, Reg.RGN_RES_REASON,
      Reg.RGN_RES_RESULT] ++ (upTo 64).map Reg.coachW) t ∧ s.causesKept t ∧
    t = { s with
        regs := t.regs, free := t.free, intCause := t.intCause, evcs := t.evcs, evcWrap := t.evcWrap, upsets := t.upsets, rgn := t.rgn,
        resp := t.resp, sent := t.sent } ∧
    s.coachesBut (s.rgn.coaches.map (fun p => (p.1, 44))) t) ∧
  (∀ (s t : State), exec .imgPersistOpen s = .next t → s.sameBut [Reg.HOST_DOOR_STEP, Reg.HOST_LAST_ADDR, Reg.HOST_LAST_OPC,
      Reg.HOST_LAST_STATUS, Reg.IMG_PERSIST_CMD, Reg.IMG_PERSIST_REASON, Reg.IMG_PERSIST_RESULT, Reg.IMG_PERSIST_STATE, Reg.IMG_PERSIST_TARGET,
      Reg.IMG_PERSIST_TARGET_B] t ∧ s.causesKept t ∧
    t = { s with
        regs := t.regs, free := t.free, intCause := t.intCause, evcs := t.evcs, evcWrap := t.evcWrap, hatch := t.hatch, resp := t.resp,
        sent := t.sent } ∧
    t.flash = s.flash) ∧
  (∀ (s t : State), exec .imgPersistCommit s = .next t → s.sameBut [Reg.HOST_DOOR_STEP, Reg.HOST_LAST_ADDR, Reg.HOST_LAST_OPC,
      Reg.HOST_LAST_STATUS, Reg.IMG_PERSIST_CMD, Reg.IMG_PERSIST_REASON, Reg.IMG_PERSIST_RESULT, Reg.IMG_PERSIST_STATE, Reg.IMG_PERSIST_TARGET,
      Reg.IMG_PERSIST_TARGET_B] t ∧ s.causesKept t ∧
    t = { s with
        regs := t.regs, free := t.free, intCause := t.intCause, evcs := t.evcs, evcWrap := t.evcWrap, hatch := t.hatch, resp := t.resp,
        sent := t.sent } ∧
    t.flash = s.flash) ∧
  (∀ (s t : State), exec .imgPersistAbort s = .next t → s.sameBut [Reg.HOST_DOOR_STEP, Reg.HOST_LAST_ADDR, Reg.HOST_LAST_OPC,
      Reg.HOST_LAST_STATUS, Reg.IMG_PERSIST_CMD, Reg.IMG_PERSIST_REASON, Reg.IMG_PERSIST_RESULT, Reg.IMG_PERSIST_STATE, Reg.IMG_PERSIST_TARGET,
      Reg.IMG_PERSIST_TARGET_B] t ∧ s.causesKept t ∧
    t = { s with
        regs := t.regs, free := t.free, intCause := t.intCause, evcs := t.evcs, evcWrap := t.evcWrap, flash := t.flash,
        hatch := t.hatch, resp := t.resp, sent := t.sent } ∧
    s.flashBut (copyBase (s.rd Reg.IMG_PERSIST_TARGET)) 4096 t) ∧
  (∀ (s t : State), exec .pwrModeNative s = .next t → s.sameBut [Hid.modeCmd, Reg.HOST_DOOR_STEP, Reg.HOST_LAST_ADDR, Reg.HOST_LAST_OPC,
      Reg.HOST_LAST_STATUS, Reg.PWR_MODE_PEND, Reg.PWR_MODE_RESULT] t ∧ s.causesKept t ∧
    t = { s with regs := t.regs, free := t.free, intCause := t.intCause, evcs := t.evcs, evcWrap := t.evcWrap, resp := t.resp, sent := t.sent }) ∧
  (∀ (s t : State), exec .pwrModeService s = .next t → s.sameBut [Hid.modeCmd, Reg.HOST_DOOR_STEP, Reg.HOST_LAST_ADDR, Reg.HOST_LAST_OPC,
      Reg.HOST_LAST_STATUS, Reg.PWR_MODE_PEND, Reg.PWR_MODE_RESULT] t ∧ s.causesKept t ∧
    t = { s with regs := t.regs, free := t.free, intCause := t.intCause, evcs := t.evcs, evcWrap := t.evcWrap, resp := t.resp, sent := t.sent }) ∧
  (∀ (s t : State), exec .pwrModeStandby s = .next t → s.sameBut [Hid.modeCmd, Reg.HOST_DOOR_STEP, Reg.HOST_LAST_ADDR, Reg.HOST_LAST_OPC,
      Reg.HOST_LAST_STATUS, Reg.PWR_MODE_PEND, Reg.PWR_MODE_RESULT] t ∧ s.causesKept t ∧
    t = { s with regs := t.regs, free := t.free, intCause := t.intCause, evcs := t.evcs, evcWrap := t.evcWrap, resp := t.resp, sent := t.sent }) ∧
  (∀ (s t : State), exec .pwrModeWake s = .next t → s.sameBut [Hid.modeCmd, Reg.HOST_DOOR_STEP, Reg.HOST_LAST_ADDR, Reg.HOST_LAST_OPC,
      Reg.HOST_LAST_STATUS, Reg.PWR_MODE_PEND, Reg.PWR_MODE_RESULT] t ∧ s.causesKept t ∧
    t = { s with regs := t.regs, free := t.free, intCause := t.intCause, evcs := t.evcs, evcWrap := t.evcWrap, resp := t.resp, sent := t.sent }) ∧
  (∀ (s t : State), exec .pwrRstSoft s = .next t → s.sameWhere (fun f => f.cls != .V)
      ([Hid.aiRsn, Hid.aiVal, Hid.calTick, Hid.dispPage, Hid.eee, Hid.ipSrc, Hid.ipWait, Hid.izV, Hid.mbDue, Hid.mbFail, Hid.mbTries, Hid.mbWait,
      Hid.occLast, Hid.ruDue, Hid.ruWait, Hid.scAlt, Hid.scBackoff, Hid.scOn, Hid.softHold, Hid.supAge, Hid.vmac, Hid.wakeOcc,
      Reg.BUS_STAT_STATE, Reg.BUS_STAT_TOKEN_AGE, Reg.CAL_STAT_NO_RELIEF, Reg.CAL_STAT_UNSERVED, Reg.CAL_TRIM_HI_TAPS, Reg.CAL_TRIM_LO_TAPS,
      Reg.HOST_DOOR_STEP, Reg.HOST_HB_CFG_LEFT, Reg.HOST_LAST_ADDR, Reg.HOST_LAST_OPC, Reg.HOST_LAST_STATUS, Reg.NET_COV_ACTIVE,
      Reg.NET_FDR_FDR_STATE, Reg.NET_FLAGS_FLAGS, Reg.NET_IP_ADDR_ADDR, Reg.NET_IP_GW_GW, Reg.NET_IP_MASK_MASK, Reg.NET_MB_CLI_MB_FAIL,
      Reg.NET_PHY_SQI, Reg.NET_SC_STAT_ALERT, Reg.NET_SC_STAT_WAIT, Reg.NET_STAT_AMPL, Reg.NET_STAT_DCC, Reg.NET_STAT_IP_OK, Reg.NET_STAT_LINK,
      Reg.NET_STAT_PP_RUN, Reg.NET_STAT_SC_STATE, Reg.NET_STAT_TIME_UNCHK, Reg.NET_SUP_LEFT_LEFT, Reg.OCC_STAT_CH_OCC, Reg.OCC_ZONE_OCC,
      Reg.RST_CAUSE_LAST_SOFT, Reg.RST_CAUSE_SOFT_CNT, Reg.SUPV_LANE_SWAP_BUSY, Reg.SUPV_WDT_REMAIN, Reg.TS_STATE_FAST, Reg.UI_GAIN_GAIN,
      Reg.UI_OFFSET_OFFSET] ++ (upTo 64).map Reg.coachW) t ∧ t = { s with
          regs := t.regs, free := t.free, intCause := t.intCause, evcs := t.evcs,
          evcWrap := t.evcWrap, evcStamp := t.evcStamp, upsets := t.upsets, xchks := t.xchks, arb := t.arb, convs := t.convs, cals := t.cals,
          relief := t.relief, urgMore := t.urgMore, pulses := t.pulses, snsTx := t.snsTx, otp := t.otp, avs := t.avs, flash := t.flash,
          eeprom := t.eeprom, rgn := t.rgn, hatch := t.hatch, resp := t.resp, sent := t.sent, net := t.net, drawn := t.drawn, held := t.held,
          fbBad := t.fbBad } ∧
    memoryBut s.flash t.flash [s.hatchSpan, s.persistSpan] ∧
    memoryBut s.eeprom t.eeprom [s.hatchSpan] ∧
    (s.hatch.op = 0 → t.eeprom = s.eeprom) ∧
    (s.hatch.op = 0 → s.rd Reg.IMG_PERSIST_STATE = 0 → t.flash = s.flash) ∧
    (s.rd Hid.otpOp = 0 → t.otp = s.otp) ∧
    s.coachesBut (s.rgn.coaches.map (fun p => (p.1, 44))) t) ∧
  (∀ (s t : State), exec .pwrRstCold s = .next t → s.sameWhere (fun f => f.cls == .K)
      [Hid.panelDis, Hid.panelDisV, Hid.pwrCause, Hid.resetActive, Reg.HOST_DOOR_STEP, Reg.HOST_LAST_ADDR, Reg.HOST_LAST_OPC,
      Reg.HOST_LAST_STATUS, Reg.PWR_MODE_MODE, Reg.RST_CAUSE_CAUSE] t ∧ t = { s with
          regs := t.regs, free := t.free, intCause := t.intCause,
          evcs := t.evcs, evcWrap := t.evcWrap, evcStamp := t.evcStamp, due := t.due, upsets := t.upsets, actQ := t.actQ, xchks := t.xchks,
          arb := t.arb, convs := t.convs, cals := t.cals, relief := t.relief, urgMore := t.urgMore, pulses := t.pulses, snsTx := t.snsTx,
          otp := t.otp, avs := t.avs, dmp := t.dmp, schedLog := t.schedLog, flash := t.flash, eeprom := t.eeprom, rgn := t.rgn, hatch := t.hatch,
          resp := t.resp, sent := t.sent, netImg := t.netImg, net := t.net, drawn := t.drawn, held := t.held, fbBad := t.fbBad, compBad := t.compBad } ∧
    memoryBut s.flash t.flash [s.hatchSpan, s.persistSpan] ∧
    memoryBut s.eeprom t.eeprom [s.hatchSpan] ∧
    (s.hatch.op = 0 → t.eeprom = s.eeprom) ∧
    (s.hatch.op = 0 → s.rd Reg.IMG_PERSIST_STATE = 0 → t.flash = s.flash) ∧
    (s.rd Hid.otpOp = 0 → t.otp = s.otp)) ∧
  (∀ (s t : State), exec .netRelink s = .next t → s.sameBut [Hid.ipSrc, Hid.ipWait, Reg.HOST_DOOR_STEP, Reg.HOST_LAST_ADDR, Reg.HOST_LAST_OPC,
      Reg.HOST_LAST_STATUS, Reg.NET_FDR_FDR_STATE, Reg.NET_FLAGS_FLAGS, Reg.NET_IP_ADDR_ADDR, Reg.NET_IP_GW_GW, Reg.NET_IP_MASK_MASK,
      Reg.NET_SC_STAT_WAIT, Reg.NET_STAT_IP_OK, Reg.NET_STAT_LINK, Reg.NET_STAT_SC_STATE] t ∧ s.causesKept t ∧
    t = { s with regs := t.regs, free := t.free, intCause := t.intCause, evcs := t.evcs, evcWrap := t.evcWrap, resp := t.resp, sent := t.sent }) ∧
  (∀ (s t : State), exec .netScRetry s = .next t → s.sameBut [Hid.scBackoff, Reg.HOST_DOOR_STEP, Reg.HOST_LAST_ADDR, Reg.HOST_LAST_OPC,
      Reg.HOST_LAST_STATUS, Reg.NET_SC_STAT_WAIT, Reg.NET_STAT_SC_STATE] t ∧ s.causesKept t ∧
    t = { s with regs := t.regs, free := t.free, intCause := t.intCause, evcs := t.evcs, evcWrap := t.evcWrap, resp := t.resp, sent := t.sent }) ∧
  (∀ (addr : Nat) (len : Nat) (crc : Nat) (s t : State), exec (.lyaleRead addr len crc) s = .next t → s.sameBut [Hid.rtcHold, Hid.rtcLatD,
      Hid.rtcLatDOn, Hid.rtcLatS, Hid.rtcLatSOn, Reg.ARB_FLAGS_ORDER, Reg.ARB_ORDER_LOG_ASKED, Reg.ARB_ORDER_LOG_HELD, Reg.ARB_ORDER_LOG_REQ,
      Reg.HOST_DOOR_STEP, Reg.HOST_LAST_ADDR, Reg.HOST_LAST_OPC, Reg.HOST_LAST_STATUS, Reg.IMG_PERSIST_STATE, Reg.MEM_ERR_COACH,
      Reg.RTC_STAT_SHIFT_PEND, Reg.RTC_SUBSEC_SUBSEC, Reg.SUPV_CE_ADDR_COACH, Reg.SUPV_CE_ADDR_SYNDROME, Reg.SUPV_CE_ADDR_WORD,
      Reg.SUPV_DUE_ADDR_BY_SCRUB, Reg.SUPV_DUE_ADDR_COACH, Reg.SUPV_DUE_ADDR_WORD, Reg.SUPV_STAT_CE, Reg.SUPV_STAT_DUE,
      Reg.WHEEL_HI_TICK] t ∧ s.causesKept t ∧
    t = { s with
        regs := t.regs, free := t.free, intCause := t.intCause, evcs := t.evcs, evcWrap := t.evcWrap, upsets := t.upsets, arb := t.arb,
        resp := t.resp, sent := t.sent }) ∧
  (∀ (addr : Nat) (data : List Nat) (crc : Nat) (s t : State),
      exec (.lyaleWrite addr data crc) s = .next t → (addr % 65536 ≤ 0x0416 → addr % 65536 + data.length ≤ 0x0416) →
    s.sameWhere (fun f => !(upTo data.length).any (fun k => f.hits (addr % 65536 + k)))
      ([Hid.boMs, Hid.boOcAt, Hid.closeInit, Hid.dispHold, Hid.dispOff, Hid.dispPage, Hid.dispRb, Hid.dispUs, Hid.dmpFb, Hid.dmpFbTry,
      Hid.dmpHome, Hid.dmpVel, Hid.fanCoasted, Hid.fanIlim, Hid.fanInt, Hid.fanOcAt, Hid.fanRampMs, Hid.fanRef, Hid.fanSpdInt, Hid.first,
      Hid.ipSrc, Hid.ipWait, Hid.modeCmd, Hid.otpOp, Hid.repairCoach, Hid.rtcCompN, Hid.rtcPend, Hid.rtcPendD, Hid.rtcPendT, Hid.rtcShPend,
      Hid.rtcShift, Hid.scBackoff, Hid.schedBad, Hid.stage, Hid.svcDrop, Hid.svcOpen, Hid.sysClip, Hid.sysCnt, Hid.sysIn, Hid.sysPoint,
      Hid.sysSum, Hid.tsReadmit, Hid.tsUrgNew, Hid.vlvBandNow, Hid.vlvGrid, Hid.vlvHsTest, Hid.vlvOcAt, Hid.vlvOcWait, Hid.vlvOrg,
      Hid.vlvOrgKind, Hid.vlvTest, Hid.wakeOcc, Hid.wakeSched, Hid.wmax, Reg.ARB_FLAGS_ORDER, Reg.ARB_ORDER_LOG_ASKED, Reg.ARB_ORDER_LOG_HELD,
      Reg.ARB_ORDER_LOG_REQ, Reg.ARB_STATUS_SWAP_PEND, Reg.ARB_SWAP_REQ, Reg.ARB_SWAP_SHADOW_COUNT, Reg.BO_STATE_ELAPSED, Reg.BO_STATE_FORCED,
      Reg.BO_STATE_OUT, Reg.BO_STATE_WAIT, Reg.CAL_SYS_STAT_BUSY, Reg.CAL_SYS_STAT_COUNT, Reg.CAL_SYS_STAT_RESULT, Reg.COACH_CMD_STAT_COACH,
      Reg.COACH_CMD_STAT_RESULT, Reg.CONV_FLAGS_DROP, Reg.CONV_URG_DONE, Reg.CONV_URG_DROPPED, Reg.DISP_BAL_BAL, Reg.DISP_STAT_SLOT,
      Reg.DISP_STAT_STATE, Reg.DMP_STATE_CAUSE, Reg.DMP_STATE_POS_OK, Reg.DMP_STATE_STATE, Reg.FANT_MEAS_DUTY, Reg.FANT_STATE_STALL_CNT,
      Reg.FANT_STATE_STATE, Reg.FANT_STATE_TACH_LOST, Reg.FAN_COMMON_HEATER_BLOCK, Reg.FAN_DEMAND_REF, Reg.FAN_FLAGS_FLAGS, Reg.FAN_MEAS_IQ,
      Reg.FAN_STATE_ATTEMPT, Reg.FAN_STATE_LOCK_CAUSE, Reg.FAN_STATE_STALL_CNT, Reg.FAN_STATE_STATE, Reg.HOST_DOOR_STEP, Reg.HOST_HB_CFG_LEFT,
      Reg.HOST_LAST_ADDR, Reg.HOST_LAST_OPC, Reg.HOST_LAST_STATUS, Reg.IMG_PERSIST_REASON, Reg.IMG_PERSIST_RESULT, Reg.IMG_PERSIST_STATE,
      Reg.IMG_PERSIST_TARGET, Reg.MEM_ERR_COACH, Reg.NET_FDR_FDR_STATE, Reg.NET_FLAGS_FLAGS, Reg.NET_IP_ADDR_ADDR, Reg.NET_IP_GW_GW,
      Reg.NET_IP_MASK_MASK, Reg.NET_SC_STAT_WAIT, Reg.NET_STAT_IP_OK, Reg.NET_STAT_LINK, Reg.NET_STAT_SC_STATE, Reg.OCC_STAT_CH_OCC,
      Reg.OCC_ZONE_OCC, Reg.OTP_PROG_BUSY, Reg.PWR_MODE_PEND, Reg.PWR_MODE_RESULT, Reg.PWR_STAT_HOST_LOST, Reg.RGN_CTRL_SRC, Reg.RGN_CTRL_STATE,
      Reg.RGN_CTRL_TYPE, Reg.RGN_RES_LEFT, Reg.RGN_RES_REASON, Reg.RGN_RES_RESULT, Reg.RTC_COMP_STAT_N, Reg.RTC_DATE_WDAY,
      Reg.RTC_STAMP_DATE_STAMPED, Reg.RTC_STAT_SHIFT_PEND, Reg.SCHED_STAT_NOTIME, Reg.SUPV_CE_ADDR_COACH, Reg.SUPV_CE_ADDR_SYNDROME,
      Reg.SUPV_CE_ADDR_WORD, Reg.SUPV_DUE_ADDR_BY_SCRUB, Reg.SUPV_DUE_ADDR_COACH, Reg.SUPV_DUE_ADDR_WORD, Reg.SUPV_LANE_CMD_CMD,
      Reg.SUPV_LANE_SWAP_BUSY, Reg.SUPV_REPAIR_GO, Reg.SUPV_REPAIR_RESULT, Reg.SUPV_STAT_CE, Reg.SUPV_STAT_DUE, Reg.THERM_CMD_STAT_RESULT,
      Reg.THERM_FLAGS_URG_DROP, Reg.UI_CFG_MODE, Reg.UI_FILT_IIR_SHIFT, Reg.UI_FILT_OSR, Reg.UI_STAT_RELOAD, Reg.UI_STAT_SETTLE_LEFT,
      Reg.VLV_DIAG_CAUSE, Reg.VLV_DIAG_OFF_RES, Reg.VLV_HS_BLOCKED, Reg.VLV_MEAS_CURRENT, Reg.VLV_MEAS_DUTY, Reg.VLV_STATE_BAND,
      Reg.VLV_STATE_STATE, Reg.ZONE_STATE_SCHED_SET,
      Reg.ZONE_STATE_SET] ++ (upTo 64).map Reg.coachW ++ vlvSettings) t ∧ t = { s with
          regs := t.regs, free := t.free, intCause := t.intCause,
          evcs := t.evcs, evcWrap := t.evcWrap, due := t.due, upsets := t.upsets, xchks := t.xchks, arb := t.arb, convs := t.convs, cals := t.cals,
          urgMore := t.urgMore, otp := t.otp, dmp := t.dmp, flash := t.flash, rgn := t.rgn, hatch := t.hatch, resp := t.resp, sent := t.sent,
          fbBad := t.fbBad } ∧
    (frameTouches (addr % 65536) data.length 0x0028 0x0028 = false → t.flash = s.flash) ∧
    s.flashBut (copyBase (s.rd Reg.IMG_PERSIST_TARGET)) 4096 t ∧
    (frameTouches (addr % 65536) data.length 0x0038 0x0038 = false → t.otp = s.otp) ∧
    (frameTouches (addr % 65536) data.length 0x0100 0x01FF = false → s.stageBut 0 0 t) ∧
    s.stageBut (s.frameOfs (addr % 65536) data + (addr % 65536 - 0x0100)) data.length t ∧
    s.coachesBut (allWords [s.frameCoach (addr % 65536) (data.take 255)] ++ s.rgn.coaches.map (fun p => (p.1, 44))) t ∧
    ((addr % 65536 ≤ 0x4808 → addr % 65536 + data.length ≤ 0x4808) → s.causesKept t)) ∧
  (∀ (opc : ReqOpc) (addr : Nat) (len : Nat) (s t : State), exec (.lyaleUnknownOpc opc addr len) s = .next t → s.sameBut [Reg.HOST_DOOR_STEP,
      Reg.HOST_LAST_ADDR, Reg.HOST_LAST_OPC, Reg.HOST_LAST_STATUS] t ∧ s.causesKept t ∧
    t = { s with regs := t.regs, free := t.free, intCause := t.intCause, evcs := t.evcs, evcWrap := t.evcWrap, resp := t.resp, sent := t.sent }) ∧
  (∀ (s t : State), exec .evcSnapshot s = .next t → s.sameBut [Reg.HOST_DOOR_STEP, Reg.HOST_LAST_ADDR, Reg.HOST_LAST_OPC,
      Reg.HOST_LAST_STATUS] t ∧ s.causesKept t ∧
    t = { s with
        regs := t.regs, free := t.free, intCause := t.intCause, evcs := t.evcs, evcWrap := t.evcWrap, evcStamp := t.evcStamp,
        resp := t.resp, sent := t.sent }) ∧
  (∀ (s t : State), exec .evcClearAll s = .next t → s.sameBut [Reg.HOST_DOOR_STEP, Reg.HOST_LAST_ADDR, Reg.HOST_LAST_OPC,
      Reg.HOST_LAST_STATUS] t ∧ s.causesKept t ∧
    t = { s with regs := t.regs, free := t.free, intCause := t.intCause, evcs := t.evcs, evcWrap := t.evcWrap, resp := t.resp, sent := t.sent }) ∧
  (∀ (door : Fin 4) (arg : Nat) (s t : State), exec (.doorFirstStep door arg) s = .next t → s.sameBut [Reg.HOST_DOOR_STEP, Reg.HOST_LAST_ADDR,
      Reg.HOST_LAST_OPC, Reg.HOST_LAST_STATUS] t ∧ s.causesKept t ∧
    t = { s with regs := t.regs, free := t.free, intCause := t.intCause, evcs := t.evcs, evcWrap := t.evcWrap, resp := t.resp, sent := t.sent }) ∧
  (∀ (door : Fin 4) (arg : Nat) (s t : State), exec (.doorSecondStep door arg) s = .next t → s.sameBut [Reg.HOST_DOOR_OPEN, Reg.HOST_DOOR_STEP,
      Reg.HOST_LAST_ADDR, Reg.HOST_LAST_OPC, Reg.HOST_LAST_STATUS] t ∧ s.causesKept t ∧
    t = { s with regs := t.regs, free := t.free, intCause := t.intCause, evcs := t.evcs, evcWrap := t.evcWrap, resp := t.resp, sent := t.sent }) ∧
  (∀ (door : Fin 4) (s t : State), exec (.doorClose door) s = .next t → s.sameBut [Reg.HOST_DOOR_OPEN, Reg.HOST_DOOR_STEP, Reg.HOST_LAST_ADDR,
      Reg.HOST_LAST_OPC, Reg.HOST_LAST_STATUS] t ∧ s.causesKept t ∧
    t = { s with regs := t.regs, free := t.free, intCause := t.intCause, evcs := t.evcs, evcWrap := t.evcWrap, resp := t.resp, sent := t.sent }) ∧
  (∀ (value : Nat) (s t : State), exec (.hostHbWrite value) s = .next t → s.sameBut [Reg.HOST_DOOR_STEP, Reg.HOST_HB_CFG_LEFT, Reg.HOST_HB_COUNT,
      Reg.HOST_LAST_ADDR, Reg.HOST_LAST_OPC, Reg.HOST_LAST_STATUS, Reg.PWR_STAT_HOST_LOST] t ∧ s.causesKept t ∧
    t = { s with regs := t.regs, free := t.free, intCause := t.intCause, evcs := t.evcs, evcWrap := t.evcWrap, resp := t.resp, sent := t.sent }) ∧
  (∀ (value : Nat) (s t : State), exec (.hbTimeoutWrite value) s = .next t → s.sameBut [Reg.HOST_DOOR_STEP, Reg.HOST_HB_CFG_HB_TIMEOUT,
      Reg.HOST_HB_CFG_LEFT, Reg.HOST_LAST_ADDR, Reg.HOST_LAST_OPC, Reg.HOST_LAST_STATUS, Reg.PWR_STAT_HOST_LOST] t ∧ s.causesKept t ∧
    t = { s with regs := t.regs, free := t.free, intCause := t.intCause, evcs := t.evcs, evcWrap := t.evcWrap, resp := t.resp, sent := t.sent }) ∧
  (∀ (s t : State), exec .hatchRead s = .next t → s.sameBut [Reg.HOST_DOOR_STEP, Reg.HOST_LAST_ADDR, Reg.HOST_LAST_OPC,
      Reg.HOST_LAST_STATUS] t ∧ s.causesKept t ∧
    t = { s with
        regs := t.regs, free := t.free, intCause := t.intCause, evcs := t.evcs, evcWrap := t.evcWrap, hatch := t.hatch, resp := t.resp,
        sent := t.sent }) ∧
  (∀ (s t : State), exec .hatchProgram s = .next t → s.sameBut [Reg.HOST_DOOR_STEP, Reg.HOST_LAST_ADDR, Reg.HOST_LAST_OPC,
      Reg.HOST_LAST_STATUS] t ∧ s.causesKept t ∧
    t = { s with
        regs := t.regs, free := t.free, intCause := t.intCause, evcs := t.evcs, evcWrap := t.evcWrap, hatch := t.hatch, resp := t.resp,
        sent := t.sent }) ∧
  (∀ (s t : State), exec .hatchErase s = .next t → s.sameBut [Reg.HOST_DOOR_STEP, Reg.HOST_LAST_ADDR, Reg.HOST_LAST_OPC,
      Reg.HOST_LAST_STATUS] t ∧ s.causesKept t ∧
    t = { s with
        regs := t.regs, free := t.free, intCause := t.intCause, evcs := t.evcs, evcWrap := t.evcWrap, hatch := t.hatch, resp := t.resp,
        sent := t.sent }) ∧
  (∀ (value : Nat) (s t : State), exec (.evcCfgWrite value) s = .next t → s.sameBut [Reg.HOST_DOOR_STEP, Reg.HOST_LAST_ADDR, Reg.HOST_LAST_OPC,
      Reg.HOST_LAST_STATUS] t ∧ s.causesKept t ∧
    t = { s with regs := t.regs, free := t.free, intCause := t.intCause, evcs := t.evcs, evcWrap := t.evcWrap, resp := t.resp, sent := t.sent }) ∧
  (∀ (s t : State), exec .otpProgHash s = .next t → s.sameBut [Hid.otpOp, Reg.HOST_DOOR_STEP, Reg.HOST_LAST_ADDR, Reg.HOST_LAST_OPC,
      Reg.HOST_LAST_STATUS, Reg.OTP_PROG_BUSY, Reg.OTP_PROG_CMD] t ∧ s.causesKept t ∧
    t = { s with
        regs := t.regs, free := t.free, intCause := t.intCause, evcs := t.evcs, evcWrap := t.evcWrap, otp := t.otp, resp := t.resp,
        sent := t.sent }) ∧
  (∀ (s t : State), exec .otpProgSigned s = .next t → s.sameBut [Hid.otpOp, Reg.HOST_DOOR_STEP, Reg.HOST_LAST_ADDR, Reg.HOST_LAST_OPC,
      Reg.HOST_LAST_STATUS, Reg.OTP_PROG_BUSY, Reg.OTP_PROG_CMD] t ∧ s.causesKept t ∧
    t = { s with
        regs := t.regs, free := t.free, intCause := t.intCause, evcs := t.evcs, evcWrap := t.evcWrap, otp := t.otp, resp := t.resp,
        sent := t.sent }) ∧
  (∀ (s t : State), exec .dispOff s = .next t → s.sameBut [Hid.dispHold, Hid.dispOff, Hid.dispRb, Hid.dispUs, Reg.DISP_BAL_BAL,
      Reg.DISP_STAT_SLOT, Reg.DISP_STAT_STATE, Reg.HOST_DOOR_STEP, Reg.HOST_LAST_ADDR, Reg.HOST_LAST_OPC, Reg.HOST_LAST_STATUS] t ∧ s.causesKept t ∧
    t = { s with regs := t.regs, free := t.free, intCause := t.intCause, evcs := t.evcs, evcWrap := t.evcWrap, resp := t.resp, sent := t.sent }) ∧
  (∀ (s t : State), exec .dispOn s = .next t → s.sameBut [Hid.dispHold, Hid.dispOff, Hid.dispRb, Hid.dispUs, Reg.DISP_BAL_BAL,
      Reg.DISP_STAT_SLOT, Reg.DISP_STAT_STATE, Reg.HOST_DOOR_STEP, Reg.HOST_LAST_ADDR, Reg.HOST_LAST_OPC, Reg.HOST_LAST_STATUS] t ∧ s.causesKept t ∧
    t = { s with regs := t.regs, free := t.free, intCause := t.intCause, evcs := t.evcs, evcWrap := t.evcWrap, resp := t.resp, sent := t.sent })

/-- Whenever a step of a machine in canonical form answers a next state, that state is in canonical form: its register store and its
attached memories are sorted and list no resting value, and its sixteen counters, three converters and three calibrations are there.
(Rests on R5, R9, R302, R326, R405) -/
def Obligations.StepKeepsCanonicalForm : Prop :=
  ∀ s t : State, s.Canonical → step s = .next t → t.Canonical

/-- A step never clears the programmed hash, SIGNED or the BACnet/SC key, and never changes a hash or a key once programmed; and it
never changes the part's own OTP identity and trims. (Rests on R308, R363, R409, R410) -/
def Obligations.FusesStayBlown : Prop :=
  ∀ s t : State, step s = .next t →
    (s.otp.hashSet = true → t.otp.hashSet = true ∧ t.otp.hash = s.otp.hash) ∧ (s.otp.signed = true → t.otp.signed = true) ∧
    (s.otp.keySet = true → t.otp.keySet = true ∧ t.otp.priv = s.otp.priv ∧ t.otp.pub = s.otp.pub) ∧
    t.otp.part = s.otp.part ∧ t.otp.die = s.otp.die ∧ t.otp.lot = s.otp.lot ∧ t.otp.pos = s.otp.pos ∧ t.otp.mac = s.otp.mac ∧
    t.otp.lines = s.otp.lines ∧ t.otp.trims = s.otp.trims

/-- For every machine and every command, with any operands, the answer is a next state whose queue of waiting commands is the same.
That no command, with any operands, ends in a fault or a refusal is the model's choice: an operand that no message can hold is taken
as the message would hold it (log entry 5), and an event without a cause changes nothing (log entry 54). (Rests on R124, R390, R391,
R395) -/
def Obligations.EveryCommandCompletes : Prop :=
  ∀ (c : Instr) (s : State), ∃ t, exec c s = .next t ∧ t.pending = s.pending

/-- The machine after reset is in canonical form, waits in BOOT with cause 1 (power-on), with nothing to do: no command, no due
coach, no cause of INT_CAUSE, every door closed, no update, no persist and no hatch operation, all event counters at 0. Memory lists
nothing, which reads as 0xFF (the model's choice, log entry 17). That the state begins while the first boot reset's BOOT waits, and
the values of what the spec gives no reset value, are the model's choice (log entries 1 and 3). (Rests on R344, R345, R350, R393,
R399) -/
def Obligations.ResetState : Prop :=
  State.reset.Canonical ∧ State.reset.pending = [] ∧ State.reset.mode = mBoot ∧ State.reset.rd Reg.RST_CAUSE_CAUSE = 1 ∧
  State.reset.due = [] ∧ State.reset.intCause = 0 ∧ State.reset.rd Reg.HOST_DOOR_OPEN = 0 ∧ State.reset.rd Reg.HOST_DOOR_STEP = 0 ∧
  State.reset.rd Reg.RGN_CTRL_STATE = 0 ∧ State.reset.rd Reg.IMG_PERSIST_STATE = 0 ∧ State.reset.hatch.op = 0 ∧
  (∀ k : Nat, k < 16 → (State.reset.evcs.getD k {}).count = 0) ∧ (∀ a : Nat, Memory.read State.reset.flash a = 255) ∧
  State.reset.port = .busy

/-- LANE_TIMEOUT of the lane in position k answers what an evaluation answers in which run k delivers a result that differs (the
code 127 stands for no other result). (States R89) -/
def Obligations.SilentLaneCountsAsDiffering : Prop :=
  ∀ (s : State) (env : EvalEnv) (lane : Fin 3) (k : Nat), s.lanePos lane.val = some k →
    exec (.laneTimeout lane env) s = exec (.coachEvaluation { env with
      runs := setAt (env.runs ++ List.replicate (k + 1 - env.runs.length) .good) k (.bad 127) }) s

/-- A SET that loads and a time synchronization, whatever the old and the new time are, answer a next state with AF_A as it was.
(States R281) -/
def Obligations.TimeChangesDoNotFireAlarmA : Prop :=
  (∀ (s : State) (sub : Fin 32768), ∃ t, exec (.rtcSetLoad sub) s = .next t ∧ t.rd Reg.RTC_AFLAG_AF_A = s.rd Reg.RTC_AFLAG_AF_A) ∧
  (∀ (s : State) (utc : Bool) (time : SyncTime), ∃ t, exec (.timeSynchronization utc time) s = .next t ∧
    t.rd Reg.RTC_AFLAG_AF_A = s.rd Reg.RTC_AFLAG_AF_A)

/-- With SPEXT 0 the set-point of a loop is SP; with SPEXT 1 it lies between SP_LO and SP_HI in proportion to the code of the AIN
that SP_IN names, truncated towards zero, whatever that input's mode; a code of 4095 gives SP_HI exactly. (States R447) -/
def Obligations.Iz30SetPoint : Prop :=
  (∀ (s : State) (n : Fin 8), bit (s.iz (0x10 + 16 * n.val)) 2 = false → s.izSetpoint n.val = s.iz16 (0x14 + 16 * n.val)) ∧
  (∀ (s : State) (n : Fin 8), bit (s.iz (0x10 + 16 * n.val)) 2 = true →
    s.izSetpoint n.val = s.iz16 (0x1A + 16 * n.val) +
      Int.tdiv ((s.iz16 (0x1C + 16 * n.val) - s.iz16 (0x1A + 16 * n.val)) * (s.rdAt Hid.izCode (s.iz (0x12 + 16 * n.val) % 8) : Int)) 4095) ∧
  (∀ (s : State) (n : Fin 8), bit (s.iz (0x10 + 16 * n.val)) 2 = true → s.rdAt Hid.izCode (s.iz (0x12 + 16 * n.val) % 8) = 4095 →
    s.izSetpoint n.val = s.iz16 (0x1C + 16 * n.val))
end

