-- ==== Sys2Proof/Laws/Memory.lean ====
section
/-! SUPPORT. Laws of the attached memories: a read after a write, and the canonical form that every operation keeps. -/

namespace Sys2Proof.Machine

theorem Memory.wf_cons_iff (c : Host.Cell) (t : List Host.Cell) :
    Memory.wf (c :: t) = true ↔ c.2 ≠ 255#8 ∧ (∀ d ∈ t, c.1 < d.1) ∧ Memory.wf t = true := by
  induction t generalizing c with
  | nil => simp [Memory.wf]
  | cons d t ih =>
    simp only [Memory.wf, Bool.and_eq_true, bne_iff_ne, decide_eq_true_eq]
    constructor
    · rintro ⟨⟨h1, h2⟩, h3⟩
      refine ⟨h1, ?_, h3⟩
      intro e he
      rcases List.mem_cons.mp he with rfl | he
      · exact h2
      · exact lt_trans h2 (((ih d).mp h3).2.1 e he)
    · rintro ⟨h1, h2, h3⟩
      exact ⟨⟨h1, h2 d (by simp)⟩, h3⟩

/-- Leaving entries out keeps the canonical form. -/
theorem Memory.wf_filter {m : List Host.Cell} (p : Host.Cell → Bool) (h : Memory.wf m = true) : Memory.wf (m.filter p) = true := by
  induction m with
  | nil => rfl
  | cons c t ih =>
    have hc := (Memory.wf_cons_iff c t).mp h
    by_cases hp : p c
    · rw [List.filter_cons_of_pos hp, Memory.wf_cons_iff]
      exact ⟨hc.1, fun d hd => hc.2.1 d (List.mem_filter.mp hd).1, ih hc.2.2⟩
    · rw [List.filter_cons_of_neg hp]
      exact ih hc.2.2

theorem Memory.mem_insert {m : List Host.Cell} {x y : Host.Cell} (h : y ∈ Memory.insert m x) : y = x ∨ y ∈ m := by
  induction m with
  | nil => simpa [Memory.insert] using h
  | cons c t ih =>
    simp only [Memory.insert] at h
    split at h
    · rcases List.mem_cons.mp h with rfl | h
      · exact Or.inr (by simp)
      · rcases ih h with r | r
        · exact Or.inl r
        · exact Or.inr (by simp [r])
    · rcases List.mem_cons.mp h with rfl | h
      · exact Or.inl rfl
      · exact Or.inr h

theorem Memory.wf_insert {m : List Host.Cell} {x : Host.Cell} (h : Memory.wf m = true) (hx : x.2 ≠ 255#8)
    (hn : ∀ c ∈ m, c.1 ≠ x.1) : Memory.wf (Memory.insert m x) = true := by
  induction m with
  | nil => simpa [Memory.insert, Memory.wf] using hx
  | cons c t ih =>
    have hc := (Memory.wf_cons_iff c t).mp h
    simp only [Memory.insert]
    split
    · rename_i hl
      rw [Memory.wf_cons_iff]
      refine ⟨hc.1, ?_, ih hc.2.2 (fun d hd => hn d (by simp [hd]))⟩
      intro d hd
      rcases Memory.mem_insert hd with rfl | hd
      · exact hl
      · exact hc.2.1 d hd
    · rename_i hl
      have hne := hn c (by simp)
      rw [Memory.wf_cons_iff]
      refine ⟨hx, ?_, h⟩
      intro d hd
      rcases List.mem_cons.mp hd with rfl | hd
      · omega
      · have := hc.2.1 d hd
        omega

/-- Writing a byte keeps the canonical form. -/
theorem Memory.wf_write {m : List Host.Cell} (a v : Nat) (h : Memory.wf m = true) : Memory.wf (Memory.write m a v) = true := by
  unfold Memory.write
  split
  · exact Memory.wf_filter _ h
  · rename_i hv
    refine Memory.wf_insert (Memory.wf_filter _ h) ?_ ?_
    · intro he
      apply hv
      have := congrArg BitVec.toNat he
      simpa using this
    · intro c hc
      simpa using (List.mem_filter.mp hc).2

theorem Memory.wf_writes {m : List Host.Cell} (l : List (Nat × Nat)) (h : Memory.wf m = true) : Memory.wf (Memory.writes m l) = true := by
  unfold Memory.writes
  induction l generalizing m with
  | nil => exact h
  | cons p t ih => exact ih (Memory.wf_write _ _ h)

theorem Memory.wf_erase {m : List Host.Cell} (a n : Nat) (h : Memory.wf m = true) : Memory.wf (Memory.erase m a n) = true :=
  Memory.wf_filter _ h

theorem Memory.wf_program {m : List Host.Cell} (l : List (Nat × Nat)) (h : Memory.wf m = true) :
    Memory.wf (Memory.program m l) = true := by
  unfold Memory.program
  induction l generalizing m with
  | nil => exact h
  | cons p t ih => exact ih (Memory.wf_write _ _ h)

theorem Memory.read_drop_same (m : List Host.Cell) (a : Nat) : Memory.read (Memory.drop m a) a = 255 := by
  induction m with
  | nil => rfl
  | cons c t ih =>
    by_cases h : c.1 = a
    · simpa [Memory.drop, h] using ih
    · simpa [Memory.drop, h, Memory.read] using ih

theorem Memory.read_drop_ne (m : List Host.Cell) (a b : Nat) (h : b ≠ a) : Memory.read (Memory.drop m a) b = Memory.read m b := by
  induction m with
  | nil => rfl
  | cons c t ih =>
    have ih' : Memory.read (List.filter (fun c => c.1 != a) t) b = Memory.read t b := ih
    by_cases hc : c.1 = a
    · have : c.1 ≠ b := fun he => h (he.symm.trans hc)
      simp [Memory.drop, hc, Memory.read, ih', Ne.symm h]
    · simp [Memory.drop, hc, Memory.read, ih']

theorem Memory.read_insert_same (m : List Host.Cell) (x : Host.Cell) (h : ∀ c ∈ m, c.1 ≠ x.1) :
    Memory.read (Memory.insert m x) x.1 = x.2.toNat := by
  induction m with
  | nil => simp [Memory.insert, Memory.read]
  | cons c t ih =>
    simp only [Memory.insert]
    split
    · simp [Memory.read, h c (by simp), ih (fun d hd => h d (by simp [hd]))]
    · simp [Memory.read]

theorem Memory.read_insert_ne (m : List Host.Cell) (x : Host.Cell) (b : Nat) (h : b ≠ x.1) :
    Memory.read (Memory.insert m x) b = Memory.read m b := by
  induction m with
  | nil => simp [Memory.insert, Memory.read, Ne.symm h]
  | cons c t ih =>
    simp only [Memory.insert]
    split
    · simp [Memory.read, ih]
    · simp [Memory.read, Ne.symm h]

/-- A byte just written reads back. -/
@[simp] theorem Memory.read_write_same (m : List Host.Cell) (a v : Nat) : Memory.read (Memory.write m a v) a = v % 256 := by
  unfold Memory.write
  split
  · rename_i h
    rw [Memory.read_drop_same, h]
  · have := Memory.read_insert_same (Memory.drop m a) (a, BitVec.ofNat 8 v) (by
      intro c hc
      simpa using (List.mem_filter.mp hc).2)
    simpa using this

/-- A write leaves every other byte alone. -/
theorem Memory.read_write_ne (m : List Host.Cell) (a b v : Nat) (h : b ≠ a) : Memory.read (Memory.write m a v) b = Memory.read m b := by
  unfold Memory.write
  split
  · exact Memory.read_drop_ne m a b h
  · rw [Memory.read_insert_ne _ _ _ h, Memory.read_drop_ne _ _ _ h]

end Sys2Proof.Machine
end

