-- ==== Sys2Proof/Laws/Store.lean ====
section
/-! SUPPORT. Laws of the register store: a read after a write, and the canonical form, which every operation keeps. -/

namespace Sys2Proof.Machine

theorem Cell.at_iff (c : Cell) (id ch : Nat) : c.at id ch = true ↔ c.id = id ∧ c.ch = ch := by
  simp [Cell.at]

theorem Store.get_drop_same (l : List Cell) (id ch d : Nat) : Store.get (Store.drop l id ch) id ch d = d := by
  induction l with
  | nil => rfl
  | cons c t ih =>
    by_cases h : c.at id ch
    · simpa [Store.drop, h] using ih
    · simpa [Store.drop, h, Store.get] using ih

theorem Store.get_drop_ne (l : List Cell) (id ch id' ch' d : Nat) (h : ¬(id' = id ∧ ch' = ch)) :
    Store.get (Store.drop l id ch) id' ch' d = Store.get l id' ch' d := by
  induction l with
  | nil => rfl
  | cons c t ih =>
    by_cases hc : c.at id ch
    · have hn : c.at id' ch' = false := by
        rw [Cell.at_iff] at hc
        by_contra hx
        rw [Bool.not_eq_false, Cell.at_iff] at hx
        exact h ⟨hx.1.symm.trans hc.1, hx.2.symm.trans hc.2⟩
      simpa [Store.drop, hc, Store.get, hn] using ih
    · have ih' : Store.get (List.filter (fun c => !c.at id ch) t) id' ch' d = Store.get t id' ch' d := ih
      simp [Store.drop, hc, Store.get, ih']

theorem Store.get_insert_same (l : List Cell) (id ch v d : Nat) (h : ∀ c ∈ l, c.at id ch = false) :
    Store.get (Store.insert l ⟨id, ch, v⟩) id ch d = v := by
  induction l with
  | nil => simp [Store.insert, Store.get, Cell.at]
  | cons c t ih =>
    simp only [Store.insert]
    split
    · have hc := h c (by simp)
      simp only [Store.get, hc, Bool.false_eq_true, if_false]
      exact ih (fun x hx => h x (by simp [hx]))
    · simp [Store.get, Cell.at]

theorem Store.get_insert_ne (l : List Cell) (id ch v id' ch' d : Nat) (h : ¬(id' = id ∧ ch' = ch)) :
    Store.get (Store.insert l ⟨id, ch, v⟩) id' ch' d = Store.get l id' ch' d := by
  have hx : (⟨id, ch, v⟩ : Cell).at id' ch' = false := by
    by_contra hx
    rw [Bool.not_eq_false, Cell.at_iff] at hx
    exact h ⟨hx.1.symm, hx.2.symm⟩
  induction l with
  | nil => simp [Store.insert, Store.get, hx]
  | cons c t ih =>
    simp only [Store.insert]
    split
    · simp only [Store.get, ih]
    · simp [Store.get, hx]

/-- A read after a write to the same place gives the value written. -/
theorem Store.get_put_same (l : List Cell) (id ch d v : Nat) : Store.get (Store.put l id ch d v) id ch d = v := by
  unfold Store.put
  split
  · rename_i h
    rw [h]
    exact Store.get_drop_same l id ch d
  · apply Store.get_insert_same
    intro c hc
    simp only [Store.drop, List.mem_filter] at hc
    simpa using hc.2

/-- A write leaves every other place alone. -/
theorem Store.get_put_ne (l : List Cell) (id ch d v id' ch' d' : Nat) (h : ¬(id' = id ∧ ch' = ch)) :
    Store.get (Store.put l id ch d v) id' ch' d' = Store.get l id' ch' d' := by
  unfold Store.put
  split
  · exact Store.get_drop_ne l id ch id' ch' d' h
  · rw [Store.get_insert_ne _ _ _ _ _ _ _ h, Store.get_drop_ne _ _ _ _ _ _ h]

theorem Cell.before_iff (c : Cell) (id ch : Nat) : c.before id ch = true ↔ c.id < id ∨ (c.id = id ∧ c.ch < ch) := by
  simp [Cell.before]

theorem Store.sorted_filter {l : List Cell} (p : Cell → Bool) (h : Store.sorted l) : Store.sorted (l.filter p) :=
  List.Pairwise.filter p h

theorem Store.sorted_insert {l : List Cell} {x : Cell} (h : Store.sorted l) (hx : ∀ c ∈ l, c.at x.id x.ch = false) :
    Store.sorted (Store.insert l x) := by
  induction l with
  | nil => simp [Store.insert, Store.sorted]
  | cons c t ih =>
    have ht : Store.sorted t := (List.pairwise_cons.mp h).2
    have hc := (List.pairwise_cons.mp h).1
    simp only [Store.insert]
    split
    · rename_i hb
      refine List.pairwise_cons.mpr ⟨?_, ih ht (fun y hy => hx y (by simp [hy]))⟩
      intro y hy
      have hmem : ∀ (u : List Cell), y ∈ Store.insert u x → y = x ∨ y ∈ u := by
        intro u
        induction u with
        | nil => simp [Store.insert]
        | cons a b ihb =>
          simp only [Store.insert]
          split
          · intro hm
            rcases List.mem_cons.mp hm with rfl | hm
            · exact Or.inr (by simp)
            · rcases ihb hm with r | r
              · exact Or.inl r
              · exact Or.inr (by simp [r])
          · intro hm
            rcases List.mem_cons.mp hm with rfl | hm
            · exact Or.inl rfl
            · exact Or.inr hm
      rcases hmem t hy with rfl | hm
      · exact hb
      · exact hc y hm
    · rename_i hb
      have hne := hx c (by simp)
      have hxc : x.before c.id c.ch = true := by
        rw [Cell.before_iff]
        rw [Cell.before_iff] at hb
        have hn : ¬(c.id = x.id ∧ c.ch = x.ch) := fun hh => by
          have := (Cell.at_iff c x.id x.ch).mpr hh
          simp [this] at hne
        omega
      refine List.pairwise_cons.mpr ⟨?_, h⟩
      intro y hy
      rcases List.mem_cons.mp hy with rfl | hm
      · exact hxc
      · have h2 := hc y hm
        rw [Cell.before_iff] at hxc h2 ⊢
        omega

/-- A write keeps the canonical order. -/
theorem Store.sorted_put {l : List Cell} (id ch d v : Nat) (h : Store.sorted l) : Store.sorted (Store.put l id ch d v) := by
  unfold Store.put
  split
  · exact Store.sorted_filter _ h
  · refine Store.sorted_insert (Store.sorted_filter _ h) ?_
    intro c hc
    simp only [Store.drop, List.mem_filter] at hc
    simpa using hc.2

/-- Reading back a field of a channel just written. -/
@[simp] theorem State.rdAt_wrAt_same (s : State) (f : Fld) (ch v : Nat) : (s.wrAt f ch v).rdAt f ch = v % 2 ^ f.w :=
  Store.get_put_same _ _ _ _ _

/-- A write leaves the other fields and channels alone. -/
theorem State.rdAt_wrAt_ne (s : State) (f g : Fld) (ch k v : Nat) (h : ¬(g.id = f.id ∧ k = ch)) :
    (s.wrAt f ch v).rdAt g k = s.rdAt g k :=
  Store.get_put_ne _ _ _ _ _ _ _ _ h

@[simp] theorem State.rd_wr_same (s : State) (f : Fld) (v : Nat) : (s.wr f v).rd f = v % 2 ^ f.w :=
  State.rdAt_wrAt_same s f 0 v

/-- Reading a single field after a write of another. -/
theorem State.rd_wr_ne (s : State) (f g : Fld) (v : Nat) (h : g.id ≠ f.id) : (s.wr f v).rd g = s.rd g :=
  State.rdAt_wrAt_ne s f g 0 0 v (fun x => h x.1)

/-- Reading a field of a channel after a write of another field. -/
theorem State.rdAt_wrAt_id (s : State) (f g : Fld) (ch k v : Nat) (h : g.id ≠ f.id) : (s.wrAt f ch v).rdAt g k = s.rdAt g k :=
  State.rdAt_wrAt_ne s f g ch k v (fun x => h x.1)

end Sys2Proof.Machine
end

