-- ==== Sys2Proof/Laws/State.lean ====
section
/-! SUPPORT. What the named updates of the state leave alone: one lemma for each component of the state and each update. -/

namespace Sys2Proof.Machine

@[simp] theorem State.wrAt_pending (s : State) (f : Fld) (ch v : Nat) : (s.wrAt f ch v).pending = s.pending := rfl
@[simp] theorem State.wrAt_free (s : State) (f : Fld) (ch v : Nat) : (s.wrAt f ch v).free = s.free := rfl
@[simp] theorem State.wrAt_intCause (s : State) (f : Fld) (ch v : Nat) : (s.wrAt f ch v).intCause = s.intCause := rfl
@[simp] theorem State.wrAt_evcs (s : State) (f : Fld) (ch v : Nat) : (s.wrAt f ch v).evcs = s.evcs := rfl
@[simp] theorem State.wrAt_evcWrap (s : State) (f : Fld) (ch v : Nat) : (s.wrAt f ch v).evcWrap = s.evcWrap := rfl
@[simp] theorem State.wrAt_evcStamp (s : State) (f : Fld) (ch v : Nat) : (s.wrAt f ch v).evcStamp = s.evcStamp := rfl
@[simp] theorem State.wrAt_due (s : State) (f : Fld) (ch v : Nat) : (s.wrAt f ch v).due = s.due := rfl
@[simp] theorem State.wrAt_upsets (s : State) (f : Fld) (ch v : Nat) : (s.wrAt f ch v).upsets = s.upsets := rfl
@[simp] theorem State.wrAt_actQ (s : State) (f : Fld) (ch v : Nat) : (s.wrAt f ch v).actQ = s.actQ := rfl
@[simp] theorem State.wrAt_xchks (s : State) (f : Fld) (ch v : Nat) : (s.wrAt f ch v).xchks = s.xchks := rfl
@[simp] theorem State.wrAt_arb (s : State) (f : Fld) (ch v : Nat) : (s.wrAt f ch v).arb = s.arb := rfl
@[simp] theorem State.wrAt_convs (s : State) (f : Fld) (ch v : Nat) : (s.wrAt f ch v).convs = s.convs := rfl
@[simp] theorem State.wrAt_cals (s : State) (f : Fld) (ch v : Nat) : (s.wrAt f ch v).cals = s.cals := rfl
@[simp] theorem State.wrAt_relief (s : State) (f : Fld) (ch v : Nat) : (s.wrAt f ch v).relief = s.relief := rfl
@[simp] theorem State.wrAt_urgMore (s : State) (f : Fld) (ch v : Nat) : (s.wrAt f ch v).urgMore = s.urgMore := rfl
@[simp] theorem State.wrAt_pulses (s : State) (f : Fld) (ch v : Nat) : (s.wrAt f ch v).pulses = s.pulses := rfl
@[simp] theorem State.wrAt_snsTx (s : State) (f : Fld) (ch v : Nat) : (s.wrAt f ch v).snsTx = s.snsTx := rfl
@[simp] theorem State.wrAt_otp (s : State) (f : Fld) (ch v : Nat) : (s.wrAt f ch v).otp = s.otp := rfl
@[simp] theorem State.wrAt_avs (s : State) (f : Fld) (ch v : Nat) : (s.wrAt f ch v).avs = s.avs := rfl
@[simp] theorem State.wrAt_dmp (s : State) (f : Fld) (ch v : Nat) : (s.wrAt f ch v).dmp = s.dmp := rfl
@[simp] theorem State.wrAt_schedLog (s : State) (f : Fld) (ch v : Nat) : (s.wrAt f ch v).schedLog = s.schedLog := rfl
@[simp] theorem State.wrAt_flash (s : State) (f : Fld) (ch v : Nat) : (s.wrAt f ch v).flash = s.flash := rfl
@[simp] theorem State.wrAt_eeprom (s : State) (f : Fld) (ch v : Nat) : (s.wrAt f ch v).eeprom = s.eeprom := rfl
@[simp] theorem State.wrAt_rgn (s : State) (f : Fld) (ch v : Nat) : (s.wrAt f ch v).rgn = s.rgn := rfl
@[simp] theorem State.wrAt_hatch (s : State) (f : Fld) (ch v : Nat) : (s.wrAt f ch v).hatch = s.hatch := rfl
@[simp] theorem State.wrAt_resp (s : State) (f : Fld) (ch v : Nat) : (s.wrAt f ch v).resp = s.resp := rfl
@[simp] theorem State.wrAt_sent (s : State) (f : Fld) (ch v : Nat) : (s.wrAt f ch v).sent = s.sent := rfl
@[simp] theorem State.wrAt_netImg (s : State) (f : Fld) (ch v : Nat) : (s.wrAt f ch v).netImg = s.netImg := rfl
@[simp] theorem State.wrAt_net (s : State) (f : Fld) (ch v : Nat) : (s.wrAt f ch v).net = s.net := rfl
@[simp] theorem State.wrAt_drawn (s : State) (f : Fld) (ch v : Nat) : (s.wrAt f ch v).drawn = s.drawn := rfl
@[simp] theorem State.wrAt_held (s : State) (f : Fld) (ch v : Nat) : (s.wrAt f ch v).held = s.held := rfl
@[simp] theorem State.wrAt_fbBad (s : State) (f : Fld) (ch v : Nat) : (s.wrAt f ch v).fbBad = s.fbBad := rfl
@[simp] theorem State.wrAt_compBad (s : State) (f : Fld) (ch v : Nat) : (s.wrAt f ch v).compBad = s.compBad := rfl
@[simp] theorem State.wrAt_tap (s : State) (f : Fld) (ch v : Nat) : (s.wrAt f ch v).tap = s.tap := rfl

@[simp] theorem State.wr_pending (s : State) (f : Fld) (v : Nat) : (s.wr f v).pending = s.pending := rfl
@[simp] theorem State.wr_free (s : State) (f : Fld) (v : Nat) : (s.wr f v).free = s.free := rfl
@[simp] theorem State.wr_intCause (s : State) (f : Fld) (v : Nat) : (s.wr f v).intCause = s.intCause := rfl
@[simp] theorem State.wr_evcs (s : State) (f : Fld) (v : Nat) : (s.wr f v).evcs = s.evcs := rfl
@[simp] theorem State.wr_evcWrap (s : State) (f : Fld) (v : Nat) : (s.wr f v).evcWrap = s.evcWrap := rfl
@[simp] theorem State.wr_evcStamp (s : State) (f : Fld) (v : Nat) : (s.wr f v).evcStamp = s.evcStamp := rfl
@[simp] theorem State.wr_due (s : State) (f : Fld) (v : Nat) : (s.wr f v).due = s.due := rfl
@[simp] theorem State.wr_upsets (s : State) (f : Fld) (v : Nat) : (s.wr f v).upsets = s.upsets := rfl
@[simp] theorem State.wr_actQ (s : State) (f : Fld) (v : Nat) : (s.wr f v).actQ = s.actQ := rfl
@[simp] theorem State.wr_xchks (s : State) (f : Fld) (v : Nat) : (s.wr f v).xchks = s.xchks := rfl
@[simp] theorem State.wr_arb (s : State) (f : Fld) (v : Nat) : (s.wr f v).arb = s.arb := rfl
@[simp] theorem State.wr_convs (s : State) (f : Fld) (v : Nat) : (s.wr f v).convs = s.convs := rfl
@[simp] theorem State.wr_cals (s : State) (f : Fld) (v : Nat) : (s.wr f v).cals = s.cals := rfl
@[simp] theorem State.wr_relief (s : State) (f : Fld) (v : Nat) : (s.wr f v).relief = s.relief := rfl
@[simp] theorem State.wr_urgMore (s : State) (f : Fld) (v : Nat) : (s.wr f v).urgMore = s.urgMore := rfl
@[simp] theorem State.wr_pulses (s : State) (f : Fld) (v : Nat) : (s.wr f v).pulses = s.pulses := rfl
@[simp] theorem State.wr_snsTx (s : State) (f : Fld) (v : Nat) : (s.wr f v).snsTx = s.snsTx := rfl
@[simp] theorem State.wr_otp (s : State) (f : Fld) (v : Nat) : (s.wr f v).otp = s.otp := rfl
@[simp] theorem State.wr_avs (s : State) (f : Fld) (v : Nat) : (s.wr f v).avs = s.avs := rfl
@[simp] theorem State.wr_dmp (s : State) (f : Fld) (v : Nat) : (s.wr f v).dmp = s.dmp := rfl
@[simp] theorem State.wr_schedLog (s : State) (f : Fld) (v : Nat) : (s.wr f v).schedLog = s.schedLog := rfl
@[simp] theorem State.wr_flash (s : State) (f : Fld) (v : Nat) : (s.wr f v).flash = s.flash := rfl
@[simp] theorem State.wr_eeprom (s : State) (f : Fld) (v : Nat) : (s.wr f v).eeprom = s.eeprom := rfl
@[simp] theorem State.wr_rgn (s : State) (f : Fld) (v : Nat) : (s.wr f v).rgn = s.rgn := rfl
@[simp] theorem State.wr_hatch (s : State) (f : Fld) (v : Nat) : (s.wr f v).hatch = s.hatch := rfl
@[simp] theorem State.wr_resp (s : State) (f : Fld) (v : Nat) : (s.wr f v).resp = s.resp := rfl
@[simp] theorem State.wr_sent (s : State) (f : Fld) (v : Nat) : (s.wr f v).sent = s.sent := rfl
@[simp] theorem State.wr_netImg (s : State) (f : Fld) (v : Nat) : (s.wr f v).netImg = s.netImg := rfl
@[simp] theorem State.wr_net (s : State) (f : Fld) (v : Nat) : (s.wr f v).net = s.net := rfl
@[simp] theorem State.wr_drawn (s : State) (f : Fld) (v : Nat) : (s.wr f v).drawn = s.drawn := rfl
@[simp] theorem State.wr_held (s : State) (f : Fld) (v : Nat) : (s.wr f v).held = s.held := rfl
@[simp] theorem State.wr_fbBad (s : State) (f : Fld) (v : Nat) : (s.wr f v).fbBad = s.fbBad := rfl
@[simp] theorem State.wr_compBad (s : State) (f : Fld) (v : Nat) : (s.wr f v).compBad = s.compBad := rfl
@[simp] theorem State.wr_tap (s : State) (f : Fld) (v : Nat) : (s.wr f v).tap = s.tap := rfl

@[simp] theorem State.raise_pending (s : State) (n : Nat) : (s.raise n).pending = s.pending := rfl
@[simp] theorem State.raise_regs (s : State) (n : Nat) : (s.raise n).regs = s.regs := rfl
@[simp] theorem State.raise_free (s : State) (n : Nat) : (s.raise n).free = s.free := rfl
@[simp] theorem State.raise_evcs (s : State) (n : Nat) : (s.raise n).evcs = s.evcs := rfl
@[simp] theorem State.raise_evcWrap (s : State) (n : Nat) : (s.raise n).evcWrap = s.evcWrap := rfl
@[simp] theorem State.raise_evcStamp (s : State) (n : Nat) : (s.raise n).evcStamp = s.evcStamp := rfl
@[simp] theorem State.raise_due (s : State) (n : Nat) : (s.raise n).due = s.due := rfl
@[simp] theorem State.raise_upsets (s : State) (n : Nat) : (s.raise n).upsets = s.upsets := rfl
@[simp] theorem State.raise_actQ (s : State) (n : Nat) : (s.raise n).actQ = s.actQ := rfl
@[simp] theorem State.raise_xchks (s : State) (n : Nat) : (s.raise n).xchks = s.xchks := rfl
@[simp] theorem State.raise_arb (s : State) (n : Nat) : (s.raise n).arb = s.arb := rfl
@[simp] theorem State.raise_convs (s : State) (n : Nat) : (s.raise n).convs = s.convs := rfl
@[simp] theorem State.raise_cals (s : State) (n : Nat) : (s.raise n).cals = s.cals := rfl
@[simp] theorem State.raise_relief (s : State) (n : Nat) : (s.raise n).relief = s.relief := rfl
@[simp] theorem State.raise_urgMore (s : State) (n : Nat) : (s.raise n).urgMore = s.urgMore := rfl
@[simp] theorem State.raise_pulses (s : State) (n : Nat) : (s.raise n).pulses = s.pulses := rfl
@[simp] theorem State.raise_snsTx (s : State) (n : Nat) : (s.raise n).snsTx = s.snsTx := rfl
@[simp] theorem State.raise_otp (s : State) (n : Nat) : (s.raise n).otp = s.otp := rfl
@[simp] theorem State.raise_avs (s : State) (n : Nat) : (s.raise n).avs = s.avs := rfl
@[simp] theorem State.raise_dmp (s : State) (n : Nat) : (s.raise n).dmp = s.dmp := rfl
@[simp] theorem State.raise_schedLog (s : State) (n : Nat) : (s.raise n).schedLog = s.schedLog := rfl
@[simp] theorem State.raise_flash (s : State) (n : Nat) : (s.raise n).flash = s.flash := rfl
@[simp] theorem State.raise_eeprom (s : State) (n : Nat) : (s.raise n).eeprom = s.eeprom := rfl
@[simp] theorem State.raise_rgn (s : State) (n : Nat) : (s.raise n).rgn = s.rgn := rfl
@[simp] theorem State.raise_hatch (s : State) (n : Nat) : (s.raise n).hatch = s.hatch := rfl
@[simp] theorem State.raise_resp (s : State) (n : Nat) : (s.raise n).resp = s.resp := rfl
@[simp] theorem State.raise_sent (s : State) (n : Nat) : (s.raise n).sent = s.sent := rfl
@[simp] theorem State.raise_netImg (s : State) (n : Nat) : (s.raise n).netImg = s.netImg := rfl
@[simp] theorem State.raise_net (s : State) (n : Nat) : (s.raise n).net = s.net := rfl
@[simp] theorem State.raise_drawn (s : State) (n : Nat) : (s.raise n).drawn = s.drawn := rfl
@[simp] theorem State.raise_held (s : State) (n : Nat) : (s.raise n).held = s.held := rfl
@[simp] theorem State.raise_fbBad (s : State) (n : Nat) : (s.raise n).fbBad = s.fbBad := rfl
@[simp] theorem State.raise_compBad (s : State) (n : Nat) : (s.raise n).compBad = s.compBad := rfl
@[simp] theorem State.raise_tap (s : State) (n : Nat) : (s.raise n).tap = s.tap := rfl

@[simp] theorem State.takeFree_pending (s : State) : (s.takeFree.2).pending = s.pending := rfl
@[simp] theorem State.takeFree_regs (s : State) : (s.takeFree.2).regs = s.regs := rfl
@[simp] theorem State.takeFree_intCause (s : State) : (s.takeFree.2).intCause = s.intCause := rfl
@[simp] theorem State.takeFree_evcs (s : State) : (s.takeFree.2).evcs = s.evcs := rfl
@[simp] theorem State.takeFree_evcWrap (s : State) : (s.takeFree.2).evcWrap = s.evcWrap := rfl
@[simp] theorem State.takeFree_evcStamp (s : State) : (s.takeFree.2).evcStamp = s.evcStamp := rfl
@[simp] theorem State.takeFree_due (s : State) : (s.takeFree.2).due = s.due := rfl
@[simp] theorem State.takeFree_upsets (s : State) : (s.takeFree.2).upsets = s.upsets := rfl
@[simp] theorem State.takeFree_actQ (s : State) : (s.takeFree.2).actQ = s.actQ := rfl
@[simp] theorem State.takeFree_xchks (s : State) : (s.takeFree.2).xchks = s.xchks := rfl
@[simp] theorem State.takeFree_arb (s : State) : (s.takeFree.2).arb = s.arb := rfl
@[simp] theorem State.takeFree_convs (s : State) : (s.takeFree.2).convs = s.convs := rfl
@[simp] theorem State.takeFree_cals (s : State) : (s.takeFree.2).cals = s.cals := rfl
@[simp] theorem State.takeFree_relief (s : State) : (s.takeFree.2).relief = s.relief := rfl
@[simp] theorem State.takeFree_urgMore (s : State) : (s.takeFree.2).urgMore = s.urgMore := rfl
@[simp] theorem State.takeFree_pulses (s : State) : (s.takeFree.2).pulses = s.pulses := rfl
@[simp] theorem State.takeFree_snsTx (s : State) : (s.takeFree.2).snsTx = s.snsTx := rfl
@[simp] theorem State.takeFree_otp (s : State) : (s.takeFree.2).otp = s.otp := rfl
@[simp] theorem State.takeFree_avs (s : State) : (s.takeFree.2).avs = s.avs := rfl
@[simp] theorem State.takeFree_dmp (s : State) : (s.takeFree.2).dmp = s.dmp := rfl
@[simp] theorem State.takeFree_schedLog (s : State) : (s.takeFree.2).schedLog = s.schedLog := rfl
@[simp] theorem State.takeFree_flash (s : State) : (s.takeFree.2).flash = s.flash := rfl
@[simp] theorem State.takeFree_eeprom (s : State) : (s.takeFree.2).eeprom = s.eeprom := rfl
@[simp] theorem State.takeFree_rgn (s : State) : (s.takeFree.2).rgn = s.rgn := rfl
@[simp] theorem State.takeFree_hatch (s : State) : (s.takeFree.2).hatch = s.hatch := rfl
@[simp] theorem State.takeFree_resp (s : State) : (s.takeFree.2).resp = s.resp := rfl
@[simp] theorem State.takeFree_sent (s : State) : (s.takeFree.2).sent = s.sent := rfl
@[simp] theorem State.takeFree_netImg (s : State) : (s.takeFree.2).netImg = s.netImg := rfl
@[simp] theorem State.takeFree_net (s : State) : (s.takeFree.2).net = s.net := rfl
@[simp] theorem State.takeFree_drawn (s : State) : (s.takeFree.2).drawn = s.drawn := rfl
@[simp] theorem State.takeFree_held (s : State) : (s.takeFree.2).held = s.held := rfl
@[simp] theorem State.takeFree_fbBad (s : State) : (s.takeFree.2).fbBad = s.fbBad := rfl
@[simp] theorem State.takeFree_compBad (s : State) : (s.takeFree.2).compBad = s.compBad := rfl
@[simp] theorem State.takeFree_tap (s : State) : (s.takeFree.2).tap = s.tap := rfl

/-- A write's effect on the store. -/
theorem State.wrAt_regs (s : State) (f : Fld) (ch v : Nat) : (s.wrAt f ch v).regs = Store.put s.regs f.id ch f.boot (v % 2 ^ f.w) := rfl

/-- Reading a field looks at the store alone. -/
theorem State.rdAt_of_regs {s t : State} (h : t.regs = s.regs) (f : Fld) (ch : Nat) : t.rdAt f ch = s.rdAt f ch := by
  unfold State.rdAt
  rw [h]

@[simp] theorem State.raise_rdAt (s : State) (n : Nat) (f : Fld) (ch : Nat) : (s.raise n).rdAt f ch = s.rdAt f ch := rfl
@[simp] theorem State.raise_rd (s : State) (n : Nat) (f : Fld) : (s.raise n).rd f = s.rd f := rfl

/-- A cause that is raised stands. -/
theorem State.raise_stands (s : State) (n : Nat) : (s.raise n).intCause.testBit n = true := by
  simp [State.raise]

/-- What an event counter operation may change: the counters, their wraps and cause, and the free values taken. -/
def EvcOnly (s t : State) : Prop :=
  t = { s with free := t.free, intCause := t.intCause, evcs := t.evcs, evcWrap := t.evcWrap }

theorem EvcOnly.refl (s : State) : EvcOnly s s := rfl

theorem EvcOnly.trans {s t u : State} (h : EvcOnly s t) (g : EvcOnly t u) : EvcOnly s u := by
  unfold EvcOnly at *
  rw [g, h]

theorem EvcOnly.fold {α : Type} (g : State → α → State) (h : ∀ t a, EvcOnly t (g t a)) (l : List α) (s : State) :
    EvcOnly s (l.foldl g s) := by
  induction l generalizing s with
  | nil => exact EvcOnly.refl s
  | cons a l ih => exact (h s a).trans (ih (g s a))

theorem State.evcAdd_evcOnly (s : State) (k n : Nat) : EvcOnly s (s.evcAdd k n) := by
  unfold State.evcAdd
  dsimp only
  split <;> rfl

theorem State.evcAdd_free_evcOnly (s : State) (k n : Nat) : EvcOnly s ((s.takeFree.2).evcAdd k n) :=
  EvcOnly.trans (t := s.takeFree.2) rfl (State.evcAdd_evcOnly _ _ _)

/-- What counting an event changes. -/
theorem State.countN_evcOnly (s : State) (code n : Nat) : EvcOnly s (s.countN code n) := by
  unfold State.countN
  split
  · exact EvcOnly.refl s
  · refine EvcOnly.fold _ (fun t k => ?_) _ _
    dsimp only
    split
    · split
      · exact State.evcAdd_evcOnly _ _ _
      · exact State.evcAdd_free_evcOnly _ _ _
    · exact EvcOnly.refl t

theorem State.count_evcOnly (s : State) (code : Nat) : EvcOnly s (s.count code) := State.countN_evcOnly s code 1

theorem State.countIf_evcOnly (s : State) (b : Bool) (code : Nat) : EvcOnly s (s.countIf b code) := by
  unfold State.countIf
  split
  · exact State.count_evcOnly s code
  · exact EvcOnly.refl s

theorem State.countWords_evcOnly (s : State) (code n : Nat) (run first : Bool) : EvcOnly s (s.countWords code n run first) := by
  unfold State.countWords
  split
  · exact State.countN_evcOnly s code n
  · split
    · exact EvcOnly.refl s
    · refine EvcOnly.fold _ (fun t k => ?_) _ _
      dsimp only
      split
      · exact State.evcAdd_free_evcOnly _ _ _
      · exact EvcOnly.refl t

theorem State.levelPulse_evcOnly (s : State) (code : Nat) : EvcOnly s (s.levelPulse code) := by
  unfold State.levelPulse
  split
  · exact EvcOnly.refl s
  · refine EvcOnly.fold _ (fun t k => ?_) _ _
    dsimp only
    split
    · split
      · exact EvcOnly.trans (t := { t with evcs := _ }) rfl (State.evcAdd_evcOnly _ _ _)
      · rfl
    · exact EvcOnly.refl t

/-- What joining or leaving the hatch path changes. -/
theorem State.pathJoin_hatch (s : State) (k : Nat) : s.pathJoin k = { s with hatch := (s.pathJoin k).hatch } := by
  unfold State.pathJoin
  split <;> rfl

theorem State.pathLeave_hatch (s : State) (k : Nat) : s.pathLeave k = { s with hatch := (s.pathLeave k).hatch } := rfl

/-- What the end of a meaning changes. -/
theorem State.evcEdge_evcOnly (s : State) : EvcOnly s s.evcEdge := by
  unfold State.evcEdge
  split
  · exact EvcOnly.refl s
  · refine EvcOnly.fold _ (fun t k => ?_) _ _
    dsimp only
    split
    · split
      · exact EvcOnly.trans (t := { t with evcs := _ }) rfl (State.evcAdd_evcOnly _ _ _)
      · rfl
    · exact EvcOnly.refl t

/-- What the counters' part of a wheel tick changes. -/
theorem State.evcTick_evcOnly (s : State) : EvcOnly s s.evcTick := by
  unfold State.evcTick
  split
  · exact EvcOnly.refl s
  · refine EvcOnly.fold _ (fun t k => ?_) _ _
    dsimp only
    split
    · split
      · rfl
      · split
        · exact EvcOnly.trans (t := { t with evcs := _ }) rfl (State.evcAdd_evcOnly _ _ _)
        · exact EvcOnly.trans (t := { t with evcs := _ }) rfl (State.evcAdd_free_evcOnly _ _ _)
    · exact EvcOnly.refl t

theorem EvcOnly.pending {s t : State} (h : EvcOnly s t) : t.pending = s.pending := by rw [show t = _ from h]
theorem EvcOnly.regs {s t : State} (h : EvcOnly s t) : t.regs = s.regs := by rw [show t = _ from h]
theorem EvcOnly.evcStamp {s t : State} (h : EvcOnly s t) : t.evcStamp = s.evcStamp := by rw [show t = _ from h]
theorem EvcOnly.due {s t : State} (h : EvcOnly s t) : t.due = s.due := by rw [show t = _ from h]
theorem EvcOnly.upsets {s t : State} (h : EvcOnly s t) : t.upsets = s.upsets := by rw [show t = _ from h]
theorem EvcOnly.actQ {s t : State} (h : EvcOnly s t) : t.actQ = s.actQ := by rw [show t = _ from h]
theorem EvcOnly.xchks {s t : State} (h : EvcOnly s t) : t.xchks = s.xchks := by rw [show t = _ from h]
theorem EvcOnly.arb {s t : State} (h : EvcOnly s t) : t.arb = s.arb := by rw [show t = _ from h]
theorem EvcOnly.convs {s t : State} (h : EvcOnly s t) : t.convs = s.convs := by rw [show t = _ from h]
theorem EvcOnly.cals {s t : State} (h : EvcOnly s t) : t.cals = s.cals := by rw [show t = _ from h]
theorem EvcOnly.relief {s t : State} (h : EvcOnly s t) : t.relief = s.relief := by rw [show t = _ from h]
theorem EvcOnly.urgMore {s t : State} (h : EvcOnly s t) : t.urgMore = s.urgMore := by rw [show t = _ from h]
theorem EvcOnly.pulses {s t : State} (h : EvcOnly s t) : t.pulses = s.pulses := by rw [show t = _ from h]
theorem EvcOnly.snsTx {s t : State} (h : EvcOnly s t) : t.snsTx = s.snsTx := by rw [show t = _ from h]
theorem EvcOnly.otp {s t : State} (h : EvcOnly s t) : t.otp = s.otp := by rw [show t = _ from h]
theorem EvcOnly.avs {s t : State} (h : EvcOnly s t) : t.avs = s.avs := by rw [show t = _ from h]
theorem EvcOnly.dmp {s t : State} (h : EvcOnly s t) : t.dmp = s.dmp := by rw [show t = _ from h]
theorem EvcOnly.schedLog {s t : State} (h : EvcOnly s t) : t.schedLog = s.schedLog := by rw [show t = _ from h]
theorem EvcOnly.flash {s t : State} (h : EvcOnly s t) : t.flash = s.flash := by rw [show t = _ from h]
theorem EvcOnly.eeprom {s t : State} (h : EvcOnly s t) : t.eeprom = s.eeprom := by rw [show t = _ from h]
theorem EvcOnly.rgn {s t : State} (h : EvcOnly s t) : t.rgn = s.rgn := by rw [show t = _ from h]
theorem EvcOnly.hatch {s t : State} (h : EvcOnly s t) : t.hatch = s.hatch := by rw [show t = _ from h]
theorem EvcOnly.resp {s t : State} (h : EvcOnly s t) : t.resp = s.resp := by rw [show t = _ from h]
theorem EvcOnly.sent {s t : State} (h : EvcOnly s t) : t.sent = s.sent := by rw [show t = _ from h]
theorem EvcOnly.netImg {s t : State} (h : EvcOnly s t) : t.netImg = s.netImg := by rw [show t = _ from h]
theorem EvcOnly.net {s t : State} (h : EvcOnly s t) : t.net = s.net := by rw [show t = _ from h]
theorem EvcOnly.drawn {s t : State} (h : EvcOnly s t) : t.drawn = s.drawn := by rw [show t = _ from h]
theorem EvcOnly.held {s t : State} (h : EvcOnly s t) : t.held = s.held := by rw [show t = _ from h]
theorem EvcOnly.fbBad {s t : State} (h : EvcOnly s t) : t.fbBad = s.fbBad := by rw [show t = _ from h]
theorem EvcOnly.compBad {s t : State} (h : EvcOnly s t) : t.compBad = s.compBad := by rw [show t = _ from h]
theorem EvcOnly.tap {s t : State} (h : EvcOnly s t) : t.tap = s.tap := by rw [show t = _ from h]

@[simp] theorem State.countN_pending (s : State) (code n : Nat) : (s.countN code n).pending = s.pending := (State.countN_evcOnly s code n).pending
@[simp] theorem State.countN_regs (s : State) (code n : Nat) : (s.countN code n).regs = s.regs := (State.countN_evcOnly s code n).regs
@[simp] theorem State.countN_evcStamp (s : State) (code n : Nat) : (s.countN code n).evcStamp = s.evcStamp := (State.countN_evcOnly s code n).evcStamp
@[simp] theorem State.countN_due (s : State) (code n : Nat) : (s.countN code n).due = s.due := (State.countN_evcOnly s code n).due
@[simp] theorem State.countN_upsets (s : State) (code n : Nat) : (s.countN code n).upsets = s.upsets := (State.countN_evcOnly s code n).upsets
@[simp] theorem State.countN_actQ (s : State) (code n : Nat) : (s.countN code n).actQ = s.actQ := (State.countN_evcOnly s code n).actQ
@[simp] theorem State.countN_xchks (s : State) (code n : Nat) : (s.countN code n).xchks = s.xchks := (State.countN_evcOnly s code n).xchks
@[simp] theorem State.countN_arb (s : State) (code n : Nat) : (s.countN code n).arb = s.arb := (State.countN_evcOnly s code n).arb
@[simp] theorem State.countN_convs (s : State) (code n : Nat) : (s.countN code n).convs = s.convs := (State.countN_evcOnly s code n).convs
@[simp] theorem State.countN_cals (s : State) (code n : Nat) : (s.countN code n).cals = s.cals := (State.countN_evcOnly s code n).cals
@[simp] theorem State.countN_relief (s : State) (code n : Nat) : (s.countN code n).relief = s.relief := (State.countN_evcOnly s code n).relief
@[simp] theorem State.countN_urgMore (s : State) (code n : Nat) : (s.countN code n).urgMore = s.urgMore := (State.countN_evcOnly s code n).urgMore
@[simp] theorem State.countN_pulses (s : State) (code n : Nat) : (s.countN code n).pulses = s.pulses := (State.countN_evcOnly s code n).pulses
@[simp] theorem State.countN_snsTx (s : State) (code n : Nat) : (s.countN code n).snsTx = s.snsTx := (State.countN_evcOnly s code n).snsTx
@[simp] theorem State.countN_otp (s : State) (code n : Nat) : (s.countN code n).otp = s.otp := (State.countN_evcOnly s code n).otp
@[simp] theorem State.countN_avs (s : State) (code n : Nat) : (s.countN code n).avs = s.avs := (State.countN_evcOnly s code n).avs
@[simp] theorem State.countN_dmp (s : State) (code n : Nat) : (s.countN code n).dmp = s.dmp := (State.countN_evcOnly s code n).dmp
@[simp] theorem State.countN_schedLog (s : State) (code n : Nat) : (s.countN code n).schedLog = s.schedLog := (State.countN_evcOnly s code n).schedLog
@[simp] theorem State.countN_flash (s : State) (code n : Nat) : (s.countN code n).flash = s.flash := (State.countN_evcOnly s code n).flash
@[simp] theorem State.countN_eeprom (s : State) (code n : Nat) : (s.countN code n).eeprom = s.eeprom := (State.countN_evcOnly s code n).eeprom
@[simp] theorem State.countN_rgn (s : State) (code n : Nat) : (s.countN code n).rgn = s.rgn := (State.countN_evcOnly s code n).rgn
@[simp] theorem State.countN_hatch (s : State) (code n : Nat) : (s.countN code n).hatch = s.hatch := (State.countN_evcOnly s code n).hatch
@[simp] theorem State.countN_resp (s : State) (code n : Nat) : (s.countN code n).resp = s.resp := (State.countN_evcOnly s code n).resp
@[simp] theorem State.countN_sent (s : State) (code n : Nat) : (s.countN code n).sent = s.sent := (State.countN_evcOnly s code n).sent
@[simp] theorem State.countN_netImg (s : State) (code n : Nat) : (s.countN code n).netImg = s.netImg := (State.countN_evcOnly s code n).netImg
@[simp] theorem State.countN_net (s : State) (code n : Nat) : (s.countN code n).net = s.net := (State.countN_evcOnly s code n).net
@[simp] theorem State.countN_drawn (s : State) (code n : Nat) : (s.countN code n).drawn = s.drawn := (State.countN_evcOnly s code n).drawn
@[simp] theorem State.countN_held (s : State) (code n : Nat) : (s.countN code n).held = s.held := (State.countN_evcOnly s code n).held
@[simp] theorem State.countN_fbBad (s : State) (code n : Nat) : (s.countN code n).fbBad = s.fbBad := (State.countN_evcOnly s code n).fbBad
@[simp] theorem State.countN_compBad (s : State) (code n : Nat) : (s.countN code n).compBad = s.compBad := (State.countN_evcOnly s code n).compBad
@[simp] theorem State.countN_tap (s : State) (code n : Nat) : (s.countN code n).tap = s.tap := (State.countN_evcOnly s code n).tap
@[simp] theorem State.countN_rdAt (s : State) (code n : Nat) (f : Fld) (ch : Nat) : (s.countN code n).rdAt f ch = s.rdAt f ch :=
  State.rdAt_of_regs (State.countN_regs s code n) f ch
@[simp] theorem State.countN_rd (s : State) (code n : Nat) (f : Fld) : (s.countN code n).rd f = s.rd f := State.countN_rdAt s code n f 0

@[simp] theorem State.count_pending (s : State) (code : Nat) : (s.count code).pending = s.pending := (State.count_evcOnly s code).pending
@[simp] theorem State.count_regs (s : State) (code : Nat) : (s.count code).regs = s.regs := (State.count_evcOnly s code).regs
@[simp] theorem State.count_evcStamp (s : State) (code : Nat) : (s.count code).evcStamp = s.evcStamp := (State.count_evcOnly s code).evcStamp
@[simp] theorem State.count_due (s : State) (code : Nat) : (s.count code).due = s.due := (State.count_evcOnly s code).due
@[simp] theorem State.count_upsets (s : State) (code : Nat) : (s.count code).upsets = s.upsets := (State.count_evcOnly s code).upsets
@[simp] theorem State.count_actQ (s : State) (code : Nat) : (s.count code).actQ = s.actQ := (State.count_evcOnly s code).actQ
@[simp] theorem State.count_xchks (s : State) (code : Nat) : (s.count code).xchks = s.xchks := (State.count_evcOnly s code).xchks
@[simp] theorem State.count_arb (s : State) (code : Nat) : (s.count code).arb = s.arb := (State.count_evcOnly s code).arb
@[simp] theorem State.count_convs (s : State) (code : Nat) : (s.count code).convs = s.convs := (State.count_evcOnly s code).convs
@[simp] theorem State.count_cals (s : State) (code : Nat) : (s.count code).cals = s.cals := (State.count_evcOnly s code).cals
@[simp] theorem State.count_relief (s : State) (code : Nat) : (s.count code).relief = s.relief := (State.count_evcOnly s code).relief
@[simp] theorem State.count_urgMore (s : State) (code : Nat) : (s.count code).urgMore = s.urgMore := (State.count_evcOnly s code).urgMore
@[simp] theorem State.count_pulses (s : State) (code : Nat) : (s.count code).pulses = s.pulses := (State.count_evcOnly s code).pulses
@[simp] theorem State.count_snsTx (s : State) (code : Nat) : (s.count code).snsTx = s.snsTx := (State.count_evcOnly s code).snsTx
@[simp] theorem State.count_otp (s : State) (code : Nat) : (s.count code).otp = s.otp := (State.count_evcOnly s code).otp
@[simp] theorem State.count_avs (s : State) (code : Nat) : (s.count code).avs = s.avs := (State.count_evcOnly s code).avs
@[simp] theorem State.count_dmp (s : State) (code : Nat) : (s.count code).dmp = s.dmp := (State.count_evcOnly s code).dmp
@[simp] theorem State.count_schedLog (s : State) (code : Nat) : (s.count code).schedLog = s.schedLog := (State.count_evcOnly s code).schedLog
@[simp] theorem State.count_flash (s : State) (code : Nat) : (s.count code).flash = s.flash := (State.count_evcOnly s code).flash
@[simp] theorem State.count_eeprom (s : State) (code : Nat) : (s.count code).eeprom = s.eeprom := (State.count_evcOnly s code).eeprom
@[simp] theorem State.count_rgn (s : State) (code : Nat) : (s.count code).rgn = s.rgn := (State.count_evcOnly s code).rgn
@[simp] theorem State.count_hatch (s : State) (code : Nat) : (s.count code).hatch = s.hatch := (State.count_evcOnly s code).hatch
@[simp] theorem State.count_resp (s : State) (code : Nat) : (s.count code).resp = s.resp := (State.count_evcOnly s code).resp
@[simp] theorem State.count_sent (s : State) (code : Nat) : (s.count code).sent = s.sent := (State.count_evcOnly s code).sent
@[simp] theorem State.count_netImg (s : State) (code : Nat) : (s.count code).netImg = s.netImg := (State.count_evcOnly s code).netImg
@[simp] theorem State.count_net (s : State) (code : Nat) : (s.count code).net = s.net := (State.count_evcOnly s code).net
@[simp] theorem State.count_drawn (s : State) (code : Nat) : (s.count code).drawn = s.drawn := (State.count_evcOnly s code).drawn
@[simp] theorem State.count_held (s : State) (code : Nat) : (s.count code).held = s.held := (State.count_evcOnly s code).held
@[simp] theorem State.count_fbBad (s : State) (code : Nat) : (s.count code).fbBad = s.fbBad := (State.count_evcOnly s code).fbBad
@[simp] theorem State.count_compBad (s : State) (code : Nat) : (s.count code).compBad = s.compBad := (State.count_evcOnly s code).compBad
@[simp] theorem State.count_tap (s : State) (code : Nat) : (s.count code).tap = s.tap := (State.count_evcOnly s code).tap
@[simp] theorem State.count_rdAt (s : State) (code : Nat) (f : Fld) (ch : Nat) : (s.count code).rdAt f ch = s.rdAt f ch :=
  State.rdAt_of_regs (State.count_regs s code) f ch
@[simp] theorem State.count_rd (s : State) (code : Nat) (f : Fld) : (s.count code).rd f = s.rd f := State.count_rdAt s code f 0

@[simp] theorem State.countIf_pending (s : State) (b : Bool) (code : Nat) : (s.countIf b code).pending = s.pending := (State.countIf_evcOnly s b code).pending
@[simp] theorem State.countIf_regs (s : State) (b : Bool) (code : Nat) : (s.countIf b code).regs = s.regs := (State.countIf_evcOnly s b code).regs
@[simp] theorem State.countIf_evcStamp (s : State) (b : Bool) (code : Nat) : (s.countIf b code).evcStamp = s.evcStamp := (State.countIf_evcOnly s b code).evcStamp
@[simp] theorem State.countIf_due (s : State) (b : Bool) (code : Nat) : (s.countIf b code).due = s.due := (State.countIf_evcOnly s b code).due
@[simp] theorem State.countIf_upsets (s : State) (b : Bool) (code : Nat) : (s.countIf b code).upsets = s.upsets := (State.countIf_evcOnly s b code).upsets
@[simp] theorem State.countIf_actQ (s : State) (b : Bool) (code : Nat) : (s.countIf b code).actQ = s.actQ := (State.countIf_evcOnly s b code).actQ
@[simp] theorem State.countIf_xchks (s : State) (b : Bool) (code : Nat) : (s.countIf b code).xchks = s.xchks := (State.countIf_evcOnly s b code).xchks
@[simp] theorem State.countIf_arb (s : State) (b : Bool) (code : Nat) : (s.countIf b code).arb = s.arb := (State.countIf_evcOnly s b code).arb
@[simp] theorem State.countIf_convs (s : State) (b : Bool) (code : Nat) : (s.countIf b code).convs = s.convs := (State.countIf_evcOnly s b code).convs
@[simp] theorem State.countIf_cals (s : State) (b : Bool) (code : Nat) : (s.countIf b code).cals = s.cals := (State.countIf_evcOnly s b code).cals
@[simp] theorem State.countIf_relief (s : State) (b : Bool) (code : Nat) : (s.countIf b code).relief = s.relief := (State.countIf_evcOnly s b code).relief
@[simp] theorem State.countIf_urgMore (s : State) (b : Bool) (code : Nat) : (s.countIf b code).urgMore = s.urgMore := (State.countIf_evcOnly s b code).urgMore
@[simp] theorem State.countIf_pulses (s : State) (b : Bool) (code : Nat) : (s.countIf b code).pulses = s.pulses := (State.countIf_evcOnly s b code).pulses
@[simp] theorem State.countIf_snsTx (s : State) (b : Bool) (code : Nat) : (s.countIf b code).snsTx = s.snsTx := (State.countIf_evcOnly s b code).snsTx
@[simp] theorem State.countIf_otp (s : State) (b : Bool) (code : Nat) : (s.countIf b code).otp = s.otp := (State.countIf_evcOnly s b code).otp
@[simp] theorem State.countIf_avs (s : State) (b : Bool) (code : Nat) : (s.countIf b code).avs = s.avs := (State.countIf_evcOnly s b code).avs
@[simp] theorem State.countIf_dmp (s : State) (b : Bool) (code : Nat) : (s.countIf b code).dmp = s.dmp := (State.countIf_evcOnly s b code).dmp
@[simp] theorem State.countIf_schedLog (s : State) (b : Bool) (code : Nat) : (s.countIf b code).schedLog = s.schedLog := (State.countIf_evcOnly s b code).schedLog
@[simp] theorem State.countIf_flash (s : State) (b : Bool) (code : Nat) : (s.countIf b code).flash = s.flash := (State.countIf_evcOnly s b code).flash
@[simp] theorem State.countIf_eeprom (s : State) (b : Bool) (code : Nat) : (s.countIf b code).eeprom = s.eeprom := (State.countIf_evcOnly s b code).eeprom
@[simp] theorem State.countIf_rgn (s : State) (b : Bool) (code : Nat) : (s.countIf b code).rgn = s.rgn := (State.countIf_evcOnly s b code).rgn
@[simp] theorem State.countIf_hatch (s : State) (b : Bool) (code : Nat) : (s.countIf b code).hatch = s.hatch := (State.countIf_evcOnly s b code).hatch
@[simp] theorem State.countIf_resp (s : State) (b : Bool) (code : Nat) : (s.countIf b code).resp = s.resp := (State.countIf_evcOnly s b code).resp
@[simp] theorem State.countIf_sent (s : State) (b : Bool) (code : Nat) : (s.countIf b code).sent = s.sent := (State.countIf_evcOnly s b code).sent
@[simp] theorem State.countIf_netImg (s : State) (b : Bool) (code : Nat) : (s.countIf b code).netImg = s.netImg := (State.countIf_evcOnly s b code).netImg
@[simp] theorem State.countIf_net (s : State) (b : Bool) (code : Nat) : (s.countIf b code).net = s.net := (State.countIf_evcOnly s b code).net
@[simp] theorem State.countIf_drawn (s : State) (b : Bool) (code : Nat) : (s.countIf b code).drawn = s.drawn := (State.countIf_evcOnly s b code).drawn
@[simp] theorem State.countIf_held (s : State) (b : Bool) (code : Nat) : (s.countIf b code).held = s.held := (State.countIf_evcOnly s b code).held
@[simp] theorem State.countIf_fbBad (s : State) (b : Bool) (code : Nat) : (s.countIf b code).fbBad = s.fbBad := (State.countIf_evcOnly s b code).fbBad
@[simp] theorem State.countIf_compBad (s : State) (b : Bool) (code : Nat) : (s.countIf b code).compBad = s.compBad := (State.countIf_evcOnly s b code).compBad
@[simp] theorem State.countIf_tap (s : State) (b : Bool) (code : Nat) : (s.countIf b code).tap = s.tap := (State.countIf_evcOnly s b code).tap
@[simp] theorem State.countIf_rdAt (s : State) (b : Bool) (code : Nat) (f : Fld) (ch : Nat) : (s.countIf b code).rdAt f ch = s.rdAt f ch :=
  State.rdAt_of_regs (State.countIf_regs s b code) f ch
@[simp] theorem State.countIf_rd (s : State) (b : Bool) (code : Nat) (f : Fld) : (s.countIf b code).rd f = s.rd f := State.countIf_rdAt s b code f 0

@[simp] theorem State.evcEdge_pending (s : State) : (s.evcEdge).pending = s.pending := (State.evcEdge_evcOnly s).pending
@[simp] theorem State.evcEdge_regs (s : State) : (s.evcEdge).regs = s.regs := (State.evcEdge_evcOnly s).regs
@[simp] theorem State.evcEdge_evcStamp (s : State) : (s.evcEdge).evcStamp = s.evcStamp := (State.evcEdge_evcOnly s).evcStamp
@[simp] theorem State.evcEdge_due (s : State) : (s.evcEdge).due = s.due := (State.evcEdge_evcOnly s).due
@[simp] theorem State.evcEdge_upsets (s : State) : (s.evcEdge).upsets = s.upsets := (State.evcEdge_evcOnly s).upsets
@[simp] theorem State.evcEdge_actQ (s : State) : (s.evcEdge).actQ = s.actQ := (State.evcEdge_evcOnly s).actQ
@[simp] theorem State.evcEdge_xchks (s : State) : (s.evcEdge).xchks = s.xchks := (State.evcEdge_evcOnly s).xchks
@[simp] theorem State.evcEdge_arb (s : State) : (s.evcEdge).arb = s.arb := (State.evcEdge_evcOnly s).arb
@[simp] theorem State.evcEdge_convs (s : State) : (s.evcEdge).convs = s.convs := (State.evcEdge_evcOnly s).convs
@[simp] theorem State.evcEdge_cals (s : State) : (s.evcEdge).cals = s.cals := (State.evcEdge_evcOnly s).cals
@[simp] theorem State.evcEdge_relief (s : State) : (s.evcEdge).relief = s.relief := (State.evcEdge_evcOnly s).relief
@[simp] theorem State.evcEdge_urgMore (s : State) : (s.evcEdge).urgMore = s.urgMore := (State.evcEdge_evcOnly s).urgMore
@[simp] theorem State.evcEdge_pulses (s : State) : (s.evcEdge).pulses = s.pulses := (State.evcEdge_evcOnly s).pulses
@[simp] theorem State.evcEdge_snsTx (s : State) : (s.evcEdge).snsTx = s.snsTx := (State.evcEdge_evcOnly s).snsTx
@[simp] theorem State.evcEdge_otp (s : State) : (s.evcEdge).otp = s.otp := (State.evcEdge_evcOnly s).otp
@[simp] theorem State.evcEdge_avs (s : State) : (s.evcEdge).avs = s.avs := (State.evcEdge_evcOnly s).avs
@[simp] theorem State.evcEdge_dmp (s : State) : (s.evcEdge).dmp = s.dmp := (State.evcEdge_evcOnly s).dmp
@[simp] theorem State.evcEdge_schedLog (s : State) : (s.evcEdge).schedLog = s.schedLog := (State.evcEdge_evcOnly s).schedLog
@[simp] theorem State.evcEdge_flash (s : State) : (s.evcEdge).flash = s.flash := (State.evcEdge_evcOnly s).flash
@[simp] theorem State.evcEdge_eeprom (s : State) : (s.evcEdge).eeprom = s.eeprom := (State.evcEdge_evcOnly s).eeprom
@[simp] theorem State.evcEdge_rgn (s : State) : (s.evcEdge).rgn = s.rgn := (State.evcEdge_evcOnly s).rgn
@[simp] theorem State.evcEdge_hatch (s : State) : (s.evcEdge).hatch = s.hatch := (State.evcEdge_evcOnly s).hatch
@[simp] theorem State.evcEdge_resp (s : State) : (s.evcEdge).resp = s.resp := (State.evcEdge_evcOnly s).resp
@[simp] theorem State.evcEdge_sent (s : State) : (s.evcEdge).sent = s.sent := (State.evcEdge_evcOnly s).sent
@[simp] theorem State.evcEdge_netImg (s : State) : (s.evcEdge).netImg = s.netImg := (State.evcEdge_evcOnly s).netImg
@[simp] theorem State.evcEdge_net (s : State) : (s.evcEdge).net = s.net := (State.evcEdge_evcOnly s).net
@[simp] theorem State.evcEdge_drawn (s : State) : (s.evcEdge).drawn = s.drawn := (State.evcEdge_evcOnly s).drawn
@[simp] theorem State.evcEdge_held (s : State) : (s.evcEdge).held = s.held := (State.evcEdge_evcOnly s).held
@[simp] theorem State.evcEdge_fbBad (s : State) : (s.evcEdge).fbBad = s.fbBad := (State.evcEdge_evcOnly s).fbBad
@[simp] theorem State.evcEdge_compBad (s : State) : (s.evcEdge).compBad = s.compBad := (State.evcEdge_evcOnly s).compBad
@[simp] theorem State.evcEdge_tap (s : State) : (s.evcEdge).tap = s.tap := (State.evcEdge_evcOnly s).tap
@[simp] theorem State.evcEdge_rdAt (s : State) (f : Fld) (ch : Nat) : (s.evcEdge).rdAt f ch = s.rdAt f ch :=
  State.rdAt_of_regs (State.evcEdge_regs s) f ch
@[simp] theorem State.evcEdge_rd (s : State) (f : Fld) : (s.evcEdge).rd f = s.rd f := State.evcEdge_rdAt s f 0

@[simp] theorem State.evcTick_pending (s : State) : (s.evcTick).pending = s.pending := (State.evcTick_evcOnly s).pending
@[simp] theorem State.evcTick_regs (s : State) : (s.evcTick).regs = s.regs := (State.evcTick_evcOnly s).regs
@[simp] theorem State.evcTick_evcStamp (s : State) : (s.evcTick).evcStamp = s.evcStamp := (State.evcTick_evcOnly s).evcStamp
@[simp] theorem State.evcTick_due (s : State) : (s.evcTick).due = s.due := (State.evcTick_evcOnly s).due
@[simp] theorem State.evcTick_upsets (s : State) : (s.evcTick).upsets = s.upsets := (State.evcTick_evcOnly s).upsets
@[simp] theorem State.evcTick_actQ (s : State) : (s.evcTick).actQ = s.actQ := (State.evcTick_evcOnly s).actQ
@[simp] theorem State.evcTick_xchks (s : State) : (s.evcTick).xchks = s.xchks := (State.evcTick_evcOnly s).xchks
@[simp] theorem State.evcTick_arb (s : State) : (s.evcTick).arb = s.arb := (State.evcTick_evcOnly s).arb
@[simp] theorem State.evcTick_convs (s : State) : (s.evcTick).convs = s.convs := (State.evcTick_evcOnly s).convs
@[simp] theorem State.evcTick_cals (s : State) : (s.evcTick).cals = s.cals := (State.evcTick_evcOnly s).cals
@[simp] theorem State.evcTick_relief (s : State) : (s.evcTick).relief = s.relief := (State.evcTick_evcOnly s).relief
@[simp] theorem State.evcTick_urgMore (s : State) : (s.evcTick).urgMore = s.urgMore := (State.evcTick_evcOnly s).urgMore
@[simp] theorem State.evcTick_pulses (s : State) : (s.evcTick).pulses = s.pulses := (State.evcTick_evcOnly s).pulses
@[simp] theorem State.evcTick_snsTx (s : State) : (s.evcTick).snsTx = s.snsTx := (State.evcTick_evcOnly s).snsTx
@[simp] theorem State.evcTick_otp (s : State) : (s.evcTick).otp = s.otp := (State.evcTick_evcOnly s).otp
@[simp] theorem State.evcTick_avs (s : State) : (s.evcTick).avs = s.avs := (State.evcTick_evcOnly s).avs
@[simp] theorem State.evcTick_dmp (s : State) : (s.evcTick).dmp = s.dmp := (State.evcTick_evcOnly s).dmp
@[simp] theorem State.evcTick_schedLog (s : State) : (s.evcTick).schedLog = s.schedLog := (State.evcTick_evcOnly s).schedLog
@[simp] theorem State.evcTick_flash (s : State) : (s.evcTick).flash = s.flash := (State.evcTick_evcOnly s).flash
@[simp] theorem State.evcTick_eeprom (s : State) : (s.evcTick).eeprom = s.eeprom := (State.evcTick_evcOnly s).eeprom
@[simp] theorem State.evcTick_rgn (s : State) : (s.evcTick).rgn = s.rgn := (State.evcTick_evcOnly s).rgn
@[simp] theorem State.evcTick_hatch (s : State) : (s.evcTick).hatch = s.hatch := (State.evcTick_evcOnly s).hatch
@[simp] theorem State.evcTick_resp (s : State) : (s.evcTick).resp = s.resp := (State.evcTick_evcOnly s).resp
@[simp] theorem State.evcTick_sent (s : State) : (s.evcTick).sent = s.sent := (State.evcTick_evcOnly s).sent
@[simp] theorem State.evcTick_netImg (s : State) : (s.evcTick).netImg = s.netImg := (State.evcTick_evcOnly s).netImg
@[simp] theorem State.evcTick_net (s : State) : (s.evcTick).net = s.net := (State.evcTick_evcOnly s).net
@[simp] theorem State.evcTick_drawn (s : State) : (s.evcTick).drawn = s.drawn := (State.evcTick_evcOnly s).drawn
@[simp] theorem State.evcTick_held (s : State) : (s.evcTick).held = s.held := (State.evcTick_evcOnly s).held
@[simp] theorem State.evcTick_fbBad (s : State) : (s.evcTick).fbBad = s.fbBad := (State.evcTick_evcOnly s).fbBad
@[simp] theorem State.evcTick_compBad (s : State) : (s.evcTick).compBad = s.compBad := (State.evcTick_evcOnly s).compBad
@[simp] theorem State.evcTick_tap (s : State) : (s.evcTick).tap = s.tap := (State.evcTick_evcOnly s).tap
@[simp] theorem State.evcTick_rdAt (s : State) (f : Fld) (ch : Nat) : (s.evcTick).rdAt f ch = s.rdAt f ch :=
  State.rdAt_of_regs (State.evcTick_regs s) f ch
@[simp] theorem State.evcTick_rd (s : State) (f : Fld) : (s.evcTick).rd f = s.rd f := State.evcTick_rdAt s f 0

/-- The end of a meaning answers a next state. -/
theorem fin_next (t : State) : fin t = .next t.evcEdge := rfl

end Sys2Proof.Machine
end

