-- ==== Sys2Proof/Tests/Slice0.lean ====
section
/-! SUPPORT. Tests: the smoke test of the checks on operands, small tests whose results come from the spec's text, and for each
clause of a statement that has hypotheses a state and operands that meet all of them together. -/

namespace Sys2Proof.Tests

open Sys2Proof Sys2Proof.Machine

set_option maxRecDepth 100000
set_option linter.unusedVariables false

def mk (l : List (Fld × Nat × Nat)) : State := ({} : State).each l (fun t p => t.wrAt p.1 p.2.1 p.2.2)
def mkN (mode : Nat) (l : List (Fld × Nat)) : State := (({} : State).wr Reg.PWR_MODE_MODE mode).wrs l
def mkStage (st : Nat) (l : List Nat) : State :=
  (mk [(Reg.PWR_MODE_MODE, 0, 4), (Reg.RGN_CTRL_STATE, 0, st), (Reg.RGN_CTRL_TYPE, 0, l.headD 0 / 65536)]).each (upTo (l.length + 1)) (fun t k => t.wrAt Hid.stage k ((l ++ [crcWords l]).getD k 0))
def wGroup : State := { mkStage 3 ([0xB002B, 0x0105] ++ List.replicate 42 0) with rgn := { coaches := [(5, 0)] } }
def okState (s : State) : State :=
  let a := s.wrs [(Reg.SUPV_WDT_TIMEOUT, 100), (Reg.CONV_VREF_VREF, 20480), (Reg.FAN_MOTOR_POLES, 1), (Reg.FAN_RAMP_RAMP_MS, 100),
    (Reg.FAN_ACCEL_ACCEL, 1), (Reg.FAN_ACCEL_DECEL, 1), (Reg.FAN_ILIM_OC_TRIP, 1), (Reg.FAN_THR_THR1, 1), (Reg.FAN_THR_THR2, 1),
    (Reg.FAN_THR_THR3, 1), (Reg.FAN_PWM_DEAD, 5), (Reg.FAN_PWM_TMIN, 20), (Reg.FAN_PWM_RSHUNT, 1), (Reg.VLV_DIAG_CFG_DIAG_PERIOD, 1),
    (Reg.DMP_SCHED_THR1, 1), (Reg.DMP_SCHED_THR2, 1), (Reg.DMP_SCHED_THR3, 1), (Reg.NET_FDR_TTL, 30), (Reg.NET_SUP_NET_TO, 10),
    (Reg.DISP_CTRL_REFRESH, 1)]
  let b := a.wrAt Reg.CONV_SCAN_HI_MASK 0 0x3FC00000
  let c := b.each (upTo 8) (fun t n => t.wrsAt n [(Reg.VLV_TIMING_PEAK_WAIT, 10), (Reg.VLV_TIMING_T_RISE, 1), (Reg.VLV_TIMING_PULSE_PERIOD, 100), (Reg.VLV_THERM_V_RATED, 1000)])
  let d := c.each (upTo 4) (fun t n => t.wrsAt n [(Reg.OCC_TIME_NF_SHIFT, 1), (Reg.DMP_TRAVEL_STEPS, 20), (Reg.DMP_CURRENT_I_RUN, 50),
    (Reg.DMP_SPEED_SPEED, 10), (Reg.DMP_SPEED_ACCEL, 10), (Reg.DMP_STALL_STALL_N, 1)])
  let e := d.each (upTo 2) (fun t n => t.wrsAt n [(Reg.FANT_LIM_START_DUTY, 19661), (Reg.BUS_MSTP_MAX_MASTER, 1), (Reg.BUS_MSTP_MAX_INFO, 1)])
  let f := e.each (upTo 16) (fun t k => t.wrAt Reg.FANT_SD_RPM k (k % 8))
  let g := f.each (upTo 24) (fun t k => t.wrAt Reg.FANA_PT_TEMP k (k % 8))
  g.imageDefaults
def mbState : State := mk [(Reg.PWR_MODE_MODE, 0, 4), (Reg.NET_STAT_PP_RUN, 0, 1), (Reg.NET_CTRL_EN, 0, 8), (Reg.BUS_CFG_PROTO, 0, 2), (Reg.BUS_CFG_ADDR, 0, 17)]
def mbC : MbClient := ⟨0, 9, 3, 100, 1, 0x3F800000, 0, 7, 10⟩
def mbClient : State := { mk [(Reg.PWR_MODE_MODE, 0, 4), (Reg.NET_STAT_PP_RUN, 0, 1), (Reg.NET_CTRL_EN, 0, 8), (Reg.BUS_CFG_PROTO, 0, 3)] with netImg := { clients := [mbC] } }
def bacState : State := mkN 4 [(Reg.NET_STAT_PP_RUN, 1), (Reg.NET_CTRL_EN, 3), (Reg.NET_STAT_LINK, 1), (Reg.NET_STAT_IP_OK, 1)]
def hostCoach (c st : Nat) : State := (mkN 4 [(Reg.HOST_DOOR_OPEN, 1), (Reg.COACH_SEL_SEL, c)]).wrCoach c 44 st
def nextOf (o : Host.Outcome State Fault Refusal) : State := match o with | .next t => t | _ => {}
def canonS : State := { mkN 4 [(Reg.SUPV_WDT_REMAIN, 10)] with pending := [.vbatLow, .holdLong] }
def canonT : State := nextOf (step canonS)
def wState : State := mkN 4 []
def isNext (o : Host.Outcome State Fault Refusal) : Bool := match o with | .next _ => true | _ => false
theorem completes {o : Host.Outcome State Fault Refusal} (h : isNext o = true) : ∃ t : State, o = .next t := by
  cases o with
  | next t => exact ⟨t, rfl⟩
  | fault r => cases h
  | refused r => cases h

/-! The operands that cannot be: one command for each check of Instr.wellFormed. It completes as well. -/

theorem test_resource_rank : (Instr.resourceRequest 3 0 4).wellFormed = false := by decide
theorem test_coach_window_size : (Instr.coachWindowWrite 0 (List.replicate 256 0)).wellFormed = false := by decide
theorem test_stage_size : (Instr.regionStageWrite 0 (List.replicate 256 0)).wellFormed = false := by decide
theorem test_read_address : (Instr.lyaleRead 0x10000 1 0).wellFormed = false := by decide
theorem test_write_size : (Instr.lyaleWrite 0x10 (List.replicate 256 0) 0).wellFormed = false := by decide
theorem test_known_request : (Instr.lyaleUnknownOpc ⟨3, true⟩ 0x10 1).wellFormed = false := by decide
theorem test_known_function : (Instr.modbusUnsupportedFunction 0 17 3).wellFormed = false := by decide

theorem test_rank_completes : isNext (exec (.resourceRequest 3 0 4) wState) = true := by decide

/-! Results that the spec's worked examples state. -/

/-- 00_scope: encodings. -/
theorem test_encodings : toI 16 0xFD60 = -672 ∧ toI 32 0xFFFE8000 = -98304 ∧ posOf (25 * 65536) = 16384 := by decide

/-- 02_loop_coaches: the demand of coach 141 after one evaluation, and what each channel of its split receives. -/
def splitCoach : State :=
  { mk ((Reg.PWR_MODE_MODE, 0, 4) :: (Reg.UI_VALUE_VALUE, 31, 2560) :: (Reg.UI_VALUE_VALID, 31, 1) :: (Reg.UI_VALUE_VALID, 0, 1) ::
      (Reg.ZONE_SP0_SP_OCC, 13, 2688) ::
      ([(0, 0x203), (1, 0x000B07D0), (2, 0x00D301F1), (4, 0x00010000), (6, 0x000A0029), (7, 0x31), (9, 2), (11, 0x00640000),
        (12, 0x00190000), (13, 0xCCD), (18, 0xFF9C0000), (19, 0x00640000), (22, 0x00010000), (23, 0x64000000), (24, 0xD8000000),
        (25, 0x9C00D800), (44, 13), (46, 21 * 65536), (49, 2228224), (51, 20 * 65536)] : List (Nat × Nat)).map
        (fun p => (Reg.coachW p.1, 141, p.2))) with due := [⟨604011, 141⟩] }

theorem test_split_demand : (nextOf (exec (.coachEvaluation {}) splitCoach)).cq 141 52 = 3050701 := by decide

theorem test_split_integrator : (nextOf (exec (.coachEvaluation {}) splitCoach)).cq 141 49 = 2231501 := by decide

theorem test_split_valve : commandOf 1 (splitOut 3050701 0x64000000) = 30507 ∧ commandOf 1 (splitOut 3050701 0xD8000000) = 0 ∧
    commandOf 1 (splitOut 3050701 0x9C00D800) = 0 := by decide

theorem test_split_cooling : commandOf 1 (splitOut (-70 * 65536) 0x64000000) = 0 ∧ commandOf 2 (splitOut (-70 * 65536) 0xD8000000) = 65535 ∧
    commandOf 1 (splitOut (-70 * 65536) 0x9C00D800) = 32768 := by decide

/-- 03_supervision_and_lanes: the first evaluation of coach 4 after the connector degrades. -/
def faultyRoom : State :=
  { mk ((Reg.PWR_MODE_MODE, 0, 4) :: (Reg.UI_VALUE_VALUE, 14, 3328) :: (Reg.UI_VALUE_VALID, 14, 1) :: (Reg.UI_VALUE_VALUE, 0, 0xFF00) ::
      (Reg.UI_VALUE_VALID, 0, 1) ::
      ([(0, 0x4680), (1, 0x00047530), (2, 0x00E1), (4, 0x00010000), (5, 0x46), (6, 0x11), (8, 21 * 65536), (11, 0x00640000),
        (12, 0x00140000), (13, 0x28F), (19, 0x00640000), (30, 0x00010000), (31, 0xFD710103), (32, 0xF000), (33, 0x00020000),
        (34, 0x1000), (41, 21 * 65536), (44, 13), (46, 21 * 65536), (42, 0x100), (49, 0x47E000), (51, 21 * 65536), (52, 0x47E000),
        (55, 0xB800B800), (56, 0xB800B800), (57, 0xB800B800), (58, 0xB800B800), (59, 0xB800B800), (60, 0xB800B800), (61, 0xB800B800), (62, 0xB800B800)] : List (Nat × Nat)).map (fun p => (Reg.coachW p.1, 4, p.2))) with due := [⟨1230004, 4⟩] }

theorem test_residual : (nextOf (exec (.coachEvaluation {}) faultyRoom)).cw 4 42 = 0x05000101 ∧
    (nextOf (exec (.coachEvaluation {}) faultyRoom)).cq 4 41 = 1683456 := by decide

theorem test_clamped_law : (nextOf (exec (.coachEvaluation {}) faultyRoom)).cq 4 52 = 0 ∧
    (nextOf (exec (.coachEvaluation {}) faultyRoom)).cq 4 49 = 0x47E000 := by decide

/-- 04_coach_store_and_seat_plan: behind a FREE seat the sample mover wins, as the first one waiting after requester 9. -/
theorem test_background_winner : ((nextOf (exec (.arbitration 11 false [] 0 none)
    { mk [(Reg.PWR_MODE_MODE, 0, 4), (Reg.ARB_STATUS_SEAT_COUNT, 0, 32), (Reg.ARB_ACT_SEATS, 2, 0x10101010), (Reg.ARB_LAST_BG_ID, 0, 9)] with
      arb := { pend := [⟨7, 0, false, 16, false, true, []⟩, ⟨3, 0, true, 4, false, true, []⟩] } })).arb.running.map BusReq.id) = some 3 := by decide

/-- 05_inputs_and_converters: the first valid result of UI25. -/
def humidity : State := mk [(Reg.PWR_MODE_MODE, 0, 4), (Reg.UI_CFG_MODE, 25, 4), (Reg.CONV_VREF_VREF, 0, 25000), (Reg.UI_OFFSET_OFFSET, 25, 12),
  (Reg.UI_GAIN_GAIN, 25, 0x4010), (Reg.UI_SCALE_HI, 25, 51200), (Reg.UI_STAT_RELOAD, 25, 1)]

theorem test_first_result : (humidity.moverEntry ⟨25, 4, 4, 4 * 11796, false, false, ⟨4, false, 0, 0, false⟩, 1, 0⟩ 0).rdAt Reg.UI_VALUE_VALUE 25 = 23039 := by decide

theorem test_natural_result : (scaledMode 4 25000 11796).value = some 29490 := by decide

/-- 06_calibration_with_live_traffic: the system calibration of UI3. -/
theorem test_system_calibration :
    (mk [(Reg.CAL_SYS_T_T0, 0, 5033), (Reg.CAL_SYS_T_T1, 0, 25166), (Reg.CAL_SYS_M0_M0, 0, 1298304), (Reg.CAL_SYS_M1_M1, 0, 6403136)]).sysJudge.rd
      Reg.CAL_SYS_NEW_GAIN = 16542 ∧
    (mk [(Reg.CAL_SYS_T_T0, 0, 5033), (Reg.CAL_SYS_T_T1, 0, 25166), (Reg.CAL_SYS_M0_M0, 0, 1298304), (Reg.CAL_SYS_M1_M1, 0, 6403136)]).sysJudge.rd
      Reg.CAL_SYS_NEW_OFFSET = 87 := by decide

/-- 06_calibration_with_live_traffic: the spread of the two runs of converter A. -/
theorem test_spread : spread [-3, 2, -1, 5, 0, -7, 3, 11, -4] [-3, 2, 0, 4, 0, -6, 3, 12, -4] = 1 := by decide

/-- 08_valves_dampers_outputs: t_on of V5 for the commands 19 661 and 30 507. -/
theorem test_pulse_width :
    (mk [(Reg.VLV_TIMING_PULSE_PERIOD, 5, 10000), (Reg.VLV_STATE_VALUE, 5, 19661)]).tOn 5 = 3000 ∧
    (mk [(Reg.VLV_TIMING_PULSE_PERIOD, 5, 10000), (Reg.VLV_STATE_VALUE, 5, 30507)]).tOn 5 = 4655 := by decide

/-- 14_host_port_and_observability: the CRC bytes of the read of ID_DIE. -/
theorem test_host_crc : crc8 [0x01, 0x00, 0x01, 0x01] = 0x9E ∧ crc8 [0x00, 0x00, 0x00, 0x42, 0x01] = 0xF4 := by decide

/-- 16_iz30_mode: two results of AIN3, the second with NEW still set. -/
def ain3 : State := mk [(Reg.PWR_MODE_MODE, 0, 5), (Hid.izV, 4, 0x83), (Hid.izCode, 3, 2500)]

theorem test_adc_result : (nextOf (exec .iz30AdcConversion ain3)).rdAt Hid.izV 5 = 0x9C ∧
    (nextOf (exec .iz30AdcConversion ain3)).rdAt Hid.izV 6 = 0x43 := by decide

theorem test_adc_overrun : (nextOf (exec .iz30AdcConversion ((nextOf (exec .iz30AdcConversion ain3)).wrAt Hid.izCode 3 2501))).rdAt Hid.izV 6 =
    0x5B := by decide

/-- 16_iz30_mode: loop 0 of room T12. -/
def roomT12 (pv : Nat) : State :=
  mk ([(Hid.izCode, 0, pv), (Hid.izCode, 1, 1600)] ++ ([(0x10, 7), (0x12, 1), (0x13, 1), (0x16, 2), (0x18, 0), (0x19, 0x80), (0x1A, 0x0A),
    (0x1B, 0x28), (0x1C, 0x07), (0x1D, 0x6C), (0x1F, 200)] : List (Nat × Nat)).map (fun p => (Hid.izI, p.1, p.2)))

theorem test_iz_setpoint : (roomT12 2380).izSetpoint 0 = 2327 := by decide
theorem test_iz_loop : (roomT12 2380).izLaw 0 12800 = (12826, 156) := by decide
theorem test_iz_loop_truncates : (roomT12 2324).izLaw 0 12826 = (12825, 44) := by decide

/-! The block as a machine. -/

theorem test_no_word : decodeTableWord 32 0x12345678 = none := by decide
theorem test_idle : (nextOf (step State.reset)).pending = [] := by decide
theorem test_reset_canonical : State.reset.regs.length ≤ 16 := by decide

theorem wit_StepRunsFrontCommand_1 : ∃ c : Instr, ∃ rest : List Instr, ∃ s : State, s.pending = c :: rest :=
  ⟨.holdLong, [], { mkN 4 [] with pending := [.holdLong] }, by decide⟩

theorem wit_StepRunsFrontCommand_2 : ∃ s : State, s.pending = [] :=
    ⟨mkN 4 [], by decide⟩

theorem wit_WheelTickAdvances_1 : ∃ s : State, s.alive = true ∧ s.mode ≠ mBoot ∧ s.on Hid.softHold = false ∧ s.on Hid.tickRun = true
    :=
    ⟨mkN 4 [(Hid.tickRun, 1), (Hid.tick, 5)], by decide⟩

theorem wit_WheelTickAdvances_2 : ∃ s : State, s.alive = true ∧ s.mode ≠ mBoot ∧ s.on Hid.softHold = false ∧ s.on Hid.tickRun =
    false :=
    ⟨mkN 4 [], by decide⟩

theorem wit_WheelTickAdvances_3 : ∃ s : State, s.alive = true ∧ s.mode ≠ mBoot ∧ s.on Hid.softHold = true :=
    ⟨mkN 4 [(Hid.softHold, 1)], by decide⟩

theorem wit_WheelTickAdvances_4 : ∃ s : State, s.on Hid.softHold = true :=
    ⟨mkN 4 [(Hid.softHold, 1)], by decide⟩

theorem wit_WheelTickAdvances_5 : ∃ s : State, ∃ n : Nat, s.on Hid.softHold = true ∧ s.on Hid.tickRun = true ∧ s.rd Hid.heldTicks =
    n + 1 :=
    ⟨mkN 4 [(Hid.softHold, 1), (Hid.tickRun, 1), (Hid.heldTicks, 2)], 1, by decide⟩

theorem wit_EvaluationCommits_1 : ∃ s : State, ∃ env : EvalEnv, ∃ d : Due, ∃ rest : List Due, s.due = d :: rest ∧ s.on Reg.SUPV_LANE_SWAP_BUSY = false ∧ s.on Reg.SUPV_LANE_STOPPED = false ∧ s.on Hid.softHold = false ∧ s.native = true ∧ s.alive = true ∧ stEn (s.cw d.coach 44) = true ∧ env.upsets = [] ∧ good env 0 = true ∧ good env 1 = true :=
  ⟨{ (mkN 4 []).wrCoach 3 44 5 with due := [⟨7, 3⟩] }, {}, ⟨7, 3⟩, [], by decide⟩

theorem wit_EvaluationCommits_2 : ∃ s : State, ∃ env : EvalEnv, ∃ lane : Fin 3, ∃ k : Nat, s.lanePos lane.val = some k :=
    ⟨mkN 4 [(Reg.SUPV_LANE_LEAD, 1)], {}, 1, 0, by decide⟩

theorem wit_LanesAndChecks_1 : ∃ s : State, s.alive = true ∧ s.rd Hid.swapPos = 1 :=
    ⟨mkN 4 [(Hid.swapPos, 1), (Reg.SUPV_LANE_SPARE, 2)], by decide⟩

theorem wit_LanesAndChecks_2 : ∃ s : State, s.alive = true ∧ s.rd Hid.swapPos = 2 :=
    ⟨mkN 4 [(Hid.swapPos, 2), (Reg.SUPV_LANE_SPARE, 2)], by decide⟩

theorem wit_LanesAndChecks_3 : ∃ s : State, s.alive = true ∧ s.rd Hid.swapPos = 1 :=
    ⟨mkN 4 [(Hid.swapPos, 1), (Reg.SUPV_LANE_SPARE, 2)], by decide⟩

theorem wit_LanesAndChecks_4 : ∃ s : State, s.alive = true ∧ s.rd Hid.swapPos = 2 :=
    ⟨mkN 4 [(Hid.swapPos, 2), (Reg.SUPV_LANE_SPARE, 2)], by decide⟩

theorem wit_LanesAndChecks_5 : ∃ s : State, ∃ a b c : Bool, s.alive = true ∧ s.rd Reg.SUPV_LANE_CMD_CMD = 1 ∧ s.rd Hid.swapPos = 0
    :=
    ⟨mkN 4 [(Reg.SUPV_LANE_CMD_CMD, 1), (Reg.SUPV_LANE_SWAP_BUSY, 1), (Reg.SUPV_LANE_RETIRED, 5)], true, true, false, by decide⟩

theorem wit_LanesAndChecks_6 : ∃ s : State, ∃ u : List (Nat × Nat), s.operating = true ∧ s.alive = true :=
    ⟨mkN 4 [], [], by decide⟩

theorem wit_LanesAndChecks_7 : ∃ s : State, ∃ c : Fin 160, ∃ x : XChk, s.xchks = [x] ∧ x.coach = c.val ∧ x.issued = false ∧ s.urgBusy .supv = true :=
  ⟨{ mkN 4 [] with xchks := [⟨3, 5, 0, 0, false, none⟩], convs := [{ wait := [⟨.supv, 9, 0⟩] }, {}, {}] }, 3, ⟨3, 5, 0, 0, false, none⟩, by decide⟩

theorem wit_LanesAndChecks_8 : ∃ s : State, ∃ c : Fin 160, ∃ x : XChk, s.xchks = [x] ∧ x.coach = c.val ∧ x.raw = none :=
  ⟨{ mkN 4 [] with xchks := [⟨3, 5, 0, 0, true, none⟩] }, 3, ⟨3, 5, 0, 0, true, none⟩, by decide⟩

theorem wit_LanesAndChecks_9 : ∃ s : State, ∃ c : Fin 160, ∃ x : XChk, ∃ r : Int, s.xchks = [x] ∧ x.coach = c.val ∧ x.raw = some r :=
  ⟨{ mkN 4 [] with xchks := [⟨3, 5, 0, 0, true, some 700⟩] }, 3, ⟨3, 5, 0, 0, true, some 700⟩, 700, by decide⟩

theorem wit_SeatsAndArbitration_1 : ∃ s : State, ∃ req : Fin 15, ∃ beat beats : Nat, ∃ write : Bool, ∃ ask : Ask, s.mayAsk req.val =
    true ∧ s.ownsBus req.val = false ∧ inMemory ⟨beat, write, min beats (legalBeats req.val), []⟩ = true ∧ ((∀ r ∈ s.arb.pend, reqOf
    r.id ≠ reqOf req.val)) ∧ ((∀ r, s.arb.winner = some r → reqOf r.id ≠ reqOf req.val)) :=
    ⟨mkN 4 [], 3, 16, 2, false, {}, by decide⟩

theorem wit_SeatsAndArbitration_2 : ∃ s : State, ∃ req : Fin 15, ∃ beat beats : Nat, ∃ write : Bool, ∃ ask : Ask, inMemory ⟨beat,
    write, min beats (legalBeats req.val), []⟩ = false :=
    ⟨mkN 4 [], 3, 5184, 2, false, {}, by decide⟩

theorem wit_SeatsAndArbitration_3 : ∃ s : State, ∃ req : Fin 15, ∃ beat beats : Nat, ∃ write : Bool, ∃ ask : Ask, s.mayAsk req.val = true ∧ s.ownsBus req.val = true ∧ inMemory ⟨beat, write, min beats (legalBeats req.val), []⟩ = true :=
  ⟨{ mkN 4 [] with arb := { running := some ⟨3, 16, false, 2, false, false, []⟩ } }, 3, 16, 2, false, {}, by decide⟩

theorem wit_SeatsAndArbitration_4 : ∃ s : State, ∃ r : BusReq, ∃ pointer wait : Nat, ∃ seatBad : Bool, s.arb.pend = [r] ∧ s.arb.passed = [] ∧ s.arb.winner = none ∧ s.arb.running = none ∧ r.id < 15 ∧ r.cont = false ∧ s.on Reg.CLK_STAT_FALLBACK = false :=
  ⟨{ mkN 4 [] with arb := { pend := [⟨3, 16, false, 2, false, false, []⟩] } }, ⟨3, 16, false, 2, false, false, []⟩, 5, 1, false, by decide⟩

theorem wit_SeatsAndArbitration_5 : ∃ s : State, ∃ r : BusReq, s.arb.running = some r ∧ s.arb.held = false ∧ s.rd Reg.ARB_HOLD_HOLD_LIMIT ≠ 0 :=
  ⟨{ mkN 4 [(Reg.ARB_HOLD_HOLD_LIMIT, 64), (Reg.ARB_STATUS_OWNER, 3)] with arb := { running := some ⟨3, 16, false, 2, false, false, []⟩ } }, ⟨3, 16, false, 2, false, false, []⟩, by decide⟩

theorem wit_SeatsAndArbitration_6 : ∃ s : State, s.arb.held = true :=
  ⟨{ mkN 4 [] with arb := { held := true } }, by decide⟩

theorem wit_SeatsAndArbitration_7 : ∃ s : State, ∃ r w : BusReq, ∃ len : Nat, s.arb.running = some r ∧ s.arb.winner = some w :=
  ⟨{ mkN 4 [] with arb := { running := some ⟨3, 16, false, 2, false, false, []⟩, winner := some ⟨4, 16, false, 2, false, false, []⟩ } }, ⟨3, 16, false, 2, false, false, []⟩, ⟨4, 16, false, 2, false, false, []⟩, 4, by decide⟩

theorem wit_SeatsAndArbitration_8 : ∃ s : State, ∃ r : BusReq, ∃ len : Nat, s.arb.running = some r ∧ s.arb.winner = none :=
  ⟨{ mkN 4 [] with arb := { running := some ⟨3, 16, false, 2, false, false, []⟩ } }, ⟨3, 16, false, 2, false, false, []⟩, 4, by decide⟩

theorem wit_SeatsAndArbitration_9 : ∃ s : State, s.on Reg.ARB_STATUS_SWAP_PEND = true :=
    ⟨(mkN 4 [(Reg.ARB_STATUS_SWAP_PEND, 1), (Reg.ARB_SWAP_SHADOW_COUNT, 9)]).wrAt Reg.ARB_SHD_SEATS 3 77, by decide⟩

theorem wit_SeatsAndArbitration_10 : ∃ s : State, ∃ req : Fin 15, ∃ held asked : Nat, 1 ≤ asked ∧ asked ≤ 3 ∧ orderRefused (held % 8
    ||| b2n (s.ownsBus req.val)) asked = true :=
    ⟨mkN 4 [], 4, 2, 1, by decide⟩

theorem wit_SeatsAndArbitration_11 : ∃ s : State, ∃ req : Fin 15, ∃ held asked : Nat, ((asked = 0 ∨ 3 < asked ∨ orderRefused (held %
    8 ||| b2n (s.ownsBus req.val)) asked = false)) :=
    ⟨mkN 4 [], 4, 1, 2, by decide⟩

theorem wit_ScansAndUrgentConversions_1 : ∃ s : State, ∃ conv : Fin 3, ∃ i : Nat, s.convs.length = 3 ∧ (s.conv conv.val).phase = .ready ∧ (s.conv conv.val).entry = none ∧ (s.conv conv.val).urg = none ∧ s.alive = true ∧ s.mode ≠ mBoot ∧ s.calibrating conv.val = false ∧ s.nextDue conv.val = some i :=
  ⟨{ ((mkN 4 []).wrAt Reg.UI_CFG_MODE 0 1).wrAt Reg.CONV_SCAN_LO_MASK 0 1 with convs := [{ phase := .ready }, {}, {}] }, 0, 0, by decide⟩

theorem wit_ScansAndUrgentConversions_2 : ∃ s : State, ∃ conv : Fin 3, ∃ e : Entry, ∃ code : Int, ∃ gapLong : Bool, s.convs.length = 3 ∧ (s.conv conv.val).entry = some e ∧ (s.conv conv.val).phase = .ready ∧ (s.conv conv.val).urg = none ∧ s.alive = true ∧ s.on Hid.softHold = false :=
  ⟨{ mkN 4 [] with convs := [{ phase := .ready, entry := some { input := 5, osr := 4, k := 1, settle := false } }, {}, {}] }, 0, { input := 5, osr := 4, k := 1, settle := false }, 40000, false, by decide⟩

theorem wit_ScansAndUrgentConversions_3 : ∃ s : State, ∃ conv : Fin 3, ∃ r : Raw, ∃ rest : List Raw, ∃ a : Accu, (s.conv conv.val).buf = r :: rest ∧ Accu.take (s.conv conv.val).accu r = some a ∧ a.got = a.osr :=
  ⟨{ mkN 4 [] with convs := [{ phase := .ready, buf := [{ input := 5, k := 3, osr := 4, code := 100, settle := false }], accu := some { input := 5, osr := 4, got := 3, sum := 300, settle := false, limit := false } }, {}, {}] }, 0, { input := 5, k := 3, osr := 4, code := 100, settle := false }, [], { input := 5, osr := 4, got := 4, sum := 400, settle := false, limit := false }, by decide⟩

theorem wit_ScansAndUrgentConversions_4 : ∃ s : State, ∃ conv : Fin 3, s.convs.length = 3 ∧ (s.conv conv.val).phase = .starting :=
  ⟨{ mkN 4 [] with convs := [{ phase := .starting }, {}, {}] }, 0, by decide⟩

theorem wit_ScansAndUrgentConversions_5 : ∃ s : State, ∃ input : Fin 64, ∃ conv : Fin 3, s.convs.length = 3 ∧ s.alive = true ∧ s.mode ≠ mBoot ∧ s.servedBy .host conv.val = conv.val ∧ (s.conv conv.val).phase = .ready ∧ (s.conv conv.val).entry = none ∧ (s.conv conv.val).urg = none ∧ s.calibrating conv.val = false :=
  ⟨{ mkN 4 [] with convs := [{ phase := .ready }, {}, {}] }, 5, 0, by decide⟩

theorem wit_ScansAndUrgentConversions_6 : ∃ s : State, ∃ conv : Fin 3, ∃ u : Urg, ∃ code : Int, ∃ gapLong : Bool, (s.conv conv.val).urg = some u ∧ u.src = .host :=
  ⟨{ mkN 4 [] with convs := [{ phase := .ready, urg := some ⟨.host, 5, 0⟩ }, {}, {}] }, 0, ⟨.host, 5, 0⟩, 1234, false, by decide⟩

theorem wit_OccupancyComparatorsSensors_1 : ∃ s : State, ∃ n : Fin 4, s.alive = true ∧ s.mode ≠ mSafe ∧ s.mode ≠ mIz30 ∧ s.rdAt
    Reg.OCC_CFG_PERSIST n.val ≠ 0 :=
    ⟨(mkN 4 []).wrAt Reg.OCC_CFG_PERSIST 1 5, 1, by decide⟩

theorem wit_OccupancyComparatorsSensors_2 : ∃ s : State, ∃ i : Fin 64, s.alive = true ∧ (s.inForce i.val).lr ≠ 0 :=
    ⟨(mkN 4 []).wrAt Hid.uiSet 1 512, 1, by decide⟩

theorem wit_OccupancyComparatorsSensors_3 : ∃ s : State, ∃ i : Fin 40, ∃ high : Bool, ∃ us : Nat, s.operating = true ∧ s.rdAt
    Reg.UI_CFG_MODE i.val = 7 :=
    ⟨(mkN 4 []).wrAt Reg.UI_CFG_MODE 2 7, 2, true, 100, by decide⟩

theorem wit_OccupancyComparatorsSensors_4 : ∃ s : State, ∃ i : Fin 40, ∃ high : Bool, ∃ us : Nat, s.operating = true ∧ s.rdAt
    Reg.UI_CFG_MODE i.val = 8 ∧ (s.pulse i.val).level ≠ high :=
    ⟨(mkN 4 []).wrAt Reg.UI_CFG_MODE 2 8, 2, true, 100, by decide⟩

theorem wit_OccupancyComparatorsSensors_5 : ∃ s : State, ∃ i : Fin 40, ∃ us : Nat, s.operating = true ∧ s.rdAt Reg.UI_CFG_MODE i.val
    = 7 ∧ s.rdAt Reg.UI_STAT_SETTLE_LEFT i.val = 0 :=
    ⟨((mkN 4 []).wrAt Reg.UI_CFG_MODE 2 7).wrAt Hid.contact 2 1, 2, 100, by decide⟩

theorem wit_OccupancyComparatorsSensors_6 : ∃ s : State, ∃ n : Fin 32, s.polling = true ∧ s.pollNext = some n.val ∧ s.on
    Reg.SNS_STAT_BUSY = false :=
    ⟨((mkN 4 [(Reg.SNS_CTRL_COUNT, 3), (Reg.SNS_CTRL_EN, 1)]).wrAt Reg.SNS_ENT_PERIOD 1 100).wrAt Hid.snsDue 1 1, 1, by decide⟩

theorem wit_OccupancyComparatorsSensors_7 : ∃ s : State, ∃ hi lo crc : Nat, s.on Reg.SNS_STAT_BUSY = true ∧ s.alive = true ∧ s.rdAt
    Reg.SNS_ENT_FMT (s.rd Reg.SNS_STAT_ENTRY) < 2 :=
    ⟨mkN 4 [(Reg.SNS_STAT_BUSY, 1), (Reg.SNS_STAT_ENTRY, 2)], 1, 2, 3, by decide⟩

theorem wit_OccupancyComparatorsSensors_8 : ∃ s : State, s.on Reg.SNS_STAT_BUSY = true ∧ s.alive = true :=
    ⟨mkN 4 [(Reg.SNS_STAT_BUSY, 1), (Reg.SNS_STAT_ENTRY, 2)], by decide⟩

theorem wit_OccupancyComparatorsSensors_9 : ∃ s : State, s.on Reg.SNS_STAT_BUSY = true ∧ s.alive = true :=
    ⟨mkN 4 [(Reg.SNS_STAT_BUSY, 1), (Reg.SNS_STAT_ENTRY, 2)], by decide⟩

theorem wit_CalibrationRuns_1 : ∃ s : State, ∃ c : Fin 3, s.up = true ∧ s.calNowDue c.val = true ∧ s.cals.length = 3 ∧ s.replaced
    c.val = false ∧ s.calRuns c.val = false :=
    ⟨mkN 4 [(Reg.CAL_CTRL_AUTO_EN, 1), (Hid.tick, 900000)], 1, by decide⟩

theorem wit_CalibrationRuns_2 : ∃ s : State, ∃ c : Fin 3, s.calRuns c.val = true :=
  ⟨{ mkN 4 [(Reg.CAL_CTRL_AUTO_EN, 1), (Hid.tick, 900000)] with cals := [{}, { phase := 5 }, {}] }, 1, by decide⟩

theorem wit_CalibrationRuns_3 : ∃ s : State, ∃ z h : Int, s.cals.length = 3 ∧ s.calAllowed 2 = true ∧ s.cFree = true :=
  ⟨{ mkN 4 [(Reg.CAL_CTRL_AUTO_EN, 1)] with cals := [{}, {}, { due := true }] }, 0, 16384, by decide⟩

theorem wit_CalibrationRuns_4 : ∃ s : State, ∃ c : Fin 2, ∃ z h : Int, s.cals.length = 3 ∧ s.calAllowed c.val = true ∧ s.cFree = true ∧ healthPass z h = true ∧ ((c.val = 1 → s.calAllowed 0 = false)) ∧ (s.conv 2).entry = none ∧ (s.conv 2).urg = none :=
  ⟨{ mkN 4 [(Reg.CAL_CTRL_AUTO_EN, 1)] with cals := [{}, { due := true }, {}] }, 1, 0, 16384, by decide⟩

theorem wit_CalibrationRuns_5 : ∃ s : State, ∃ z h : Int, s.cals.length = 3 ∧ s.calAllowed 1 = true ∧ s.calAllowed 0 = true :=
  ⟨{ mkN 4 [(Reg.CAL_CTRL_AUTO_EN, 1)] with cals := [{ due := true }, { due := true }, {}] }, 0, 16384, by decide⟩

theorem wit_CalibrationRuns_6 : ∃ s : State, ∃ c : Fin 2, ∃ z h : Int, s.cals.length = 3 ∧ s.convs.length = 3 ∧ (s.cal c.val).phase = 2 ∧ s.boundary c.val = true ∧ s.replaced 2 = false ∧ s.relief.forGood = false ∧ s.relief.target = none :=
  ⟨{ mkN 4 [] with cals := [{ phase := 2 }, {}, {}], convs := [{ phase := .ready, pos := 7 }, {}, {}] }, 0, 0, 16384, by decide⟩

theorem wit_CalibrationRuns_7 : ∃ s : State, ∃ c : Fin 3, ∃ l : List TapSearch, ∃ z h : Int, ∃ taps : List Int, s.cals.length = 3 ∧ (s.cal c.val).phase = 3 ∧ runTaps (s.tapsOf c.val) l = some taps :=
  ⟨{ mkN 4 [] with cals := [{ phase := 3 }, {}, {}] }, 0, List.replicate 9 ⟨true, [0]⟩, 0, 16384, [0, 0, 0, 0, 0, 0, 0, 0, 0], by decide⟩

theorem wit_CalibrationRuns_8 : ∃ s : State, ∃ c : Fin 2, s.convs.length = 3 ∧ s.relief.target = some c.val ∧ s.relief.back = true ∧ s.boundary 2 = true ∧ s.relief.forGood = false ∧ s.relief.wanted = [] :=
  ⟨{ mkN 4 [] with relief := { target := some 0, back := true }, convs := [{}, {}, { phase := .ready, pos := 9 }] }, 0, by decide⟩

theorem wit_CalibrationRuns_9 : ∃ s : State, ∃ c k : Fin 2, s.convs.length = 3 ∧ s.relief.target = some c.val ∧ s.relief.back = true ∧ s.boundary 2 = true ∧ s.relief.forGood = false ∧ s.relief.wanted = [k.val] ∧ s.replaced k.val = true :=
  ⟨{ mkN 4 [] with relief := { target := some 0, wanted := [1], back := true }, convs := [{}, {}, { phase := .ready, pos := 9 }], cals := [{}, { phase := 7 }, {}] }, 0, 1, by decide⟩

theorem wit_CalibrationRuns_10 : ∃ s : State, ∃ c : Fin 3, ∃ z h : Int, s.cals.length = 3 ∧ (s.cal c.val).health = true ∧ (s.cal c.val).suspect = false ∧ healthPass z h = true :=
  ⟨{ mkN 4 [] with cals := [{ health := true }, {}, {}] }, 0, 0, 16384, by decide⟩

theorem wit_CalibrationRuns_11 : ∃ s : State, ∃ c : Fin 2, ∃ z h : Int, s.cals.length = 3 ∧ s.scanOf c.val = some c.val ∧ (s.conv c.val).entry ≠ none ∧ s.replaced 2 = false ∧ s.relief.forGood = false ∧ s.relief.target = none ∧ healthPass z h = true :=
  ⟨{ mkN 4 [] with convs := [{ phase := .ready, entry := some { input := 5, osr := 4, k := 1, settle := false } }, {}, {}] }, 0, 0, 16384, by decide⟩

theorem wit_CalibrationRuns_12 : ∃ s : State, s.convs.length = 3 ∧ s.on Reg.CAL_STAT_REF_LOW = false ∧ s.alive = true :=
    ⟨mkN 4 [], by decide⟩

theorem wit_CalibrationRuns_14 : ∃ s : State, s.on Reg.CAL_SYS_STAT_BUSY = true ∧ 256 ≤ s.rd Hid.sysCnt ∧ s.on Hid.sysClip = false ∧
    s.rd Hid.sysPoint = 1 :=
    ⟨mkN 4 [(Reg.CAL_SYS_STAT_BUSY, 1), (Hid.sysCnt, 256), (Hid.sysPoint, 1), (Hid.sysSum, 25600)], by decide⟩

theorem wit_ThermalSamplesAndFailures_1 : ∃ s : State, ∃ i : Fin 8, s.thermOn = true ∧ s.tsFailed i.val = false ∧ s.onAt
    Reg.TS_STATE_FAST i.val = false ∧ s.onAt Hid.tsNew i.val = true ∧ s.tsUsables i.val = [] :=
    ⟨((mkN 4 []).wrAt Hid.tsNew 2 1).wrAt Hid.tsGot 2 3200, 2, by decide⟩

theorem wit_ThermalSamplesAndFailures_2 : ∃ s : State, ∃ i : Fin 8, s.thermOn = true ∧ ((∀ j : Nat, j < 8 → s.tsFailed j = false)) ∧ ((∀ j : Nat, j < 8 → (s.onAt Reg.TS_STATE_FAST j = true ↔ j = i.val))) ∧ s.urgBusy .therm = true :=
  ⟨{ (mkN 4 []).wrAt Reg.TS_STATE_FAST 2 1 with convs := [{ wait := [⟨.therm, 60, 0⟩] }, {}, {}] }, 2, by decide⟩

theorem wit_ThermalSamplesAndFailures_3 : ∃ s : State, ∃ i : Fin 8, s.thermOn = true ∧ s.tsFailed i.val = false :=
    ⟨mkN 4 [], 2, by decide⟩

theorem wit_ThermalSamplesAndFailures_5 : ∃ s : State, ∃ currents : List Nat, s.thermOn = true :=
    ⟨mkN 4 [], [100, 200, 300, 400, 500, 600, 700, 800, 250, 260, 270, 280, 90, 80, 70, 60, 50, 40], by decide⟩

theorem wit_ThermalSamplesAndFailures_6 : ∃ s : State, ∃ i : Fin 8, s.onAt Hid.tsReadmit i.val = true ∧ s.onAt Hid.tsUrgNew i.val =
    true ∧ s.tsUsables i.val ≠ [] ∧ ((s.tsUrgTemp i.val * (s.tsExpect i.val).2 - (s.tsExpect i.val).1).natAbs : Int) ≤ 640 *
    ((s.tsExpect i.val).2 : Int) :=
    ⟨mk [(Reg.PWR_MODE_MODE, 0, 4), (Hid.tsReadmit, 2, 1), (Hid.tsUrgNew, 2, 1), (Hid.tsAt, 3, 1), (Hid.tsLast, 3, 0),
    (Reg.TS_STATE_FAILED, 2, 1)], 2, by decide⟩

theorem wit_ThermalSamplesAndFailures_7 : ∃ s : State, ∃ i : Fin 8, s.onAt Hid.tsReadmit i.val = true ∧ s.onAt Hid.tsUrgNew i.val =
    false :=
    ⟨mk [(Reg.PWR_MODE_MODE, 0, 4), (Hid.tsReadmit, 2, 1), (Reg.TS_STATE_FAILED, 2, 1)], 2, by decide⟩

theorem wit_ThermalSamplesAndFailures_8 : ∃ s : State, ∃ i : Fin 8, s.onAt Hid.tsReadmit i.val = true ∧ 640 * ((s.tsExpect i.val).2
    : Int) < ((s.tsUrgTemp i.val * (s.tsExpect i.val).2 - (s.tsExpect i.val).1).natAbs : Int) :=
    ⟨mk [(Reg.PWR_MODE_MODE, 0, 4), (Hid.tsReadmit, 2, 1), (Hid.tsUrgNew, 2, 1), (Hid.tsAt, 3, 1), (Hid.tsLast, 3, 20000),
    (Reg.TS_STATE_FAILED, 2, 1)], 2, by decide⟩

theorem wit_ActuatorsAndRepairs_1 : ∃ s : State, ∃ a : ActCmd, ∃ rest : List ActCmd, s.actQ = a :: rest ∧ a.nacked = false ∧ s.alive = true ∧ targetOk a.kind a.index = true ∧ a.value < 2 ^ 32 ∧ s.rdAt Hid.sndSeq (targetBit a.kind a.index) % 32 = (s.rdAt Hid.rcvSeq (targetBit a.kind a.index) + 1) % 32 :=
  ⟨{ mkN 4 [] with actQ := [{ kind := 1, index := 2, value := 100, src := 3 }] }, { kind := 1, index := 2, value := 100, src := 3 }, [], by decide⟩

theorem wit_ActuatorsAndRepairs_2 : ∃ s : State, ∃ a : ActCmd, ∃ rest : List ActCmd, s.actQ = a :: rest ∧ a.nacked = true ∧ a.again = false :=
  ⟨{ mkN 4 [] with actQ := [{ kind := 1, index := 2, value := 100, src := 3, nacked := true }] }, { kind := 1, index := 2, value := 100, src := 3, nacked := true }, [], by decide⟩

theorem wit_ActuatorsAndRepairs_3 : ∃ s : State, ∃ a : ActCmd, ∃ rest : List ActCmd, s.actQ = a :: rest ∧ a.nacked = true ∧ a.again = true ∧ targetOk a.kind a.index = true :=
  ⟨{ mkN 4 [] with actQ := [{ kind := 1, index := 2, value := 100, src := 3, again := true, nacked := true }] }, { kind := 1, index := 2, value := 100, src := 3, again := true, nacked := true }, [], by decide⟩

theorem wit_ActuatorsAndRepairs_4 : ∃ s : State, ∃ l : List Nat, s.on Reg.SUPV_REPAIR_GO = true ∧ s.up = true ∧ s.pathServes 2 = true ∧ s.copyCoachWords (s.rd Hid.repairCoach) = some l :=
  ⟨{ mkN 4 [(Reg.SUPV_REPAIR_GO, 1), (Hid.repairCoach, 5)] with flash := Memory.writes [] (wordBytes 0 [0x4B5A4931, 0x100, 0, 10, 0, 0, 0, 0, 0x10000, 0]) }, List.replicate 42 0, by decide⟩

theorem wit_ActuatorsAndRepairs_5 : ∃ s : State, s.on Reg.SUPV_REPAIR_GO = true ∧ s.up = true ∧ s.pathServes 2 = true :=
    ⟨mkN 4 [(Reg.SUPV_REPAIR_GO, 1), (Hid.repairCoach, 5)], by decide⟩

theorem wit_SingleBitErrorsAreRefused_1 : ∃ s : State, ∃ a : ActCmd, ∃ rest : List ActCmd, ∃ k : Fin 56, s.actQ = a :: rest ∧ a.nacked = false ∧ s.alive = true ∧ targetOk a.kind a.index = true ∧ a.value < 2 ^ 32 :=
  ⟨{ mkN 4 [] with actQ := [{ kind := 1, index := 2, value := 100, src := 3 }] }, { kind := 1, index := 2, value := 100, src := 3 }, [], 55, by decide⟩

theorem wit_SupervisionOfSupplies_1 : ∃ s : State, ∃ x p : Nat, s.up = true ∧ s.on Reg.CLK_STAT_AUDIT_OK = true ∧ s.on
    Reg.CLK_STAT_FALLBACK = false ∧ windowBad x = true ∧ s.rd Hid.audBad = 0 :=
    ⟨mkN 4 [(Reg.CLK_STAT_AUDIT_OK, 1)], 20, 50, by decide⟩

theorem wit_SupervisionOfSupplies_2 : ∃ s : State, ∃ x p : Nat, s.up = true ∧ s.on Reg.CLK_STAT_AUDIT_OK = true ∧ s.on
    Reg.CLK_STAT_FALLBACK = false ∧ windowBad x = true ∧ s.rd Hid.audBad ≠ 0 :=
    ⟨mkN 4 [(Reg.CLK_STAT_AUDIT_OK, 1), (Hid.audBad, 1)], 20, 50, by decide⟩

theorem wit_SupervisionOfSupplies_3 : ∃ s : State, ∃ x p : Nat, s.up = true ∧ s.on Reg.CLK_STAT_AUDIT_OK = true ∧ s.on
    Reg.CLK_STAT_FALLBACK = false ∧ windowBad x = false ∧ windowBad p = true ∧ s.rd Hid.audBad = 0 :=
    ⟨mkN 4 [(Reg.CLK_STAT_AUDIT_OK, 1)], 50, 20, by decide⟩

theorem wit_SupervisionOfSupplies_4 : ∃ s : State, ∃ x p : Nat, s.up = true ∧ s.on Reg.CLK_STAT_AUDIT_OK = true ∧ s.on
    Reg.CLK_STAT_FALLBACK = false ∧ windowBad x = false ∧ windowBad p = true ∧ s.rd Hid.audBad ≠ 0 :=
    ⟨mkN 4 [(Reg.CLK_STAT_AUDIT_OK, 1), (Hid.audBad, 1)], 50, 20, by decide⟩

theorem wit_SupervisionOfSupplies_5 : ∃ s : State, ∃ x p : Nat, s.up = true ∧ s.on Reg.CLK_STAT_AUDIT_OK = true ∧ s.on
    Reg.CLK_STAT_FALLBACK = false ∧ windowBad x = true ∧ windowBad p = true ∧ s.rd Hid.audBad ≠ 0 :=
    ⟨mkN 4 [(Reg.CLK_STAT_AUDIT_OK, 1), (Hid.audBad, 1)], 20, 20, by decide⟩

theorem wit_SupervisionOfSupplies_6 : ∃ s : State, s.up = true ∧ s.on Reg.CLK_STAT_AUDIT_OK = true :=
    ⟨mkN 4 [(Reg.CLK_STAT_AUDIT_OK, 1)], by decide⟩

theorem wit_SupervisionOfSupplies_7 : ∃ s : State, s.up = true ∧ s.on Reg.CLK_STAT_FALLBACK = true ∧ s.on Reg.CLK_STAT_XTAL_OK =
    true ∧ s.on Reg.BOOT_STAT_SIG_WAIT = false :=
    ⟨mkN 4 [(Reg.CLK_STAT_FALLBACK, 1), (Reg.CLK_STAT_XTAL_OK, 1)], by decide⟩

theorem wit_SupervisionOfSupplies_8 : ∃ s : State, s.up = true ∧ s.on Reg.CLK_STAT_FALLBACK = true ∧ s.on Reg.CLK_STAT_XTAL_OK =
    true ∧ s.on Reg.BOOT_STAT_SIG_WAIT = true ∧ s.on Hid.resetActive = false :=
    ⟨mkN 4 [(Reg.CLK_STAT_FALLBACK, 1), (Reg.CLK_STAT_XTAL_OK, 1), (Reg.BOOT_STAT_SIG_WAIT, 1)], by decide⟩

theorem wit_SupervisionOfSupplies_9 : ∃ s : State, s.up = true ∧ s.on Reg.CLK_STAT_AUDIT_OK = true :=
    ⟨mkN 4 [(Reg.CLK_STAT_AUDIT_OK, 1)], by decide⟩

theorem wit_SupervisionOfSupplies_10 : ∃ s : State, s.up = true :=
    ⟨mkN 4 [(Reg.CLK_STAT_AUDIT_OK, 0)], by decide⟩

theorem wit_SupervisionOfSupplies_11 : ∃ s : State, s.up = true ∧ s.on Reg.PWR_STAT_EW = false :=
    ⟨mkN 4 [], by decide⟩

theorem wit_SupervisionOfSupplies_12 : ∃ s : State, s.up = true :=
    ⟨mkN 4 [(Reg.PWR_STAT_EW, 1)], by decide⟩

theorem wit_SupervisionOfSupplies_13 : ∃ s : State, s.up = true ∧ s.on Reg.PWR_STAT_VDDA_UV = false :=
    ⟨mkN 4 [], by decide⟩

theorem wit_SupervisionOfSupplies_14 : ∃ s : State, s.up = true ∧ s.on Reg.PWR_STAT_VDDA_UV = true :=
    ⟨mkN 4 [(Reg.PWR_STAT_VDDA_UV, 1)], by decide⟩

theorem wit_SupervisionOfSupplies_15 : ∃ s : State, s.up = true ∧ s.on Reg.PWR_STAT_VM_UV = false :=
    ⟨mkN 4 [], by decide⟩

theorem wit_SupervisionOfSupplies_16 : ∃ s : State, s.up = true ∧ s.on Reg.PWR_STAT_VM_OV = false :=
    ⟨mkN 4 [], by decide⟩

theorem wit_SupervisionOfSupplies_17 : ∃ s : State, ∃ ov : Bool, s.up = true :=
    ⟨mkN 4 [(Reg.PWR_STAT_VM_OV, 1)], true, by decide⟩

theorem wit_BootResets_1 : ∃ s : State, s.up = true ∧ s.operating = true ∧ s.on Reg.CLK_STAT_AUDIT_OK = true :=
    ⟨mkN 4 [(Reg.CLK_STAT_AUDIT_OK, 1), (Reg.COACH_SEL_SEL, 7)], by decide⟩

theorem wit_BootResets_2 : ∃ s : State, s.alive = true :=
    ⟨mkN 4 [(Reg.COACH_SEL_SEL, 7)], by decide⟩

theorem wit_BootResets_3 : ∃ s : State, s.alive = true :=
    ⟨mkN 4 [(Reg.COACH_SEL_SEL, 7)], by decide⟩

theorem wit_BootResets_4 : ∃ s : State, s.alive = true :=
    ⟨mkN 4 [(Reg.COACH_SEL_SEL, 7)], by decide⟩

theorem wit_BootResets_5 : ∃ s : State, ∃ below : Bool, s.mode = mBackup :=
    ⟨mkN 0 [], false, by decide⟩

theorem wit_BootWithoutAnImageEndsInSafe_1 : ∃ s : State, ∃ env : BootEnv, s.mode = mBoot ∧ env.answers = false :=
  ⟨mkN 1 [], { answers := false }, by decide⟩

theorem wit_BootLoadsTheCopyThatPasses_1 : ∃ s : State, ∃ env : BootEnv, s.mode = mBoot :=
  ⟨mkN 1 [], { straps := 3 }, by decide⟩

theorem wit_BootLoadsTheCopyThatPasses_5 : ∃ s : State, ∃ env : BootEnv, s.mode = mBoot ∧ env.straps.val = 2 ∧ (s.bootStart env).izReject (s.bootStart env).eeprom (env.answers && eepAnswers env.acks) = none :=
  ⟨mkN 1 [], { straps := 2, placed := [(0, 0x49), (1, 0x5A), (2, 5), (3, 1), (4, 0x57)] }, by decide⟩

theorem wit_BootLoadsTheCopyThatPasses_7 : ∃ s : State, eligible s.flash 0x080000 = false :=
    ⟨mkN 1 [], by decide⟩

theorem wit_BootLoadsTheCopyThatPasses_8 : ∃ s : State, eligible s.flash 0 = false :=
    ⟨mkN 1 [], by decide⟩

theorem wit_PersistsEnd_1 : ∃ s : State, s.up = true ∧ s.pathServes 3 = true ∧ ((s.rd Reg.IMG_PERSIST_STATE = 2 ∨ (s.rd
    Reg.IMG_PERSIST_STATE = 1 ∧ s.activeWhole = true))) :=
    ⟨mkN 2 [(Reg.IMG_PERSIST_STATE, 2)], by decide⟩

theorem wit_PersistsEnd_2 : ∃ s : State, s.up = true ∧ s.pathServes 3 = true ∧ s.rd Reg.IMG_PERSIST_STATE = 4 :=
    ⟨mkN 4 [(Reg.IMG_PERSIST_STATE, 4), (Reg.IMG_PERSIST_TARGET, 1), (Reg.IMG_PLEN_LENGTH, 9)], by decide⟩

theorem wit_RegionUpdatesEnd_2 : ∃ s : State, s.rd Reg.RGN_CTRL_STATE = 2 ∧ s.rgnMode = true :=
    ⟨mk [(Reg.PWR_MODE_MODE, 0, 4), (Reg.RGN_CTRL_STATE, 0, 2), (Hid.stage, 0, 0xA0000), (Hid.stage, 1, crcWords [0xA0000])], by
    decide⟩

theorem wit_RegionUpdatesEnd_3 : ∃ s : State, s.rd Reg.RGN_CTRL_STATE = 3 ∧ s.rgnMode = true ∧ s.staged.1 = 10 ∧ (s.loadRegion 10
    s.staged.2).toBool = true :=
    ⟨mk [(Reg.PWR_MODE_MODE, 0, 4), (Reg.RGN_CTRL_STATE, 0, 3), (Hid.stage, 0, 0xA0000), (Hid.stage, 1, crcWords [0xA0000])], by
    decide⟩

theorem wit_HostTimersHatchAndOtp_1 : ∃ s : State, s.port ≠ .off :=
    ⟨mkN 4 [], by decide⟩

theorem wit_HostTimersHatchAndOtp_2 : ∃ s : State, ∃ n : Nat, s.port ≠ .off ∧ s.on Reg.HOST_CFG_PORT = true :=
  ⟨{ mkN 4 [(Reg.HOST_CFG_PORT, 1)] with resp := [1, 2] }, 4, by decide⟩

theorem wit_HostTimersHatchAndOtp_5 : ∃ s : State, s.up = true ∧ s.rd Reg.HOST_HB_CFG_HB_TIMEOUT ≠ 0 ∧ s.rd Reg.HOST_HB_CFG_LEFT ≠ 0
    :=
    ⟨mkN 4 [(Reg.HOST_HB_CFG_HB_TIMEOUT, 5), (Reg.HOST_HB_CFG_LEFT, 1)], by decide⟩

theorem wit_HostTimersHatchAndOtp_6 : ∃ s : State, ∃ st : Fin 256, s.up = true ∧ s.pathServes 1 = true ∧ s.onEeprom = false ∧ s.hatch.op = 1 :=
  ⟨{ mkN 4 [] with hatch := { op := 1, addr := 8, count := 2 }, flash := [⟨9, 5⟩] }, 3, by decide⟩

theorem wit_HostTimersHatchAndOtp_7 : ∃ s : State, ∃ st : Fin 256, s.up = true ∧ s.pathServes 1 = true ∧ s.onEeprom = false ∧ s.hatch.op = 2 ∧ Memory.words (Memory.program s.flash (wordBytes s.hatch.addr s.hatch.words)) s.hatch.addr s.hatch.words.length = s.hatch.words :=
  ⟨{ mkN 4 [] with hatch := { op := 2, addr := 8, words := [77], count := 1 } }, 3, by decide⟩

theorem wit_HostTimersHatchAndOtp_8 : ∃ s : State, ∃ st : Fin 256, s.up = true ∧ s.pathServes 1 = true ∧ s.onEeprom = false ∧ s.hatch.op = 2 ∧ Memory.words (Memory.program s.flash (wordBytes s.hatch.addr s.hatch.words)) s.hatch.addr s.hatch.words.length ≠ s.hatch.words :=
  ⟨{ mkN 4 [] with hatch := { op := 2, addr := 8, words := [77], count := 1 }, flash := [⟨9, 5⟩, ⟨11, 3⟩] }, 3, by decide⟩

theorem wit_HostTimersHatchAndOtp_9 : ∃ s : State, ∃ st : Fin 256, s.up = true ∧ s.pathServes 1 = true ∧ s.onEeprom = false ∧ s.hatch.op = 3 :=
  ⟨{ mkN 4 [] with hatch := { op := 3, addr := 4096, count := 1 }, flash := [⟨9, 5⟩, ⟨4100, 3⟩] }, 3, by decide⟩

theorem wit_HostTimersHatchAndOtp_10 : ∃ s : State, ∃ st : Fin 256, s.up = true ∧ s.pathServes 1 = true ∧ s.onEeprom = true ∧ s.hatch.op = 1 :=
  ⟨{ mkN 4 [(Reg.BOOT_STAT_STRAP, 2)] with hatch := { op := 1, addr := 8, count := 2 }, eeprom := [⟨9, 5⟩] }, 3, by decide⟩

theorem wit_HostTimersHatchAndOtp_11 : ∃ s : State, ∃ st : Fin 256, s.up = true ∧ s.pathServes 1 = true ∧ s.onEeprom = true ∧ s.hatch.op = 2 :=
  ⟨{ mkN 4 [(Reg.BOOT_STAT_STRAP, 2)] with hatch := { op := 2, addr := 8, words := [77], count := 1 }, eeprom := [⟨9, 5⟩, ⟨20, 3⟩] }, 3, by decide⟩

theorem wit_HostTimersHatchAndOtp_12 : ∃ s : State, s.up = true ∧ s.on Reg.OTP_PROG_BUSY = true ∧ s.rd Hid.otpOp = 1 :=
    ⟨mkN 4 [(Reg.OTP_PROG_BUSY, 1), (Hid.otpOp, 1)], by decide⟩

theorem wit_HostTimersHatchAndOtp_13 : ∃ s : State, s.up = true ∧ s.on Reg.OTP_PROG_BUSY = true ∧ s.rd Hid.otpOp = 2 :=
    ⟨mkN 4 [(Reg.OTP_PROG_BUSY, 1), (Hid.otpOp, 2)], by decide⟩

theorem wit_CalendarTimeRuns_1 : ∃ s : State, ∃ bad : List Nat, s.on Hid.oscStopped = false ∧ s.rd Reg.RTC_TIME_SEC < 59 :=
    ⟨mkN 4 [(Reg.RTC_TIME_SEC, 58)], [3], by decide⟩

theorem wit_CalendarTimeRuns_2 : ∃ s : State, ∃ bad : List Nat, s.on Hid.oscStopped = false ∧ s.rd Reg.RTC_TIME_SEC = 59 ∧ s.rd
    Reg.RTC_TIME_MIN < 59 :=
    ⟨mkN 4 [(Reg.RTC_TIME_SEC, 59), (Reg.RTC_TIME_MIN, 58)], [], by decide⟩

theorem wit_CalendarTimeRuns_3 : ∃ s : State, ∃ bad : List Nat, s.on Hid.oscStopped = false ∧ s.rd Reg.RTC_TIME_SEC = 59 ∧ s.rd
    Reg.RTC_TIME_MIN = 59 ∧ s.rd Reg.RTC_TIME_HOUR < 23 :=
    ⟨mkN 4 [(Reg.RTC_TIME_HOUR, 22), (Reg.RTC_TIME_MIN, 59), (Reg.RTC_TIME_SEC, 59)], [], by decide⟩

theorem wit_CalendarTimeRuns_4 : ∃ s : State, ∃ bad : List Nat, s.on Hid.oscStopped = false ∧ s.clock = (23, 59, 59) ∧ s.rd
    Reg.RTC_DATE_DAY < monthDays (s.rd Reg.RTC_DATE_YEAR) (s.rd Reg.RTC_DATE_MONTH) :=
    ⟨mkN 4 [(Reg.RTC_TIME_HOUR, 23), (Reg.RTC_TIME_MIN, 59), (Reg.RTC_TIME_SEC, 59), (Reg.RTC_DATE_YEAR, 24), (Reg.RTC_DATE_MONTH,
    2), (Reg.RTC_DATE_DAY, 28), (Reg.RTC_DATE_WDAY, 6)], [], by decide⟩

theorem wit_CalendarTimeRuns_5 : ∃ s : State, ∃ bad : List Nat, s.on Hid.oscStopped = false ∧ s.clock = (23, 59, 59) ∧ s.rd
    Reg.RTC_DATE_DAY = monthDays (s.rd Reg.RTC_DATE_YEAR) (s.rd Reg.RTC_DATE_MONTH) ∧ s.rd Reg.RTC_DATE_MONTH < 12 :=
    ⟨mkN 4 [(Reg.RTC_TIME_HOUR, 23), (Reg.RTC_TIME_MIN, 59), (Reg.RTC_TIME_SEC, 59), (Reg.RTC_DATE_YEAR, 100), (Reg.RTC_DATE_MONTH,
    2), (Reg.RTC_DATE_DAY, 28), (Reg.RTC_DATE_WDAY, 6)], [], by decide⟩

theorem wit_CalendarTimeRuns_6 : ∃ s : State, ∃ bad : List Nat, s.on Hid.oscStopped = false ∧ s.clock = (23, 59, 59) ∧ s.rd
    Reg.RTC_DATE_DAY = 31 ∧ s.rd Reg.RTC_DATE_MONTH = 12 ∧ s.rd Reg.RTC_DATE_YEAR < 199 :=
    ⟨mkN 4 [(Reg.RTC_TIME_HOUR, 23), (Reg.RTC_TIME_MIN, 59), (Reg.RTC_TIME_SEC, 59), (Reg.RTC_DATE_YEAR, 198), (Reg.RTC_DATE_MONTH,
    12), (Reg.RTC_DATE_DAY, 31), (Reg.RTC_DATE_WDAY, 6)], [], by decide⟩

theorem wit_CalendarTimeRuns_7 : ∃ s : State, ∃ bad : List Nat, s.on Hid.oscStopped = false ∧ s.clock = (23, 59, 59) ∧ s.date =
    (199, 12, 31) :=
    ⟨mkN 4 [(Reg.RTC_TIME_HOUR, 23), (Reg.RTC_TIME_MIN, 59), (Reg.RTC_TIME_SEC, 59), (Reg.RTC_DATE_YEAR, 199), (Reg.RTC_DATE_MONTH,
    12), (Reg.RTC_DATE_DAY, 31), (Reg.RTC_DATE_WDAY, 6)], [], by decide⟩

theorem wit_CalendarTimeRuns_8 : ∃ s : State, ∃ sub : Fin 32768, s.on Hid.rtcPend = true ∧ s.on Hid.oscStopped = false :=
    ⟨mkN 4 [(Hid.rtcPend, 1), (Hid.rtcPendT, 0x0C2010), (Hid.rtcPendD, 0x02190A1F)], 100, by decide⟩

theorem wit_CalendarTimeRuns_9 : ∃ s : State, ∃ sub : Fin 32768, s.on Hid.rtcShPend = true ∧ s.on Hid.oscStopped = false ∧ bit (s.rd
    Hid.rtcShift) 15 = false :=
    ⟨mkN 4 [(Hid.rtcShPend, 1), (Reg.RTC_STAT_SHIFT_PEND, 1), (Hid.rtcShift, 32700)], 100, by decide⟩

theorem wit_CalendarTimeRuns_10 : ∃ s : State, ∃ sub : Fin 32768, s.on Hid.rtcShPend = true ∧ s.on Hid.oscStopped = false ∧ bit
    (s.rd Hid.rtcShift) 15 = true :=
    ⟨mkN 4 [(Hid.rtcShPend, 1), (Reg.RTC_STAT_SHIFT_PEND, 1), (Hid.rtcShift, 32868)], 32767, by decide⟩

theorem wit_BackupDomainEvents_1 : ∃ s : State, ∃ temp : Int, s.on Reg.RTC_COMP1_COMP_EN = true :=
    ⟨mkN 4 [(Reg.RTC_COMP1_COMP_EN, 1), (Reg.RTC_COMP1_K, 0xFF00), (Reg.RTC_COMP0_T0, 3200)], 5000, by decide⟩

theorem wit_BackupDomainEvents_2 : ∃ s : State, s.rd Hid.rtcSecs = 0 :=
    ⟨mkN 4 [(Reg.RTC_COMP1_COMP_EN, 1), (Reg.RTC_COMP_STAT_N, 300)], by decide⟩

theorem wit_BackupDomainEvents_5 : ∃ s : State, ∃ vbat : Bool, s.on Reg.RTC_STAT_ON_VBAT = false ∧ s.on Reg.RTC_STAMP_DATE_STAMPED =
    false :=
    ⟨mkN 4 [(Reg.RTC_TIME_SEC, 33)], true, by decide⟩

theorem wit_BackupDomainEvents_7 : ∃ s : State, s.on Reg.RTC_STAT_ON_VBAT = true ∧ s.on Reg.RTC_STAT_VBAT_LOW = false ∧ s.mode ≠
    mBackup :=
    ⟨mkN 4 [(Reg.RTC_STAT_ON_VBAT, 1)], by decide⟩

theorem wit_BinaryOutputs_1 : ∃ s : State, ∃ n : Fin 6, s.onAt Reg.BO_STATE_OUT n.val = true :=
    ⟨(mkN 4 []).wrAt Reg.BO_STATE_OUT 2 1, 2, by decide⟩

theorem wit_BinaryOutputs_2 : ∃ s : State, ∃ n : Fin 6, s.onAt Hid.boOc n.val = true ∧ s.onAt Reg.BO_STATE_OUT n.val = false ∧
    s.boWanted n.val = true ∧ s.boBlocked n.val = false :=
    ⟨mk [(Reg.PWR_MODE_MODE, 0, 4), (Reg.BO_CFG_EN, 2, 1), (Reg.BO_STATE_CMD, 2, 1), (Hid.boOc, 2, 1)], 2, by decide⟩

theorem wit_BinaryOutputs_3 : ∃ s : State, ∃ n : Fin 6, s.rdAt Reg.BO_STATE_WAIT n.val ≠ 0 ∧ s.onAt Hid.boOc n.val = false ∧ s.onAt
    Reg.BO_STATE_OUT n.val = false ∧ s.boWanted n.val = true ∧ s.boBlocked n.val = false :=
    ⟨mk [(Reg.PWR_MODE_MODE, 0, 4), (Reg.BO_CFG_EN, 2, 1), (Reg.BO_STATE_CMD, 2, 1), (Reg.BO_STATE_WAIT, 2, 2)], 2, by decide⟩

theorem wit_BinaryOutputs_4 : ∃ s : State, ∃ n : Fin 6, s.onAt Reg.BO_CFG_OPEN_EN n.val = true ∧ s.onAt Reg.BO_STATE_OUT n.val =
    true :=
    ⟨mk [(Reg.PWR_MODE_MODE, 0, 4), (Reg.BO_STATE_OUT, 2, 1), (Reg.BO_CFG_OPEN_EN, 2, 1)], 2, by decide⟩

theorem wit_ValveChannels_1 : ∃ s : State, ∃ n : Fin 8, s.onAt Hid.vlvGrid n.val = true ∧ s.rdAt Reg.VLV_CFG_MODE n.val = 2 ∧
    s.vlvWants n.val = true ∧ s.vlvActive n.val = true ∧ s.vlv n.val = vOff ∧ s.onAt Hid.vlvOcWait n.val = false ∧ s.vlvPartner
    n.val = none ∧ s.tPeak n.val (s.rdAt Hid.vlvBandNow n.val) ≠ 0 :=
    ⟨mk [(Reg.PWR_MODE_MODE, 0, 4), (Hid.vlvGrid, 2, 1), (Reg.VLV_CFG_MODE, 2, 2), (Reg.VLV_STATE_VALUE, 2, 9),
    (Reg.VLV_STATE_STATE, 2, 1), (Hid.vlvBandNow, 2, 1), (Reg.VLV_PEAK1_T_PEAK, 2, 5), (Hid.tick, 0, 77)], 2, by decide⟩

theorem wit_ValveChannels_2 : ∃ s : State, ∃ n : Fin 8, s.onAt Hid.vlvGrid n.val = true ∧ s.rdAt Reg.VLV_CFG_MODE n.val = 2 ∧
    s.vlvWants n.val = true ∧ s.vlvActive n.val = true ∧ 2 ≤ s.vlv n.val ∧ s.vlv n.val ≤ 4 :=
    ⟨mk [(Reg.PWR_MODE_MODE, 0, 4), (Hid.vlvGrid, 2, 1), (Reg.VLV_CFG_MODE, 2, 2), (Reg.VLV_STATE_VALUE, 2, 9), (Hid.tick, 0, 77),
    (Reg.VLV_STATE_STATE, 2, 2)], 2, by decide⟩

theorem wit_ValveChannels_3 : ∃ s : State, ∃ n p : Fin 8, s.onAt Hid.vlvGrid n.val = true ∧ s.rdAt Reg.VLV_CFG_MODE n.val = 2 ∧
    s.vlvWants n.val = true ∧ s.vlvActive n.val = true ∧ s.vlv n.val = vOff ∧ s.onAt Hid.vlvOcWait n.val = false ∧ s.vlvPartner
    n.val = some p.val ∧ s.tPeak n.val (s.rdAt Hid.vlvBandNow n.val) ≠ 0 ∧ s.vlv p.val ≠ vPeak :=
    ⟨mk [(Reg.PWR_MODE_MODE, 0, 4), (Hid.vlvGrid, 2, 1), (Reg.VLV_CFG_MODE, 2, 2), (Reg.VLV_STATE_VALUE, 2, 9), (Hid.tick, 0, 77),
    (Reg.VLV_CFG_HS_USE, 2, 1), (Reg.VLV_CFG_HS_USE, 3, 1), (Reg.VLV_STATE_STATE, 2, 1), (Hid.vlvBandNow, 2, 1),
    (Reg.VLV_PEAK1_T_PEAK, 2, 5), (Reg.VLV_STATE_STATE, 3, 4)], 2, 3, by decide⟩

theorem wit_ValveChannels_4 : ∃ s : State, ∃ n p : Fin 8, s.onAt Hid.vlvGrid n.val = true ∧ s.rdAt Reg.VLV_CFG_MODE n.val = 2 ∧
    s.vlvWants n.val = true ∧ s.vlvActive n.val = true ∧ s.vlv n.val = vOff ∧ s.onAt Hid.vlvOcWait n.val = false ∧ s.vlvPartner
    n.val = some p.val ∧ s.tPeak n.val (s.rdAt Hid.vlvBandNow n.val) ≠ 0 ∧ s.vlv p.val = vPeak :=
    ⟨mk [(Reg.PWR_MODE_MODE, 0, 4), (Hid.vlvGrid, 2, 1), (Reg.VLV_CFG_MODE, 2, 2), (Reg.VLV_STATE_VALUE, 2, 9), (Hid.tick, 0, 77),
    (Reg.VLV_CFG_HS_USE, 2, 1), (Reg.VLV_CFG_HS_USE, 3, 1), (Reg.VLV_STATE_STATE, 2, 1), (Hid.vlvBandNow, 2, 1),
    (Reg.VLV_PEAK1_T_PEAK, 2, 5), (Reg.VLV_STATE_STATE, 3, 3)], 2, 3, by decide⟩

theorem wit_ValveChannels_5 : ∃ s : State, ∃ n : Fin 8, s.onAt Hid.vlvGrid n.val = true ∧ s.rdAt Reg.VLV_CFG_MODE n.val = 2 ∧
    s.vlvWants n.val = true ∧ s.vlvActive n.val = true ∧ s.vlv n.val = vOff ∧ s.onAt Hid.vlvOcWait n.val = false ∧ s.tPeak n.val
    (s.rdAt Hid.vlvBandNow n.val) = 0 :=
    ⟨mk [(Reg.PWR_MODE_MODE, 0, 4), (Hid.vlvGrid, 2, 1), (Reg.VLV_CFG_MODE, 2, 2), (Reg.VLV_STATE_VALUE, 2, 9), (Hid.tick, 0, 77),
    (Reg.VLV_STATE_STATE, 2, 1), (Hid.vlvBandNow, 2, 1)], 2, by decide⟩

theorem wit_ValveChannels_6 : ∃ s : State, ∃ n : Fin 8, s.vlv n.val = vPeak ∧ s.rdAt Reg.VLV_CFG_MODE n.val = 1 ∧ s.vlvPartner n.val
    = none :=
    ⟨mk [(Reg.PWR_MODE_MODE, 0, 4), (Reg.VLV_CFG_MODE, 2, 1), (Reg.VLV_STATE_STATE, 2, 3)], 2, by decide⟩

theorem wit_ValveChannels_7 : ∃ s : State, ∃ n : Fin 8, s.vlv n.val = vHold ∧ s.rdAt Reg.VLV_CFG_MODE n.val = 2 :=
    ⟨mk [(Reg.PWR_MODE_MODE, 0, 4), (Reg.VLV_CFG_MODE, 2, 2), (Reg.VLV_STATE_STATE, 2, 4)], 2, by decide⟩

theorem wit_ValveChannels_8 : ∃ s : State, s.alive = true ∧ s.operating = true :=
    ⟨mk [(Reg.PWR_MODE_MODE, 0, 4), (Reg.VLV_CFG_COIL_EN, 2, 1), (Reg.VLV_CFG_COIL_IN, 2, 5), (Reg.UI_VALUE_VALID, 5, 1),
    (Reg.UI_VALUE_VALUE, 5, 9)], by decide⟩

theorem wit_ValveChannels_9 : ∃ s : State, ∃ h : Fin 4, s.alive = true ∧ s.operating = true :=
    ⟨mk [(Reg.PWR_MODE_MODE, 0, 4), (Reg.VLV_STATE_STATE, 2, 1), (Reg.VLV_CFG_DIAG_OFF, 2, 1)], 1, by decide⟩

theorem wit_ValveChannels_10 : ∃ s : State, ∃ h : Fin 4, ∃ limit : Bool, ∃ low1 high2 low2 : Fin 4, s.onAt Hid.vlvTest (2 * h.val) =
    true ∧ s.onAt Reg.VLV_CFG_HS_USE (2 * h.val) = false ∧ s.onAt Hid.vlvHsTest h.val = false :=
    ⟨mk [(Reg.PWR_MODE_MODE, 0, 4), (Hid.vlvTest, 2, 1)], 1, true, 0, 0, 1, by decide⟩

theorem wit_ValveChannels_11 : ∃ s : State, ∃ n : Fin 8, ∃ current : Nat, s.vlv n.val = vHold ∧ current < 20 :=
    ⟨mk [(Reg.PWR_MODE_MODE, 0, 4), (Reg.VLV_STATE_STATE, 2, 4)], 2, 19, by decide⟩

theorem wit_ValveChannels_12 : ∃ s : State, ∃ n : Fin 8, ∃ current : Nat, s.vlv n.val = vHold ∧ 20 ≤ current :=
    ⟨mk [(Reg.PWR_MODE_MODE, 0, 4), (Reg.VLV_STATE_STATE, 2, 4)], 2, 20, by decide⟩

theorem wit_ValveChannels_13 : ∃ s : State, ∃ n : Fin 8, ((s.vlv n.val = vPeak ∨ s.vlv n.val = vHold)) :=
    ⟨mk [(Reg.PWR_MODE_MODE, 0, 4), (Reg.VLV_STATE_STATE, 2, 3)], 2, by decide⟩

theorem wit_ValveChannels_14 : ∃ s : State, ∃ h : Fin 4, ∃ lowSum : Nat, s.hsOn h.val = true ∧ lowSum < 40 :=
    ⟨mk [(Reg.PWR_MODE_MODE, 0, 4), (Reg.VLV_STATE_STATE, 2, 3), (Reg.VLV_CFG_HS_USE, 2, 1)], 1, 39, by decide⟩

theorem wit_ValveChannels_15 : ∃ s : State, ∃ h : Fin 4, ∃ lowSum : Nat, s.hsOn h.val = true ∧ 40 ≤ lowSum ∧ s.rdAt Hid.vlvOcAt (2 *
    h.val + 1) = 0 :=
    ⟨mk [(Reg.PWR_MODE_MODE, 0, 4), (Reg.VLV_STATE_STATE, 2, 3), (Reg.VLV_CFG_HS_USE, 2, 1)], 1, 40, by decide⟩

theorem wit_ValveChannels_16 : ∃ s : State, ∃ n : Fin 8, s.onAt Hid.vlvOcWait n.val = true :=
    ⟨mk [(Reg.PWR_MODE_MODE, 0, 4), (Hid.vlvOcWait, 2, 1)], 2, by decide⟩

theorem wit_DamperRuns_1 : ∃ s : State, ∃ d : Fin 4, s.dmpActive = true ∧ s.dmp.moving = [] ∧ s.dmp.front = [] ∧ s.dmp.queue = [] ∧
    1 ≤ s.dmpLimit ∧ s.dst d.val = 1 ∧ s.dmpNeeds d.val = true ∧ ((∀ e : Nat, e < 4 → e ≠ d.val → s.dst e ≠ 1 ∧ s.dst e ≠ 2)) :=
    ⟨mk [(Reg.PWR_MODE_MODE, 0, 4), (Reg.DMP_SCHED_MAX_MOVING, 0, 2), (Reg.DMP_STATE_STATE, 0, 0), (Reg.DMP_STATE_STATE, 1, 0),
    (Reg.DMP_STATE_STATE, 3, 0), (Hid.dmpHome, 2, 1)], 2, by decide⟩

theorem wit_DamperRuns_2 : ∃ s : State, ∃ d : Fin 4, s.dst d.val = 3 :=
  ⟨{ mk [(Reg.PWR_MODE_MODE, 0, 4), (Reg.DMP_STATE_STATE, 2, 3), (Reg.DMP_TRAVEL_STEPS, 2, 500), (Reg.DMP_TARGET_VALUE, 2, 30000)] with dmp := { moving := [(0, 2)] } }, 2, by decide⟩

theorem wit_DamperRuns_3 : ∃ s : State, ∃ d : Fin 4, s.rdAt Reg.DMP_STALL_STALL_MIN d.val * 1000 ≤ s.rdAt Hid.dmpVel d.val ∧ s.dst
    d.val = 4 ∧ s.dmpTarget d.val = 0 :=
    ⟨mk [(Reg.PWR_MODE_MODE, 0, 4), (Reg.DMP_STATE_STATE, 2, 4)], 2, by decide⟩

theorem wit_DamperRuns_4 : ∃ s : State, ∃ d : Fin 4, s.rdAt Reg.DMP_STALL_STALL_MIN d.val * 1000 ≤ s.rdAt Hid.dmpVel d.val ∧ s.dst
    d.val = 3 ∧ s.onAt Hid.dmpStalled d.val = false :=
    ⟨mk [(Reg.PWR_MODE_MODE, 0, 4), (Reg.DMP_STATE_STATE, 2, 3)], 2, by decide⟩

theorem wit_DamperRuns_5 : ∃ s : State, ∃ d : Fin 4, s.rdAt Reg.DMP_STALL_STALL_MIN d.val * 1000 ≤ s.rdAt Hid.dmpVel d.val ∧ s.dst
    d.val = 3 ∧ s.onAt Hid.dmpStalled d.val = true :=
    ⟨mk [(Reg.PWR_MODE_MODE, 0, 4), (Reg.DMP_STATE_STATE, 2, 3), (Hid.dmpStalled, 2, 1)], 2, by decide⟩

theorem wit_DamperRuns_6 : ∃ s : State, ∃ d : Fin 4, s.rdAt Hid.dmpVel d.val < s.rdAt Reg.DMP_STALL_STALL_MIN d.val * 1000 :=
    ⟨(mkN 4 []).wrAt Reg.DMP_STALL_STALL_MIN 2 5, 2, by decide⟩

theorem wit_DamperRuns_7 : ∃ s : State, ∃ d : Fin 4, ∃ pos : Nat, s.dmp.stopping.contains d.val = true ∧ s.dmpActive = true ∧ s.dst d.val = 3 :=
  ⟨{ mk [(Reg.PWR_MODE_MODE, 0, 4), (Reg.DMP_STATE_STATE, 2, 3), (Reg.DMP_TRAVEL_STEPS, 2, 500)] with dmp := { moving := [(7, 2)], stopping := [2] } }, 2, 33, by decide⟩

theorem wit_DamperRuns_8 : ∃ s : State, ∃ d : Fin 4, s.dst d.val = 4 :=
    ⟨mk [(Reg.PWR_MODE_MODE, 0, 4), (Reg.DMP_STATE_STATE, 2, 4)], 2, by decide⟩

theorem wit_DamperRuns_9 : ∃ s : State, ∃ d : Fin 4, s.dmpActive = true ∧ ((s.dst d.val = 3 ∨ s.dst d.val = 4)) :=
    ⟨mk [(Reg.PWR_MODE_MODE, 0, 4), (Reg.DMP_STATE_STATE, 2, 4)], 2, by decide⟩

theorem wit_DamperRuns_10 : ∃ s : State, ∃ d : Fin 4, ((s.dst d.val = 3 ∨ s.dst d.val = 4)) :=
    ⟨mk [(Reg.PWR_MODE_MODE, 0, 4), (Reg.DMP_STATE_STATE, 2, 3)], 2, by decide⟩

theorem wit_DamperRuns_11 : ∃ s : State, ∃ d : Fin 4, s.onAt Hid.dmpFb d.val = true ∧ s.onAt Reg.DMP_CFG_FB_EN d.val = true ∧
    s.dmpActive = true ∧ s.onAt Reg.UI_VALUE_VALID (s.rdAt Reg.DMP_CFG_FB_IN d.val) = true ∧ absDiff (fbOf (s.rdAt
    Reg.UI_VALUE_VALUE (s.rdAt Reg.DMP_CFG_FB_IN d.val)) (s.rdAt Reg.DMP_FB_FB_LO d.val) (s.rdAt Reg.DMP_FB_FB_HI d.val))
    (s.dmpValue d.val) ≤ s.rdAt Reg.DMP_FB_TOL_TOL d.val :=
    ⟨mk [(Reg.PWR_MODE_MODE, 0, 4), (Reg.DMP_STATE_STATE, 2, 1), (Hid.dmpFb, 2, 1), (Reg.DMP_CFG_FB_EN, 2, 1), (Reg.UI_VALUE_VALID,
    0, 1), (Reg.DMP_FB_FB_HI, 2, 100)], 2, by decide⟩

theorem wit_DirectFan_1 : ∃ s : State, s.fan 0 = fCatch :=
    ⟨mkN 4 [(Reg.FAN_STATE_STATE, 2)], by decide⟩

theorem wit_DirectFan_2 : ∃ s : State, s.fan 0 = fAlign :=
    ⟨mkN 4 [(Reg.FAN_STATE_STATE, 3)], by decide⟩

theorem wit_DirectFan_3 : ∃ s : State, s.fan 0 = fAlign :=
    ⟨mkN 4 [(Reg.FAN_STATE_STATE, 3)], by decide⟩

theorem wit_DirectFan_4 : ∃ s : State, ∃ speed field : Nat, s.fan 0 = fCatch ∧ s.rd Reg.FAN_SPD_LIM_MIN_RPM ≤ speed :=
    ⟨mkN 4 [(Reg.FAN_STATE_STATE, 2), (Reg.FAN_SPD_LIM_MIN_RPM, 300)], 300, 0, by decide⟩

theorem wit_DirectFan_5 : ∃ s : State, ∃ speed field : Nat, ∃ dir : Bool, s.fan 0 = fRamp ∧ s.rd Reg.FAN_SPD_LIM_MIN_RPM * 1000 ≤
    s.rd Hid.fanRef ∧ s.fanNear speed = true :=
    ⟨mkN 4 [(Reg.FAN_STATE_STATE, 4), (Reg.FAN_SPD_LIM_MIN_RPM, 300), (Hid.fanRef, 320000)], 360, 0, false, by decide⟩

theorem wit_DirectFan_6 : ∃ s : State, s.fan 0 = fRamp ∧ s.rd Reg.FAN_STATE_ATTEMPT < 3 :=
    ⟨mkN 4 [(Reg.FAN_STATE_STATE, 4), (Reg.FAN_STATE_ATTEMPT, 2)], by decide⟩

theorem wit_DirectFan_7 : ∃ s : State, s.fan 0 = fRetry :=
    ⟨mkN 4 [(Reg.FAN_STATE_STATE, 6)], by decide⟩

theorem wit_DirectFan_8 : ∃ s : State, s.fan 0 = fRun ∧ s.fanD 0 = 0 ∧ s.rd Hid.fanRef ≤ s.rd Reg.FAN_SPD_LIM_MIN_RPM * 1000 :=
    ⟨mkN 4 [(Reg.FAN_STATE_STATE, 5), (Reg.FAN_SPD_LIM_MIN_RPM, 300), (Hid.fanRef, 300000)], by decide⟩

theorem wit_DirectFan_9 : ∃ s : State, s.fan 0 = fCoast ∧ s.on Hid.vdrvBlock = false ∧ s.fanD 0 ≠ 0 :=
    ⟨mkN 4 [(Reg.FAN_STATE_STATE, 9), (Hid.fanDem, 500)], by decide⟩

theorem wit_DirectFan_10 : ∃ s : State, s.fanGates = true ∧ s.rdAt Hid.fanOcAt 0 = 0 ∧ s.rdAt Hid.fanOcAt 1 = 0 :=
    ⟨mkN 4 [(Reg.FAN_STATE_STATE, 5)], by decide⟩

theorem wit_DirectFan_11 : ∃ s : State, s.alive = true ∧ s.on Reg.PWR_STAT_VDRV_LOW = false :=
    ⟨mkN 4 [(Reg.FAN_STATE_STATE, 5)], by decide⟩

theorem wit_DirectFan_13 : ∃ s : State, ∃ periods : Nat, s.fanGates = true :=
    ⟨mkN 4 [(Reg.FAN_STATE_STATE, 5)], 16, by decide⟩

theorem wit_DirectFan_14 : ∃ s : State, s.fan 0 = fRun :=
    ⟨mkN 4 [(Reg.FAN_STATE_STATE, 5)], by decide⟩

theorem wit_DirectFan_15 : ∃ s : State, ∃ n : Fin 3, s.fan n.val = fStalled ∧ s.fanD n.val = 0 :=
    ⟨mk [(Reg.PWR_MODE_MODE, 0, 4), (Reg.FANT_STATE_STATE, 0, 7)], 1, by decide⟩

theorem wit_DirectFan_16 : ∃ s : State, ∃ n : Fin 3, s.fan n.val = fRun :=
    ⟨mk [(Reg.PWR_MODE_MODE, 0, 4), (Reg.FANT_STATE_STATE, 0, 5), (Reg.FANT_STATE_STALL_CNT, 0, 3)], 1, by decide⟩

theorem wit_TachometerFans_1 : ∃ s : State, ∃ k : Fin 2, ∃ us : Nat, s.fanActive (k.val + 1) = true ∧ s.fan (k.val + 1) ≠ 0 ∧ 0 < us
    ∧ 100 * us ≤ 30000000 ∧ 30000000 ≤ s.rdAt Reg.FANT_LIM_MAX_RPM k.val * us ∧ 30000000 % us = 0 :=
    ⟨mk [(Reg.PWR_MODE_MODE, 0, 4), (Reg.FANT_STATE_STATE, 0, 5), (Reg.FANT_LIM_MAX_RPM, 0, 3000)], 0, 20000, by decide⟩

theorem wit_TachometerFans_3 : ∃ s : State, ∃ k : Fin 2, s.fan (k.val + 1) = fRun ∧ s.onAt Reg.FANT_CTRL_TACH_EN k.val = true ∧
    s.fanActive (k.val + 1) = true ∧ s.fanD (k.val + 1) = s.rdAt Reg.FANT_MEAS_SPEED k.val ∧ s.rdI Hid.fanInt k.val = 0 :=
    ⟨mk [(Reg.PWR_MODE_MODE, 0, 4), (Reg.FANT_STATE_STATE, 0, 5), (Reg.FANT_CTRL_TACH_EN, 0, 1), (Hid.fanDem, 1, 700),
    (Reg.FANT_MEAS_SPEED, 0, 700), (Reg.FANT_SD_DUTY, 7, 900)], 0, by decide⟩

theorem wit_TachometerFans_4 : ∃ s : State, ∃ k : Fin 2, s.fan (k.val + 1) = fCatch ∧ s.onAt Reg.FANT_CTRL_TACH_EN k.val = true :=
    ⟨mk [(Reg.PWR_MODE_MODE, 0, 4), (Reg.FANT_STATE_STATE, 0, 2), (Reg.FANT_CTRL_TACH_EN, 0, 1)], 0, by decide⟩

theorem wit_TachometerFans_5 : ∃ s : State, ∃ k : Fin 2, s.fan (k.val + 1) = fAlign ∧ s.onAt Reg.FANT_CTRL_TACH_EN k.val = true ∧
    s.rdAt Reg.FANT_STATE_STALL_CNT k.val < 9 :=
    ⟨mk [(Reg.PWR_MODE_MODE, 0, 4), (Reg.FANT_STATE_STATE, 0, 3), (Reg.FANT_CTRL_TACH_EN, 0, 1), (Reg.FANT_STATE_STALL_CNT, 0, 8)],
    0, by decide⟩

theorem wit_TachometerFans_6 : ∃ s : State, ∃ k : Fin 2, s.fan (k.val + 1) = fRun ∧ s.onAt Reg.FANT_CTRL_TACH_EN k.val = true ∧
    13107 < s.rdAt Reg.FANT_MEAS_DUTY k.val :=
    ⟨mk [(Reg.PWR_MODE_MODE, 0, 4), (Reg.FANT_STATE_STATE, 0, 5), (Reg.FANT_CTRL_TACH_EN, 0, 1), (Reg.FANT_MEAS_DUTY, 0, 20000)], 0,
    by decide⟩

theorem wit_TachometerFans_7 : ∃ s : State, ∃ n : Fin 3, s.mode = mAuto ∧ bit (s.rd Reg.FAN_COMMON_SRC) n.val = true ∧ s.alive =
    true :=
    ⟨mkN 7 [(Reg.FAN_COMMON_SRC, 2)], 1, by decide⟩

theorem wit_LinkAndAddress_1 : ∃ s : State, ∃ p24 eee : Bool, ∃ sqi : Fin 8, s.netOn = true ∧ s.netEn 0 = true ∧ s.on
    Reg.NET_STAT_LINK = false :=
    ⟨mkN 4 [(Reg.NET_STAT_PP_RUN, 1), (Reg.NET_CTRL_EN, 1)], true, false, 5, by decide⟩

theorem wit_LinkAndAddress_2 : ∃ s : State, s.on Reg.NET_STAT_LINK = true :=
    ⟨mkN 4 [(Reg.NET_STAT_LINK, 1), (Reg.NET_STAT_IP_OK, 1)], by decide⟩

theorem wit_LinkAndAddress_3 : ∃ s : State, ∃ f : EthFrame, s.t1l = true ∧ frameDropped f = false ∧ f.memOk = true ∧ f.txOk = true ∧ f.dest = .own ∧ f.fragment = false ∧ f.load = .echo ∧ s.on Reg.NET_STAT_IP_OK = true ∧ s.net.txBad = false :=
  ⟨mkN 4 [(Reg.NET_STAT_PP_RUN, 1), (Reg.NET_CTRL_EN, 1), (Reg.NET_STAT_LINK, 1), (Reg.NET_STAT_IP_OK, 1)], { load := .echo }, by decide⟩

theorem wit_LinkAndAddress_4 : ∃ s : State, ∃ f : EthFrame, s.t1l = true ∧ frameDropped f = false ∧ f.memOk = true ∧ f.txOk = false ∧ f.dest = .own ∧ f.fragment = false ∧ f.load = .echo ∧ s.on Reg.NET_STAT_IP_OK = true :=
  ⟨mkN 4 [(Reg.NET_STAT_PP_RUN, 1), (Reg.NET_CTRL_EN, 1), (Reg.NET_STAT_LINK, 1), (Reg.NET_STAT_IP_OK, 1)], { load := .echo, txOk := false }, by decide⟩

theorem wit_LinkAndAddress_5 : ∃ s : State, ∃ f : EthFrame, ∃ addr mask gw dns : Nat, s.t1l = true ∧ frameDropped f = false ∧ f.memOk = true ∧ f.txOk = true ∧ f.dest = .own ∧ f.fragment = false ∧ f.load = .dhcpLease addr mask gw dns ∧ s.net.txBad = false ∧ s.on Reg.NET_CTRL_DHCP_EN = true ∧ s.rd Hid.ipSrc = 1 ∧ s.on Reg.NET_STAT_IP_OK = false :=
  ⟨mkN 4 [(Reg.NET_STAT_PP_RUN, 1), (Reg.NET_CTRL_EN, 1), (Reg.NET_STAT_LINK, 1), (Reg.NET_CTRL_DHCP_EN, 1), (Hid.ipSrc, 1)], { load := .dhcpLease 77 255 1 2 }, 77, 255, 1, 2, by decide⟩

theorem wit_LinkAndAddress_6 : ∃ s : State, s.t1l = true ∧ s.on Reg.NET_CTRL_DHCP_EN = true ∧ s.rd Hid.ipSrc = 1 ∧ s.on
    Reg.NET_STAT_IP_OK = true ∧ s.net.txBad = false :=
    ⟨mkN 4 [(Reg.NET_STAT_PP_RUN, 1), (Reg.NET_CTRL_EN, 1), (Reg.NET_STAT_LINK, 1), (Reg.NET_STAT_IP_OK, 1), (Reg.NET_CTRL_DHCP_EN,
    1), (Hid.ipSrc, 1)], by decide⟩

theorem wit_LinkAndAddress_7 : ∃ s : State, s.t1l = true ∧ s.on Reg.NET_CTRL_DHCP_EN = true ∧ s.rd Hid.ipSrc = 1 ∧ s.on
    Reg.NET_STAT_IP_OK = true :=
    ⟨mkN 4 [(Reg.NET_STAT_PP_RUN, 1), (Reg.NET_CTRL_EN, 1), (Reg.NET_STAT_LINK, 1), (Reg.NET_STAT_IP_OK, 1), (Reg.NET_CTRL_DHCP_EN,
    1), (Hid.ipSrc, 1)], by decide⟩

theorem wit_LinkAndAddress_8 : ∃ s : State, s.t1l = true ∧ s.on Reg.NET_CTRL_DHCP_EN = true ∧ s.rd Hid.ipSrc = 1 ∧ s.on
    Reg.NET_STAT_IP_OK = false ∧ s.rd Hid.ipWait = 0 :=
    ⟨mkN 4 [(Reg.NET_STAT_PP_RUN, 1), (Reg.NET_CTRL_EN, 1), (Reg.NET_STAT_LINK, 1), (Reg.NET_CTRL_DHCP_EN, 1), (Hid.ipSrc, 1)], by
    decide⟩

theorem wit_LinkAndAddress_9 : ∃ s : State, s.t1l = true ∧ s.rd Hid.ipSrc = 2 :=
    ⟨mkN 4 [(Reg.NET_STAT_PP_RUN, 1), (Reg.NET_CTRL_EN, 1), (Reg.NET_STAT_LINK, 1), (Reg.NET_STAT_IP_OK, 1), (Hid.ipSrc, 2)], by
    decide⟩

theorem wit_LinkAndAddress_10 : ∃ s : State, s.t1l = true ∧ s.rd Hid.ipSrc = 2 ∧ s.on Reg.NET_STAT_IP_OK = false ∧ s.rd Hid.ipWait = 0 :=
  ⟨{ mkN 4 [(Reg.NET_STAT_PP_RUN, 1), (Reg.NET_CTRL_EN, 1), (Reg.NET_STAT_LINK, 1), (Hid.ipSrc, 2)] with netImg := { ip := 77 } }, by decide⟩

theorem wit_LinkAndAddress_11 : ∃ s : State, s.t1l = true ∧ s.netEn 1 = true ∧ s.on Reg.NET_CTRL_FDR_EN = true ∧ s.on
    Reg.NET_STAT_IP_OK = true :=
    ⟨mkN 4 [(Reg.NET_STAT_PP_RUN, 1), (Reg.NET_CTRL_EN, 3), (Reg.NET_STAT_LINK, 1), (Reg.NET_STAT_IP_OK, 1), (Reg.NET_CTRL_FDR_EN,
    1)], by decide⟩

theorem wit_LinkAndAddress_12 : ∃ s : State, s.t1l = true ∧ s.netEn 1 = true ∧ s.on Reg.NET_CTRL_FDR_EN = true ∧ s.on
    Reg.NET_STAT_IP_OK = true ∧ s.rd Reg.NET_FDR_FDR_STATE = 2 ∧ s.net.txBad = false :=
    ⟨mkN 4 [(Reg.NET_STAT_PP_RUN, 1), (Reg.NET_CTRL_EN, 3), (Reg.NET_STAT_LINK, 1), (Reg.NET_STAT_IP_OK, 1), (Reg.NET_CTRL_FDR_EN,
    1), (Reg.NET_FDR_FDR_STATE, 2)], by decide⟩

theorem wit_SecureConnect_1 : ∃ s : State, ∃ ip : Nat, ∃ chain : HubChain, ∃ fo : ScTry, s.t1l = true ∧ s.on Reg.NET_STAT_IP_OK = true ∧ s.netImg.hubs.getD 0 none = some (.address ip) ∧ s.on Hid.scOn = true ∧ s.rd Reg.NET_STAT_SC_STATE = 3 ∧ s.on Hid.scAlt = false ∧ s.chainOk chain = true :=
  ⟨{ mkN 4 [(Reg.NET_STAT_PP_RUN, 1), (Reg.NET_CTRL_EN, 5), (Reg.NET_STAT_LINK, 1), (Reg.NET_STAT_IP_OK, 1), (Hid.scOn, 1), (Reg.NET_STAT_SC_STATE, 3)] with netImg := { hubs := [some (.address 9)], anchors := [[1]], dns := 5 } }, 9, { anchor := [1] }, .unreachable, by decide⟩

theorem wit_SecureConnect_2 : ∃ s : State, ∃ n : List Nat, ∃ chain : HubChain, ∃ fo : ScTry, s.t1l = true ∧ s.on Reg.NET_STAT_IP_OK = true ∧ s.netImg.hubs.getD 0 none = some (.name n) ∧ s.dnsServer ≠ 0 ∧ s.on Hid.scOn = true ∧ s.rd Reg.NET_STAT_SC_STATE = 3 ∧ s.on Hid.scAlt = false ∧ s.chainOk chain = true :=
  ⟨{ mkN 4 [(Reg.NET_STAT_PP_RUN, 1), (Reg.NET_CTRL_EN, 5), (Reg.NET_STAT_LINK, 1), (Reg.NET_STAT_IP_OK, 1), (Hid.scOn, 1), (Reg.NET_STAT_SC_STATE, 3)] with netImg := { hubs := [some (.name [104])], anchors := [[1]], dns := 5 } }, [104], { anchor := [1] }, .unreachable, by decide⟩

theorem wit_SecureConnect_3 : ∃ s : State, ∃ ip : Nat, ∃ chain : HubChain, s.t1l = true ∧ s.on Reg.NET_STAT_IP_OK = true ∧ s.netImg.hubs.getD 0 none = some (.address ip) ∧ s.on Hid.scOn = true ∧ s.rd Reg.NET_STAT_SC_STATE = 3 ∧ s.on Hid.scAlt = false ∧ s.chainOk chain = false :=
  ⟨{ mkN 4 [(Reg.NET_STAT_PP_RUN, 1), (Reg.NET_CTRL_EN, 5), (Reg.NET_STAT_LINK, 1), (Reg.NET_STAT_IP_OK, 1), (Hid.scOn, 1), (Reg.NET_STAT_SC_STATE, 3)] with netImg := { hubs := [some (.address 9)], anchors := [[1]], dns := 5 } }, 9, { anchor := [2] }, by decide⟩

theorem wit_SecureConnect_4 : ∃ s : State, s.netOn = true ∧ s.rd Reg.NET_STAT_SC_STATE = 4 :=
    ⟨mkN 4 [(Reg.NET_STAT_PP_RUN, 1), (Reg.NET_CTRL_EN, 5), (Reg.NET_STAT_SC_STATE, 4)], by decide⟩

theorem wit_SecureConnect_5 : ∃ s : State, s.netOn = true ∧ s.scUp = true ∧ s.net.txBad = false :=
    ⟨mkN 4 [(Reg.NET_STAT_PP_RUN, 1), (Reg.NET_CTRL_EN, 5), (Reg.NET_STAT_SC_STATE, 4)], by decide⟩

theorem wit_SecureConnect_6 : ∃ s : State, ∃ random : Nat, s.netOn = true ∧ s.netEn 2 = true ∧ s.otp.keySet = false :=
    ⟨mkN 4 [(Reg.NET_STAT_PP_RUN, 1), (Reg.NET_CTRL_EN, 5)], 9, by decide⟩

theorem wit_MstpAndSupervision_1 : ∃ s : State, ∃ b : Fin 2, s.busOn b.val 1 = true :=
    ⟨mk [(Reg.PWR_MODE_MODE, 0, 4), (Reg.NET_STAT_PP_RUN, 0, 1), (Reg.NET_CTRL_EN, 0, 16), (Reg.BUS_CFG_PROTO, 1, 1)], 1, by decide⟩

theorem wit_MstpAndSupervision_2 : ∃ s : State, ∃ b : Fin 2, s.busOn b.val 1 = true ∧ s.rdAt Reg.BUS_STAT_STATE b.val = 2 :=
    ⟨mk [(Reg.PWR_MODE_MODE, 0, 4), (Reg.NET_STAT_PP_RUN, 0, 1), (Reg.NET_CTRL_EN, 0, 16), (Reg.BUS_CFG_PROTO, 1, 1),
    (Reg.BUS_STAT_STATE, 1, 2)], 1, by decide⟩

theorem wit_MstpAndSupervision_3 : ∃ s : State, ∃ b : Fin 2, s.busOn b.val 1 = true :=
    ⟨mk [(Reg.PWR_MODE_MODE, 0, 4), (Reg.NET_STAT_PP_RUN, 0, 1), (Reg.NET_CTRL_EN, 0, 16), (Reg.BUS_CFG_PROTO, 1, 1)], 1, by decide⟩

theorem wit_MstpAndSupervision_4 : ∃ s : State, s.rd Reg.NET_SUP_LEFT_LEFT ≤ 1 ∧ s.on Reg.NET_SUP_SUP_EN = true ∧ s.on
    Reg.PWR_STAT_NET_LOST = false ∧ s.native = true ∧ s.alive = true :=
    ⟨mkN 4 [(Reg.NET_SUP_SUP_EN, 1), (Reg.NET_SUP_LEFT_LEFT, 1)], by decide⟩

theorem wit_ModbusServerAndClient_1 : ∃ s : State, ∃ b : Fin 2, ∃ a : Fin 256, ∃ z : Fin 16, s.busOn b.val 2 = true ∧ a.val = s.rdAt
    Reg.BUS_CFG_ADDR b.val :=
    ⟨mbState, 0, 17, 2, by decide⟩

theorem wit_ModbusServerAndClient_2 : ∃ s : State, ∃ b : Fin 2, ∃ a : Fin 256, ∃ i : Fin 64, s.busOn b.val 2 = true ∧ a.val = s.rdAt
    Reg.BUS_CFG_ADDR b.val :=
    ⟨mbState, 0, 17, 2, by decide⟩

theorem wit_ModbusServerAndClient_3 : ∃ s : State, ∃ b : Fin 2, ∃ a : Fin 256, ∃ z : Fin 16, ∃ v : Nat, s.busOn b.val 2 = true ∧
    a.val = s.rdAt Reg.BUS_CFG_ADDR b.val ∧ 1 ≤ v ∧ v ≤ 4 ∧ s.zoneArray z.val = List.replicate 16 none :=
    ⟨mbState, 0, 17, 2, 3, by decide⟩

theorem wit_ModbusServerAndClient_4 : ∃ s : State, ∃ b : Fin 2, ∃ a : Fin 256, ∃ c : Fin 160, ∃ hi lo : Nat, s.busOn b.val 2 = true
    ∧ a.val = s.rdAt Reg.BUS_CFG_ADDR b.val ∧ s.inGroup c.val = false :=
    ⟨mbState, 0, 17, 2, 70000, 5, by decide⟩

theorem wit_ModbusServerAndClient_5 : ∃ s : State, ∃ b : Fin 2, ∃ a : Fin 256, s.busOn b.val 2 = true ∧ a.val = s.rdAt
    Reg.BUS_CFG_ADDR b.val :=
    ⟨mbState, 0, 17, by decide⟩

theorem wit_ModbusServerAndClient_6 : ∃ s : State, ∃ b : Fin 2, ∃ a : Fin 256, ∃ f : Nat, s.busOn b.val 2 = true ∧ a.val = s.rdAt
    Reg.BUS_CFG_ADDR b.val ∧ f ≤ 127 ∧ mbKnown f = false :=
    ⟨mbState, 0, 17, 43, by decide⟩

theorem wit_ModbusServerAndClient_7 : ∃ s : State, ∃ b : Fin 2, ∃ e : Fin 16, ∃ c : MbClient, s.busOn b.val 3 = true ∧ s.mbEntry
    b.val e.val = some c ∧ s.onAt Hid.mbDue (16 * b.val + e.val) = true :=
    ⟨mbClient.wrAt Hid.mbDue 0 1, 0, 0, mbC, by decide⟩

theorem wit_ModbusServerAndClient_8 : ∃ s : State, ∃ b : Fin 2, ∃ e : Fin 16, ∃ c : MbClient, ∃ values : List Nat, ∃ q : Int,
    s.busOn b.val 3 = true ∧ s.mbEntry b.val e.val = some c ∧ s.onAt Hid.mbWait (16 * b.val + e.val) = true ∧ values.length =
    mbWidth c.format ∧ mbScale c values = some q :=
    ⟨mbClient.wrAt Hid.mbWait 0 1, 0, 0, mbC, [300], 300 * 65536, by decide⟩

theorem wit_ModbusServerAndClient_9 : ∃ s : State, ∃ b : Fin 2, ∃ e : Fin 16, ∃ c : MbClient, s.busOn b.val 3 = true ∧ s.mbEntry
    b.val e.val = some c ∧ s.onAt Hid.mbWait (16 * b.val + e.val) = true ∧ s.onAt Hid.mbTries (16 * b.val + e.val) = false :=
    ⟨mbClient.wrAt Hid.mbWait 0 1, 0, 0, mbC, by decide⟩

theorem wit_ModbusServerAndClient_10 : ∃ s : State, ∃ b : Fin 2, ∃ e : Fin 16, ∃ c : MbClient, s.busOn b.val 3 = true ∧ s.mbEntry
    b.val e.val = some c ∧ s.onAt Hid.mbWait (16 * b.val + e.val) = true ∧ s.onAt Hid.mbTries (16 * b.val + e.val) = true :=
    ⟨(mbClient.wrAt Hid.mbWait 0 1).wrAt Hid.mbTries 0 1, 0, 0, mbC, by decide⟩

theorem wit_BacnetServices_1 : ∃ s : State, ∃ f : NetFrom, ∃ z : Fin 16, s.bacOn f.port.val = true ∧ f.ram.val = 0 ∧ plainReq f =
    true ∧ s.net.txBad = false ∧ s.rd Reg.NET_STAT_DCC ≠ 1 :=
    ⟨bacState, {}, 3, by decide⟩

theorem wit_BacnetServices_2 : ∃ s : State, ∃ f : NetFrom, ∃ z : Fin 16, s.bacOn f.port.val = true ∧ f.ram.val = 0 ∧ s.net.txBad = false ∧ s.rd Reg.NET_STAT_DCC ≠ 1 ∧ f.octets ≤ apduMax f.port.val ∧ 1 < f.reqSegs ∧ f.reqSegs ≤ 16 ∧ f.ansSegs ≤ 1 :=
  ⟨bacState, { reqSegs := 5, window := 2 }, 3, by decide⟩

theorem wit_BacnetServices_3 : ∃ s : State, ∃ f : NetFrom, ∃ l : List BacRef, s.bacOn f.port.val = true ∧ f.ram.val = 0 ∧ s.net.txBad = false ∧ s.rd Reg.NET_STAT_DCC ≠ 1 ∧ apduMax f.port.val < f.octets :=
  ⟨bacState, { octets := 1477 }, [], by decide⟩

theorem wit_BacnetServices_4 : ∃ s : State, ∃ f : NetFrom, ∃ l : List BacRef, s.bacOn f.port.val = true ∧ f.ram.val = 0 ∧ s.net.txBad = false ∧ s.rd Reg.NET_STAT_DCC ≠ 1 ∧ f.octets ≤ apduMax f.port.val ∧ ((16 < f.reqSegs ∨ 16 < f.ansSegs)) :=
  ⟨bacState, { reqSegs := 17 }, [], by decide⟩

theorem wit_BacnetServices_5 : ∃ s : State, ∃ f : NetFrom, ∃ z : Fin 16, s.bacOn f.port.val = true ∧ f.port.val ≤ 1 ∧ f.ram.val = 0 ∧ plainReq f = true ∧ s.net.txBad = true ∧ s.rd Reg.NET_STAT_DCC ≠ 1 :=
  ⟨{ bacState with net := { txBad := true } }, {}, 3, by decide⟩

theorem wit_BacnetServices_6 : ∃ s : State, ∃ f : NetFrom, ∃ i : Fin 256, ∃ p : Fin 17, ∃ b : Nat, ∃ q : Int, s.bacOn f.port.val =
    true ∧ f.ram.val = 0 ∧ plainReq f = true ∧ s.net.txBad = false ∧ s.rd Reg.NET_STAT_DCC ≠ 1 ∧ s.avBound i.val = false ∧ p.val ≠ 0
    ∧ qOfReal b = some q :=
    ⟨bacState, {}, 3, 8, 0x41A00000, 20 * 65536, by decide⟩

theorem wit_BacnetServices_7 : ∃ s : State, ∃ f : NetFrom, ∃ z : Fin 16, ∃ who life : Nat, s.bacOn f.port.val = true ∧ f.ram.val = 0
    ∧ plainReq f = true ∧ s.net.txBad = false ∧ s.rd Reg.NET_STAT_DCC ≠ 1 ∧ 1 ≤ life ∧ life ≤ 28800 ∧ (dropSub s.net.subs who
    ⟨.multiState z.val, .presentValue⟩).length < 32 :=
    ⟨bacState, {}, 3, 5, 600, by decide⟩

theorem wit_BacnetServices_8 : ∃ s : State, ∃ who : Nat, ∃ ref : BacRef, s.netOn = true ∧ s.subEnded who ref = true :=
  ⟨{ bacState with net := { subs := [⟨5, ⟨.multiState 3, .presentValue⟩, 1, .num 1⟩] } }, 5, ⟨.multiState 3, .presentValue⟩, by decide⟩

theorem wit_BacnetServices_9 : ∃ s : State, ∃ time : SyncTime, ∃ g hu : Nat, (upTo 4).any s.bacOn = true ∧ s.rd Reg.NET_STAT_DCC ≠ 1
    ∧ syncSeconds time = some (g, hu) ∧ g < dayOf 200 1 1 * 86400 ∧ dowOk time.dow = true ∧ s.on Reg.RTC_STAT_OSF = true ∧ s.on
    Hid.oscStopped = false :=
    ⟨bacState, ⟨some 2026, some 5, some 6, none, some 7, some 8, some 9, some 0⟩, dayOf 26 5 6 * 86400 + 7 * 3600 + 8 * 60 + 9, 0,
    by decide⟩

theorem wit_BacnetServices_10 : ∃ s : State, ∃ f : NetFrom, ∃ pw : List Nat, s.bacOn f.port.val = true ∧ f.ram.val = 0 ∧ plainReq f
    = true ∧ s.net.txBad = false ∧ s.passwordOk pw = true ∧ s.on Hid.softHold = false :=
    ⟨bacState, {}, [], by decide⟩

theorem wit_BacnetServices_11 : ∃ s : State, ∃ f : NetFrom, ∃ pw : List Nat, s.bacOn f.port.val = true ∧ f.ram.val = 0 ∧ plainReq f
    = true ∧ s.net.txBad = false ∧ s.passwordOk pw = true :=
    ⟨bacState, {}, [], by decide⟩

theorem wit_BacnetServices_12 : ∃ s : State, ∃ f : NetFrom, ∃ m : Fin 3, ∃ timed : Bool, ∃ pw : List Nat, s.bacOn f.port.val = true
    ∧ f.ram.val = 0 ∧ plainReq f = true ∧ s.net.txBad = false ∧ s.passwordOk pw = true :=
    ⟨bacState, {}, 1, true, [], by decide⟩

theorem wit_BacnetServices_13 : ∃ s : State, s.netOn = true ∧ s.on Hid.dccTimed = true :=
    ⟨bacState.wr Hid.dccTimed 1, by decide⟩

theorem wit_BacnetServices_14 : ∃ s : State, ∃ f : NetFrom, ∃ k : Nat, ∃ data : List Nat, s.bacOn f.port.val = true ∧ f.ram.val = 0
    ∧ plainReq f = true ∧ s.net.txBad = false ∧ s.rd Reg.NET_STAT_DCC ≠ 1 ∧ s.rd Reg.RGN_CTRL_STATE = 0 ∧ s.rgnMode = true ∧
    data.length % 4 = 0 ∧ k + data.length / 4 ≤ 8192 :=
    ⟨bacState, {}, 3, [1, 2, 3, 4], by decide⟩

theorem wit_BacnetAlarmsAndTrends_1 : ∃ s : State, ∃ f : NetFrom, ∃ obj : BacObj, ∃ dest : EventTo, s.bacOn f.port.val = true ∧
    f.ram.val = 0 ∧ plainReq f = true ∧ s.net.txBad = false ∧ s.rd Reg.NET_STAT_DCC ≠ 1 ∧ objExists obj = true :=
    ⟨bacState, {}, .loop 3, .fault, by decide⟩

theorem wit_BacnetAlarmsAndTrends_2 : ∃ s : State, ∃ f : NetFrom, s.bacOn f.port.val = true ∧ f.ram.val = 0 ∧ plainReq f = true ∧
    s.net.txBad = false ∧ s.rd Reg.NET_STAT_DCC ≠ 1 ∧ f.summary = false :=
    ⟨bacState, {}, by decide⟩

theorem wit_BacnetAlarmsAndTrends_3 : ∃ s : State, ∃ f : NetFrom, s.bacOn f.port.val = true ∧ f.ram.val = 0 ∧ plainReq f = true ∧ s.net.txBad = false ∧ s.rd Reg.NET_STAT_DCC ≠ 1 ∧ f.summary = true :=
  ⟨bacState, { summary := true }, by decide⟩

theorem wit_BacnetAlarmsAndTrends_4 : ∃ s : State, ∃ f : NetFrom, ∃ log : Fin 8, ∃ first count : Nat, s.bacOn f.port.val = true ∧
    f.ram.val = 0 ∧ plainReq f = true ∧ s.net.txBad = false ∧ s.rd Reg.NET_STAT_DCC ≠ 1 :=
    ⟨bacState, {}, 1, 0, 5, by decide⟩

theorem wit_BacnetAlarmsAndTrends_5 : ∃ s : State, ∃ f : NetFrom, s.bacOn f.port.val = true ∧ s.net.txBad = false ∧ s.rd
    Reg.NET_STAT_DCC ≠ 1 :=
    ⟨bacState, {}, by decide⟩

theorem wit_BacnetAlarmsAndTrends_6 : ∃ s : State, ∃ f : NetFrom, ∃ obj : BacObj, s.bacOn f.port.val = true ∧ s.net.txBad = false ∧
    s.rd Reg.NET_STAT_DCC ≠ 1 ∧ objExists obj = true :=
    ⟨bacState, {}, .loop 3, by decide⟩

theorem wit_BacnetAlarmsAndTrends_7 : ∃ s : State, ∃ f : NetFrom, s.bacOn f.port.val = true ∧ f.ram.val = 0 ∧ plainReq f = true ∧
    s.net.txBad = false ∧ s.rd Reg.NET_STAT_DCC ≠ 1 :=
    ⟨bacState, {}, by decide⟩

theorem wit_BacnetAlarmsAndTrends_8 : ∃ s : State, ∃ log : Fin 8, ∃ z : Fin 16, s.netOn = true ∧ s.onAt Hid.trendDue log.val = true ∧ s.net.trends.length = 8 ∧ (s.net.trends.getD log.val {}).enable = true ∧ (s.net.trends.getD log.val {}).interval ≠ 0 ∧ (s.net.trends.getD log.val {}).ref = some ⟨.multiState z.val, .presentValue⟩ ∧ (s.net.trends.getD log.val {}).records.length < 512 :=
  ⟨{ bacState.wrAt Hid.trendDue 1 1 with net := { trends := List.replicate 8 { enable := true, interval := 60, ref := some ⟨.multiState 3, .presentValue⟩ } } }, 1, 3, by decide⟩

theorem wit_BacnetAlarmsAndTrends_9 : ∃ s : State, ∃ obj : BacObj, ∃ dest : EventTo, s.netOn = true ∧ reports obj = true ∧ (s.netObj
    obj).event ≠ dest ∧ s.eventAsked obj = dest :=
    ⟨mk [(Reg.PWR_MODE_MODE, 0, 4), (Reg.NET_STAT_PP_RUN, 0, 1), (Reg.NET_CTRL_EN, 0, 3), (Reg.UI_CFG_MODE, 3, 1), (Hid.aiRsn, 3,
    3)], .analogInput 3, .fault, by decide⟩

theorem wit_PanelRuns_1 : ∃ s : State, ∃ us : Nat, ∃ sources gates : List Nat, s.panelScans = true ∧ s.on Hid.dispHold = false ∧
    s.rd Reg.DISP_STAT_SLOT < s.rd Hid.dispLines + 3 :=
    ⟨mkN 4 [(Reg.DISP_STAT_STATE, 3), (Hid.dispLines, 160), (Reg.DISP_STAT_SLOT, 5)], 100, [], [], by decide⟩

theorem wit_PanelRuns_2 : ∃ s : State, ∃ us : Nat, ∃ sources gates bad : List Nat, s.panelScans = true ∧ s.on Hid.dispHold = false ∧
    s.rd Hid.dispLines + 3 ≤ s.rd Reg.DISP_STAT_SLOT :=
    ⟨mkN 4 [(Reg.DISP_STAT_STATE, 3), (Hid.dispLines, 100), (Reg.DISP_STAT_SLOT, 103)], 100, [], [], [], by decide⟩

theorem wit_PanelRuns_3 : ∃ s : State, ∃ us r out : Nat, ∃ sources gates : List Nat, s.panelScans = true ∧ s.on Hid.dispHold = false
    ∧ s.rd Reg.DISP_STAT_SLOT = r + 2 ∧ r < s.rd Hid.dispLines ∧ r < 256 ∧ s.readBack r = true ∧ s.fbBad = [] ∧ s.mismatches r
    sources gates [] = [out] ∧ s.on Hid.dispRb = false :=
    ⟨mkN 4 [(Reg.DISP_STAT_STATE, 3), (Hid.dispLines, 100), (Reg.DISP_STAT_SLOT, 9), (Reg.DISP_RB_RB_EN, 1), (Reg.DISP_RB_RB_FIRST,
    7)], 100, 7, 0, [9], [], by decide⟩

theorem wit_PanelRuns_4 : ∃ s : State, ∃ us : Nat, ∃ bad : List Nat, s.rd Reg.DISP_STAT_STATE = 3 ∧ s.on Hid.dispHold = false ∧ 2 ≤
    s.rd Reg.DISP_STAT_SLOT ∧ s.rd Reg.DISP_STAT_SLOT ≤ s.rd Hid.dispLines + 1 ∧ bad.any (fun k => decide (k < 48)) = true ∧ s.on
    Reg.DISP_CTRL_SRC = false :=
    ⟨mkN 4 [(Reg.DISP_STAT_STATE, 3), (Hid.dispLines, 100), (Reg.DISP_STAT_SLOT, 9)], 100, [3], by decide⟩

theorem wit_PanelRuns_5 : ∃ s : State, ∃ us : Nat, ∃ bad : List Nat, ∃ k : Fin 48, s.rd Reg.DISP_STAT_STATE = 3 ∧ s.on Hid.dispHold
    = false ∧ 2 ≤ s.rd Reg.DISP_STAT_SLOT ∧ s.rd Reg.DISP_STAT_SLOT ≤ s.rd Hid.dispLines + 1 ∧ bad.contains k.val = true ∧ s.on
    Reg.DISP_CTRL_SRC = true :=
    ⟨mkN 4 [(Reg.DISP_STAT_STATE, 3), (Hid.dispLines, 100), (Reg.DISP_STAT_SLOT, 9), (Reg.DISP_CTRL_SRC, 1)], 100, [3], 3, by
    decide⟩

theorem wit_PanelRuns_6 : ∃ s : State, ∃ us : Nat, s.rd Reg.DISP_STAT_STATE = 3 ∧ s.on Hid.dispHold = true ∧ s.on Hid.dispPage =
    false ∧ (s.balance (if s.on Hid.dispDrew = true then us else min us s.holdNeed)).frameMayEnd = true :=
    ⟨mkN 4 [(Reg.DISP_STAT_STATE, 3), (Hid.dispLines, 100), (Reg.DISP_STAT_SLOT, 255), (Hid.dispHold, 1), (Hid.dispRefresh, 60)],
    20000, by decide⟩

theorem wit_PanelRuns_7 : ∃ s : State, ∃ us : Nat, s.rd Reg.DISP_STAT_STATE = 2 ∧ s.rd Hid.dispFrames ≤ 1 ∧ s.on Hid.dispHold = true
    ∧ s.on Hid.dispPage = false ∧ (s.balance (if s.on Hid.dispDrew = true then us else min us s.holdNeed)).frameMayEnd = true :=
    ⟨mkN 4 [(Reg.DISP_STAT_STATE, 2), (Hid.dispLines, 100), (Reg.DISP_STAT_SLOT, 255), (Hid.dispHold, 1), (Reg.DISP_STAT_POL, 1),
    (Hid.dispFrames, 1)], 20000, by decide⟩

theorem wit_PanelRuns_8 : ∃ s : State, ∃ k : Fin 4, s.alive = true :=
    ⟨mkN 4 [(Reg.DISP_STAT_SUP_OK, 3), (Hid.resetActive, 0)], 3, by decide⟩

theorem wit_PanelRuns_9 : ∃ s : State, s.rd Reg.DISP_STAT_STATE = 1 ∧ s.rd Reg.DISP_STAT_SUP_OK = 15 ∧ s.panelMay = true ∧ s.on
    Hid.panelDis = false :=
    ⟨mkN 4 [(Reg.DISP_STAT_SUP_OK, 15), (Reg.DISP_STAT_STATE, 1), (Reg.DISP_CTRL_LINES, 160)], by decide⟩

theorem wit_PanelRuns_10 : ∃ s : State, ∃ k : Fin 4, s.panelLive = true ∧ s.panelMay = true :=
    ⟨mkN 4 [(Reg.DISP_STAT_SUP_OK, 15), (Reg.DISP_STAT_STATE, 3), (Reg.DISP_CTRL_LINES, 160)], 1, by decide⟩

theorem wit_PanelRuns_11 : ∃ s : State, ∃ k : Fin 4, s.on Hid.panelDis = true :=
    ⟨mkN 0 [(Hid.panelDis, 1), (Hid.resetActive, 1)], 1, by decide⟩

theorem wit_PanelRuns_12 : ∃ s : State, s.on Hid.panelDis = false ∧ s.rd Reg.DISP_STAT_STATE = 4 :=
    ⟨mkN 4 [(Reg.DISP_STAT_STATE, 4)], by decide⟩

theorem wit_PanelRuns_13 : ∃ s : State, s.on Hid.panelDis = true :=
    ⟨mkN 4 [(Hid.panelDis, 1), (Reg.DISP_BAL_BAL, 5)], by decide⟩

theorem wit_ComposerDraws_1 : ∃ s : State, s.composes = true ∧ s.on Hid.dispPage = true ∧ (s.panelScans = false ∨ s.on Hid.dispHold
    = true) ∧ s.pageItems = [] :=
    ⟨mkN 4 [(Hid.dispPage, 1)], by decide⟩

theorem wit_ComposerDraws_2 : ∃ s : State, ∃ l : List Nat, s.panelScans = true ∧ s.on Hid.dispHold = false :=
    ⟨mk [(Reg.PWR_MODE_MODE, 0, 4), (Hid.dispPage, 0, 1), (Reg.DISP_STAT_STATE, 0, 3), (Reg.DISP_STAT_SLOT, 0, 10)], [], by decide⟩

theorem wit_ComposerDraws_3 : ∃ s : State, ∃ i : Item, s.composes = true ∧ s.on Hid.dispPage = true ∧ (s.panelScans = false ∨ s.on
    Hid.dispHold = true) ∧ s.pageItems = [i] ∧ i.typ = 4 :=
    ⟨mk [(Reg.PWR_MODE_MODE, 0, 4), (Hid.dispPage, 0, 1), (Hid.comp, 0, 16), (Hid.comp, 16, 0x42050610), (Hid.comp, 17, 7)],
    ⟨0x42050610, 7⟩, by decide⟩

theorem wit_ComposerDraws_4 : ∃ s : State, ∃ i : Item, ∃ us : Nat, s.composes = true ∧ s.pageItems = [i] ∧ i.typ = 2 ∧ bits i.w1 0 4
    = 8 ∧ s.rd Hid.compTick ≤ s.tick + 1 ∧ s.rd Reg.DISP_STAT_STATE = 3 ∧ s.on Hid.dispHold = true ∧ s.on Hid.dispPage = false ∧
    (s.balance (if s.on Hid.dispDrew = true then us else min us s.holdNeed)).frameMayEnd = true :=
    ⟨mk [(Reg.PWR_MODE_MODE, 0, 4), (Hid.comp, 0, 16), (Hid.comp, 16, 0x22050610), (Hid.comp, 17, 0x8), (Reg.DISP_STAT_STATE, 0, 3),
    (Hid.dispLines, 0, 100), (Reg.DISP_STAT_SLOT, 0, 255), (Hid.dispHold, 0, 1), (Hid.dispRefresh, 0, 60)], ⟨0x22050610, 8⟩, 20000,
    by decide⟩

theorem wit_ComposerDraws_5 : ∃ s : State, ∃ k : Nat, ∃ i : Item, ∃ text : List Nat, s.composes = true ∧ s.on Hid.dispPage = false ∧ s.pageItems[k]? = some i ∧ i.typ = 2 ∧ s.held.find? (fun p => p.1 == k) = some (k, text) ∧ s.scanWithin i = false ∧ s.drawn.any (fun p => p.1 == k && p.2 == text) = false :=
  ⟨{ mk [(Reg.PWR_MODE_MODE, 0, 4), (Hid.comp, 0, 16), (Hid.comp, 16, 0x22050610), (Hid.comp, 17, 0x8)] with held := [(0, [256, 45])] }, 0, ⟨0x22050610, 8⟩, [256, 45], by decide⟩

theorem wit_ComposerDraws_6 : ∃ s : State, ∃ k : Nat, ∃ i : Item, ∃ text : List Nat, s.composes = true ∧ s.on Hid.dispPage = false ∧ s.pageItems[k]? = some i ∧ i.typ = 2 ∧ s.held.find? (fun p => p.1 == k) = some (k, text) ∧ k < 3072 ∧ s.scanWithin i = true ∧ s.drawn.any (fun p => p.1 == k && p.2 == text) = false :=
  ⟨{ mk [(Reg.PWR_MODE_MODE, 0, 4), (Hid.comp, 0, 16), (Hid.comp, 16, 0x22050610), (Hid.comp, 17, 0x8), (Reg.DISP_STAT_STATE, 0, 3), (Hid.dispLines, 0, 160), (Reg.DISP_STAT_SLOT, 0, 10)] with held := [(0, [256, 45])] }, 0, ⟨0x22050610, 8⟩, [256, 45], by decide⟩

theorem wit_ComposerDraws_7 : ∃ s : State, ∃ k : Nat, ∃ i : Item, ∃ text : List Nat, s.composes = true ∧ s.on Hid.dispPage = false ∧ s.pageItems[k]? = some i ∧ i.typ = 2 ∧ s.held.find? (fun p => p.1 == k) = some (k, text) :=
  ⟨{ mk [(Reg.PWR_MODE_MODE, 0, 4), (Hid.comp, 0, 16), (Hid.comp, 16, 0x22050610), (Hid.comp, 17, 0x8)] with held := [(0, [256, 45])] }, 0, ⟨0x22050610, 8⟩, [256, 45], by decide⟩

theorem wit_ComposerDraws_8 : ∃ s : State, ∃ k : Nat, ∃ i : Item, ∃ text : List Nat, s.composes = true ∧ s.on Hid.dispPage = false ∧ s.pageItems[k]? = some i ∧ i.typ = 2 ∧ s.held.find? (fun p => p.1 == k) = some (k, text) ∧ s.scanWithin i = false ∧ s.drawn.any (fun p => p.1 == k && p.2 == text) = true :=
  ⟨{ mk [(Reg.PWR_MODE_MODE, 0, 4), (Hid.comp, 0, 16), (Hid.comp, 16, 0x22050610), (Hid.comp, 17, 0x8)] with held := [(0, [256, 45])], drawn := [(0, [256, 45])] }, 0, ⟨0x22050610, 8⟩, [256, 45], by decide⟩

theorem wit_Iz30Port_1 : ∃ s : State, ∃ p v : Fin 256, s.izUp = true ∧ izMask p.val ≠ 0 ∧ izPairHigh p.val = false ∧ izPairLow p.val
    = false :=
    ⟨mkN 5 [], 0x98, 3, by decide⟩

theorem wit_Iz30Port_2 : ∃ s : State, ∃ n : Nat, s.izUp = true :=
    ⟨mkN 5 [(Hid.izPtr, 255)], 2, by decide⟩

theorem wit_Iz30Port_3 : ∃ s : State, ∃ r : Fin 256, s.izUp = true ∧ izPairHigh r.val = true :=
    ⟨mkN 5 [], 0x14, by decide⟩

theorem wit_Iz30Port_4 : ∃ s : State, ∃ r : Fin 256, ∃ v : Nat, s.izUp = true ∧ izPairLow r.val = true ∧ izMask r.val ≠ 0 ∧ 256 ≤
    s.rdAt Hid.izHeld (r.val - 1) :=
    ⟨mk [(Reg.PWR_MODE_MODE, 0, 5), (Hid.izHeld, 0x14, 300)], 0x15, 7, by decide⟩

theorem wit_Iz30Port_5 : ∃ s : State, s.izUp = true :=
    ⟨mkN 5 [], by decide⟩

theorem wit_Iz30Port_6 : ∃ s : State, s.izUp = true :=
    ⟨mkN 5 [], by decide⟩

theorem wit_Iz30Port_7 : ∃ s : State, ∃ v : Nat, s.izUp = true :=
    ⟨mkN 5 [], 0x85, by decide⟩

theorem wit_Iz30Port_8 : ∃ s : State, ∃ m : Nat, s.izUp = true :=
    ⟨mk [(Reg.PWR_MODE_MODE, 0, 5), (Hid.izV, 7, 0x3F)], 0x15, by decide⟩

theorem wit_Iz30Port_9 : ∃ s : State, s.izUp = true :=
  ⟨{ mkN 5 [] with due := [⟨1, 5⟩] }, by decide⟩

theorem wit_Iz30Port_10 : ∃ s : State, s.izUp = true :=
    ⟨mkN 5 [], by decide⟩

theorem wit_Iz30Port_11 : ∃ s : State, ∃ acks : EepAcks, ∃ placed : List (Nat × Nat), s.mode = mIz30 ∧ s.alive = true ∧ s.on
    Hid.izReload = true ∧ (8 < acks.write ∨ 8 < acks.read) :=
    ⟨mkN 5 [(Hid.izReload, 1)], ⟨0, 9⟩, [], by decide⟩

theorem wit_Iz30Port_12 : ∃ s : State, ∃ acks : EepAcks, ∃ placed : List (Nat × Nat), s.mode = mIz30 ∧ s.alive = true ∧ s.on
    Hid.izReload = true ∧ acks.write ≤ 8 ∧ acks.read ≤ 8 ∧ s.izReject (Memory.writes s.eeprom placed) true = none :=
    ⟨mkN 5 [(Hid.izReload, 1)], ⟨8, 1⟩, [(0, 0x49), (1, 0x5A), (2, 5), (3, 1), (4, 0x57)], by decide⟩

theorem wit_Iz30Port_13 : ∃ s : State, s.mode = mIz30 ∧ s.alive = true ∧ bit (s.rdAt Hid.izV 4) 7 = true ∧ bit (s.rdAt Hid.izV 4) 3
    = false ∧ s.rd Hid.izNew ≤ 1 ∧ s.rdAt Hid.izCode (s.rdAt Hid.izV 4 % 8) < 4096 :=
    ⟨mk [(Reg.PWR_MODE_MODE, 0, 5), (Hid.izV, 4, 0x83), (Hid.izCode, 3, 0xABC)], by decide⟩

theorem wit_Iz30Port_14 : ∃ s : State, ∃ f : Fin 2, s.mode = mIz30 ∧ s.alive = true ∧ 77 * 257 ≤ s.rdAt Reg.FANT_MEAS_DUTY f.val :=
    ⟨mk [(Reg.PWR_MODE_MODE, 0, 5), (Reg.FANT_MEAS_DUTY, 1, 77 * 257)], 1, by decide⟩

theorem wit_Iz30Port_15 : ∃ s : State, ∃ u : Fin 4, s.ruOn = true ∧ s.ruNext = some u.val ∧ ((∀ j : Nat, j < 4 → s.onAt Hid.ruWait j
    = false)) :=
    ⟨mk [(Reg.PWR_MODE_MODE, 0, 5), (Hid.izI, 0xB2, 0x83), (Hid.ruDue, 2, 1)], 2, by decide⟩

theorem wit_Iz30Port_16 : ∃ s : State, ∃ u : Fin 4, ∃ l : List Nat, s.ruOn = true ∧ s.onAt Hid.ruWait u.val = true ∧ s.ruGood u.val
    l = true :=
    ⟨mk [(Reg.PWR_MODE_MODE, 0, 5), (Hid.izI, 0xB2, 0x83), (Hid.ruWait, 2, 1)], 2, [3, 0x12, 0x30, 0xBB], by decide⟩

theorem wit_Iz30Port_17 : ∃ s : State, ∃ u : Fin 4, s.ruOn = true ∧ s.onAt Hid.ruWait u.val = true ∧ s.rdAt Hid.ruFails u.val = 2 :=
    ⟨mk [(Reg.PWR_MODE_MODE, 0, 5), (Hid.izI, 0xB2, 0x83), (Hid.ruWait, 2, 1), (Hid.ruFails, 2, 2)], 2, by decide⟩

theorem wit_TestPort_1 : ∃ s : State, ∃ tms tdi : Bool, s.mode ≠ mBackup :=
    ⟨mkN 4 [], true, false, by decide⟩

theorem wit_TestPort_2 : ∃ s : State, ∃ tms tdi : Bool, s.mode ≠ mBackup ∧ s.tap.idcode = true ∧ s.tap.st = .captureDr :=
  ⟨{ mkN 4 [] with tap := { st := .captureDr } }, true, false, by decide⟩

theorem wit_TestPort_3 : ∃ s : State, ∃ tms tdi : Bool, s.mode ≠ mBackup ∧ s.tap.idcode = true ∧ s.tap.st = .shiftDr :=
  ⟨{ mkN 4 [] with tap := { st := .shiftDr, drShift := 5 } }, true, true, by decide⟩

theorem wit_TestPort_4 : ∃ s : State, ∃ tms tdi : Bool, s.mode ≠ mBackup ∧ s.tap.st = .shiftDr :=
  ⟨{ mkN 4 [] with tap := { st := .shiftDr, drShift := 5 } }, true, true, by decide⟩

theorem wit_TestPort_5 : ∃ s : State, ∃ tms tdi : Bool, s.mode ≠ mBackup ∧ s.tap.st = .reset :=
    ⟨mkN 4 [], true, true, by decide⟩

theorem wit_TestPort_6 : ∃ s : State, ∃ tms tdi : Bool, s.mode ≠ mBackup ∧ s.tap.st = .updateDr :=
  ⟨{ mkN 4 [] with tap := { st := .updateDr } }, true, true, by decide⟩

theorem wit_HostSupervisesAndCommands_1 : ∃ s : State, s.port = .opened ∧ bit (s.rd Reg.HOST_DOOR_OPEN) 0 = true ∧ s.rd Hid.swapPos
    = 0 :=
    ⟨mkN 4 [(Reg.HOST_DOOR_OPEN, 1)], by decide⟩

theorem wit_HostSupervisesAndCommands_2 : ∃ s : State, ∃ timeout : Nat, s.port = .opened ∧ s.rgnHolds = false ∧ bit (s.rd
    Reg.HOST_DOOR_OPEN) 0 = true ∧ 10 ≤ timeout ∧ timeout ≤ 1000 :=
    ⟨mkN 4 [(Reg.HOST_DOOR_OPEN, 1)], 10, by decide⟩

theorem wit_HostSupervisesAndCommands_3 : ∃ s : State, s.port = .opened ∧ bit (s.rd Reg.HOST_DOOR_OPEN) 0 = true ∧ s.on
    Reg.SUPV_REPAIR_GO = false ∧ stState (s.cw (s.rd Reg.COACH_SEL_SEL) 44) = 3 ∧ stCause (s.cw (s.rd Reg.COACH_SEL_SEL) 44) = 3 :=
    ⟨hostCoach 5 (3 + 4 + 768), by decide⟩

theorem wit_HostSupervisesAndCommands_4 : ∃ s : State, s.port = .opened ∧ bit (s.rd Reg.HOST_DOOR_OPEN) 0 = true ∧ s.on
    Reg.SUPV_REPAIR_GO = false ∧ ¬(stState (s.cw (s.rd Reg.COACH_SEL_SEL) 44) = 3 ∧ stCause (s.cw (s.rd Reg.COACH_SEL_SEL) 44) = 3)
    :=
    ⟨hostCoach 5 4, by decide⟩

theorem wit_HostSupervisesAndCommands_5 : ∃ s : State, s.port = .opened ∧ s.rgnHolds = false ∧ stEn (s.cw (s.rd Reg.COACH_SEL_SEL)
    44) = true :=
    ⟨hostCoach 5 0x14, by decide⟩

theorem wit_HostSupervisesAndCommands_6 : ∃ s : State, s.port = .opened ∧ s.rgnHolds = false ∧ stEn (s.cw (s.rd Reg.COACH_SEL_SEL)
    44) = true ∧ s.mode ≠ mService :=
    ⟨hostCoach 5 4, by decide⟩

theorem wit_HostSupervisesAndCommands_7 : ∃ s : State, s.port = .opened ∧ s.rgnHolds = false ∧ stEn (s.cw (s.rd Reg.COACH_SEL_SEL)
    44) = true :=
    ⟨hostCoach 5 4, by decide⟩

theorem wit_HostSupervisesAndCommands_8 : ∃ s : State, s.port = .opened ∧ stEn (s.cw (s.rd Reg.COACH_SEL_SEL) 44) = true :=
    ⟨hostCoach 5 0x24, by decide⟩

theorem wit_HostSupervisesAndCommands_9 : ∃ s : State, s.port = .opened ∧ stEn (s.cw (s.rd Reg.COACH_SEL_SEL) 44) = false :=
    ⟨hostCoach 5 0, by decide⟩

theorem wit_HostSupervisesAndCommands_10 : ∃ s : State, s.port = .opened :=
    ⟨mkN 4 [(Hid.tick, 2 ^ 33)], by decide⟩

theorem wit_HostWritesCoachesAndPlans_2 : ∃ s : State, ∃ w : Fin 64, s.port = .opened :=
    ⟨hostCoach 5 0, 1, by decide⟩

theorem wit_HostWritesCoachesAndPlans_3 : ∃ s : State, ∃ count : Nat, s.port = .opened ∧ s.rgnHolds = false ∧ bit (s.rd
    Reg.HOST_DOOR_OPEN) 1 = true ∧ count ≤ 64 :=
    ⟨mkN 4 [(Reg.HOST_DOOR_OPEN, 2)], 64, by decide⟩

theorem wit_HostWritesCoachesAndPlans_4 : ∃ s : State, ∃ r : Fin 16, s.port = .opened :=
    ⟨mk [(Reg.PWR_MODE_MODE, 0, 4), (Hid.wmax, 3, 7)], 3, by decide⟩

theorem wit_HostWritesCoachesAndPlans_5 : ∃ s : State, ∃ v : Nat, s.port = .opened ∧ s.rgnHolds = false ∧ bits v Reg.UI_FILT_OSR.lo
    Reg.UI_FILT_OSR.w ≤ 4 ∧ bits v Reg.UI_FILT_PACE.lo Reg.UI_FILT_PACE.w ≤ 16 ∧ bits v Reg.UI_FILT_LR.lo Reg.UI_FILT_LR.w ≤ 2 :=
    ⟨mkN 4 [(Reg.UI_SEL_SEL, 60)], 4, by decide⟩

theorem wit_HostConvertsAndCalibrates_1 : ∃ s : State, ∃ i : Fin 64, s.port = .opened ∧ s.convs.length = 3 ∧ (s.conv 2).phase = .off
    :=
    ⟨mkN 4 [], 9, by decide⟩

theorem wit_HostConvertsAndCalibrates_2 : ∃ s : State, ∃ mask : Fin 8, s.port = .opened ∧ s.cals.length = 3 :=
    ⟨mkN 4 [], 5, by decide⟩

theorem wit_HostConvertsAndCalibrates_3 : ∃ s : State, ∃ i : Fin 64, ∃ p : Fin 4, s.port = .opened ∧ s.mode = mService ∧ i.val < 40
    ∧ ((p.val = 1 ∨ p.val = 2)) ∧ 1 ≤ s.uiMode i.val ∧ s.uiMode i.val ≤ 6 ∧ s.on Reg.CAL_SYS_STAT_BUSY = false :=
    ⟨mk [(Reg.PWR_MODE_MODE, 0, 3), (Reg.UI_CFG_MODE, 39, 6)], 39, 2, by decide⟩

theorem wit_HostConvertsAndCalibrates_4 : ∃ s : State, ∃ i : Fin 64, ∃ p : Fin 4, s.port = .opened ∧ s.mode ≠ mService ∧ i.val < 40
    ∧ ((p.val = 1 ∨ p.val = 2)) ∧ s.on Reg.CAL_SYS_STAT_BUSY = false :=
    ⟨mkN 4 [], 0, 1, by decide⟩

theorem wit_HostConvertsAndCalibrates_5 : ∃ s : State, ∃ i : Fin 64, ∃ p : Fin 4, s.port = .opened ∧ i.val < 40 ∧ ((p.val = 1 ∨
    p.val = 2)) ∧ s.on Reg.CAL_SYS_STAT_BUSY = true :=
    ⟨mkN 4 [(Reg.CAL_SYS_STAT_BUSY, 1)], 0, 1, by decide⟩

theorem wit_HostConvertsAndCalibrates_6 : ∃ s : State, s.port = .opened ∧ s.on Reg.CAL_SYS_STAT_BUSY = true ∧ s.rd
    Reg.CAL_SYS_CMD_INPUT < 40 ∧ ((s.rd Reg.CAL_SYS_CMD_POINT = 1 ∨ s.rd Reg.CAL_SYS_CMD_POINT = 2)) :=
    ⟨mkN 4 [(Reg.CAL_SYS_STAT_BUSY, 1), (Reg.CAL_SYS_CMD_INPUT, 39), (Reg.CAL_SYS_CMD_POINT, 1)], by decide⟩

theorem wit_HostConvertsAndCalibrates_7 : ∃ s : State, ∃ mask : Fin 256, ∃ i : Fin 8, s.port = .opened ∧ mask.val = 2 ^ i.val ∧
    ((s.tsFailed i.val = false ∨ (s.rdAt Reg.TS_STATE_CAUSE i.val ≠ 1 ∧ s.rdAt Reg.TS_STATE_CAUSE i.val ≠ 3))) :=
    ⟨mk [(Reg.PWR_MODE_MODE, 0, 4), (Reg.TS_STATE_FAILED, 2, 1), (Reg.TS_STATE_CAUSE, 2, 2)], 4, 2, by decide⟩

theorem wit_HostConvertsAndCalibrates_8 : ∃ s : State, ∃ mask : Fin 256, ∃ i : Fin 8, s.port = .opened ∧ mask.val = 2 ^ i.val ∧
    s.tsFailed i.val = true ∧ s.rdAt Reg.TS_STATE_CAUSE i.val ∈ [1, 3] ∧ s.tsUsables i.val = [] :=
    ⟨mk [(Reg.PWR_MODE_MODE, 0, 4), (Reg.TS_STATE_FAILED, 7, 1), (Reg.TS_STATE_CAUSE, 7, 3)], 128, 7, by decide⟩

theorem wit_HostConvertsAndCalibrates_9 : ∃ s : State, ∃ mask : Fin 256, ∃ i : Fin 8, s.port = .opened ∧ mask.val = 2 ^ i.val ∧ s.tsFailed i.val = true ∧ s.rdAt Reg.TS_STATE_CAUSE i.val ∈ [1, 3] ∧ s.tsUsables i.val ≠ [] :=
  ⟨{ mk [(Reg.PWR_MODE_MODE, 0, 4), (Reg.TS_STATE_FAILED, 2, 1), (Reg.TS_STATE_CAUSE, 2, 1), (Hid.tsAt, 3, 1)] with convs := [{ wait := [⟨.therm, 60, 0⟩] }, {}, {}] }, 4, 2, by decide⟩

theorem wit_HostCommandsOutputs_1 : ∃ s : State, ∃ mask : Fin 8, s.port = .opened :=
    ⟨mk [(Reg.PWR_MODE_MODE, 0, 4), (Reg.FANT_STATE_STATE, 0, 8), (Reg.FANT_STATE_STATE, 1, 8)], 7, by decide⟩

theorem wit_HostCommandsOutputs_2 : ∃ s : State, ∃ v : Nat, s.port = .opened ∧ s.rgnHolds = false ∧ (s.vlvWriteCfg (s.rd
    Reg.VLV_SEL_SEL) v).vlvOk 0x3401 (s.rd Reg.VLV_SEL_SEL) = true :=
    ⟨mk [(Reg.PWR_MODE_MODE, 0, 4), (Reg.VLV_SEL_SEL, 0, 7), (Reg.VLV_HOLD_I_HOLD, 7, 300), (Reg.VLV_HOLD_I_HOLD_MIN, 7, 300)], 9,
    by decide⟩

theorem wit_HostCommandsOutputs_3 : ∃ s : State, ∃ mask : Fin 16, ∃ h : Nat, s.port = .opened ∧ s.operating = true ∧ h < 4 ∧
    mask.val = 2 ^ h :=
    ⟨mk [(Reg.PWR_MODE_MODE, 0, 4), (Reg.VLV_STATE_STATE, 6, 1), (Reg.VLV_CFG_DIAG_OFF, 6, 1), (Reg.VLV_CFG_MODE, 6, 1)], 8, 3, by
    decide⟩

theorem wit_HostCommandsOutputs_4 : ∃ s : State, ∃ mask : Fin 256, s.port = .opened :=
    ⟨mk [(Reg.PWR_MODE_MODE, 0, 4), (Reg.VLV_STATE_STATE, 7, 5), (Reg.VLV_DIAG_CAUSE, 7, 1), (Reg.VLV_CFG_MODE, 7, 1)], 128, by
    decide⟩

theorem wit_HostCommandsOutputs_5 : ∃ s : State, ∃ mask : Fin 16, s.port = .opened :=
    ⟨mkN 4 [(Reg.VLV_HS_BLOCKED, 15)], 9, by decide⟩

theorem wit_HostCommandsOutputs_6 : ∃ s : State, ∃ mask : Fin 16, s.port = .opened :=
    ⟨mkN 4 [], 9, by decide⟩

theorem wit_HostCommandsOutputs_7 : ∃ s : State, ∃ mask : Fin 16, s.port = .opened :=
    ⟨mk [(Reg.PWR_MODE_MODE, 0, 4), (Reg.DMP_STATE_STATE, 3, 5), (Reg.DMP_STATE_CAUSE, 3, 1)], 8, by decide⟩

theorem wit_HostCommandsOutputs_8 : ∃ s : State, ∃ mask : Fin 64, s.port = .opened :=
    ⟨mk [(Reg.PWR_MODE_MODE, 0, 4), (Reg.BO_STATE_FORCED, 5, 4)], 32, by decide⟩

theorem wit_HostTimeModesAndResets_1 : ∃ s : State, s.port = .opened ∧ s.on Hid.oscStopped = false ∧ s.setOk = true :=
    ⟨mkN 4 [(Reg.RTC_SET_DATE_MONTH, 2), (Reg.RTC_SET_DATE_DAY, 29), (Reg.RTC_SET_DATE_YEAR, 4)], by decide⟩

theorem wit_HostTimeModesAndResets_2 : ∃ s : State, s.port = .opened ∧ s.on Hid.oscStopped = false ∧ s.rd Reg.RTC_SET_DATE_WDAY ≤ 6
    :=
    ⟨mkN 4 [(Reg.RTC_SET_DATE_WDAY, 6)], by decide⟩

theorem wit_HostTimeModesAndResets_3 : ∃ s : State, s.port = .opened :=
    ⟨mkN 4 [(Reg.RTC_STAMP_DATE_STAMPED, 1)], by decide⟩

theorem wit_HostTimeModesAndResets_4 : ∃ s : State, ∃ n : Fin 32768, ∃ hold : Bool, s.port = .opened ∧ s.on Hid.oscStopped = false ∧
    s.on Reg.RTC_STAT_SHIFT_PEND = false ∧ n.val ≠ 0 :=
    ⟨mkN 4 [], 32767, true, by decide⟩

theorem wit_HostTimeModesAndResets_5 : ∃ s : State, s.port = .opened :=
    ⟨mkN 4 [(Reg.RTC_DATE_WDAY, 6)], by decide⟩

theorem wit_HostTimeModesAndResets_6 : ∃ s : State, ∃ v : Nat, s.port = .opened ∧ s.rgnHolds = false ∧ v ≤ 4 :=
    ⟨mkN 4 [(Reg.SCHED_ZSEL_SEL, 15)], 4, by decide⟩

theorem wit_HostTimeModesAndResets_7 : ∃ s : State, s.port = .opened ∧ s.mode = mService :=
    ⟨mkN 3 [], by decide⟩

theorem wit_HostTimeModesAndResets_8 : ∃ s : State, s.port = .opened ∧ s.mode = mNative :=
    ⟨mkN 4 [], by decide⟩

theorem wit_HostTimeModesAndResets_9 : ∃ s : State, s.port = .opened ∧ s.mode = mNative :=
    ⟨mkN 4 [], by decide⟩

theorem wit_HostTimeModesAndResets_10 : ∃ s : State, s.port = .opened ∧ s.mode = mStandby :=
    ⟨mkN 6 [], by decide⟩

theorem wit_HostTimeModesAndResets_11 : ∃ s : State, s.port = .opened ∧ s.mode = mNative :=
    ⟨mkN 4 [], by decide⟩

theorem wit_HostTimeModesAndResets_12 : ∃ s : State, s.port = .opened :=
    ⟨mkN 4 [(Reg.RST_CAUSE_SOFT_CNT, 255)], by decide⟩

theorem wit_HostTimeModesAndResets_13 : ∃ s : State, s.port = .opened :=
    ⟨mkN 4 [], by decide⟩

theorem wit_HostTimeModesAndResets_14 : ∃ s : State, s.port = .opened ∧ s.netOn = true ∧ s.on Reg.NET_STAT_LINK = true :=
    ⟨mkN 4 [(Reg.NET_STAT_PP_RUN, 1), (Reg.NET_STAT_LINK, 1)], by decide⟩

theorem wit_HostTimeModesAndResets_15 : ∃ s : State, s.port = .opened :=
    ⟨mkN 4 [(Reg.NET_STAT_SC_STATE, 6), (Reg.NET_SC_STAT_WAIT, 9)], by decide⟩

theorem wit_HostRunsUpdates_1 : ∃ s : State, ∃ k : Fin 256, ∃ v : Nat, s.port = .opened ∧ bit (s.rd Reg.HOST_DOOR_OPEN) 2 = true ∧
    s.rgnMode = true ∧ s.rd Reg.RGN_CTRL_STATE = 0 ∧ s.rd Reg.RGN_OFS_OFS + k.val ≤ 8191 :=
    ⟨mkN 4 [(Reg.HOST_DOOR_OPEN, 4), (Reg.RGN_OFS_OFS, 7936)], 255, 0x50007, by decide⟩

theorem wit_HostRunsUpdates_2 : ∃ s : State, s.port = .opened ∧ bit (s.rd Reg.HOST_DOOR_OPEN) 2 = true ∧ s.rgnMode = true ∧ s.rd
    Reg.RGN_CTRL_STATE = 1 :=
    ⟨mkN 4 [(Reg.HOST_DOOR_OPEN, 4), (Reg.RGN_CTRL_STATE, 1)], by decide⟩

theorem wit_HostRunsUpdates_3 : ∃ s : State, s.port = .opened ∧ bit (s.rd Reg.HOST_DOOR_OPEN) 2 = true ∧ s.rgnMode = true ∧ s.rd
    Reg.RGN_CTRL_STATE = 1 :=
    ⟨mkN 4 [(Reg.HOST_DOOR_OPEN, 4), (Reg.RGN_CTRL_STATE, 1)], by decide⟩

theorem wit_HostRunsUpdates_4 : ∃ s : State, s.port = .opened ∧ bit (s.rd Reg.HOST_DOOR_OPEN) 2 = true ∧ s.mode = mNative ∧ s.rd
    Reg.IMG_PERSIST_STATE = 0 ∧ s.rd Reg.BOOT_STAT_COPY ≤ 1 :=
    ⟨mkN 4 [(Reg.HOST_DOOR_OPEN, 4), (Reg.BOOT_STAT_COPY, 1)], by decide⟩

theorem wit_HostRunsUpdates_5 : ∃ s : State, s.port = .opened ∧ bit (s.rd Reg.HOST_DOOR_OPEN) 2 = true ∧ s.rd Reg.IMG_PERSIST_STATE
    = 3 :=
    ⟨mkN 4 [(Reg.HOST_DOOR_OPEN, 4), (Reg.IMG_PERSIST_STATE, 3)], by decide⟩

theorem wit_HostRunsUpdates_6 : ∃ s : State, s.port = .opened ∧ bit (s.rd Reg.HOST_DOOR_OPEN) 2 = true ∧ s.rd Reg.IMG_PERSIST_STATE
    = 3 :=
    ⟨mkN 4 [(Reg.HOST_DOOR_OPEN, 4), (Reg.IMG_PERSIST_STATE, 3)], by decide⟩

theorem wit_DoorsAndCounters_1 : ∃ s : State, ∃ d : Fin 4, s.port = .opened :=
    ⟨mkN 4 [], 3, by decide⟩

theorem wit_DoorsAndCounters_2 : ∃ s : State, ∃ d : Fin 4, s.port = .opened ∧ bit (s.rd Reg.HOST_DOOR_STEP) d.val = true :=
    ⟨mkN 4 [(Reg.HOST_DOOR_STEP, 8)], 3, by decide⟩

theorem wit_DoorsAndCounters_3 : ∃ s : State, ∃ d : Fin 4, ∃ arg : Nat, s.port = .opened ∧ arg < 2 ^ 32 ∧ arg ≠ 0x3CA5 :=
    ⟨mkN 4 [(Reg.HOST_DOOR_STEP, 8)], 3, 0x3CA4, by decide⟩

theorem wit_DoorsAndCounters_4 : ∃ s : State, ∃ d : Fin 4, s.port = .opened :=
    ⟨mkN 4 [(Reg.HOST_DOOR_OPEN, 15)], 3, by decide⟩

theorem wit_DoorsAndCounters_5 : ∃ s : State, ∃ v : Nat, s.port = .opened :=
    ⟨mkN 4 [(Reg.HOST_HB_CFG_HB_TIMEOUT, 100), (Reg.PWR_STAT_HOST_LOST, 1)], 0x1FFFF, by decide⟩

theorem wit_DoorsAndCounters_6 : ∃ s : State, ∃ v : Nat, s.port = .opened ∧ s.rgnHolds = false ∧ ((v % 2 ^ 16 = 0 ∨ 100 ≤ v % 2 ^
    16)) :=
    ⟨mkN 4 [], 100, by decide⟩

theorem wit_DoorsAndCounters_7 : ∃ s : State, s.port = .opened ∧ s.evcs.length = 16 :=
  ⟨{ mkN 4 [(Hid.tick, 2 ^ 32 + 5)] with evcs := List.replicate 16 { src := 0xD6, mode := 1, count := 9 } }, by decide⟩

theorem wit_DoorsAndCounters_8 : ∃ s : State, s.port = .opened ∧ s.evcs.length = 16 :=
  ⟨{ mkN 4 [] with evcs := List.replicate 16 { src := 0xD0, mode := 1, count := 9 } }, by decide⟩

theorem wit_DoorsAndCounters_9 : ∃ s : State, ∃ v : Nat, s.port = .opened ∧ s.evcs.length = 16 ∧ s.rd Reg.EVC_SEL_SEL < 16 ∧ bits v
    12 2 ≠ 3 ∧ srcReserved (bits v 0 8) = false :=
    ⟨mkN 4 [(Reg.EVC_SEL_SEL, 15)], 0x21D5, by decide⟩

theorem wit_HatchOtpAndPanelCommands_1 : ∃ s : State, s.port = .opened ∧ s.hatch.op = 0 ∧ s.on Reg.PWR_STAT_EW = false ∧ s.rd
    Reg.HATCH_ADDR_ADDR % 4 = 0 ∧ s.onEeprom = false :=
    ⟨mkN 4 [(Reg.HATCH_ADDR_ADDR, 0xFC), (Reg.HATCH_LEN_WORDS_M1, 63)], by decide⟩

theorem wit_HatchOtpAndPanelCommands_2 : ∃ s : State, s.port = .opened ∧ bit (s.rd Reg.HOST_DOOR_OPEN) 2 = true ∧ s.mode = mSafe ∧
    s.hatch.op = 0 ∧ s.on Reg.PWR_STAT_EW = false ∧ s.rd Reg.HATCH_ADDR_ADDR % 4 = 0 ∧ s.onEeprom = false ∧ s.rd Reg.HATCH_ADDR_ADDR
    % 256 + 4 * (s.rd Reg.HATCH_LEN_WORDS_M1 + 1) ≤ 256 :=
    ⟨mkN 2 [(Reg.HOST_DOOR_OPEN, 4), (Reg.HATCH_ADDR_ADDR, 0x100), (Reg.HATCH_LEN_WORDS_M1, 63)], by decide⟩

theorem wit_HatchOtpAndPanelCommands_3 : ∃ s : State, s.port = .opened ∧ bit (s.rd Reg.HOST_DOOR_OPEN) 2 = true ∧ s.mode = mSafe ∧
    s.hatch.op = 0 ∧ s.on Reg.PWR_STAT_EW = false ∧ s.rd Reg.HATCH_ADDR_ADDR % 4096 = 0 ∧ s.onEeprom = false :=
    ⟨mkN 2 [(Reg.HOST_DOOR_OPEN, 4), (Reg.HATCH_ADDR_ADDR, 0x1000)], by decide⟩

theorem wit_HatchOtpAndPanelCommands_4 : ∃ s : State, s.port = .opened ∧ bit (s.rd Reg.HOST_DOOR_OPEN) 3 = true ∧ s.on
    Reg.OTP_PROG_BUSY = false ∧ s.on Reg.PWR_STAT_EW = false ∧ s.otp.hashSet = false :=
    ⟨mkN 4 [(Reg.HOST_DOOR_OPEN, 8)], by decide⟩

theorem wit_HatchOtpAndPanelCommands_5 : ∃ s : State, s.port = .opened ∧ bit (s.rd Reg.HOST_DOOR_OPEN) 3 = true ∧ s.on Reg.OTP_PROG_BUSY = false ∧ s.on Reg.PWR_STAT_EW = false ∧ s.otp.hashSet = true ∧ s.otp.signed = false :=
  ⟨{ mkN 4 [(Reg.HOST_DOOR_OPEN, 8)] with otp := { hashSet := true } }, by decide⟩

theorem wit_HatchOtpAndPanelCommands_6 : ∃ s : State, s.port = .opened ∧ s.rd Reg.DISP_STAT_STATE = 3 :=
    ⟨mkN 4 [(Reg.DISP_STAT_STATE, 3)], by decide⟩

theorem wit_HatchOtpAndPanelCommands_7 : ∃ s : State, s.port = .opened ∧ s.rd Reg.DISP_STAT_STATE = 0 ∧ s.native = true ∧ s.rd
    Reg.DISP_CTRL_LINES ≠ 0 ∧ s.on Reg.PWR_STAT_EW = false :=
    ⟨mkN 4 [(Reg.DISP_CTRL_LINES, 160), (Hid.dispOff, 1)], by decide⟩

theorem wit_LyaleFrames_1 : ∃ s : State, ∃ a n : Nat, s.port = .opened ∧ a + n ≤ 0x10000 ∧ a < 0x10000 ∧ n ≤ 255 ∧ s.hostOrder a n =
    false ∧ s.on Reg.HOST_CFG_PORT = false :=
    ⟨mkN 4 [], 0xFF01, 255, by decide⟩

theorem wit_LyaleFrames_2 : ∃ s : State, ∃ v : Nat, s.port = .opened :=
    ⟨mkN 4 [], 0x12345, by decide⟩

theorem wit_LyaleFrames_3 : ∃ s : State, ∃ v crc : Nat, s.port = .opened ∧ crc ≤ 255 ∧ crc ≠ requestCrc 2 0x4809 1 [v % 2 ^ 32] :=
    ⟨mkN 4 [], 0x12345, if requestCrc 2 0x4809 1 [0x12345] = 0 then 1 else 0, by decide⟩

theorem wit_LyaleFrames_4 : ∃ s : State, ∃ a : Nat, ∃ data : List Nat, ∃ crc : Nat, s.port = .busy ∧ a ≤ 0xFFFF ∧ data.length ≤ 255
    ∧ crc ≤ 255 ∧ crc = requestCrc 2 a data.length (data.map (fun v => v % 2 ^ 32)) :=
    ⟨mkN 4 [(Hid.softHold, 1)], 0x4809, [5], requestCrc 2 0x4809 1 [5], by decide⟩

theorem wit_LyaleFrames_5 : ∃ s : State, ∃ a : Nat, ∃ data : List Nat, ∃ crc : Nat, s.port = .off ∧ a ≤ 0xFFFF ∧ data.length ≤ 255 ∧
    crc ≤ 255 :=
    ⟨mkN 5 [], 0x4809, [5], 0, by decide⟩

theorem wit_LyaleFrames_6 : ∃ s : State, ∃ opc a n : Nat, s.port = .opened ∧ 4 ≤ opc ∧ opc ≤ 255 ∧ a ≤ 0xFFFF ∧ n ≤ 255 :=
    ⟨mkN 4 [], 255, 0xFFFF, 255, by decide⟩

theorem wit_LyaleFrames_7 : ∃ s : State, ∃ opc a n : Nat, s.port = .opened ∧ opc ≤ 255 ∧ a ≤ 0xFFFF ∧ n ≤ 255 :=
    ⟨mkN 4 [], 3, 0xFFFF, 255, by decide⟩

theorem wit_LyaleFrames_8 : ∃ s : State, s.port = .opened ∧ bit (s.rd Reg.HOST_DOOR_OPEN) 0 = false ∧ s.rd Reg.SUPV_REPAIR_GO = 0 :=
    ⟨mkN 4 [], by decide⟩

theorem wit_EngineFrames :
  (∃ s : State, ∃ t : State, exec .periodWheelTick s = .next t) ∧
  (∃ env : EvalEnv, ∃ s : State, ∃ t : State, exec (.coachEvaluation env) s = .next t) ∧
  (∃ lane : Fin 3, ∃ env : EvalEnv, ∃ s : State, ∃ t : State, exec (.laneTimeout lane env) s = .next t) ∧
  (∃ pass : Bool, ∃ s : State, ∃ t : State, exec (.laneSwapEntryTest pass) s = .next t) ∧
  (∃ passA : Bool, ∃ passB : Bool, ∃ passS : Bool, ∃ s : State, ∃ t : State, exec (.laneRestoreRun passA passB passS) s = .next t) ∧
  (∃ upsets : List (Nat × Nat), ∃ s : State, ∃ t : State, exec (.scrubCarriage upsets) s = .next t) ∧
  (∃ coach : Fin 160, ∃ s : State, ∃ t : State, exec (.crossCheckRetry coach) s = .next t) ∧
  (∃ coach : Fin 160, ∃ s : State, ∃ t : State, exec (.crossCheckResult coach) s = .next t) ∧
  (∃ coach : Fin 160, ∃ s : State, ∃ t : State, exec (.crossCheckAbandon coach) s = .next t) ∧
  (∃ req : Fin 15, ∃ beat : Nat, ∃ write : Bool, ∃ beats : Nat, ∃ ask : Ask, ∃ s : State, ∃ t : State, exec (.coachBusRequest req beat write beats ask) s = .next t) ∧
  (∃ pointer : Nat, ∃ seatBad : Bool, ∃ pendBad : List Nat, ∃ wait : Nat, ∃ contAfter : Option Carriage, ∃ s : State, ∃ t : State, exec (.arbitration pointer seatBad pendBad wait contAfter) s = .next t) ∧
  (∃ len : Nat, ∃ s : State, ∃ t : State, exec (.carriageEnd len) s = .next t) ∧
  (∃ s : State, ∃ t : State, exec .holdLong s = .next t) ∧
  (∃ req : Fin 15, ∃ held : Nat, ∃ asked : Nat, ∃ s : State, ∃ t : State, exec (.resourceRequest req held asked) s = .next t) ∧
  (∃ s : State, ∃ t : State, exec .seatPlanSwap s = .next t) ∧
  (∃ s : State, ∃ t : State, exec .softResetResume s = .next t) :=
  ⟨⟨wState, completes (by decide)⟩,
   ⟨{}, wState, completes (by decide)⟩,
   ⟨1, {}, wState, completes (by decide)⟩,
   ⟨true, wState, completes (by decide)⟩,
   ⟨true, true, true, wState, completes (by decide)⟩,
   ⟨[], wState, completes (by decide)⟩,
   ⟨1, wState, completes (by decide)⟩,
   ⟨1, wState, completes (by decide)⟩,
   ⟨1, wState, completes (by decide)⟩,
   ⟨1, 1, true, 1, {}, wState, completes (by decide)⟩,
   ⟨1, true, [], 1, none, wState, completes (by decide)⟩,
   ⟨1, wState, completes (by decide)⟩,
   ⟨wState, completes (by decide)⟩,
   ⟨1, 1, 1, wState, completes (by decide)⟩,
   ⟨wState, completes (by decide)⟩,
   ⟨wState, completes (by decide)⟩⟩

theorem wit_ConverterFrames :
  (∃ conv : Fin 3, ∃ trimBad : Bool, ∃ s : State, ∃ t : State, exec (.scanEntryStart conv trimBad) s = .next t) ∧
  (∃ conv : Fin 3, ∃ code : Int, ∃ gapLong : Bool, ∃ s : State, ∃ t : State, exec (.conversionResult conv code gapLong) s = .next t) ∧
  (∃ conv : Fin 3, ∃ s : State, ∃ t : State, exec (.converterStartUpDone conv) s = .next t) ∧
  (∃ conv : Fin 3, ∃ s : State, ∃ t : State, exec (.sampleMoverEntry conv) s = .next t) ∧
  (∃ chan : Fin 4, ∃ s : State, ∃ t : State, exec (.occHoldExpiry chan) s = .next t) ∧
  (∃ input : Fin 64, ∃ s : State, ∃ t : State, exec (.lrWindowEnd input) s = .next t) ∧
  (∃ input : Fin 40, ∃ high : Bool, ∃ us : Nat, ∃ s : State, ∃ t : State, exec (.uiComparatorEdge input high us) s = .next t) ∧
  (∃ us : Nat, ∃ s : State, ∃ t : State, exec (.uiLogicStore us) s = .next t) ∧
  (∃ entry : Fin 32, ∃ s : State, ∃ t : State, exec (.sensorPollStart entry) s = .next t) ∧
  (∃ reply : SensorReply, ∃ s : State, ∃ t : State, exec (.sensorPollDone reply) s = .next t) ∧
  (∃ s : State, ∃ t : State, exec .snsStretchTimeout s = .next t) ∧
  (∃ src : UrgBy, ∃ input : Fin 64, ∃ conv : Option (Fin 3), ∃ s : State, ∃ t : State, exec (.urgentRequest src input conv) s = .next t) ∧
  (∃ conv : Fin 3, ∃ code : Int, ∃ gapLong : Bool, ∃ s : State, ∃ t : State, exec (.urgentConversionDone conv code gapLong) s = .next t) ∧
  (∃ conv : Fin 3, ∃ s : State, ∃ t : State, exec (.selfCalDue conv) s = .next t) ∧
  (∃ conv : Fin 3, ∃ zero : Int, ∃ half : Int, ∃ s : State, ∃ t : State, exec (.selfCalStart conv zero half) s = .next t) ∧
  (∃ conv : Fin 2, ∃ zero : Int, ∃ half : Int, ∃ s : State, ∃ t : State, exec (.reliefHandover conv zero half) s = .next t) ∧
  (∃ conv : Fin 3, ∃ searches : List TapSearch, ∃ zero : Int, ∃ half : Int, ∃ s : State, ∃ t : State, exec (.calRunDone conv searches zero half) s = .next t) ∧
  (∃ conv : Fin 3, ∃ s : State, ∃ t : State, exec (.calHandback conv) s = .next t) ∧
  (∃ conv : Fin 3, ∃ zero : Int, ∃ half : Int, ∃ s : State, ∃ t : State, exec (.healthCheckDone conv zero half) s = .next t) ∧
  (∃ conv : Fin 2, ∃ zero : Int, ∃ half : Int, ∃ s : State, ∃ t : State, exec (.converterStuck conv zero half) s = .next t) ∧
  (∃ s : State, ∃ t : State, exec .refinLoss s = .next t) ∧
  (∃ s : State, ∃ t : State, exec .refinRestore s = .next t) ∧
  (∃ s : State, ∃ t : State, exec .calSysPointDone s = .next t) :=
  ⟨⟨1, true, wState, completes (by decide)⟩,
   ⟨1, 1, true, wState, completes (by decide)⟩,
   ⟨1, wState, completes (by decide)⟩,
   ⟨1, wState, completes (by decide)⟩,
   ⟨1, wState, completes (by decide)⟩,
   ⟨1, wState, completes (by decide)⟩,
   ⟨1, true, 1, wState, completes (by decide)⟩,
   ⟨1, wState, completes (by decide)⟩,
   ⟨1, wState, completes (by decide)⟩,
   ⟨.nack, wState, completes (by decide)⟩,
   ⟨wState, completes (by decide)⟩,
   ⟨.host, 1, none, wState, completes (by decide)⟩,
   ⟨1, 1, true, wState, completes (by decide)⟩,
   ⟨1, wState, completes (by decide)⟩,
   ⟨1, 1, 1, wState, completes (by decide)⟩,
   ⟨1, 1, 1, wState, completes (by decide)⟩,
   ⟨1, [], 1, 1, wState, completes (by decide)⟩,
   ⟨1, wState, completes (by decide)⟩,
   ⟨1, 1, 1, wState, completes (by decide)⟩,
   ⟨1, 1, 1, wState, completes (by decide)⟩,
   ⟨wState, completes (by decide)⟩,
   ⟨wState, completes (by decide)⟩,
   ⟨wState, completes (by decide)⟩⟩

theorem wit_ThermalAndSupplyFrames :
  (∃ readable : Bool, ∃ s : State, ∃ t : State, exec (.supvRepairDone readable) s = .next t) ∧
  (∃ flips : Nat, ∃ s : State, ∃ t : State, exec (.actuatorCommand flips) s = .next t) ∧
  (∃ s : State, ∃ t : State, exec .actuatorCommandNack s = .next t) ∧
  (∃ xtalEdges : Nat, ∃ pllEdges : Nat, ∃ s : State, ∃ t : State, exec (.auditWindow xtalEdges pllEdges) s = .next t) ∧
  (∃ s : State, ∃ t : State, exec .pllLockLoss s = .next t) ∧
  (∃ s : State, ∃ t : State, exec .auditOscFail s = .next t) ∧
  (∃ sensor : Fin 8, ∃ s : State, ∃ t : State, exec (.thermalSample sensor) s = .next t) ∧
  (∃ s : State, ∃ t : State, exec .thermalFastStep s = .next t) ∧
  (∃ sensor : Fin 8, ∃ s : State, ∃ t : State, exec (.thermalNodata sensor) s = .next t) ∧
  (∃ s : State, ∃ t : State, exec .thermalHoldEnd s = .next t) ∧
  (∃ currents : List Nat, ∃ s : State, ∃ t : State, exec (.thermalPowerEstimate currents) s = .next t) ∧
  (∃ sensor : Fin 8, ∃ s : State, ∃ t : State, exec (.thermReadmitResult sensor) s = .next t) ∧
  (∃ vbat : Bool, ∃ s : State, ∃ t : State, exec (.backupSwitchVbat vbat) s = .next t) ∧
  (∃ s : State, ∃ t : State, exec .earlyWarning s = .next t) ∧
  (∃ s : State, ∃ t : State, exec .earlyWarningClear s = .next t) ∧
  (∃ s : State, ∃ t : State, exec .vddaUv s = .next t) ∧
  (∃ s : State, ∃ t : State, exec .vddaUvClear s = .next t) ∧
  (∃ ov : Bool, ∃ s : State, ∃ t : State, exec (.vmFault ov) s = .next t) ∧
  (∃ ov : Bool, ∃ s : State, ∃ t : State, exec (.vmFaultClear ov) s = .next t) ∧
  (∃ s : State, ∃ t : State, exec .auditOscReturn s = .next t) :=
  ⟨⟨true, wState, completes (by decide)⟩,
   ⟨1, wState, completes (by decide)⟩,
   ⟨wState, completes (by decide)⟩,
   ⟨1, 1, wState, completes (by decide)⟩,
   ⟨wState, completes (by decide)⟩,
   ⟨wState, completes (by decide)⟩,
   ⟨1, wState, completes (by decide)⟩,
   ⟨wState, completes (by decide)⟩,
   ⟨1, wState, completes (by decide)⟩,
   ⟨wState, completes (by decide)⟩,
   ⟨[], wState, completes (by decide)⟩,
   ⟨1, wState, completes (by decide)⟩,
   ⟨true, wState, completes (by decide)⟩,
   ⟨wState, completes (by decide)⟩,
   ⟨wState, completes (by decide)⟩,
   ⟨wState, completes (by decide)⟩,
   ⟨wState, completes (by decide)⟩,
   ⟨true, wState, completes (by decide)⟩,
   ⟨true, wState, completes (by decide)⟩,
   ⟨wState, completes (by decide)⟩⟩

theorem wit_OutputFrames :
  (∃ chan : Fin 8, ∃ s : State, ∃ t : State, exec (.valvePulseGrid chan) s = .next t) ∧
  (∃ chan : Fin 8, ∃ s : State, ∃ t : State, exec (.valvePeakEnd chan) s = .next t) ∧
  (∃ chan : Fin 8, ∃ s : State, ∃ t : State, exec (.valveHoldEnd chan) s = .next t) ∧
  (∃ s : State, ∃ t : State, exec .valveCoilBandRead s = .next t) ∧
  (∃ hs : Fin 4, ∃ s : State, ∃ t : State, exec (.valveOffTestStart hs) s = .next t) ∧
  (∃ hs : Fin 4, ∃ limit : Bool, ∃ low1 : Fin 4, ∃ high2 : Fin 4, ∃ low2 : Fin 4, ∃ s : State, ∃ t : State, exec (.valveOffTestDone hs limit low1 high2 low2) s = .next t) ∧
  (∃ chan : Fin 8, ∃ current : Nat, ∃ s : State, ∃ t : State, exec (.valveOpenLoadCheck chan current) s = .next t) ∧
  (∃ chan : Fin 8, ∃ s : State, ∃ t : State, exec (.valveLowSideOvercurrent chan) s = .next t) ∧
  (∃ hs : Fin 4, ∃ lowSum : Nat, ∃ s : State, ∃ t : State, exec (.valveHighSideOvercurrent hs lowSum) s = .next t) ∧
  (∃ chan : Fin 8, ∃ s : State, ∃ t : State, exec (.valveHsOcRestart chan) s = .next t) ∧
  (∃ s : State, ∃ t : State, exec .damperSchedTick s = .next t) ∧
  (∃ damper : Fin 4, ∃ s : State, ∃ t : State, exec (.damperMoveDone damper) s = .next t) ∧
  (∃ damper : Fin 4, ∃ s : State, ∃ t : State, exec (.damperStall damper) s = .next t) ∧
  (∃ damper : Fin 4, ∃ s : State, ∃ t : State, exec (.damperHomeFail damper) s = .next t) ∧
  (∃ damper : Fin 4, ∃ s : State, ∃ t : State, exec (.damperFeedbackCheck damper) s = .next t) ∧
  (∃ damper : Fin 4, ∃ s : State, ∃ t : State, exec (.damperBridgeOvercurrent damper) s = .next t) ∧
  (∃ damper : Fin 4, ∃ s : State, ∃ t : State, exec (.damperOpenWinding damper) s = .next t) ∧
  (∃ out : Fin 6, ∃ s : State, ∃ t : State, exec (.boOvercurrent out) s = .next t) ∧
  (∃ out : Fin 6, ∃ s : State, ∃ t : State, exec (.boOcRestart out) s = .next t) ∧
  (∃ out : Fin 6, ∃ s : State, ∃ t : State, exec (.boMinTimeExpiry out) s = .next t) ∧
  (∃ out : Fin 6, ∃ s : State, ∃ t : State, exec (.boOpenLoad out) s = .next t) ∧
  (∃ damper : Fin 4, ∃ pos : Nat, ∃ s : State, ∃ t : State, exec (.damperPreemptStop damper pos) s = .next t) :=
  ⟨⟨1, wState, completes (by decide)⟩,
   ⟨1, wState, completes (by decide)⟩,
   ⟨1, wState, completes (by decide)⟩,
   ⟨wState, completes (by decide)⟩,
   ⟨1, wState, completes (by decide)⟩,
   ⟨1, true, 1, 1, 1, wState, completes (by decide)⟩,
   ⟨1, 1, wState, completes (by decide)⟩,
   ⟨1, wState, completes (by decide)⟩,
   ⟨1, 1, wState, completes (by decide)⟩,
   ⟨1, wState, completes (by decide)⟩,
   ⟨wState, completes (by decide)⟩,
   ⟨1, wState, completes (by decide)⟩,
   ⟨1, wState, completes (by decide)⟩,
   ⟨1, wState, completes (by decide)⟩,
   ⟨1, wState, completes (by decide)⟩,
   ⟨1, wState, completes (by decide)⟩,
   ⟨1, wState, completes (by decide)⟩,
   ⟨1, wState, completes (by decide)⟩,
   ⟨1, wState, completes (by decide)⟩,
   ⟨1, wState, completes (by decide)⟩,
   ⟨1, wState, completes (by decide)⟩,
   ⟨1, 1, wState, completes (by decide)⟩⟩

theorem wit_FanFrames :
  (∃ s : State, ∃ t : State, exec .fanCatchTimeout s = .next t) ∧
  (∃ s : State, ∃ t : State, exec .fanAlignOpenPhase s = .next t) ∧
  (∃ s : State, ∃ t : State, exec .fanAlignDone s = .next t) ∧
  (∃ speed : Nat, ∃ field : Nat, ∃ dirOk : Bool, ∃ s : State, ∃ t : State, exec (.fanObserverConverged speed field dirOk) s = .next t) ∧
  (∃ s : State, ∃ t : State, exec .fanRampTimeout s = .next t) ∧
  (∃ s : State, ∃ t : State, exec .fanRetryWaitEnd s = .next t) ∧
  (∃ s : State, ∃ t : State, exec .fanStopDone s = .next t) ∧
  (∃ s : State, ∃ t : State, exec .fanCoastEnd s = .next t) ∧
  (∃ chan : Fin 3, ∃ s : State, ∃ t : State, exec (.fanStallWaitEnd chan) s = .next t) ∧
  (∃ s : State, ∃ t : State, exec .fanOvercurrent s = .next t) ∧
  (∃ s : State, ∃ t : State, exec .fanVdrvLow s = .next t) ∧
  (∃ s : State, ∃ t : State, exec .fanVdrvGood s = .next t) ∧
  (∃ periods : Nat, ∃ s : State, ∃ t : State, exec (.fanBootstrapLow periods) s = .next t) ∧
  (∃ s : State, ∃ t : State, exec .fanSyncLoss s = .next t) ∧
  (∃ chan : Fin 3, ∃ s : State, ∃ t : State, exec (.fanStallCntReset chan) s = .next t) ∧
  (∃ chan : Fin 2, ∃ us : Nat, ∃ s : State, ∃ t : State, exec (.fanTachEdge chan us) s = .next t) ∧
  (∃ chan : Fin 2, ∃ s : State, ∃ t : State, exec (.fanTachSpeedTimeout chan) s = .next t) ∧
  (∃ chan : Fin 2, ∃ s : State, ∃ t : State, exec (.fanSpeedStep chan) s = .next t) ∧
  (∃ chan : Fin 2, ∃ s : State, ∃ t : State, exec (.fanTstartTimeout chan) s = .next t) ∧
  (∃ chan : Fin 2, ∃ s : State, ∃ t : State, exec (.fanKickEnd chan) s = .next t) ∧
  (∃ chan : Fin 2, ∃ s : State, ∃ t : State, exec (.fanTachLost chan) s = .next t) ∧
  (∃ chan : Fin 3, ∃ s : State, ∃ t : State, exec (.fanAutoTableStep chan) s = .next t) :=
  ⟨⟨wState, completes (by decide)⟩,
   ⟨wState, completes (by decide)⟩,
   ⟨wState, completes (by decide)⟩,
   ⟨1, 1, true, wState, completes (by decide)⟩,
   ⟨wState, completes (by decide)⟩,
   ⟨wState, completes (by decide)⟩,
   ⟨wState, completes (by decide)⟩,
   ⟨wState, completes (by decide)⟩,
   ⟨1, wState, completes (by decide)⟩,
   ⟨wState, completes (by decide)⟩,
   ⟨wState, completes (by decide)⟩,
   ⟨wState, completes (by decide)⟩,
   ⟨1, wState, completes (by decide)⟩,
   ⟨wState, completes (by decide)⟩,
   ⟨1, wState, completes (by decide)⟩,
   ⟨1, 1, wState, completes (by decide)⟩,
   ⟨1, wState, completes (by decide)⟩,
   ⟨1, wState, completes (by decide)⟩,
   ⟨1, wState, completes (by decide)⟩,
   ⟨1, wState, completes (by decide)⟩,
   ⟨1, wState, completes (by decide)⟩,
   ⟨1, wState, completes (by decide)⟩⟩

theorem wit_TimeAndUpdateFrames :
  (∃ bad : List Nat, ∃ s : State, ∃ t : State, exec (.rtcSecondTick bad) s = .next t) ∧
  (∃ temp : Int, ∃ s : State, ∃ t : State, exec (.rtcCompSample temp) s = .next t) ∧
  (∃ s : State, ∃ t : State, exec .rtcCompWindow s = .next t) ∧
  (∃ s : State, ∃ t : State, exec .rtcOscStop s = .next t) ∧
  (∃ s : State, ∃ t : State, exec .rtcOscRestart s = .next t) ∧
  (∃ sub : Fin 32768, ∃ s : State, ∃ t : State, exec (.rtcSetLoad sub) s = .next t) ∧
  (∃ sub : Fin 32768, ∃ s : State, ∃ t : State, exec (.rtcShiftApply sub) s = .next t) ∧
  (∃ s : State, ∃ t : State, exec .backupSwitchMain s = .next t) ∧
  (∃ s : State, ∃ t : State, exec .vbatLow s = .next t) ∧
  (∃ s : State, ∃ t : State, exec .retentionLatchTrip s = .next t) ∧
  (∃ memOk : Bool, ∃ s : State, ∃ t : State, exec (.regionValidationDone memOk) s = .next t) ∧
  (∃ memOk : Bool, ∃ s : State, ∃ t : State, exec (.regionApply memOk) s = .next t) ∧
  (∃ memOk : Bool, ∃ s : State, ∃ t : State, exec (.coachGroupWrite memOk) s = .next t) ∧
  (∃ memOk : Bool, ∃ s : State, ∃ t : State, exec (.persistOpenDone memOk) s = .next t) ∧
  (∃ memOk : Bool, ∃ s : State, ∃ t : State, exec (.persistCommitDone memOk) s = .next t) ∧
  (∃ s : State, ∃ t : State, exec .hostFrameTruncated s = .next t) ∧
  (∃ count : Nat, ∃ s : State, ∃ t : State, exec (.i2cResponseRead count) s = .next t) ∧
  (∃ s : State, ∃ t : State, exec .doorStepTimeout s = .next t) ∧
  (∃ door : Fin 4, ∃ s : State, ∃ t : State, exec (.doorTimeout door) s = .next t) ∧
  (∃ s : State, ∃ t : State, exec .heartbeatExpiry s = .next t) ∧
  (∃ outcome : HatchEnd, ∃ status : Fin 256, ∃ s : State, ∃ t : State, exec (.hatchOpDone outcome status) s = .next t) ∧
  (∃ ok : Bool, ∃ s : State, ∃ t : State, exec (.otpProgDone ok) s = .next t) ∧
  (∃ s : State, ∃ t : State, exec .vbatLowClear s = .next t) :=
  ⟨⟨[], wState, completes (by decide)⟩,
   ⟨1, wState, completes (by decide)⟩,
   ⟨wState, completes (by decide)⟩,
   ⟨wState, completes (by decide)⟩,
   ⟨wState, completes (by decide)⟩,
   ⟨1, wState, completes (by decide)⟩,
   ⟨1, wState, completes (by decide)⟩,
   ⟨wState, completes (by decide)⟩,
   ⟨wState, completes (by decide)⟩,
   ⟨wState, completes (by decide)⟩,
   ⟨true, wState, completes (by decide)⟩,
   ⟨true, wState, completes (by decide)⟩,
   ⟨true, wState, completes (by decide)⟩,
   ⟨true, wState, completes (by decide)⟩,
   ⟨true, wState, completes (by decide)⟩,
   ⟨wState, completes (by decide)⟩,
   ⟨1, wState, completes (by decide)⟩,
   ⟨wState, completes (by decide)⟩,
   ⟨1, wState, completes (by decide)⟩,
   ⟨wState, completes (by decide)⟩,
   ⟨.done, 1, wState, completes (by decide)⟩,
   ⟨true, wState, completes (by decide)⟩,
   ⟨wState, completes (by decide)⟩⟩

theorem wit_NetworkFrames :
  (∃ partner24 : Bool, ∃ eee : Bool, ∃ sqi : Fin 8, ∃ s : State, ∃ t : State, exec (.linkUp partner24 eee sqi) s = .next t) ∧
  (∃ s : State, ∃ t : State, exec .linkDown s = .next t) ∧
  (∃ frame : EthFrame, ∃ s : State, ∃ t : State, exec (.ethFrameRx frame) s = .next t) ∧
  (∃ tick : DhcpTick, ∃ s : State, ∃ t : State, exec (.dhcpTimer tick) s = .next t) ∧
  (∃ s : State, ∃ t : State, exec .ipConflict s = .next t) ∧
  (∃ answered : Bool, ∃ s : State, ∃ t : State, exec (.staticReprobe answered) s = .next t) ∧
  (∃ failed : Bool, ∃ s : State, ∃ t : State, exec (.fdrTimer failed) s = .next t) ∧
  (∃ primary : ScTry, ∃ failover : ScTry, ∃ s : State, ∃ t : State, exec (.scConnectAttempt primary failover) s = .next t) ∧
  (∃ s : State, ∃ t : State, exec .scConnectionLost s = .next t) ∧
  (∃ s : State, ∃ t : State, exec .scHeartbeatDue s = .next t) ∧
  (∃ random : Nat, ∃ s : State, ∃ t : State, exec (.scKeyGeneration random) s = .next t) ∧
  (∃ bus : Fin 2, ∃ frame : MstpFrame, ∃ s : State, ∃ t : State, exec (.mstpFrame bus frame) s = .next t) ∧
  (∃ bus : Fin 2, ∃ addr : Fin 256, ∃ start : Nat, ∃ count : Nat, ∃ s : State, ∃ t : State, exec (.modbusReadHoldingRegisters bus addr start count) s = .next t) ∧
  (∃ bus : Fin 2, ∃ addr : Fin 256, ∃ start : Nat, ∃ count : Nat, ∃ s : State, ∃ t : State, exec (.modbusReadInputRegisters bus addr start count) s = .next t) ∧
  (∃ bus : Fin 2, ∃ addr : Fin 256, ∃ reg : Nat, ∃ value : Nat, ∃ s : State, ∃ t : State, exec (.modbusWriteSingleRegister bus addr reg value) s = .next t) ∧
  (∃ bus : Fin 2, ∃ addr : Fin 256, ∃ start : Nat, ∃ values : List Nat, ∃ s : State, ∃ t : State, exec (.modbusWriteMultipleRegisters bus addr start values) s = .next t) ∧
  (∃ bus : Fin 2, ∃ addr : Fin 256, ∃ s : State, ∃ t : State, exec (.modbusReadDeviceIdentification bus addr) s = .next t) ∧
  (∃ bus : Fin 2, ∃ addr : Fin 256, ∃ function : Nat, ∃ s : State, ∃ t : State, exec (.modbusUnsupportedFunction bus addr function) s = .next t) ∧
  (∃ bus : Fin 2, ∃ entry : Fin 16, ∃ s : State, ∃ t : State, exec (.modbusClientPoll bus entry) s = .next t) ∧
  (∃ bus : Fin 2, ∃ entry : Fin 16, ∃ values : List Nat, ∃ s : State, ∃ t : State, exec (.modbusClientReply bus entry values) s = .next t) ∧
  (∃ bus : Fin 2, ∃ entry : Fin 16, ∃ s : State, ∃ t : State, exec (.modbusClientTimeout bus entry) s = .next t) ∧
  (∃ sender : NetFrom, ∃ refs : List BacRef, ∃ s : State, ∃ t : State, exec (.bacnetReadProperty sender refs) s = .next t) ∧
  (∃ sender : NetFrom, ∃ writes : List BacWrite, ∃ s : State, ∃ t : State, exec (.bacnetWriteProperty sender writes) s = .next t) ∧
  (∃ sender : NetFrom, ∃ req : CovReq, ∃ s : State, ∃ t : State, exec (.bacnetSubscribeCov sender req) s = .next t) ∧
  (∃ sender : NetFrom, ∃ obj : BacObj, ∃ dest : EventTo, ∃ s : State, ∃ t : State, exec (.bacnetAcknowledgeAlarm sender obj dest) s = .next t) ∧
  (∃ sender : NetFrom, ∃ s : State, ∃ t : State, exec (.bacnetGetEventInformation sender) s = .next t) ∧
  (∃ sender : NetFrom, ∃ log : Fin 8, ∃ first : Nat, ∃ count : Nat, ∃ s : State, ∃ t : State, exec (.bacnetReadRange sender log first count) s = .next t) ∧
  (∃ sender : NetFrom, ∃ asked : WhoReq, ∃ s : State, ∃ t : State, exec (.bacnetWhoIs sender asked) s = .next t) ∧
  (∃ utc : Bool, ∃ time : SyncTime, ∃ s : State, ∃ t : State, exec (.timeSynchronization utc time) s = .next t) ∧
  (∃ sender : NetFrom, ∃ mode : Fin 3, ∃ timed : Bool, ∃ password : List Nat, ∃ s : State, ∃ t : State, exec (.deviceCommunicationControl sender mode timed password) s = .next t) ∧
  (∃ sender : NetFrom, ∃ file : Nat, ∃ start : Int, ∃ data : List Nat, ∃ s : State, ∃ t : State, exec (.atomicWriteFile sender file start data) s = .next t) ∧
  (∃ sender : NetFrom, ∃ s : State, ∃ t : State, exec (.bacnetUnrecognizedService sender) s = .next t) ∧
  (∃ s : State, ∃ t : State, exec .netSupervisionExpiry s = .next t) ∧
  (∃ log : Fin 8, ∃ s : State, ∃ t : State, exec (.trendLogInterval log) s = .next t) ∧
  (∃ who : Nat, ∃ ref : BacRef, ∃ s : State, ∃ t : State, exec (.covSubscriptionExpiry who ref) s = .next t) ∧
  (∃ s : State, ∃ t : State, exec .dccDurationExpiry s = .next t) ∧
  (∃ obj : BacObj, ∃ dest : EventTo, ∃ s : State, ∃ t : State, exec (.eventTimeDelayExpiry obj dest) s = .next t) ∧
  (∃ bus : Fin 2, ∃ s : State, ∃ t : State, exec (.mstpNoToken bus) s = .next t) :=
  ⟨⟨true, true, 1, wState, completes (by decide)⟩,
   ⟨wState, completes (by decide)⟩,
   ⟨{}, wState, completes (by decide)⟩,
   ⟨.renew, wState, completes (by decide)⟩,
   ⟨wState, completes (by decide)⟩,
   ⟨true, wState, completes (by decide)⟩,
   ⟨true, wState, completes (by decide)⟩,
   ⟨.connected {}, .connected {}, wState, completes (by decide)⟩,
   ⟨wState, completes (by decide)⟩,
   ⟨wState, completes (by decide)⟩,
   ⟨1, wState, completes (by decide)⟩,
   ⟨1, .token, wState, completes (by decide)⟩,
   ⟨1, 1, 1, 1, wState, completes (by decide)⟩,
   ⟨1, 1, 1, 1, wState, completes (by decide)⟩,
   ⟨1, 1, 1, 1, wState, completes (by decide)⟩,
   ⟨1, 1, 1, [], wState, completes (by decide)⟩,
   ⟨1, 1, wState, completes (by decide)⟩,
   ⟨1, 1, 1, wState, completes (by decide)⟩,
   ⟨1, 1, wState, completes (by decide)⟩,
   ⟨1, 1, [], wState, completes (by decide)⟩,
   ⟨1, 1, wState, completes (by decide)⟩,
   ⟨{}, [], wState, completes (by decide)⟩,
   ⟨{}, [], wState, completes (by decide)⟩,
   ⟨{}, ⟨1, ⟨.device, .presentValue⟩, 60, false⟩, wState, completes (by decide)⟩,
   ⟨{}, .device, .fault, wState, completes (by decide)⟩,
   ⟨{}, wState, completes (by decide)⟩,
   ⟨{}, 1, 1, 1, wState, completes (by decide)⟩,
   ⟨{}, .is none, wState, completes (by decide)⟩,
   ⟨true, ⟨none, none, none, none, none, none, none, none⟩, wState, completes (by decide)⟩,
   ⟨{}, 1, true, [], wState, completes (by decide)⟩,
   ⟨{}, 1, 1, [], wState, completes (by decide)⟩,
   ⟨{}, wState, completes (by decide)⟩,
   ⟨wState, completes (by decide)⟩,
   ⟨1, wState, completes (by decide)⟩,
   ⟨1, ⟨.device, .presentValue⟩, wState, completes (by decide)⟩,
   ⟨wState, completes (by decide)⟩,
   ⟨.device, .fault, wState, completes (by decide)⟩,
   ⟨1, wState, completes (by decide)⟩⟩

theorem wit_PanelAndPortFrames :
  (∃ us : Nat, ∃ sources : List Nat, ∃ gates : List Nat, ∃ bad : List Nat, ∃ s : State, ∃ t : State, exec (.panelLineSlot us sources gates bad) s = .next t) ∧
  (∃ us : Nat, ∃ s : State, ∃ t : State, exec (.panelFrameEnd us) s = .next t) ∧
  (∃ item : Nat, ∃ bad : Bool, ∃ s : State, ∃ t : State, exec (.composerFieldRedraw item bad) s = .next t) ∧
  (∃ badItems : List Nat, ∃ s : State, ∃ t : State, exec (.composerPageDraw badItems) s = .next t) ∧
  (∃ supply : Fin 4, ∃ s : State, ∃ t : State, exec (.panelSupplyGood supply) s = .next t) ∧
  (∃ s : State, ∃ t : State, exec .panelStart s = .next t) ∧
  (∃ supply : Fin 4, ∃ s : State, ∃ t : State, exec (.panelSupplyFault supply) s = .next t) ∧
  (∃ s : State, ∃ t : State, exec .panelDischargeDone s = .next t) ∧
  (∃ bytes : List Nat, ∃ s : State, ((∀ b ∈ bytes, b % 256 ≠ 0xA5)) ∧ ∃ t : State, exec (.iz30WriteTransaction bytes) s = .next t) ∧
  (∃ count : Nat, ∃ s : State, ∃ t : State, exec (.iz30ReadTransaction count) s = .next t) ∧
  (∃ reg : Fin 256, ∃ s : State, ∃ t : State, exec (.izPairHighRead reg) s = .next t) ∧
  (∃ reg : Fin 256, ∃ value : Nat, ∃ s : State, ∃ t : State, exec (.izPairLowWrite reg value) s = .next t) ∧
  (∃ s : State, ∃ t : State, exec .izCmdReset s = .next t) ∧
  (∃ s : State, ∃ t : State, exec .izCmdSave s = .next t) ∧
  (∃ acks : EepAcks, ∃ placed : List (Nat × Nat), ∃ s : State, ∃ t : State, exec (.iz30ReloadDone acks placed) s = .next t) ∧
  (∃ s : State, ∃ t : State, exec .iz30AdcConversion s = .next t) ∧
  (∃ s : State, ∃ t : State, exec .izAdcDhRead s = .next t) ∧
  (∃ s : State, ∃ t : State, exec .izAdcDlRead s = .next t) ∧
  (∃ value : Nat, ∃ s : State, ∃ t : State, exec (.izAdcCtrlWrite value) s = .next t) ∧
  (∃ mask : Nat, ∃ s : State, ∃ t : State, exec (.izFaultClear mask) s = .next t) ∧
  (∃ fan : Fin 2, ∃ s : State, ∃ t : State, exec (.iz30FanFail fan) s = .next t) ∧
  (∃ unit : Fin 4, ∃ s : State, ∃ t : State, exec (.roomUnitPoll unit) s = .next t) ∧
  (∃ unit : Fin 4, ∃ bytes : List Nat, ∃ s : State, ∃ t : State, exec (.roomUnitReply unit bytes) s = .next t) ∧
  (∃ unit : Fin 4, ∃ s : State, ∃ t : State, exec (.roomUnitTimeout unit) s = .next t) ∧
  (∃ rising : Bool, ∃ tms : Bool, ∃ tdi : Bool, ∃ s : State, ∃ t : State, exec (.tapTckEdge rising tms tdi) s = .next t) :=
  ⟨⟨1, [], [], [], wState, completes (by decide)⟩,
   ⟨1, wState, completes (by decide)⟩,
   ⟨1, true, wState, completes (by decide)⟩,
   ⟨[], wState, completes (by decide)⟩,
   ⟨1, wState, completes (by decide)⟩,
   ⟨wState, completes (by decide)⟩,
   ⟨1, wState, completes (by decide)⟩,
   ⟨wState, completes (by decide)⟩,
   ⟨[], wState, by decide, completes (by decide)⟩,
   ⟨1, wState, completes (by decide)⟩,
   ⟨1, wState, completes (by decide)⟩,
   ⟨1, 1, wState, completes (by decide)⟩,
   ⟨wState, completes (by decide)⟩,
   ⟨wState, completes (by decide)⟩,
   ⟨{}, [], wState, completes (by decide)⟩,
   ⟨wState, completes (by decide)⟩,
   ⟨wState, completes (by decide)⟩,
   ⟨wState, completes (by decide)⟩,
   ⟨1, wState, completes (by decide)⟩,
   ⟨1, wState, completes (by decide)⟩,
   ⟨1, wState, completes (by decide)⟩,
   ⟨1, wState, completes (by decide)⟩,
   ⟨1, [], wState, completes (by decide)⟩,
   ⟨1, wState, completes (by decide)⟩,
   ⟨true, true, true, wState, completes (by decide)⟩⟩

theorem wit_HostCommandFrames :
  (∃ s : State, ∃ t : State, exec .supvLaneRestore s = .next t) ∧
  (∃ timeout : Nat, ∃ s : State, ∃ t : State, exec (.supvWdtWrite timeout) s = .next t) ∧
  (∃ s : State, ∃ t : State, exec .supvRepair s = .next t) ∧
  (∃ s : State, ∃ t : State, exec .coachCmdOpen s = .next t) ∧
  (∃ s : State, ∃ t : State, exec .coachCmdClose s = .next t) ∧
  (∃ s : State, ∃ t : State, exec .coachCmdManual s = .next t) ∧
  (∃ s : State, ∃ t : State, exec .coachCmdShutter s = .next t) ∧
  (∃ first : Fin 64, ∃ data : List Nat, ∃ s : State, ∃ t : State, exec (.coachWindowWrite first data) s = .next t) ∧
  (∃ s : State, ∃ t : State, exec .wheelLoRead s = .next t) ∧
  (∃ count : Nat, ∃ s : State, ∃ t : State, exec (.arbSwapReq count) s = .next t) ∧
  (∃ sel : Fin 16, ∃ s : State, ∃ t : State, exec (.arbWmaxClr sel) s = .next t) ∧
  (∃ reg : Fin 11, ∃ value : Nat, ∃ s : State, ∃ t : State, exec (.uiSettingsWrite reg value) s = .next t) ∧
  (∃ input : Fin 64, ∃ conv : Fin 4, ∃ s : State, ∃ t : State, exec (.convUrgGo input conv) s = .next t) ∧
  (∃ mask : Fin 8, ∃ s : State, ∃ t : State, exec (.calReq mask) s = .next t) ∧
  (∃ input : Fin 64, ∃ point : Fin 4, ∃ s : State, ∃ t : State, exec (.calSysGo input point) s = .next t) ∧
  (∃ s : State, ∃ t : State, exec .calSysAbort s = .next t) ∧
  (∃ mask : Fin 8, ∃ s : State, ∃ t : State, exec (.fanUnlock mask) s = .next t) ∧
  (∃ value : Nat, ∃ s : State, ∃ t : State, exec (.valveModeWrite value) s = .next t) ∧
  (∃ mask : Fin 16, ∃ s : State, ∃ t : State, exec (.vlvDiagNow mask) s = .next t) ∧
  (∃ mask : Fin 256, ∃ s : State, ∃ t : State, exec (.vlvClear mask) s = .next t) ∧
  (∃ mask : Fin 16, ∃ s : State, ∃ t : State, exec (.vlvHsClear mask) s = .next t) ∧
  (∃ mask : Fin 16, ∃ s : State, ∃ t : State, exec (.dmpHome mask) s = .next t) ∧
  (∃ mask : Fin 16, ∃ s : State, ∃ t : State, exec (.dmpClear mask) s = .next t) ∧
  (∃ mask : Fin 64, ∃ s : State, ∃ t : State, exec (.boClear mask) s = .next t) ∧
  (∃ mask : Fin 256, ∃ s : State, ∃ t : State, exec (.thermReadmit mask) s = .next t) ∧
  (∃ s : State, ∃ t : State, exec .rtcSet s = .next t) ∧
  (∃ s : State, ∃ t : State, exec .rtcSetWday s = .next t) ∧
  (∃ s : State, ∃ t : State, exec .rtcRearm s = .next t) ∧
  (∃ n : Fin 32768, ∃ hold : Bool, ∃ s : State, ∃ t : State, exec (.rtcShiftGo n hold) s = .next t) ∧
  (∃ s : State, ∃ t : State, exec .rtcTimeRead s = .next t) ∧
  (∃ value : Nat, ∃ s : State, ∃ t : State, exec (.zoneForceWrite value) s = .next t) ∧
  (∃ first : Fin 256, ∃ data : List Nat, ∃ s : State, ∃ t : State, exec (.regionStageWrite first data) s = .next t) ∧
  (∃ s : State, ∃ t : State, exec .rgnStart s = .next t) ∧
  (∃ s : State, ∃ t : State, exec .rgnAbort s = .next t) ∧
  (∃ s : State, ∃ t : State, exec .imgPersistOpen s = .next t) ∧
  (∃ s : State, ∃ t : State, exec .imgPersistCommit s = .next t) ∧
  (∃ s : State, ∃ t : State, exec .imgPersistAbort s = .next t) ∧
  (∃ s : State, ∃ t : State, exec .pwrModeNative s = .next t) ∧
  (∃ s : State, ∃ t : State, exec .pwrModeService s = .next t) ∧
  (∃ s : State, ∃ t : State, exec .pwrModeStandby s = .next t) ∧
  (∃ s : State, ∃ t : State, exec .pwrModeWake s = .next t) ∧
  (∃ s : State, ∃ t : State, exec .pwrRstSoft s = .next t) ∧
  (∃ s : State, ∃ t : State, exec .pwrRstCold s = .next t) ∧
  (∃ s : State, ∃ t : State, exec .netRelink s = .next t) ∧
  (∃ s : State, ∃ t : State, exec .netScRetry s = .next t) ∧
  (∃ addr : Nat, ∃ len : Nat, ∃ crc : Nat, ∃ s : State, ∃ t : State, exec (.lyaleRead addr len crc) s = .next t) ∧
  (∃ addr : Nat, ∃ data : List Nat, ∃ crc : Nat, ∃ s : State, ((addr % 65536 ≤ 0x0416 → addr % 65536 + data.length ≤ 0x0416)) ∧ ∃ t : State, exec (.lyaleWrite addr data crc) s = .next t) ∧
  (∃ opc : ReqOpc, ∃ addr : Nat, ∃ len : Nat, ∃ s : State, ∃ t : State, exec (.lyaleUnknownOpc opc addr len) s = .next t) ∧
  (∃ s : State, ∃ t : State, exec .evcSnapshot s = .next t) ∧
  (∃ s : State, ∃ t : State, exec .evcClearAll s = .next t) ∧
  (∃ door : Fin 4, ∃ arg : Nat, ∃ s : State, ∃ t : State, exec (.doorFirstStep door arg) s = .next t) ∧
  (∃ door : Fin 4, ∃ arg : Nat, ∃ s : State, ∃ t : State, exec (.doorSecondStep door arg) s = .next t) ∧
  (∃ door : Fin 4, ∃ s : State, ∃ t : State, exec (.doorClose door) s = .next t) ∧
  (∃ value : Nat, ∃ s : State, ∃ t : State, exec (.hostHbWrite value) s = .next t) ∧
  (∃ value : Nat, ∃ s : State, ∃ t : State, exec (.hbTimeoutWrite value) s = .next t) ∧
  (∃ s : State, ∃ t : State, exec .hatchRead s = .next t) ∧
  (∃ s : State, ∃ t : State, exec .hatchProgram s = .next t) ∧
  (∃ s : State, ∃ t : State, exec .hatchErase s = .next t) ∧
  (∃ value : Nat, ∃ s : State, ∃ t : State, exec (.evcCfgWrite value) s = .next t) ∧
  (∃ s : State, ∃ t : State, exec .otpProgHash s = .next t) ∧
  (∃ s : State, ∃ t : State, exec .otpProgSigned s = .next t) ∧
  (∃ s : State, ∃ t : State, exec .dispOff s = .next t) ∧
  (∃ s : State, ∃ t : State, exec .dispOn s = .next t) :=
  ⟨⟨wState, completes (by decide)⟩,
   ⟨1, wState, completes (by decide)⟩,
   ⟨wState, completes (by decide)⟩,
   ⟨wState, completes (by decide)⟩,
   ⟨wState, completes (by decide)⟩,
   ⟨wState, completes (by decide)⟩,
   ⟨wState, completes (by decide)⟩,
   ⟨1, [], wState, completes (by decide)⟩,
   ⟨wState, completes (by decide)⟩,
   ⟨1, wState, completes (by decide)⟩,
   ⟨1, wState, completes (by decide)⟩,
   ⟨1, 1, wState, completes (by decide)⟩,
   ⟨1, 1, wState, completes (by decide)⟩,
   ⟨1, wState, completes (by decide)⟩,
   ⟨1, 1, wState, completes (by decide)⟩,
   ⟨wState, completes (by decide)⟩,
   ⟨1, wState, completes (by decide)⟩,
   ⟨1, wState, completes (by decide)⟩,
   ⟨1, wState, completes (by decide)⟩,
   ⟨1, wState, completes (by decide)⟩,
   ⟨1, wState, completes (by decide)⟩,
   ⟨1, wState, completes (by decide)⟩,
   ⟨1, wState, completes (by decide)⟩,
   ⟨1, wState, completes (by decide)⟩,
   ⟨1, wState, completes (by decide)⟩,
   ⟨wState, completes (by decide)⟩,
   ⟨wState, completes (by decide)⟩,
   ⟨wState, completes (by decide)⟩,
   ⟨1, true, wState, completes (by decide)⟩,
   ⟨wState, completes (by decide)⟩,
   ⟨1, wState, completes (by decide)⟩,
   ⟨1, [], wState, completes (by decide)⟩,
   ⟨wState, completes (by decide)⟩,
   ⟨wState, completes (by decide)⟩,
   ⟨wState, completes (by decide)⟩,
   ⟨wState, completes (by decide)⟩,
   ⟨wState, completes (by decide)⟩,
   ⟨wState, completes (by decide)⟩,
   ⟨wState, completes (by decide)⟩,
   ⟨wState, completes (by decide)⟩,
   ⟨wState, completes (by decide)⟩,
   ⟨wState, completes (by decide)⟩,
   ⟨wState, completes (by decide)⟩,
   ⟨wState, completes (by decide)⟩,
   ⟨wState, completes (by decide)⟩,
   ⟨1, 1, 1, wState, completes (by decide)⟩,
   ⟨1, [], 1, wState, by decide, completes (by decide)⟩,
   ⟨⟨5, true⟩, 1, 1, wState, completes (by decide)⟩,
   ⟨wState, completes (by decide)⟩,
   ⟨wState, completes (by decide)⟩,
   ⟨1, 1, wState, completes (by decide)⟩,
   ⟨1, 1, wState, completes (by decide)⟩,
   ⟨1, wState, completes (by decide)⟩,
   ⟨1, wState, completes (by decide)⟩,
   ⟨1, wState, completes (by decide)⟩,
   ⟨wState, completes (by decide)⟩,
   ⟨wState, completes (by decide)⟩,
   ⟨wState, completes (by decide)⟩,
   ⟨1, wState, completes (by decide)⟩,
   ⟨wState, completes (by decide)⟩,
   ⟨wState, completes (by decide)⟩,
   ⟨wState, completes (by decide)⟩,
   ⟨wState, completes (by decide)⟩⟩

theorem wit_StepKeepsCanonicalForm_1 : ∃ s t : State, s.Canonical ∧ step s = .next t :=
    ⟨canonS, canonT, by unfold Machine.State.Canonical Store.sorted; decide, rfl⟩

theorem wit_FusesStayBlown_1 : ∃ s t : State, step s = .next t :=
    ⟨canonS, canonT, rfl⟩

theorem wit_SilentLaneCountsAsDiffering_1 : ∃ s : State, ∃ env : EvalEnv, ∃ lane : Fin 3, ∃ k : Nat, s.lanePos lane.val = some k :=
    ⟨mkN 4 [(Reg.SUPV_LANE_LEAD, 1)], {}, 1, 0, by decide⟩

theorem wit_Iz30SetPoint_1 : ∃ s : State, ∃ n : Fin 8, bit (s.iz (0x10 + 16 * n.val)) 2 = false :=
    ⟨mkN 5 [], 3, by decide⟩

theorem wit_Iz30SetPoint_2 : ∃ s : State, ∃ n : Fin 8, bit (s.iz (0x10 + 16 * n.val)) 2 = true :=
    ⟨(mkN 5 []).wrAt Hid.izI 0x30 4, 2, by decide⟩

theorem wit_Iz30SetPoint_3 : ∃ s : State, ∃ n : Fin 8, bit (s.iz (0x10 + 16 * n.val)) 2 = true ∧ s.rdAt Hid.izCode (s.iz (0x12 + 16
    * n.val) % 8) = 4095 :=
    ⟨((mkN 5 []).wrAt Hid.izI 0x30 4).wrAt Hid.izCode 0 4095, 2, by decide⟩

/-- No cell of the store belongs to a coach word, and no word holds an error. -/
def noCoach (s : State) : Bool := s.upsets.isEmpty && s.regs.all (fun c => (List.range 64).all (fun w => c.id != (Reg.coachW w).id))

theorem get_absent (l : List Cell) (id ch d : Nat) (h : ∀ c ∈ l, c.id ≠ id) : Store.get l id ch d = d := by
  induction l with
  | nil => rfl
  | cons c t ih =>
    have h1 : c.at id ch = false := by simp [Cell.at, h c (by simp)]
    simp only [Store.get, h1, Bool.false_eq_true, if_false]
    exact ih (fun x hx => h x (by simp [hx]))

theorem cw_zero {s : State} (h : noCoach s = true) (c w : Nat) (hw : w < 64) : s.cw c w = (Reg.coachW w).boot := by
  obtain ⟨hu, h⟩ := Bool.and_eq_true_iff.mp h
  simp only [State.cw, List.isEmpty_iff.mp hu, List.find?_nil, State.cell, State.rdAt]
  refine get_absent _ _ _ _ (fun x hx => ?_)
  have h1 := List.all_eq_true.mp h x hx
  have h2 := List.all_eq_true.mp h1 w (by simpa using hw)
  simpa using h2

/-- Without coach words every coach is empty: its words are in range and it binds nothing. -/
theorem coaches_empty {s : State} (h : noCoach s = true) : ((upTo 160).all s.coachWordsOk && s.allSole) = true := by
  have z : ∀ c w, w < 64 → s.cw c w = ({} : State).cw c w := fun c w hw => by
    rw [cw_zero h c w hw, cw_zero (s := {}) rfl c w hw]
  have q : ∀ c w, w < 64 → s.cq c w = ({} : State).cq c w := fun c w hw => by unfold State.cq; rw [z c w hw]
  have o : ∀ c k, k < 4 → s.outBind c k = ({} : State).outBind c k := fun c k hk => by
    unfold State.outBind; rw [z c _ (by omega)]
  have om : ∀ (c : Nat) (β : Type) (g : Nat × Nat → β),
      (upTo 4).map (fun k => g (s.outBind c k)) = (upTo 4).map (fun k => g (({} : State).outBind c k)) := fun c β g =>
    List.map_congr_left (fun k hk => by rw [o c k (by simpa [upTo] using hk)])
  have t : ∀ c, s.targets c = ({} : State).targets c := fun c => by
    unfold State.targets; rw [show (upTo 4).map (s.outBind c) = _ from om c _ id]; rfl
  have w : ∀ c, s.coachWordsOk c = ({} : State).coachWordsOk c := fun c => by
    unfold State.coachWordsOk
    have ob : (upTo 4).all (fun k => outOk c (s.outBind c k)) = (upTo 4).all (fun k => outOk c (({} : State).outBind c k)) := by
      simp only [upTo, List.range, List.range.loop, List.all_cons, List.all_nil, o c 0 (by decide), o c 1 (by decide),
        o c 2 (by decide), o c 3 (by decide)]
    rw [ob]
    simp only [List.all_cons, List.all_nil]
    simp only [z c 0 (by decide), z c 1 (by decide), z c 2 (by decide), z c 3 (by decide), z c 4 (by decide), z c 5 (by decide),
      z c 31 (by decide), q c 18 (by decide), q c 19 (by decide), q c 10 (by decide), q c 11 (by decide), q c 20 (by decide),
      q c 22 (by decide), q c 30 (by decide), q c 32 (by decide), q c 33 (by decide), q c 34 (by decide), q c 35 (by decide),
      q c 38 (by decide), q c 40 (by decide), q c 43 (by decide)]
  have e1 : (upTo 160).all ({} : State).coachWordsOk = true := by decide +kernel
  have e2 : ({} : State).allSole = true := by decide +kernel
  rw [show s.coachWordsOk = ({} : State).coachWordsOk from funext w, e1]
  unfold State.allSole
  rw [show s.targets = ({} : State).targets from funext t]
  exact e2

theorem imageOk_of {s : State} (h : noCoach s = true) (r : imageRegs.all (fun p => s.regOk p.1 p.2) = true) (n : s.netImageOk = true) :
    s.imageOk = true := by
  have c := coaches_empty h
  rw [Bool.and_eq_true] at c
  simp [State.imageOk, r, n, c.1, c.2]

/-- The staged update that is judged well when its load gives a state that satisfies every rule. -/
def loadOf (s : State) : State := match s.loadRegion (s.rdAt Hid.stage 0 / 65536) s.staged.2 with | .ok u => u | .error _ => {}

def loads (s : State) : Bool := match s.loadRegion (s.rdAt Hid.stage 0 / 65536) s.staged.2 with | .ok _ => true | .error _ => false

theorem judge_zero {s : State} (a : s.rdAt Hid.stage 0 % 65536 + 2 ≤ 8192)
    (b : s.rdAt Hid.stage (s.rdAt Hid.stage 0 % 65536 + 1) =
      crcWords ((s.stageWords 0 (s.rdAt Hid.stage 0 % 65536 + 2)).take (s.rdAt Hid.stage 0 % 65536 + 1)))
    (c : knownType (s.rdAt Hid.stage 0 / 65536) = true) (d : isRegion (s.rdAt Hid.stage 0 / 65536) = true)
    (e : s.rdAt Hid.stage (s.rdAt Hid.stage 0 % 65536 + 2) / 65536 ≠ 255) (f : s.otp.actSigned = false) (g : loads s = true)
    (h : noCoach (loadOf s) = true) (r : imageRegs.all (fun p => (loadOf s).regOk p.1 p.2) = true)
    (n : (loadOf s).netImageOk = true) : s.rgnJudge true = 0 := by
  have i := imageOk_of h r n
  unfold loads at g
  unfold loadOf at i
  unfold State.rgnJudge
  simp only [e, false_and, if_false, State.signatureJudge, f]
  rw [if_neg (by simp), if_neg (by simp; omega), if_neg (by simpa using b), if_neg (by simp), if_neg (by simp [c]), if_neg (by simp [d])]
  split at g
  · rename_i u hu
    rw [hu] at i ⊢
    simp [i]
  · cases g

theorem loads_update : loads (okState (mkStage 2 [0xA0000])) = true ∧ noCoach (loadOf (okState (mkStage 2 [0xA0000]))) = true := by
  decide +kernel

theorem regs_update : imageRegs.all (fun p => (loadOf (okState (mkStage 2 [0xA0000]))).regOk p.1 p.2) = true := by decide +kernel

theorem net_update : (loadOf (okState (mkStage 2 [0xA0000]))).netImageOk = true := by decide +kernel

theorem judged_update : (okState (mkStage 2 [0xA0000])).rgnJudge true = 0 :=
  judge_zero (by decide) (by decide) (by decide) (by decide) (by decide) (by decide) loads_update.1 loads_update.2 regs_update net_update

theorem wit_RegionUpdatesEnd_1 : ∃ s : State, s.rd Reg.RGN_CTRL_STATE = 2 ∧ s.rgnMode = true ∧ s.rgnJudge true = 0 ∧
    s.staged.1 ≠ 6 ∧ s.staged.1 ≠ 11 :=
  ⟨okState (mkStage 2 [0xA0000]), by decide, by decide, judged_update, by decide, by decide⟩

theorem loads_group : loads (okState wGroup) = true ∧ noCoach (loadOf (okState wGroup)) = true := by decide +kernel

theorem regs_group : imageRegs.all (fun p => (loadOf (okState wGroup)).regOk p.1 p.2) = true := by decide +kernel

theorem net_group : (loadOf (okState wGroup)).netImageOk = true := by decide +kernel

theorem judged_group : (okState wGroup).rgnJudge true = 0 :=
  judge_zero (by decide) (by decide) (by decide) (by decide) (by decide) (by decide) loads_group.1 loads_group.2 regs_group net_group

theorem wit_RegionUpdatesEnd_4 : ∃ s : State, s.rd Reg.RGN_CTRL_STATE = 3 ∧ s.rgnMode = true ∧ s.staged.1 = 11 ∧
    s.rgn.written = false ∧ s.groupOpen = true ∧ s.rgnJudge true = 0 :=
  ⟨okState wGroup, by decide, by decide, by decide, by decide, by decide, judged_group⟩

theorem wit_HostWritesCoachesAndPlans_1 : ∃ s : State, ∃ w : Fin 64, ∃ v : Nat, s.port = .opened ∧ s.rgnHolds = false ∧
    (Reg.coachAcc w.val = .rw ∨ Reg.coachAcc w.val = .rwl) ∧ (Reg.coachAcc w.val = .rwl → s.coachLocked (s.rd Reg.COACH_SEL_SEL) = false) ∧
    (s.wrCoach (s.rd Reg.COACH_SEL_SEL) w.val (v &&& coachMask w.val)).coachOk (s.rd Reg.COACH_SEL_SEL) = true :=
  ⟨hostCoach 5 0, 1, 0x10064, by decide, by decide, by decide, by decide, by decide +kernel⟩

/-- A copy of ten words whose one section is an empty SYSTEM: its number, its section's CRC and its own. -/
def wCopy (seq sec crc : Nat) : List Nat := [0x4B5A4931, 0x100, seq, 10, 0, 0, 0, crc, 0x10000, sec]

/-- Copies A and B, B the newer one. -/
def wFlash : List Host.Cell := Memory.writes [] (wordBytes 0 (wCopy 1 545699115 749868834) ++ wordBytes 0x080000 (wCopy 2 545699115 425697649))

/-- The same where a byte of the CRC of B's section is another. -/
def wFlashBad : List Host.Cell := Memory.writes wFlash [(0x080024, 0)]

/-- BOOT with two copies, over a state whose other fields satisfy the rules of the image. -/
def wBoot : State := { okState (mkN 1 []) with flash := wFlash }

/-- Where BOOT judges its copies. -/
def wJudge (env : BootEnv) : State := (wBoot.bootStart env).bootHeaders true

def rejOf (x : Except Rej (State × Bool)) : Option Rej := match x with | .ok _ => none | .error r => some r

theorem rej_of {x : Except Rej (State × Bool)} {r : Rej} (h : rejOf x = some r) : x = .error r := by
  cases x with
  | ok _ => cases h
  | error e => exact congrArg _ (Option.some.inj h)

/-- A copy whose one section is an empty SYSTEM loads nothing, so the state it finds is the one it leaves. -/
theorem judge_empty {s : State} {body : List Nat} (a : sectionsOf (body.length + 1) body = some [⟨1, [], true⟩])
    (o : s.otp.actSigned = false) (i : s.imageOk = true) : s.judgeBody body true true = .ok (s, false) := by
  simp [State.judgeBody, a, State.loadSections, knownType, oneOf, State.loadSection, signedPart, State.signatureJudge, o, i]

/-- The memory's part of the judgement of such a copy. -/
def copyGood (m : List Host.Cell) (c : Nat) : Bool :=
  let body := Memory.words m (copyBase c + 32) 2
  Memory.word m (copyBase c + 12) == 10 && sectionsOf 3 body == some [⟨1, [], true⟩] &&
    copyCrcOk (Memory.words m (copyBase c) 8) body && body.length == 2

theorem boot_judged {s : State} {c : Nat} {m : List Host.Cell} (e : s.imageDefaults.flash = m) (g : copyGood m c = true)
    (f : s.on Reg.CLK_STAT_FALLBACK = false) (o : s.imageDefaults.otp.actSigned = false) (i : s.imageDefaults.imageOk = true) :
    s.bootJudge c = .ok (s.imageDefaults, false) := by
  simp only [copyGood, Bool.and_eq_true, beq_iff_eq] at g
  obtain ⟨⟨⟨w, b⟩, k⟩, l⟩ := g
  unfold State.bootJudge State.judgeCopy
  simp only [e, w, k, f, show 10 - 8 = 2 from rfl, Bool.not_false]
  exact judge_empty (by rw [l]; exact b) o i

theorem boot_rejected {s : State} {c : Nat} {m : List Host.Cell} {r : Rej} (e : s.imageDefaults.flash = m)
    (w : Memory.word m (copyBase c + 12) = 10) (f : s.on Reg.CLK_STAT_FALLBACK = false)
    (h : ∀ u : State, rejOf (u.judgeBody (Memory.words m (copyBase c + 32) 2)
      (copyCrcOk (Memory.words m (copyBase c) 8) (Memory.words m (copyBase c + 32) 2)) true) = some r) : s.bootJudge c = .error r := by
  unfold State.bootJudge State.judgeCopy
  simp only [e, w, f, show 10 - 8 = 2 from rfl, Bool.not_false]
  exact rej_of (h _)

def wDefaults : State := (wJudge {}).imageDefaults

def wBad : BootEnv := { placed := [(0x080024, 0)] }

theorem boot_facts : (wDefaults.flash == wFlash && !(wJudge {}).on Reg.CLK_STAT_FALLBACK && !wDefaults.otp.actSigned && noCoach wDefaults &&
    wDefaults.netImageOk && ((wBoot.bootStart {}).bootOrder true == [1, 0])) = true := by decide +kernel

theorem boot_mode : wBoot.mode = mBoot := by decide +kernel

theorem bad_facts : ((wJudge wBad).imageDefaults.flash == wFlashBad && !(wJudge wBad).on Reg.CLK_STAT_FALLBACK &&
    !(wJudge wBad).imageDefaults.otp.actSigned && ((wBoot.bootStart wBad).bootOrder true == [1, 0])) = true := by decide +kernel

theorem bad_defaults : (wJudge wBad).imageDefaults = { wDefaults with flash := wFlashBad } := by decide +kernel

theorem copies_good : (copyGood wFlash 1 && copyGood wFlashBad 0) = true := by decide +kernel

theorem regs_boot : imageRegs.all (fun p => wDefaults.regOk p.1 p.2) = true := by decide +kernel

theorem image_boot : wDefaults.imageOk = true := by
  have f := boot_facts
  simp only [Bool.and_eq_true] at f
  exact imageOk_of f.1.1.2 regs_boot f.1.2

theorem imageOk_flash (s : State) (m : List Host.Cell) : ({ s with flash := m } : State).imageOk = s.imageOk := rfl

theorem image_bad : (wJudge wBad).imageDefaults.imageOk = true := by rw [bad_defaults, imageOk_flash]; exact image_boot

theorem judged_boot : (wJudge {}).bootJudge 1 = .ok (wDefaults, false) := by
  have f := boot_facts
  have g := copies_good
  simp only [Bool.and_eq_true, Bool.not_eq_true', beq_iff_eq] at f g
  obtain ⟨⟨⟨⟨⟨m, k⟩, o⟩, -⟩, -⟩, -⟩ := f
  exact boot_judged m g.1 k o image_boot

theorem judged_bad : (wJudge wBad).bootJudge 0 = .ok ((wJudge wBad).imageDefaults, false) := by
  have f := bad_facts
  have g := copies_good
  simp only [Bool.and_eq_true, Bool.not_eq_true', beq_iff_eq] at f g
  obtain ⟨⟨⟨m, k⟩, o⟩, -⟩ := f
  exact boot_judged m g.2 k o image_bad

/-- The section of the spoilt copy, as it stands in the memory. -/
theorem copy_bad : (Memory.word wFlashBad (copyBase 1 + 12) == 10 && (match sectionsOf 3 (Memory.words wFlashBad (copyBase 1 + 32) 2) with
    | some [c] => c.typ == 1 && !c.crcOk | _ => false) && (Memory.words wFlashBad (copyBase 1 + 32) 2).length == 2) = true := by decide +kernel

theorem rejected_bad : (wJudge wBad).bootJudge 1 = .error { reason := rSectionCrc, index := 0, typ := 1 } := by
  have f := bad_facts
  have g := copy_bad
  simp only [Bool.and_eq_true, Bool.not_eq_true', beq_iff_eq] at f g
  obtain ⟨⟨⟨m, k⟩, -⟩, -⟩ := f
  obtain ⟨⟨w, h⟩, l⟩ := g
  refine boot_rejected m w k (fun u => ?_)
  split at h <;> simp_all [State.judgeBody, State.loadSections, rejOf]

theorem order_boot : (wBoot.bootStart {}).bootOrder true = [1, 0] := by
  have f := boot_facts
  simp only [Bool.and_eq_true, beq_iff_eq] at f
  exact f.2

theorem order_bad : (wBoot.bootStart wBad).bootOrder true = [1, 0] := by
  have f := bad_facts
  simp only [Bool.and_eq_true, beq_iff_eq] at f
  exact f.2

theorem wit_BootLoadsTheCopyThatPasses_2 : ∃ s : State, ∃ env : BootEnv, ∃ c : Nat, ∃ rest : List Nat, ∃ u : State, ∃ sig : Bool,
    s.mode = mBoot ∧ env.straps.val ≠ 2 ∧ env.answers = true ∧ (s.bootStart env).bootOrder true = c :: rest ∧
    ((s.bootStart env).bootHeaders true).bootJudge c = .ok (u, sig) :=
  ⟨wBoot, {}, 1, [0], wDefaults, false, boot_mode, by decide, by decide, order_boot, judged_boot⟩

theorem wit_BootLoadsTheCopyThatPasses_3 : ∃ s : State, ∃ env : BootEnv, ∃ c d : Nat, ∃ r : Rej, ∃ u : State, ∃ sig : Bool,
    s.mode = mBoot ∧ env.straps.val ≠ 2 ∧ env.answers = true ∧ (s.bootStart env).bootOrder true = [c, d] ∧
    ((s.bootStart env).bootHeaders true).bootJudge c = .error r ∧ ((s.bootStart env).bootHeaders true).bootJudge d = .ok (u, sig) :=
  ⟨wBoot, wBad, 1, 0, { reason := rSectionCrc, index := 0, typ := 1 }, (wJudge wBad).imageDefaults, false, boot_mode, by decide, by decide,
    order_bad, rejected_bad, judged_bad⟩

theorem wit_BootLoadsTheCopyThatPasses_4 : ∃ s : State, ∃ env : BootEnv, ∃ l : List Nat, s.mode = mBoot ∧ env.straps.val ≠ 2 ∧
    env.answers = true ∧ (s.bootStart env).bootOrder true = l ∧
    ∀ c ∈ l, ∃ r, ((s.bootStart env).bootHeaders true).bootJudge c = .error r :=
  ⟨mkN 1 [], {}, [], by decide, by decide, by decide, by decide +kernel, fun _ h => absurd h (by simp)⟩

theorem wit_BootLoadsTheCopyThatPasses_6 : ∃ s : State, eligible s.flash 0 = true ∧ eligible s.flash 0x080000 = true :=
  ⟨{ mkN 1 [] with flash := wFlash }, by decide +kernel, by decide +kernel⟩

end Sys2Proof.Tests
end

section
/-! What a command can do to the machine, said once: `Leads m s` holds of a machine `s` that the operations of a command have
made of `m`. It keeps what every command keeps: the queue of waiting commands, the canonical form, and what OTP holds once
programmed. Each operation of the model has one lemma, named after it; its proof follows the operation's definition. -/

namespace Sys2Proof.Machine

theorem length_setAt {α : Type} (l : List α) (k : Nat) (x : α) : (setAt l k x).length = l.length := by
  induction l generalizing k with
  | nil => rfl
  | cons y t ih => cases k <;> simp [setAt, ih]

/-- R308, R363, R410: what is programmed in OTP stays programmed, and the part's identity and trims stay as they are. -/
structure FusesKept (o p : Otp) : Prop where
  hash : o.hashSet = true → p.hashSet = true ∧ p.hash = o.hash
  signed : o.signed = true → p.signed = true
  key : o.keySet = true → p.keySet = true ∧ p.priv = o.priv ∧ p.pub = o.pub
  identity : p.part = o.part ∧ p.die = o.die ∧ p.lot = o.lot ∧ p.pos = o.pos ∧ p.mac = o.mac ∧ p.lines = o.lines ∧
    p.trims = o.trims

theorem FusesKept.refl (o : Otp) : FusesKept o o :=
  ⟨fun h => ⟨h, rfl⟩, id, fun h => ⟨h, rfl, rfl⟩, rfl, rfl, rfl, rfl, rfl, rfl, rfl⟩

/-- A machine `s` that the operations of one command have made of `m`. -/
structure Leads (m s : State) : Prop where
  pending : s.pending = m.pending
  canonical : m.Canonical → s.Canonical
  fuses : FusesKept m.otp s.otp

/-- An answer that is a next state made of `m`. -/
def LeadsOut (m : State) (o : Out) : Prop := ∃ t, o = .next t ∧ Leads m t

/-- A result whose machine, read from it by `π`, is made of `m`, where it is not an error. -/
def LeadsExc {ε α : Type} (m : State) (π : α → State) (x : Except ε α) : Prop := ∀ a, x = .ok a → Leads m (π a)

/-- A value and a machine made of `m`, where there is one. -/
def LeadsOpt {α : Type} (m : State) (x : Option (α × State)) : Prop := ∀ a, x = some a → Leads m a.2

variable {m s t : State}

namespace LeadsOut

theorem next (ht : Leads m t) : LeadsOut m (.next t) := ⟨t, rfl, ht⟩

theorem branch {c : Prop} {inst : Decidable c} {x y : Out} (hx : LeadsOut m x) (hy : LeadsOut m y) :
    LeadsOut m (if c then x else y) := by
  split
  · exact hx
  · exact hy

end LeadsOut

namespace LeadsExc

variable {ε α β : Type} {π : α → State} {x y : Except ε α}

theorem ok {a : α} (ha : Leads m (π a)) : LeadsExc m π (.ok a : Except ε α)
  | _, rfl => ha

theorem error {e : ε} : LeadsExc m π (.error e : Except ε α)
  | _, h => nomatch h

theorem branch {c : Prop} {inst : Decidable c} (hx : LeadsExc m π x) (hy : LeadsExc m π y) :
    LeadsExc m π (if c then x else y) := by
  split
  · exact hx
  · exact hy

theorem map {z : Except ε β} {f : β → α} (hf : ∀ b, Leads m (π (f b))) : LeadsExc m π (z.map f) := by
  cases z with
  | ok b => exact ok (hf b)
  | error e => exact error

end LeadsExc

namespace LeadsOpt

variable {α β : Type}

theorem some {a : α × State} (ha : Leads m a.2) : LeadsOpt m (some a)
  | _, rfl => ha

theorem none : LeadsOpt m (none : Option (α × State))
  | _, h => nomatch h

theorem map {z : Option β} {f : β → α × State} (hf : ∀ b, Leads m (f b).2) : LeadsOpt m (z.map f) := by
  cases z with
  | some b => exact some (hf b)
  | none => exact none

end LeadsOpt

namespace Leads

theorem refl (m : State) : Leads m m := ⟨rfl, id, .refl _⟩

/-- A change of the components that the canonical form, the queue and OTP do not name. -/
theorem upd (hs : Leads m s) {free intCause evcWrap evcStamp due upsets actQ xchks arb relief urgMore pulses snsTx avs dmp schedLog}
    {rgn hatch resp sent netImg net drawn held fbBad compBad tap} :
    Leads m { s with
      free := free, intCause := intCause, evcWrap := evcWrap, evcStamp := evcStamp, due := due, upsets := upsets, actQ := actQ,
      xchks := xchks, arb := arb, relief := relief, urgMore := urgMore, pulses := pulses, snsTx := snsTx, avs := avs, dmp := dmp,
      schedLog := schedLog, rgn := rgn, hatch := hatch, resp := resp, sent := sent, netImg := netImg, net := net, drawn := drawn,
      held := held, fbBad := fbBad, compBad := compBad, tap := tap } :=
  ⟨hs.pending, hs.canonical, hs.fuses⟩

theorem setRegs (hs : Leads m s) {l : List Cell} (hl : Store.sorted s.regs → Store.sorted l) : Leads m { s with regs := l } :=
  ⟨hs.pending, fun h => let ⟨hr, hm⟩ := hs.canonical h; ⟨hl hr, hm⟩, hs.fuses⟩

theorem setFlash (hs : Leads m s) {l : List Host.Cell} (hl : Memory.wf s.flash = true → Memory.wf l = true) :
    Leads m { s with flash := l } :=
  ⟨hs.pending, fun h => let ⟨hr, hf, hm⟩ := hs.canonical h; ⟨hr, hl hf, hm⟩, hs.fuses⟩

theorem setEeprom (hs : Leads m s) {l : List Host.Cell} (hl : Memory.wf s.eeprom = true → Memory.wf l = true) :
    Leads m { s with eeprom := l } :=
  ⟨hs.pending, fun h => let ⟨hr, hf, he, hm⟩ := hs.canonical h; ⟨hr, hf, hl he, hm⟩, hs.fuses⟩

theorem setEvcs (hs : Leads m s) {l : List EvCtr} (hl : l.length = s.evcs.length) : Leads m { s with evcs := l } :=
  ⟨hs.pending, fun h => let ⟨hr, hf, he, hv, hm⟩ := hs.canonical h; ⟨hr, hf, he, hl.trans hv, hm⟩, hs.fuses⟩

theorem setConvs (hs : Leads m s) {l : List ConvS} (hl : l.length = s.convs.length) : Leads m { s with convs := l } :=
  ⟨hs.pending, fun h => let ⟨hr, hf, he, hv, hc, hm⟩ := hs.canonical h; ⟨hr, hf, he, hv, hl.trans hc, hm⟩, hs.fuses⟩

theorem setCals (hs : Leads m s) {l : List CalS} (hl : l.length = s.cals.length) : Leads m { s with cals := l } :=
  ⟨hs.pending, fun h => let ⟨hr, hf, he, hv, hc, hm⟩ := hs.canonical h; ⟨hr, hf, he, hv, hc, hl.trans hm⟩, hs.fuses⟩

theorem setOtp (hs : Leads m s) {o : Otp} (ho : FusesKept m.otp s.otp → FusesKept m.otp o) : Leads m { s with otp := o } :=
  ⟨hs.pending, hs.canonical, ho hs.fuses⟩

/-! The control structure of the model's definitions. -/

theorem branch {c : Prop} {inst : Decidable c} (hs : Leads m s) (ht : Leads m t) : Leads m (if c then s else t) := by
  split
  · exact hs
  · exact ht

theorem branch_snd {α : Type} {x y : α × State} {c : Prop} {inst : Decidable c} (hx : Leads m x.2) (hy : Leads m y.2) :
    Leads m (if c then x else y).2 := by
  split
  · exact hx
  · exact hy

theorem branch_fst {α : Type} {x y : State × α} {c : Prop} {inst : Decidable c} (hx : Leads m x.1) (hy : Leads m y.1) :
    Leads m (if c then x else y).1 := by
  split
  · exact hx
  · exact hy

theorem branch_answer {x y : Answer} {c : Prop} {inst : Decidable c} (hx : Leads m x.s) (hy : Leads m y.s) :
    Leads m (if c then x else y).s := by
  split
  · exact hx
  · exact hy

theorem branch_wr {x y : Wr} {c : Prop} {inst : Decidable c} (hx : Leads m x.s) (hy : Leads m y.s) :
    Leads m (if c then x else y).s := by
  split
  · exact hx
  · exact hy

theorem foldl {α : Type} {l : List α} {f : State → α → State} (hs : Leads m s) (hf : ∀ t a, Leads m t → Leads m (f t a)) :
    Leads m (l.foldl f s) := by
  induction l generalizing s with
  | nil => exact hs
  | cons a l ih => exact ih (hf s a hs)

theorem foldl_snd {α β : Type} {l : List α} {f : β × State → α → β × State} {x : β × State} (hx : Leads m x.2)
    (hf : ∀ y a, Leads m y.2 → Leads m (f y a).2) : Leads m (l.foldl f x).2 := by
  induction l generalizing x with
  | nil => exact hx
  | cons a l ih => exact ih (hf x a hx)

theorem foldl_fst {α β : Type} {l : List α} {f : State × β → α → State × β} {x : State × β} (hx : Leads m x.1)
    (hf : ∀ y a, Leads m y.1 → Leads m (f y a).1) : Leads m (l.foldl f x).1 := by
  induction l generalizing x with
  | nil => exact hx
  | cons a l ih => exact ih (hf x a hx)

theorem each {α : Type} {l : List α} {f : State → α → State} (hs : Leads m s) (hf : ∀ t a, Leads m t → Leads m (f t a)) :
    Leads m (s.each l f) := hs.foldl hf

theorem whenB {b : Bool} {f : State → State} (hs : Leads m s) (hf : ∀ t, Leads m t → Leads m (f t)) : Leads m (s.whenB b f) :=
  branch (hf s hs) hs

/-! The operations on the state's components. -/

theorem wrAt {f ch v} (hs : Leads m s) : Leads m (s.wrAt f ch v) := hs.setRegs (Store.sorted_put _ _ _ _)

theorem wr {f v} (hs : Leads m s) : Leads m (s.wr f v) := hs.wrAt

theorem wrs {l} (hs : Leads m s) : Leads m (s.wrs l) := by
  induction l generalizing s with
  | nil => exact hs
  | cons p l ih => exact ih hs.wr

theorem wrsAt {ch l} (hs : Leads m s) : Leads m (s.wrsAt ch l) := by
  induction l generalizing s with
  | nil => exact hs
  | cons p l ih => exact ih hs.wrAt

theorem setConv {c x} (hs : Leads m s) : Leads m (s.setConv c x) := hs.setConvs (length_setAt _ _ _)

theorem setCal {c x} (hs : Leads m s) : Leads m (s.setCal c x) := hs.setCals (length_setAt _ _ _)

theorem setEvc {k c} (hs : Leads m s) : Leads m { s with evcs := setAt s.evcs k c } := hs.setEvcs (length_setAt _ _ _)

/-! What is kept by the named operations over the register store, and free values. -/

theorem wrI {f ch v} (hs : Leads m s) : Leads m (s.wrI f ch v) := hs.wrAt

theorem orAt {f ch m'} (hs : Leads m s) : Leads m (s.orAt f ch m') := hs.wrAt

theorem clrAt {f ch m'} (hs : Leads m s) : Leads m (s.clrAt f ch m') := hs.wrAt

theorem or {f m'} (hs : Leads m s) : Leads m (s.or f m') := hs.orAt

theorem putBit {f n b} (hs : Leads m s) : Leads m (s.putBit f n b) := hs.wr

theorem raise {n} (hs : Leads m s) : Leads m (s.raise n) := hs.upd

theorem takeFree (hs : Leads m s) : Leads m s.takeFree.2 := hs.upd

theorem pathJoin {k} (hs : Leads m s) : Leads m (s.pathJoin k) := .branch hs hs.upd

theorem pathLeave {k} (hs : Leads m s) : Leads m (s.pathLeave k) := hs.upd

/-! What is kept by the event counters (R405). -/

theorem evcAdd {k n} (hs : Leads m s) : Leads m (s.evcAdd k n) := .branch hs.setEvc.upd.raise hs.setEvc

theorem countN {code n} (hs : Leads m s) : Leads m (s.countN code n) :=
  .branch hs (.foldl hs fun _ _ ht => .branch (.branch ht.evcAdd ht.takeFree.evcAdd) ht)

theorem countWords {code n run first} (hs : Leads m s) : Leads m (s.countWords code n run first) :=
  .branch hs.countN (.branch hs (.foldl hs fun _ _ ht => .branch ht.takeFree.evcAdd ht))

theorem count {code} (hs : Leads m s) : Leads m (s.count code) := hs.countN

theorem countIf {b code} (hs : Leads m s) : Leads m (s.countIf b code) := .branch hs.count hs

theorem evcEdge (hs : Leads m s) : Leads m s.evcEdge :=
  .branch hs (.foldl hs fun _ _ ht => .branch (.branch ht.setEvc.evcAdd ht.setEvc) ht)

theorem levelPulse {code} (hs : Leads m s) : Leads m (s.levelPulse code) :=
  .branch hs (.foldl hs fun _ _ ht => .branch (.branch ht.setEvc.evcAdd ht.setEvc) ht)

theorem levelDrop {code n} (hs : Leads m s) : Leads m (s.levelDrop code n) :=
  .branch hs (.foldl hs fun _ _ ht => .branch (.branch ht.setEvc.takeFree.evcAdd ht.setEvc) ht)

theorem evcShow {k} (hs : Leads m s) : Leads m (s.evcShow k) := .branch hs.takeFree.setEvc.evcAdd hs

theorem evcTick (hs : Leads m s) : Leads m s.evcTick :=
  .branch hs (.foldl hs fun _ _ ht => .branch (.branch ht.setEvc (.branch ht.setEvc.evcAdd ht.setEvc.takeFree.evcAdd)) ht)

theorem rgnEnd {result reason code} (hs : Leads m s) : Leads m (s.rgnEnd result reason code) := hs.wrs.upd.count.raise

theorem rgnDone (hs : Leads m s) : Leads m s.rgnDone := .branch hs.rgnEnd hs.rgnEnd

theorem fin {t : State} (ht : Leads m t) : LeadsOut m (fin t) := .next ht.evcEdge

/-! What is kept by the coach bus and the arbiter (R112 to R131). -/

theorem memErr {f} (hs : Leads m s) : Leads m (s.memErr f) := hs.wr.raise

theorem busGrant {r} (hs : Leads m s) : Leads m (s.busGrant r) := by
  unfold State.busGrant
  extract_lets t
  have ht : Leads m t := hs.count.count
  split
  · exact ht.upd.wrs
  · exact ht.upd

theorem noteWait {id wait} (hs : Leads m s) : Leads m (s.noteWait id wait) := .branch hs.wrAt hs

theorem parkRest (hs : Leads m s) : Leads m s.parkRest := hs.upd.countN

theorem dropBadPend {bad} (hs : Leads m s) : Leads m (s.dropBadPend bad) := .branch hs hs.upd.wr.countN.memErr

theorem raiseAgain {bad} (hs : Leads m s) : Leads m (s.raiseAgain bad) := hs.upd.countN

theorem seatParity (hs : Leads m s) : Leads m s.seatParity := hs.wr.count.raise.memErr

theorem orderRefuse {id held asked} (hs : Leads m s) : Leads m (s.orderRefuse id held asked) := hs.upd.wrs.count.raise

theorem busRaise {id c ask} (hs : Leads m s) : Leads m (s.busRaise id c ask) := .branch hs.orderRefuse (.branch hs hs.upd.countIf)

theorem busAsk {id c ask} (hs : Leads m s) : Leads m (s.busAsk id c ask) := .branch hs.busRaise hs

theorem fetchNext (hs : Leads m s) : Leads m s.fetchNext := by
  unfold State.fetchNext
  extract_lets
  refine .branch hs ?_
  split
  · exact hs
  · exact hs.upd.busAsk

theorem fetchAsk {b} (hs : Leads m s) : Leads m (s.fetchAsk b) := hs.upd.fetchNext

theorem execCoachBusRequest {req beat write beats ask} (hs : Leads m s) : LeadsOut m (execCoachBusRequest req beat write beats ask s) :=
  .branch hs.busAsk.fin hs.fin

theorem displace {c wait} (hs : Leads m s) : Leads m (s.displace c wait) := hs.count.count.noteWait.busGrant.parkRest

theorem winRecord {r how wait} (hs : Leads m s) : Leads m (s.winRecord r how wait) :=
  .noteWait (by split; exacts [hs.upd.count, hs.upd, hs.upd.count, hs.upd.count])

theorem arbiter {p seatBad wait contAfter} (hs : Leads m s) : Leads m (s.arbiter p seatBad wait contAfter) := by
  unfold State.arbiter
  split
  · exact hs.parkRest
  · extract_lets _ s2 s3 s4
    have hs3 : Leads m s3 := .branch hs.countIf.seatParity hs.countIf
    have hs4 : Leads m s4 := .branch hs3.wr hs3
    split
    · exact .branch hs4.winRecord.busGrant.parkRest hs4.countIf.countIf.displace
    · exact hs4.winRecord.busGrant.parkRest

theorem execArbitration {pointer seatBad pendBad wait contAfter} (hs : Leads m s) :
    LeadsOut m (execArbitration pointer seatBad pendBad wait contAfter s) :=
  .branch hs.wr.fin (fin (.raiseAgain (.branch hs.wr.dropBadPend hs.wr.dropBadPend.arbiter)))

theorem holdLong (hs : Leads m s) : Leads m s.holdLong := .branch hs hs.upd.wrs.count.raise

theorem execHoldLong (hs : Leads m s) : LeadsOut m (execHoldLong s) := .branch hs.holdLong.fin hs.fin

theorem busPass (hs : Leads m s) : Leads m s.busPass := by
  unfold State.busPass
  extract_lets
  split
  · exact hs.upd.wrs
  · exact hs.upd.wr

theorem execResourceRequest {req held asked} (hs : Leads m s) : LeadsOut m (execResourceRequest req held asked s) :=
  .branch hs.orderRefuse.fin hs.fin

theorem seatSwap (hs : Leads m s) : Leads m s.seatSwap := .count (.wrs (.each hs fun _ _ ht => ht.wrAt))

theorem execSeatPlanSwap (hs : Leads m s) : LeadsOut m (execSeatPlanSwap s) :=
  .branch (fin (.whenB hs.seatSwap fun _ hs' => hs'.rgnDone)) hs.fin

/-! What is kept by the conversion of codes (R133 to R138). -/

theorem settleValue {n} (hs : Leads m s) : Leads m (s.settleValue n).2 := by
  unfold State.settleValue
  split
  · exact .branch_snd hs.takeFree hs
  · exact hs.takeFree

/-! What is kept by results and inputs (R132 to R145, R151 to R157, R162). -/

theorem housekeep {i v} (hs : Leads m s) : Leads m (s.housekeep i v) :=
  .branch hs.wr (.branch hs.wr (.branch hs.wr.wr (.branch hs.wr (.branch hs.wrI.wrAt hs))))

theorem refreshZones (hs : Leads m s) : Leads m s.refreshZones := .branch hs (.whenB hs.wr.count fun _ ht => ht.wr)

theorem setOcc {n b} (hs : Leads m s) : Leads m (s.setOcc n b) := hs.putBit.refreshZones

theorem occFresh (hs : Leads m s) : Leads m s.occFresh := .each hs fun _ _ ht => ht.setOcc

theorem occStep {n x} (hs : Leads m s) : Leads m (s.occStep n x) :=
  .branch hs (.branch (.branch hs.wrAt.countIf.putBit.wrAt.setOcc hs.wrAt.setOcc) hs.wrAt.putBit.wrAt.setOcc)

theorem izStore {i v reason} (hs : Leads m s) : Leads m (s.izStore i v reason) := .branch hs hs.wrAt

theorem netStore {i v reason} (hs : Leads m s) : Leads m (s.netStore i v reason) := .branch hs.wrsAt hs

theorem storeResult {i v reason src} (hs : Leads m s) : Leads m (s.storeResult i v reason src) := by
  unfold State.storeResult
  extract_lets t u w
  have hw : Leads m w := .izStore (.netStore (.whenB hs.wrsAt.count.countIf.countIf.countIf.countIf fun _ ht => ht.wr))
  exact .branch (.branch hw.occStep hw.housekeep) hw

theorem storeConverted {i c mark src set} (hs : Leads m s) : Leads m (s.storeConverted i c mark src set) :=
  .storeResult (.settleValue (.whenB hs fun _ ht => ht.wrI))

theorem emit {i c src set} (hs : Leads m s) : Leads m (s.emit i c src set) := hs.wrI.wrAt.storeConverted

theorem setForce {i set} (hs : Leads m s) : Leads m (s.setForce i set) := .branch hs.wrAt hs.wrAt.wrsAt

theorem sysTake {i a settle limit} (hs : Leads m s) : Leads m (s.sysTake i a settle limit) :=
  .branch (.whenB hs.wrI.wrs fun _ ht => ht.wr) hs

theorem moverEntry {a src} (hs : Leads m s) : Leads m (s.moverEntry a src) := by
  unfold State.moverEntry
  extract_lets i avg c mark t u
  have ht : Leads m t := hs.wrAt.sysTake
  have hu : Leads m u := ht.wrI.wrsAt
  exact .branch ht.storeConverted.wrAt (.branch ht.emit (.branch ht (.branch hu.storeConverted.wrAt hu)))

theorem execOccHoldExpiry {chan} (hs : Leads m s) : LeadsOut m (execOccHoldExpiry chan s) := .branch hs.fin hs.setOcc.fin

theorem execLrWindowEnd {input} (hs : Leads m s) : LeadsOut m (execLrWindowEnd input s) :=
  .branch hs.fin (fin (.wrsAt (.branch hs hs.wrAt.emit)))

theorem setPulse {p} (hs : Leads m s) : Leads m (s.setPulse p) := hs.upd

theorem execUiComparatorEdge {input high us} (hs : Leads m s) : LeadsOut m (execUiComparatorEdge input high us s) :=
  .branch hs.fin (.branch hs.wrAt.fin (.branch hs.fin (fin (.branch hs.setPulse.wrAt hs.setPulse))))

theorem uiLogicOne {us i} (hs : Leads m s) : Leads m (s.uiLogicOne us i) :=
  .branch hs (.whenB (.storeResult (.settleValue (.branch hs hs.wrAt))) fun _ hu => hu.wrAt)

theorem execUiLogicStore {us} (hs : Leads m s) : LeadsOut m (execUiLogicStore us s) :=
  .branch (fin (.foldl hs fun _ _ ht => ht.uiLogicOne)) hs.fin

theorem pollTick (hs : Leads m s) : Leads m s.pollTick := .branch (.each hs fun _ _ ht => ht.wrAt) hs

theorem execSensorPollStart {entry} (hs : Leads m s) : LeadsOut m (execSensorPollStart entry s) :=
  .branch hs.upd.wrAt.wrs.count.fin hs.fin

theorem pollFail {n} (hs : Leads m s) : Leads m (s.pollFail n) := .branch hs.wrAt.wr.count.wrsAt.wr.count hs.wrAt.wr.count

theorem execSensorPollDone {reply} (hs : Leads m s) : LeadsOut m (execSensorPollDone reply s) := by
  unfold Machine.execSensorPollDone
  extract_lets
  refine .branch hs.fin ?_
  split
  · exact hs.wr.pollFail.fin
  · exact .branch hs.wr.pollFail.fin hs.wrsAt.wr.fin

theorem execSnsStretchTimeout (hs : Leads m s) : LeadsOut m (execSnsStretchTimeout s) := .branch hs.wr.count.pollFail.fin hs.fin

theorem settingsChanged {before : State} {i} (hs : Leads m s) : Leads m (s.settingsChanged before i) :=
  .whenB (.branch hs.wrAt hs) fun _ ht => ht.wrAt

/-! What is kept by the converters (R146 to R151, R158 to R161). -/

theorem reloadTrim {k} (hs : Leads m s) : Leads m (s.reloadTrim k) := hs.wrAt.wrAt

theorem applySys {i} (hs : Leads m s) : Leads m (s.applySys i) := .branch hs.wrsAt hs

theorem moverTake {c} (hs : Leads m s) : Leads m (s.moverTake c) := by
  unfold State.moverTake
  extract_lets
  split
  · exact .branch hs.setConv.wrAt hs
  · exact hs

theorem powerDown {c} (hs : Leads m s) : Leads m (s.powerDown c) := .branch hs hs.setConv.count

theorem restCheck {c gapLong} (hs : Leads m s) : Leads m (s.restCheck c gapLong) := .branch hs.powerDown hs

theorem moverAsk (hs : Leads m s) : Leads m s.moverAsk := .branch hs.busRaise hs

theorem moverCarriage (hs : Leads m s) : Leads m s.moverCarriage := .moverAsk (.foldl_snd hs fun _ _ hp => hp.setConv.moverTake)

theorem execCarriageEnd {len} (hs : Leads m s) : LeadsOut m (execCarriageEnd len s) := by
  unfold Machine.execCarriageEnd
  extract_lets lim s1 s2
  have hs1 : Leads m s1 := .branch hs.holdLong hs
  have hs2 : Leads m s2 := .branch hs1.wr hs1
  split
  · exact hs.fin
  · exact fin (.whenB hs2.busPass.fetchNext fun _ hs' => hs'.moverCarriage)

theorem loseRaw {c r} (hs : Leads m s) : Leads m (s.loseRaw c r) := .branch hs hs.setConv.count

theorem placeData {c r} (hs : Leads m s) : Leads m (s.placeData c r) := by
  unfold State.placeData
  extract_lets old lim reason s0 src t u
  have hs0 : Leads m s0 := by
    unfold s0 old
    split
    · exact hs.loseRaw
    · exact hs
  have hu : Leads m u := hs0.setConv.wrsAt.count
  exact moverAsk (moverTake (.branch hu.or.count hu))

theorem execConversionResult {conv code gapLong} (hs : Leads m s) : LeadsOut m (execConversionResult conv code gapLong s) := by
  unfold Machine.execConversionResult
  extract_lets
  split
  · exact hs.fin
  · exact .branch hs.fin (.branch hs.setConv.setConv.restCheck.fin hs.setConv.placeData.restCheck.fin)

theorem execSampleMoverEntry {conv} (hs : Leads m s) : LeadsOut m (execSampleMoverEntry conv s) := by
  unfold Machine.execSampleMoverEntry
  extract_lets
  split
  · exact hs.setConv.moverTake.moverAsk.fin
  · exact fin (.moverAsk (.moverTake (by split; exacts [.branch hs.setConv.moverEntry hs.setConv, hs.setConv])))

theorem urgDrop {u} (hs : Leads m s) : Leads m (s.urgDrop u) := by
  unfold State.urgDrop
  extract_lets
  split
  · exact hs.wr.count.wr
  · exact .whenB hs.wr.count fun _ ht => ht.wr.count
  · exact hs.wr.count.upd.setCal
  · exact hs.wr.count.upd

theorem urgPlace {u} (hs : Leads m s) : Leads m (s.urgPlace u) := by
  unfold State.urgPlace
  extract_lets
  refine .branch (.branch hs.setConv (.branch hs.setConv hs.countIf.setConv)) ?_
  exact .branch hs.urgDrop (.branch hs.setConv (.branch hs.setConv hs.setConv))

theorem urgSend {src input named} (hs : Leads m s) : Leads m (s.urgSend src input named) := hs.count.countIf.countIf.urgPlace

theorem urgIssue {src input named} (hs : Leads m s) : Leads m (s.urgIssue src input named) := .branch hs.upd hs.urgSend

theorem urgKept {src n} (hs : Leads m s) : Leads m (s.urgKept src n) := by
  induction n generalizing s with
  | zero => exact hs
  | succ n ih =>
    unfold State.urgKept
    refine .branch hs ?_
    split
    · exact hs
    · exact ih hs.upd.urgSend

theorem urgNextKept {src} (hs : Leads m s) : Leads m (s.urgNextKept src) := hs.urgKept

theorem urgNext {c} (hs : Leads m s) : Leads m (s.urgNext c) := by
  unfold State.urgNext
  extract_lets
  refine .branch hs ?_
  split
  · exact hs.setConv
  · exact hs

theorem urgDeliver {u code} (hs : Leads m s) : Leads m (s.urgDeliver u code) := by
  unfold State.urgDeliver
  extract_lets
  split
  · exact hs.wrs
  · exact .branch hs.wrI.wrAt hs
  · exact hs.upd
  · exact hs

theorem execUrgentRequest {src input conv} (hs : Leads m s) : LeadsOut m (execUrgentRequest src input conv s) :=
  .branch hs.fin hs.urgIssue.fin

theorem execUrgentConversionDone {conv code gapLong} (hs :
    Leads m s) : LeadsOut m (execUrgentConversionDone conv code gapLong s) := by
  unfold Machine.execUrgentConversionDone
  extract_lets
  split
  · exact hs.fin
  · exact hs.setConv.urgDeliver.urgNext.urgNextKept.restCheck.fin

theorem execConverterStartUpDone {conv} (hs : Leads m s) : LeadsOut m (execConverterStartUpDone conv s) :=
  .branch hs.setConv.urgNext.fin hs.fin

theorem wakeConvs (hs : Leads m s) : Leads m s.wakeConvs := .each hs fun _ _ ht => .branch ht.setConv ht

theorem scanTick (hs : Leads m s) : Leads m s.scanTick := .wakeConvs (.each hs fun _ _ ht => ht.wrAt)

/-! What is kept by calibration (R166 to R190). -/

theorem refreshRelief (hs : Leads m s) : Leads m s.refreshRelief := hs.wrs

theorem cIdle (hs : Leads m s) : Leads m s.cIdle := .branch hs (.branch hs.powerDown hs.urgNext)

theorem applyTaps {c l} (hs : Leads m s) : Leads m (s.applyTaps c l) := hs.wrAt.wrAt

theorem traceReview (hs : Leads m s) : Leads m s.traceReview := .whenB hs fun _ ht => ht.wr

theorem calRecord {c result reason} (hs : Leads m s) : Leads m (s.calRecord c result reason) :=
  .branch hs.wrsAt.wrsAt.count.setConv.setCal.traceReview (.branch hs.wrsAt.wrAt.or.count.setCal hs.wrsAt.setCal.count)

theorem calAbandon {c} (hs : Leads m s) : Leads m (s.calAbandon c) := .branch (.branch hs.calRecord.upd hs.calRecord) hs

theorem calAbandonAll (hs : Leads m s) : Leads m s.calAbandonAll := hs.calAbandon.calAbandon.calAbandon.cIdle

theorem failC (hs : Leads m s) : Leads m s.failC := by
  unfold State.failC
  extract_lets s' src t
  have ht : Leads m t := hs.calAbandon.calAbandon.setCal.wr.count.traceReview
  exact .branch ht.upd.setConv.cIdle.refreshRelief ht.upd.refreshRelief

theorem calDue {c asked} (hs : Leads m s) : Leads m (s.calDue c asked) := .branch hs hs.setCal

theorem execSelfCalDue {conv} (hs : Leads m s) : LeadsOut m (execSelfCalDue conv s) := .branch hs.calDue.fin hs.fin

theorem checkC {zero half} (hs : Leads m s) : Leads m (s.checkC zero half).1 := by
  unfold State.checkC
  extract_lets x busy src t u
  have ht : Leads m t := hs.countIf.setCal.count
  have hu : Leads m u := ht.countIf.count.count
  split
  · dsimp only
    exact ht.urgDrop
  · split
    · dsimp only
      exact hu
    · dsimp only
      exact hu.failC

theorem execSelfCalStart {conv zero half} (hs : Leads m s) : LeadsOut m (execSelfCalStart conv zero half s) := by
  unfold Machine.execSelfCalStart
  extract_lets c src t
  have ht : Leads m t := hs.setCal.count
  refine .branch hs.fin ?_
  refine .branch hs.setCal.fin ?_
  refine .branch ht.setCal.setConv.urgNext.fin ?_
  split
  · exact ht.checkC.setCal.setConv.urgNext.fin
  · exact ht.checkC.setCal.fin
  · exact hs.checkC.setCal.fin

theorem handToC {c} (hs : Leads m s) : Leads m (s.handToC c) := hs.setConv.upd.count.urgNext

theorem handOff {c} (hs : Leads m s) : Leads m (s.handOff c) := hs.setConv.setConv.upd.count.urgNext

theorem handBack {c} (hs : Leads m s) : Leads m (s.handBack c) := hs.handOff.cIdle

theorem settleBack {c} (hs : Leads m s) : Leads m (s.settleBack c) :=
  .branch (.count (.setCal (.branch hs.applyTaps.setCal.calRecord hs))) (.branch hs.applyTaps.setCal.calRecord hs)

theorem calStart {c} (hs : Leads m s) : Leads m (s.calStart c) := hs.setConv.urgNext

theorem execReliefHandover {conv zero half} (hs : Leads m s) : LeadsOut m (execReliefHandover conv zero half s) := by
  unfold Machine.execReliefHandover
  extract_lets c forCal other s1
  have hs1 : Leads m s1 := .branch hs.settleBack.handOff hs
  refine .branch hs.fin ?_
  refine .branch hs.fin ?_
  exact .branch hs1.calStart.setCal.handToC.fin (.branch hs1.checkC.handToC.fin (fin (.whenB hs1.checkC fun _ hs' => hs'.cIdle)))

theorem calFinish {c result reason taps} (hs : Leads m s) : Leads m (s.calFinish c result reason taps) := by
  unfold State.calFinish
  extract_lets t src t'
  have ht : Leads m t := .calRecord (.branch hs.applyTaps hs)
  have ht' : Leads m t' := .branch hs.setCal hs.calRecord
  exact .branch ht.cIdle (.branch ht'.upd ht')

theorem execCalRunDone {conv searches zero half} (hs : Leads m s) : LeadsOut m (execCalRunDone conv searches zero half s) := by
  unfold Machine.execCalRunDone
  extract_lets
  refine .branch hs.fin ?_
  split
  · exact hs.count.calFinish.fin
  · exact .branch hs.setCal.fin (.branch hs.wrAt.count.calFinish.fin (.branch hs.wrAt.calFinish.fin hs.wrAt.calFinish.fin))

theorem takeOver {c e'} (hs : Leads m s) : Leads m (s.takeOver c e') :=
  .refreshRelief (.upd (by split; exacts [hs.handToC.setConv.setForce, hs.handToC]))

theorem execCalHandback {conv} (hs : Leads m s) : LeadsOut m (execCalHandback conv s) := by
  unfold Machine.execCalHandback
  extract_lets
  refine .branch ?_ ?_
  · split
    · exact hs.settleBack.handOff.takeOver.fin
    · exact hs.settleBack.handBack.refreshRelief.fin
  · exact hs.fin

theorem urgMove {c} (hs : Leads m s) : Leads m (s.urgMove c) := .urgNextKept (.each hs.setConv.upd fun _ _ ht => ht.count.urgPlace)

theorem replace {c} (hs : Leads m s) : Leads m (s.replace c) := by
  unfold State.replace
  extract_lets s' e src t src' u v
  have hu : Leads m u := hs.calAbandon.setCal.or.count.raise.setConv.powerDown.urgMove.traceReview
  have hv : Leads m v := hu.calAbandon.calAbandon
  refine .branch hu.refreshRelief ?_
  exact .branch hu.upd.refreshRelief (.branch (.branch hv.settleBack.handOff.takeOver hv.upd.refreshRelief) hv.takeOver)

theorem makeSuspect {c failed} (hs : Leads m s) : Leads m (s.makeSuspect c failed) := by
  unfold State.makeSuspect
  extract_lets t u
  have hu : Leads m u := .branch hs.wr hs.wr.calAbandon.calAbandon.calAbandon
  exact .branch hu.setCal hu.setCal.upd

theorem trimParity {c} (hs : Leads m s) : Leads m (s.trimParity c) := .branch hs.memErr.reloadTrim hs.memErr.reloadTrim.makeSuspect

theorem execScanEntryStart {conv trimBad} (hs : Leads m s) : LeadsOut m (execScanEntryStart conv trimBad s) := by
  unfold Machine.execScanEntryStart
  extract_lets
  refine .branch hs.fin ?_
  split
  · exact hs.fin
  · exact fin (.setConv (.whenB (.setForce (.wrAt (.applySys (.branch hs.trimParity hs)))) fun _ ht => ht.wrAt))

theorem healthIssue {c} (hs : Leads m s) : Leads m (s.healthIssue c) :=
  .branch hs.countIf.setCal.urgIssue.urgIssue hs.countIf.setCal.urgIssue

theorem healthTick (hs : Leads m s) : Leads m s.healthTick := by
  unfold State.healthTick
  extract_lets t
  have ht : Leads m t := .each hs fun _ _ ht => .branch ht.healthIssue ht
  exact .branch ht.healthIssue ht

theorem healthClear {c} (hs : Leads m s) : Leads m (s.healthClear c) := hs.setConv.upd.setCal.urgNext.urgNextKept

theorem healthJudge {c pass} (hs : Leads m s) : Leads m (s.healthJudge c pass) := by
  unfold State.healthJudge
  extract_lets
  refine .branch (.branch hs.countIf hs.countIf.makeSuspect) ?_
  refine .branch (.branch hs.countIf.setCal (.branch hs.countIf.replace hs.countIf.setCal)) ?_
  exact .branch (.branch (.branch hs.countIf.setCal.upd hs.countIf.setCal) hs.countIf.replace) hs.countIf

theorem execHealthCheckDone {conv zero half} (hs : Leads m s) : LeadsOut m (execHealthCheckDone conv zero half s) := by
  unfold Machine.execHealthCheckDone
  extract_lets c t
  have ht : Leads m t := hs.healthClear.count
  exact .branch hs.fin (.branch (fin (.branch ht ht.failC)) ht.healthJudge.fin)

theorem execConverterStuck {conv zero half} (hs : Leads m s) : LeadsOut m (execConverterStuck conv zero half s) :=
  .branch hs.fin (.branch hs.replace.fin hs.checkC.replace.fin)

theorem execRefinLoss (hs : Leads m s) : LeadsOut m (execRefinLoss s) :=
  .branch hs.fin (fin (.each hs.wrs.count fun _ _ ht => ht.setConv.setCal.calDue))

theorem execRefinRestore (hs : Leads m s) : LeadsOut m (execRefinRestore s) := hs.wr.fin

theorem sysGo {input point} (hs : Leads m s) : Leads m (s.sysGo input point) := .branch hs.wr (.branch hs.wr (.branch hs.wr hs.wrs))

theorem sysAbort (hs : Leads m s) : Leads m s.sysAbort := .branch hs.wrs hs

theorem sysFail {r} (hs : Leads m s) : Leads m (s.sysFail r) := hs.wrs

theorem sysJudge (hs : Leads m s) : Leads m s.sysJudge := by
  unfold State.sysJudge
  extract_lets _ _ _ _ _ _ gain offset fit t
  have hfit : ∀ {u f v lo hi}, Leads m u → Leads m (fit u f v lo hi) := by
    intro u f v lo hi hu
    unfold fit
    split
    · exact .branch hu.wr hu.takeFree.wr
    · exact hu.takeFree.wr
  have ht : Leads m t := hfit (hfit hs)
  exact .branch ht.sysFail (.branch ht.sysFail (.branch ht.sysFail ht.wr.wrsAt))

theorem execCalSysPointDone (hs : Leads m s) : LeadsOut m (execCalSysPointDone s) :=
  .branch hs.fin (.branch hs.wr.count.sysFail.fin (.branch hs.wr.count.wrI.wr.fin hs.wr.count.wrI.sysJudge.fin))

/-! What is kept by the coaches (R30 to R86). -/

theorem wrCoach {c w v} (hs : Leads m s) : Leads m (s.wrCoach c w v) := hs.wrAt.upd

theorem pokeCoach {c w v} (hs : Leads m s) : Leads m (s.pokeCoach c w v) := .branch hs.wrAt hs.wrCoach

/-! What is kept by the lanes and the commit (R88 to R102). -/

theorem kick (hs : Leads m s) : Leads m s.kick := .branch hs.wr.count hs

theorem laneRetire {lane} (hs : Leads m s) : Leads m (s.laneRetire lane) := hs.or.wr.count.raise

theorem noMajority (hs : Leads m s) : Leads m s.noMajority := hs.wr.wr.count

theorem engineStop (hs : Leads m s) : Leads m s.engineStop := hs.wrs.upd

theorem degrade {l} (hs : Leads m s) : Leads m (s.degrade l) := hs.wrs

theorem logMismatch {c env} (hs : Leads m s) : Leads m (s.logMismatch c env) := hs.wrs.count

theorem swapBegin {pos} (hs : Leads m s) : Leads m (s.swapBegin pos) := hs.wr.laneRetire.wrs

theorem pairLoses {loser survivor env} (hs : Leads m s) : Leads m (s.pairLoses loser survivor env).1 := by
  unfold State.pairLoses
  extract_lets t
  have ht : Leads m t := hs.wr.laneRetire.degrade
  split
  · dsimp only
    exact ht
  · split
    · dsimp only
      exact ht.count
    · dsimp only
      exact ht.count.noMajority

theorem vote {c env} (hs : Leads m s) : Leads m (s.vote c env).1 := by
  unfold State.vote
  extract_lets t t' u a b t''
  have ht' : Leads m t' := hs.logMismatch
  have ht'' : Leads m t'' := ht'.levelPulse
  split
  · split
    · dsimp only
      exact hs
    · split
      · dsimp only
        exact hs.count
      · dsimp only
        exact hs.count.noMajority
  · split
    · dsimp only
      exact hs
    · split
      · split
        · dsimp only
          exact ht'.count.swapBegin
        · split
          · dsimp only
            exact ht'.count.swapBegin
          · dsimp only
            exact ht'.count.noMajority
      · split
        · split
          · dsimp only
            exact ht''.count.takeFree.wr
          · dsimp only
            exact ht''.count.noMajority
        · split
          · exact ht''.pairLoses
          · split
            · exact ht''.pairLoses
            · dsimp only
              exact ht''.takeFree.wr.laneRetire.laneRetire.engineStop

theorem execLaneSwapEntryTest {pass} (hs : Leads m s) : LeadsOut m (execLaneSwapEntryTest pass s) :=
  .branch hs.fin (.branch hs.wrs.wrs.fin hs.wrs.laneRetire.degrade.fin)

theorem seatLanes {working} (hs : Leads m s) : Leads m (s.seatLanes working) := hs.wrs

theorem laneReturn {l} (hs : Leads m s) : Leads m (s.laneReturn l) := .branch hs.wrs hs.wr

theorem execLaneRestoreRun {passA passB passS} (hs : Leads m s) : LeadsOut m (execLaneRestoreRun passA passB passS s) :=
  .branch hs.fin (.branch hs.wrs.fin (.branch hs.wrs.seatLanes.fin (fin (.each hs.wrs fun _ _ hs' => hs'.laneReturn))))

theorem sendOut {c bind x} (hs : Leads m s) : Leads m (s.sendOut c bind x) := by
  unfold State.sendOut
  extract_lets t
  have ht : Leads m t := .branch hs hs.count
  exact .branch ht.upd (.branch ht.wrCoach (.branch ht.upd ht))

theorem sendAll {c e'} (hs : Leads m s) : Leads m (s.sendAll c e') := .branch (.each hs fun _ _ ht => ht.sendOut) hs.sendOut

theorem noteCe {c w} (hs : Leads m s) : Leads m (s.noteCe c w) := hs.wrs.count

theorem noteDue {c w scrub} (hs : Leads m s) : Leads m (s.noteDue c w scrub) := hs.wrs.count.memErr

theorem upset {c w mask} (hs : Leads m s) : Leads m (s.upset c w mask) := hs.upd

theorem freshen {c w} (hs : Leads m s) : Leads m (s.freshen c w) := hs.upd

theorem ceFix {c w} (hs : Leads m s) : Leads m (s.ceFix c w) := .branch hs.noteCe.freshen hs

theorem coachGet {c w} (hs : Leads m s) : Leads m (s.coachGet c w) := .branch hs.noteDue hs.ceFix

theorem eccRead {own cw} (hs : Leads m s) : Leads m (s.eccRead own cw) := .branch (.branch hs.noteCe hs.ceFix) (.branch hs.noteDue hs)

theorem resultErrors {bad} (hs : Leads m s) : Leads m (s.resultErrors bad) :=
  .each hs fun _ _ ht => .memErr (.whenB ht.wrsAt fun _ hu => hu.wrAt)

theorem countAll {l} (hs : Leads m s) : Leads m (s.countAll l) := .each hs fun _ _ hs' => hs'.count

theorem crossCheck {c} (hs : Leads m s) : Leads m (s.crossCheck c) := hs.upd.urgIssue

theorem commitWords {c l} (hs : Leads m s) : Leads m (s.commitWords c l) := .foldl hs fun _ _ ht => ht.wrCoach

theorem commitFixed {t : State} {c} (ht : Leads m t) : Leads m (s.commitFixed t c) := .each ht fun _ _ ht' => ht'.freshen

theorem commit {c tick was e'} (hs : Leads m s) : Leads m (s.commit c tick was e') := by
  unfold State.commit
  extract_lets w0 t2 t3 t4 t5 t6
  have ht3 : Leads m t3 := .whenB hs.commitWords.commitFixed.wrAt fun _ ht => ht.wrsAt
  have ht4 : Leads m t4 := .whenB ht3.countAll fun _ ht => ht.wr
  have ht5 : Leads m t5 := .whenB ht4 fun _ ht => ht.wrs
  have ht6 : Leads m t6 := .kick (.whenB ht5 fun _ ht => ht.raise)
  exact .whenB (.whenB ht6 fun _ ht => ht.sendAll) fun _ ht => ht.crossCheck

theorem evalNative {d env} (hs : Leads m s) : Leads m (s.evalNative d env) := by
  unfold State.evalNative
  extract_lets c t0 t1
  have ht0 : Leads m t0 := .each hs fun _ _ ht => ht.upset
  have ht1 : Leads m t1 := .resultErrors (.each ht0 fun _ _ ht => ht.eccRead)
  exact .branch ht1.vote.commit ht1.vote

theorem execScrubCarriage {upsets} (hs : Leads m s) : LeadsOut m (execScrubCarriage upsets s) := by
  unfold Machine.execScrubCarriage
  extract_lets p t0 t1
  have ht0 : Leads m t0 := .each hs fun _ _ ht => ht.upset
  have ht1 : Leads m t1 := .each ht0 fun _ _ ht => .branch ht.noteCe.count.freshen (.branch ht.noteDue ht)
  exact .branch hs.fin (.branch ht1.wr.fin ht1.wrs.count.fin)

theorem execCrossCheckRetry {coach} (hs : Leads m s) : LeadsOut m (execCrossCheckRetry coach s) := by
  unfold Machine.execCrossCheckRetry
  split
  · exact hs.fin
  · exact hs.upd.urgIssue.fin

theorem execCrossCheckResult {coach} (hs : Leads m s) : LeadsOut m (execCrossCheckResult coach s) := by
  unfold Machine.execCrossCheckResult
  extract_lets
  split
  · exact hs.fin
  · exact .branch (fin (.branch (.branch hs.settleValue.upd.wrs.count hs.settleValue.upd.wrs.count.healthIssue)
    (.healthIssue (.branch hs.settleValue.upd.wrs.count hs.settleValue.upd.wrs.count.healthIssue)))) hs.settleValue.upd.fin

theorem execCrossCheckAbandon {coach} (hs : Leads m s) : LeadsOut m (execCrossCheckAbandon coach s) := by
  unfold Machine.execCrossCheckAbandon
  split
  · exact hs.fin
  · exact hs.upd.wr.fin

/-! What is kept by the backup domain, zones and schedules (R270 to R296). -/

theorem loadTime {w} (hs : Leads m s) : Leads m (s.loadTime w) := hs.wrs

theorem loadDate {w} (hs : Leads m s) : Leads m (s.loadDate w) := hs.wrs

theorem raiseMain {n} (hs : Leads m s) : Leads m (s.raiseMain n) := .branch hs.raise hs

theorem zoneApply {z wake} (hs : Leads m s) : Leads m (s.zoneApply z wake) := .whenB hs.wrAt fun _ ht => ht.wr

theorem zoneSet {z set} (hs : Leads m s) : Leads m (s.zoneSet z set) := hs.wrAt.zoneApply

theorem schedNoTime (hs : Leads m s) : Leads m s.schedNoTime := .branch (.each hs.wr fun _ _ ht => ht.zoneSet) hs

theorem schedRefresh (hs : Leads m s) : Leads m s.schedRefresh := .branch hs.schedNoTime hs.wr

theorem schedFresh {a} (hs : Leads m s) : Leads m (s.schedFresh a) := .branch hs.wr hs

theorem setOsf (hs : Leads m s) : Leads m s.setOsf := .branch hs hs.wr.count.schedNoTime

theorem execEvent {e' day zones} (hs : Leads m s) : Leads m (s.execEvent e' day zones) := .upd (.each hs fun _ _ ht => ht.zoneSet.wrAt)

theorem minuteEvents {day wday minute code} (hs : Leads m s) : Leads m (s.minuteEvents day wday minute code) :=
  .each hs fun _ _ ht => .branch ht (.branch ht.count ht.execEvent.count)

theorem currentState (hs : Leads m s) : Leads m s.currentState := .each hs.wrs.upd fun _ _ ht => ht.zoneSet.wrAt

theorem preEnd (hs : Leads m s) : Leads m s.preEnd := .each hs fun _ _ ht => ht.wrsAt

theorem timeChange {oDay oSec oWday sub osf} (hs : Leads m s) : Leads m (s.timeChange oDay oSec oWday sub osf) := by
  unfold State.timeChange
  extract_lets
  refine .branch hs ?_
  refine .branch hs.currentState ?_
  refine .branch hs ?_
  refine .branch hs ?_
  refine .branch hs.wrs ?_
  refine .branch (.each hs.wr fun _ _ ht => ht.minuteEvents) ?_
  exact .preEnd (.each hs.wr.count fun _ _ ht => by split; exacts [ht.zoneSet, ht])

theorem lnPeriods {num den a} (hs : Leads m s) : Leads m (s.lnPeriods num den a).2 := hs.takeFree

theorem leadMs {s0 : State} {z} (hs0 : Leads m s0) : Leads m (s0.leadMs z).2 := by
  unfold State.leadMs
  extract_lets c st typ a cfg bindW gain offset pv src s'
  have hs' : Leads m s' := .each hs0 fun _ _ ht => ht.coachGet
  split
  · dsimp only
    exact hs'
  · split
    · dsimp only
      exact hs'
    · split
      · dsimp only
        exact hs'
      · dsimp only
        exact hs'.lnPeriods

theorem wholeMin {ms} (hs : Leads m s) : Leads m (s.wholeMin ms).2 := by
  unfold State.wholeMin
  exact .branch_snd hs hs.takeFree

theorem optimum {e' z} (hs : Leads m s) : Leads m (s.optimum e' z) := by
  unfold State.optimum
  extract_lets
  split
  · exact .branch hs.leadMs.wholeMin.wrAt.zoneSet.wrsAt.count hs.leadMs.wholeMin.wrAt
  · exact hs.leadMs.wholeMin.wrAt

theorem optimumAll (hs : Leads m s) : Leads m s.optimumAll := .each hs fun _ _ ht => .branch (.each ht fun _ _ ht' => ht'.optimum) ht

theorem alarmFire {f code} (hs : Leads m s) : Leads m (s.alarmFire f code) := hs.wr.wr.count.raiseMain

theorem alarms (hs : Leads m s) : Leads m s.alarms := .branch hs (.whenB (.whenB hs fun _ ht => ht.alarmFire) fun _ ht => ht.alarmFire)

theorem advance (hs : Leads m s) : Leads m s.advance := by
  unfold State.advance
  extract_lets
  exact .branch hs.wr (.branch hs.wrs (.branch hs.wrs
    (.branch hs.wrs.wr (.branch hs.wrs.wrs (.branch hs.wrs.wrs hs.wrs.wrs.setOsf)))))

theorem rtcCount (hs : Leads m s) : Leads m s.rtcCount := hs.wrs

theorem secondTick (hs : Leads m s) : Leads m s.secondTick :=
  .branch hs.rtcCount.advance.alarms.minuteEvents.preEnd.optimumAll hs.rtcCount.advance.alarms

theorem shiftDone (hs : Leads m s) : Leads m s.shiftDone := hs.wrs.count

theorem rtcRun (hs : Leads m s) : Leads m s.rtcRun := .branch hs (.whenB hs.takeFree.wrs fun _ hs' => hs'.shiftDone)

theorem rtcShow (hs : Leads m s) : Leads m s.rtcShow := .branch hs hs.rtcRun

theorem subCarry (hs : Leads m s) : Leads m s.subCarry := .whenB hs.wr fun _ hs' => hs'.shiftDone

theorem execRtcSecondTick {bad} {s0 : State} (hs0 : Leads m s0) : LeadsOut m (execRtcSecondTick bad s0) :=
  .branch hs0.fin (fin (.secondTick (.branch (.each hs0.subCarry fun _ _ ht => ht.or.memErr) hs0.subCarry)))

theorem execRtcCompSample {temp} (hs : Leads m s) : LeadsOut m (execRtcCompSample temp s) := hs.wrI.wrI.count.fin

theorem execRtcCompWindow (hs : Leads m s) : LeadsOut m (execRtcCompWindow s) := .branch hs.wr.fin hs.fin

theorem compOff (hs : Leads m s) : Leads m s.compOff := .branch hs hs.wrs

theorem execRtcOscStop (hs : Leads m s) : LeadsOut m (execRtcOscStop s) := hs.rtcRun.wr.setOsf.fin

theorem execRtcOscRestart (hs : Leads m s) : LeadsOut m (execRtcOscRestart s) := hs.wr.fin

theorem setAccept {t d} (hs : Leads m s) : Leads m (s.setAccept t d) := hs.wrs.count

theorem execRtcSetLoad {sub} (hs : Leads m s) : LeadsOut m (execRtcSetLoad sub s) := by
  unfold Machine.execRtcSetLoad
  extract_lets oDay oSec oWday osf t u v
  have hv : Leads m v := hs.loadTime.loadDate.wrs.timeChange
  exact .branch hs.fin (.branch hv.wr.alarmFire.count.fin hv.fin)

theorem execRtcShiftApply {sub} (hs : Leads m s) : LeadsOut m (execRtcShiftApply sub s) :=
  .branch hs.fin (.branch hs.wr.wrs.fin (.branch hs.wr.wrs.shiftDone.secondTick.fin hs.wr.wrs.shiftDone.fin))

theorem stamp (hs : Leads m s) : Leads m s.stamp := .branch hs hs.wrs

theorem execBackupSwitchMain (hs : Leads m s) : LeadsOut m (execBackupSwitchMain s) := hs.wrs.fin

theorem execVbatLow (hs : Leads m s) : LeadsOut m (execVbatLow s) := .branch hs.wr.count.raiseMain.fin hs.fin

theorem execVbatLowClear (hs : Leads m s) : LeadsOut m (execVbatLowClear s) := hs.wr.fin

theorem execRetentionLatchTrip (hs : Leads m s) : LeadsOut m (execRetentionLatchTrip s) := hs.wr.fin

theorem backupReset (hs : Leads m s) : Leads m s.backupReset := (hs.setRegs (Store.sorted_filter _)).wrs.wrAt.wrAt.count.countIf

theorem schedStart (hs : Leads m s) : Leads m s.schedStart := .branch hs (.branch hs.upd.schedNoTime hs.currentState)

/-! What is kept by the binary outputs (R242 to R247). -/

theorem boSwitch {n v} (hs : Leads m s) : Leads m (s.boSwitch n v) := hs.wrsAt.count

theorem boDefer {n w} (hs : Leads m s) : Leads m (s.boDefer n w) := hs.countIf.wrAt

theorem boEval {n due} (hs : Leads m s) : Leads m (s.boEval n due) := by
  unfold State.boEval
  extract_lets
  refine .branch (.branch hs.wrAt.wrAt (.branch hs.wrAt.boSwitch (.branch hs.wrAt.boDefer hs.wrAt.boSwitch))) ?_
  exact .branch hs.wrAt.wrAt (.branch hs.wrAt.boDefer (.branch hs.wrAt.boDefer hs.wrAt.boSwitch))

theorem boRefresh (hs : Leads m s) : Leads m s.boRefresh := .each (.each hs fun _ _ ht => ht.boEval) fun _ _ ht => ht.boEval

theorem boArrive {n} (hs : Leads m s) : Leads m (s.boArrive n) := hs.wr.wrAt

theorem boCommand {n v} (hs : Leads m s) : Leads m (s.boCommand n v) := .branch hs (.boRefresh (.whenB hs.wrAt fun _ ht => ht.boArrive))

theorem execBoOvercurrent {out} (hs : Leads m s) : LeadsOut m (execBoOvercurrent out s) :=
  .branch hs.fin (fin (.boRefresh (.whenB hs.boSwitch.or.count.wrAt.wrAt.wrAt fun _ ht => ht.orAt.or)))

theorem execBoOcRestart {out} (hs : Leads m s) : LeadsOut m (execBoOcRestart out s) := .branch hs.wrAt.boEval.fin hs.fin

theorem execBoMinTimeExpiry {out} (hs : Leads m s) : LeadsOut m (execBoMinTimeExpiry out s) := .branch hs.fin hs.boEval.boRefresh.fin

theorem execBoOpenLoad {out} (hs : Leads m s) : LeadsOut m (execBoOpenLoad out s) := .branch hs.or.fin hs.fin

theorem boClear {mask} (hs : Leads m s) : Leads m (s.boClear mask) := .boRefresh (.each hs fun _ _ ht => ht.clrAt.wrAt.wrAt)

theorem boTick (hs : Leads m s) : Leads m s.boTick := .each hs fun _ _ ht => .branch ht.wrAt ht.wrAt.wrAt

/-! What is kept by the dampers (R233 to R241). -/

theorem dmpOut {d} (hs : Leads m s) : Leads m (s.dmpOut d) := hs.upd.wrAt

theorem dmpStart {d} (hs : Leads m s) : Leads m (s.dmpStart d) := hs.upd.wrsAt.count

theorem dmpFill {fuel} (hs : Leads m s) : Leads m (State.dmpFill fuel s) := by
  induction fuel generalizing s with
  | zero => exact hs
  | succ fuel ih =>
    unfold State.dmpFill
    refine .branch hs ?_
    split
    · exact ih hs.dmpStart
    · exact ih hs.dmpStart
    · exact hs

theorem dmpPreempt (hs : Leads m s) : Leads m s.dmpPreempt := .each hs.upd fun _ _ ht => ht.or.count

theorem dmpJoin (hs : Leads m s) : Leads m s.dmpJoin := .each hs fun _ _ ht => .branch ht.upd.wrAt (.branch ht.dmpOut.wrAt ht)

theorem execDamperSchedTick (hs : Leads m s) : LeadsOut m (execDamperSchedTick s) := .branch hs.dmpJoin.dmpPreempt.dmpFill.fin hs.fin

theorem dmpShift {d delta} (hs : Leads m s) : Leads m (s.dmpShift d delta) := hs.wrsAt

theorem dmpMove {d} (hs : Leads m s) : Leads m (s.dmpMove d) := hs.dmpShift.wrsAt

theorem dmpHoming {d} (hs : Leads m s) : Leads m (s.dmpHoming d) := hs.dmpShift.wrsAt

theorem dmpTick (hs : Leads m s) : Leads m s.dmpTick := .branch (.each hs fun _ _ ht => .branch ht.dmpMove (.branch ht.dmpHoming ht)) hs

theorem dmpEnd {d} (hs : Leads m s) : Leads m (s.dmpEnd d) := hs.dmpOut.wrsAt

theorem dmpLose {d} (hs : Leads m s) : Leads m (s.dmpLose d) := .branch hs.takeFree.wrsAt hs

theorem dmpFault {d cause} (hs : Leads m s) : Leads m (s.dmpFault d cause) := hs.dmpLose.dmpOut.wrsAt.raise

theorem execDamperMoveDone {damper} (hs : Leads m s) : LeadsOut m (execDamperMoveDone damper s) := .branch hs.fin hs.dmpShift.dmpEnd.fin

theorem dmpHomed {d} (hs : Leads m s) : Leads m (s.dmpHomed d) := .branch hs.wrsAt.count.dmpEnd hs.wrsAt.count.wrsAt

theorem execDamperStall {damper} (hs : Leads m s) : LeadsOut m (execDamperStall damper s) := by
  unfold Machine.execDamperStall
  extract_lets
  exact .branch hs.fin (.branch hs.dmpHomed.fin (.branch (.branch hs.or.count.dmpFault.fin hs.or.count.dmpLose.wrsAt.fin) hs.fin))

theorem execDamperHomeFail {damper} (hs : Leads m s) : LeadsOut m (execDamperHomeFail damper s) := .branch hs.fin hs.or.dmpFault.fin

theorem execDamperFeedbackCheck {damper} (hs : Leads m s) : LeadsOut m (execDamperFeedbackCheck damper s) := by
  unfold Machine.execDamperFeedbackCheck
  extract_lets
  exact .branch hs.fin (.branch hs.wrAt.wrAt.fin (.branch hs.wrAt.wrsAt.wrAt.fin
    (.branch hs.wrAt.wrsAt.or.wrAt.wrAt.dmpFault.fin hs.wrAt.wrsAt.or.wrAt.wrsAt.fin)))

theorem execDamperBridgeOvercurrent {damper} (hs : Leads m s) : LeadsOut m (execDamperBridgeOvercurrent damper s) :=
  .branch hs.or.dmpFault.fin hs.fin

theorem execDamperOpenWinding {damper} (hs : Leads m s) : LeadsOut m (execDamperOpenWinding damper s) := .branch hs.or.dmpFault.fin hs.fin

theorem execDamperPreemptStop {damper pos} (hs : Leads m s) : LeadsOut m (execDamperPreemptStop damper pos s) :=
  .branch hs.fin (fin (.wrAt (.branch hs.dmpOut.upd.wrsAt hs.dmpOut.upd.wrAt)))

theorem dmpHomeCmd {mask} (hs : Leads m s) : Leads m (s.dmpHomeCmd mask) := .each hs fun _ _ ht => ht.wrAt

theorem dmpClear {mask} (hs : Leads m s) : Leads m (s.dmpClear mask) := .each hs fun _ _ ht => ht.wrsAt

theorem dmpCommand {d v} (hs : Leads m s) : Leads m (s.dmpCommand d v) := hs.wrAt

theorem dmpCutRefresh (hs : Leads m s) : Leads m s.dmpCutRefresh :=
  .each hs fun _ _ ht => .branch (.branch ht ht.dmpLose.dmpOut.wrsAt) (.branch ht.wrAt ht)

theorem dmpEnable (hs : Leads m s) : Leads m s.dmpEnable :=
  .each hs fun _ _ ht => .branch (.branch ht ht.dmpOut.wrsAt) (.branch ht.wrAt ht)

/-! What is kept by the fan channels (R191 to R213). -/

theorem setFan {n v} (hs : Leads m s) : Leads m (s.setFan n v) := .branch hs.wr hs.wrAt

theorem showDemand {n} (hs : Leads m s) : Leads m (s.showDemand n) := .branch hs.wr hs.wrAt

theorem setRef {v} (hs : Leads m s) : Leads m (s.setRef v) := hs.wrs

theorem fanFlag {b} (hs : Leads m s) : Leads m (s.fanFlag b) := hs.or

theorem heaterRefresh (hs : Leads m s) : Leads m s.heaterRefresh := .branch hs hs.wr.boRefresh

theorem gatesOff (hs : Leads m s) : Leads m s.gatesOff := hs.setRef.wrs

theorem fanLock {n} (hs : Leads m s) : Leads m (s.fanLock n) :=
  .heaterRefresh (.raise (.count (.fanFlag (.whenB hs.setFan fun _ hs' => hs'.gatesOff))))

theorem fanStall {n} (hs : Leads m s) : Leads m (s.fanStall n) :=
  .branch (.fanLock (.whenB hs.wrAt fun _ ht => ht.wr)) hs.wrAt.setFan.fanFlag.count.raise.heaterRefresh

theorem fanAlign (hs : Leads m s) : Leads m s.fanAlign := hs.setFan.gatesOff.count

theorem fanCoast (hs : Leads m s) : Leads m s.fanCoast := hs.setFan.gatesOff.wr

theorem fanCatch (hs : Leads m s) : Leads m s.fanCatch := .branch hs.fanCoast hs.setFan

theorem fanStart0 (hs : Leads m s) : Leads m s.fanStart0 := .branch hs (.branch hs.wr.fanCoast (.branch hs.wr.fanCatch hs.wr.fanAlign))

theorem fanStop0 (hs : Leads m s) : Leads m s.fanStop0 := hs.setFan.gatesOff.fanStart0

theorem setDuty {n v} (hs : Leads m s) : Leads m (s.setDuty n v) := hs.wrAt

theorem fanRunT {n} (hs : Leads m s) : Leads m (s.fanRunT n) := hs.setFan.wrsAt.setDuty

theorem fanStartT {n} (hs : Leads m s) : Leads m (s.fanStartT n) := .branch hs (.branch hs.fanRunT hs.setFan.setDuty.count)

theorem fanStopT {n} (hs : Leads m s) : Leads m (s.fanStopT n) := hs.setFan.setDuty.fanStartT

theorem fanOpen {n} (hs : Leads m s) : Leads m (s.fanOpen n) :=
  .branch hs (.branch (.branch hs.setDuty hs) (.branch hs.fanStopT hs.fanRunT))

theorem fanDemand {n cmd} (hs : Leads m s) : Leads m (s.fanDemand n cmd) := by
  unfold State.fanDemand
  extract_lets d t t'
  have ht : Leads m t := hs.wrAt.showDemand
  have ht' : Leads m t' := hs.wrAt.showDemand
  refine .branch hs ?_
  refine .branch (.branch ht (.branch ht.fanStop0 ht.fanStart0)) ?_
  exact .branch ht' (.branch ht'.fanStopT.heaterRefresh (.branch ht'.fanStartT (.branch ht'.setDuty ht')))

theorem fanCommand {n v} (hs : Leads m s) : Leads m (s.fanCommand n v) :=
  .branch (.branch hs hs.setDuty) (.branch (.fanDemand (.branch hs.wrAt hs)) (.branch hs.wrAt hs))

theorem execFanCatchTimeout (hs : Leads m s) : LeadsOut m (execFanCatchTimeout s) := .branch hs.fanAlign.fin hs.fin

theorem execFanAlignOpenPhase (hs : Leads m s) : LeadsOut m (execFanAlignOpenPhase s) := .branch hs.wr.fanFlag.count.fanLock.fin hs.fin

theorem execFanAlignDone (hs : Leads m s) : LeadsOut m (execFanAlignDone s) := .branch hs.setFan.setRef.wr.fin hs.fin

theorem execFanObserverConverged {speed field dirOk} (hs : Leads m s) : LeadsOut m (execFanObserverConverged speed field dirOk s) :=
  .branch hs.setFan.setRef.wr.wrI.count.fin (.branch hs.setFan.setRef.wr.wrI.count.fin hs.fin)

theorem execFanRampTimeout (hs : Leads m s) : LeadsOut m (execFanRampTimeout s) :=
  .branch hs.fin (.branch hs.fanFlag.count.gatesOff.setFan.wr.fin hs.fanFlag.count.gatesOff.fanStall.fin)

theorem execFanRetryWaitEnd (hs : Leads m s) : LeadsOut m (execFanRetryWaitEnd s) := .branch hs.fanAlign.fin hs.fin

theorem execFanStopDone (hs : Leads m s) : LeadsOut m (execFanStopDone s) := .branch hs.fanStop0.fin hs.fin

theorem fanCoastOut (hs : Leads m s) : Leads m s.fanCoastOut := .branch hs.fanStop0 hs.wr.fanCatch

theorem execFanCoastEnd (hs : Leads m s) : LeadsOut m (execFanCoastEnd s) := .branch hs.fin (.branch hs.wr.fin hs.fanCoastOut.fin)

theorem execFanStallWaitEnd {chan} (hs : Leads m s) : LeadsOut m (execFanStallWaitEnd chan s) := by
  unfold Machine.execFanStallWaitEnd
  extract_lets
  refine .branch hs.fin ?_
  exact .branch (.branch hs.fanStop0.heaterRefresh.fin hs.wr.fanCatch.heaterRefresh.fin) hs.fanStopT.heaterRefresh.fin

theorem execFanOvercurrent (hs : Leads m s) : LeadsOut m (execFanOvercurrent s) :=
  .branch hs.fin (.branch hs.wrAt.wrAt.wrAt.fanFlag.count.wr.fanLock.fin hs.wrAt.wrAt.wrAt.fanFlag.count.fanCoast.fin)

theorem execFanVdrvLow (hs : Leads m s) : LeadsOut m (execFanVdrvLow s) :=
  .branch hs.fin (.branch hs.wrs.or.fanFlag.count.fanCoast.fin hs.wrs.or.fanFlag.count.fin)

theorem execFanVdrvGood (hs : Leads m s) : LeadsOut m (execFanVdrvGood s) := .branch hs.wrs.fanCoastOut.fin hs.wrs.fin

theorem fanSyncLoss (hs : Leads m s) : Leads m s.fanSyncLoss := .branch hs.fanFlag.count.fanCoast hs

theorem execFanBootstrapLow {periods} (hs : Leads m s) : LeadsOut m (execFanBootstrapLow periods s) :=
  .branch hs.fin (.branch hs.fanFlag.fanSyncLoss.fin hs.fanFlag.fin)

theorem execFanSyncLoss (hs : Leads m s) : LeadsOut m (execFanSyncLoss s) := hs.fanSyncLoss.fin

theorem fanCutRefresh (hs : Leads m s) : Leads m s.fanCutRefresh :=
  .branch (.branch hs hs.setFan.gatesOff.fanFlag.heaterRefresh) (.branch hs.fanStop0 hs)

theorem fanOff {n} (hs : Leads m s) : Leads m (s.fanOff n) := .branch hs.setFan.gatesOff hs.setFan.setDuty

theorem fanStop {n} (hs : Leads m s) : Leads m (s.fanStop n) := .branch hs.fanStop0.fanCutRefresh hs.fanStopT

theorem fanEnable (hs : Leads m s) : Leads m s.fanEnable := by
  unfold State.fanEnable
  exact .heaterRefresh (.each hs fun _ _ ht => .branch ht.setFan (.branch (.branch ht ht.fanOff) (.branch ht.fanStop ht.fanOpen)))

theorem fanUnlock {mask} (hs : Leads m s) : Leads m (s.fanUnlock mask) := by
  unfold State.fanUnlock
  exact .heaterRefresh (.each hs fun _ _ ht => .branch (.fanStop (.branch (.each ht.wrs fun _ _ hv => hv.wrAt) ht.wrAt))
    (.fanOff (.branch (.each ht.wrs fun _ _ hv => hv.wrAt) ht.wrAt)))

theorem execFanStallCntReset {chan} (hs : Leads m s) : LeadsOut m (execFanStallCntReset chan s) :=
  .branch hs.fin (.branch hs.wr.fin hs.wrAt.fin)

theorem tachSpeed {us} (hs : Leads m s) : Leads m (s.tachSpeed us).2 := by
  unfold State.tachSpeed
  exact .branch_snd hs hs.takeFree

theorem execFanTachEdge {chan us} (hs : Leads m s) : LeadsOut m (execFanTachEdge chan us s) := by
  unfold Machine.execFanTachEdge
  extract_lets k n plausible q run t
  have ht : Leads m t := hs.tachSpeed.wrAt.wrAt
  refine .branch hs.fin ?_
  refine .branch hs.wrAt.fin ?_
  exact .branch ht.wrAt.fin (.branch ht.fin (.branch ht.fanRunT.fin (.branch ht.fanRunT.count.fin ht.fin)))

theorem execFanTachSpeedTimeout {chan} (hs : Leads m s) : LeadsOut m (execFanTachSpeedTimeout chan s) := hs.wrAt.fin

theorem execFanSpeedStep {chan} (hs : Leads m s) : LeadsOut m (execFanSpeedStep chan s) :=
  .branch hs.fin (fin (.setDuty (.wrI (.branch_snd hs hs.takeFree))))

theorem execFanTstartTimeout {chan} (hs : Leads m s) : LeadsOut m (execFanTstartTimeout chan s) :=
  .branch hs.fin hs.setFan.setDuty.fanFlag.count.fin

theorem execFanKickEnd {chan} (hs : Leads m s) : LeadsOut m (execFanKickEnd chan s) := .branch hs.fin hs.setDuty.fanStall.fin

theorem execFanTachLost {chan} (hs : Leads m s) : LeadsOut m (execFanTachLost chan s) :=
  .branch hs.fin hs.setFan.setDuty.wrsAt.fanFlag.count.raise.fin

theorem execFanAutoTableStep {chan} (hs : Leads m s) : LeadsOut m (execFanAutoTableStep chan s) :=
  .branch hs.fin (fin (.upd (.count (.whenB hs.coachGet.coachGet fun _ ht => ht.fanFlag))))

theorem fanAutoEnter (hs : Leads m s) : Leads m s.fanAutoEnter := hs.wr

theorem fanAutoLeave (hs : Leads m s) : Leads m s.fanAutoLeave := .each hs.wr fun _ _ ht => ht.fanDemand

theorem fanMeasure (hs : Leads m s) : Leads m s.fanMeasure := .branch hs.takeFree.takeFree.wr.wrI hs

theorem fanRefStep (hs : Leads m s) : Leads m s.fanRefStep :=
  .branch hs.wr (.branch hs.setRef.wr (.branch (.branch hs.setRef hs.setRef) hs.setRef))

theorem fanIntegrate (hs : Leads m s) : Leads m s.fanIntegrate := .branch hs.wrI hs

theorem fanTick (hs : Leads m s) : Leads m s.fanTick := .each hs.fanRefStep.fanMeasure.fanIntegrate.wr fun _ _ hs' => hs'.showDemand

/-! What is kept by the valve channels (R217 to R232). -/

theorem setVlv {n v} (hs : Leads m s) : Leads m (s.setVlv n v) := .whenB hs.wrAt fun _ ht => ht.wrsAt

theorem vlvMeasure {n} (hs : Leads m s) : Leads m (s.vlvMeasure n) := .branch hs (.wrsAt (.branch_snd hs.takeFree hs.takeFree.takeFree))

theorem vlvEnter {n st} (hs : Leads m s) : Leads m (s.vlvEnter n st) := .branch hs.setVlv.wrsAt hs.setVlv

theorem vlvPeakEnd {n} (hs : Leads m s) : Leads m (s.vlvPeakEnd n) := by
  unfold State.vlvPeakEnd
  split
  · exact .branch hs.vlvEnter hs
  · exact hs

theorem vlvAbortTest {n} (hs : Leads m s) : Leads m (s.vlvAbortTest n) :=
  .branch hs (.count (.whenB (.each hs fun _ _ ht => ht.wrsAt) fun _ ht => ht.wrAt))

theorem vlvStart {n} (hs : Leads m s) : Leads m (s.vlvStart n) := by
  unfold State.vlvStart
  extract_lets b t
  have ht : Leads m t := hs.vlvAbortTest.wrsAt
  refine .branch ht.setVlv ?_
  refine .branch ht.count.vlvEnter ?_
  split
  · exact .branch ht.count.setVlv.count ht.count.vlvEnter
  · exact ht.count.vlvEnter

theorem vlvResume {n} (hs : Leads m s) : Leads m (s.vlvResume n) := .branch hs.wrAt.vlvStart hs

theorem vlvStore {w} (hs : Leads m s) : Leads m (s.vlvStore w) :=
  .branch (.each hs fun _ _ ht => ht.wrAt) (.wrAt (.each hs fun _ _ ht => ht.wrAt))

theorem vlvProfile {n} (hs : Leads m s) : Leads m (s.vlvProfile n) :=
  .branch (.rgnDone (.each hs.upd fun _ _ hs' => hs'.vlvStore)) (.wrs (.each hs.upd fun _ _ hs' => hs'.vlvStore))

theorem vlvTake {n} (hs : Leads m s) : Leads m (s.vlvTake n) := .branch hs (.branch hs.vlvProfile hs.vlvProfile.wrAt.setVlv.vlvResume)

theorem vlvDrop {n st} (hs : Leads m s) : Leads m (s.vlvDrop n st) :=
  .branch (.vlvTake (.branch hs.setVlv.vlvPeakEnd hs.setVlv)) (.branch hs.setVlv.vlvPeakEnd hs.setVlv)

theorem vlvLeave {n} (hs : Leads m s) : Leads m (s.vlvLeave n) := .branch hs.wrsAt.vlvDrop hs.wrsAt.vlvDrop.vlvResume

theorem vlvExtend {n grid} (hs : Leads m s) : Leads m (s.vlvExtend n grid) := .branch hs.count.wrsAt hs.count

theorem vlvAct {n} (hs : Leads m s) : Leads m (s.vlvAct n) := by
  unfold State.vlvAct
  extract_lets
  refine .branch hs ?_
  exact .branch (.branch hs.wrAt hs.wrAt.vlvDrop) (.branch (.branch hs hs.vlvResume)
    (.branch (.branch hs.countIf.vlvDrop hs.countIf) hs.vlvExtend))

theorem vlvFollow {was : State} {n} (hs : Leads m s) : Leads m (s.vlvFollow was n) := .branch hs hs.vlvAct

theorem vlvCommand {n v} (hs : Leads m s) : Leads m (s.vlvCommand n v) := .branch hs hs.wrAt.vlvFollow

theorem vlvLatch {n st cause} (hs : Leads m s) : Leads m (s.vlvLatch n st cause) :=
  .whenB hs.wrsAt.vlvDrop.count.raise fun _ ht => ht.orAt

theorem hsShort {h' cause} (hs : Leads m s) : Leads m (s.hsShort h' cause) := .each hs.or.or fun _ _ ht => .branch ht ht.vlvLatch

theorem execValvePulseGrid {chan} (hs : Leads m s) : LeadsOut m (execValvePulseGrid chan s) :=
  .branch hs.fin (.branch (.branch hs.fin hs.vlvStart.fin) (.branch hs.vlvExtend.fin hs.fin))

theorem execValvePeakEnd {chan} (hs : Leads m s) : LeadsOut m (execValvePeakEnd chan s) :=
  .branch hs.fin (.branch hs.vlvDrop.fin hs.setVlv.vlvPeakEnd.fin)

theorem execValveHoldEnd {chan} (hs : Leads m s) : LeadsOut m (execValveHoldEnd chan s) := .branch hs.vlvDrop.fin hs.fin

theorem execValveCoilBandRead (hs : Leads m s) : LeadsOut m (execValveCoilBandRead s) :=
  .branch (fin (.each hs fun _ _ ht => ht.wrAt)) hs.fin

theorem vlvWriteCfg {n v} (hs : Leads m s) : Leads m (s.vlvWriteCfg n v) :=
  .branch (.vlvLeave (.vlvStore (.branch hs.vlvDrop hs))) (.vlvStore (.branch hs.vlvDrop hs))

theorem vlvTestStart {h'} (hs : Leads m s) : Leads m (s.vlvTestStart h') :=
  .branch hs (.whenB (.each hs fun _ _ ht => ht.wrAt) fun _ ht => ht.wrAt)

theorem execValveOffTestStart {hs'} (hs : Leads m s) : LeadsOut m (execValveOffTestStart hs' s) := hs.vlvTestStart.fin

theorem execValveOffTestDone {hs' limit low1 high2 low2} (hs : Leads m s) :
    LeadsOut m (execValveOffTestDone hs' limit low1 high2 low2 s) := by
  unfold Machine.execValveOffTestDone
  extract_lets h under served short t
  have ht : Leads m t := .each hs fun _ _ ht => .whenB (.whenB ht.wrsAt fun _ ht' => ht'.or) fun _ ht' => ht'.or
  exact .branch hs.fin (fin (.whenB ht.wrAt.count fun _ ht => ht.hsShort))

theorem execValveOpenLoadCheck {chan current} (hs : Leads m s) : LeadsOut m (execValveOpenLoadCheck chan current s) :=
  .branch hs.fin (.branch hs.wrAt.or.fin hs.wrAt.fin)

theorem execValveLowSideOvercurrent {chan} (hs : Leads m s) : LeadsOut m (execValveLowSideOvercurrent chan s) :=
  .branch hs.fin hs.wrAt.or.vlvLatch.fin

theorem execValveHighSideOvercurrent {hs' lowSum} (hs : Leads m s) : LeadsOut m (execValveHighSideOvercurrent hs' lowSum s) := by
  unfold Machine.execValveHighSideOvercurrent
  extract_lets h prev now t
  have ht : Leads m t := hs.or.count.wrAt
  refine .branch hs.fin ?_
  refine .branch (fin (.hsShort (.each hs fun _ _ ht => ht.wrAt))) ?_
  exact .branch ht.wrAt.hsShort.fin (fin (.each ht.wrAt fun _ _ ht => .branch ht.wrsAt.setVlv.vlvTake ht))

theorem execValveHsOcRestart {chan} (hs : Leads m s) : LeadsOut m (execValveHsOcRestart chan s) := .branch hs.wrAt.vlvResume.fin hs.fin

theorem vlvClear {mask} (hs : Leads m s) : Leads m (s.vlvClear mask) := .each hs fun _ _ ht => ht.wrAt.vlvLeave

theorem vlvHsClear {mask} (hs : Leads m s) : Leads m (s.vlvHsClear mask) :=
  .each hs fun _ _ ht => .each ht.wr.wrsAt.wrAt fun _ _ ht' => .branch ht'.wrAt.vlvLeave ht'

theorem vlvCutRefresh (hs : Leads m s) : Leads m s.vlvCutRefresh := by
  unfold State.vlvCutRefresh
  refine .branch (.each (.each hs fun _ _ ht => ht.wrsAt) fun _ _ ht0 => .branch ht0.wrAt ht0.wrAt.wrsAt.setVlv) ?_
  exact .each hs fun _ _ ht => ht.vlvLeave

theorem vlvSecond (hs : Leads m s) : Leads m s.vlvSecond := .each hs fun _ _ ht => ht.wrAt

/-! What is kept by the die sensors and actuator commands (R252 to R267). -/

theorem wholeOf {a b} (hs : Leads m s) : Leads m (s.wholeOf a b).2 := by
  unfold State.wholeOf
  exact .branch_snd hs hs.takeFree

theorem levelTo {f new} (hs : Leads m s) : Leads m (s.levelTo f new) := .branch hs.wr.wr.count.raise (.branch hs.wr.count hs.wr)

theorem cutRefresh (hs : Leads m s) : Leads m s.cutRefresh := hs.vlvCutRefresh.dmpCutRefresh.fanCutRefresh.boRefresh

theorem thermRefresh (hs : Leads m s) : Leads m s.thermRefresh := hs.levelTo.levelTo.levelTo.cutRefresh

theorem tsEnter {i k} (hs : Leads m s) : Leads m (s.tsEnter i k) :=
  .branch hs.orAt.wr.count.raise (.branch hs.orAt.wr.count.raise hs.orAt)

theorem tsLeave {i k} (hs : Leads m s) : Leads m (s.tsLeave i k) := .branch hs.clrAt.count.raise hs.clrAt

theorem tsStep {i x k} (hs : Leads m s) : Leads m (s.tsStep i x k) :=
  .branch hs.wrAt.wrAt.tsEnter (.branch hs.wrAt.wrAt.tsLeave hs.wrAt.wrAt)

theorem tsFeed {i x subst} (hs : Leads m s) : Leads m (s.tsFeed i x subst) :=
  .thermRefresh (.branch (.wrI (.wrsAt (.each hs fun _ _ ht => ht.tsStep))) (.wrsAt (.each hs fun _ _ ht => ht.tsStep)))

theorem setHeld {i l} (hs : Leads m s) : Leads m (s.setHeld i l) := .wrAt (.each hs fun _ _ ht => ht.wrI)

theorem tsExclude {i cause} (hs : Leads m s) : Leads m (s.tsExclude i cause) :=
  .thermRefresh (.raise (.wr (.each hs.wrsAt.setHeld.wrs.count fun _ _ ht => ht.setHeld.wrsAt)))

theorem tsRate {i x disagrees} (hs : Leads m s) : Leads m (s.tsRate i x disagrees) := .branch hs.wrsAt hs.wrsAt

theorem tsSample {s0 : State} {i x} (hs0 : Leads m s0) : Leads m (s0.tsSample i x) := by
  unfold State.tsSample
  extract_lets s' t e w dev t' held n u u'
  have hs' : Leads m s' := hs0.wrsAt.count
  have ht : Leads m t := .setHeld (.foldl hs'.wrAt fun _ _ ht => ht.tsFeed)
  have hu : Leads m u := hs'.wholeOf.wrsAt.setHeld.wrAt.count.tsRate
  have hu' : Leads m u' := .setHeld (.foldl hs'.wholeOf.wrsAt fun _ _ ht => ht.tsFeed)
  exact .branch hs0 (.branch ht.wrAt.tsFeed.tsRate (.branch (.branch hu.tsExclude hu) hu'.wrAt.tsFeed.tsRate))

theorem fastBesideFailed (hs : Leads m s) : Leads m s.fastBesideFailed := .each hs fun _ _ ht => ht.wrAt

theorem execThermalSample {sensor} (hs : Leads m s) : LeadsOut m (execThermalSample sensor s) :=
  .branch hs.fin (.branch (.branch hs.wrAt.tsSample.fin hs.fin) (.branch hs.wrAt.tsSample.fin hs.fin))

theorem execThermalFastStep (hs : Leads m s) : LeadsOut m (execThermalFastStep s) :=
  .branch hs.fin (fin (.each (.each hs fun _ _ ht => ht.wrAt.urgIssue) fun _ _ ht => by split; exacts [ht.tsFeed, ht]))

theorem execThermalNodata {sensor} (hs : Leads m s) : LeadsOut m (execThermalNodata sensor s) := .branch hs.fin hs.tsExclude.fin

theorem execThermalHoldEnd (hs : Leads m s) : LeadsOut m (execThermalHoldEnd s) :=
  .branch hs.fin (fin (.thermRefresh (.each hs.wr fun _ _ ht => .branch ht.tsLeave.count ht)))

theorem execThermalPowerEstimate {currents} (hs : Leads m s) : LeadsOut m (execThermalPowerEstimate currents s) :=
  .branch hs.fin hs.wrs.fin

theorem thermReadmit {mask} (hs : Leads m s) : Leads m (s.thermReadmit mask) :=
  .each hs fun _ _ ht => .branch ht.wr (.branch ht.wr ht.wrAt.wrAt.urgIssue)

theorem execThermReadmitResult {sensor} (hs : Leads m s) : LeadsOut m (execThermReadmitResult sensor s) := by
  unfold Machine.execThermReadmitResult
  extract_lets i t e u v
  have hv : Leads m v := .each hs.wrAt.wrAt.wrsAt.setHeld fun _ _ ht => ht.wrAt.wrAt
  exact .branch hs.fin (.branch hs.wrAt.wrAt.wr.fin hv.wrs.count.fastBesideFailed.thermRefresh.fin)

theorem learnOffsets {sums n fuel} (hs : Leads m s) : Leads m (State.learnOffsets sums n fuel s) := by
  induction fuel generalizing s with
  | zero => exact hs
  | succ fuel ih =>
    unfold State.learnOffsets
    extract_lets a t live worst
    have ht : Leads m t := .each hs fun _ _ hu => .branch hu.wrI hu.wholeOf.wrI
    exact .branch ht (ih ht.wrsAt.wrs.count.raise)

theorem actuate {kind index value} (hs : Leads m s) : Leads m (s.actuate kind index value) :=
  .branch hs.vlvCommand (.branch hs.dmpCommand (.branch hs.fanCommand hs.boCommand))

theorem execActuatorCommand {flips} (hs : Leads m s) : LeadsOut m (execActuatorCommand flips s) := by
  unfold Machine.execActuatorCommand
  split
  · exact hs.fin
  · exact .branch hs.fin (.branch hs.upd.wrAt.wrAt.actuate.fin hs.upd.fin)

theorem execActuatorCommandNack (hs : Leads m s) : LeadsOut m (execActuatorCommandNack s) := by
  unfold Machine.execActuatorCommandNack
  extract_lets
  split
  · exact hs.fin
  · exact .branch hs.fin (.branch hs.count.upd.fin hs.count.upd.or.wr.count.raise.fin)

/-! What is kept by the reads of registers (R5, R8). -/

theorem balance {us} (hs : Leads m s) : Leads m (s.balance us) := hs.wrI.wr

theorem panelSpent (hs : Leads m s) : Leads m s.panelSpent.2 := hs.takeFree

theorem panelAbandon (hs : Leads m s) : Leads m s.panelAbandon := hs.panelSpent.balance

theorem balRead (hs : Leads m s) : Leads m s.balRead.2 := by
  unfold State.balRead
  extract_lets
  exact .branch_snd hs.panelSpent hs

theorem rtcLatched {a} (hs : Leads m s) : Leads m (s.rtcLatched a).2 := by
  unfold State.rtcLatched
  exact .branch_snd hs.wr (.branch_snd hs.wr hs)

theorem readEffect {a} (hs : Leads m s) : Leads m (s.readEffect a) := by
  unfold State.readEffect
  extract_lets
  refine .branch hs.wr ?_
  refine .branch hs.rtcRun.wrs ?_
  refine .branch hs.rtcRun ?_
  refine .branch hs.rtcShow ?_
  exact .branch hs.evcShow (.branch (.each hs fun _ _ hs' => hs'.evcShow) (.branch hs.noteDue (.branch hs.ceFix hs)))

theorem pointerRead (hs : Leads m s) : Leads m s.pointerRead.2 := by
  unfold State.pointerRead
  exact .branch_snd hs hs.takeFree

theorem readWord {a} (hs : Leads m s) : Leads m (s.readWord a).2 := by
  unfold State.readWord
  extract_lets t
  have ht : Leads m t := hs.readEffect
  split
  · exact ht.rtcLatched
  · exact .branch_snd ht.pointerRead (.branch_snd ht.balRead ht)

/-! What is kept by the configuration image (R303 to R313). -/

theorem keepCal {typ a v} (hs : Leads m s) : Leads m (s.keepCal typ a v) :=
  .branch hs (.branch hs.wrAt.orAt (.branch hs.wrAt.orAt (.branch hs.wrAt.orAt (.branch hs.wrAt.orAt hs))))

theorem runWord {typ a v} (hs : Leads m s) : Leads m (s.runWord typ a v) := .each hs.keepCal fun _ _ ht => ht.wrAt

theorem runWords {t a region l} (hs : Leads m s) : LeadsExc m id (s.runWords t a region l) := by
  induction l generalizing s a with
  | nil => exact .ok hs
  | cons v l ih => exact .branch .error (.branch .error (ih hs.runWord))

theorem runs {t region fuel l} (hs : Leads m s) : LeadsExc m id (s.runs t region fuel l) := by
  induction fuel generalizing s l with
  | zero => exact .branch (.ok hs) .error
  | succ fuel ih =>
    unfold State.runs
    split
    · exact .ok hs
    · refine .branch .error ?_
      split
      · rename_i e
        exact ih (hs.runWords _ e)
      · exact .error

theorem writeGroup {p} (hs : Leads m s) : Leads m (s.writeGroup p) := .each hs fun _ _ ht => .each ht fun _ _ hu => hu.wrCoach

theorem loadDisplay {p} (hs : Leads m s) : LeadsExc m id (s.loadDisplay p) := by
  unfold State.loadDisplay
  extract_lets h word t u
  have ht : Leads m t := .each hs fun _ _ ht => .each ht fun _ _ hu => hu.wrAt
  have hu : Leads m u := .wrs (.each ht fun _ _ ht => ht.wrAt)
  exact .branch .error (.branch (.ok hu.upd) .error)

theorem loadNetwork {p} (hs : Leads m s) : LeadsExc m id (s.loadNetwork p) := by
  unfold State.loadNetwork
  split
  · exact .error
  · exact .branch (.ok (.each hs.upd fun _ _ ht => .each ht fun _ _ hu => hu.wrAt)) .error

theorem loadSection {t p region} (hs : Leads m s) : LeadsExc m id (s.loadSection t p region) := by
  unfold State.loadSection
  refine .branch (.ok hs) ?_
  refine .branch hs.runs ?_
  refine .branch (.branch (.ok hs.writeGroup) .error) ?_
  refine .branch hs.loadDisplay ?_
  exact .branch hs.loadNetwork (.branch (.branch (.ok (.each hs fun _ _ hu => hu.wrAt)) .error) (.ok hs))

theorem loadSections {i seen cov l} (hs : Leads m s) : LeadsExc m id (s.loadSections i seen cov l) := by
  induction l generalizing s i seen cov with
  | nil => exact .branch (.ok hs) .error
  | cons c l ih =>
    unfold State.loadSections
    refine .branch .error (.branch .error (.branch .error ?_))
    split
    · exact .error
    · rename_i e
      exact ih (hs.loadSection _ e)

theorem calValues (hs : Leads m s) : Leads m s.calValues := .each (.each hs fun _ _ ht => ht.wrsAt) fun _ _ hs' => hs'.reloadTrim

theorem imageDefaults (hs : Leads m s) : Leads m s.imageDefaults := .wrs (.each hs.calValues fun _ _ ht => ht.wrAt)

theorem judgeBody {body crcOk crypto} (hs : Leads m s) : LeadsExc m Prod.fst (s.judgeBody body crcOk crypto) := by
  unfold State.judgeBody
  split
  · exact .error
  · split
    · exact .error
    · rename_i e
      exact .branch .error (.branch .error (.branch (.ok (hs.loadSections _ e)) .error))

theorem judgeCopy {base crypto} (hs : Leads m s) : LeadsExc m Prod.fst (s.judgeCopy base crypto) := hs.judgeBody

/-! What is kept by IZ-30 mode (R432 to R454). -/

theorem izDrivers (hs : Leads m s) : Leads m s.izDrivers := .each hs fun _ _ ht => ht.wrAt

theorem izNative {act} (hs : Leads m s) : Leads m (s.izNative act) := by
  unfold State.izNative
  extract_lets t u
  have ht : Leads m t := .each hs fun _ _ ht => .branch ht.wrAt.settingsChanged ht.wrAt
  have hu : Leads m u := .each ht fun _ _ ht => .branch ht.wrsAt.vlvWriteCfg ht.wrsAt.wrsAt
  exact .each hu fun _ _ ht => ht.wrsAt

theorem izFixed (hs : Leads m s) : Leads m s.izFixed := by
  unfold State.izFixed
  extract_lets t u v w
  have hv : Leads m v := .each hs.wrs.wrsAt.wrsAt fun _ _ ht => .each ht.wrsAt fun _ _ ht' => ht'.wrCoach
  have hw : Leads m w := .each hv fun _ _ ht => ht.wrsAt
  exact .wrsAt (.each hw fun _ _ ht => ht.wrsAt)

theorem izMirror {m'} (hs : Leads m s) : Leads m (s.izMirror m') := .each hs fun _ _ ht => ht.wrAt

theorem izSend {o byte src} (hs : Leads m s) : Leads m (s.izSend o byte src) := .branch hs hs.count.upd

theorem izCommit {n tick e'} (hs : Leads m s) : Leads m (s.izCommit n tick e') := by
  unfold State.izCommit
  extract_lets drv t1 u v w
  have hu : Leads m u := hs.commitWords.commitFixed.wrAt.wrAt.wrAt
  have hv : Leads m v := by
    unfold v
    split
    · exact hu.wrAt.wrAt
    · exact hu
  have hw : Leads m w := .kick (.whenB hv.countAll.count fun _ ht => ht.raise)
  exact .branch (.branch hw.wrAt.izSend hw.wrAt) (.branch hw.wrAt.izSend hw.wrAt)

theorem evalIz {d env} (hs : Leads m s) : Leads m (s.evalIz d env) := by
  unfold State.evalIz
  extract_lets c t0 t1
  have ht0 : Leads m t0 := .each hs fun _ _ ht => ht.upset
  have ht1 : Leads m t1 := .resultErrors (.each ht0 fun _ _ ht => ht.eccRead)
  exact .branch ht1.vote.izCommit ht1.vote

theorem izTickOut (hs : Leads m s) : Leads m s.izTickOut :=
  .each (.each hs fun _ _ ht => .branch ht ht.izSend) fun _ _ ht => .branch ht ht.izSend

theorem ruSecond (hs : Leads m s) : Leads m s.ruSecond := .branch (.each hs fun _ _ ht => ht.wrAt) hs

theorem izReloadLoops (hs : Leads m s) : Leads m s.izReloadLoops := by
  unfold State.izReloadLoops
  exact .each hs fun _ _ ht => .branch (.wrCoach (.wrAt
    (.wrAt (.each (.each (.each ht fun _ _ ht' => ht'.wrCoach) fun _ _ ht' => ht'.wrCoach) fun _ _ ht' => ht'.wrCoach))))
      (.wrAt (.wrAt (.each (.each (.each ht fun _ _ ht' => ht'.wrCoach) fun _ _ ht' => ht'.wrCoach) fun _ _ ht' => ht'.wrCoach)))

/-! What is kept by the network as other chapters change it (R356 to R383). -/

theorem say {l} (hs : Leads m s) : Leads m (s.say l) := hs.upd

theorem hush (hs : Leads m s) : Leads m s.hush := hs.upd

theorem setTxBad {b} (hs : Leads m s) : Leads m (s.setTxBad b) := hs.upd

theorem macErr (hs : Leads m s) : Leads m s.macErr := hs.setTxBad.memErr

theorem lpiWake {n} (hs : Leads m s) : Leads m (s.lpiWake n) := hs.levelDrop

theorem txFrames {n} (hs : Leads m s) : Leads m (s.txFrames n) := hs.lpiWake.countN

theorem tx {l} (hs : Leads m s) : Leads m (s.tx l) := .say (.txFrames (.branch hs.macErr hs))

theorem scFrames (hs : Leads m s) : Leads m s.scFrames := hs.takeFree.txFrames

theorem put {port l} (hs : Leads m s) : Leads m (s.put port l) := .say (.branch hs.txFrames.levelPulse.scFrames hs.txFrames)

theorem sendFrame {port m'} (hs : Leads m s) : Leads m (s.sendFrame port m') := .branch hs.macErr (.put (by split; exacts [hs.count, hs]))

theorem waitToken {m'} (hs : Leads m s) : Leads m (s.waitToken m') := hs.upd

theorem replyFrame {port m'} (hs : Leads m s) : Leads m (s.replyFrame port m') := .branch hs.waitToken hs.sendFrame

theorem answer {port l} (hs : Leads m s) : Leads m (s.answer port l) := hs.replyFrame

theorem sendOwn {port m'} (hs : Leads m s) : Leads m (s.sendOwn port m') := .branch hs.waitToken hs.sendFrame

theorem initiate {m'} (hs : Leads m s) : Leads m (s.initiate m') := by
  unfold State.initiate
  split
  · exact hs
  · exact hs.sendOwn

theorem ipDrop (hs : Leads m s) : Leads m s.ipDrop := hs.wrs

theorem ipUse {src addr mask gw} (hs : Leads m s) : Leads m (s.ipUse src addr mask gw) := .branch hs.wrs.wr.tx hs.wrs

theorem ipProbe {src addr mask gw} (hs : Leads m s) : Leads m (s.ipProbe src addr mask gw) := hs.takeFree.wrs.tx

theorem ipSecond (hs : Leads m s) : Leads m s.ipSecond := .branch hs (.branch hs.wr hs.ipUse)

theorem ipStart (hs : Leads m s) : Leads m s.ipStart := .branch hs.ipDrop.wr.tx hs.ipDrop.ipProbe

theorem scInit (hs : Leads m s) : Leads m s.scInit := .branch hs.wrs.wr (.branch hs.wrs.wr (.branch hs.wrs.wr.or hs.wrs.wrs))

theorem scClose (hs : Leads m s) : Leads m s.scClose := .branch hs.wrs.scFrames.count hs

theorem linkDrop (hs : Leads m s) : Leads m s.linkDrop := .branch hs.wr.or.scClose.ipDrop.count.raise hs

theorem busInit {k} (hs : Leads m s) : Leads m (s.busInit k) := hs.wrsAt

theorem mbEnd (hs : Leads m s) : Leads m s.mbEnd := .each (.each hs fun _ _ ht => ht.wrsAt) fun _ _ ht => ht.wrsAt

theorem mbFlag {e'} (hs : Leads m s) : Leads m (s.mbFlag e') := hs.putBit

theorem netStop (hs : Leads m s) : Leads m s.netStop := .each hs.upd.linkDrop.mbEnd fun _ _ ht => ht.wrAt

theorem netPorts (hs : Leads m s) : Leads m s.netPorts := hs.scInit.busInit.busInit

theorem aiShow {i} (hs : Leads m s) : Leads m (s.aiShow i) := .branch hs.wrsAt hs.wrsAt

theorem netRestart (hs : Leads m s) : Leads m s.netRestart := by
  unfold State.netRestart
  extract_lets img zs zones ram avs pp run t u w
  have hw : Leads m w := .each (.each hs.upd.ipDrop.wrs.mbEnd fun _ _ ht => ht.wrAt) fun _ _ hs' => hs'.aiShow
  exact .branch hw.takeFree.wr.netPorts (.each hw.takeFree.wr.wr fun _ _ ht => ht.wrAt.busInit)

theorem patchReload (hs : Leads m s) : Leads m s.patchReload := by
  unfold State.patchReload
  extract_lets
  refine .branch hs ?_
  refine .branch hs ?_
  split
  · exact hs
  · split
    · exact hs
    · exact .each hs fun _ _ ht => ht.wrAt

theorem patchTick (hs : Leads m s) : Leads m s.patchTick := .branch (.branch hs.takeFree hs.takeFree.pathLeave.patchReload.netRestart) hs

theorem panelIdle (hs : Leads m s) : Leads m s.panelIdle := .branch hs hs.wr

theorem panelDischarge (hs : Leads m s) : Leads m s.panelDischarge := .branch hs.panelAbandon.wrs hs.panelIdle

/-! What is kept by resets (R344 to R348) and the ends of memory operations. -/

theorem dropDue {c} (hs : Leads m s) : Leads m (s.dropDue c) := hs.upd

theorem coachEnable {c} (hs : Leads m s) : Leads m (s.coachEnable c) :=
  .wrsAt (.wrCoach (.wrCoach (.each hs.dropDue fun _ _ ht => ht.wrCoach)))

theorem coachDisable {c} (hs : Leads m s) : Leads m (s.coachDisable c) := hs.dropDue.wrCoach

theorem coachPeriodChange {c was} (hs : Leads m s) : Leads m (s.coachPeriodChange c was) :=
  .branch hs.coachEnable (.branch hs.coachDisable hs)

theorem hatchApply (hs : Leads m s) : Leads m s.hatchApply := by
  unfold State.hatchApply
  extract_lets
  refine .branch (.branch (hs.setEeprom (Memory.wf_writes _)) (hs.setFlash (Memory.wf_program _))) ?_
  exact .branch (hs.setFlash (Memory.wf_erase _ _)) hs

theorem tornByte {a all} (hs : Leads m s) : Leads m (s.tornByte a all) := hs.takeFree.setFlash (Memory.wf_write _ _)

theorem hatchTorn (hs : Leads m s) : Leads m s.hatchTorn := by
  unfold State.hatchTorn
  extract_lets
  refine .branch (.branch (.each hs fun _ _ ht => ht.takeFree.setEeprom (Memory.wf_write _ _))
    (.each hs fun _ _ ht => ht.tornByte)) ?_
  exact .branch (.each hs fun _ _ ht => ht.tornByte) hs

theorem persistCut {power boot} (hs : Leads m s) : Leads m (s.persistCut power boot) := by
  unfold State.persistCut
  extract_lets
  refine .branch hs ?_
  refine .branch (.branch (.each hs fun _ _ ht => ht.tornByte) (.branch (hs.takeFree.setFlash (Memory.wf_erase _ _)) hs.takeFree))
    ?_
  exact .branch (.branch (.each hs fun _ _ ht => ht.tornByte) (.branch (hs.takeFree.setFlash (Memory.wf_program _)) hs.takeFree)) hs

/-- The end of OTP programming only sets HASH or SIGNED (R410). -/
theorem otpApply (hs : Leads m s) : Leads m s.otpApply :=
  .branch (hs.setOtp fun h => ⟨fun hm => ⟨rfl, (h.hash hm).2⟩, h.signed, h.key, h.identity⟩)
    (.branch (hs.setOtp fun h => ⟨h.hash, fun _ => rfl, h.key, h.identity⟩) hs)

theorem memoryEnd {power boot} (hs : Leads m s) : Leads m (s.memoryEnd power boot) := by
  unfold State.memoryEnd
  extract_lets t
  have ht : Leads m t := .persistCut (.branch hs (.branch hs.hatchTorn hs.hatchApply))
  exact .branch ht (.branch ht.takeFree.otpApply ht.takeFree)

theorem bootReset {cause} (hs : Leads m s) : Leads m (s.bootReset cause) := by
  have hm : Leads m (s.memoryEnd (cause == 1 || cause == 2) true) := hs.memoryEnd
  refine wrs ⟨hm.pending, fun h => ?_, hm.fuses⟩
  obtain ⟨hr, hf, he, -⟩ := hm.canonical h
  exact ⟨Store.sorted_filter _ hr, hf, he, rfl, rfl, rfl⟩

theorem rgnUnpend (hs : Leads m s) : Leads m s.rgnUnpend := .branch (.each hs fun _ _ ht => .branch ht.pokeCoach ht) hs

theorem softScan (hs : Leads m s) : Leads m s.softScan := by
  refine ⟨hs.pending, fun h => ?_, hs.fuses⟩
  obtain ⟨hr, hf, he, hv, hc, -⟩ := hs.canonical h
  exact ⟨hr, hf, he, hv, (List.length_map _).trans hc, rfl⟩

theorem occMoment (hs : Leads m s) : Leads m s.occMoment := .occFresh (.each hs fun _ _ ht => ht.wrAt)

theorem softReset {warm} (hs : Leads m s) : Leads m (s.softReset warm) := by
  unfold State.softReset
  extract_lets u t₀ t₁ t₂ t₃
  have hu : Leads m u := hs.memoryEnd.rgnUnpend
  have h₀ : Leads m t₀ := by
    refine ⟨hu.pending, fun h => ?_, hu.fuses⟩
    obtain ⟨hr, hf, he, -, hc, hl⟩ := hu.canonical h
    exact ⟨Store.sorted_filter _ hr, hf, he, List.length_replicate, hc, hl⟩
  have h₃ : Leads m t₃ := (h₀.softScan.calValues.refreshRelief.each fun _ _ ht => ht.wrAt).wrs.whenB fun _ ht => ht.wr
  exact (h₃.whenB fun _ ht => ht.wrAt).netRestart.occMoment.fastBesideFailed

theorem softEnd (hs : Leads m s) : Leads m s.softEnd := hs.wr.occMoment

/-! What is kept by the object model (R369 to R377). -/

theorem setNetObj {x} (hs : Leads m s) : Leads m (s.setNetObj x) := hs.upd

theorem setAv {a} (hs : Leads m s) : Leads m (s.setAv a) := hs.upd

theorem coachWord {c w} (hs : Leads m s) : Leads m (s.coachWord c w).2 := by
  unfold State.coachWord
  exact .branch_snd hs.coachGet.takeFree hs.coachGet

theorem coachReal {c w} (hs : Leads m s) : Leads m (s.coachReal c w).2 := hs.coachWord

theorem coachProp {c w f} (hs : Leads m s) : Leads m (s.coachProp c w f).2 := hs.coachWord

theorem loopProp {n p} (hs : Leads m s) : LeadsOpt m (s.loopProp n p) := by
  unfold State.loopProp
  split
  · exact .some hs.coachReal
  · exact .some hs.coachReal
  · exact .some hs.coachReal
  · exact .some hs.coachReal
  · exact .some hs.coachReal
  · exact .some hs.coachReal
  · exact .some hs.coachReal
  · exact .some hs.coachReal
  · exact .some hs.coachProp
  · exact .some hs.coachProp
  · exact .some hs.coachProp
  · exact .some hs.coachProp
  · exact .some hs.coachGet
  · exact .none

theorem propOf {r} (hs : Leads m s) : LeadsOpt m (s.propOf r) := by
  unfold State.propOf
  extract_lets
  split
  · exact .map fun _ => hs
  · exact .map fun _ => hs
  · exact .map fun _ => hs
  · exact .map fun _ => hs
  · exact .map fun _ => hs
  · split
    · rename_i e
      exact .some (hs.loopProp _ e)
    · exact .map fun _ => hs
  · exact .map fun _ => hs
  · exact .map fun _ => hs
  · exact .map fun _ => hs
  · exact .map fun _ => hs
  · exact .map fun _ => hs
  · exact .map fun _ => hs
  · exact .none

theorem readProp {r} (hs : Leads m s) : LeadsExc m Prod.snd (s.readProp r) := by
  unfold State.readProp
  extract_lets
  refine .branch .error ?_
  refine .branch .error ?_
  split
  · rename_i e
    exact .ok (hs.propOf _ e)
  · exact .ok hs.takeFree

theorem changeSeen {old new} (hs : Leads m s) : Leads m (s.changeSeen old new).2 := by
  unfold State.changeSeen
  extract_lets
  refine .branch_snd hs ?_
  split
  · exact hs.takeFree
  · exact hs

theorem covCheck {c} (hs : Leads m s) : Leads m (s.covCheck c) := by
  unfold State.covCheck
  refine .branch hs ?_
  split
  · exact hs
  · rename_i e
    exact .branch (hs.propOf _ e).changeSeen.upd.initiate (hs.propOf _ e).changeSeen

theorem notify {m'} (hs : Leads m s) : Leads m (s.notify m') := .initiate (.branch hs.takeFree.initiate hs.takeFree)

theorem notifyClass {cls m'} (hs : Leads m s) : Leads m (s.notifyClass cls m') := .branch hs (.each hs fun _ _ ht => ht.notify)

theorem trendAdd {k v} (hs : Leads m s) : Leads m (s.trendAdd k v) := .branch hs.upd.notifyClass hs.upd

theorem trendCheck {k} (hs : Leads m s) : Leads m (s.trendCheck k) := by
  unfold State.trendCheck
  extract_lets
  split
  · exact hs
  · refine .branch hs ?_
    split
    · exact hs
    · rename_i e
      split
      · exact (hs.propOf _ e).trendAdd
      · exact .branch (hs.propOf _ e).changeSeen.trendAdd (hs.propOf _ e).changeSeen

theorem covAge (hs : Leads m s) : Leads m s.covAge := hs.upd

theorem netSecond (hs : Leads m s) : Leads m s.netSecond :=
  .branch hs (.each (.each hs.ipSecond.covAge fun _ _ ht => ht.wrAt) fun _ _ ht => ht.wrAt)

theorem covTick (hs : Leads m s) : Leads m s.covTick :=
  .branch hs (.each (.branch (.each hs fun _ _ hs' => hs'.covCheck) hs) fun _ _ hs' => hs'.trendCheck)

/-! What is kept by the wheel tick, modes and evaluations (R47, R48, R337 to R340). -/

theorem manLeave (hs : Leads m s) : Leads m s.manLeave :=
  .boRefresh (.each (.each (.each hs fun _ _ ht => ht.wrAt.vlvFollow) fun _ _ ht => ht.wrAt) fun _ _ ht => ht.wrAt)

theorem closeInits (hs : Leads m s) : Leads m s.closeInits := .each hs fun _ _ ht => ht.wrAt

theorem svcMark (hs : Leads m s) : Leads m s.svcMark := .each (.each hs fun _ _ ht => ht.wrAt) fun _ _ ht => ht.wrAt

theorem releaseZones (hs : Leads m s) : Leads m s.releaseZones := .branch (.upd (.each hs fun _ _ ht => ht.wrAt.zoneApply)) hs

theorem setMode {m'} (hs : Leads m s) : Leads m (s.setMode m') := by
  unfold State.setMode
  extract_lets old t u
  have hu : Leads m u := .branch hs.wrs.raise.manLeave.closeInits.sysAbort (.branch hs.wrs.raise.fanAutoLeave hs.wrs.raise)
  exact .panelIdle (.branch hu.wr.releaseZones.fanAutoEnter (.branch hu.svcMark hu))

theorem autoTick (hs : Leads m s) : Leads m s.autoTick := .branch hs.setMode (.branch hs.setMode hs)

theorem wake {last} (hs : Leads m s) : Leads m (s.wake last) := .wr (.branch hs.setMode hs.wr)

theorem wakeTick (hs : Leads m s) : Leads m s.wakeTick := .wrs (.branch (by split; exacts [hs.wake, hs]) hs)

theorem modeCmdTick (hs : Leads m s) : Leads m s.modeCmdTick := by
  unfold State.modeCmdTick
  extract_lets c t v u
  have hu : Leads m u := .branch (.branch hs.wrs.setMode.setMode hs.wrs.setMode)
    (.branch hs.wrs.setMode (.branch hs.wrs.setMode hs.wrs.wake))
  exact .branch hs (.branch hs.wrs.wr hu.wr)

theorem dueTick (hs : Leads m s) : Leads m s.dueTick := .branch hs.wr.countIf.upd.kick hs.wr.countIf.upd

theorem ageTick (hs : Leads m s) : Leads m s.ageTick := .each (.each hs fun _ _ ht => ht.wrAt) fun _ _ ht => ht.wrAt

theorem timer {f} (hs : Leads m s) : Leads m (s.timer f) := .branch hs.wr hs

theorem secondTimers (hs : Leads m s) : Leads m s.secondTimers := by
  unfold State.secondTimers
  extract_lets t u
  have hu : Leads m u := .branch hs.vlvSecond.timer.wr hs.vlvSecond
  exact .ruSecond (.netSecond (.branch hu.timer hu))

theorem msTimers (hs : Leads m s) : Leads m s.msTimers := by
  unfold State.msTimers
  extract_lets t u v
  have ht : Leads m t := .branch hs.timer hs
  have hv : Leads m v := .each ht.timer.wr fun _ _ ht => ht.wrAt
  exact .branch hv.wr hv

theorem wheelTick (hs : Leads m s) : Leads m s.wheelTick := by
  unfold State.wheelTick
  extract_lets t0 t1 t2 t3 t4
  have ht0 : Leads m t0 := .branch hs.wr hs.wrs
  have hmodes : Leads m t0.ageTick.dueTick.autoTick.wakeTick.modeCmdTick := ht0.ageTick.dueTick.autoTick.wakeTick.modeCmdTick
  have ht3 : Leads m t3 := .each hmodes.msTimers.pollTick.scanTick.healthTick.boTick.fanTick.dmpTick fun _ _ ht => ht.vlvMeasure
  have ht4 : Leads m t4 := .branch ht3.izTickOut ht3.patchTick.covTick
  exact .wr (.evcTick (.branch ht4.secondTimers ht4))

theorem execPeriodWheelTick (hs : Leads m s) : LeadsOut m (execPeriodWheelTick s) := .branch hs.fin (.branch hs.wr.fin hs.wheelTick.fin)

theorem execSoftResetResume (hs : Leads m s) : LeadsOut m (execSoftResetResume s) :=
  .branch (fin (.each hs.wr.softEnd fun _ _ ht => ht.wheelTick)) hs.fin

theorem rgnAfter {c} (hs : Leads m s) : Leads m (s.rgnAfter c) := .branch hs (.branch hs.wr (.branch (.branch hs.rgnDone hs.wr) hs))

theorem evalHead {env} (hs : Leads m s) : Leads m (s.evalHead env) := by
  unfold State.evalHead
  split
  · exact hs
  · exact .branch hs (.branch hs.upd (.rgnAfter (.branch hs.upd.evalIz hs.upd.evalNative)))

theorem execCoachEvaluation {env} (hs : Leads m s) : LeadsOut m (execCoachEvaluation env s) := hs.evalHead.fin

theorem execLaneTimeout {lane env} (hs : Leads m s) : LeadsOut m (execLaneTimeout lane env s) := by
  unfold Machine.execLaneTimeout
  split
  · exact hs.fin
  · exact hs.evalHead.fin

/-! What is kept by the clocks, supplies and asserted resets (R18 to R24, R332 to R346). -/

theorem assertReset {cause} (hs : Leads m s) : Leads m (s.assertReset cause) := .branch hs (.branch hs.wrs hs.bootReset)

theorem fallbackEnter (hs : Leads m s) : Leads m s.fallbackEnter := .branch hs hs.wr.raise.netStop.calAbandonAll

theorem auditStep {xtal pll} (hs : Leads m s) : Leads m (s.auditStep xtal pll) := by
  unfold State.auditStep
  extract_lets
  refine .branch hs ?_
  refine .branch hs.wr ?_
  exact .branch (.branch hs.wr.wr (.fallbackEnter (.whenB (.whenB hs.wr.wr fun _ hu => hu.wr) fun _ hu => hu.wr))) hs.wr.wr

theorem execAuditWindow {xtalEdges pllEdges} (hs : Leads m s) : LeadsOut m (execAuditWindow xtalEdges pllEdges s) :=
  hs.auditStep.fin

theorem execPllLockLoss (hs : Leads m s) : LeadsOut m (execPllLockLoss s) := .branch hs.fin (fin (.branch hs.wrs.fallbackEnter hs.wrs))

theorem fallbackEnd (hs : Leads m s) : Leads m s.fallbackEnd :=
  .branch hs.wrs.raise.assertReset (.whenB (.whenB hs.wrs.raise fun _ hs' => hs'.netPorts) fun _ hv => hv.busInit)

theorem execClockFallbackReturn (hs : Leads m s) : LeadsOut m (execClockFallbackReturn s) :=
  .branch hs.fin (.branch (fin (.each hs.fallbackEnd fun _ _ hu => hu.calDue)) hs.fallbackEnd.fin)

theorem execAuditOscFail (hs : Leads m s) : LeadsOut m (execAuditOscFail s) := .branch hs.fin hs.wrs.raise.fin

theorem execAuditOscReturn (hs : Leads m s) : LeadsOut m (execAuditOscReturn s) := .branch hs.wr.fin hs.fin

theorem execWatchdogExpiry (hs : Leads m s) : LeadsOut m (execWatchdogExpiry s) := .branch hs.assertReset.fin hs.fin

theorem execResetNAssert (hs : Leads m s) : LeadsOut m (execResetNAssert s) := hs.assertReset.fin

theorem execBrownOut (hs : Leads m s) : LeadsOut m (execBrownOut s) := hs.assertReset.fin

theorem execPowerOn {below180} (hs : Leads m s) : LeadsOut m (execPowerOn below180 s) :=
  .branch (fin (.branch hs.wrs.upd hs.wrs)) (.branch (fin (.branch hs.assertReset.upd hs.assertReset)) hs.fin)

theorem execBackupSwitchVbat {vbat} (hs : Leads m s) : LeadsOut m (execBackupSwitchVbat vbat s) :=
  .branch hs.fin (.branch hs.count.stamp.wr.wrs.upd.fin hs.count.stamp.wr.fin)

theorem supplyBad {f k cause} (hs : Leads m s) : Leads m (s.supplyBad f k cause) := .whenB hs.wr.or fun _ ht => ht.raise

theorem execEarlyWarning (hs : Leads m s) : LeadsOut m (execEarlyWarning s) := .branch hs.fin hs.supplyBad.panelDischarge.fin

theorem execEarlyWarningClear (hs : Leads m s) : LeadsOut m (execEarlyWarningClear s) := .branch hs.fin hs.wr.panelIdle.fin

theorem execVddaUv (hs : Leads m s) : LeadsOut m (execVddaUv s) :=
  .branch hs.fin (hs.supplyBad.calAbandonAll.setConvs (List.length_map _)).refreshRelief.fin

theorem execVddaUvClear (hs : Leads m s) : LeadsOut m (execVddaUvClear s) :=
  .branch hs.fin (fin (.refreshRelief (.each (hs.wrs.setConvs (List.length_map _)) fun _ _ hv => .branch hv.wrAt hv)))

theorem execVmFault {ov} (hs : Leads m s) : LeadsOut m (execVmFault ov s) := .branch hs.fin hs.supplyBad.cutRefresh.fin

theorem execVmFaultClear {ov} (hs : Leads m s) : LeadsOut m (execVmFaultClear ov s) := .branch hs.fin hs.wr.cutRefresh.fin

theorem repairWith {c l} (hs : Leads m s) : Leads m (s.repairWith c l) := by
  unfold State.repairWith
  extract_lets s' t u v
  have hs' : Leads m s' := .whenB hs fun _ hu => hu.wrCoach
  have ht : Leads m t := .each hs' fun _ _ ht => ht.wrCoach
  have hu : Leads m u := ht.coachEnable.wrCoach
  have hv : Leads m v := .branch hu.wrCoach hu
  exact hv.wrs

theorem execSupvRepairDone {readable} (hs : Leads m s) : LeadsOut m (execSupvRepairDone readable s) := by
  unfold Machine.execSupvRepairDone
  refine .branch hs.fin ?_
  split
  · exact hs.pathLeave.wrs.fin
  · exact hs.pathLeave.repairWith.fin

/-! What is kept by BOOT (R311 to R316). -/

theorem bootStart {env} (hs : Leads m s) : Leads m (s.bootStart env) := by
  unfold State.bootStart
  extract_lets o strap good t i2c u l v w x
  have ht : Leads m t := hs.setOtp fun h => ⟨h.hash, h.signed, h.key, h.identity⟩
  have hw : Leads m w := (ht.wrs.whenB fun _ hx => hx.raise).seatLanes.or.whenB fun _ hx => hx.backupReset
  have hx : Leads m x := .branch (hw.setEeprom (Memory.wf_writes _)) (hw.setFlash (Memory.wf_writes _))
  exact .branch hx hx.wr.memErr

theorem bootRej {c r} (hs : Leads m s) : Leads m (s.bootRej c r) := hs.wrsAt

theorem bootHeaders {answers} (hs : Leads m s) : Leads m (s.bootHeaders answers) := .each hs fun _ _ ht => .branch ht.wrAt ht.bootRej

theorem bootJudge {c} (hs : Leads m s) : LeadsExc m Prod.fst (s.bootJudge c) := hs.imageDefaults.judgeCopy

theorem bootTried {l} (hs : Leads m s) : Leads m (s.bootTried l) := .each hs fun _ _ ht => ht.bootRej.wr

/-- Lean derives no equations for `State.bootCopies`, since it evaluates the judgement of a copy on the way; so they are taken from the
recursion itself. -/
theorem bootCopies_of_ok {u : State} {tried c l sig} (h : s.bootJudge c = .ok (u, sig)) : s.bootCopies tried (c :: l) =
    ((u.wrs [(Reg.BOOT_STAT_COPY, c), (Reg.BOOT_STAT_SIG_OK, b2n sig)]).bootTried tried, true) := by
  delta State.bootCopies
  dsimp only [List.brecOn, List.brecOn.go, State.bootCopies._f]
  rw [h]

theorem bootCopies_of_error {tried c l r} (h : s.bootJudge c = .error r) :
    s.bootCopies tried (c :: l) = s.bootCopies (tried ++ [(c, r)]) l := by
  delta State.bootCopies
  dsimp only [List.brecOn, List.brecOn.go, State.bootCopies._f]
  rw [h]

theorem bootCopies {tried l} (hs : Leads m s) : Leads m (s.bootCopies tried l).1 := by
  induction l generalizing tried with
  | nil => exact (show Leads m (s.bootTried tried) from hs.bootTried)
  | cons c l ih =>
    cases e : s.bootJudge c with
    | ok r =>
      have hr : Leads m r.1 := hs.bootJudge r e
      rw [bootCopies_of_ok e]
      exact hr.wrs.bootTried
    | error r =>
      rw [bootCopies_of_error e]
      exact ih

theorem bootFlash {answers} (hs : Leads m s) : Leads m (s.bootFlash answers).1 := by
  unfold State.bootFlash
  extract_lets order r
  have hr : Leads m r.1 := hs.bootHeaders.bootCopies
  exact .branch_fst hr hr.imageDefaults.wrs

theorem bootEeprom {answers} (hs : Leads m s) : Leads m (s.bootEeprom answers).1 := by
  unfold State.bootEeprom
  split
  · exact hs.imageDefaults.bootRej.wr
  · exact hs.imageDefaults.izFixed.izMirror.izNative.wr.wrAt.izDrivers

theorem bootCalFail {k reason} (hs : Leads m s) : Leads m (s.bootCalFail k reason) := .branch hs.wr.calRecord hs.wr.wrsAt

theorem applySet {k l} (hs : Leads m s) : Leads m (s.applySet k l) := .branch hs.applyTaps hs.wrAt

theorem bootCal {k b} (hs : Leads m s) : Leads m (s.bootCal k b) := by
  unfold State.bootCal
  split
  · exact .branch hs.wrAt.bootCalFail (.branch hs.wrAt.bootCalFail (.branch hs.wrAt.applySet.calRecord hs.wrAt.applySet.wrsAt))
  · exact hs.bootCalFail

theorem bootCoaches (hs : Leads m s) : Leads m s.bootCoaches := .each hs fun _ _ ht => .branch ht.wrCoach ht.wrCoach.coachEnable.wrAt

theorem bootUnits {mode} (hs : Leads m s) : Leads m (s.bootUnits mode) := by
  unfold State.bootUnits
  extract_lets t v
  have hv : Leads m v := .each (.dmpEnable (.each hs.wr.bootCoaches fun _ _ hs' => hs'.vlvLeave)) fun _ _ hu => .branch hu.wrAt hu
  exact hv.fanEnable.boRefresh.schedStart

theorem selectsClear (hs : Leads m s) : Leads m s.selectsClear := hs.wrs

theorem bootMeasure {env} (hs : Leads m s) : Leads m (s.bootMeasure env) :=
  .thermRefresh (.fastBesideFailed (.learnOffsets (.branch hs (.each hs fun _ _ hv => hv.bootCal))))

theorem bootEnd {env} (hs : Leads m s) : Leads m (s.bootEnd env) :=
  .occMoment (.panelIdle (.netRestart (.compOff (.wr (.each hs.selectsClear.wrs fun _ _ hv => hv.wrAt)))))

theorem bootSupplies {m'} (hs : Leads m s) : Leads m (s.bootSupplies m') :=
  .branch (.setConvs (.wrs (.branch hs.takeFree.wr hs)) (List.length_map _)) (.wrs (.branch hs.takeFree.wr hs))

theorem boot {env} (hs : Leads m s) : Leads m (s.boot env) := by
  unfold State.boot
  extract_lets t r
  have hr : Leads m r.1 := .branch_fst hs.bootStart.bootEeprom hs.bootStart.bootFlash
  exact hr.bootMeasure.bootSupplies.bootUnits.bootEnd.refreshRelief.cutRefresh

theorem execBootResetRelease {env} (hs : Leads m s) : LeadsOut m (execBootResetRelease env s) := .branch hs.boot.fin hs.fin

/-! What is kept by region updates (R318 to R324). -/

theorem wrPend {c cmd} (hs : Leads m s) : Leads m (s.wrPend c cmd) := hs.pokeCoach

theorem pendCmd {c cmd} (hs : Leads m s) : Leads m (s.pendCmd c cmd) := hs.wrPend.wrAt

theorem restoreCoach {p} (hs : Leads m s) : Leads m (s.restoreCoach p) :=
  .branch hs (.branch (.branch hs hs.pendCmd) (.branch hs.pendCmd hs))

theorem rgnDiscard {result reason code} (hs : Leads m s) : Leads m (s.rgnDiscard result reason code) :=
  .rgnEnd (.branch hs (.each hs fun _ _ ht => .branch (.branch ht.restoreCoach (.branch ht.wrPend ht)) ht))

theorem stageWrite {src first data} (hs : Leads m s) : Leads m (s.stageWrite src first data) :=
  .branch hs.wr (.wr (.each (.wrs (.branch hs.rgnDiscard hs)) fun _ _ hv => hv.wrAt))

theorem rgnStart (hs : Leads m s) : Leads m s.rgnStart := .branch hs.wr hs.wr.count

theorem rgnAbort (hs : Leads m s) : Leads m s.rgnAbort :=
  .branch hs.wr (.branch hs (.branch (.branch hs.rgnDiscard (.branch hs hs.upd)) hs.rgnDiscard))

theorem selectsOf {t : State} (hs : Leads m s) : Leads m (s.selectsOf t) := hs.wrs

theorem loadRegion {t p} (hs : Leads m s) : LeadsExc m id (s.loadRegion t p) := by
  unfold State.loadRegion
  split
  · rename_i e
    exact .ok (hs.loadSection _ e).selectsOf
  · exact .error

theorem withUpdate (hs : Leads m s) : Leads m s.withUpdate := by
  unfold State.withUpdate
  refine .branch ?_ ?_
  · split
    · rename_i e
      exact (hs.loadRegion _ e)
    · exact hs
  · exact hs

theorem valveApply {takes} (hs : Leads m s) : Leads m (s.valveApply takes) := .branch hs.rgnDone (.each hs fun _ _ hs' => hs'.vlvTake)

theorem rgnQueue (hs : Leads m s) : Leads m s.rgnQueue := by
  unfold State.rgnQueue
  extract_lets t d g rec' src
  have hsrc : Leads m src := .each hs.wr fun _ _ hv => hv.coachGet
  exact .branch (.branch hs.wr.rgnDone (.wr (.each hsrc.upd fun _ _ hv => hv.pendCmd))) (.branch hs.wr.upd.wr.valveApply hs.wr)

theorem execRegionValidationDone {memOk} (hs : Leads m s) : LeadsOut m (execRegionValidationDone memOk s) := by
  unfold Machine.execRegionValidationDone
  extract_lets t
  have ht : Leads m t := .whenB (.branch hs hs.memErr) fun _ hu => hu.levelPulse
  exact .branch hs.fin (.branch ht.wr.rgnQueue.fin ht.rgnEnd.fin)

theorem netObjects {was : State} (hs : Leads m s) : Leads m (s.netObjects was) := .each hs.upd fun _ _ hu => .branch hu hu.setAv

theorem busRestart {k mstp} (hs : Leads m s) : Leads m (s.busRestart k mstp) :=
  .busInit (.branch (.upd (.each hs fun _ _ ht => ht.wrsAt.mbFlag)) (.each hs fun _ _ ht => ht.wrsAt.mbFlag))

theorem supRetime (hs : Leads m s) : Leads m s.supRetime := .branch hs.wrs (.branch hs hs.wr)

theorem netChanged {was : State} (hs : Leads m s) : Leads m (s.netChanged was) := by
  unfold State.netChanged
  extract_lets ram t u
  have hram : Leads m ram := hs.netObjects
  have ht : Leads m t := .branch hram (.branch hram.linkDrop.scInit (.branch hram.scClose.scInit hram))
  have hu : Leads m u := .branch ht.wr (.branch ht.wrs (.branch ht.supRetime ht))
  exact .each hu fun _ _ hv => .branch hv.busRestart hv

theorem regionStep {u : State} {t p} (hu : Leads m u) : Leads m (s.regionStep u t p) := by
  unfold State.regionStep
  extract_lets
  refine .branch (.rgnDone (.schedRefresh (.each hu fun _ _ hs' => hs'.schedFresh))) ?_
  refine .branch (.rgnDone (.panelIdle (.branch hu.wr.panelDischarge hu.wr))) ?_
  exact .branch hu.netChanged.rgnDone (.branch hu.fanEnable.rgnDone hu.rgnDone)

theorem execRegionApply {memOk} (hs : Leads m s) : LeadsOut m (execRegionApply memOk s) := by
  unfold Machine.execRegionApply
  extract_lets
  refine .branch hs.fin ?_
  refine .branch hs.memErr.rgnDiscard.fin ?_
  refine .branch hs.valveApply.fin ?_
  split
  · exact hs.rgnDiscard.fin
  · rename_i e
    exact .branch (hs.loadRegion _ e).wrs.fin (hs.loadRegion _ e).regionStep.fin

theorem groupWrite {p} (hs : Leads m s) : Leads m (s.groupWrite p) := by
  unfold State.groupWrite
  extract_lets t u v
  have hu : Leads m u := .each hs.writeGroup fun _ _ hv => hv.coachPeriodChange
  have hv : Leads m v := .each hu fun _ _ hs' => hs'.restoreCoach
  exact .branch hv.upd.rgnDone hv.upd.wrs

theorem execCoachGroupWrite {memOk} (hs : Leads m s) : LeadsOut m (execCoachGroupWrite memOk s) :=
  .branch hs.fin (.branch (fin (.groupWrite (.branch hs hs.memErr))) (fin (.rgnDiscard (.branch hs hs.memErr))))

/-! What is kept by persists (R325 to R327). -/

theorem persistEnd {result reason code} (hs : Leads m s) : Leads m (s.persistEnd result reason code) := hs.pathLeave.wrs.countIf.raise

theorem persistCmd {cmd} (hs : Leads m s) : Leads m (s.persistCmd cmd) := by
  unfold State.persistCmd
  extract_lets
  refine .branch hs ?_
  refine .branch hs.wr.count ?_
  refine .branch (.branch hs.wrs.pathJoin hs) ?_
  refine .branch (.branch hs.wr.pathJoin hs) ?_
  exact .branch (hs.setFlash (Memory.wf_erase _ _)).persistEnd (.branch hs.persistEnd hs)

theorem persistRun (hs : Leads m s) : Leads m s.persistRun :=
  .branch hs (.branch hs.takeFree (.branch (.branch hs.takeFree.wr hs.takeFree) (.branch hs.takeFree.wr hs.takeFree)))

theorem execPersistOpenDone {memOk} (hs : Leads m s) : LeadsOut m (execPersistOpenDone memOk s) := by
  unfold Machine.execPersistOpenDone
  extract_lets
  refine .branch hs.fin ?_
  exact .branch hs.persistEnd.fin (.branch hs.persistEnd.fin (hs.setFlash (Memory.wf_erase _ _)).wr.pathLeave.fin)

theorem execPersistCommitDone {memOk} (hs : Leads m s) : LeadsOut m (execPersistCommitDone memOk s) := by
  unfold Machine.execPersistCommitDone
  extract_lets s'
  have hs' : Leads m s' := .whenB hs fun _ hu => hu.levelPulse
  refine .branch hs.fin ?_
  exact .branch hs'.persistEnd.fin (.branch (hs'.setFlash (Memory.wf_program _)).wr.persistEnd.fin
    (fin (.persistEnd (.each hs' fun _ _ ht => ht.tornByte))))

/-! What is kept by coach commands, locks and doors (R63 to R71, R397). -/

theorem coachCmd {c cmd} (hs : Leads m s) : Leads m (s.coachCmd c cmd) := .wrs (.whenB hs fun _ ht => ht.pendCmd)

/-! What is kept by the network below the object model (R355 to R382). -/

theorem scFresh (hs : Leads m s) : Leads m s.scFresh := .branch hs.wrs.wr hs.wrs

theorem execLinkUp {partner24 eee sqi} (hs : Leads m s) : LeadsOut m (execLinkUp partner24 eee sqi s) :=
  .branch hs.fin hs.hush.wrs.count.ipStart.scFresh.fin

theorem execLinkDown (hs : Leads m s) : LeadsOut m (execLinkDown s) := hs.hush.linkDrop.fin

theorem dhcpOffer (hs : Leads m s) : Leads m s.dhcpOffer := .branch hs hs.tx

theorem dhcpLease {addr mask gw dns} (hs : Leads m s) : Leads m (s.dhcpLease addr mask gw dns) :=
  .branch hs (.branch hs.count.wr.wrs (.ipProbe (.branch hs.count.wr.scClose.ipDrop hs.count.wr)))

theorem bvllResult {ok} (hs : Leads m s) : Leads m (s.bvllResult ok) := .branch hs (.branch hs.wr.count hs.wr.count)

theorem ethLoad {l} (hs : Leads m s) : Leads m (s.ethLoad l) := by
  unfold State.ethLoad
  extract_lets
  split
  · exact hs
  · exact .branch hs.tx hs
  · exact .branch hs.tx hs
  · exact hs.dhcpOffer
  · exact hs.dhcpLease
  · exact .branch hs.bvllResult hs
  · exact .branch hs.tx hs
  · exact .branch hs.levelPulse.scFrames hs
  · exact .branch hs.takeFree.wr hs

theorem execEthFrameRx {frame} (hs : Leads m s) : LeadsOut m (execEthFrameRx frame s) := by
  unfold Machine.execEthFrameRx
  extract_lets t
  have ht : Leads m t := .lpiWake (.branch hs.hush hs.hush.setTxBad)
  refine .branch hs.fin ?_
  exact .branch ht.count.fin (.branch ht.memErr.count.fin (.branch ht.fin (fin (.whenB ht.count fun _ hu => hu.ethLoad))))

theorem dhcpAgain (hs : Leads m s) : Leads m s.dhcpAgain := hs.wr.tx

theorem execDhcpTimer {tick} (hs : Leads m s) : LeadsOut m (execDhcpTimer tick s) := by
  unfold Machine.execDhcpTimer
  extract_lets
  refine .branch hs.fin ?_
  split
  · exact hs.hush.tx.fin
  · exact hs.hush.scClose.ipDrop.dhcpAgain.fin
  · exact .branch hs.fin (.branch hs.hush.or.ipProbe.fin hs.hush.or.dhcpAgain.fin)
  · exact hs.fin

theorem ipConflict (hs : Leads m s) : Leads m s.ipConflict :=
  .branch hs.count.or.scClose.ipDrop.tx.dhcpAgain hs.count.or.scClose.ipDrop.wr

theorem execIpConflict (hs : Leads m s) : LeadsOut m (execIpConflict s) := .branch hs.fin hs.hush.ipConflict.fin

theorem execStaticReprobe {answered} (hs : Leads m s) : LeadsOut m (execStaticReprobe answered s) :=
  .branch hs.fin (.branch hs.hush.tx.ipConflict.fin hs.hush.tx.ipUse.fin)

theorem execFdrTimer {failed} (hs : Leads m s) : LeadsOut m (execFdrTimer failed s) :=
  .branch hs.fin (.branch hs.hush.wr.count.fin hs.hush.wr.tx.fin)

theorem scReach {k} (hs : Leads m s) : Leads m (s.scReach k).2 := by
  unfold State.scReach
  refine .branch_snd ?_ ?_
  · split
    · exact hs
    · exact hs
    · exact .branch_snd hs hs.tx
  · exact hs

theorem scAlert {c} (hs : Leads m s) : Leads m (s.scAlert c) := hs.wr.count.or

theorem scTry {k t} (hs : Leads m s) : Leads m (s.scTry k t).2 := by
  unfold State.scTry
  extract_lets r u
  have hu : Leads m u := hs.scReach.scFrames.tx.levelPulse.wr
  refine .branch_snd hs.scReach ?_
  split
  · exact hs.scReach.scFrames
  · exact hu.scAlert
  · exact .branch_snd hu.tx hu.takeFree.scAlert

theorem scWait (hs : Leads m s) : Leads m s.scWait := hs.wrs

theorem scPrimary (hs : Leads m s) : Leads m s.scPrimary := hs.countIf.wrs.count

theorem scFailover {t} (hs : Leads m s) : Leads m (s.scFailover t) := .branch hs.scTry.wr.count.count.or.scWait hs.scTry.wr.scWait

theorem execScConnectAttempt {primary failover} (hs : Leads m s) : LeadsOut m (execScConnectAttempt primary failover s) := by
  unfold Machine.execScConnectAttempt
  extract_lets
  exact .branch hs.fin (.branch hs.hush.wr.scFailover.fin
    (.branch hs.hush.wr.scTry.scPrimary.fin (.branch hs.hush.wr.scTry.scWait.fin hs.hush.wr.scTry.scFailover.fin)))

theorem execScConnectionLost (hs : Leads m s) : LeadsOut m (execScConnectionLost s) := .branch hs.fin hs.hush.scClose.wr.fin

theorem execScHeartbeatDue (hs : Leads m s) : LeadsOut m (execScHeartbeatDue s) := .branch hs.fin hs.hush.levelPulse.scFrames.tx.count.fin

/-- R363: a key is made only where none is programmed. -/
theorem execScKeyGeneration {random} (hs : Leads m s) : LeadsOut m (execScKeyGeneration random s) := by
  unfold Machine.execScKeyGeneration
  split
  · exact hs.fin
  · rename_i hc
    extract_lets d p src o t
    have ht : Leads m t := hs.hush.setOtp fun _ =>
      ⟨hs.fuses.hash, hs.fuses.signed, fun hm => absurd (Or.inr (Or.inr (hs.fuses.key hm).1)) hc, hs.fuses.identity⟩
    exact ht.scInit.fin

theorem busFlag {k b} (hs : Leads m s) : Leads m (s.busFlag k b) := hs.orAt

theorem tokenSend {k} (hs : Leads m s) : Leads m (s.tokenSend k) := .each hs.upd fun _ _ ht => ht.sendFrame

theorem tokenPass {k} (hs : Leads m s) : Leads m (s.tokenPass k) := hs.wrAt.say

theorem execMstpFrame {bus frame} (hs : Leads m s) : LeadsOut m (execMstpFrame bus frame s) := by
  unfold Machine.execMstpFrame
  extract_lets
  refine .branch hs.hush.busFlag.fin ?_
  refine .branch hs.hush.busFlag.fin ?_
  refine .branch hs.fin ?_
  split
  · exact hs.hush.wrsAt.count.tokenSend.fin
  · exact .branch hs.hush.tokenPass.fin hs.fin
  · exact hs.hush.busFlag.count.fin
  · exact hs.hush.busFlag.count.fin
  · exact hs.hush.busFlag.count.fin
  · exact hs.hush.upd.say.fin
  · exact hs.hush.fin
  · exact .branch hs.hush.fin (.branch hs.hush.tokenPass.fin hs.hush.wrAt.tokenSend.fin)

theorem execMstpNoToken {bus} (hs : Leads m s) : LeadsOut m (execMstpNoToken bus s) := .branch hs.fin hs.hush.busFlag.wrAt.say.fin

theorem execNetSupervisionExpiry (hs : Leads m s) : LeadsOut m (execNetSupervisionExpiry s) := .branch hs.fin hs.wrs.count.fin

theorem supMessage {port} (hs : Leads m s) : Leads m (s.supMessage port) := .branch hs.wrs.count hs

theorem ppError {ram} (hs : Leads m s) : Leads m (s.ppError ram) :=
  .branch hs.memErr.linkDrop.netRestart hs.memErr.linkDrop.pathJoin.netRestart

theorem confirmed {f} (hs : Leads m s) : Leads m (s.confirmed f) := by
  unfold State.confirmed
  extract_lets t
  have ht : Leads m t := .whenB hs.hush.count fun _ hu => hu.levelPulse
  exact .branch ht.wr.supMessage ht

theorem netError {port e'} (hs : Leads m s) : Leads m (s.netError port e') := hs.replyFrame

theorem segmentAcks {f} (hs : Leads m s) : Leads m (s.segmentAcks f) := .branch hs (.each hs fun _ _ ht => ht.answer)

theorem segmented {f} (hs : Leads m s) : Leads m (s.segmented f) := .branch hs (.branch hs.txFrames.say hs.answer)

theorem replyEnd {f} (hs : Leads m s) : Leads m (s.replyEnd f) := .branch hs hs.upd

theorem request {f always act} (hs : Leads m s) (hact : ∀ t, Leads m t → Leads m (act t)) :
    Leads m (s.request f always act) :=
  .branch hs (.branch hs.confirmed.ppError (.branch hs.confirmed.replyEnd (.branch hs.confirmed.netError.replyEnd
    (.branch hs.confirmed.netError.replyEnd (hact _ hs.confirmed.segmentAcks).segmented.replyEnd))))

theorem reqAnswer {port r} (hs : Leads m s) (hr : LeadsExc m id r) : Leads m (s.reqAnswer port r) := by
  cases r with
  | ok t => exact (show Leads m t from hr t rfl).answer
  | error e => exact hs.netError

/-! What is kept by Modbus (R367, R368, R384). -/

theorem mbFan {n} (hs : Leads m s) : Leads m (s.mbFan n).2 := by
  unfold State.mbFan
  extract_lets
  exact .branch_snd hs.readWord hs

theorem mbInput {r} (hs : Leads m s) : Leads m (s.mbInput r).2 := by
  unfold State.mbInput
  split
  · exact hs.ceFix
  · exact .branch_snd hs.mbFan (.branch_snd hs hs)

theorem mbHolding {r} (hs : Leads m s) : Leads m (s.mbHolding r).2 := by
  unfold State.mbHolding
  split
  · exact hs.ceFix
  · exact .branch_snd hs hs

theorem mbRead {input r n} (hs : Leads m s) : Leads m (s.mbRead input r n).2 := by
  induction n with
  | zero => exact hs
  | succ n ih => exact .branch_snd ih.mbInput ih.mbHolding

theorem mbExc {code} (hs : Leads m s) : Leads m (s.mbExc code) := hs.count.count.say

theorem mbGood {l} (hs : Leads m s) : Leads m (s.mbGood l) := hs.count.say

theorem mbReadReq {input start count} (hs : Leads m s) : Leads m (s.mbReadReq input start count) :=
  .branch hs.mbExc (.branch hs.mbExc (.branch (.mbExc (.each hs fun _ _ ht => ht.noteDue)) hs.mbRead.mbGood))

theorem mbServe {bus addr act quiet} (hs : Leads m s) (hact : ∀ t, Leads m t → Leads m (act t))
    (hquiet : ∀ t, Leads m t → Leads m (quiet t)) : Leads m (s.mbServe bus addr act quiet) :=
  .branch hs (.branch (hact _ hs.hush.wrAt.supMessage) (.branch (hquiet _ hs.hush.wrAt) hs))

theorem execModbusReadHoldingRegisters {bus addr start count} (hs : Leads m s) :
    LeadsOut m (execModbusReadHoldingRegisters bus addr start count s) :=
  fin (hs.mbServe (fun _ ht => ht.mbReadReq) (fun _ ha => ha))

theorem execModbusReadInputRegisters {bus addr start count} (hs : Leads m s) :
    LeadsOut m (execModbusReadInputRegisters bus addr start count s) :=
  fin (hs.mbServe (fun _ ht => ht.mbReadReq) (fun _ ha => ha))

theorem avPut {i prio v} (hs : Leads m s) : Leads m (s.avPut i prio v) := hs.setAv

theorem zonePut {z prio v} (hs : Leads m s) : Leads m (s.zonePut z prio v) := hs.upd.wrAt.zoneApply

theorem mbStore : ∀ {l r} {s : State}, Leads m s → Leads m (s.mbStore r l)
  | [], _, _, hs => hs
  | [_], _, _, hs => .branch hs.zonePut hs
  | _ :: _ :: _, _, _, hs => by
    unfold State.mbStore
    refine .branch (mbStore hs.zonePut) ?_
    extract_lets
    split
    · exact mbStore hs.wrCoach
    · exact mbStore hs.avPut

theorem mbWriteQuiet {start values} (hs : Leads m s) : Leads m (s.mbWriteQuiet start values) := .branch hs.mbStore hs

theorem mbWriteReq {start values} (hs : Leads m s) : Leads m (s.mbWriteReq start values) := .branch hs.mbStore.mbGood hs.mbExc

theorem execModbusWriteSingleRegister {bus addr reg value} (hs : Leads m s) :
    LeadsOut m (execModbusWriteSingleRegister bus addr reg value s) :=
  fin (hs.mbServe (fun _ ht => ht.mbWriteReq) (fun _ ht => ht.mbWriteQuiet))

theorem execModbusWriteMultipleRegisters {bus addr start values} (hs : Leads m s) :
    LeadsOut m (execModbusWriteMultipleRegisters bus addr start values s) :=
  fin (hs.mbServe (fun _ ht => ht.mbWriteReq) (fun _ ht => ht.mbWriteQuiet))

theorem execModbusReadDeviceIdentification {bus addr} (hs : Leads m s) : LeadsOut m (execModbusReadDeviceIdentification bus addr s) :=
  fin (hs.mbServe (fun _ ht => ht.mbGood) (fun _ ha => ha))

theorem execModbusUnsupportedFunction {bus addr function} (hs : Leads m s) :
    LeadsOut m (execModbusUnsupportedFunction bus addr function s) :=
  .branch hs.fin (fin (hs.mbServe (fun _ ht => ht.mbExc) (fun _ ha => ha)))

theorem mbAsk {c} (hs : Leads m s) : Leads m (s.mbAsk c) := hs.say

theorem mbState {bus} (hs : Leads m s) : Leads m (s.mbState bus) := hs.wrAt

theorem mbResult {k bad} (hs : Leads m s) : Leads m (s.mbResult k bad) := hs.wrsAt.mbFlag.mbState

theorem execModbusClientPoll {bus entry} (hs : Leads m s) : LeadsOut m (execModbusClientPoll bus entry s) := by
  unfold Machine.execModbusClientPoll
  extract_lets
  split
  · exact hs.fin
  · exact .branch hs.fin hs.hush.wrsAt.mbState.mbAsk.fin

theorem execModbusClientReply {bus entry values} (hs : Leads m s) : LeadsOut m (execModbusClientReply bus entry values s) := by
  unfold Machine.execModbusClientReply
  extract_lets k t
  have ht : Leads m t := hs.hush.mbResult
  split
  · exact hs.fin
  · refine .branch hs.fin ?_
    split
    · exact ht.avPut.fin
    · exact ht.takeFree.avPut.fin

theorem execModbusClientTimeout {bus entry} (hs : Leads m s) : LeadsOut m (execModbusClientTimeout bus entry s) := by
  unfold Machine.execModbusClientTimeout
  extract_lets
  split
  · exact hs.fin
  · exact .branch hs.fin (.branch hs.hush.wrAt.mbAsk.fin hs.hush.mbResult.count.fin)

/-! What is kept by the BACnet services (R369 to R381). -/

theorem writeReport {w} (hs : Leads m s) : LeadsExc m id (s.writeReport w) := .branch (.map fun _ => hs.setNetObj) .error

theorem stageCommand {v} (hs : Leads m s) : LeadsExc m id (s.stageCommand v) := by
  unfold State.stageCommand
  split
  · exact .branch .error (.branch (.ok hs.rgnStart) .error)
  · exact .ok hs.rgnAbort
  · exact .error

theorem writeDevice {p v} (hs : Leads m s) : LeadsExc m id (s.writeDevice p v) := by
  unfold State.writeDevice
  extract_lets
  split
  · split
    · exact .ok hs.upd
    · exact .error
  · exact .map fun _ => hs.upd
  · exact hs.stageCommand
  · exact .error

theorem writeInput {w} (hs : Leads m s) : LeadsExc m id (s.writeInput w) := by
  unfold State.writeInput
  extract_lets
  split
  · exact .map fun _ => hs.setNetObj
  · exact .branch (.map fun _ => hs.setNetObj) .error
  · exact hs.writeReport

theorem writeValue {i w} (hs : Leads m s) : LeadsExc m id (s.writeValue i w) := by
  unfold State.writeValue
  split
  · exact .branch .error (.branch .error (.branch (.ok hs.avPut) (.map fun _ => hs.avPut)))
  · exact hs.writeReport

theorem writeZone {z w} (hs : Leads m s) : LeadsExc m id (s.writeZone z w) := by
  unfold State.writeZone
  split
  · refine .branch .error ?_
    refine .branch (.ok hs.zonePut) ?_
    split
    · exact .branch .error (.ok hs.zonePut)
    · exact .error
  · exact .error

theorem writeCoach {c w q} (hs : Leads m s) : LeadsExc m id (s.writeCoach c w q) :=
  .branch .error (.branch .error (.branch .error (.ok hs.wrCoach)))

theorem netCoachCmd {c cmd} (hs : Leads m s) : LeadsExc m id (s.netCoachCmd c cmd) := .branch .error (.branch .error (.ok hs.coachCmd))

theorem writeLoop {c w} (hs : Leads m s) : LeadsExc m id (s.writeLoop c w) := by
  unfold State.writeLoop
  split
  · split
    · exact hs.writeCoach
    · exact .error
  · split
    · split
      · exact hs.netCoachCmd
      · exact .error
    · refine .branch ?_ ?_
      · split
        · exact hs.writeCoach
        · exact .error
      · exact .error
    · exact hs.writeReport

theorem writeClass {n w} (hs : Leads m s) : LeadsExc m id (s.writeClass n w) := by
  unfold State.writeClass
  extract_lets
  split
  · exact .branch (.ok hs.upd) .error
  · exact .branch (.ok hs.upd) .error
  · exact .error
  · exact .error
  · exact .error

theorem writeTrend {n w} (hs : Leads m s) : LeadsExc m id (s.writeTrend n w) := by
  unfold State.writeTrend
  extract_lets
  split
  · exact .map fun _ => hs.upd
  · split
    · exact .branch (.ok hs.upd) .error
    · exact .error
  · split
    · exact .branch (.ok hs.upd) .error
    · exact .error
  · exact .error

theorem writeProp {w} (hs : Leads m s) : LeadsExc m id (s.writeProp w) := by
  unfold State.writeProp
  refine .branch .error ?_
  split
  · exact hs.writeDevice
  · exact hs.writeInput
  · exact hs.writeValue
  · exact hs.writeReport
  · exact hs.writeZone
  · exact hs.writeLoop
  · exact hs.writeClass
  · exact hs.writeTrend
  · exact .error

theorem writeRead {w} (hs : Leads m s) : Leads m (s.writeRead w) := by
  unfold State.writeRead
  extract_lets
  split
  · exact .branch hs (.each (.whenB hs fun _ ht => ht.coachGet) fun _ _ ht => ht.coachGet)
  · exact hs

theorem writeProps {port l} (hs : Leads m s) : Leads m (s.writeProps port l) := by
  induction l generalizing s with
  | nil => exact hs.answer
  | cons w l ih =>
    unfold State.writeProps
    extract_lets u
    split
    · rename_i e
      exact ih (hs.writeRead.writeProp _ e)
    · exact hs.writeRead.netError

theorem execBacnetWriteProperty {sender writes} (hs : Leads m s) : LeadsOut m (execBacnetWriteProperty sender writes s) :=
  fin (hs.request (fun _ ht => ht.writeProps))

theorem readProps {l} (hs : Leads m s) : Leads m (s.readProps l).2 := by
  induction l generalizing s with
  | nil => exact hs
  | cons r l ih =>
    refine ih ?_
    split
    · rename_i e
      exact hs.readProp _ e
    · exact hs

theorem execBacnetReadProperty {sender refs} (hs : Leads m s) : LeadsOut m (execBacnetReadProperty sender refs s) := by
  refine fin (hs.request fun t ht => ?_)
  split
  · split
    · rename_i e
      exact (show Leads m _ from ht.readProp _ e).answer
    · exact ht.netError
  · exact ht.readProps.answer

theorem setSubs {l} (hs : Leads m s) : Leads m (s.setSubs l) := hs.upd.wr

theorem subscribe {port q} (hs : Leads m s) : Leads m (s.subscribe port q) := by
  unfold State.subscribe
  split
  · exact hs.netError
  · rename_i e
    exact .branch (hs.readProp _ e).setSubs.answer (.branch hs.netError
      (.branch hs.netError (.branch (hs.readProp _ e).setSubs.answer.initiate (hs.readProp _ e).setSubs.answer)))

theorem execBacnetSubscribeCov {sender req} (hs : Leads m s) : LeadsOut m (execBacnetSubscribeCov sender req s) :=
  fin (hs.request (fun _ ht => ht.subscribe))

theorem execCovSubscriptionExpiry {who ref} (hs : Leads m s) : LeadsOut m (execCovSubscriptionExpiry who ref s) :=
  .branch hs.hush.setSubs.fin hs.fin

theorem execBacnetAcknowledgeAlarm {sender obj dest} (hs : Leads m s) : LeadsOut m (execBacnetAcknowledgeAlarm sender obj dest s) :=
  fin (hs.request (fun _ ht => .branch ht.netError ht.setNetObj.answer.notifyClass))

theorem execBacnetGetEventInformation {sender} (hs : Leads m s) : LeadsOut m (execBacnetGetEventInformation sender s) :=
  fin (hs.request (fun _ ht => .branch ht.answer ht.answer))

theorem execBacnetReadRange {sender log first count} (hs : Leads m s) : LeadsOut m (execBacnetReadRange sender log first count s) :=
  fin (hs.request (fun _ ht => ht.answer))

theorem execBacnetUnrecognizedService {sender} (hs : Leads m s) : LeadsOut m (execBacnetUnrecognizedService sender s) :=
  fin (hs.request (fun _ ht => ht.netError))

theorem execBacnetWhoIs {sender asked} (hs : Leads m s) : LeadsOut m (execBacnetWhoIs sender asked s) := by
  unfold Machine.execBacnetWhoIs
  refine .branch hs.fin ?_
  split
  · exact hs.hush.sendOwn.fin
  · exact hs.hush.fin

theorem eventRead {obj} (hs : Leads m s) : Leads m (s.eventRead obj) := by
  unfold State.eventRead
  split
  · exact .each hs fun _ _ ht => ht.coachGet
  · exact hs

theorem execEventTimeDelayExpiry {obj dest} (hs : Leads m s) : LeadsOut m (execEventTimeDelayExpiry obj dest s) :=
  .branch hs.fin (.branch hs.eventRead.hush.setNetObj.fin hs.eventRead.hush.setNetObj.notifyClass.fin)

theorem execTrendLogInterval {log} (hs : Leads m s) : LeadsOut m (execTrendLogInterval log s) := by
  unfold Machine.execTrendLogInterval
  extract_lets
  refine .branch hs.fin ?_
  split
  · exact hs.hush.wrAt.fin
  · split
    · rename_i e
      exact (hs.hush.wrAt.readProp _ e).trendAdd.fin
    · exact hs.hush.wrAt.fin

theorem syncIgnored (hs : Leads m s) : Leads m s.syncIgnored := hs.count

theorem syncApplied (hs : Leads m s) : Leads m s.syncApplied := hs.or.count

theorem syncShift {d wday} (hs : Leads m s) : Leads m (s.syncShift d wday) :=
  .branch hs.wr (.branch hs.syncIgnored (.syncApplied (.wrs (.branch_snd hs hs.takeFree))))

theorem syncSet {sec wday} (hs : Leads m s) : Leads m (s.syncSet sec wday) := .branch hs.syncIgnored hs.setAccept.syncApplied

theorem synchronise {utc t} (hs : Leads m s) : Leads m (s.synchronise utc t) := by
  unfold State.synchronise
  extract_lets
  split
  · exact hs.syncIgnored
  · exact .branch hs.syncIgnored (.branch hs.rtcRun.syncShift hs.rtcRun.syncSet)

theorem execTimeSynchronization {utc time} (hs : Leads m s) : LeadsOut m (execTimeSynchronization utc time s) :=
  .branch hs.fin hs.hush.synchronise.fin

theorem passwordBad {port} (hs : Leads m s) : Leads m (s.passwordBad port) := hs.or.netError

theorem reinit {port dest password} (hs : Leads m s) : Leads m (s.reinit port dest password) := by
  unfold State.reinit
  refine .branch hs.passwordBad ?_
  split
  · exact hs.netError
  · exact .branch hs.netError (.branch hs.count.macErr.softReset hs.count.txFrames.softReset.say)
  · exact hs.count.assertReset.say

theorem execReinitializeDevice {sender dest password} (hs : Leads m s) : LeadsOut m (execReinitializeDevice sender dest password s) :=
  fin (hs.request (fun _ ht => ht.reinit))

theorem execDeviceCommunicationControl {sender mode timed password} (hs : Leads m s) :
    LeadsOut m (execDeviceCommunicationControl sender mode timed password s) :=
  fin (hs.request (fun _ ht => .branch ht.wrs.answer ht.passwordBad))

theorem execDccDurationExpiry (hs : Leads m s) : LeadsOut m (execDccDurationExpiry s) := .branch hs.hush.wrs.fin hs.fin

theorem writeFile {port file start data} (hs : Leads m s) : Leads m (s.writeFile port file start data) := by
  unfold State.writeFile
  refine .branch hs.netError ?_
  refine .branch hs.netError ?_
  refine .branch hs.netError ?_
  split
  · exact hs.netError
  · exact hs.count.netError
  · exact hs.stageWrite.answer

theorem execAtomicWriteFile {sender file start data} (hs : Leads m s) : LeadsOut m (execAtomicWriteFile sender file start data s) :=
  fin (hs.request (fun _ ht => ht.writeFile))

/-! What is kept by the host port (R387 to R402). -/

theorem fieldWrite {a v} {t : State} {f} (ht : Leads m t) : Leads m (s.fieldWrite a v t f) := by
  unfold State.fieldWrite
  extract_lets
  split
  · exact ht.wrAt
  · exact ht.wrAt
  · exact ht.wrAt
  · exact ht.clrAt
  · exact ht.clrAt
  · exact ht
  · exact ht

theorem coachWrite {c w v} (hs : Leads m s) : Leads m (s.coachWrite c w v) := by
  unfold State.coachWrite
  split
  · exact hs.wrCoach
  · exact hs.wrCoach
  · exact hs.coachGet.pokeCoach
  · exact hs

theorem wordStore {a v} (hs : Leads m s) : Leads m (s.wordStore a v) :=
  .branch hs.coachWrite (.branch hs (.each hs fun _ _ ht => ht.fieldWrite))

theorem repairGo (hs : Leads m s) : Leads m s.repairGo := .branch hs (.branch hs.wrs.pathJoin hs.wr)

theorem modeWrite {c} (hs : Leads m s) : Leads m (s.modeWrite c) := .wrs (.whenB hs fun _ ht => ht.wr)

/-- R410: a hash is taken only where none is programmed. -/
theorem otpStart {cmd} (hs : Leads m s) (hfree : cmd = 1 → m.otp.hashSet = false) : Leads m (s.otpStart cmd) := by
  unfold State.otpStart
  extract_lets t
  split
  · rename_i hc
    exact hs.wrs.setOtp fun h => ⟨fun hm => absurd hm (by simp [hfree hc]), h.signed, h.key, h.identity⟩
  · exact hs.wrs

theorem hookLow {a v} (hs : Leads m s) (hfree : a = 0x0038 → v % 4 = 1 → m.otp.hashSet = false) : Leads m (s.hookLow a v) := by
  unfold State.hookLow
  refine .branch hs.persistCmd (.branch (.branch hs.rgnStart (.branch hs.rgnAbort hs)) ?_)
  split
  · rename_i ha
    exact .branch hs (hs.otpStart (hfree ha))
  · refine .branch hs.stageWrite (.branch hs.modeWrite (.branch (.branch hs.wr.wrs hs.wr) (.branch (.branch hs.wrAt hs) ?_)))
    exact .branch hs.coachGet.coachCmd (.branch (.branch hs.wrs hs) (.branch (.branch hs.coachGet.repairGo hs) hs))

theorem calReq {mask} (hs : Leads m s) : Leads m (s.calReq mask) := .each hs fun _ _ ht => ht.calDue

theorem urgGo (hs : Leads m s) : Leads m s.urgGo := hs.wrs.urgIssue

theorem occWrite {n} (hs : Leads m s) : Leads m (s.occWrite n) := hs.setOcc

theorem hookMid {was : State} {a v} (hs : Leads m s) : Leads m (was.hookMid s a v) := by
  unfold State.hookMid
  extract_lets t
  have ht : Leads m t := .branch hs.sysAbort hs
  refine .branch (.branch hs.urgGo hs) ?_
  refine .branch hs.settingsChanged.wakeConvs ?_
  refine .branch hs.wakeConvs ?_
  refine .branch hs.occWrite ?_
  refine .branch hs.refreshZones ?_
  refine .branch hs.calReq ?_
  exact .branch (.branch ht.sysGo ht) (.branch hs.thermReadmit (.branch hs.fanEnable (.branch hs.fanUnlock hs)))

theorem rtcCmd {v} (hs : Leads m s) : Leads m (s.rtcCmd v) := by
  unfold State.rtcCmd
  extract_lets t u
  have ht : Leads m t := .branch hs.setAccept hs
  have hu : Leads m u := .branch ht.wr ht
  exact .branch hu.wr hu

theorem shiftGo (hs : Leads m s) : Leads m s.shiftGo := hs.wrs

theorem vlvCmd {v} (hs : Leads m s) : Leads m (s.vlvCmd v) := .vlvHsClear (.each hs.vlvClear fun _ _ hs' => hs'.vlvTestStart)

theorem hookOut {was : State} {a v} (hs : Leads m s) : Leads m (was.hookOut s a v) := by
  unfold State.hookOut
  refine .branch hs.vlvWriteCfg ?_
  refine .branch hs.vlvFollow ?_
  refine .branch hs.vlvCmd ?_
  refine .branch hs.dmpEnable ?_
  refine .branch hs.dmpHomeCmd.dmpClear ?_
  refine .branch hs.boRefresh ?_
  refine .branch hs.boClear ?_
  refine .branch hs.rtcCmd ?_
  refine .branch (.branch hs.shiftGo hs) ?_
  exact .branch hs.compOff (.branch hs.schedRefresh (.branch hs.zoneApply (.branch hs.schedFresh hs)))

theorem hbRestart (hs : Leads m s) : Leads m s.hbRestart := hs.wrs

theorem hatchStart {op} (hs : Leads m s) : Leads m (s.hatchStart op) := hs.upd.pathJoin

theorem evcConfig {k v} (hs : Leads m s) : Leads m (s.evcConfig k v) := .branch hs hs.setEvc

theorem scRetry (hs : Leads m s) : Leads m s.scRetry := .branch hs.wrs.wr hs.wrs

theorem dispCmd {cmd} (hs : Leads m s) : Leads m (s.dispCmd cmd) := .branch hs.wr.panelDischarge (.branch hs.wr.panelIdle hs)

theorem hookHigh {was : State} {a v} (hs : Leads m s) : Leads m (was.hookHigh s a v) := by
  unfold State.hookHigh
  extract_lets t k src t'
  have ht : Leads m t := .branch hs.linkDrop hs
  have ht' : Leads m t' := .branch hs.wr (.branch hs.wr hs)
  refine .branch (.branch ht.scRetry ht) ?_
  refine .branch hs.hbRestart.count ?_
  refine .branch hs.hbRestart ?_
  refine .branch hs.upd ?_
  refine .branch (.branch hs.hatchStart hs) ?_
  refine .branch (.branch hs hs.hatchStart) ?_
  refine .branch hs.evcConfig ?_
  refine .branch hs.setEvc ?_
  refine .branch hs.upd ?_
  refine .branch (.panelIdle (.branch ht'.panelDischarge ht')) ?_
  exact .branch hs.dispCmd (.branch hs.upd (.branch (.branch hs.wr hs) hs))

theorem wordApply {a v} (hs : Leads m s) (hfree : a = 0x0038 → v % 4 = 1 → m.otp.hashSet = false) : Leads m (s.wordApply a v) :=
  .branch (hs.wordStore.hookLow hfree) (.branch hs.wordStore.hookMid (.branch hs.wordStore.hookOut hs.wordStore.hookHigh))

theorem wrCountBefore {w a} (hw : Leads m w.s) : Leads m (Wr.countBefore w a).s := by
  unfold Machine.Wr.countBefore
  extract_lets
  exact .branch_wr hw hw.takeFree.countWords

/-- R409, R410: a word that is taken starts the programming of a hash only where none is programmed. -/
theorem hash_free_of_wordStat {was : State} {a v : Nat} (hst : was.wordStat s a v = .ok) (ha : a = 0x0038) (hv : v % 4 = 1) :
    s.otp.hashSet = false := by
  have hr : s.rangeBad a v = false := by
    by_contra hb
    simp only [Bool.not_eq_false] at hb
    unfold State.wordStat at hst
    split_ifs at hst
  subst ha
  simp [State.rangeBad, State.rangeLow, hv] at hr
  exact hr.2

theorem ok_of_worst_eq_ok {a b : HostStat} (h : a.worst b = .ok) : a = .ok ∧ b = .ok := by
  revert h
  cases a <;> cases b <;> decide

theorem wrCountBefore_bad (w : Wr) (a : Nat) : (w.countBefore a).bad = w.bad := by
  unfold Wr.countBefore
  split <;> rfl

/-- A write frame's words, as long as each of them is taken. -/
theorem wrWord {was : State} {w a v} (hw : w.bad = .ok → Leads m w.s) (hb : (Wr.word was w a v).bad = .ok) :
    Leads m (Wr.word was w a v).s := by
  obtain ⟨hok, hst⟩ := ok_of_worst_eq_ok hb
  rw [wrCountBefore_bad] at hok
  have hs : Leads m (w.countBefore a).s := wrCountBefore (hw hok)
  refine hs.wordApply fun ha hv => ?_
  by_contra hm
  have := (hs.fuses.hash (by simpa using hm)).1
  simp [hash_free_of_wordStat hst ha hv] at this

theorem wrWords {was : State} {w a l} (hw : w.bad = .ok → Leads m w.s) (hb : (Wr.words was w a l).bad = .ok) :
    Leads m (Wr.words was w a l).s := by
  induction l generalizing w a with
  | nil => exact hw hb
  | cons v l ih => exact ih (wrWord hw) hb

theorem refuseCounts {st a n refused} (hs : Leads m s) : Leads m (s.refuseCounts st a n refused) :=
  hs.countIf.countIf.countIf.countIf.countIf

theorem hostAsk {write a n} (hs : Leads m s) : Leads m (s.hostAsk write a n) := .foldl hs fun _ _ ht => ht.busAsk

theorem lockRead {a data} (hs : Leads m s) : Leads m (s.lockRead a data) := .branch hs (.each hs.coachGet fun _ _ ht => ht.coachGet)

theorem frameWrite {a data} (hs : Leads m s) : Leads m (s.frameWrite a data).s := by
  unfold State.frameWrite
  refine .branch_answer hs (.branch_answer hs ?_)
  extract_lets u w st v r
  have hu : Leads m u := hs.lockRead
  split
  · rename_i hst
    have hb : w.bad = .ok := by
      by_contra hb
      exact hb ((if_neg hb).symm.trans hst)
    have hw : Leads m w.s := wrWords (fun _ => hu) hb
    have hv : Leads m v := by
      unfold v
      split
      · exact hw.coachPeriodChange
      · exact hw
    exact hv.hostAsk.countWords
  · exact .branch hu.refuseCounts.orderRefuse hu.refuseCounts

theorem frameWords {a seq cnt n} (hs : Leads m s) : Leads m (s.frameWords a seq cnt n).2.2 := by
  induction n generalizing s a seq cnt with
  | zero => exact hs
  | succ n ih => exact ih (readWord (.branch hs.takeFree.countWords hs))

theorem frameRead {a n} (hs : Leads m s) : Leads m (s.frameRead a n).s := by
  unfold State.frameRead
  extract_lets
  split
  · exact hs
  · split
    · exact hs
    · split
      · exact hs.orderRefuse
      · exact hs.frameWords.hostAsk.countWords

theorem evcSnap (hs : Leads m s) : Leads m s.evcSnap := by
  unfold State.evcSnap
  extract_lets t
  have ht : Leads m t := .each hs fun _ _ hu => hu.evcShow
  clear_value t
  exact (ht.setEvcs (List.length_map (fun (c : EvCtr) => { c with snap := c.count }))).upd

theorem evcClear (hs : Leads m s) : Leads m s.evcClear := hs.setEvcs (List.length_map _)

theorem doorRefuse (hs : Leads m s) : Leads m s.doorRefuse.s := hs.count

theorem doorFirst {d arg} (hs : Leads m s) : Leads m (s.doorFirst d arg).s := by
  unfold State.doorFirst
  exact .branch_answer hs.wr hs.doorRefuse

theorem doorSecond {d arg} (hs : Leads m s) : Leads m (s.doorSecond d arg).s := by
  unfold State.doorSecond
  split
  · exact hs.wr.putBit.count
  · exact hs.doorRefuse

theorem frameCommand {code args} (hs : Leads m s) : Leads m (s.frameCommand code args).s := by
  unfold State.frameCommand
  extract_lets done
  have hdone : ∀ {x : Answer}, Leads m x.s → Leads m (done x).s := by
    intro x hx
    unfold done
    exact .branch_answer hx.count hx
  split
  · refine .branch_answer (hdone hs.evcSnap) (.branch_answer (hdone hs.evcClear) (.branch_answer (hdone hs.putBit) hs))
  · refine .branch_answer (hdone hs.doorFirst) (.branch_answer (hdone hs.doorSecond) hs)
  · exact hs

theorem doorCancel (hs : Leads m s) : Leads m s.doorCancel := .branch hs hs.wr.count

theorem frameFinds {a n} (hs : Leads m s) : Leads m (s.frameFinds a n) :=
  .whenB (.whenB hs fun _ hs' => hs'.persistRun) fun _ hs' => hs'.rtcShow

theorem frameAct {f} (hs : Leads m s) : Leads m (s.frameAct f).s := by
  unfold State.frameAct
  exact .branch_answer hs.frameFinds.frameRead (.branch_answer hs.frameFinds.frameWrite (.branch_answer hs.frameCommand hs))

theorem reply {l} (hs : Leads m s) : Leads m (s.reply l) := .branch hs.upd hs.upd

theorem respond {f st data} (hs : Leads m s) : Leads m (s.respond f st data) := hs.wrs.levelPulse.reply

theorem frameReset {rst} (hs : Leads m s) : Leads m (s.frameReset rst) := .branch hs.softReset (.branch hs.assertReset hs)

theorem frameGood {f} (hs : Leads m s) : Leads m (s.frameGood f) := by
  unfold State.frameGood
  extract_lets t u x
  have hu : Leads m u := .branch hs.count hs.count.doorCancel
  have hx : Leads m x.s := .branch_answer hu hu.frameAct
  exact hx.countIf.respond.frameReset

theorem hostFrame {f} (hs : Leads m s) : Leads m (s.hostFrame f) := .branch hs (.branch hs.count.respond hs.frameGood)

theorem hostWrite {a data} (hs : Leads m s) : Leads m (s.hostWrite a data) := hs.hostFrame

theorem hostRead {a} (hs : Leads m s) : Leads m (s.hostRead a) := hs.hostFrame

theorem hostCommand {code args} (hs : Leads m s) : Leads m (s.hostCommand code args) := hs.hostFrame

/-! What is kept by the rows that the host asks for (R387 to R415). -/

theorem execSupvLaneRestore (hs : Leads m s) : LeadsOut m (execSupvLaneRestore s) := hs.hostWrite.fin

theorem execSupvWdtWrite {timeout} (hs : Leads m s) : LeadsOut m (execSupvWdtWrite timeout s) := hs.hostWrite.fin

theorem execSupvRepair (hs : Leads m s) : LeadsOut m (execSupvRepair s) := hs.hostWrite.fin

theorem execCoachCmdOpen (hs : Leads m s) : LeadsOut m (execCoachCmdOpen s) := hs.hostWrite.fin

theorem execCoachCmdClose (hs : Leads m s) : LeadsOut m (execCoachCmdClose s) := hs.hostWrite.fin

theorem execCoachCmdManual (hs : Leads m s) : LeadsOut m (execCoachCmdManual s) := hs.hostWrite.fin

theorem execCoachCmdShutter (hs : Leads m s) : LeadsOut m (execCoachCmdShutter s) := hs.hostWrite.fin

theorem execWheelLoRead (hs : Leads m s) : LeadsOut m (execWheelLoRead s) := hs.hostRead.fin

theorem execArbSwapReq {count} (hs : Leads m s) : LeadsOut m (execArbSwapReq count s) := hs.hostWrite.fin

theorem execArbWmaxClr {sel} (hs : Leads m s) : LeadsOut m (execArbWmaxClr sel s) := hs.hostWrite.fin

theorem execUiSettingsWrite {reg value} (hs : Leads m s) : LeadsOut m (execUiSettingsWrite reg value s) := hs.hostWrite.fin

theorem execConvUrgGo {input conv} (hs : Leads m s) : LeadsOut m (execConvUrgGo input conv s) := hs.hostWrite.fin

theorem execCalReq {mask} (hs : Leads m s) : LeadsOut m (execCalReq mask s) := hs.hostWrite.fin

theorem execCalSysGo {input point} (hs : Leads m s) : LeadsOut m (execCalSysGo input point s) := hs.hostWrite.fin

theorem execCalSysAbort (hs : Leads m s) : LeadsOut m (execCalSysAbort s) := hs.hostWrite.fin

theorem execFanUnlock {mask} (hs : Leads m s) : LeadsOut m (execFanUnlock mask s) := hs.hostWrite.fin

theorem execValveModeWrite {value} (hs : Leads m s) : LeadsOut m (execValveModeWrite value s) := hs.hostWrite.fin

theorem execVlvDiagNow {mask} (hs : Leads m s) : LeadsOut m (execVlvDiagNow mask s) := hs.hostWrite.fin

theorem execVlvClear {mask} (hs : Leads m s) : LeadsOut m (execVlvClear mask s) := hs.hostWrite.fin

theorem execVlvHsClear {mask} (hs : Leads m s) : LeadsOut m (execVlvHsClear mask s) := hs.hostWrite.fin

theorem execDmpHome {mask} (hs : Leads m s) : LeadsOut m (execDmpHome mask s) := hs.hostWrite.fin

theorem execDmpClear {mask} (hs : Leads m s) : LeadsOut m (execDmpClear mask s) := hs.hostWrite.fin

theorem execBoClear {mask} (hs : Leads m s) : LeadsOut m (execBoClear mask s) := hs.hostWrite.fin

theorem execThermReadmit {mask} (hs : Leads m s) : LeadsOut m (execThermReadmit mask s) := hs.hostWrite.fin

theorem execRtcSet (hs : Leads m s) : LeadsOut m (execRtcSet s) := hs.hostWrite.fin

theorem execRtcSetWday (hs : Leads m s) : LeadsOut m (execRtcSetWday s) := hs.hostWrite.fin

theorem execRtcRearm (hs : Leads m s) : LeadsOut m (execRtcRearm s) := hs.hostWrite.fin

theorem execRtcShiftGo {n hold} (hs : Leads m s) : LeadsOut m (execRtcShiftGo n hold s) := hs.hostWrite.fin

theorem execRtcTimeRead (hs : Leads m s) : LeadsOut m (execRtcTimeRead s) := hs.hostRead.fin

theorem execZoneForceWrite {value} (hs : Leads m s) : LeadsOut m (execZoneForceWrite value s) := hs.hostWrite.fin

theorem execRgnStart (hs : Leads m s) : LeadsOut m (execRgnStart s) := hs.hostWrite.fin

theorem execRgnAbort (hs : Leads m s) : LeadsOut m (execRgnAbort s) := hs.hostWrite.fin

theorem execImgPersistOpen (hs : Leads m s) : LeadsOut m (execImgPersistOpen s) := hs.hostWrite.fin

theorem execImgPersistCommit (hs : Leads m s) : LeadsOut m (execImgPersistCommit s) := hs.hostWrite.fin

theorem execImgPersistAbort (hs : Leads m s) : LeadsOut m (execImgPersistAbort s) := hs.hostWrite.fin

theorem execPwrModeNative (hs : Leads m s) : LeadsOut m (execPwrModeNative s) := hs.hostWrite.fin

theorem execPwrModeService (hs : Leads m s) : LeadsOut m (execPwrModeService s) := hs.hostWrite.fin

theorem execPwrModeStandby (hs : Leads m s) : LeadsOut m (execPwrModeStandby s) := hs.hostWrite.fin

theorem execPwrModeWake (hs : Leads m s) : LeadsOut m (execPwrModeWake s) := hs.hostWrite.fin

theorem execPwrRstSoft (hs : Leads m s) : LeadsOut m (execPwrRstSoft s) := hs.hostWrite.fin

theorem execPwrRstCold (hs : Leads m s) : LeadsOut m (execPwrRstCold s) := hs.hostWrite.fin

theorem execNetRelink (hs : Leads m s) : LeadsOut m (execNetRelink s) := hs.hostWrite.fin

theorem execNetScRetry (hs : Leads m s) : LeadsOut m (execNetScRetry s) := hs.hostWrite.fin

theorem execEvcSnapshot (hs : Leads m s) : LeadsOut m (execEvcSnapshot s) := hs.hostCommand.fin

theorem execEvcClearAll (hs : Leads m s) : LeadsOut m (execEvcClearAll s) := hs.hostCommand.fin

theorem execDoorFirstStep {door arg} (hs : Leads m s) : LeadsOut m (execDoorFirstStep door arg s) := hs.hostCommand.fin

theorem execDoorSecondStep {door arg} (hs : Leads m s) : LeadsOut m (execDoorSecondStep door arg s) := hs.hostCommand.fin

theorem execDoorClose {door} (hs : Leads m s) : LeadsOut m (execDoorClose door s) := hs.hostCommand.fin

theorem execHostHbWrite {value} (hs : Leads m s) : LeadsOut m (execHostHbWrite value s) := hs.hostWrite.fin

theorem execHbTimeoutWrite {value} (hs : Leads m s) : LeadsOut m (execHbTimeoutWrite value s) := hs.hostWrite.fin

theorem execHatchRead (hs : Leads m s) : LeadsOut m (execHatchRead s) := hs.hostWrite.fin

theorem execHatchProgram (hs : Leads m s) : LeadsOut m (execHatchProgram s) := hs.hostWrite.fin

theorem execHatchErase (hs : Leads m s) : LeadsOut m (execHatchErase s) := hs.hostWrite.fin

theorem execEvcCfgWrite {value} (hs : Leads m s) : LeadsOut m (execEvcCfgWrite value s) := hs.hostWrite.fin

theorem execOtpProgHash (hs : Leads m s) : LeadsOut m (execOtpProgHash s) := hs.hostWrite.fin

theorem execOtpProgSigned (hs : Leads m s) : LeadsOut m (execOtpProgSigned s) := hs.hostWrite.fin

theorem execDispOff (hs : Leads m s) : LeadsOut m (execDispOff s) := hs.hostWrite.fin

theorem execDispOn (hs : Leads m s) : LeadsOut m (execDispOn s) := hs.hostWrite.fin

theorem execCoachWindowWrite {first data} (hs : Leads m s) : LeadsOut m (execCoachWindowWrite first data s) := hs.hostWrite.fin

theorem execRegionStageWrite {first data} (hs : Leads m s) : LeadsOut m (execRegionStageWrite first data s) := hs.hostWrite.fin

theorem execLyaleRead {addr len crc} (hs : Leads m s) : LeadsOut m (execLyaleRead addr len crc s) := hs.hostFrame.fin

theorem execLyaleWrite {addr data crc} (hs : Leads m s) : LeadsOut m (execLyaleWrite addr data crc s) := hs.hostFrame.fin

theorem execLyaleUnknownOpc {opc addr len} (hs : Leads m s) : LeadsOut m (execLyaleUnknownOpc opc addr len s) := hs.hostFrame.fin

theorem execHostFrameTruncated (hs : Leads m s) : LeadsOut m (execHostFrameTruncated s) := .branch hs.fin hs.count.reply.fin

theorem execI2cResponseRead {count} (hs : Leads m s) : LeadsOut m (execI2cResponseRead count s) := .branch hs.fin hs.upd.fin

theorem execDoorStepTimeout (hs : Leads m s) : LeadsOut m (execDoorStepTimeout s) := hs.doorCancel.fin

theorem execDoorTimeout {door} (hs : Leads m s) : LeadsOut m (execDoorTimeout door s) := .branch hs.putBit.count.fin hs.fin

theorem execHeartbeatExpiry (hs : Leads m s) : LeadsOut m (execHeartbeatExpiry s) := .branch hs.fin hs.wrs.raise.count.fin

theorem hatchWord {k} (hs : Leads m s) : Leads m (s.hatchWord k) := .branch hs.wrAt (.branch hs.wrAt hs.takeFree.wrAt)

theorem hatchEnd {result} (hs : Leads m s) : Leads m (s.hatchEnd result) := hs.wrs.upd.pathLeave.count.raise

theorem execHatchOpDone {outcome status} (hs : Leads m s) : LeadsOut m (execHatchOpDone outcome status s) := by
  unfold Machine.execHatchOpDone
  extract_lets op t
  have ht : Leads m t := .whenB hs fun _ hu => hu.wr
  refine .branch hs.fin ?_
  refine .branch (fin (.hatchEnd (.each hs fun _ _ hs' => hs'.hatchWord))) ?_
  exact .branch ht.hatchApply.hatchEnd.fin ht.hatchTorn.hatchEnd.fin

theorem execOtpProgDone {ok} (hs : Leads m s) : LeadsOut m (execOtpProgDone ok s) := .branch hs.fin (fin (.wrs (.branch hs.otpApply hs)))

/-! What is kept by the IZ-30 host's transactions (R439 to R444). -/

theorem izRead {r} (hs : Leads m s) : Leads m (s.izRead r) := .branch hs.wr (.branch hs.wrs.wrAt (.branch hs.wrAt hs.wrAt))

theorem izConfig {l} (hs : Leads m s) : Leads m (s.izConfig l) := .izNative (.each hs fun _ _ ht => ht.wrAt)

theorem izReset (hs : Leads m s) : Leads m s.izReset := hs.softReset.wr.upd

theorem izWrite {r v} (hs : Leads m s) : Leads m (s.izWrite r v) := by
  unfold State.izWrite
  extract_lets
  refine .branch hs.wrAt ?_
  refine .branch (.branch hs.izReset hs) ?_
  refine .branch hs.wrAt.wrs.wrAt ?_
  exact .branch hs.wrAt.vlvClear.vlvHsClear (.branch hs (.branch hs.wrAt (.branch hs.wrAt.izConfig hs.izConfig)))

theorem izBytes {l} (hs : Leads m s) : Leads m (s.izBytes l) := by
  induction l generalizing s with
  | nil => exact hs
  | cons v l ih => exact .branch hs (ih hs.wr.izWrite)

theorem izWriteTrans {l} (hs : Leads m s) : Leads m (s.izWriteTrans l) := by
  unfold State.izWriteTrans
  extract_lets
  split
  · exact hs.upd
  · exact .branch hs.upd.wr.izBytes hs.upd

theorem izReadBytes {n} (hs : Leads m s) : Leads m (s.izReadBytes n).2 := by
  induction n generalizing s with
  | zero => exact hs
  | succ n ih => exact ih hs.izRead.wr

theorem izReadTrans {n} (hs : Leads m s) : Leads m (s.izReadTrans n) := .branch hs.izReadBytes.upd hs.upd

theorem execIz30WriteTransaction {bytes} (hs : Leads m s) : LeadsOut m (execIz30WriteTransaction bytes s) := hs.izWriteTrans.fin

theorem execIz30ReadTransaction {count} (hs : Leads m s) : LeadsOut m (execIz30ReadTransaction count s) := hs.izReadTrans.fin

theorem execIzPairHighRead {reg} (hs : Leads m s) : LeadsOut m (execIzPairHighRead reg s) :=
  .branch hs.izWriteTrans.izReadTrans.fin hs.fin

theorem execIzPairLowWrite {reg value} (hs : Leads m s) : LeadsOut m (execIzPairLowWrite reg value s) :=
  .branch hs.izWriteTrans.fin hs.fin

theorem execIzCmdReset (hs : Leads m s) : LeadsOut m (execIzCmdReset s) := hs.izWriteTrans.fin

theorem execIzCmdSave (hs : Leads m s) : LeadsOut m (execIzCmdSave s) := hs.izWriteTrans.fin

theorem execIz30ReloadDone {acks placed} (hs : Leads m s) : LeadsOut m (execIz30ReloadDone acks placed s) := by
  unfold Machine.execIz30ReloadDone
  extract_lets t
  have ht : Leads m t := hs.setEeprom (Memory.wf_writes _)
  refine .branch hs.fin ?_
  split
  · exact ht.wr.bootRej.wrAt.fin
  · exact ht.wr.bootRej.izMirror.izNative.izReloadLoops.wrAt.fin

theorem execIz30AdcConversion (hs : Leads m s) : LeadsOut m (execIz30AdcConversion s) := .branch hs.fin hs.wrAt.wrAt.wrs.wrAt.wrAt.fin

theorem execIzAdcDhRead (hs : Leads m s) : LeadsOut m (execIzAdcDhRead s) := hs.izWriteTrans.izReadTrans.fin

theorem execIzAdcDlRead (hs : Leads m s) : LeadsOut m (execIzAdcDlRead s) := hs.izWriteTrans.izReadTrans.fin

theorem execIzAdcCtrlWrite {value} (hs : Leads m s) : LeadsOut m (execIzAdcCtrlWrite value s) := hs.izWriteTrans.fin

theorem execIzFaultClear {mask} (hs : Leads m s) : LeadsOut m (execIzFaultClear mask s) := hs.izWriteTrans.fin

theorem execIz30FanFail {fan} (hs : Leads m s) : LeadsOut m (execIz30FanFail fan s) := .branch hs.fin hs.orAt.orAt.fin

theorem execRoomUnitPoll {unit} (hs : Leads m s) : LeadsOut m (execRoomUnitPoll unit s) := .branch hs.fin hs.hush.say.wrsAt.fin

theorem execRoomUnitReply {unit bytes} (hs : Leads m s) : LeadsOut m (execRoomUnitReply unit bytes s) := .branch hs.fin hs.wrsAt.wrAt.fin

theorem execRoomUnitTimeout {unit} (hs : Leads m s) : LeadsOut m (execRoomUnitTimeout unit s) :=
  .branch hs.fin (fin (.whenB hs.wrsAt fun _ ht => ht.orAt))

/-! What is kept by the panel drive (R416 to R431). -/

theorem mismatch {r out} (hs : Leads m s) : Leads m (s.mismatch r out) := hs.wrs.count

theorem readBackRow {r l} (hs : Leads m s) : Leads m (s.readBackRow r l) :=
  .branch (.raise (.wr (.each hs fun _ _ ht => ht.mismatch))) (.each hs fun _ _ ht => ht.mismatch)

theorem fbError {r l} (hs : Leads m s) : Leads m (s.fbError r l) := .branch hs (.whenB hs.upd.memErr fun _ hu => hu.wr)

theorem execPanelLineSlot {us sources gates bad} (hs : Leads m s) : LeadsOut m (execPanelLineSlot us sources gates bad s) := by
  unfold Machine.execPanelLineSlot
  extract_lets n r row bytes t u v
  have hu : Leads m u := .branch hs.fbError.readBackRow hs.fbError
  have hv : Leads m v := hu.balance.wr
  exact .branch hs.fin (fin (.branch hv.wrs hv.wr))

theorem fetchWord {c w} (hs : Leads m s) : Leads m (s.fetchWord c w).2 := by
  unfold State.fetchWord
  extract_lets
  exact .branch_snd hs.noteDue.takeFree hs.ceFix

theorem fieldValue {w} (hs : Leads m s) : Leads m (s.fieldValue w).2 := by
  unfold State.fieldValue
  extract_lets
  exact .branch_snd hs.fetchWord (.branch_snd hs (.branch_snd hs.fetchWord hs))

theorem fieldText {i} (hs : Leads m s) : Leads m (s.fieldText i).2 := by
  unfold State.fieldText
  extract_lets
  exact .branch_snd hs hs.fieldValue

theorem itemText {i} (hs : Leads m s) : Leads m (s.itemText i).2 := by
  unfold State.itemText
  exact .branch_snd hs (.branch_snd hs.fieldText hs)

theorem composerError {l} (hs : Leads m s) : Leads m (s.composerError l) := .branch hs (.memErr (.each hs.upd fun _ _ ht => ht.wr))

theorem fieldFetch {i} (hs : Leads m s) : Leads m (s.fieldFetch i).2 := by
  unfold State.fieldFetch
  extract_lets
  split
  · exact hs.fetchAsk.itemText
  · exact hs.takeFree.fetchAsk.itemText

theorem texts {l} (hs : Leads m s) : Leads m (s.texts l).2 := by
  induction l generalizing s with
  | nil => exact hs
  | cons i l ih => exact ih (.branch_snd hs.fieldFetch hs.itemText)

theorem compFetch (hs : Leads m s) : Leads m s.compFetch :=
  .branch hs (.foldl hs.wr fun _ _ ht => .branch ht.fieldFetch.upd.wr ht.fieldFetch.upd)

theorem frameStart {pol} (hs : Leads m s) : Leads m (s.frameStart pol) := by
  unfold State.frameStart
  extract_lets t u b v
  have hu : Leads m u := .branch hs.wrs.wrs hs.wrs
  have hv : Leads m v := hu.countIf.wr
  exact .compFetch (.branch hv.wr.count hv)

theorem frameNext (hs : Leads m s) : Leads m s.frameNext := .branch (.branch hs.wrs.frameStart hs.wr.frameStart) hs.frameStart

theorem execPanelFrameEnd {us} (hs : Leads m s) : LeadsOut m (execPanelFrameEnd us s) := .branch hs.fin hs.balance.countIf.frameNext.fin

theorem execPanelSupplyGood {supply} (hs : Leads m s) : LeadsOut m (execPanelSupplyGood supply s) :=
  .branch hs.putBit.panelIdle.fin hs.fin

theorem execPanelStart (hs : Leads m s) : LeadsOut m (execPanelStart s) := .branch hs.wrs.count.frameStart.fin hs.fin

theorem execPanelSupplyFault {supply} (hs : Leads m s) : LeadsOut m (execPanelSupplyFault supply s) := by
  unfold Machine.execPanelSupplyFault
  extract_lets a t
  have ha : Leads m a := .branch hs.panelAbandon hs
  have ht : Leads m t := .wr (.branch ha.putBit ha)
  exact .branch ht.wrs.count.raise.panelIdle.fin (fin (.branch ht.panelIdle ht))

theorem execPanelDischargeDone (hs : Leads m s) : LeadsOut m (execPanelDischargeDone s) :=
  .branch hs.wrs.fin (.branch hs.wrs.count.raise.panelIdle.fin hs.fin)

theorem draw {l clear} (hs : Leads m s) : Leads m (s.draw l clear) := .upd (.each hs fun _ _ ht => ht.wrAt)

theorem execComposerPageDraw {badItems} (hs : Leads m s) : LeadsOut m (execComposerPageDraw badItems s) :=
  .branch hs.fin hs.composerError.texts.draw.wrs.upd.count.fin

theorem redraw {item i text} (hs : Leads m s) : Leads m (s.redraw item i text) := hs.draw.upd.count.countIf.wr

theorem execComposerFieldRedraw {item bad} (hs : Leads m s) : LeadsOut m (execComposerFieldRedraw item bad s) := by
  unfold Machine.execComposerFieldRedraw
  refine .branch hs.fin ?_
  split
  · exact .branch hs.fin (.branch hs.composerError.fin (.branch hs.fin (.branch hs.or.fin hs.redraw.fin)))
  · exact hs.fin

/-! What is kept by the test port (R456). -/

theorem execTapTckEdge {rising tms tdi} (hs : Leads m s) : LeadsOut m (execTapTckEdge rising tms tdi s) :=
  .branch hs.fin (.branch hs.upd.fin hs.takeFree.upd.fin)

/-! What every command keeps. -/

/-- Every command's answer is a next state made of the machine it ran on. -/
theorem exec {i : Instr} (hs : Leads m s) : LeadsOut m (exec i s) := by
  cases i with
  | periodWheelTick => exact hs.execPeriodWheelTick
  | coachEvaluation _ => exact hs.execCoachEvaluation
  | laneTimeout _ _ => exact hs.execLaneTimeout
  | laneSwapEntryTest _ => exact hs.execLaneSwapEntryTest
  | supvLaneRestore => exact hs.execSupvLaneRestore
  | laneRestoreRun _ _ _ => exact hs.execLaneRestoreRun
  | watchdogExpiry => exact hs.execWatchdogExpiry
  | supvWdtWrite _ => exact hs.execSupvWdtWrite
  | supvRepair => exact hs.execSupvRepair
  | supvRepairDone _ => exact hs.execSupvRepairDone
  | scrubCarriage _ => exact hs.execScrubCarriage
  | actuatorCommand _ => exact hs.execActuatorCommand
  | actuatorCommandNack => exact hs.execActuatorCommandNack
  | crossCheckRetry _ => exact hs.execCrossCheckRetry
  | crossCheckResult _ => exact hs.execCrossCheckResult
  | crossCheckAbandon _ => exact hs.execCrossCheckAbandon
  | coachCmdOpen => exact hs.execCoachCmdOpen
  | coachCmdClose => exact hs.execCoachCmdClose
  | coachCmdManual => exact hs.execCoachCmdManual
  | coachCmdShutter => exact hs.execCoachCmdShutter
  | coachWindowWrite _ _ => exact hs.execCoachWindowWrite
  | wheelLoRead => exact hs.execWheelLoRead
  | auditWindow _ _ => exact hs.execAuditWindow
  | pllLockLoss => exact hs.execPllLockLoss
  | clockFallbackReturn => exact hs.execClockFallbackReturn
  | auditOscFail => exact hs.execAuditOscFail
  | coachBusRequest _ _ _ _ _ => exact hs.execCoachBusRequest
  | arbitration _ _ _ _ _ => exact hs.execArbitration
  | carriageEnd _ => exact hs.execCarriageEnd
  | holdLong => exact hs.execHoldLong
  | resourceRequest _ _ _ => exact hs.execResourceRequest
  | arbSwapReq _ => exact hs.execArbSwapReq
  | seatPlanSwap => exact hs.execSeatPlanSwap
  | arbWmaxClr _ => exact hs.execArbWmaxClr
  | scanEntryStart _ _ => exact hs.execScanEntryStart
  | conversionResult _ _ _ => exact hs.execConversionResult
  | converterStartUpDone _ => exact hs.execConverterStartUpDone
  | sampleMoverEntry _ => exact hs.execSampleMoverEntry
  | occHoldExpiry _ => exact hs.execOccHoldExpiry
  | lrWindowEnd _ => exact hs.execLrWindowEnd
  | uiComparatorEdge _ _ _ => exact hs.execUiComparatorEdge
  | uiLogicStore _ => exact hs.execUiLogicStore
  | uiSettingsWrite _ _ => exact hs.execUiSettingsWrite
  | sensorPollStart _ => exact hs.execSensorPollStart
  | sensorPollDone _ => exact hs.execSensorPollDone
  | snsStretchTimeout => exact hs.execSnsStretchTimeout
  | urgentRequest _ _ _ => exact hs.execUrgentRequest
  | urgentConversionDone _ _ _ => exact hs.execUrgentConversionDone
  | convUrgGo _ _ => exact hs.execConvUrgGo
  | calReq _ => exact hs.execCalReq
  | selfCalDue _ => exact hs.execSelfCalDue
  | selfCalStart _ _ _ => exact hs.execSelfCalStart
  | reliefHandover _ _ _ => exact hs.execReliefHandover
  | calRunDone _ _ _ _ => exact hs.execCalRunDone
  | calHandback _ => exact hs.execCalHandback
  | healthCheckDone _ _ _ => exact hs.execHealthCheckDone
  | converterStuck _ _ _ => exact hs.execConverterStuck
  | refinLoss => exact hs.execRefinLoss
  | refinRestore => exact hs.execRefinRestore
  | calSysGo _ _ => exact hs.execCalSysGo
  | calSysAbort => exact hs.execCalSysAbort
  | calSysPointDone => exact hs.execCalSysPointDone
  | fanCatchTimeout => exact hs.execFanCatchTimeout
  | fanAlignOpenPhase => exact hs.execFanAlignOpenPhase
  | fanAlignDone => exact hs.execFanAlignDone
  | fanObserverConverged _ field _ => exact hs.execFanObserverConverged (field := field)
  | fanRampTimeout => exact hs.execFanRampTimeout
  | fanRetryWaitEnd => exact hs.execFanRetryWaitEnd
  | fanStopDone => exact hs.execFanStopDone
  | fanCoastEnd => exact hs.execFanCoastEnd
  | fanStallWaitEnd _ => exact hs.execFanStallWaitEnd
  | fanOvercurrent => exact hs.execFanOvercurrent
  | fanVdrvLow => exact hs.execFanVdrvLow
  | fanVdrvGood => exact hs.execFanVdrvGood
  | fanBootstrapLow _ => exact hs.execFanBootstrapLow
  | fanSyncLoss => exact hs.execFanSyncLoss
  | fanUnlock _ => exact hs.execFanUnlock
  | fanStallCntReset _ => exact hs.execFanStallCntReset
  | fanTachEdge _ _ => exact hs.execFanTachEdge
  | fanTachSpeedTimeout _ => exact hs.execFanTachSpeedTimeout
  | fanSpeedStep _ => exact hs.execFanSpeedStep
  | fanTstartTimeout _ => exact hs.execFanTstartTimeout
  | fanKickEnd _ => exact hs.execFanKickEnd
  | fanTachLost _ => exact hs.execFanTachLost
  | fanAutoTableStep _ => exact hs.execFanAutoTableStep
  | valvePulseGrid _ => exact hs.execValvePulseGrid
  | valvePeakEnd _ => exact hs.execValvePeakEnd
  | valveHoldEnd _ => exact hs.execValveHoldEnd
  | valveCoilBandRead => exact hs.execValveCoilBandRead
  | valveModeWrite _ => exact hs.execValveModeWrite
  | valveOffTestStart _ => exact hs.execValveOffTestStart
  | valveOffTestDone _ _ _ _ _ => exact hs.execValveOffTestDone
  | vlvDiagNow _ => exact hs.execVlvDiagNow
  | valveOpenLoadCheck _ _ => exact hs.execValveOpenLoadCheck
  | valveLowSideOvercurrent _ => exact hs.execValveLowSideOvercurrent
  | valveHighSideOvercurrent _ _ => exact hs.execValveHighSideOvercurrent
  | valveHsOcRestart _ => exact hs.execValveHsOcRestart
  | vlvClear _ => exact hs.execVlvClear
  | vlvHsClear _ => exact hs.execVlvHsClear
  | damperSchedTick => exact hs.execDamperSchedTick
  | damperMoveDone _ => exact hs.execDamperMoveDone
  | damperStall _ => exact hs.execDamperStall
  | damperHomeFail _ => exact hs.execDamperHomeFail
  | damperFeedbackCheck _ => exact hs.execDamperFeedbackCheck
  | damperBridgeOvercurrent _ => exact hs.execDamperBridgeOvercurrent
  | damperOpenWinding _ => exact hs.execDamperOpenWinding
  | dmpHome _ => exact hs.execDmpHome
  | dmpClear _ => exact hs.execDmpClear
  | boOvercurrent _ => exact hs.execBoOvercurrent
  | boOcRestart _ => exact hs.execBoOcRestart
  | boMinTimeExpiry _ => exact hs.execBoMinTimeExpiry
  | boOpenLoad _ => exact hs.execBoOpenLoad
  | boClear _ => exact hs.execBoClear
  | thermalSample _ => exact hs.execThermalSample
  | thermalFastStep => exact hs.execThermalFastStep
  | thermalNodata _ => exact hs.execThermalNodata
  | thermalHoldEnd => exact hs.execThermalHoldEnd
  | thermalPowerEstimate _ => exact hs.execThermalPowerEstimate
  | thermReadmit _ => exact hs.execThermReadmit
  | thermReadmitResult _ => exact hs.execThermReadmitResult
  | rtcSecondTick _ => exact hs.execRtcSecondTick
  | rtcCompSample _ => exact hs.execRtcCompSample
  | rtcCompWindow => exact hs.execRtcCompWindow
  | rtcOscStop => exact hs.execRtcOscStop
  | rtcOscRestart => exact hs.execRtcOscRestart
  | rtcSet => exact hs.execRtcSet
  | rtcSetLoad _ => exact hs.execRtcSetLoad
  | rtcSetWday => exact hs.execRtcSetWday
  | rtcRearm => exact hs.execRtcRearm
  | rtcShiftGo _ _ => exact hs.execRtcShiftGo
  | rtcShiftApply _ => exact hs.execRtcShiftApply
  | rtcTimeRead => exact hs.execRtcTimeRead
  | backupSwitchVbat _ => exact hs.execBackupSwitchVbat
  | backupSwitchMain => exact hs.execBackupSwitchMain
  | vbatLow => exact hs.execVbatLow
  | retentionLatchTrip => exact hs.execRetentionLatchTrip
  | zoneForceWrite _ => exact hs.execZoneForceWrite
  | bootResetRelease _ => exact hs.execBootResetRelease
  | regionStageWrite _ _ => exact hs.execRegionStageWrite
  | rgnStart => exact hs.execRgnStart
  | rgnAbort => exact hs.execRgnAbort
  | regionValidationDone _ => exact hs.execRegionValidationDone
  | regionApply _ => exact hs.execRegionApply
  | coachGroupWrite _ => exact hs.execCoachGroupWrite
  | imgPersistOpen => exact hs.execImgPersistOpen
  | imgPersistCommit => exact hs.execImgPersistCommit
  | imgPersistAbort => exact hs.execImgPersistAbort
  | persistOpenDone _ => exact hs.execPersistOpenDone
  | persistCommitDone _ => exact hs.execPersistCommitDone
  | powerOn _ => exact hs.execPowerOn
  | brownOut => exact hs.execBrownOut
  | earlyWarning => exact hs.execEarlyWarning
  | earlyWarningClear => exact hs.execEarlyWarningClear
  | vddaUv => exact hs.execVddaUv
  | vddaUvClear => exact hs.execVddaUvClear
  | vmFault _ => exact hs.execVmFault
  | vmFaultClear _ => exact hs.execVmFaultClear
  | resetNAssert => exact hs.execResetNAssert
  | pwrModeNative => exact hs.execPwrModeNative
  | pwrModeService => exact hs.execPwrModeService
  | pwrModeStandby => exact hs.execPwrModeStandby
  | pwrModeWake => exact hs.execPwrModeWake
  | pwrRstSoft => exact hs.execPwrRstSoft
  | pwrRstCold => exact hs.execPwrRstCold
  | softResetResume => exact hs.execSoftResetResume
  | linkUp _ _ _ => exact hs.execLinkUp
  | linkDown => exact hs.execLinkDown
  | netRelink => exact hs.execNetRelink
  | netScRetry => exact hs.execNetScRetry
  | ethFrameRx _ => exact hs.execEthFrameRx
  | dhcpTimer _ => exact hs.execDhcpTimer
  | ipConflict => exact hs.execIpConflict
  | staticReprobe _ => exact hs.execStaticReprobe
  | fdrTimer _ => exact hs.execFdrTimer
  | scConnectAttempt _ _ => exact hs.execScConnectAttempt
  | scConnectionLost => exact hs.execScConnectionLost
  | scHeartbeatDue => exact hs.execScHeartbeatDue
  | scKeyGeneration _ => exact hs.execScKeyGeneration
  | mstpFrame _ _ => exact hs.execMstpFrame
  | modbusReadHoldingRegisters _ _ _ _ => exact hs.execModbusReadHoldingRegisters
  | modbusReadInputRegisters _ _ _ _ => exact hs.execModbusReadInputRegisters
  | modbusWriteSingleRegister _ _ _ _ => exact hs.execModbusWriteSingleRegister
  | modbusWriteMultipleRegisters _ _ _ _ => exact hs.execModbusWriteMultipleRegisters
  | modbusReadDeviceIdentification _ _ => exact hs.execModbusReadDeviceIdentification
  | modbusUnsupportedFunction _ _ _ => exact hs.execModbusUnsupportedFunction
  | modbusClientPoll _ _ => exact hs.execModbusClientPoll
  | modbusClientReply _ _ _ => exact hs.execModbusClientReply
  | modbusClientTimeout _ _ => exact hs.execModbusClientTimeout
  | bacnetReadProperty _ _ => exact hs.execBacnetReadProperty
  | bacnetWriteProperty _ _ => exact hs.execBacnetWriteProperty
  | bacnetSubscribeCov _ _ => exact hs.execBacnetSubscribeCov
  | bacnetAcknowledgeAlarm _ _ _ => exact hs.execBacnetAcknowledgeAlarm
  | bacnetGetEventInformation _ => exact hs.execBacnetGetEventInformation
  | bacnetReadRange _ _ _ _ => exact hs.execBacnetReadRange
  | bacnetWhoIs _ _ => exact hs.execBacnetWhoIs
  | timeSynchronization _ _ => exact hs.execTimeSynchronization
  | reinitializeDevice _ _ _ => exact hs.execReinitializeDevice
  | deviceCommunicationControl _ _ _ _ => exact hs.execDeviceCommunicationControl
  | atomicWriteFile _ _ _ _ => exact hs.execAtomicWriteFile
  | bacnetUnrecognizedService _ => exact hs.execBacnetUnrecognizedService
  | netSupervisionExpiry => exact hs.execNetSupervisionExpiry
  | trendLogInterval _ => exact hs.execTrendLogInterval
  | covSubscriptionExpiry _ _ => exact hs.execCovSubscriptionExpiry
  | lyaleRead _ _ _ => exact hs.execLyaleRead
  | lyaleWrite _ _ _ => exact hs.execLyaleWrite
  | lyaleUnknownOpc _ _ _ => exact hs.execLyaleUnknownOpc
  | hostFrameTruncated => exact hs.execHostFrameTruncated
  | i2cResponseRead _ => exact hs.execI2cResponseRead
  | evcSnapshot => exact hs.execEvcSnapshot
  | evcClearAll => exact hs.execEvcClearAll
  | doorFirstStep _ _ => exact hs.execDoorFirstStep
  | doorSecondStep _ _ => exact hs.execDoorSecondStep
  | doorClose _ => exact hs.execDoorClose
  | doorStepTimeout => exact hs.execDoorStepTimeout
  | doorTimeout _ => exact hs.execDoorTimeout
  | hostHbWrite _ => exact hs.execHostHbWrite
  | hbTimeoutWrite _ => exact hs.execHbTimeoutWrite
  | heartbeatExpiry => exact hs.execHeartbeatExpiry
  | hatchRead => exact hs.execHatchRead
  | hatchProgram => exact hs.execHatchProgram
  | hatchErase => exact hs.execHatchErase
  | hatchOpDone _ _ => exact hs.execHatchOpDone
  | evcCfgWrite _ => exact hs.execEvcCfgWrite
  | otpProgHash => exact hs.execOtpProgHash
  | otpProgSigned => exact hs.execOtpProgSigned
  | otpProgDone _ => exact hs.execOtpProgDone
  | panelLineSlot _ _ _ _ => exact hs.execPanelLineSlot
  | panelFrameEnd _ => exact hs.execPanelFrameEnd
  | composerFieldRedraw _ _ => exact hs.execComposerFieldRedraw
  | composerPageDraw _ => exact hs.execComposerPageDraw
  | panelSupplyGood _ => exact hs.execPanelSupplyGood
  | panelStart => exact hs.execPanelStart
  | panelSupplyFault _ => exact hs.execPanelSupplyFault
  | dispOff => exact hs.execDispOff
  | dispOn => exact hs.execDispOn
  | panelDischargeDone => exact hs.execPanelDischargeDone
  | iz30WriteTransaction _ => exact hs.execIz30WriteTransaction
  | iz30ReadTransaction _ => exact hs.execIz30ReadTransaction
  | izPairHighRead _ => exact hs.execIzPairHighRead
  | izPairLowWrite _ _ => exact hs.execIzPairLowWrite
  | izCmdReset => exact hs.execIzCmdReset
  | izCmdSave => exact hs.execIzCmdSave
  | iz30ReloadDone _ _ => exact hs.execIz30ReloadDone
  | iz30AdcConversion => exact hs.execIz30AdcConversion
  | izAdcDhRead => exact hs.execIzAdcDhRead
  | izAdcDlRead => exact hs.execIzAdcDlRead
  | izAdcCtrlWrite _ => exact hs.execIzAdcCtrlWrite
  | izFaultClear _ => exact hs.execIzFaultClear
  | iz30FanFail _ => exact hs.execIz30FanFail
  | roomUnitPoll _ => exact hs.execRoomUnitPoll
  | roomUnitReply _ _ => exact hs.execRoomUnitReply
  | roomUnitTimeout _ => exact hs.execRoomUnitTimeout
  | vbatLowClear => exact hs.execVbatLowClear
  | auditOscReturn => exact hs.execAuditOscReturn
  | dccDurationExpiry => exact hs.execDccDurationExpiry
  | eventTimeDelayExpiry _ _ => exact hs.execEventTimeDelayExpiry
  | mstpNoToken _ => exact hs.execMstpNoToken
  | tapTckEdge _ _ _ => exact hs.execTapTckEdge
  | damperPreemptStop _ _ => exact hs.execDamperPreemptStop

end Leads

end Sys2Proof.Machine
end

section
/-! What a step keeps: the command it takes leads to the next state (`Leads.exec`), and an idle step leaves the machine as it is. -/

namespace Sys2Proof.Machine

variable {s t : State}

theorem step_of_pending_nil (hp : s.pending = []) : step s = .next s := by
  rw [step, hp]

theorem step_of_pending_cons {c rest} (hp : s.pending = c :: rest) : step s = exec c { s with pending := rest } := by
  rw [step, hp]

theorem leads_of_step {c rest} (hp : s.pending = c :: rest) (h : step s = .next t) : Leads { s with pending := rest } t := by
  obtain ⟨u, hu, hl⟩ := (Leads.refl { s with pending := rest }).exec (i := c)
  rw [step_of_pending_cons hp, hu] at h
  cases h
  exact hl

/-- Settles O54: whatever command the step takes, each operation it is made of keeps the canonical form. -/
theorem stepKeepsCanonicalForm : Obligations.StepKeepsCanonicalForm := by
  intro s t hs h
  cases hp : s.pending with
  | nil =>
    rw [step_of_pending_nil hp] at h
    cases h
    exact hs
  | cons c rest => exact (leads_of_step hp h).canonical hs

end Sys2Proof.Machine
end

section
/-! What a boot reset leaves behind (R344, R345, R350): the fields of class K and, at their reset values, all others. -/

namespace Sys2Proof.Machine

variable {s t : State} {cause : Nat}

/-- A key that no cell kept by a filter has rests in the filtered store. -/
theorem Store.get_filter_of_not {p : Cell → Bool} {id ch d : Nat} (l : List Cell) (h : ∀ c : Cell, c.at id ch = true → p c = false) :
    Store.get (l.filter p) id ch d = d := by
  induction l with
  | nil => rfl
  | cons c l ih =>
    rw [List.filter_cons]
    split
    · rename_i hp
      have hc : c.at id ch = false := by
        by_contra hc
        simp [h c (by simpa using hc)] at hp
      simp [Store.get, hc, ih]
    · exact ih

theorem State.rdAt_wrs_id {l : List (Fld × Nat)} {f : Fld} {ch : Nat} (h : ∀ p ∈ l, f.id ≠ p.1.id) :
    (s.wrs l).rdAt f ch = s.rdAt f ch := by
  induction l generalizing s with
  | nil => rfl
  | cons p l ih =>
    obtain ⟨hp, hl⟩ := List.forall_mem_cons.mp h
    exact (ih hl).trans (State.rdAt_wrAt_id s p.1 f 0 ch p.2 hp)

/-- The level sources of counters at rest count nothing: source 0 names no level. -/
theorem State.evcEdge_of_evcs_rest (h : s.evcs = List.replicate 16 {}) : s.evcEdge = s := by
  have hsrc : ∀ k, isLevel (s.evcs.getD k {}).src = false := by
    intro k
    have hk : s.evcs.getD k {} = {} := by
      rw [h, List.getD_eq_getElem?_getD, List.getElem?_replicate]
      split <;> rfl
    rw [hk]
    decide
  unfold State.evcEdge
  split
  · rfl
  · exact List.foldl_fixed' (fun k => by simp only [hsrc, Bool.false_eq_true, if_false]) _

/-- What a boot reset of a cause leaves: BOOT with the cause recorded and the reset asserted, no queued work and no interrupt cause, and
every field at rest that is not of class K and not one of the reset's own records. -/
def State.Rebooted (t : State) (cause : Nat) : Prop :=
  t.mode = mBoot ∧ t.rd Reg.RST_CAUSE_CAUSE = cause ∧ t.rd Hid.resetActive = 1 ∧ t.due = [] ∧ t.actQ = [] ∧ t.intCause = 0 ∧
    ∀ (f : Fld) (ch : Nat), f.id % 4 ≠ 0 → f.id ≠ Reg.PWR_MODE_MODE.id → f.id ≠ Reg.RST_CAUSE_CAUSE.id → f.id ≠ Hid.resetActive.id →
      f.id ≠ Hid.pwrCause.id → f.id ≠ Hid.panelDis.id → f.id ≠ Hid.panelDisV.id → t.rdAt f ch = f.boot

theorem State.bootReset_rebooted (hc : cause < 8) : (s.bootReset cause).Rebooted cause := by
  unfold State.bootReset
  extract_lets m t
  have hrest : ∀ (f : Fld) (ch : Nat), f.id % 4 ≠ 0 → t.rdAt f ch = f.boot := fun f ch hf =>
    Store.get_filter_of_not _ fun c hat => by
      obtain ⟨hid, -⟩ : c.id = f.id ∧ c.ch = ch := by simpa [Cell.at] using hat
      simpa [hid] using hf
  refine ⟨?_, ?_, ?_, rfl, rfl, rfl, fun f ch hf h₁ h₂ h₃ h₄ h₅ h₆ => ?_⟩
  · simp (disch := decide) only [State.wrs, State.mode, State.rd_wr_ne, State.rd_wr_same]
    rfl
  · simp (disch := decide) only [State.wrs, State.rd_wr_ne, State.rd_wr_same]
    exact Nat.mod_eq_of_lt hc
  · simp (disch := decide) only [State.wrs, State.rd_wr_ne, State.rd_wr_same]
    rfl
  · refine (State.rdAt_wrs_id ?_).trans (hrest f ch hf)
    simp [h₁, h₂, h₃, h₄, h₅, h₆]

theorem State.bootReset_evcs : (s.bootReset cause).evcs = List.replicate 16 {} := rfl

theorem State.assertReset_of_alive (h : s.alive = true) : s.assertReset cause = s.bootReset cause := by
  obtain ⟨hmode, hact⟩ : s.mode ≠ mBackup ∧ s.rd Hid.resetActive = 0 := by simpa [State.alive] using h
  simp [State.assertReset, hmode, State.on, hact]

theorem State.Rebooted.fin (ht : t.Rebooted cause) (he : t.evcs = List.replicate 16 {}) : ∃ u, fin t = .next u ∧ u.Rebooted cause :=
  ⟨t, by rw [fin_next, State.evcEdge_of_evcs_rest he], ht⟩

theorem State.Rebooted.setTap (ht : t.Rebooted cause) (p : TapS) : ({ t with tap := p } : State).Rebooted cause := ht

theorem fin_assertReset (h : s.alive = true) (hc : cause < 8) : ∃ u, fin (s.assertReset cause) = .next u ∧ u.Rebooted cause := by
  rw [State.assertReset_of_alive h]
  exact (State.bootReset_rebooted hc).fin State.bootReset_evcs

theorem State.up_alive (h : s.up = true) : s.alive = true := by
  simp only [State.up, Bool.and_eq_true] at h
  exact h.1

theorem execPowerOn_of_alive (h : s.alive = true) : ∃ u, execPowerOn true s = .next u ∧ u.Rebooted 1 := by
  have hmode : s.mode ≠ mBackup := by
    intro hm
    simp [State.alive, hm] at h
  have hr : (s.bootReset 1).Rebooted 1 := State.bootReset_rebooted (by decide)
  have he : (s.bootReset 1).evcs = List.replicate 16 {} := State.bootReset_evcs
  rw [execPowerOn, if_neg hmode, if_pos rfl, State.assertReset_of_alive h]
  generalize s.bootReset 1 = t at hr he
  exact (hr.setTap _).fin he

/-- The machine with the records of a reset of this cause, as POWER_ON leaves them at the end of BACKUP. -/
def State.resetRecords (s : State) (cause : Nat) : State :=
  s.wrs [(Reg.PWR_MODE_MODE, mBoot), (Hid.resetActive, 1), (Reg.RST_CAUSE_CAUSE, cause), (Hid.pwrCause, cause)]

theorem State.resetRecords_reads (hc : cause < 8) : (s.resetRecords cause).mode = mBoot ∧
    (s.resetRecords cause).rd Hid.resetActive = 1 ∧ (s.resetRecords cause).rd Reg.RST_CAUSE_CAUSE = cause := by
  simp (disch := decide) only [State.resetRecords, State.wrs, State.mode, State.rd_wr_ne, State.rd_wr_same]
  exact ⟨rfl, rfl, Nat.mod_eq_of_lt hc⟩

/-- R337: the main supply's return ends BACKUP in a boot reset. -/
theorem execPowerOn_of_backup (below : Bool) (h : s.mode = mBackup) : ∃ u, execPowerOn below s = .next u ∧ u.mode = mBoot ∧
    u.rd Hid.resetActive = 1 ∧ u.rd Reg.RST_CAUSE_CAUSE = if below then 1 else 2 := by
  rw [execPowerOn, if_pos h, fin_next]
  refine ⟨_, rfl, ?_⟩
  simp only [State.mode, State.evcEdge_rd]
  cases below with
  | false => exact State.resetRecords_reads (by decide)
  | true => exact State.resetRecords_reads (s := s) (cause := 1) (by decide)

/-- Settles O13: a reset that arrives with none asserted is a boot reset of its cause, and the event counters, which rest after it, raise
no cause at the end of the command. -/
theorem bootResets : Obligations.BootResets := by
  refine ⟨fun s hup hop haud => ?_, fun s h => fin_assertReset h (by decide), fun s h => fin_assertReset h (by decide),
    fun s h => execPowerOn_of_alive h, fun s below h => execPowerOn_of_backup below h⟩
  obtain ⟨u, hu, hr⟩ := fin_assertReset (cause := 4) (State.up_alive hup) (by decide)
  exact ⟨u, (if_pos ⟨hup, hop, haud⟩).trans hu, hr⟩

end Sys2Proof.Machine
end

section
/-! What a change of the machine touches, said once: `Touches P L s t` names the components and the fields that may differ from `s` to `t`,
and says that no interrupt cause is lost. It composes along the model's definitions; of a list it asks only what `covered` computes. -/

namespace Sys2Proof.Machine

/-- The components of the machine that a command may leave alone: all but the register store, the interrupt causes, the free values and the
event counters with their wraps, which every command may touch at its end (R405). -/
inductive Part where
  | pending | evcStamp | due | upsets | actQ | xchks | arb | convs | cals | relief | urgMore | pulses | snsTx | otp | avs | dmp | schedLog
  | flash | eeprom | rgn | hatch | resp | sent | netImg | net | drawn | held | fbBad | compBad | tap
  deriving DecidableEq

/-- A component is the same in two machines. -/
def Part.Same : Part → State → State → Prop
  | .pending, s, t => t.pending = s.pending
  | .evcStamp, s, t => t.evcStamp = s.evcStamp
  | .due, s, t => t.due = s.due
  | .upsets, s, t => t.upsets = s.upsets
  | .actQ, s, t => t.actQ = s.actQ
  | .xchks, s, t => t.xchks = s.xchks
  | .arb, s, t => t.arb = s.arb
  | .convs, s, t => t.convs = s.convs
  | .cals, s, t => t.cals = s.cals
  | .relief, s, t => t.relief = s.relief
  | .urgMore, s, t => t.urgMore = s.urgMore
  | .pulses, s, t => t.pulses = s.pulses
  | .snsTx, s, t => t.snsTx = s.snsTx
  | .otp, s, t => t.otp = s.otp
  | .avs, s, t => t.avs = s.avs
  | .dmp, s, t => t.dmp = s.dmp
  | .schedLog, s, t => t.schedLog = s.schedLog
  | .flash, s, t => t.flash = s.flash
  | .eeprom, s, t => t.eeprom = s.eeprom
  | .rgn, s, t => t.rgn = s.rgn
  | .hatch, s, t => t.hatch = s.hatch
  | .resp, s, t => t.resp = s.resp
  | .sent, s, t => t.sent = s.sent
  | .netImg, s, t => t.netImg = s.netImg
  | .net, s, t => t.net = s.net
  | .drawn, s, t => t.drawn = s.drawn
  | .held, s, t => t.held = s.held
  | .fbBad, s, t => t.fbBad = s.fbBad
  | .compBad, s, t => t.compBad = s.compBad
  | .tap, s, t => t.tap = s.tap

theorem Part.Same.refl (p : Part) (s : State) : p.Same s s := by cases p <;> rfl

theorem Part.Same.trans {p : Part} {s t u : State} (h : p.Same s t) (g : p.Same t u) : p.Same s u := by
  cases p <;> exact Eq.trans g h

/-- The machine `t` where the components `P` are concerned, and `s` in all others. -/
def State.mask (P : List Part) (s t : State) : State :=
  { s with
    regs := t.regs, free := t.free, intCause := t.intCause, evcs := t.evcs, evcWrap := t.evcWrap
    pending := if .pending ∈ P then t.pending else s.pending
    evcStamp := if .evcStamp ∈ P then t.evcStamp else s.evcStamp
    due := if .due ∈ P then t.due else s.due
    upsets := if .upsets ∈ P then t.upsets else s.upsets
    actQ := if .actQ ∈ P then t.actQ else s.actQ
    xchks := if .xchks ∈ P then t.xchks else s.xchks
    arb := if .arb ∈ P then t.arb else s.arb
    convs := if .convs ∈ P then t.convs else s.convs
    cals := if .cals ∈ P then t.cals else s.cals
    relief := if .relief ∈ P then t.relief else s.relief
    urgMore := if .urgMore ∈ P then t.urgMore else s.urgMore
    pulses := if .pulses ∈ P then t.pulses else s.pulses
    snsTx := if .snsTx ∈ P then t.snsTx else s.snsTx
    otp := if .otp ∈ P then t.otp else s.otp
    avs := if .avs ∈ P then t.avs else s.avs
    dmp := if .dmp ∈ P then t.dmp else s.dmp
    schedLog := if .schedLog ∈ P then t.schedLog else s.schedLog
    flash := if .flash ∈ P then t.flash else s.flash
    eeprom := if .eeprom ∈ P then t.eeprom else s.eeprom
    rgn := if .rgn ∈ P then t.rgn else s.rgn
    hatch := if .hatch ∈ P then t.hatch else s.hatch
    resp := if .resp ∈ P then t.resp else s.resp
    sent := if .sent ∈ P then t.sent else s.sent
    netImg := if .netImg ∈ P then t.netImg else s.netImg
    net := if .net ∈ P then t.net else s.net
    drawn := if .drawn ∈ P then t.drawn else s.drawn
    held := if .held ∈ P then t.held else s.held
    fbBad := if .fbBad ∈ P then t.fbBad else s.fbBad
    compBad := if .compBad ∈ P then t.compBad else s.compBad
    tap := if .tap ∈ P then t.tap else s.tap }

/-- The components `P` and the fields `L`, told by their numbers, are among `P'` and `L'`. -/
def covered (P : List Part) (L : List Fld) (P' : List Part) (L' : List Fld) : Bool :=
  (P.all fun p => P'.contains p) && L.all fun f => L'.any fun g => Nat.beq g.id f.id

/-- What a change from `s` to `t` may touch: of the fields those of `L`, of the components those of `P`, and no cause is lost. -/
structure Touches (P : List Part) (L : List Fld) (s t : State) : Prop where
  fields : s.sameBut L t
  causes : s.causesKept t
  parts : ∀ p, p ∉ P → p.Same s t

variable {m s t u : State} {P P' : List Part} {L L' : List Fld}

theorem covered_iff : covered P L P' L' = true ↔ (∀ p ∈ P, p ∈ P') ∧ ∀ f ∈ L, f.id ∈ L'.map Fld.id := by
  simp [covered]

theorem bit_eq_testBit (v n : Nat) : bit v n = v.testBit n := by
  rw [Nat.testBit_eq_decide_div_mod_eq]
  rfl

namespace Touches

theorem refl (s : State) : Touches [] [] s s := ⟨fun _ _ _ => rfl, fun _ h => h, fun p _ => .refl p s⟩

/-- What a change may touch may be said of more than it does touch. -/
theorem of (h : covered P' L' P L = true) (hs : Touches P' L' s t) : Touches P L s t := by
  obtain ⟨hP, hL⟩ := covered_iff.mp h
  refine ⟨fun f hf => hs.fields f fun hm => hf ?_, hs.causes, fun p hp => hs.parts p fun hm => hp (hP p hm)⟩
  obtain ⟨g, hg, hid⟩ := List.mem_map.mp hm
  exact hid ▸ hL g hg

/-- The same, where the fields are listed already. -/
theorem more (hP : ∀ p ∈ P', p ∈ P) (hL : ∀ f ∈ L', f ∈ L) (hs : Touches P' L' s t) : Touches P L s t :=
  hs.of (covered_iff.mpr ⟨hP, fun f hf => List.mem_map_of_mem (hL f hf)⟩)

theorem left (h : Touches P L s t) : Touches (P ++ P') (L ++ L') s t :=
  h.more (fun _ => List.mem_append_left _) (fun _ => List.mem_append_left _)

theorem right (h : Touches P' L' s t) : Touches (P ++ P') (L ++ L') s t :=
  h.more (fun _ => List.mem_append_right _) (fun _ => List.mem_append_right _)

theorem trans (h : Touches P L s t) (g : Touches P L t u) : Touches P L s u :=
  ⟨fun f hf ch => (g.fields f hf ch).trans (h.fields f hf ch), fun n hn => g.causes n (h.causes n hn),
    fun p hp => (h.parts p hp).trans (g.parts p hp)⟩

/-- One change after another. -/
theorem andThen (h : Touches P L m s) (g : Touches P' L' s t) : Touches (P ++ P') (L ++ L') m t := h.left.trans g.right

theorem eq_mask (h : Touches P L s t) : t = s.mask P t := by
  have hp := h.parts
  have key : ∀ {α : Type} {p : Part} {x y : α}, (p ∉ P → x = y) → x = if p ∈ P then x else y := by
    intro α p x y hxy
    split
    · rfl
    · exact hxy ‹_›
  cases t
  simp only [State.mask, State.mk.injEq, true_and]
  exact ⟨key (hp .pending), key (hp .evcStamp), key (hp .due), key (hp .upsets), key (hp .actQ), key (hp .xchks), key (hp .arb),
    key (hp .convs), key (hp .cals), key (hp .relief), key (hp .urgMore), key (hp .pulses), key (hp .snsTx), key (hp .otp), key (hp .avs),
    key (hp .dmp), key (hp .schedLog), key (hp .flash), key (hp .eeprom), key (hp .rgn), key (hp .hatch), key (hp .resp), key (hp .sent),
    key (hp .netImg), key (hp .net), key (hp .drawn), key (hp .held), key (hp .fbBad), key (hp .compBad), key (hp .tap)⟩

/-! The control structure of the model's definitions. -/

theorem branch {c : Prop} {inst : Decidable c} (hs : Touches P L m s) (ht : Touches P' L' m t) :
    Touches (P ++ P') (L ++ L') m (if c then s else t) := by
  split
  · exact hs.left
  · exact ht.right

/-- Two branches that touch the same. -/
theorem either {c : Prop} {inst : Decidable c} (hs : Touches P L m s) (ht : Touches P L m t) : Touches P L m (if c then s else t) := by
  split
  · exact hs
  · exact ht

theorem branch_snd {α : Type} {x y : α × State} {c : Prop} {inst : Decidable c} (hx : Touches P L m x.2) (hy : Touches P' L' m y.2) :
    Touches (P ++ P') (L ++ L') m (if c then x else y).2 := by
  split
  · exact hx.left
  · exact hy.right

theorem foldl_mem {α : Type} {l : List α} {f : State → α → State} (hf : ∀ t, ∀ a ∈ l, Touches P L t (f t a)) :
    Touches P L s (l.foldl f s) := by
  induction l generalizing s with
  | nil => exact (refl s).more (by simp) (by simp)
  | cons a l ih => exact (hf s a (by simp)).trans (ih fun t b hb => hf t b (by simp [hb]))

theorem foldl {α : Type} {l : List α} {f : State → α → State} (hs : Touches P L m s) (hf : ∀ t a, Touches P' L' t (f t a)) :
    Touches (P ++ P') (L ++ L') m (l.foldl f s) := hs.andThen (foldl_mem fun t a _ => hf t a)

theorem each {α : Type} {l : List α} {f : State → α → State} (hs : Touches P L m s) (hf : ∀ t a, Touches P' L' t (f t a)) :
    Touches (P ++ P') (L ++ L') m (s.each l f) := hs.foldl hf

theorem whenB {b : Bool} {f : State → State} (hs : Touches P L m s) (hf : ∀ t, Touches P' L' t (f t)) :
    Touches (P ++ P') (L ++ L') m (s.whenB b f) := by
  unfold State.whenB
  split
  · exact hs.andThen (hf s)
  · exact hs.left

/-! The store, the causes, the free values and the components. -/

theorem wrAt {f ch v} (hs : Touches P L m s) : Touches P (f :: L) m (s.wrAt f ch v) :=
  ⟨fun g hg k => (State.rdAt_wrAt_id s f g ch k v fun h => hg (by simp [h])).trans (hs.fields g (fun h => hg (by simp [h])) k),
    hs.causes, fun p hp => (hs.parts p hp).trans (by cases p <;> rfl)⟩

theorem wr {f v} (hs : Touches P L m s) : Touches P (f :: L) m (s.wr f v) := hs.wrAt

theorem wrI {f ch v} (hs : Touches P L m s) : Touches P (f :: L) m (s.wrI f ch v) := hs.wrAt

theorem orAt {f ch v} (hs : Touches P L m s) : Touches P (f :: L) m (s.orAt f ch v) := hs.wrAt

theorem clrAt {f ch v} (hs : Touches P L m s) : Touches P (f :: L) m (s.clrAt f ch v) := hs.wrAt

theorem or {f v} (hs : Touches P L m s) : Touches P (f :: L) m (s.or f v) := hs.orAt

theorem putBit {f n b} (hs : Touches P L m s) : Touches P (f :: L) m (s.putBit f n b) := hs.wr

theorem wrsAt {ch} {l : List (Fld × Nat)} (hs : Touches P L m s) : Touches P (L ++ l.map Prod.fst) m (s.wrsAt ch l) := by
  induction l generalizing s L with
  | nil => rw [List.map_nil, List.append_nil]; exact hs
  | cons p l ih =>
    refine (ih (hs.wrAt (f := p.1))).more (fun _ => id) fun f hf => ?_
    simp only [List.map_cons, List.mem_append, List.mem_cons] at hf ⊢
    tauto

theorem wrs {l : List (Fld × Nat)} (hs : Touches P L m s) : Touches P (L ++ l.map Prod.fst) m (s.wrs l) := by
  induction l generalizing s L with
  | nil => rw [List.map_nil, List.append_nil]; exact hs
  | cons p l ih =>
    refine (ih (hs.wrAt (f := p.1))).more (fun _ => id) fun f hf => ?_
    simp only [List.map_cons, List.mem_append, List.mem_cons] at hf ⊢
    tauto

theorem raise {n} (hs : Touches P L m s) : Touches P L m (s.raise n) :=
  ⟨hs.fields, fun k hk => by
    have := hs.causes k hk
    rw [bit_eq_testBit] at this ⊢
    simp [State.raise, Nat.testBit_or, this], fun p hp => (hs.parts p hp).trans (by cases p <;> rfl)⟩

/-- A change of the components `Q`, and perhaps of the free values, the counters and their wraps. -/
theorem set (Q : List Part) (hs : Touches P L m s) (h : t = s.mask Q t) (hr : t.regs = s.regs) (hc : t.intCause = s.intCause) :
    Touches (P ++ Q) L m t := by
  have hQ : ∀ p, p ∉ Q → p.Same s (s.mask Q t) := by
    intro p hp
    cases p <;> simp only [Part.Same, State.mask, hp, if_false]
  have g : Touches Q [] s t :=
    ⟨fun f _ ch => State.rdAt_of_regs hr f ch, fun n hn => by rwa [hc], fun p hp => by rw [h]; exact hQ p hp⟩
  simpa using hs.andThen g

/-- The free values, the counters and their wraps may change at any time. -/
theorem setEvc {free evcs evcWrap} (hs : Touches P L m s) : Touches P L m { s with free := free, evcs := evcs, evcWrap := evcWrap } := by
  simpa using hs.set (t := { s with free := free, evcs := evcs, evcWrap := evcWrap }) [] rfl rfl rfl

theorem setDue {x} (hs : Touches P L m s) : Touches (P ++ [.due]) L m { s with due := x } := hs.set [.due] rfl rfl rfl

theorem setUpsets {x} (hs : Touches P L m s) : Touches (P ++ [.upsets]) L m { s with upsets := x } := hs.set [.upsets] rfl rfl rfl

theorem setActQ {x} (hs : Touches P L m s) : Touches (P ++ [.actQ]) L m { s with actQ := x } := hs.set [.actQ] rfl rfl rfl

theorem setXchks {x} (hs : Touches P L m s) : Touches (P ++ [.xchks]) L m { s with xchks := x } := hs.set [.xchks] rfl rfl rfl

theorem setConvs {x} (hs : Touches P L m s) : Touches (P ++ [.convs]) L m { s with convs := x } := hs.set [.convs] rfl rfl rfl

theorem setCals {x} (hs : Touches P L m s) : Touches (P ++ [.cals]) L m { s with cals := x } := hs.set [.cals] rfl rfl rfl

theorem setRelief {x} (hs : Touches P L m s) : Touches (P ++ [.relief]) L m { s with relief := x } := hs.set [.relief] rfl rfl rfl

theorem setUrgMore {x} (hs : Touches P L m s) : Touches (P ++ [.urgMore]) L m { s with urgMore := x } := hs.set [.urgMore] rfl rfl rfl

theorem setDmp {x} (hs : Touches P L m s) : Touches (P ++ [.dmp]) L m { s with dmp := x } := hs.set [.dmp] rfl rfl rfl

theorem setRgn {x} (hs : Touches P L m s) : Touches (P ++ [.rgn]) L m { s with rgn := x } := hs.set [.rgn] rfl rfl rfl

theorem setHatch {x} (hs : Touches P L m s) : Touches (P ++ [.hatch]) L m { s with hatch := x } := hs.set [.hatch] rfl rfl rfl

theorem setNet {x} (hs : Touches P L m s) : Touches (P ++ [.net]) L m { s with net := x } := hs.set [.net] rfl rfl rfl

theorem setTap {x} (hs : Touches P L m s) : Touches (P ++ [.tap]) L m { s with tap := x } := hs.set [.tap] rfl rfl rfl

theorem takeFree (hs : Touches P L m s) : Touches P L m s.takeFree.2 := hs.setEvc

theorem freeBelow {n} (hs : Touches P L m s) : Touches P L m (s.freeBelow n).2 := hs.setEvc

theorem setConv {c x} (hs : Touches P L m s) : Touches (P ++ [.convs]) L m (s.setConv c x) := hs.setConvs

theorem setCal {c x} (hs : Touches P L m s) : Touches (P ++ [.cals]) L m (s.setCal c x) := hs.setCals

theorem pathLeave {k} (hs : Touches P L m s) : Touches (P ++ [.hatch]) L m (s.pathLeave k) := hs.setHatch

/-! The event counters (R405) and the end of a meaning. -/

theorem evcAdd {k n} : Touches [] [] s (s.evcAdd k n) := of (by decide) (branch ((refl s).setEvc).raise ((refl s).setEvc))

theorem countN {code n} (hs : Touches P L m s) : Touches P L m (s.countN code n) := by
  have h : Touches [] [] s (s.countN code n) := of (by decide) (branch (refl s) (foldl (refl s) fun t _ =>
    branch (branch evcAdd ((refl t).takeFree.andThen evcAdd)) (refl t)))
  simpa using hs.andThen h

theorem count {code} (hs : Touches P L m s) : Touches P L m (s.count code) := hs.countN

theorem countIf {b code} (hs : Touches P L m s) : Touches P L m (s.countIf b code) := by
  have h : Touches [] [] s (s.countIf b code) := of (by decide) (branch (refl s).count (refl s))
  simpa using hs.andThen h

theorem evcEdge (hs : Touches P L m s) : Touches P L m s.evcEdge := by
  have h : Touches [] [] s s.evcEdge := of (by decide) (branch (refl s) (foldl (refl s) fun t _ =>
    branch (branch (((refl t).setEvc).andThen evcAdd) ((refl t).setEvc)) (refl t)))
  simpa using hs.andThen h

theorem levelDrop {code n} : Touches [] [] s (s.levelDrop code n) :=
  of (by decide) (branch (refl s) (foldl (refl s) fun t _ =>
    branch (branch (((refl t).setEvc).takeFree.andThen evcAdd) ((refl t).setEvc)) (refl t)))

theorem levelPulse {code} : Touches [] [] s (s.levelPulse code) :=
  of (by decide) (branch (refl s) (foldl (refl s) fun t _ => branch (branch (((refl t).setEvc).andThen evcAdd) ((refl t).setEvc)) (refl t)))

end Touches

/-- Every next state that an answer gives is touched within `P` and `L` only. -/
def TouchesOut (P : List Part) (L : List Fld) (s : State) (o : Out) : Prop := ∀ t, o = .next t → Touches P L s t

namespace TouchesOut

theorem fin (ht : Touches P L s t) : TouchesOut P L s (fin t) := by
  rintro _ ⟨⟩
  exact ht.evcEdge

theorem branch {c : Prop} {inst : Decidable c} {x y : Out} (hx : TouchesOut P L s x) (hy : TouchesOut P' L' s y) :
    TouchesOut (P ++ P') (L ++ L') s (if c then x else y) := by
  split
  · exact fun t h => (hx t h).left
  · exact fun t h => (hy t h).right

/-- What an answer touches, as a frame: the fields outside `L`, the causes and the components outside `P` are kept. -/
theorem frame {o : Out} (P : List Part) (hc : covered P' L' P L = true) (ho : TouchesOut P' L' s o) (h : o = .next t) :
    s.sameBut L t ∧ s.causesKept t ∧ t = s.mask P t :=
  let ht := (ho t h).of hc
  ⟨ht.fields, ht.causes, ht.eq_mask⟩

end TouchesOut

end Sys2Proof.Machine
end

section
/-! What the operations of the model touch: one lemma for each, named after it, which follows its definition. -/

namespace Sys2Proof.Machine

variable {m s t u : State}

namespace Touches

theorem memErr {f} : Touches [] [f] s (s.memErr f) := (refl s).wr.raise

/-- What the end of a region update writes (R318, R320). -/
def rgnFlds : List Fld := [Reg.RGN_CTRL_STATE, Reg.RGN_RES_RESULT, Reg.RGN_RES_REASON, Reg.RGN_RES_LEFT]

theorem rgnEnd {result reason code} : Touches [.rgn] rgnFlds s (s.rgnEnd result reason code) :=
  of (by decide) (((refl s).wr.wr.wr.wr.setRgn).count.raise)

theorem rgnDone : Touches [.rgn] rgnFlds s s.rgnDone := of (by decide) (branch rgnEnd rgnEnd)

/-! The binary outputs (R242 to R244). -/

/-- What an output writes as it follows what is wanted of it (R242, R243). -/
def boFlds : List Fld := [Reg.BO_STATE_FORCED, Reg.BO_STATE_OUT, Reg.BO_STATE_WAIT, Reg.BO_STATE_ELAPSED, Hid.boMs]

theorem boSwitch {n v} : Touches [] boFlds s (s.boSwitch n v) := of (by decide) (refl s).wrAt.wrAt.wrAt.wrAt.count

theorem boDefer {n w} : Touches [] boFlds s (s.boDefer n w) := of (by decide) (refl s).countIf.wrAt

theorem boEval {n due} : Touches [] boFlds s (s.boEval n due) := by
  unfold State.boEval
  extract_lets t on want
  have ht : Touches [] boFlds s t := of (by decide) (refl s).wrAt
  refine of (by decide) (ht.andThen (P' := []) (L' := boFlds) ?_)
  split
  · exact of (by decide) (branch (refl t).wrAt (branch boSwitch (branch boDefer boSwitch)))
  · exact of (by decide) (branch (refl t).wrAt (branch boDefer (branch boDefer boSwitch)))

theorem boRefresh : Touches [] boFlds s s.boRefresh :=
  of (by decide) (each (each (refl s) fun _ _ => boEval) fun _ _ => boEval)

theorem boCommand {n v} : Touches [] ([Reg.BO_STATE_CMD, Hid.boCnt, Hid.boArr] ++ boFlds) s (s.boCommand n v) :=
  of (by decide) (branch (refl s) (((refl s).wrAt.whenB fun t => (refl t).wr.wrAt).andThen boRefresh))

/-! The dampers (R233 to R241). -/

/-- What an entry to CUT and a release from it write of a damper (R240, R335). -/
def dmpCutFlds : List Fld := [Reg.DMP_STATE_STATE, Reg.DMP_STATE_POS_OK, Reg.DMP_POS_POS, Hid.dmpFb, Hid.dmpStalled, Hid.dmpVel]

theorem dmpLose {d} : Touches [] [Reg.DMP_STATE_POS_OK, Reg.DMP_POS_POS] s (s.dmpLose d) :=
  of (by decide) (branch (refl s).takeFree.wrAt.wrAt (refl s))

theorem dmpOut {d} : Touches [.dmp] [Hid.dmpVel] s (s.dmpOut d) := of (by decide) ((refl s).setDmp).wrAt

theorem dmpCutRefresh : Touches [.dmp] dmpCutFlds s s.dmpCutRefresh :=
  of (by decide) (each (refl s) fun t _ => branch (branch (refl t) (dmpLose.andThen dmpOut).wrsAt) (branch (refl t).wrAt (refl t)))

/-! The fan channels (R191 to R213). -/

/-- What the gates of channel 0 write as they turn off (R198). -/
def gatesFlds : List Fld := [Hid.fanRef, Reg.FAN_DEMAND_REF, Hid.fanIlim, Hid.fanRampMs, Hid.fanSpdInt, Reg.FAN_MEAS_IQ]

/-- What channel 0 writes as it stops and starts (R198, R199). -/
def fanFlds : List Fld :=
  [Reg.FAN_STATE_STATE, Reg.FANT_STATE_STATE, Reg.FAN_STATE_ATTEMPT, Hid.fanCoasted] ++ gatesFlds

theorem setFan {n v} : Touches [] [Reg.FAN_STATE_STATE, Reg.FANT_STATE_STATE] s (s.setFan n v) :=
  of (by decide) (branch (refl s).wr (refl s).wrAt)

theorem gatesOff : Touches [] gatesFlds s s.gatesOff := of (by decide) (refl s).wrs.wrs

theorem heaterRefresh : Touches [] (Reg.FAN_COMMON_HEATER_BLOCK :: boFlds) s s.heaterRefresh :=
  of (by decide) (branch (refl s) ((refl s).wr.andThen boRefresh))

theorem fanAlign : Touches [] fanFlds s s.fanAlign := of (by decide) (setFan.andThen gatesOff).count

theorem fanCoast : Touches [] fanFlds s s.fanCoast := of (by decide) (setFan.andThen gatesOff).wr

theorem fanCatch : Touches [] fanFlds s s.fanCatch := of (by decide) (branch fanCoast setFan)

theorem fanStart0 : Touches [] fanFlds s s.fanStart0 :=
  of (by decide) (branch (refl s) (branch ((refl s).wr.andThen fanCoast)
    (branch ((refl s).wr.andThen fanCatch) ((refl s).wr.andThen fanAlign))))

theorem fanStop0 : Touches [] fanFlds s s.fanStop0 :=
  of (by decide) ((setFan.andThen gatesOff).andThen fanStart0)

theorem fanCutRefresh :
    Touches [] (fanFlds ++ Reg.FAN_FLAGS_FLAGS :: Reg.FAN_COMMON_HEATER_BLOCK :: boFlds) s s.fanCutRefresh :=
  of (by decide) (branch (branch (refl s) ((setFan.andThen gatesOff).or.andThen heaterRefresh))
    (branch fanStop0 (refl s)))

/-- What a tachometer channel writes as it starts and stops (R207 to R209). -/
def fanTFlds : List Fld :=
  [Reg.FAN_STATE_STATE, Reg.FANT_STATE_STATE, Reg.FANT_STATE_TACH_LOST, Reg.FANT_MEAS_DUTY, Hid.fanInt]

theorem fanRunT {n} : Touches [] fanTFlds s (s.fanRunT n) := of (by decide) setFan.wrsAt.wrAt

theorem fanStartT {n} : Touches [] fanTFlds s (s.fanStartT n) :=
  of (by decide) (branch (refl s) (branch fanRunT setFan.wrAt.count))

theorem fanStopT {n} : Touches [] fanTFlds s (s.fanStopT n) := of (by decide) (setFan.wrAt.andThen fanStartT)

theorem showDemand {n} : Touches [] [Reg.FAN_DEMAND_DEMAND, Reg.FANT_DEMAND_DEMAND] s (s.showDemand n) :=
  of (by decide) (branch (refl s).wr (refl s).wrAt)

/-- What a fan channel writes as it takes a demand (R193). -/
def demandFlds : List Fld :=
  [Hid.fanDem, Reg.FAN_DEMAND_DEMAND, Reg.FANT_DEMAND_DEMAND, Reg.FAN_COMMON_HEATER_BLOCK] ++ fanFlds ++ fanTFlds ++ boFlds

theorem fanDemand {n cmd} : Touches [] demandFlds s (s.fanDemand n cmd) := by
  unfold State.fanDemand
  extract_lets d t0 t
  have ht0 : Touches [] demandFlds s t0 := of (by decide) ((refl s).wrAt.andThen showDemand)
  have ht : Touches [] demandFlds s t := of (by decide) ((refl s).wrAt.andThen showDemand)
  refine of (by decide) (P' := [] ++ ([] ++ [])) (L' := [] ++ (demandFlds ++ demandFlds)) (branch (refl s) (branch ?_ ?_))
  · exact of (by decide) (branch ht0 (branch (ht0.andThen fanStop0) (ht0.andThen fanStart0)))
  · exact of (by decide) (branch ht (branch ((ht.andThen fanStopT).andThen heaterRefresh)
      (branch (ht.andThen fanStartT) (branch ht.wrAt ht))))

theorem fanCommand {n v} : Touches [] (Reg.FAN_CDEM_DEMAND :: demandFlds) s (s.fanCommand n v) :=
  of (by decide) (branch (branch (refl s) (refl s).wrAt)
    (branch ((branch (refl s).wrAt (refl s)).andThen fanDemand) (branch (refl s).wrAt (refl s))))

/-! The valve channels (R217 to R232). -/

/-- What a valve channel writes as it changes its state (R219 to R223, R229). -/
def vlvFlds : List Fld :=
  [Reg.VLV_STATE_STATE, Reg.VLV_STATE_BAND, Reg.VLV_MEAS_CURRENT, Reg.VLV_MEAS_DUTY, Reg.VLV_DIAG_OFF_RES, Hid.vlvOrg, Hid.vlvOrgKind,
    Hid.vlvGrid, Hid.vlvTest, Hid.vlvHsTest]

/-- What a valve channel writes as it enters OFF, where it may take a new profile (R226). -/
def vlvOffFlds : List Fld := Hid.vlvBandNow :: vlvFlds ++ rgnFlds ++ vlvSettings

theorem setVlv {n v} : Touches [] vlvFlds s (s.setVlv n v) := of (by decide) ((refl s).wrAt.whenB fun t => (refl t).wrsAt)

theorem vlvEnter {n st} : Touches [] vlvFlds s (s.vlvEnter n st) :=
  of (by decide) (branch setVlv.wrAt.wrAt setVlv)

theorem vlvPeakEnd {n} : Touches [] vlvFlds s (s.vlvPeakEnd n) := by
  unfold State.vlvPeakEnd
  split
  · exact of (by decide) (branch vlvEnter (refl s))
  · exact of (by decide) (refl s)

theorem vlvAbortTest {n} : Touches [] vlvFlds s (s.vlvAbortTest n) :=
  of (by decide) (branch (refl s) ((each (refl s) fun t _ => (refl t).wrsAt).whenB fun t => (refl t).wrAt).count)

theorem vlvStart {n} : Touches [] vlvFlds s (s.vlvStart n) := by
  unfold State.vlvStart
  extract_lets b t u
  have ht : Touches [] vlvFlds s t := of (by decide) vlvAbortTest.wrAt.wrAt
  have hu : Touches [] vlvFlds s u := ht.count
  refine of (by decide) (P' := [] ++ ([] ++ [])) (L' := vlvFlds ++ vlvFlds ++ (vlvFlds ++ vlvFlds ++ vlvFlds))
    (branch (ht.andThen setVlv) (branch (hu.andThen vlvEnter) ?_))
  split
  · exact of (by decide) (branch (hu.andThen setVlv).count (hu.andThen vlvEnter))
  · exact of (by decide) (hu.andThen vlvEnter)

theorem vlvResume {n} : Touches [] vlvFlds s (s.vlvResume n) :=
  of (by decide) (branch ((refl s).wrAt.andThen vlvStart) (refl s))

theorem vlvStore {w} : Touches [] vlvOffFlds s (s.vlvStore w) := by
  have hset : Touches [] vlvSettings s (s.each (vlvSettings.filter (fun f => f.addr == w.2.1)) (fun t f => t.wrAt f w.1 (bits w.2.2 f.lo f.w))) :=
    foldl_mem fun t f hf => (refl t).wrAt.more (by simp) (by simpa using List.mem_of_mem_filter hf)
  exact of (by decide) (branch hset hset.wrAt)

theorem vlvProfile {n} : Touches [.rgn] vlvOffFlds s (s.vlvProfile n) := by
  unfold State.vlvProfile
  extract_lets rest g t
  have ht : Touches [.rgn] vlvOffFlds s t := of (by decide) (each ((refl s).setRgn) fun _ _ => vlvStore)
  exact of (by decide) (branch (ht.andThen rgnDone) ht.wr.wr)

theorem vlvTake {n} : Touches [.rgn] vlvOffFlds s (s.vlvTake n) :=
  of (by decide) (branch (refl s) (branch vlvProfile ((vlvProfile.wrAt.andThen setVlv).andThen vlvResume)))

theorem vlvDrop {n st} : Touches [.rgn] vlvOffFlds s (s.vlvDrop n st) := by
  unfold State.vlvDrop
  extract_lets t u
  have hu : Touches [] vlvFlds s u := of (by decide) (branch (setVlv.andThen vlvPeakEnd) setVlv)
  exact of (by decide) (branch (hu.andThen vlvTake) hu)

theorem vlvLeave {n} : Touches [.rgn] (Hid.vlvOcWait :: vlvOffFlds) s (s.vlvLeave n) :=
  of (by decide) (branch ((refl s).wrsAt.andThen vlvDrop) (((refl s).wrsAt.andThen vlvDrop).andThen vlvResume))

theorem vlvExtend {n grid} : Touches [] vlvFlds s (s.vlvExtend n grid) := of (by decide) (branch (refl s).count.wrAt.wrAt (refl s).count)

theorem vlvAct {n} : Touches [.rgn] vlvOffFlds s (s.vlvAct n) :=
  of (by decide) (branch (refl s) (branch (branch (refl s).wrAt ((refl s).wrAt.andThen vlvDrop))
    (branch (branch (refl s) vlvResume)
      (branch (branch ((refl s).countIf.andThen vlvDrop) (refl s).countIf) vlvExtend))))

theorem vlvCommand {n v} : Touches [.rgn] (Reg.VLV_STATE_VALUE :: vlvOffFlds) s (s.vlvCommand n v) :=
  of (by decide) (branch (refl s) (branch (refl s).wrAt ((refl s).wrAt.andThen vlvAct)))

/-- What the valves write as they enter and leave CUT (R228, R335). -/
def vlvCutFlds : List Fld := Hid.vlvHsKeep :: Hid.vlvOcWait :: vlvOffFlds

theorem vlvCutRefresh : Touches [.rgn] vlvCutFlds s s.vlvCutRefresh :=
  of (by decide) (branch (each (each (refl s) fun t _ => (refl t).wrAt.wrAt) fun t _ =>
      branch (refl t).wrAt ((refl t).wrAt.wrsAt.andThen setVlv))
    (each (refl s) fun _ _ => vlvLeave))

/-! The CUTs of all stages (R252, R258, R335). -/

/-- What the stages write as they enter and leave CUT. -/
def cutFlds : List Fld :=
  vlvCutFlds ++ dmpCutFlds ++ fanFlds ++ Reg.FAN_FLAGS_FLAGS :: Reg.FAN_COMMON_HEATER_BLOCK :: boFlds

theorem cutRefresh : Touches [.dmp, .rgn] cutFlds s s.cutRefresh :=
  of (by decide) (((vlvCutRefresh.andThen dmpCutRefresh).andThen fanCutRefresh).andThen boRefresh)


/-! The thermal block (R252 to R267) and the actuator command bus (R104 to R106). -/

/-- What the block levels and the CUTs write as they follow the thresholds (R258). -/
def thermFlds : List Fld :=
  [Reg.THERM_STAT_LVL_VLV, Reg.THERM_STAT_LVL_DMP, Reg.THERM_STAT_LVL_FAN, Reg.THERM_FLAGS_LEVEL_UP] ++ cutFlds

/-- What a sensor's sample writes as it is fed to the thresholds (R256). -/
def feedFlds : List Fld :=
  [Hid.tsUp, Hid.tsDn, Reg.TS_STATE_ENTERED, Reg.THERM_FLAGS_WARN, Reg.THERM_FLAGS_CUT, Reg.TS_VALUE_T, Reg.TS_VALUE_SUBST,
    Reg.TS_MAX_TMAX] ++ thermFlds

/-- What an exclusion of a sensor writes (R260, R262). -/
def excludeFlds : List Fld :=
  [Reg.TS_STATE_FAILED, Reg.TS_STATE_CAUSE, Reg.TS_STATE_FAST, Reg.TS_STATE_XCNT, Hid.tsHeld, Hid.tsHeldN, Reg.THERM_STAT_HOLD,
    Reg.THERM_FLAGS_EXCLUDE, Reg.THERM_STAT_NONE_LEFT]

/-- What a thermal sample writes (R254, R259, R260). -/
def sampleFlds : List Fld :=
  [Hid.tsLast, Hid.tsAt, Hid.tsCalm, Reg.TS_VALUE_VALID, Reg.TS_STATE_NOCHECK, Reg.TS_XCHK_EXPECT, Reg.TS_XCHK_DEV] ++ excludeFlds ++ feedFlds

theorem levelTo {f new} : Touches [] [f, Reg.THERM_FLAGS_LEVEL_UP] s (s.levelTo f new) :=
  more (by simp) (by simp) (branch (refl s).wr.wr.count.raise (branch (refl s).wr.count (refl s).wr))

theorem thermRefresh : Touches [.dmp, .rgn] thermFlds s s.thermRefresh :=
  of (by decide) (((levelTo.andThen levelTo).andThen levelTo).andThen cutRefresh)

theorem tsEnter {i k} : Touches [] [Reg.TS_STATE_ENTERED, Reg.THERM_FLAGS_WARN, Reg.THERM_FLAGS_CUT] s (s.tsEnter i k) :=
  of (by decide) (branch (refl s).orAt.wr.count.raise (branch (refl s).orAt.wr.count.raise (refl s).orAt))

theorem tsLeave {i k} : Touches [] [Reg.TS_STATE_ENTERED] s (s.tsLeave i k) :=
  of (by decide) (branch (refl s).clrAt.count.raise (refl s).clrAt)

theorem tsStep {i x k} : Touches [] feedFlds s (s.tsStep i x k) :=
  of (by decide) (branch ((refl s).wrAt.wrAt.andThen tsEnter) (branch ((refl s).wrAt.wrAt.andThen tsLeave) (refl s).wrAt.wrAt))

theorem tsFeed {i x subst} : Touches [.dmp, .rgn] feedFlds s (s.tsFeed i x subst) := by
  unfold State.tsFeed
  extract_lets t
  have ht : Touches [] feedFlds s t := of (by decide) (each (refl s) fun _ _ => tsStep).wrAt.wrAt
  exact of (by decide) ((branch ht.wrI ht).andThen thermRefresh)

theorem setHeld {i l} : Touches [] [Hid.tsHeld, Hid.tsHeldN] s (s.setHeld i l) := of (by decide) (each (refl s) fun t _ => (refl t).wrI).wrAt

theorem tsExclude {i cause} : Touches [.dmp, .rgn] (excludeFlds ++ thermFlds) s (s.tsExclude i cause) := by
  unfold State.tsExclude
  extract_lets t u v
  have hu : Touches [] excludeFlds s u := of (by decide) ((refl s).wrAt.wrAt.wrAt.andThen setHeld).wr.wr.count
  have hv : Touches [] excludeFlds s v :=
    of (by decide) (hu.each (P' := []) (L' := excludeFlds) fun _ _ => of (by decide) setHeld.wrAt.wrAt)
  exact of (by decide) (hv.wr.raise.andThen thermRefresh)

theorem tsRate {i x disagrees} : Touches [] [Reg.TS_STATE_FAST, Hid.tsCalm] s (s.tsRate i x disagrees) :=
  of (by decide) (branch (refl s).wrAt.wrAt (refl s).wrAt.wrAt)

theorem wholeOf {a b} : Touches [] [] s (s.wholeOf a b).2 := of (by decide) (branch_snd (refl s) ((refl s).freeBelow (n := 2)))

/-- What a sample writes once it has been judged (R260). -/
theorem tsTake {i x} {l : List Int} : Touches [.dmp, .rgn] sampleFlds s
    (((((l.foldl (fun t h => t.tsFeed i h false) s).setHeld i []).wrAt Reg.TS_STATE_XCNT i 0).tsFeed i x false).tsRate i x false) :=
  of (by decide) (((((foldl (refl s) fun _ _ => tsFeed).andThen setHeld).wrAt).andThen tsFeed).andThen tsRate)

theorem tsSample {i x} : Touches [.dmp, .rgn] sampleFlds s (s.tsSample i x) := by
  unfold State.tsSample
  extract_lets s1 t0 e w dev t1 held n u v
  have h1 : Touches [.dmp, .rgn] sampleFlds s s1 := of (by decide) (refl s).wrAt.wrAt.wrAt.count
  have ht : Touches [.dmp, .rgn] sampleFlds s t1 := h1.trans (of (by decide) wholeOf.wrAt.wrAt.wrAt)
  have hu : Touches [.dmp, .rgn] sampleFlds s u := ht.trans (of (by decide) (setHeld.wrAt.count.andThen tsRate))
  refine either (of (by decide) (refl s)) (either ?_ (either ?_ ?_))
  · exact h1.trans ((of (by decide) (refl s1).wrAt).trans tsTake)
  · exact either (hu.trans (of (by decide) tsExclude)) hu
  · exact ht.trans tsTake

theorem fastBesideFailed : Touches [] [Reg.TS_STATE_FAST] s s.fastBesideFailed := of (by decide) (each (refl s) fun t _ => (refl t).wrAt)

theorem dmpCommand {d v} : Touches [] [Reg.DMP_TARGET_VALUE] s (s.dmpCommand d v) := of (by decide) (refl s).wrAt

/-- What an accepted command writes at its block (R192, R216). -/
def actFlds : List Fld :=
  [Reg.DMP_TARGET_VALUE, Reg.VLV_STATE_VALUE, Reg.FAN_CDEM_DEMAND, Reg.BO_STATE_CMD, Hid.boCnt, Hid.boArr] ++ vlvOffFlds ++ demandFlds

theorem actuate {kind index value} : Touches [.rgn] actFlds s (s.actuate kind index value) :=
  of (by decide) (branch vlvCommand (branch dmpCommand (branch fanCommand boCommand)))

/-! The converters (R146 to R161) and their calibration (R166 to R190). -/

/-- What an urgent request that is dropped writes (R159). -/
def dropFlds : List Fld := [Reg.CONV_FLAGS_DROP, Reg.CONV_URG_DROPPED, Reg.THERM_FLAGS_URG_DROP]

theorem urgDrop {u} : Touches [.urgMore, .cals, .xchks] dropFlds s (s.urgDrop u) := by
  unfold State.urgDrop
  extract_lets t
  have ht : Touches [] dropFlds s t := of (by decide) (refl s).wr.count
  split
  · exact of (by decide) ht.wr
  · exact of (by decide) (ht.whenB fun t => (refl t).wr.count)
  · exact of (by decide) (ht.setUrgMore).setCal
  · exact of (by decide) (ht.setXchks)

theorem urgPlace {u} : Touches [.convs, .urgMore, .cals, .xchks] dropFlds s (s.urgPlace u) :=
  of (by decide) (branch (branch (refl s).setConv (branch (refl s).setConv (refl s).countIf.setConv))
    (branch urgDrop (branch (refl s).setConv (branch (refl s).setConv (refl s).setConv))))

theorem urgSend {src input named} : Touches [.convs, .urgMore, .cals, .xchks] dropFlds s (s.urgSend src input named) :=
  of (by decide) ((refl s).count.countIf.countIf.andThen urgPlace)

theorem urgIssue {src input named} : Touches [.convs, .urgMore, .cals, .xchks] dropFlds s (s.urgIssue src input named) :=
  of (by decide) (branch ((refl s).setUrgMore) urgSend)

theorem urgNext {c} : Touches [.convs] [] s (s.urgNext c) := by
  unfold State.urgNext
  extract_lets x
  split
  · exact of (by decide) (refl s)
  · split
    · exact of (by decide) (refl s).setConv
    · exact of (by decide) (refl s)

theorem powerDown {c} : Touches [.convs] [] s (s.powerDown c) := of (by decide) (branch (refl s) (refl s).setConv.count)

theorem cIdle : Touches [.convs] [] s s.cIdle := of (by decide) (branch (refl s) (branch powerDown urgNext))

theorem refreshRelief : Touches [] [Reg.CAL_STAT_NO_RELIEF, Reg.CAL_STAT_UNSERVED] s s.refreshRelief := of (by decide) (refl s).wr.wr

theorem traceReview : Touches [] [Reg.CAL_STAT_CAL_UNTRACED] s s.traceReview := of (by decide) ((refl s).whenB fun t => (refl t).wr)

/-- What the record of a calibration attempt writes (R176, R177). -/
def calFlds : List Fld :=
  [Reg.CAL_INFO_RESULT, Reg.CAL_INFO_REASON, Reg.CAL_INFO_FAILS, Reg.CAL_INFO_TEMP, Hid.calTick, Hid.calPassed, Reg.CAL_FLAGS_CAL_FAIL,
    Reg.CAL_STAT_CAL_UNTRACED]

theorem calRecord {c result reason} : Touches [.convs, .cals] calFlds s (s.calRecord c result reason) := by
  unfold State.calRecord
  extract_lets t u onInt v w
  have ht : Touches [] calFlds s t := of (by decide) (refl s).wrAt.wrAt
  exact of (by decide) (branch (ht.wrAt.wrAt.wrAt.wrAt.count.setConv.setCal.andThen traceReview) (branch (ht.wrAt.or.count.setCal) ht.setCal.count))

theorem calAbandon {c} : Touches [.convs, .cals, .relief] calFlds s (s.calAbandon c) :=
  of (by decide) (branch (branch (calRecord.setRelief) calRecord) (refl s))

theorem calAbandonAll : Touches [.convs, .cals, .relief] calFlds s s.calAbandonAll :=
  of (by decide) (((calAbandon.andThen calAbandon).andThen calAbandon).andThen cIdle)

/-! The network's stop (R19, R383), the supplies (R332 to R335) and the panel (R421, R424). -/

/-- What the loss of the IP address writes (R358, R360). -/
def ipFlds : List Fld :=
  [Reg.NET_STAT_IP_OK, Reg.NET_IP_ADDR_ADDR, Reg.NET_IP_MASK_MASK, Reg.NET_IP_GW_GW, Hid.ipSrc, Reg.NET_FDR_FDR_STATE, Hid.ipWait]

/-- What the network writes as it stops (R356, R358, R368, R383). -/
def netStopFlds : List Fld :=
  [Reg.NET_STAT_LINK, Reg.NET_FLAGS_FLAGS, Reg.NET_STAT_SC_STATE, Reg.NET_SC_STAT_WAIT] ++ ipFlds ++
    [Hid.mbDue, Hid.mbWait, Hid.mbTries, Hid.ruDue, Hid.ruWait, Reg.BUS_STAT_STATE]

theorem txFrames {n} : Touches [] [] s (s.txFrames n) := of (by decide) levelDrop.countN

theorem scFrames : Touches [] [] s s.scFrames := of (by decide) ((refl s).freeBelow.andThen txFrames)

theorem scClose : Touches [] [Reg.NET_STAT_SC_STATE, Reg.NET_SC_STAT_WAIT] s s.scClose :=
  of (by decide) (branch ((refl s).wrs.andThen scFrames).count (refl s))

theorem ipDrop : Touches [] ipFlds s s.ipDrop := of (by decide) (refl s).wrs

theorem linkDrop : Touches [] netStopFlds s s.linkDrop :=
  of (by decide) (branch (((refl s).wr.or.andThen scClose).andThen ipDrop).count.raise (refl s))

theorem mbEnd : Touches [] netStopFlds s s.mbEnd := of (by decide) (each (each (refl s) fun t _ => (refl t).wrsAt) fun t _ => (refl t).wrsAt)

theorem netStop : Touches [.net] netStopFlds s s.netStop :=
  of (by decide) (each ((((refl s).setNet).andThen linkDrop).andThen mbEnd) fun t _ => (refl t).wrAt)

/-- What clock fallback writes as it begins (R18, R19, R21). -/
def fallbackFlds : List Fld := Reg.CLK_STAT_FALLBACK :: netStopFlds ++ calFlds

theorem fallbackEnter : Touches [.net, .convs, .cals, .relief] fallbackFlds s s.fallbackEnter :=
  of (by decide) (branch (refl s) (((refl s).wr.raise.andThen netStop).andThen calAbandonAll))

theorem supplyBad {f k cause} : Touches [] [f, Reg.PWR_FLAGS_FLAGS] s (s.supplyBad f k cause) :=
  more (by simp) (by simp) ((refl s).wr.or.whenB fun t => (refl t).raise)

theorem panelIdle : Touches [] [Reg.DISP_STAT_STATE] s s.panelIdle := of (by decide) (branch (refl s) (refl s).wr)

theorem balance {us} : Touches [] [Reg.DISP_BAL_BAL, Hid.dispUs] s (s.balance us) := of (by decide) (refl s).wrI.wr

theorem panelAbandon : Touches [] [Reg.DISP_BAL_BAL, Hid.dispUs] s s.panelAbandon :=
  of (by decide) (((refl s).setEvc : Touches [] [] s s.panelSpent.2).andThen balance)

theorem panelDischarge : Touches [] [Hid.dispHold, Hid.dispRb, Hid.dispUs, Reg.DISP_BAL_BAL, Reg.DISP_STAT_SLOT, Reg.DISP_STAT_STATE] s
    s.panelDischarge := of (by decide) (branch panelAbandon.wrs panelIdle)

theorem stamp : Touches [] [Reg.RTC_STAMP_TIME_SEC, Reg.RTC_STAMP_TIME_MIN, Reg.RTC_STAMP_TIME_HOUR, Reg.RTC_STAMP_DATE_DAY,
    Reg.RTC_STAMP_DATE_MONTH, Reg.RTC_STAMP_DATE_YEAR, Reg.RTC_STAMP_DATE_WDAY, Reg.RTC_STAMP_DATE_STAMPED] s s.stamp :=
  of (by simp only [List.map]; decide) (branch (refl s) (refl s).wrs)

theorem auditStep {xtal pll} : Touches [.net, .convs, .cals, .relief]
    ([Reg.CLK_STAT_XTAL_OK, Hid.audBad, Reg.CLK_FLAGS_XTAL_LOSS, Reg.CLK_FLAGS_PLL_LOSS] ++ fallbackFlds) s (s.auditStep xtal pll) :=
  of (by decide) (branch (refl s) (branch (refl s).wr (branch (branch (refl s).wr.wr
    ((((refl s).wr.wr.whenB fun t => (refl t).wr).whenB fun t => (refl t).wr).andThen fallbackEnter)) (refl s).wr.wr)))

/-! A coach's repair (R69, R103). -/

theorem wrCoach {c w v} (hw : w < 64) : Touches [.upsets] ((upTo 64).map Reg.coachW) s (s.wrCoach c w v) :=
  ((refl s).wrAt.setUpsets).more (by simp) (by simpa [upTo] using ⟨w, hw, rfl⟩)

theorem coachEnable {c} : Touches [.due, .upsets] ([Hid.first, Hid.closeInit, Hid.svcOpen, Hid.svcDrop] ++ (upTo 64).map Reg.coachW) s
    (s.coachEnable c) := by
  unfold State.coachEnable
  extract_lets s1 t u
  have h1 : Touches [.due] [] s s1 := (refl s).setDue
  have ht : Touches [.upsets] ((upTo 64).map Reg.coachW) s1 t := foldl_mem fun t w hw => wrCoach (by
    simp only [upTo, List.mem_append, List.mem_cons, List.mem_map, List.mem_range, List.not_mem_nil, or_false] at hw
    omega)
  have hu : Touches [.upsets] ((upTo 64).map Reg.coachW) s1 u := ht.trans ((wrCoach (by decide)).trans (wrCoach (by decide)))
  exact (h1.andThen hu).wrAt.wrAt.wrAt.wrAt.more (by decide) (by simp +contextual)

/-- What a repair writes of its coach (R103), beside its words. -/
def repairFlds : List Fld :=
  [Hid.closeInit, Hid.first, Hid.svcDrop, Hid.svcOpen, Reg.SUPV_REPAIR_GO, Reg.SUPV_REPAIR_RESULT]

theorem groupWord_lt (j : Nat) : groupWords.getD j 0 < 64 := by
  have h : ∀ w ∈ groupWords, w < 64 := by decide
  rw [List.getD_eq_getElem?_getD]
  cases hj : groupWords[j]? with
  | none => decide
  | some w => exact h w (List.mem_of_getElem? hj)

theorem repairWith {c l} : Touches [.due, .upsets] (repairFlds ++ (upTo 64).map Reg.coachW) s (s.repairWith c l) := by
  unfold State.repairWith
  extract_lets s1 t u v
  have h1 : Touches [.upsets] ((upTo 64).map Reg.coachW) s s1 :=
    ((refl s).whenB fun _ => wrCoach (by decide)).more (by simp) (by simp)
  have ht : Touches [.upsets] ((upTo 64).map Reg.coachW) s t := h1.trans (foldl_mem fun _ j _ => wrCoach (groupWord_lt j))
  have hu : Touches [.due, .upsets] (repairFlds ++ (upTo 64).map Reg.coachW) s u :=
    ((ht.andThen coachEnable).andThen (wrCoach (by decide))).more (by simp) (by
      simp only [repairFlds, List.mem_append, List.mem_cons, List.not_mem_nil, or_false]
      tauto)
  have hv : Touches [.due, .upsets] (repairFlds ++ (upTo 64).map Reg.coachW) s v :=
    either (hu.trans ((wrCoach (by decide)).more (by simp) (by simp +contextual))) hu
  exact hv.wr.wr.more (by simp) (by simp [repairFlds])

end Touches

end Sys2Proof.Machine
end

section
/-! What the commands of the sensors, clocks and supplies leave alone (R19, R22, R256, R265, R333 to R335). -/

namespace Sys2Proof.Machine

variable {s t u : State} {P : List Part} {L : List Fld}

namespace Touches

theorem execSupvRepairDone {readable} :
    TouchesOut [.due, .upsets, .hatch] (repairFlds ++ (upTo 64).map Reg.coachW) s (execSupvRepairDone readable s) := by
  unfold Machine.execSupvRepairDone
  split
  · exact .fin ((refl s).more (by simp) (by simp))
  · split
    · exact .fin ((refl s).pathLeave.wr.wr.more (by simp) (by simp +contextual [repairFlds]))
    · exact .fin (((refl s).pathLeave.andThen repairWith).more (by simp) (by simp))

theorem execActuatorCommand {flips} :
    TouchesOut [.actQ, .rgn] ([Hid.rcvSeq, Hid.sndSeq] ++ actFlds) s (execActuatorCommand flips s) := by
  unfold Machine.execActuatorCommand
  split
  · exact .fin (of (by decide) (refl s))
  · extract_lets tgt b kind seq index rx t
    split
    · exact .fin (of (by decide) (refl s))
    · split
      · exact .fin (of (by decide) ((refl s).setActQ.wrAt.wrAt.andThen actuate))
      · exact .fin (of (by decide) (refl s).setActQ)

theorem execActuatorCommandNack :
    TouchesOut [.actQ] [Reg.SUPV_CMD_PATH_MAP, Reg.SUPV_STAT_CMD_PATH] s (execActuatorCommandNack s) := by
  unfold Machine.execActuatorCommandNack
  split
  · exact .fin (of (by decide) (refl s))
  · split
    · exact .fin (of (by decide) (refl s))
    · extract_lets t u
      split
      · exact .fin (of (by decide) (refl s).count.setActQ)
      · exact .fin (of (by decide) (refl s).count.setActQ.or.wr.count.raise)

theorem execThermalFastStep :
    TouchesOut [.dmp, .rgn, .xchks, .convs, .cals, .urgMore] (Hid.tsNew :: dropFlds ++ feedFlds) s (execThermalFastStep s) := by
  unfold Machine.execThermalFastStep
  split
  · exact .fin (of (by decide) (refl s))
  · refine .fin (of (by decide) (each (each (refl s) fun t _ => (refl t).wrAt.andThen urgIssue)
      (P' := [.dmp, .rgn]) (L' := feedFlds) fun t i => ?_))
    split
    · exact tsFeed
    · exact of (by decide) (refl t)

/-- What the end of a READMIT writes (R265). -/
def readmitFlds : List Fld :=
  [Hid.tsReadmit, Hid.tsUrgNew, Hid.tsCalm, Hid.tsHeld, Hid.tsHeldN, Hid.tsUp, Hid.tsDn, Reg.THERM_CMD_STAT_RESULT,
    Reg.THERM_STAT_NONE_LEFT, Reg.TS_STATE_FAILED, Reg.TS_STATE_CAUSE, Reg.TS_STATE_XCNT, Reg.TS_STATE_FAST]

theorem execThermReadmitResult {sensor} :
    TouchesOut [.dmp, .rgn] (readmitFlds ++ thermFlds) s (execThermReadmitResult sensor s) := by
  unfold Machine.execThermReadmitResult
  extract_lets i t e u v
  have hu : Touches [] readmitFlds s u := of (by decide) ((refl s).wrAt.wrAt.wrAt.wrAt.wrAt.wrAt.andThen setHeld)
  have hv : Touches [] readmitFlds s v := of (by decide) (hu.each fun t _ => (refl t).wrAt.wrAt)
  split
  · exact .fin (of (by decide) (refl s))
  · split
    · exact .fin (of (by decide) (refl s).wrAt.wrAt.wr)
    · exact .fin (of (by decide) ((hv.wr.wr.count.andThen fastBesideFailed).andThen thermRefresh))

theorem execVddaUv : TouchesOut [.convs, .cals, .relief] ([Reg.PWR_STAT_VDDA_UV, Reg.PWR_FLAGS_FLAGS, Reg.CAL_STAT_NO_RELIEF,
    Reg.CAL_STAT_UNSERVED] ++ calFlds) s (execVddaUv s) := by
  unfold Machine.execVddaUv
  split
  · exact .fin (of (by decide) (refl s))
  · exact .fin (of (by decide) ((supplyBad.andThen calAbandonAll).setConvs.andThen refreshRelief))

theorem execVddaUvClear : TouchesOut [.convs] [Reg.PWR_STAT_VDDA_UV, Hid.calHold, Reg.UI_STAT_SETTLE_LEFT, Reg.CAL_STAT_NO_RELIEF,
    Reg.CAL_STAT_UNSERVED] s (execVddaUvClear s) := by
  unfold Machine.execVddaUvClear
  split
  · exact .fin (of (by decide) (refl s))
  · exact .fin (of (by decide) (((refl s).wr.wr.setConvs.each fun t _ => branch (refl t).wrAt (refl t)).andThen refreshRelief))

theorem execBackupSwitchVbat {vbat} : TouchesOut [.tap] [Hid.panelDis, Reg.PWR_MODE_MODE, Reg.RTC_STAMP_DATE_DAY, Reg.RTC_STAMP_DATE_MONTH,
    Reg.RTC_STAMP_DATE_STAMPED, Reg.RTC_STAMP_DATE_WDAY, Reg.RTC_STAMP_DATE_YEAR, Reg.RTC_STAMP_TIME_HOUR, Reg.RTC_STAMP_TIME_MIN,
    Reg.RTC_STAMP_TIME_SEC, Reg.RTC_STAT_ON_VBAT] s (execBackupSwitchVbat vbat s) := by
  unfold Machine.execBackupSwitchVbat
  split
  · exact .fin (of (by decide) (refl s))
  · extract_lets t
    have ht := ((refl s).count (code := 0xA7).andThen stamp).wr (f := Reg.RTC_STAT_ON_VBAT) (v := 1)
    split
    · exact .fin (of (by decide) ht.wr.wr.setTap)
    · exact .fin (of (by decide) ht)

end Touches

/-- Every word of every coach but `c` is the same in two machines. -/
def State.OthersKept (s : State) (c : Nat) (t : State) : Prop := ∀ d w : Nat, d ≠ c → w < 64 → t.cell d w = s.cell d w

namespace State.OthersKept

variable {c : Nat}

theorem trans (h : s.OthersKept c t) (g : t.OthersKept c u) : s.OthersKept c u :=
  fun d w hd hw => (g d w hd hw).trans (h d w hd hw)

/-- A change that touches no coach word. -/
theorem of_touches (h : Touches P L s t) (hL : ∀ w < 64, (Reg.coachW w).id ∉ L.map Fld.id) : s.OthersKept c t :=
  fun d w _ hw => h.fields (Reg.coachW w) (hL w hw) d

theorem wrCoach {w v} : s.OthersKept c (s.wrCoach c w v) :=
  fun d k hd _ => State.rdAt_wrAt_ne s (Reg.coachW w) (Reg.coachW k) c d v fun h => hd h.2

theorem each {α : Type} {l : List α} {f : State → α → State} (hf : ∀ (t : State) a, t.OthersKept c (f t a)) :
    s.OthersKept c (s.each l f) := by
  induction l generalizing s with
  | nil => exact fun _ _ _ _ => rfl
  | cons a l ih => exact (hf s a).trans ih

theorem coachEnable : s.OthersKept c (s.coachEnable c) := by
  unfold State.coachEnable
  extract_lets s1 t u
  have h1 : s.OthersKept c s1 := fun _ _ _ _ => rfl
  have hu : s1.OthersKept c u := (each fun _ _ => wrCoach).trans (wrCoach.trans wrCoach)
  exact (h1.trans hu).trans (of_touches (Touches.refl u).wrAt.wrAt.wrAt.wrAt (by decide))

theorem repairWith {l} : s.OthersKept c (s.repairWith c l) := by
  unfold State.repairWith
  extract_lets s1 t u v
  have h1 : s.OthersKept c s1 := by
    unfold s1 State.whenB
    split
    · exact wrCoach
    · exact fun _ _ _ _ => rfl
  have hu : s.OthersKept c u := ((h1.trans (each fun _ _ => wrCoach)).trans coachEnable).trans wrCoach
  have hv : s.OthersKept c v := by
    unfold v
    split
    · exact hu.trans wrCoach
    · exact hu
  exact hv.trans (of_touches (Touches.refl v).wr.wr (by decide))

theorem coachesBut (h : s.OthersKept c t) : s.coachesBut (allWords [c]) t := fun d w hw hd => h d w (by
  rintro rfl
  exact hd (by simpa [allWords, upTo] using hw)) hw

end State.OthersKept

theorem execSupvRepairDone_coachesBut {readable} (h : execSupvRepairDone readable s = .next t) :
    s.coachesBut (allWords [s.rd Hid.repairCoach]) t := by
  refine State.OthersKept.coachesBut ?_
  have hfin : ∀ {u}, s.OthersKept (s.rd Hid.repairCoach) u → fin u = .next t → s.OthersKept (s.rd Hid.repairCoach) t := by
    rintro u hu ⟨⟩
    exact hu.trans (.of_touches (Touches.refl u).evcEdge (by decide))
  unfold execSupvRepairDone at h
  split at h
  · exact hfin (fun _ _ _ _ => rfl) h
  · split at h
    · exact hfin (.of_touches (Touches.refl s).pathLeave.wr.wr (by decide)) h
    · exact hfin (.trans (t := s.pathLeave 2) (fun _ _ _ _ => rfl) .repairWith) h

/-- Settles O47: each command is made of operations whose fields, causes and components are known (`Touches`), and of the coach store only
the words of the repaired coach are written. -/
theorem thermalAndSupplyFrames : Obligations.ThermalAndSupplyFrames := by
  refine ⟨fun readable s t h => ?_, fun flips s t h => ?_, fun s t h => ?_, fun x p s t h => ?_, fun s t h => ?_, fun s t h => ?_,
    fun sensor s t h => ?_, fun s t h => ?_, fun sensor s t h => ?_, fun s t h => ?_, fun currents s t h => ?_, fun sensor s t h => ?_,
    fun vbat s t h => ?_, fun s t h => ?_, fun s t h => ?_, fun s t h => ?_, fun s t h => ?_, fun ov s t h => ?_, fun ov s t h => ?_,
    fun s t h => ?_⟩
  · exact And.imp_right (And.imp_right fun hm => ⟨hm, execSupvRepairDone_coachesBut h⟩)
      (Touches.execSupvRepairDone.frame [.due, .upsets, .hatch] (by decide) h)
  · exact Touches.execActuatorCommand.frame [.actQ, .rgn] (by decide) h
  · exact Touches.execActuatorCommandNack.frame [.actQ] (by decide) h
  · exact (TouchesOut.fin Touches.auditStep).frame [.convs, .cals, .relief, .net] (by decide) h
  · exact (TouchesOut.branch (.fin (.refl s)) (.fin (.branch ((Touches.refl s).wr.wr.andThen .fallbackEnter) (Touches.refl s).wr.wr))).frame
      [.convs, .cals, .relief, .net] (by decide) h
  · exact (TouchesOut.branch (.fin (.refl s)) (.fin (Touches.refl s).wr.wr.wr.raise)).frame [] (by decide) h
  · exact (TouchesOut.branch (.fin (.refl s)) (.branch (.branch (.fin ((Touches.refl s).wrAt.andThen .tsSample)) (.fin (.refl s)))
      (.branch (.fin ((Touches.refl s).wrAt.andThen .tsSample)) (.fin (.refl s))))).frame [.dmp, .rgn] (by decide) h
  · exact Touches.execThermalFastStep.frame [.xchks, .convs, .cals, .urgMore, .dmp, .rgn] (by decide) h
  · exact (TouchesOut.branch (.fin (.refl s)) (.fin .tsExclude)).frame [.dmp, .rgn] (by decide) h
  · exact (TouchesOut.branch (.fin (.refl s)) (.fin (((Touches.refl s).wr.each fun t _ =>
      .branch (Touches.tsLeave.count) (.refl t)).andThen .thermRefresh))).frame [.dmp, .rgn] (by decide) h
  · exact (TouchesOut.branch (.fin (.refl s)) (.fin (Touches.refl s).wr.wr.wr.wr.wr)).frame [] (by decide) h
  · exact Touches.execThermReadmitResult.frame [.dmp, .rgn] (by decide) h
  · exact Touches.execBackupSwitchVbat.frame [.tap] (by decide) h
  · exact (TouchesOut.branch (.fin (.refl s)) (.fin (.andThen .supplyBad .panelDischarge))).frame [] (by decide) h
  · exact (TouchesOut.branch (.fin (.refl s)) (.fin ((Touches.refl s).wr.andThen .panelIdle))).frame [] (by decide) h
  · exact Touches.execVddaUv.frame [.convs, .cals, .relief] (by decide) h
  · exact Touches.execVddaUvClear.frame [.convs] (by decide) h
  · cases ov <;>
      exact (TouchesOut.branch (.fin (.refl s)) (.fin (.andThen .supplyBad .cutRefresh))).frame [.dmp, .rgn] (by decide) h
  · cases ov <;>
      exact (TouchesOut.branch (.fin (.refl s)) (.fin ((Touches.refl s).wr.andThen .cutRefresh))).frame [.dmp, .rgn] (by decide) h
  · exact (TouchesOut.branch (.fin (Touches.refl s).wr) (.fin (.refl s))).frame [] (by decide) h

end Sys2Proof.Machine
end

section
/-! How a field reads after the operations of the model, and after the end of a meaning. -/

namespace Sys2Proof.Machine

variable {s t u : State} {P : List Part} {L : List Fld} {f g : Fld} {v n : Nat}

/-- An answer that ends a meaning is a next state, of which it is enough to know what holds before its level sources are compared. -/
theorem exists_fin {Q : State → Prop} (h : Q t.evcEdge) : ∃ u, fin t = .next u ∧ Q u := ⟨t.evcEdge, rfl, h⟩

@[simp] theorem State.evcEdge_on : s.evcEdge.on f = s.on f := by simp [State.on]

theorem State.on_wr_ne (h : g.id ≠ f.id) : (s.wr f v).on g = s.on g := by simp [State.on, State.rd_wr_ne s f g v h]

theorem State.on_wr_same : (s.wr f v).on f = (v % 2 ^ f.w == 1) := by simp [State.on]

@[simp] theorem State.raise_on : (s.raise n).on f = s.on f := rfl

@[simp] theorem State.count_on {c : Nat} : (s.count c).on f = s.on f := by simp [State.on]

theorem State.on_iff : s.on f = true ↔ s.rd f = 1 := by simp [State.on]

theorem State.rd_or_ne (h : g.id ≠ f.id) : (s.or f v).rd g = s.rd g := State.rd_wr_ne s f g _ h

theorem State.rd_or_same : (s.or f v).rd f = (s.rd f ||| v) % 2 ^ f.w := State.rd_wr_same s f _

/-- A bit just set of a field stands. -/
theorem State.bit_or_same (h : n < f.w) : bit ((s.or f (2 ^ n)).rd f) n = true := by
  rw [State.rd_or_same, bit_eq_testBit, Nat.testBit_mod_two_pow]
  simp [h]

theorem State.bit_raise : bit (s.raise n).intCause n = true := by
  rw [bit_eq_testBit]
  exact s.raise_stands n

theorem State.evcEdge_causes (h : bit s.intCause n = true) : bit s.evcEdge.intCause n = true :=
  (Touches.refl s).evcEdge.causes n h

namespace Touches

theorem rdAt (h : Touches P L s t) (hf : f.id ∉ L.map Fld.id) (ch : Nat) : t.rdAt f ch = s.rdAt f ch := h.fields f hf ch

theorem rd (h : Touches P L s t) (hf : f.id ∉ L.map Fld.id) : t.rd f = s.rd f := h.fields f hf 0

theorem on (h : Touches P L s t) (hf : f.id ∉ L.map Fld.id) : t.on f = s.on f := by simp only [State.on, h.rd hf]

end Touches

end Sys2Proof.Machine
end

section
/-! The clocks and the supplies (R18, R22, R24, R333 to R335). -/

namespace Sys2Proof.Machine

variable {s t : State} {x p k : Nat} {f : Fld} {cause : Bool}

/-! Clock fallback begins. -/

theorem State.fallbackEnter_rd : s.fallbackEnter.rd Reg.CLK_STAT_FALLBACK = 1 := by
  unfold State.fallbackEnter
  split
  · exact State.on_iff.mp ‹_›
  · rw [(Touches.netStop.andThen .calAbandonAll).rd (by decide), State.raise_rd, State.rd_wr_same]
    rfl

theorem State.fallbackEnter_cause (h : s.on Reg.CLK_STAT_FALLBACK = false) : bit s.fallbackEnter.intCause 10 = true := by
  rw [State.fallbackEnter, if_neg (by simp [h])]
  exact (Touches.netStop.andThen .calAbandonAll).causes 10 State.bit_raise

/-- A first bad window is remembered. -/
theorem State.auditStep_first (hup : s.up = true) (haud : s.on Reg.CLK_STAT_AUDIT_OK = true) (hfb : s.on Reg.CLK_STAT_FALLBACK = false)
    (hbad : (windowBad x || windowBad p) = true) (h0 : s.rd Hid.audBad = 0) :
    s.auditStep x p = (s.wr Reg.CLK_STAT_XTAL_OK (b2n (!windowBad x))).wr Hid.audBad 1 := by
  simp [State.auditStep, hup, haud, hfb, hbad, h0]

/-- The flags of a confirmed loss. -/
def State.lossFlags (s : State) (x p : Nat) : State :=
  (((s.wr Reg.CLK_STAT_XTAL_OK (b2n (!windowBad x))).wr Hid.audBad 0).whenB (windowBad x) (fun u => u.wr Reg.CLK_FLAGS_XTAL_LOSS 1)).whenB
    (windowBad p) (fun u => u.wr Reg.CLK_FLAGS_PLL_LOSS 1)

/-- A second bad window in a row begins clock fallback. -/
theorem State.auditStep_second (hup : s.up = true) (haud : s.on Reg.CLK_STAT_AUDIT_OK = true) (hfb : s.on Reg.CLK_STAT_FALLBACK = false)
    (hbad : (windowBad x || windowBad p) = true) (h0 : s.rd Hid.audBad ≠ 0) : s.auditStep x p = (s.lossFlags x p).fallbackEnter := by
  simp [State.auditStep, State.lossFlags, hup, haud, hfb, hbad, h0]

theorem State.lossFlags_on : (s.lossFlags x p).on Reg.CLK_STAT_FALLBACK = s.on Reg.CLK_STAT_FALLBACK :=
  (((Touches.refl s).wr.wr.whenB fun t => (Touches.refl t).wr).whenB fun t => (Touches.refl t).wr).on (by decide)

theorem State.lossFlags_xtal : (s.lossFlags x p).rd Reg.CLK_FLAGS_XTAL_LOSS =
    if windowBad x then 1 else s.rd Reg.CLK_FLAGS_XTAL_LOSS := by
  rw [State.lossFlags, ((Touches.refl _).whenB fun t => (Touches.refl t).wr).rd (by decide), State.whenB]
  split
  · exact State.rd_wr_same _ _ _
  · exact (Touches.refl s).wr.wr.rd (by decide)

theorem State.lossFlags_pll (h : windowBad p = true) : (s.lossFlags x p).rd Reg.CLK_FLAGS_PLL_LOSS = 1 := by
  rw [State.lossFlags, State.whenB, if_pos h]
  exact State.rd_wr_same _ _ _

/-- What a confirmed loss leaves: fallback, with the flags of its own bad comparisons, and the clock's cause. -/
theorem exec_auditWindow_second (hup : s.up = true) (haud : s.on Reg.CLK_STAT_AUDIT_OK = true) (hfb : s.on Reg.CLK_STAT_FALLBACK = false)
    (hbad : (windowBad x || windowBad p) = true) (h0 : s.rd Hid.audBad ≠ 0) :
    ∃ t, exec (.auditWindow x p) s = .next t ∧ t.rd Reg.CLK_STAT_FALLBACK = 1 ∧
      t.rd Reg.CLK_FLAGS_XTAL_LOSS = (if windowBad x then 1 else s.rd Reg.CLK_FLAGS_XTAL_LOSS) ∧
      (windowBad p = true → t.rd Reg.CLK_FLAGS_PLL_LOSS = 1) ∧ bit t.intCause 10 = true := by
  refine exists_fin ?_
  simp only [State.evcEdge_rd, State.auditStep_second hup haud hfb hbad h0, Touches.fallbackEnter.rd (f := Reg.CLK_FLAGS_XTAL_LOSS) (by decide),
    Touches.fallbackEnter.rd (f := Reg.CLK_FLAGS_PLL_LOSS) (by decide)]
  exact ⟨State.fallbackEnter_rd, State.lossFlags_xtal, State.lossFlags_pll,
    State.evcEdge_causes (State.fallbackEnter_cause (State.lossFlags_on.trans hfb))⟩

theorem exec_auditWindow_first (hup : s.up = true) (haud : s.on Reg.CLK_STAT_AUDIT_OK = true) (hfb : s.on Reg.CLK_STAT_FALLBACK = false)
    (hbad : (windowBad x || windowBad p) = true) (h0 : s.rd Hid.audBad = 0) :
    ∃ t, exec (.auditWindow x p) s = .next t ∧ t.rd Hid.audBad = 1 ∧ t.on Reg.CLK_STAT_FALLBACK = false ∧
      t.rd Reg.CLK_STAT_XTAL_OK = b2n (!windowBad x) := by
  refine exists_fin ?_
  simp only [State.evcEdge_rd, State.evcEdge_on, State.auditStep_first hup haud hfb hbad h0]
  refine ⟨State.rd_wr_same _ _ _, ((Touches.refl s).wr.wr.on (by decide)).trans hfb, ?_⟩
  rw [State.rd_wr_ne _ _ _ _ (by decide), State.rd_wr_same]
  cases windowBad x <;> rfl

theorem exec_pllLockLoss (hup : s.up = true) (haud : s.on Reg.CLK_STAT_AUDIT_OK = true) :
    ∃ t, exec .pllLockLoss s = .next t ∧ t.rd Reg.CLK_STAT_FALLBACK = 1 ∧ t.rd Reg.CLK_STAT_PLL_LOCK = 0 ∧
      t.rd Reg.CLK_FLAGS_PLL_LOSS = 1 := by
  have he : exec .pllLockLoss s = fin (s.wrs [(Reg.CLK_STAT_PLL_LOCK, 0), (Reg.CLK_FLAGS_PLL_LOSS, 1)]).fallbackEnter := by
    change execPllLockLoss s = _
    simp [execPllLockLoss, hup, haud]
  rw [he]
  refine exists_fin ?_
  simp only [State.evcEdge_rd, Touches.fallbackEnter.rd (f := Reg.CLK_STAT_PLL_LOCK) (by decide),
    Touches.fallbackEnter.rd (f := Reg.CLK_FLAGS_PLL_LOSS) (by decide)]
  exact ⟨State.fallbackEnter_rd, (State.rd_wr_ne _ _ _ _ (by decide)).trans (State.rd_wr_same _ _ _), State.rd_wr_same _ _ _⟩

/-! Clock fallback ends. -/

theorem Touches.scInit : Touches [] [Hid.scOn, Hid.scBackoff, Hid.scAlt, Reg.NET_SC_STAT_WAIT, Reg.NET_STAT_SC_STATE, Reg.NET_FLAGS_FLAGS]
    s s.scInit :=
  .of (by decide) (.branch (refl s).wr.wr.wr.wr.wr (.branch (refl s).wr.wr.wr.wr.wr
    (.branch (refl s).wr.wr.wr.wr.wr.or (refl s).wr.wr.wr.wr.wr.wr)))

theorem Touches.busInit : Touches [] [Reg.BUS_STAT_STATE, Reg.BUS_STAT_TOKEN_AGE] s (s.busInit k) := .of (by decide) (refl s).wrAt.wrAt

/-- What the buses and the Secure Connect node set when the clock returns. -/
def Touches.portFlds : List Fld :=
  [Hid.scOn, Hid.scBackoff, Hid.scAlt, Reg.NET_SC_STAT_WAIT, Reg.NET_STAT_SC_STATE, Reg.NET_FLAGS_FLAGS, Reg.BUS_STAT_STATE,
   Reg.BUS_STAT_TOKEN_AGE]

theorem Touches.netPorts : Touches [] portFlds s s.netPorts := .of (by decide) ((scInit.andThen busInit).andThen busInit)

theorem Touches.calDue {asked : Bool} : Touches [.cals] [] s (s.calDue k asked) := .of (by decide) (.branch (refl s) (refl s).setCal)

/-- The clock's own fields when it returns. -/
def State.clockBack (s : State) : State :=
  (s.wrs [(Reg.CLK_STAT_FALLBACK, 0), (Reg.CLK_STAT_XTAL_OK, 1), (Reg.CLK_STAT_PLL_LOCK, 1), (Reg.CLK_FLAGS_RETURN, 1),
    (Hid.audBad, 0)]).raise 10

theorem State.fallbackEnd_of_ran (h : s.on Reg.BOOT_STAT_SIG_WAIT = false) : Touches [] Touches.portFlds s.clockBack s.fallbackEnd := by
  rw [State.fallbackEnd, if_neg (by simp [h])]
  exact .of (by decide) (((Touches.refl _).whenB fun _ => .netPorts).whenB fun _ => .busInit)

theorem State.fallbackEnd_of_wait (h : s.on Reg.BOOT_STAT_SIG_WAIT = true) : s.fallbackEnd = s.clockBack.assertReset 7 := by
  rw [State.fallbackEnd, if_pos h]
  rfl

/-- A next state of CLOCK_FALLBACK_RETURN is the clock's return and perhaps calibrations made due. -/
theorem exec_clockFallbackReturn (hup : s.up = true) (hfb : s.on Reg.CLK_STAT_FALLBACK = true) (hx : s.on Reg.CLK_STAT_XTAL_OK = true) :
    ∃ t, exec .clockFallbackReturn s = fin t ∧ Touches [.cals] [] s.fallbackEnd t ∧ (s.fallbackEnd.up = false → t = s.fallbackEnd) := by
  have h : exec .clockFallbackReturn s = execClockFallbackReturn s := rfl
  rw [h]
  simp only [execClockFallbackReturn, hup, hfb, hx, Bool.true_eq_false, or_self, if_false]
  split
  · rename_i h
    exact ⟨_, rfl, (Touches.refl _).each fun t c => .calDue, fun hn => by simp [hn] at h⟩
  · exact ⟨_, rfl, (Touches.refl _).left, fun _ => rfl⟩

theorem exec_clockFallbackReturn_ran (hup : s.up = true) (hfb : s.on Reg.CLK_STAT_FALLBACK = true)
    (hx : s.on Reg.CLK_STAT_XTAL_OK = true) (hw : s.on Reg.BOOT_STAT_SIG_WAIT = false) :
    ∃ t, exec .clockFallbackReturn s = .next t ∧ t.rd Reg.CLK_STAT_FALLBACK = 0 ∧ t.rd Reg.CLK_STAT_PLL_LOCK = 1 ∧
      t.rd Reg.CLK_FLAGS_RETURN = 1 := by
  obtain ⟨t, he, ht, -⟩ := exec_clockFallbackReturn hup hfb hx
  rw [he]
  have hb := (State.fallbackEnd_of_ran hw).andThen ht
  refine exists_fin ?_
  simp only [State.evcEdge_rd, hb.rd (f := Reg.CLK_STAT_FALLBACK) (by decide), hb.rd (f := Reg.CLK_STAT_PLL_LOCK) (by decide),
    hb.rd (f := Reg.CLK_FLAGS_RETURN) (by decide)]
  simp (disch := decide) only [State.clockBack, State.raise_rd, State.wrs, State.rd_wr_ne, State.rd_wr_same]
  decide

theorem exec_clockFallbackReturn_wait (hup : s.up = true) (hfb : s.on Reg.CLK_STAT_FALLBACK = true)
    (hx : s.on Reg.CLK_STAT_XTAL_OK = true) (hw : s.on Reg.BOOT_STAT_SIG_WAIT = true) :
    ∃ t, exec .clockFallbackReturn s = .next t ∧ t.rd Reg.RST_CAUSE_CAUSE = 7 ∧ t.mode = mBoot ∧ t.rd Hid.resetActive = 1 := by
  have hback : s.clockBack.alive = true := by
    have h : Touches [] _ s s.clockBack := (Touches.refl s).wrs.raise
    rw [← State.up_alive hup]
    simp only [State.alive, State.mode, h.rd (f := Reg.PWR_MODE_MODE) (by decide), h.rd (f := Hid.resetActive) (by decide)]
  have hreset : s.fallbackEnd = s.clockBack.bootReset 7 := (State.fallbackEnd_of_wait hw).trans (State.assertReset_of_alive hback)
  have hdown : s.fallbackEnd.up = false := by
    rw [hreset, State.up, (State.bootReset_rebooted (by decide)).1]
    simp
  obtain ⟨t, he, -, ht⟩ := exec_clockFallbackReturn hup hfb hx
  obtain ⟨u, hu, hmode, hcause, hact, -⟩ := (State.bootReset_rebooted (s := s.clockBack) (cause := 7) (by decide)).fin State.bootReset_evcs
  exact ⟨u, by rw [he, ht hdown, hreset, hu], hcause, hmode, hact⟩

/-! The AUDIT oscillator. -/

theorem exec_auditOscFail (hup : s.up = true) (haud : s.on Reg.CLK_STAT_AUDIT_OK = true) :
    ∃ t, exec .auditOscFail s = .next t ∧ t.rd Reg.CLK_STAT_AUDIT_OK = 0 ∧ t.rd Reg.CLK_FLAGS_AUDIT_LOSS = 1 ∧
      bit t.intCause 10 = true := by
  have he : exec .auditOscFail s =
      fin ((s.wrs [(Reg.CLK_STAT_AUDIT_OK, 0), (Reg.CLK_FLAGS_AUDIT_LOSS, 1), (Hid.audBad, 0)]).raise 10) := by
    change execAuditOscFail s = _
    simp [execAuditOscFail, hup, haud]
  rw [he]
  refine exists_fin ⟨?_, ?_, State.evcEdge_causes State.bit_raise⟩ <;>
    simp (disch := decide) only [State.evcEdge_rd, State.raise_rd, State.wrs, State.rd_wr_ne, State.rd_wr_same] <;> decide

theorem exec_auditOscReturn (hup : s.up = true) : ∃ t, exec .auditOscReturn s = .next t ∧ t.rd Reg.CLK_STAT_AUDIT_OK = 1 := by
  have he : exec .auditOscReturn s = fin (s.wr Reg.CLK_STAT_AUDIT_OK 1) := if_pos hup
  rw [he]
  exact exists_fin ((State.evcEdge_rd _ _).trans (State.rd_wr_same _ _ _))

/-! The supplies. -/

/-- What a supply condition that begins sets. -/
theorem State.supplyBad_shows (hf : f.id ≠ Reg.PWR_FLAGS_FLAGS.id) (hw : 1 < 2 ^ f.w) (hk : k < 5) :
    (s.supplyBad f k cause).rd f = 1 ∧ bit ((s.supplyBad f k cause).rd Reg.PWR_FLAGS_FLAGS) k = true ∧
      (cause = true → bit (s.supplyBad f k cause).intCause 9 = true) := by
  have hm : Touches [] [] ((s.wr f 1).or Reg.PWR_FLAGS_FLAGS (2 ^ k)) (s.supplyBad f k cause) :=
    .of (by decide) ((Touches.refl _).whenB fun t => (Touches.refl t).raise)
  refine ⟨?_, ?_, ?_⟩
  · rw [hm.rd (by simp), State.rd_or_ne hf, State.rd_wr_same, Nat.mod_eq_of_lt hw]
  · rw [hm.rd (by simp), State.bit_or_same hk]
  · rintro rfl
    exact State.bit_raise

/-- The condition is the same after what follows it, where that touches neither its bit nor the flags. -/
theorem exists_fin_supplyBad {P : List Part} {L : List Fld} (ht : Touches P L (s.supplyBad f k true) t) (hf : f.id ≠ Reg.PWR_FLAGS_FLAGS.id)
    (hw : 1 < 2 ^ f.w) (hk : k < 5) (hfL : f.id ∉ L.map Fld.id) (hL : Reg.PWR_FLAGS_FLAGS.id ∉ L.map Fld.id) :
    ∃ u, fin t = .next u ∧ u.rd f = 1 ∧ bit (u.rd Reg.PWR_FLAGS_FLAGS) k = true ∧ bit u.intCause 9 = true := by
  obtain ⟨hset, hflag, hcause⟩ := State.supplyBad_shows (s := s) (cause := true) hf hw hk
  refine exists_fin ⟨?_, ?_, State.evcEdge_causes (ht.causes 9 (hcause rfl))⟩
  · rw [State.evcEdge_rd, ht.rd hfL, hset]
  · rw [State.evcEdge_rd, ht.rd hL, hflag]

theorem exec_earlyWarning (hup : s.up = true) (hew : s.on Reg.PWR_STAT_EW = false) :
    ∃ t, exec .earlyWarning s = .next t ∧ t.rd Reg.PWR_STAT_EW = 1 ∧ bit (t.rd Reg.PWR_FLAGS_FLAGS) 0 = true ∧ bit t.intCause 9 = true := by
  have he : exec .earlyWarning s = fin ((s.supplyBad Reg.PWR_STAT_EW 0 true).panelDischarge) := by
    change execEarlyWarning s = _
    simp [execEarlyWarning, hup, hew]
  rw [he]
  exact exists_fin_supplyBad .panelDischarge (by decide) (by decide) (by decide) (by decide) (by decide)

theorem exec_earlyWarningClear (hup : s.up = true) : ∃ t, exec .earlyWarningClear s = .next t ∧ t.on Reg.PWR_STAT_EW = false := by
  by_cases hew : s.on Reg.PWR_STAT_EW = false
  · have he : exec .earlyWarningClear s = fin s := if_pos (.inr hew)
    exact he ▸ exists_fin (State.evcEdge_on.trans hew)
  · have he : exec .earlyWarningClear s = fin ((s.wr Reg.PWR_STAT_EW 0).panelIdle) := by
      change execEarlyWarningClear s = _
      simp [execEarlyWarningClear, hup, hew]
    rw [he]
    refine exists_fin ?_
    rw [State.evcEdge_on, Touches.panelIdle.on (by decide), State.on_wr_same]
    rfl

/-- The converters after a stop. -/
def State.convsStop (s : State) : State :=
  { s with convs := s.convs.map fun (x : ConvS) => { x.boundary with phase := .stopped } }

theorem exec_vddaUv (hup : s.up = true) (hv : s.on Reg.PWR_STAT_VDDA_UV = false) :
    ∃ t, exec .vddaUv s = .next t ∧ t.rd Reg.PWR_STAT_VDDA_UV = 1 ∧ bit (t.rd Reg.PWR_FLAGS_FLAGS) 1 = true ∧
      (∀ x ∈ t.convs, x.phase = .stopped ∧ x.entry = none) := by
  have he : exec .vddaUv s = fin (s.supplyBad Reg.PWR_STAT_VDDA_UV 1 false).calAbandonAll.convsStop.refreshRelief := by
    change execVddaUv s = _
    simp [execVddaUv, hup, hv, State.convsStop]
  have ht := (Touches.calAbandonAll (s := s.supplyBad Reg.PWR_STAT_VDDA_UV 1 false)).setConvs
    (x := (s.supplyBad Reg.PWR_STAT_VDDA_UV 1 false).calAbandonAll.convsStop.convs) |>.andThen .refreshRelief
  obtain ⟨hset, hflag, -⟩ := State.supplyBad_shows (s := s) (f := Reg.PWR_STAT_VDDA_UV) (k := 1) (cause := false) (by decide) (by decide)
    (by decide)
  rw [he]
  refine exists_fin ⟨?_, ?_, ?_⟩
  · rw [State.evcEdge_rd]
    exact (ht.rd (by decide)).trans hset
  · rw [State.evcEdge_rd]
    exact (congrArg (bit · 1) (ht.rd (by decide))).trans hflag
  · rw [(Touches.evcEdge (.refl _)).parts .convs (by decide), Touches.refreshRelief.parts .convs (by decide)]
    intro x hx
    obtain ⟨y, -, rfl⟩ := List.mem_map.mp hx
    exact ⟨rfl, rfl⟩

/-- The mark of an input that has none (R334). -/
def State.settleMark (s : State) (i : Nat) : State :=
  if s.rdAt Reg.UI_STAT_SETTLE_LEFT i = 0 then s.wrAt Reg.UI_STAT_SETTLE_LEFT i 1 else s

theorem Touches.settleMark : Touches [] [Reg.UI_STAT_SETTLE_LEFT] s (s.settleMark k) := .of (by decide) (.branch (refl s).wrAt (refl s))

theorem State.settleMark_same : (s.settleMark k).rdAt Reg.UI_STAT_SETTLE_LEFT k ≠ 0 := by
  unfold State.settleMark
  split
  · simp [State.rdAt_wrAt_same]
    decide
  · assumption

theorem State.settleMark_keeps {i : Nat} (h : s.rdAt Reg.UI_STAT_SETTLE_LEFT i ≠ 0) :
    (s.settleMark k).rdAt Reg.UI_STAT_SETTLE_LEFT i ≠ 0 := by
  by_cases hi : i = k
  · exact hi ▸ State.settleMark_same
  · unfold State.settleMark
    split
    · rwa [State.rdAt_wrAt_ne _ _ _ _ _ _ fun h => hi h.2]
    · exact h

theorem State.settleMarks_keep {i : Nat} {l : List Nat} (h : s.rdAt Reg.UI_STAT_SETTLE_LEFT i ≠ 0) :
    (s.each l State.settleMark).rdAt Reg.UI_STAT_SETTLE_LEFT i ≠ 0 := by
  induction l generalizing s with
  | nil => exact h
  | cons a l ih => exact ih (s := s.settleMark a) (State.settleMark_keeps h)

theorem State.settleMarks {i : Nat} {l : List Nat} (hi : i ∈ l) : (s.each l State.settleMark).rdAt Reg.UI_STAT_SETTLE_LEFT i ≠ 0 := by
  induction l generalizing s with
  | nil => simp at hi
  | cons a l ih =>
    rcases List.mem_cons.mp hi with rfl | hi
    · exact State.settleMarks_keep (s := s.settleMark i) State.settleMark_same
    · exact ih (s := s.settleMark a) hi

/-- The converters at the start of their walks. -/
def State.convsResume (s : State) : State :=
  { s with convs := s.convs.map (fun (x : ConvS) =>
      { x with phase := if x.urg.isSome || !x.wait.isEmpty then .starting else .off, entry := none, pos := 0 }) }

theorem exec_vddaUvClear (hup : s.up = true) (hv : s.on Reg.PWR_STAT_VDDA_UV = true) :
    ∃ t, exec .vddaUvClear s = .next t ∧ t.rd Reg.PWR_STAT_VDDA_UV = 0 ∧ t.rd Hid.calHold = 1000 ∧
      (∀ i : Nat, i < 64 → t.rdAt Reg.UI_STAT_SETTLE_LEFT i ≠ 0) ∧ (∀ x ∈ t.convs, x.pos = 0 ∧ x.entry = none) := by
  have he : exec .vddaUvClear s = fin (((s.wrs [(Reg.PWR_STAT_VDDA_UV, 0), (Hid.calHold, 1000)]).convsResume.each (upTo 64)
      State.settleMark).refreshRelief) := by
    change execVddaUvClear s = _
    simp [execVddaUvClear, hup, hv, State.convsResume]
    rfl
  have hwr : (s.wrs [(Reg.PWR_STAT_VDDA_UV, 0), (Hid.calHold, 1000)]).rd Reg.PWR_STAT_VDDA_UV = 0 ∧
      (s.wrs [(Reg.PWR_STAT_VDDA_UV, 0), (Hid.calHold, 1000)]).rd Hid.calHold = 1000 := by
    simp (disch := decide) only [State.wrs, State.rd_wr_ne, State.rd_wr_same]
    decide
  generalize s.wrs [(Reg.PWR_STAT_VDDA_UV, 0), (Hid.calHold, 1000)] = t at he hwr
  have hmarks : Touches [] [Reg.UI_STAT_SETTLE_LEFT] t.convsResume (t.convsResume.each (upTo 64) State.settleMark) :=
    .of (by decide) ((Touches.refl _).each fun _ _ => .settleMark)
  have ht := (hmarks.andThen .refreshRelief).evcEdge
  rw [he]
  refine ⟨_, rfl, (ht.rd (by decide)).trans hwr.1, (ht.rd (by decide)).trans hwr.2, fun i hi => ?_, ?_⟩
  · rw [State.evcEdge_rdAt, Touches.refreshRelief.rdAt (by decide)]
    exact State.settleMarks (List.mem_range.mpr hi)
  · rw [ht.parts .convs (by decide)]
    intro x hx
    obtain ⟨y, -, rfl⟩ := List.mem_map.mp hx
    exact ⟨rfl, rfl⟩

theorem exec_vmFault_uv (hup : s.up = true) (hf : s.on Reg.PWR_STAT_VM_UV = false) :
    ∃ t, exec (.vmFault false) s = .next t ∧ t.rd Reg.PWR_STAT_VM_UV = 1 ∧ bit (t.rd Reg.PWR_FLAGS_FLAGS) 2 = true ∧
      bit t.intCause 9 = true := by
  have he : exec (.vmFault false) s = fin ((s.supplyBad Reg.PWR_STAT_VM_UV 2 true).cutRefresh) := by
    change execVmFault false s = _
    simp [execVmFault, hup, hf]
  rw [he]
  exact exists_fin_supplyBad .cutRefresh (by decide) (by decide) (by decide) (by decide) (by decide)

theorem exec_vmFault_ov (hup : s.up = true) (hf : s.on Reg.PWR_STAT_VM_OV = false) :
    ∃ t, exec (.vmFault true) s = .next t ∧ t.rd Reg.PWR_STAT_VM_OV = 1 ∧ bit (t.rd Reg.PWR_FLAGS_FLAGS) 3 = true ∧
      bit t.intCause 9 = true := by
  have he : exec (.vmFault true) s = fin ((s.supplyBad Reg.PWR_STAT_VM_OV 3 true).cutRefresh) := by
    change execVmFault true s = _
    simp [execVmFault, hup, hf]
  rw [he]
  exact exists_fin_supplyBad .cutRefresh (by decide) (by decide) (by decide) (by decide) (by decide)

theorem exec_vmFaultClear {ov : Bool} (hup : s.up = true) :
    ∃ t, exec (.vmFaultClear ov) s = .next t ∧ t.on (if ov then Reg.PWR_STAT_VM_OV else Reg.PWR_STAT_VM_UV) = false := by
  obtain ⟨f, hf⟩ : ∃ f, f = if ov then Reg.PWR_STAT_VM_OV else Reg.PWR_STAT_VM_UV := ⟨_, rfl⟩
  have hcut : f.id ∉ Touches.cutFlds.map Fld.id := by
    rw [hf]
    cases ov <;> decide
  rw [← hf]
  by_cases hon : s.on f = false
  · have he : exec (.vmFaultClear ov) s = fin s := by
      change execVmFaultClear ov s = _
      simp [execVmFaultClear, ← hf, hon]
    exact he ▸ exists_fin (State.evcEdge_on.trans hon)
  · have he : exec (.vmFaultClear ov) s = fin ((s.wr f 0).cutRefresh) := by
      change execVmFaultClear ov s = _
      simp [execVmFaultClear, ← hf, hup, hon]
    rw [he]
    refine exists_fin ?_
    rw [State.evcEdge_on, Touches.cutRefresh.on hcut, State.on_wr_same, Nat.zero_mod]
    rfl

/-- Settles O12: each clause is the end of one command, whose later steps are framed by what they touch. -/
theorem supervisionOfSupplies : Obligations.SupervisionOfSupplies := by
  refine ⟨fun s x p hup haud hfb hx h0 => ?_, fun s x p hup haud hfb hx h0 => ?_, fun s x p hup haud hfb hx hp h0 => ?_,
    fun s x p hup haud hfb hx hp h0 => ?_, fun s x p hup haud hfb hx hp h0 => ?_, fun s => exec_pllLockLoss,
    fun s => exec_clockFallbackReturn_ran, fun s hup hfb hx hw _ => exec_clockFallbackReturn_wait hup hfb hx hw, fun s => exec_auditOscFail,
    fun s => exec_auditOscReturn, fun s => exec_earlyWarning, fun s => exec_earlyWarningClear, fun s => exec_vddaUv, fun s => exec_vddaUvClear,
    fun s => exec_vmFault_uv, fun s => exec_vmFault_ov, fun s ov => exec_vmFaultClear⟩
  · obtain ⟨t, ht, hbad, hfall, hxtal⟩ := exec_auditWindow_first (x := x) (p := p) hup haud hfb (by simp [hx]) h0
    exact ⟨t, ht, hbad, hfall, by simpa [hx, b2n] using hxtal⟩
  · obtain ⟨t, ht, hfall, hxtal, -, hcause⟩ := exec_auditWindow_second (x := x) (p := p) hup haud hfb (by simp [hx]) h0
    exact ⟨t, ht, hfall, by simpa [hx] using hxtal, hcause⟩
  · obtain ⟨t, ht, hbad, hfall, hxtal⟩ := exec_auditWindow_first (x := x) (p := p) hup haud hfb (by simp [hp]) h0
    exact ⟨t, ht, hbad, hfall, by simpa [hx, b2n] using hxtal⟩
  · obtain ⟨t, ht, hfall, hxtal, hpll, hcause⟩ := exec_auditWindow_second (x := x) (p := p) hup haud hfb (by simp [hp]) h0
    exact ⟨t, ht, hfall, hpll hp, by simpa [hx] using hxtal, hcause⟩
  · obtain ⟨t, ht, hfall, hxtal, hpll, hcause⟩ := exec_auditWindow_second (x := x) (p := p) hup haud hfb (by simp [hx]) h0
    exact ⟨t, ht, hfall, by simpa [hx] using hxtal, hpll hp, hcause⟩

end Sys2Proof.Machine
end

section
/-! What the composer's fetch and the panel's frames touch (R421, R426). -/

namespace Sys2Proof.Machine

variable {s t m : State} {P : List Part} {L : List Fld} {c w b pol : Nat} {i : Item}

namespace Touches

theorem setArb {x} (hs : Touches P L m s) : Touches (P ++ [.arb]) L m { s with arb := x } := hs.set [.arb] rfl rfl rfl

theorem setTexts {x} (hs : Touches P L m s) : Touches (P ++ [.held]) L m { s with held := x } := hs.set [.held] rfl rfl rfl

theorem setFbBad {x} (hs : Touches P L m s) : Touches (P ++ [.fbBad]) L m { s with fbBad := x } := hs.set [.fbBad] rfl rfl rfl

/-- The records of a read coach word (R110). -/
def eccFlds : List Fld :=
  [Reg.SUPV_STAT_DUE, Reg.SUPV_DUE_ADDR_COACH, Reg.SUPV_DUE_ADDR_WORD, Reg.SUPV_DUE_ADDR_BY_SCRUB, Reg.MEM_ERR_COACH, Reg.SUPV_STAT_CE,
   Reg.SUPV_CE_ADDR_COACH, Reg.SUPV_CE_ADDR_WORD, Reg.SUPV_CE_ADDR_SYNDROME]

theorem noteDue {scrub} : Touches [] eccFlds s (s.noteDue c w scrub) := .of (by decide) (refl s).wr.wr.wr.wr.count.wr.raise

theorem ceFix : Touches [.upsets] eccFlds s (s.ceFix c w) := by
  unfold State.ceFix State.freshen State.noteCe
  exact .of (by decide) (branch (refl s).wr.wr.wr.wr.count.setUpsets (refl s))

/-- What a request for the coach bus writes where it is refused (R124). -/
def busFlds : List Fld := [Reg.ARB_FLAGS_ORDER, Reg.ARB_ORDER_LOG_REQ, Reg.ARB_ORDER_LOG_HELD, Reg.ARB_ORDER_LOG_ASKED]

theorem busRaise {id x ask} : Touches [.arb] busFlds s (s.busRaise id x ask) := by
  unfold State.busRaise State.orderRefuse
  exact .of (by decide) (branch (refl s).setArb.wr.wr.wr.wr.count.raise (branch (refl s) (refl s).setArb.countIf))

theorem busAsk {id x ask} : Touches [.arb] busFlds s (s.busAsk id x ask) := .of (by decide) (branch busRaise (refl s))

theorem fetchAsk : Touches [.arb] busFlds s (s.fetchAsk b) := by
  unfold State.fetchAsk State.fetchNext
  refine .of (by decide) ((refl s).setArb.andThen (branch (P' := [.arb]) (L' := busFlds) (refl _) ?_))
  split
  · exact .of (by decide) (refl _)
  · exact .of (by decide) ((refl _).setArb.andThen busAsk)

/-- What the composer's fetch of a field writes (R426). -/
def fetchFlds : List Fld := busFlds ++ eccFlds

theorem fetchWord : Touches [.upsets] eccFlds s (s.fetchWord c w).2 := by
  unfold State.fetchWord
  exact .of (by decide) (branch_snd (noteDue.andThen ((refl _).freeBelow (n := 2 ^ 32))) ceFix)

theorem fieldValue : Touches [.upsets] eccFlds s (s.fieldValue w).2 := by
  unfold State.fieldValue
  exact .of (by decide) (branch_snd fetchWord (branch_snd (refl s) (branch_snd fetchWord (refl s))))

theorem itemText : Touches [.upsets] eccFlds s (s.itemText i).2 := by
  unfold State.itemText State.fieldText
  exact .of (by decide) (branch_snd (refl s) (branch_snd (branch_snd (refl s) fieldValue) (refl s)))

theorem fieldFetch : Touches [.arb, .upsets] fetchFlds s (s.fieldFetch i).2 := by
  unfold State.fieldFetch
  cases fieldBeat i.w1 with
  | some b => exact .of (by decide) ((fetchAsk (b := b)).andThen itemText)
  | none => exact .of (by decide) (((refl s).freeBelow.andThen fetchAsk).andThen itemText)

theorem compFetch : Touches [.arb, .upsets, .held] (Hid.compTick :: Hid.compWait :: fetchFlds) s s.compFetch :=
  .of (by decide) (branch (refl s) ((refl s).wr.foldl fun _ _ => branch fieldFetch.setTexts.wr fieldFetch.setTexts))

/-- What a frame that starts sets first. -/
def frameFlds : List Fld :=
  [Reg.DISP_STAT_POL, Reg.DISP_STAT_SLOT, Hid.dispHold, Hid.dispRb, Hid.dispUs, Hid.dispDrew, Hid.dispTick]

/-- What it latches, counts and fetches after that. -/
def latchFlds : List Fld :=
  [Hid.dispLines, Hid.dispRefresh, Reg.DISP_STAT_BAND, Reg.DISP_FRAMES_COUNT, Hid.compTick, Hid.compWait] ++ fetchFlds

end Touches

/-- A frame that starts, but for its latches, its count and the composer's fetch. -/
def State.frameOpen (s : State) (pol : Nat) : State :=
  s.wrs [(Reg.DISP_STAT_POL, pol), (Reg.DISP_STAT_SLOT, 0), (Hid.dispHold, 0), (Hid.dispRb, 0), (Hid.dispUs, 0),
    (Hid.dispDrew, 0), (Hid.dispTick, s.tick)]

/-- LINES and REFRESH as a positive frame takes them (R420). -/
def State.frameSize (s t : State) (pol : Nat) : State :=
  if pol = 0 then
    t.wrs [(Hid.dispLines, s.rd Reg.DISP_CTRL_LINES), (Hid.dispRefresh, if s.mode = mStandby then 1 else s.rd Reg.DISP_CTRL_REFRESH)]
  else t

/-- The frame's band latched. -/
def State.frameBand (s t : State) : State := (t.countIf (s.bandNow != s.rd Reg.DISP_STAT_BAND) 0xEA).wr Reg.DISP_STAT_BAND s.bandNow

/-- A frame of a running panel counted (R420). -/
def State.frameCount (s : State) : State :=
  if s.rd Reg.DISP_STAT_STATE = 3 then (s.wr Reg.DISP_FRAMES_COUNT (s.rd Reg.DISP_FRAMES_COUNT + 1)).count 0xE0 else s

theorem State.frameStart_eq : s.frameStart pol = (s.frameBand (s.frameSize (s.frameOpen pol) pol)).frameCount.compFetch := rfl

namespace Touches

theorem frameOpen : Touches [] frameFlds s (s.frameOpen pol) := .of (by decide) (refl s).wr.wr.wr.wr.wr.wr.wr

theorem frameSize : Touches [] [Hid.dispLines, Hid.dispRefresh] t (s.frameSize t pol) := .of (by decide) (branch (refl t).wr.wr (refl t))

theorem frameBand : Touches [] [Reg.DISP_STAT_BAND] t (s.frameBand t) := (refl t).countIf.wr

theorem frameCount : Touches [] [Reg.DISP_FRAMES_COUNT] s s.frameCount := .of (by decide) (branch (refl s).wr.count (refl s))

theorem frameStart_of_open : Touches [.arb, .upsets, .held] latchFlds (s.frameOpen pol) (s.frameStart pol) :=
  .of (by decide) (((frameSize.andThen frameBand).andThen frameCount).andThen compFetch)

theorem frameStart : Touches [.arb, .upsets, .held] (frameFlds ++ latchFlds) s (s.frameStart pol) :=
  .of (by decide) (frameOpen.andThen frameStart_of_open)

end Touches

theorem State.bandNow_lt : s.bandNow < 2 ^ 2 := by
  unfold State.bandNow
  dsimp only
  split_ifs <;> decide

/-- A frame starts at slot 0 in its polarity, outside a hold. -/
theorem State.frameStart_opens : (s.frameStart pol).rd Reg.DISP_STAT_POL = pol % 2 ∧ (s.frameStart pol).rd Reg.DISP_STAT_SLOT = 0 ∧
    (s.frameStart pol).on Hid.dispHold = false := by
  have h := Touches.frameStart_of_open (s := s) (pol := pol)
  rw [h.rd (by decide), h.rd (by decide), h.on (by decide)]
  simp (disch := decide) only [State.frameOpen, State.on, State.wrs, State.rd_wr_ne, State.rd_wr_same]
  exact ⟨rfl, rfl, rfl⟩

theorem State.frameStart_band : (s.frameStart pol).rd Reg.DISP_STAT_BAND = s.bandNow := by
  rw [State.frameStart_eq, (Touches.frameCount.andThen .compFetch).rd (by decide), State.frameBand, State.rd_wr_same]
  exact Nat.mod_eq_of_lt State.bandNow_lt

theorem State.frameStart_lines : (s.frameStart 0).rd Hid.dispLines = s.rd Reg.DISP_CTRL_LINES % 2 ^ 8 := by
  rw [State.frameStart_eq, ((Touches.frameBand.andThen .frameCount).andThen .compFetch).rd (by decide)]
  exact (State.rd_wr_ne _ _ _ _ (by decide)).trans (State.rd_wr_same _ _ _)

theorem State.frameStart_counts (h : s.rd Reg.DISP_STAT_STATE = 3) :
    (s.frameStart pol).rd Reg.DISP_FRAMES_COUNT = (s.rd Reg.DISP_FRAMES_COUNT + 1) % 2 ^ 32 := by
  have ht := (Touches.frameOpen (s := s) (pol := pol)).andThen (.frameSize (s := s) (pol := pol)) |>.andThen (.frameBand (s := s))
  rw [State.frameStart_eq, Touches.compFetch.rd (by decide), State.frameCount, if_pos ((ht.rd (by decide)).trans h), State.count_rd,
    State.rd_wr_same, ht.rd (by decide)]
  rfl

end Sys2Proof.Machine
end
section
/-! The panel's slots and their read-back (R26, R418, R419, R423). -/

namespace Sys2Proof.Machine

variable {s t u : State} {us r out : Nat} {sources gates bad l : List Nat}

namespace Touches

theorem fbError : Touches [.fbBad] [Reg.MEM_ERR_FB, Hid.dispPage] s (s.fbError r l) :=
  .of (by decide) (branch (refl s) ((refl s).setFbBad.wr.raise.whenB fun t => (refl t).wr))

/-- What read-back records (R423). -/
def readBackFlds : List Fld := [Reg.DISP_FLAGS_RB_GATE, Reg.DISP_FLAGS_RB_SRC, Reg.DISP_RB_LOG_ROW, Reg.DISP_RB_LOG_OUT, Hid.dispRb]

theorem mismatch : Touches [] readBackFlds s (s.mismatch r out) := by
  unfold State.mismatch
  split <;> exact .of (by decide) (refl s).wr.wr.wr.count

theorem mismatches : Touches [] readBackFlds s (s.each l fun t o => t.mismatch r o) := .of (by decide) ((refl s).each fun _ _ => mismatch)

theorem readBackRow : Touches [] readBackFlds s (s.readBackRow r l) := .of (by decide) (branch mismatches.wr.raise mismatches)

end Touches

/-- The present slot reads a row. -/
def State.slotRow (s : State) : Bool := decide (2 ≤ s.rd Reg.DISP_STAT_SLOT) && decide (s.rd Reg.DISP_STAT_SLOT ≤ s.rd Hid.dispLines + 1)

/-- The bytes of its row that the present slot reads with an error. -/
def State.slotBytes (s : State) (bad : List Nat) : List Nat :=
  if s.slotRow && s.rd Reg.DISP_STAT_STATE == 3 then s.badBytes (s.rd Reg.DISP_STAT_SLOT - 2) bad else []

/-- The machine after the present slot's read-back. -/
def State.slotSeen (s : State) (sources gates bad : List Nat) : State :=
  if s.slotRow && s.readBack (s.rd Reg.DISP_STAT_SLOT - 2) then
    (s.fbError (s.rd Reg.DISP_STAT_SLOT - 2) (s.slotBytes bad)).readBackRow (s.rd Reg.DISP_STAT_SLOT - 2)
      (s.mismatches (s.rd Reg.DISP_STAT_SLOT - 2) sources gates (s.slotBytes bad))
  else s.fbError (s.rd Reg.DISP_STAT_SLOT - 2) (s.slotBytes bad)

/-- The present slot's end: its duration, and the next slot or the frame's hold. -/
def State.slotEnd (s u : State) (us : Nat) : State :=
  if s.rd Hid.dispLines + 3 ≤ s.rd Reg.DISP_STAT_SLOT then
    ((u.balance us).wr Hid.dispTick s.tick).wrs [(Reg.DISP_STAT_SLOT, 255), (Hid.dispHold, 1)]
  else ((u.balance us).wr Hid.dispTick s.tick).wr Reg.DISP_STAT_SLOT (s.rd Reg.DISP_STAT_SLOT + 1)

theorem exec_panelLineSlot (hscan : s.panelScans = true) (hhold : s.on Hid.dispHold = false) :
    exec (.panelLineSlot us sources gates bad) s = fin (s.slotEnd (s.slotSeen sources gates bad) us) := by
  have h : exec (.panelLineSlot us sources gates bad) s = execPanelLineSlot us sources gates bad s := rfl
  rw [h, execPanelLineSlot, if_neg (by simp [hscan, hhold])]
  rfl

theorem Touches.slotSeen_of_fbError : Touches [] readBackFlds (s.fbError (s.rd Reg.DISP_STAT_SLOT - 2) (s.slotBytes bad))
    (s.slotSeen sources gates bad) := .of (by decide) (branch readBackRow (refl _))

theorem Touches.slotSeen : Touches [.fbBad] ([Reg.MEM_ERR_FB, Hid.dispPage] ++ readBackFlds) s (s.slotSeen sources gates bad) :=
  .of (by decide) (fbError.andThen slotSeen_of_fbError)

/-- What a slot's end writes. -/
def Touches.slotFlds : List Fld := [Reg.DISP_BAL_BAL, Hid.dispUs, Hid.dispTick, Reg.DISP_STAT_SLOT, Hid.dispHold]

theorem Touches.slotEnd : Touches [] slotFlds u (s.slotEnd u us) := .of (by decide) (branch balance.wr.wr.wr balance.wr.wr)

theorem ofI_lt (w : Nat) (x : Int) : ofI w x < 2 ^ w := by
  have h : (0 : Int) < (2 ^ w : Nat) := by exact_mod_cast Nat.two_pow_pos w
  have hx := Int.emod_nonneg x h.ne'
  have := Int.emod_lt_of_pos x h
  unfold ofI
  omega

theorem State.rd_wrI_same {f : Fld} {x : Int} : (s.wrI f 0 x).rd f = ofI f.w x :=
  (State.rd_wr_same s f _).trans (Nat.mod_eq_of_lt (ofI_lt _ _))

theorem State.balance_bal : (s.balance us).rd Reg.DISP_BAL_BAL =
    ofI 24 (if s.on Reg.DISP_STAT_POL = true then s.rdI Reg.DISP_BAL_BAL 0 - us else s.rdI Reg.DISP_BAL_BAL 0 + us) := by
  rw [State.balance, State.rd_wr_ne _ _ _ _ (by decide)]
  exact State.rd_wrI_same

/-- A slot before the frame's last. -/
theorem panelLineSlot_advances (hscan : s.panelScans = true) (hhold : s.on Hid.dispHold = false)
    (hn : s.rd Reg.DISP_STAT_SLOT < s.rd Hid.dispLines + 3) :
    ∃ t, exec (.panelLineSlot us sources gates bad) s = .next t ∧ t.rd Reg.DISP_STAT_SLOT = (s.rd Reg.DISP_STAT_SLOT + 1) % 2 ^ 8 ∧
      t.rd Reg.DISP_BAL_BAL = ofI 24 (if s.on Reg.DISP_STAT_POL = true then s.rdI Reg.DISP_BAL_BAL 0 - us else s.rdI Reg.DISP_BAL_BAL 0 + us) := by
  have hu := Touches.slotSeen (s := s) (sources := sources) (gates := gates) (bad := bad)
  rw [exec_panelLineSlot hscan hhold]
  refine exists_fin ?_
  rw [State.evcEdge_rd, State.evcEdge_rd, State.slotEnd, if_neg (by omega)]
  refine ⟨State.rd_wr_same _ _ _, ?_⟩
  rw [State.rd_wr_ne _ _ _ _ (by decide), State.rd_wr_ne _ _ _ _ (by decide), State.balance_bal, hu.on (by decide), State.rdI, hu.rdAt (by decide)]
  rfl

/-- The frame's last slot. -/
theorem panelLineSlot_holds (hscan : s.panelScans = true) (hhold : s.on Hid.dispHold = false)
    (hn : s.rd Hid.dispLines + 3 ≤ s.rd Reg.DISP_STAT_SLOT) :
    ∃ t, exec (.panelLineSlot us sources gates bad) s = .next t ∧ t.rd Reg.DISP_STAT_SLOT = 255 ∧ t.on Hid.dispHold = true := by
  rw [exec_panelLineSlot hscan hhold]
  refine exists_fin ?_
  rw [State.evcEdge_rd, State.evcEdge_on, State.slotEnd, if_pos hn]
  exact ⟨(State.rd_wr_ne _ _ _ _ (by decide)).trans (State.rd_wr_same _ _ _), State.on_wr_same⟩

/-- An output is one of the 32 sources or of the 5 gates. -/
theorem State.mismatches_lt (h : out ∈ s.mismatches r sources gates bad) : out < 37 := by
  simp only [State.mismatches, upTo, List.mem_append, List.mem_map, List.mem_filter, List.mem_range] at h
  omega

theorem State.fbError_nil : s.fbError r [] = s := rfl

theorem State.slotBytes_nil (h : s.fbBad = []) : s.slotBytes [] = [] := by simp [State.slotBytes, State.badBytes, h]

/-- One differing output, the frame's first: logged, flagged and raised. -/
theorem State.readBackRow_one (hr : r < 256) (hout : out < 37) (hrb : s.on Hid.dispRb = false) :
    (s.readBackRow r [out]).rd Reg.DISP_RB_LOG_ROW = r ∧ (s.readBackRow r [out]).rd Reg.DISP_RB_LOG_OUT = out ∧
      bit (s.readBackRow r [out]).intCause 13 = true ∧ (out < 32 → (s.readBackRow r [out]).on Reg.DISP_FLAGS_RB_SRC = true) ∧
      (32 ≤ out → (s.readBackRow r [out]).on Reg.DISP_FLAGS_RB_GATE = true) := by
  have he : s.readBackRow r [out] = ((s.mismatch r out).wr Hid.dispRb 1).raise 13 := if_pos ⟨rfl, hrb⟩
  have hflag : ∀ f : Fld, f.w = 1 → f.id ≠ Reg.DISP_RB_LOG_ROW.id → f.id ≠ Reg.DISP_RB_LOG_OUT.id → f.id ≠ Hid.dispRb.id →
      f = (if 32 ≤ out then Reg.DISP_FLAGS_RB_GATE else Reg.DISP_FLAGS_RB_SRC) → (s.readBackRow r [out]).on f = true := by
    intro f hw h1 h2 h3 hf
    rw [he, State.mismatch, ← hf, State.raise_on, State.on_wr_ne h3, State.count_on, State.wrs, State.wrs, State.wrs, State.wrs,
      State.on_wr_ne h2, State.on_wr_ne h1, State.on_wr_same, hw]
    rfl
  refine ⟨?_, ?_, he ▸ State.bit_raise, fun h => ?_, fun h => ?_⟩
  · rw [he, State.mismatch]
    simp (disch := decide) only [State.raise_rd, State.count_rd, State.wrs, State.rd_wr_ne, State.rd_wr_same]
    exact Nat.mod_eq_of_lt hr
  · rw [he, State.mismatch]
    simp (disch := decide) only [State.raise_rd, State.count_rd, State.wrs, State.rd_wr_ne, State.rd_wr_same]
    exact Nat.mod_eq_of_lt (hout.trans (by decide))
  · exact hflag _ rfl (by decide) (by decide) (by decide) (if_neg (by omega)).symm
  · exact hflag _ rfl (by decide) (by decide) (by decide) (if_pos h).symm

theorem panelLineSlot_mismatch (hscan : s.panelScans = true) (hhold : s.on Hid.dispHold = false) (hslot : s.rd Reg.DISP_STAT_SLOT = r + 2)
    (hlines : r < s.rd Hid.dispLines) (hr : r < 256) (hread : s.readBack r = true) (hfb : s.fbBad = [])
    (hmis : s.mismatches r sources gates [] = [out]) (hrb : s.on Hid.dispRb = false) :
    ∃ t, exec (.panelLineSlot us sources gates []) s = .next t ∧ t.rd Reg.DISP_RB_LOG_ROW = r ∧ t.rd Reg.DISP_RB_LOG_OUT = out ∧
      bit t.intCause 13 = true ∧ (out < 32 → t.on Reg.DISP_FLAGS_RB_SRC = true) ∧ (32 ≤ out → t.on Reg.DISP_FLAGS_RB_GATE = true) := by
  have hseen : s.slotSeen sources gates [] = s.readBackRow r [out] := by
    rw [State.slotSeen, State.slotBytes_nil hfb, State.fbError_nil, hslot, Nat.add_sub_cancel, hmis,
      if_pos (by simp [State.slotRow, hslot, hread]; omega)]
  obtain ⟨hrow, hout, hcause, hsrc, hgate⟩ :=
    State.readBackRow_one hr (State.mismatches_lt (hmis ▸ List.mem_singleton_self out)) hrb
  rw [exec_panelLineSlot hscan hhold, hseen]
  refine exists_fin ?_
  have hend := Touches.slotEnd (s := s) (u := s.readBackRow r [out]) (us := us)
  rw [State.evcEdge_rd, State.evcEdge_rd, State.evcEdge_on, State.evcEdge_on, hend.rd (by decide), hend.rd (by decide), hend.on (by decide),
    hend.on (by decide)]
  exact ⟨hrow, hout, State.evcEdge_causes (hend.causes 13 hcause), hsrc, hgate⟩

/-- Bytes of a row read with an error are flagged and remembered; with SRC 0 the page is to be drawn. -/
theorem State.fbError_shows {k : Nat} (hk : k ∈ l) : (s.fbError r l).on Reg.MEM_ERR_FB = true ∧ bit (s.fbError r l).intCause 1 = true ∧
    (s.on Reg.DISP_CTRL_SRC = false → (s.fbError r l).on Hid.dispPage = true) ∧ (s.fbError r l).fbBad.contains (48 * r + k) = true := by
  obtain ⟨t, ht⟩ : ∃ t : State, t = { s with
    fbBad := s.fbBad ++ (l.map (fun k => 48 * r + k)).filter (fun k => !s.fbBad.contains k) } := ⟨_, rfl⟩
  have he : s.fbError r l = (t.memErr Reg.MEM_ERR_FB).whenB (!s.on Reg.DISP_CTRL_SRC) (fun u => u.wr Hid.dispPage 1) := by
    rw [ht]
    exact if_neg (by simp [List.ne_nil_of_mem hk])
  have hpage : Touches [] [Hid.dispPage] (t.memErr Reg.MEM_ERR_FB) (s.fbError r l) :=
    he ▸ .of (by decide) ((Touches.refl _).whenB fun u => (Touches.refl u).wr)
  refine ⟨?_, hpage.causes 1 State.bit_raise, fun hsrc => ?_, ?_⟩
  · have hset : (t.wr Reg.MEM_ERR_FB 1).on Reg.MEM_ERR_FB = true := State.on_wr_same
    exact (hpage.on (by decide)).trans hset
  · rw [he, hsrc]
    exact State.on_wr_same
  · have hbad : (s.fbError r l).fbBad = t.fbBad := hpage.parts .fbBad (by decide)
    rw [hbad, ht, List.contains_iff_mem]
    by_cases h : 48 * r + k ∈ s.fbBad
    · exact List.mem_append_left _ h
    · exact List.mem_append_right _ (List.mem_filter.mpr ⟨List.mem_map_of_mem hk, by simpa using h⟩)

/-- A byte of an image frame's row that is found bad is among those its slot reads with an error. -/
theorem State.mem_slotBytes {k : Nat} (hst : s.rd Reg.DISP_STAT_STATE = 3) (h2 : 2 ≤ s.rd Reg.DISP_STAT_SLOT)
    (hl : s.rd Reg.DISP_STAT_SLOT ≤ s.rd Hid.dispLines + 1) (hk : k < 48) (hb : k ∈ bad) : k ∈ s.slotBytes bad := by
  simp [State.slotBytes, State.slotRow, State.badBytes, upTo, hst, h2, hl, hk, hb]

theorem panelLineSlot_parity {k : Nat} (hst : s.rd Reg.DISP_STAT_STATE = 3) (hhold : s.on Hid.dispHold = false)
    (h2 : 2 ≤ s.rd Reg.DISP_STAT_SLOT) (hl : s.rd Reg.DISP_STAT_SLOT ≤ s.rd Hid.dispLines + 1) (hk : k < 48) (hb : k ∈ bad) :
    ∃ t, exec (.panelLineSlot us sources gates bad) s = .next t ∧ t.on Reg.MEM_ERR_FB = true ∧ bit t.intCause 1 = true ∧
      (s.on Reg.DISP_CTRL_SRC = false → t.on Hid.dispPage = true) ∧
      t.fbBad.contains (48 * (s.rd Reg.DISP_STAT_SLOT - 2) + k) = true := by
  obtain ⟨hflag, hcause, hpage, hbad⟩ := State.fbError_shows (s := s) (r := s.rd Reg.DISP_STAT_SLOT - 2)
    (State.mem_slotBytes hst h2 hl hk hb)
  have ht := ((Touches.slotSeen_of_fbError (s := s) (sources := sources) (gates := gates) (bad := bad)).andThen
    (.slotEnd (s := s) (us := us))).evcEdge
  rw [exec_panelLineSlot (by simp [State.panelScans, hst]) hhold]
  refine ⟨_, rfl, ?_, ht.causes 1 hcause, fun hsrc => ?_, ?_⟩
  · rw [ht.on (by decide), hflag]
  · rw [ht.on (by decide), hpage hsrc]
  · rw [ht.parts .fbBad (by decide), hbad]

end Sys2Proof.Machine
end
section
/-! The panel's frames, its supplies and its discharge (R418 to R425). -/

namespace Sys2Proof.Machine

variable {s t u : State} {P : List Part} {L : List Fld} {us k j : Nat} {f : Fld} {b : Bool}

/-- The fields that select the band (R428). -/
def bandFlds : List Fld :=
  [Reg.DISP_BAND_CFG_PT_IN, Reg.DISP_BAND_CFG_PT_EN, Reg.UI_VALUE_VALID, Reg.UI_VALUE_VALUE, Reg.DISP_BAND_LIM_BAND_LO,
   Reg.DISP_BAND_LIM_BAND_HI]

theorem Touches.bandNow (h : Touches P L s t) (hL : ∀ f ∈ bandFlds, f.id ∉ L.map Fld.id) : t.bandNow = s.bandNow := by
  have hat : ∀ f ∈ bandFlds, ∀ ch, t.rdAt f ch = s.rdAt f ch := fun f hf => h.rdAt (hL f hf)
  simp only [bandFlds, List.forall_mem_cons] at hat
  obtain ⟨hin, hen, hvalid, hvalue, hlo, hhi, -⟩ := hat
  simp only [State.bandNow, State.on, State.onAt, State.rd, State.rdI, hin, hen, hvalid, hvalue, hlo, hhi]
  rfl

/-- The fields that say whether the panel may run (R425). -/
def mayFlds : List Fld := [Reg.PWR_MODE_MODE, Hid.resetActive, Reg.DISP_CTRL_LINES, Hid.dispOff, Reg.PWR_STAT_EW]

theorem Touches.panelMay (h : Touches P L s t) (hL : ∀ f ∈ mayFlds, f.id ∉ L.map Fld.id) : t.panelMay = s.panelMay := by
  have hat : ∀ f ∈ mayFlds, t.rd f = s.rd f := fun f hf => h.rd (hL f hf)
  simp only [mayFlds, List.forall_mem_cons] at hat
  obtain ⟨hmode, hreset, hlines, hoff, hew, -⟩ := hat
  simp only [State.panelMay, State.native, State.operating, State.alive, State.mode, State.on, hmode, hreset, hlines, hoff, hew]
  rfl

/-! A frame's end. -/

/-- The machine once the frame that holds has had its last µs of hold. -/
def State.frameOver (s : State) (us : Nat) : State :=
  let t := s.balance (if s.on Hid.dispDrew then us else min us s.holdNeed)
  t.countIf t.frameLong 0xE1

theorem Touches.frameOver : Touches [] [Reg.DISP_BAL_BAL, Hid.dispUs] s (s.frameOver us) := .of (by decide) balance.countIf

theorem exec_panelFrameEnd (hscan : s.panelScans = true) (hhold : s.on Hid.dispHold = true) (hpage : s.on Hid.dispPage = false)
    (hend : (s.balance (if s.on Hid.dispDrew = true then us else min us s.holdNeed)).frameMayEnd = true) :
    exec (.panelFrameEnd us) s = fin (s.frameOver us).frameNext := by
  have h : exec (.panelFrameEnd us) s = execPanelFrameEnd us s := rfl
  rw [h, execPanelFrameEnd, if_neg (by simp [hscan, hhold, hpage, hend])]
  rfl

theorem State.frameNext_image (h : s.rd Reg.DISP_STAT_STATE = 3) : s.frameNext = s.frameStart (1 - s.rd Reg.DISP_STAT_POL) := by
  rw [State.frameNext, if_neg (by simp [h])]

/-- The last clearing frame leaves the panel running in balance. -/
theorem State.frameNext_cleared (h : s.rd Reg.DISP_STAT_STATE = 2) (hlast : s.rd Hid.dispFrames ≤ 1) :
    s.frameNext = (s.wrs [(Reg.DISP_STAT_STATE, 3), (Hid.dispFrames, 0), (Reg.DISP_BAL_BAL, 0)]).frameStart 0 := by
  rw [State.frameNext, if_pos h, if_pos hlast]

theorem panelFrameEnd_image (hst : s.rd Reg.DISP_STAT_STATE = 3) (hhold : s.on Hid.dispHold = true) (hpage : s.on Hid.dispPage = false)
    (hend : (s.balance (if s.on Hid.dispDrew = true then us else min us s.holdNeed)).frameMayEnd = true) :
    ∃ t, exec (.panelFrameEnd us) s = .next t ∧ t.rd Reg.DISP_STAT_POL = 1 - s.rd Reg.DISP_STAT_POL ∧ t.rd Reg.DISP_STAT_SLOT = 0 ∧
      t.on Hid.dispHold = false ∧ t.rd Reg.DISP_STAT_BAND = s.bandNow ∧
      t.rd Reg.DISP_FRAMES_COUNT = (s.rd Reg.DISP_FRAMES_COUNT + 1) % 2 ^ 32 := by
  have ho := Touches.frameOver (s := s) (us := us)
  have hst' : (s.frameOver us).rd Reg.DISP_STAT_STATE = 3 := (ho.rd (by decide)).trans hst
  have hpol' : (s.frameOver us).rd Reg.DISP_STAT_POL = s.rd Reg.DISP_STAT_POL := ho.rd (by decide)
  have hcount : (s.frameOver us).rd Reg.DISP_FRAMES_COUNT = s.rd Reg.DISP_FRAMES_COUNT := ho.rd (by decide)
  have hband : (s.frameOver us).bandNow = s.bandNow := ho.bandNow (by decide)
  rw [exec_panelFrameEnd (by simp [State.panelScans, hst]) hhold hpage hend, State.frameNext_image hst', hpol']
  generalize s.frameOver us = v at hst' hcount hband
  obtain ⟨hpol, hslot, hrun⟩ := State.frameStart_opens (s := v) (pol := 1 - s.rd Reg.DISP_STAT_POL)
  refine exists_fin ?_
  rw [State.evcEdge_rd, State.evcEdge_rd, State.evcEdge_rd, State.evcEdge_rd, State.evcEdge_on, hpol, hslot, hrun, State.frameStart_band,
    hband, State.frameStart_counts hst', hcount]
  exact ⟨by omega, rfl, rfl, rfl, rfl⟩

theorem panelFrameEnd_cleared (hst : s.rd Reg.DISP_STAT_STATE = 2) (hlast : s.rd Hid.dispFrames ≤ 1) (hhold : s.on Hid.dispHold = true)
    (hpage : s.on Hid.dispPage = false)
    (hend : (s.balance (if s.on Hid.dispDrew = true then us else min us s.holdNeed)).frameMayEnd = true) :
    ∃ t, exec (.panelFrameEnd us) s = .next t ∧ t.rd Reg.DISP_STAT_STATE = 3 ∧ t.rd Reg.DISP_BAL_BAL = 0 ∧
      t.rd Reg.DISP_STAT_POL = 0 ∧ t.rd Reg.DISP_STAT_SLOT = 0 := by
  have ho := Touches.frameOver (s := s) (us := us)
  rw [exec_panelFrameEnd (by simp [State.panelScans, hst]) hhold hpage hend,
    State.frameNext_cleared ((ho.rd (by decide)).trans hst) ((ho.rd (by decide)).trans_le hlast)]
  generalize s.frameOver us = v
  obtain ⟨hpol, hslot, -⟩ := State.frameStart_opens
    (s := v.wrs [(Reg.DISP_STAT_STATE, 3), (Hid.dispFrames, 0), (Reg.DISP_BAL_BAL, 0)]) (pol := 0)
  refine exists_fin ?_
  rw [State.evcEdge_rd, State.evcEdge_rd, State.evcEdge_rd, State.evcEdge_rd, hpol, hslot, Touches.frameStart.rd (by decide),
    Touches.frameStart.rd (by decide)]
  simp (disch := decide) only [State.wrs, State.rd_wr_ne, State.rd_wr_same]
  decide

/-! The supplies. -/

theorem and_mod_two (v m : Nat) : m % 2 = 0 ∧ (v &&& m) % 2 = 0 ∨ m % 2 = 1 ∧ (v &&& m) % 2 = v % 2 := by
  have h := Nat.and_mod_two_pow (a := v) (b := m) (n := 1)
  rcases Nat.mod_two_eq_zero_or_one m with hm | hm
  · exact .inl ⟨hm, by simpa [hm] using h⟩
  · exact .inr ⟨hm, by simpa [hm] using h⟩

/-- A bit stands after a clear where it stood and was not named. -/
theorem testBit_clearBits (v m n : Nat) : (clearBits v m).testBit n = (v.testBit n && !m.testBit n) := by
  have hle : v &&& m ≤ v := Nat.and_le_left
  have hlow := and_mod_two v m
  induction n generalizing v m with
  | zero =>
    simp only [Nat.testBit_zero, clearBits]
    rcases hlow with ⟨hm, ha⟩ | ⟨hm, ha⟩
    · simp only [hm, decide_eq_decide, zero_ne_one, decide_false, Bool.not_false, Bool.and_true]
      omega
    · simp only [hm, decide_true, Bool.not_true, Bool.and_false, decide_eq_false_iff_not]
      omega
  | succ n ih =>
    have hhalf : (v &&& m) / 2 = v / 2 &&& m / 2 := Nat.and_div_two
    have hdiv : clearBits v m / 2 = clearBits (v / 2) (m / 2) := by
      unfold clearBits
      omega
    rw [Nat.testBit_succ, Nat.testBit_succ, Nat.testBit_succ, hdiv, ih _ _ Nat.and_le_left (and_mod_two _ _)]

theorem State.putBit_bit (hj : j < f.w) : bit ((s.putBit f k b).rd f) j = if j = k then b else bit (s.rd f) j := by
  rw [State.putBit, State.rd_wr_same, bit_eq_testBit, bit_eq_testBit, Nat.testBit_mod_two_pow, decide_eq_true hj, Bool.true_and]
  have hk : (2 ^ k).testBit j = decide (j = k) := by simp [Nat.testBit_two_pow, eq_comm]
  cases b with
  | true => by_cases h : j = k <;> simp [h, hk]
  | false => by_cases h : j = k <;> simp [h, hk, testBit_clearBits]

theorem State.panelIdle_of_off (h : s.rd Reg.DISP_STAT_STATE = 0) :
    s.panelIdle.rd Reg.DISP_STAT_STATE = if s.panelMay = true then 1 else 0 := by
  rw [State.panelIdle, if_neg (by simp [h]), State.rd_wr_same]
  cases s.panelMay with
  | false => rfl
  | true => simp [h]; decide

/-- After a supply fault the panel waits in it while a supply is bad. -/
theorem State.panelIdle_of_fault (h : s.rd Reg.DISP_STAT_STATE = 5) (hmay : s.panelMay = true) (hsup : s.rd Reg.DISP_STAT_SUP_OK ≠ 15) :
    s.panelIdle.rd Reg.DISP_STAT_STATE = 5 := by
  rw [State.panelIdle, if_neg (by simp [h]), State.rd_wr_same, if_neg (by simp [hmay]), if_pos ⟨h, hsup⟩]
  rfl

theorem exec_panelSupplyGood {k : Fin 4} (hup : s.alive = true) :
    ∃ t, exec (.panelSupplyGood k) s = .next t ∧ bit (t.rd Reg.DISP_STAT_SUP_OK) k.val = true ∧
      (∀ j : Nat, j < 4 → j ≠ k.val → bit (t.rd Reg.DISP_STAT_SUP_OK) j = bit (s.rd Reg.DISP_STAT_SUP_OK) j) := by
  have he : exec (.panelSupplyGood k) s = fin ((s.putBit Reg.DISP_STAT_SUP_OK k.val true).panelIdle) := if_pos hup
  rw [he]
  refine exists_fin ?_
  rw [State.evcEdge_rd, Touches.panelIdle.rd (by decide)]
  exact ⟨by rw [State.putBit_bit k.isLt, if_pos rfl], fun j hj hne => by rw [State.putBit_bit hj, if_neg hne]⟩

theorem exec_panelStart (hst : s.rd Reg.DISP_STAT_STATE = 1) (hsup : s.rd Reg.DISP_STAT_SUP_OK = 15) (hmay : s.panelMay = true)
    (hdis : s.on Hid.panelDis = false) :
    ∃ t, exec .panelStart s = .next t ∧ t.rd Reg.DISP_STAT_STATE = 2 ∧ t.rd Reg.DISP_STAT_POL = 0 ∧ t.rd Reg.DISP_STAT_SLOT = 0 ∧
      t.rd Hid.dispFrames = 2 ∧ t.rd Hid.dispLines = s.rd Reg.DISP_CTRL_LINES % 2 ^ 8 := by
  have he : exec .panelStart s = fin (((s.wrs [(Reg.DISP_STAT_STATE, 2), (Hid.dispFrames, 2)]).count 0xE6).frameStart 0) :=
    if_pos ⟨hst, hsup, hmay, hdis⟩
  obtain ⟨hpol, hslot, -⟩ := State.frameStart_opens
    (s := (s.wrs [(Reg.DISP_STAT_STATE, 2), (Hid.dispFrames, 2)]).count 0xE6) (pol := 0)
  rw [he]
  refine exists_fin ?_
  rw [State.evcEdge_rd, State.evcEdge_rd, State.evcEdge_rd, State.evcEdge_rd, State.evcEdge_rd, hpol, hslot, State.frameStart_lines,
    Touches.frameStart.rd (by decide), Touches.frameStart.rd (by decide)]
  simp (disch := decide) only [State.count_rd, State.wrs, State.rd_wr_ne, State.rd_wr_same, true_and, and_true]
  decide

/-- A supply fault as it stops the panel or ends a discharge. -/
def State.supplyStop (s : State) : State :=
  ((s.wrs [(Reg.DISP_STAT_STATE, 5), (Reg.DISP_STAT_SLOT, 0), (Hid.dispHold, 0), (Hid.dispRb, 0), (Hid.dispUs, 0),
    (Reg.DISP_FLAGS_SUP_FAULT, 1)]).count 0xE5).raise 13

/-- The supply lost, with the balance of the frame that it stops. -/
def State.supplyLost (s : State) (k : Nat) : State :=
  let a := if s.panelScans then s.panelAbandon else s
  (if s.alive then a.putBit Reg.DISP_STAT_SUP_OK k false else a).wr Hid.panelDis 0

theorem exec_panelSupplyFault {k : Fin 4} (h : s.panelLive = true ∨ s.on Hid.panelDis = true) :
    exec (.panelSupplyFault k) s = fin (s.supplyLost k.val).supplyStop.panelIdle := if_pos h

theorem Touches.supplyLost : Touches [] [Reg.DISP_BAL_BAL, Hid.dispUs, Reg.DISP_STAT_SUP_OK, Hid.panelDis] s (s.supplyLost k) := by
  have ha : Touches [] [Reg.DISP_BAL_BAL, Hid.dispUs] s (if s.panelScans then s.panelAbandon else s) :=
    .of (by decide) (branch panelAbandon (refl s))
  exact .of (by decide) (branch ha.putBit ha).wr

theorem Touches.supplyStop : Touches [] [Reg.DISP_STAT_STATE, Reg.DISP_STAT_SLOT, Hid.dispHold, Hid.dispRb, Hid.dispUs,
    Reg.DISP_FLAGS_SUP_FAULT] s s.supplyStop := .of (by decide) (refl s).wr.wr.wr.wr.wr.wr.count.raise

theorem State.supplyStop_shows : s.supplyStop.panelIdle.on Reg.DISP_FLAGS_SUP_FAULT = true ∧ bit s.supplyStop.panelIdle.intCause 13 = true ∧
    s.supplyStop.panelIdle.rd Reg.DISP_STAT_SLOT = 0 := by
  rw [Touches.panelIdle.on (by decide), Touches.panelIdle.rd (by decide)]
  refine ⟨?_, Touches.panelIdle.causes 13 State.bit_raise, ?_⟩ <;>
    simp (disch := decide) only [State.supplyStop, State.on, State.raise_rd, State.count_rd, State.wrs, State.rd_wr_ne, State.rd_wr_same] <;> rfl

theorem panelSupplyFault_stops {k : Fin 4} (hlive : s.panelLive = true) (hmay : s.panelMay = true) :
    ∃ t, exec (.panelSupplyFault k) s = .next t ∧ t.rd Reg.DISP_STAT_STATE = 5 ∧ bit (t.rd Reg.DISP_STAT_SUP_OK) k.val = false ∧
      t.on Reg.DISP_FLAGS_SUP_FAULT = true ∧ bit t.intCause 13 = true ∧ t.rd Reg.DISP_STAT_SLOT = 0 := by
  have h15 : ∀ k : Fin 4, bit 15 k.val = true := by decide
  have halive : s.alive = true := by
    simp only [State.panelMay, Bool.and_eq_true] at hmay
    exact hmay.1.1.1.2
  have hbit : bit ((s.supplyLost k.val).supplyStop.rd Reg.DISP_STAT_SUP_OK) k.val = false := by
    rw [Touches.supplyStop.rd (by decide), State.supplyLost, if_pos halive, State.rd_wr_ne _ _ _ _ (by decide), State.putBit_bit k.isLt,
      if_pos rfl]
  obtain ⟨hflag, hcause, hslot⟩ := State.supplyStop_shows (s := s.supplyLost k.val)
  have hstate : (s.supplyLost k.val).supplyStop.panelIdle.rd Reg.DISP_STAT_STATE = 5 := by
    refine State.panelIdle_of_fault ?_ ?_ fun h => ?_
    · simp (disch := decide) only [State.supplyStop, State.raise_rd, State.count_rd, State.wrs, State.rd_wr_ne, State.rd_wr_same]
      rfl
    · rw [(Touches.supplyLost.andThen .supplyStop).panelMay (by decide), hmay]
    · rw [h] at hbit
      exact absurd hbit (by simp [h15 k])
  rw [exec_panelSupplyFault (.inl hlive)]
  refine exists_fin ?_
  rw [State.evcEdge_rd, State.evcEdge_rd, State.evcEdge_rd, State.evcEdge_on, hstate, hflag, hslot,
    Touches.panelIdle.rd (f := Reg.DISP_STAT_SUP_OK) (by decide)]
  exact ⟨rfl, hbit, rfl, State.evcEdge_causes hcause, rfl⟩

theorem panelSupplyFault_ends_discharge {k : Fin 4} (hdis : s.on Hid.panelDis = true) :
    ∃ t, exec (.panelSupplyFault k) s = .next t ∧ t.on Hid.panelDis = false ∧ t.on Reg.DISP_FLAGS_SUP_FAULT = true ∧
      bit t.intCause 13 = true := by
  obtain ⟨hflag, hcause, -⟩ := State.supplyStop_shows (s := s.supplyLost k.val)
  rw [exec_panelSupplyFault (.inr hdis)]
  refine exists_fin ?_
  rw [State.evcEdge_on, State.evcEdge_on, hflag, (Touches.supplyStop.andThen .panelIdle).on (by decide)]
  exact ⟨State.on_wr_same, rfl, State.evcEdge_causes hcause⟩

/-! The discharge. -/

/-- The end of a discharge as the panel shows it. -/
def State.discharged (s : State) : State :=
  ((s.wrs [(Reg.DISP_BAL_BAL, 0), (Reg.DISP_FLAGS_DISCHG_DONE, 1), (Reg.DISP_STAT_STATE, 0)]).count 0xE4).raise 13

theorem panelDischargeDone_idle (hdis : s.on Hid.panelDis = false) (hst : s.rd Reg.DISP_STAT_STATE = 4) :
    ∃ t, exec .panelDischargeDone s = .next t ∧ t.rd Reg.DISP_BAL_BAL = 0 ∧ t.on Reg.DISP_FLAGS_DISCHG_DONE = true ∧
      bit t.intCause 13 = true ∧ t.rd Reg.DISP_STAT_STATE = (if s.panelMay = true then 1 else 0) := by
  have he : exec .panelDischargeDone s = fin s.discharged.panelIdle := by
    change execPanelDischargeDone s = _
    simp [execPanelDischargeDone, hdis, hst, State.discharged]
  have hd : Touches [] [Reg.DISP_BAL_BAL, Reg.DISP_FLAGS_DISCHG_DONE, Reg.DISP_STAT_STATE] s s.discharged :=
    .of (by decide) (Touches.refl s).wr.wr.wr.count.raise
  have hbal : s.discharged.rd Reg.DISP_BAL_BAL = 0 ∧ s.discharged.on Reg.DISP_FLAGS_DISCHG_DONE = true ∧
      s.discharged.rd Reg.DISP_STAT_STATE = 0 := by
    simp (disch := decide) only [State.discharged, State.on, State.raise_rd, State.count_rd, State.wrs, State.rd_wr_ne, State.rd_wr_same]
    decide
  rw [he]
  refine exists_fin ?_
  rw [State.evcEdge_rd, State.evcEdge_rd, State.evcEdge_on, Touches.panelIdle.on (by decide), Touches.panelIdle.rd (f := Reg.DISP_BAL_BAL)
    (by decide), State.panelIdle_of_off hbal.2.2, hd.panelMay (by decide)]
  exact ⟨hbal.1, hbal.2.1, State.evcEdge_causes (Touches.panelIdle.causes 13 State.bit_raise), rfl⟩

theorem panelDischargeDone_reset (hdis : s.on Hid.panelDis = true) :
    ∃ t, exec .panelDischargeDone s = .next t ∧ t.rd Reg.DISP_BAL_BAL = 0 ∧ t.on Hid.panelDis = false ∧
      t.rd Reg.DISP_STAT_STATE = s.rd Reg.DISP_STAT_STATE := by
  have he : exec .panelDischargeDone s = fin (s.wrs [(Hid.panelDis, 0), (Reg.DISP_BAL_BAL, 0)]) := if_pos hdis
  rw [he]
  refine exists_fin ?_
  simp (disch := decide) only [State.evcEdge_rd, State.on, State.wrs, State.rd_wr_ne, State.rd_wr_same, and_true]
  decide

/-- Settles O32: the slots, the frames, the supplies and the discharge, each from what its command sets and what it touches after that. -/
theorem panelRuns : Obligations.PanelRuns := by
  refine ⟨fun s us so ga => panelLineSlot_advances, fun s us so ga bad => panelLineSlot_holds, fun s us r out so ga => panelLineSlot_mismatch,
    fun s us bad hst hhold h2 hl hbad hsrc => ?_, fun s us bad k hst hhold h2 hl hbad _ => ?_, fun s us => panelFrameEnd_image,
    fun s us => panelFrameEnd_cleared, fun s k => exec_panelSupplyGood, fun s => exec_panelStart, fun s k => panelSupplyFault_stops,
    fun s k => panelSupplyFault_ends_discharge, fun s => panelDischargeDone_idle, fun s => panelDischargeDone_reset⟩
  · obtain ⟨k, hk, hlt⟩ := List.any_eq_true.mp hbad
    obtain ⟨t, ht, hflag, hcause, hpage, -⟩ := panelLineSlot_parity (us := us) (sources := []) (gates := []) hst hhold h2 hl
      (of_decide_eq_true hlt) hk
    exact ⟨t, ht, hflag, hcause, hpage hsrc⟩
  · obtain ⟨t, ht, hflag, -, -, hfb⟩ := panelLineSlot_parity (us := us) (sources := []) (gates := []) hst hhold h2 hl k.isLt
      (List.contains_iff_mem.mp hbad)
    exact ⟨t, ht, hflag, hfb⟩

end Sys2Proof.Machine
end

section
/-! What the network says and touches (R26, R356 to R361, R386): a message goes out, or its buffer has an error; all else that its sending
changes are the event counters. -/

namespace Sys2Proof.Machine

variable {s t m : State} {P : List Part} {L : List Fld} {l : List NetOut} {sends : List NetSend} {n port code src addr mask gw : Nat}

theorem State.levelDrop_evcOnly (s : State) (code n : Nat) : EvcOnly s (s.levelDrop code n) := by
  unfold State.levelDrop
  split
  · exact .refl s
  · refine .fold _ (fun t k => ?_) _ _
    extract_lets c more u
    have hu : EvcOnly t u := rfl
    split
    · split
      · exact hu.trans (State.evcAdd_free_evcOnly _ _ _)
      · exact hu
    · exact .refl t

theorem State.txFrames_evcOnly : EvcOnly s (s.txFrames n) := (s.levelDrop_evcOnly 0xBF n).trans (State.countN_evcOnly _ _ _)

theorem State.scFrames_evcOnly : EvcOnly s s.scFrames := .trans (t := s.takeFree.2) rfl State.txFrames_evcOnly

theorem EvcOnly.say (h : EvcOnly s t) : EvcOnly (s.say l) (t.say l) := by
  rw [show t = _ from h]
  rfl

/-- Messages in good buffers go out. -/
theorem State.tx_good (h : s.net.txBad = false) : EvcOnly (s.say (sends.map NetOut.send)) (s.tx sends) := by
  simp only [State.tx, h, Bool.false_eq_true, false_and, if_false]
  exact State.txFrames_evcOnly.say

theorem State.tx_out (h : s.net.txBad = false) : (s.tx sends).net.out = s.net.out ++ sends.map NetOut.send := by rw [(State.tx_good h).net]; rfl

theorem State.tx_regs (h : s.net.txBad = false) : (s.tx sends).regs = s.regs := (State.tx_good h).regs

/-- A message in a buffer with an error is not sent. -/
theorem State.tx_bad {x : NetSend} (h : s.net.txBad = true) : EvcOnly s.macErr (s.tx [x]) := by
  simp only [State.tx, h, ne_eq, List.cons_ne_nil, not_false_eq_true, and_self, if_true, List.drop_one, List.tail_cons, List.map_nil,
    List.length_nil]
  refine (State.txFrames_evcOnly (s := s.macErr) (n := 0)).trans ?_
  simp [EvcOnly, State.say]

theorem State.macErr_rd : s.macErr.rd Reg.MEM_ERR_MAC = 1 := by
  rw [State.macErr, State.memErr, State.raise_rd, State.rd_wr_same]
  rfl

theorem State.macErr_out : s.macErr.net.out = s.net.out := rfl

theorem State.macErr_good : s.macErr.net.txBad = false := rfl

namespace Touches

theorem hush : Touches [.net] [] s s.hush := (refl s).setNet

theorem say (hs : Touches P L m s) : Touches (P ++ [.net]) L m (s.say l) := hs.setNet

theorem setTxBad {b} : Touches [.net] [] s (s.setTxBad b) := (refl s).setNet

theorem macErr : Touches [.net] [Reg.MEM_ERR_MAC] s s.macErr := .of (by decide) (setTxBad.andThen memErr)

theorem tx : Touches [.net] [Reg.MEM_ERR_MAC] s (s.tx sends) := .of (by decide) ((branch macErr (refl s)).andThen txFrames).say

/-- What probing an address writes, beside the MAC's record of a bad buffer (R358). -/
def probeFlds : List Fld := [Hid.ipSrc, Hid.ipWait, Hid.ipCand, Hid.ipCandMask, Hid.ipCandGw, Reg.MEM_ERR_MAC]

theorem ipProbe : Touches [.net] probeFlds s (s.ipProbe src addr mask gw) :=
  .of (by decide) (((refl s).freeBelow (n := 5)).wr.wr.wr.wr.wr.andThen tx)

theorem ipStart : Touches [.net] (probeFlds ++ ipFlds) s s.ipStart :=
  .of (by decide) (branch (ipDrop.wr.andThen tx) (ipDrop.andThen ipProbe))

theorem scFresh : Touches [] [Hid.scBackoff, Hid.scAlt, Reg.NET_SC_STAT_WAIT, Reg.NET_STAT_SC_STATE] s s.scFresh :=
  .of (by decide) (branch (refl s).wr.wr.wr.wr (refl s).wr.wr.wr)

theorem dhcpAgain : Touches [.net] [Hid.ipSrc, Reg.MEM_ERR_MAC] s s.dhcpAgain := .of (by decide) ((refl s).wr.andThen tx)

end Touches

end Sys2Proof.Machine
end

section
/-! The link and the address (R355 to R360). -/

namespace Sys2Proof.Machine

open Sys2Proof (EthFrame DhcpTick)

variable {s t : State} {f : EthFrame} {p24 eee : Bool} {sqi : Fin 8} {addr mask gw dns : Nat}

theorem exec_linkUp (hon : s.netOn = true) (hen : s.netEn 0 = true) (hl : s.on Reg.NET_STAT_LINK = false) :
    ∃ t, exec (.linkUp p24 eee sqi) s = .next t ∧ t.rd Reg.NET_STAT_LINK = 1 ∧ t.rd Reg.NET_PHY_SQI = sqi.val ∧
      t.rd Reg.NET_STAT_AMPL = amplOf (s.rd Reg.NET_PHY_AMPL_CFG) p24 := by
  obtain ⟨v, hv⟩ : ∃ v, v = (s.hush).wrs [(Reg.NET_STAT_LINK, 1), (Reg.NET_STAT_AMPL, amplOf (s.rd Reg.NET_PHY_AMPL_CFG) p24),
    (Reg.NET_PHY_SQI, sqi.val), (Hid.eee, b2n eee)] := ⟨_, rfl⟩
  have he : exec (.linkUp p24 eee sqi) s = fin (v.count 0xB0).ipStart.scFresh := by
    change execLinkUp p24 eee sqi s = _
    simp [execLinkUp, hon, hen, hl, hv]
  have hset : v.rd Reg.NET_STAT_LINK = 1 ∧ v.rd Reg.NET_PHY_SQI = sqi.val ∧
      v.rd Reg.NET_STAT_AMPL = amplOf (s.rd Reg.NET_PHY_AMPL_CFG) p24 := by
    have hampl : amplOf (s.rd Reg.NET_PHY_AMPL_CFG) p24 < 2 := by
      unfold amplOf
      split_ifs <;> cases p24 <;> decide
    subst hv
    simp (disch := decide) only [State.wrs, State.rd_wr_ne, State.rd_wr_same]
    exact ⟨rfl, Nat.mod_eq_of_lt sqi.isLt, Nat.mod_eq_of_lt hampl⟩
  have ht := (Touches.ipStart (s := v.count 0xB0)).andThen .scFresh
  rw [he]
  refine exists_fin ?_
  rw [State.evcEdge_rd, State.evcEdge_rd, State.evcEdge_rd, ht.rd (by decide), ht.rd (by decide), ht.rd (by decide), State.count_rd,
    State.count_rd, State.count_rd]
  exact hset

theorem exec_linkDown (hl : s.on Reg.NET_STAT_LINK = true) :
    ∃ t, exec .linkDown s = .next t ∧ t.rd Reg.NET_STAT_LINK = 0 ∧ t.rd Reg.NET_STAT_IP_OK = 0 ∧
      bit (t.rd Reg.NET_FLAGS_FLAGS) 0 = true ∧ bit t.intCause 11 = true := by
  obtain ⟨v, hv⟩ : ∃ v, v = (s.hush.wr Reg.NET_STAT_LINK 0).or Reg.NET_FLAGS_FLAGS 1 := ⟨_, rfl⟩
  have he : exec .linkDown s = fin ((v.scClose.ipDrop.count 0xB1).raise 11) := by
    rw [hv]
    exact congrArg fin (if_pos hl)
  have hlink : v.rd Reg.NET_STAT_LINK = 0 := by
    rw [hv, State.rd_or_ne (by decide)]
    exact State.rd_wr_same _ _ _
  have hflag : bit (v.rd Reg.NET_FLAGS_FLAGS) 0 = true := by
    rw [hv]
    exact State.bit_or_same (n := 0) (by decide)
  have ht := (Touches.scClose (s := v)).andThen .ipDrop
  rw [he]
  refine exists_fin ?_
  rw [State.evcEdge_rd, State.evcEdge_rd, State.evcEdge_rd, State.raise_rd, State.raise_rd, State.raise_rd, State.count_rd, State.count_rd,
    State.count_rd, ht.rd (by decide), ht.rd (f := Reg.NET_FLAGS_FLAGS) (by decide), hlink]
  refine ⟨rfl, ?_, hflag, State.evcEdge_causes State.bit_raise⟩
  simp (disch := decide) only [State.ipDrop, State.wrs, State.rd_wr_ne, State.rd_wr_same]
  decide

/-! A received frame. -/

/-- The machine as the MAC takes a frame: nothing said, the state of the next buffer noted. -/
def State.ethTake (s : State) (f : EthFrame) : State := ((if f.txOk then s.hush else s.hush.setTxBad true).lpiWake 1).count 0xB2

theorem exec_ethFrameRx (ht1l : s.t1l = true) (hd : frameDropped f = false) (hmem : f.memOk = true) (hdest : f.dest = .own)
    (hfrag : f.fragment = false) : exec (.ethFrameRx f) s = fin ((s.ethTake f).ethLoad f.load) := by
  have h : exec (.ethFrameRx f) s = execEthFrameRx f s := rfl
  rw [h]
  simp [execEthFrameRx, ht1l, hd, hmem, hdest, hfrag, State.whenB, State.ethTake]

theorem State.ethTake_evcOnly : EvcOnly (if f.txOk then s.hush else s.hush.setTxBad true) (s.ethTake f) :=
  (State.levelDrop_evcOnly _ _ _).trans (State.count_evcOnly _ _)

theorem State.ethTake_regs : (s.ethTake f).regs = s.regs := by
  rw [State.ethTake_evcOnly.regs]
  cases f.txOk <;> rfl

theorem State.ethTake_on {g : Fld} : (s.ethTake f).on g = s.on g := by simp only [State.on, State.rd, State.rdAt, State.ethTake_regs]

theorem State.ethTake_rd {g : Fld} : (s.ethTake f).rd g = s.rd g := by simp only [State.rd, State.rdAt, State.ethTake_regs]

theorem State.ethTake_good (h : f.txOk = true) : (s.ethTake f).net = s.hush.net := by rw [State.ethTake_evcOnly.net, if_pos h]

theorem State.ethTake_bad (h : f.txOk = false) : (s.ethTake f).net = (s.hush.setTxBad true).net := by
  rw [State.ethTake_evcOnly.net, if_neg (by simp [h])]

theorem ethFrameRx_echo (ht1l : s.t1l = true) (hd : frameDropped f = false) (hmem : f.memOk = true) (htx : f.txOk = true)
    (hdest : f.dest = .own) (hfrag : f.fragment = false) (hload : f.load = .echo) (hip : s.on Reg.NET_STAT_IP_OK = true)
    (hbad : s.net.txBad = false) :
    ∃ t, exec (.ethFrameRx f) s = .next t ∧ t.net.out = [.send .echoReply] ∧ t.regs = s.regs := by
  have he : (s.ethTake f).ethLoad f.load = (s.ethTake f).tx [.echoReply] := by
    rw [hload]
    exact if_pos (State.ethTake_on.trans hip)
  have hgood : (s.ethTake f).net.txBad = false := by rw [State.ethTake_good htx]; exact hbad
  rw [exec_ethFrameRx ht1l hd hmem hdest hfrag, he]
  refine exists_fin ?_
  rw [State.evcEdge_net, State.evcEdge_regs, State.tx_out hgood, State.tx_regs hgood, State.ethTake_regs, State.ethTake_good htx]
  exact ⟨rfl, rfl⟩

theorem ethFrameRx_echo_bad (ht1l : s.t1l = true) (hd : frameDropped f = false) (hmem : f.memOk = true) (htx : f.txOk = false)
    (hdest : f.dest = .own) (hfrag : f.fragment = false) (hload : f.load = .echo) (hip : s.on Reg.NET_STAT_IP_OK = true) :
    ∃ t, exec (.ethFrameRx f) s = .next t ∧ t.net.out = [] ∧ t.rd Reg.MEM_ERR_MAC = 1 ∧ t.net.txBad = false := by
  have he : (s.ethTake f).ethLoad f.load = (s.ethTake f).tx [.echoReply] := by
    rw [hload]
    exact if_pos (State.ethTake_on.trans hip)
  have hsent := State.tx_bad (s := s.ethTake f) (x := .echoReply) (by rw [State.ethTake_bad htx]; rfl)
  rw [exec_ethFrameRx ht1l hd hmem hdest hfrag, he]
  refine exists_fin ?_
  rw [State.evcEdge_net, State.evcEdge_rd, State.rd, State.rdAt_of_regs hsent.regs, hsent.net, State.macErr_out, State.ethTake_bad htx]
  exact ⟨rfl, State.macErr_rd, State.macErr_good⟩

/-- An address that is probed: three probes, a wait of 4 to 8 seconds, and the address as the candidate. -/
theorem State.ipProbe_shows {src : Nat} : 4 ≤ (s.ipProbe src addr mask gw).rd Hid.ipWait ∧ (s.ipProbe src addr mask gw).rd Hid.ipWait ≤ 8 ∧
    (s.ipProbe src addr mask gw).rd Hid.ipCand = addr % 2 ^ 32 := by
  have hk : (s.freeBelow 5).1 < 5 := Nat.mod_lt _ (by decide)
  rw [State.ipProbe, Touches.tx.rd (by decide), Touches.tx.rd (by decide)]
  simp (disch := decide) only [State.wrs, State.rd_wr_ne, State.rd_wr_same]
  rw [Nat.mod_eq_of_lt (show 4 + (s.freeBelow 5).1 < 2 ^ Hid.ipWait.w from by simp only [Hid.ipWait]; omega)]
  exact ⟨by omega, by omega, rfl⟩

theorem State.ipProbe_out {src : Nat} (h : s.net.txBad = false) :
    (s.ipProbe src addr mask gw).net.out = s.net.out ++ [.send .arpProbe, .send .arpProbe, .send .arpProbe] := State.tx_out h

theorem ethFrameRx_lease (ht1l : s.t1l = true) (hd : frameDropped f = false) (hmem : f.memOk = true) (htx : f.txOk = true)
    (hdest : f.dest = .own) (hfrag : f.fragment = false) (hload : f.load = .dhcpLease addr mask gw dns) (hbad : s.net.txBad = false)
    (hdhcp : s.on Reg.NET_CTRL_DHCP_EN = true) (hsrc : s.rd Hid.ipSrc = 1) (hip : s.on Reg.NET_STAT_IP_OK = false) :
    ∃ t, exec (.ethFrameRx f) s = .next t ∧ t.net.out = [.send .arpProbe, .send .arpProbe, .send .arpProbe] ∧
      t.on Reg.NET_STAT_IP_OK = false ∧ 4 ≤ t.rd Hid.ipWait ∧ t.rd Hid.ipWait ≤ 8 ∧ t.rd Hid.ipCand = addr % 2 ^ 32 := by
  obtain ⟨v, hv⟩ : ∃ v, v = ((s.ethTake f).count 0xB5).wr Hid.ipDns dns := ⟨_, rfl⟩
  have hvt : Touches [] [Hid.ipDns] (s.ethTake f) v := hv ▸ (Touches.refl _).count.wr
  have hvip : v.on Reg.NET_STAT_IP_OK = false := (hvt.on (by decide)).trans (State.ethTake_on.trans hip)
  have hkept : v.net = (s.ethTake f).net := hvt.parts .net (by decide)
  have hvnet : v.net = s.hush.net := hkept.trans (State.ethTake_good htx)
  have he : (s.ethTake f).ethLoad f.load = v.ipProbe 1 addr mask gw := by
    rw [hload, State.ethLoad, State.dhcpLease, if_neg (by simp [State.ethTake_on, State.ethTake_rd, hdhcp, hsrc])]
    simp [State.ethTake_on, hip, ← hv]
  rw [exec_ethFrameRx ht1l hd hmem hdest hfrag, he]
  refine exists_fin ?_
  rw [State.evcEdge_net, State.evcEdge_on, State.evcEdge_rd, State.evcEdge_rd, State.ipProbe_out (by rw [hvnet]; exact hbad), hvnet,
    Touches.ipProbe.on (by decide), hvip]
  exact ⟨rfl, rfl, State.ipProbe_shows⟩

/-! The address. -/

theorem dhcpTimer_renew (ht1l : s.t1l = true) (hdhcp : s.on Reg.NET_CTRL_DHCP_EN = true) (hsrc : s.rd Hid.ipSrc = 1)
    (hip : s.on Reg.NET_STAT_IP_OK = true) (hbad : s.net.txBad = false) :
    ∃ t, exec (.dhcpTimer .renew) s = .next t ∧ t.net.out = [.send .dhcpRequest] ∧ t.regs = s.regs := by
  have he : exec (.dhcpTimer .renew) s = fin (s.hush.tx [.dhcpRequest]) := by
    refine (if_neg (by simp [ht1l, hdhcp, hsrc])).trans ?_
    rw [hip]
  rw [he]
  refine exists_fin ?_
  rw [State.evcEdge_net, State.evcEdge_regs, State.tx_out (s := s.hush) hbad, State.tx_regs (s := s.hush) hbad]
  exact ⟨rfl, rfl⟩

theorem dhcpTimer_expired (ht1l : s.t1l = true) (hdhcp : s.on Reg.NET_CTRL_DHCP_EN = true) (hsrc : s.rd Hid.ipSrc = 1)
    (hip : s.on Reg.NET_STAT_IP_OK = true) :
    ∃ t, exec (.dhcpTimer .expired) s = .next t ∧ t.rd Reg.NET_STAT_IP_OK = 0 ∧ t.rd Hid.ipSrc = 1 := by
  have he : exec (.dhcpTimer .expired) s = fin s.hush.scClose.ipDrop.dhcpAgain := by
    refine (if_neg (by simp [ht1l, hdhcp, hsrc])).trans ?_
    rw [hip]
  rw [he]
  refine exists_fin ?_
  rw [State.evcEdge_rd, State.evcEdge_rd, Touches.dhcpAgain.rd (by decide), State.dhcpAgain, Touches.tx.rd (by decide)]
  simp (disch := decide) only [State.ipDrop, State.wrs, State.rd_wr_ne, State.rd_wr_same]
  decide

theorem dhcpTimer_noOffer (ht1l : s.t1l = true) (hdhcp : s.on Reg.NET_CTRL_DHCP_EN = true) (hsrc : s.rd Hid.ipSrc = 1)
    (hip : s.on Reg.NET_STAT_IP_OK = false) (hwait : s.rd Hid.ipWait = 0) :
    ∃ t, exec (.dhcpTimer .noOffer) s = .next t ∧ bit (t.rd Reg.NET_FLAGS_FLAGS) 2 = true := by
  have hflag : bit ((s.hush.or Reg.NET_FLAGS_FLAGS 4).rd Reg.NET_FLAGS_FLAGS) 2 = true := State.bit_or_same (n := 2) (by decide)
  have he : exec (.dhcpTimer .noOffer) s = fin (if s.on Reg.NET_CTRL_STATIC_FB then
      (s.hush.or Reg.NET_FLAGS_FLAGS 4).ipProbe 2 s.netImg.ip s.netImg.mask s.netImg.gw else (s.hush.or Reg.NET_FLAGS_FLAGS 4).dhcpAgain) := by
    refine (if_neg (by simp [ht1l, hdhcp, hsrc])).trans ?_
    rw [hip, apply_ite fin]
    exact if_neg (by simp [hwait])
  rw [he]
  refine exists_fin ?_
  rw [State.evcEdge_rd, (Touches.branch Touches.ipProbe Touches.dhcpAgain).rd (by decide), hflag]

theorem exec_ipConflict_static (ht1l : s.t1l = true) (hsrc : s.rd Hid.ipSrc = 2) :
    ∃ t, exec .ipConflict s = .next t ∧ t.rd Reg.NET_STAT_IP_OK = 0 ∧ bit (t.rd Reg.NET_FLAGS_FLAGS) 1 = true ∧ t.rd Hid.ipSrc = 2 := by
  obtain ⟨v, hv⟩ : ∃ v, v = ((s.hush.count 0xB6).or Reg.NET_FLAGS_FLAGS 2) := ⟨_, rfl⟩
  have hflag : bit (v.rd Reg.NET_FLAGS_FLAGS) 1 = true := hv ▸ State.bit_or_same (n := 1) (by decide)
  have hsrc' : s.hush.rd Hid.ipSrc = 2 := hsrc
  have he : exec .ipConflict s = fin (v.scClose.ipDrop.wr Hid.ipSrc 2) := by
    change execIpConflict s = _
    simp [execIpConflict, State.ipConflict, ht1l, hsrc, hsrc', hv]
  rw [he]
  refine exists_fin ?_
  rw [State.evcEdge_rd, State.evcEdge_rd, State.evcEdge_rd, ((Touches.scClose.andThen .ipDrop).wr).rd (f := Reg.NET_FLAGS_FLAGS) (by decide)]
  refine ⟨?_, hflag, State.rd_wr_same _ _ _⟩
  simp (disch := decide) only [State.ipDrop, State.wrs, State.rd_wr_ne, State.rd_wr_same]
  decide

/-- An address in use; registration may start beside it. -/
theorem State.ipUse_shows {src : Nat} : (s.ipUse src addr mask gw).rd Reg.NET_STAT_IP_OK = 1 ∧
    (s.ipUse src addr mask gw).rd Reg.NET_IP_ADDR_ADDR = addr % 2 ^ 32 := by
  obtain ⟨v, hv⟩ : ∃ v, v = s.wrs [(Reg.NET_STAT_IP_OK, 1), (Reg.NET_IP_ADDR_ADDR, addr), (Reg.NET_IP_MASK_MASK, mask),
    (Reg.NET_IP_GW_GW, gw), (Hid.ipSrc, src), (Hid.ipWait, 0)] := ⟨_, rfl⟩
  have ht : Touches [.net] [Reg.NET_FDR_FDR_STATE, Reg.MEM_ERR_MAC] v (s.ipUse src addr mask gw) := by
    rw [State.ipUse, ← hv]
    exact .of (by decide) (.branch ((Touches.refl v).wr.andThen .tx) (.refl v))
  rw [ht.rd (by decide), ht.rd (by decide), hv]
  simp (disch := decide) only [State.wrs, State.rd_wr_ne, State.rd_wr_same]
  exact ⟨rfl, rfl⟩

theorem staticReprobe_unanswered (ht1l : s.t1l = true) (hsrc : s.rd Hid.ipSrc = 2) (hip : s.on Reg.NET_STAT_IP_OK = false)
    (hwait : s.rd Hid.ipWait = 0) :
    ∃ t, exec (.staticReprobe false) s = .next t ∧ t.rd Reg.NET_STAT_IP_OK = 1 ∧ t.rd Reg.NET_IP_ADDR_ADDR = s.netImg.ip % 2 ^ 32 := by
  have he : exec (.staticReprobe false) s =
      fin ((s.hush.tx [.arpProbe, .arpProbe, .arpProbe]).ipUse 2 s.netImg.ip s.netImg.mask s.netImg.gw) := by
    change execStaticReprobe false s = _
    simp [execStaticReprobe, ht1l, hsrc, hip, hwait]
  rw [he]
  refine exists_fin ?_
  rw [State.evcEdge_rd, State.evcEdge_rd]
  exact State.ipUse_shows

/-! Foreign-device registration. -/

theorem fdrTimer_failed (ht1l : s.t1l = true) (hen : s.netEn 1 = true) (hfdr : s.on Reg.NET_CTRL_FDR_EN = true)
    (hip : s.on Reg.NET_STAT_IP_OK = true) : ∃ t, exec (.fdrTimer true) s = .next t ∧ t.rd Reg.NET_FDR_FDR_STATE = 3 := by
  have he : exec (.fdrTimer true) s = fin ((s.hush.wr Reg.NET_FDR_FDR_STATE 3).count 0xB8) := by
    change execFdrTimer true s = _
    simp [execFdrTimer, ht1l, hen, hfdr, hip]
  rw [he]
  refine exists_fin ?_
  rw [State.evcEdge_rd, State.count_rd]
  exact State.rd_wr_same _ _ _

theorem fdrTimer_again (ht1l : s.t1l = true) (hen : s.netEn 1 = true) (hfdr : s.on Reg.NET_CTRL_FDR_EN = true)
    (hip : s.on Reg.NET_STAT_IP_OK = true) (hst : s.rd Reg.NET_FDR_FDR_STATE = 2) (hbad : s.net.txBad = false) :
    ∃ t, exec (.fdrTimer false) s = .next t ∧ t.rd Reg.NET_FDR_FDR_STATE = 2 ∧ t.net.out = [.send .fdrRegister] := by
  have he : exec (.fdrTimer false) s = fin ((s.hush.wr Reg.NET_FDR_FDR_STATE 2).tx [.fdrRegister]) := by
    change execFdrTimer false s = _
    simp [execFdrTimer, ht1l, hen, hfdr, hip, hst]
  rw [he]
  refine exists_fin ?_
  rw [State.evcEdge_rd, State.evcEdge_net, Touches.tx.rd (by decide), State.tx_out (s := s.hush.wr Reg.NET_FDR_FDR_STATE 2) hbad]
  exact ⟨State.rd_wr_same _ _ _, rfl⟩

/-- Settles O26: each clause is what one command of the link or the address sets, sends and leaves. -/
theorem linkAndAddress : Obligations.LinkAndAddress :=
  ⟨fun _ _ _ _ => exec_linkUp, fun _ => exec_linkDown, fun _ _ => ethFrameRx_echo, fun _ _ => ethFrameRx_echo_bad,
    fun _ _ _ _ _ _ => ethFrameRx_lease, fun _ => dhcpTimer_renew, fun _ => dhcpTimer_expired, fun _ => dhcpTimer_noOffer,
    fun _ => exec_ipConflict_static, fun _ => staticReprobe_unanswered, fun _ => fdrTimer_failed, fun _ => fdrTimer_again⟩

end Sys2Proof.Machine
end

section
/-! How a request of the network is taken and answered (R26, R359, R366, R386). -/

namespace Sys2Proof.Machine

open Sys2Proof (NetFrom)

variable {s t x m : State} {P : List Part} {L : List Fld} {port c w : Nat} {l : List NetOut} {msg : List NetOut × Option Nat}
  {ms : List (List NetOut × Option Nat)} {code : Option Nat} {f : NetFrom} {always : Bool} {act : State → State}

theorem State.put_evcOnly : EvcOnly (s.say l) (s.put port l) := by
  have h := State.txFrames_evcOnly (s := s) (n := b2n (decide (port ≤ 1)))
  unfold State.put
  split
  · exact (h.trans ((State.levelPulse_evcOnly _ _).trans State.scFrames_evcOnly)).say
  · exact h.say

/-- A frame in a good buffer goes out with its messages. -/
theorem State.sendFrame_good (h : s.net.txBad = false) : EvcOnly (s.say msg.1) (s.sendFrame port msg) := by
  rw [State.sendFrame, if_neg (by simp [State.blocked, h])]
  cases msg.2 with
  | none => exact State.put_evcOnly
  | some c => exact ((State.count_evcOnly s c).say).trans State.put_evcOnly

theorem State.sendFrame_blocked (h : s.net.txBad = true) (hp : port ≤ 1) : s.sendFrame port msg = s.macErr := by
  rw [State.sendFrame, if_pos (by simp [State.blocked, h, hp])]

namespace Touches

theorem put : Touches [.net] [] s (s.put port l) :=
  .of (by decide) ((branch (txFrames.andThen (levelPulse.andThen scFrames)) txFrames).say)

theorem sendFrame : Touches [.net] [Reg.MEM_ERR_MAC] s (s.sendFrame port msg) := by
  unfold State.sendFrame
  refine .of (by decide) (branch macErr (P' := [.net]) (L' := []) ?_)
  cases msg.2 with
  | none => exact put
  | some c => exact .of (by decide) ((refl s).count.andThen put)

theorem waitToken : Touches [.net] [] s (s.waitToken msg) := (refl s).setNet

theorem replyFrame : Touches [.net] [Reg.MEM_ERR_MAC] s (s.replyFrame port msg) := .of (by decide) (branch waitToken sendFrame)

theorem answer : Touches [.net] [Reg.MEM_ERR_MAC] s (s.answer port l) := replyFrame

theorem initiate {n : NetOut} : Touches [.net] [Reg.MEM_ERR_MAC] s (s.initiate n) := by
  unfold State.initiate State.sendOwn
  split
  · exact .of (by decide) (refl s)
  · exact .of (by decide) (branch waitToken sendFrame)

theorem replyEnd : Touches [.net] [] s (s.replyEnd f) := .of (by decide) (branch (refl s) (refl s).setNet)

/-- What a confirmed request writes as it arrives (R340, R382). -/
def confirmedFlds : List Fld := [Hid.wakeNet, Reg.NET_SUP_LEFT_LEFT, Hid.supAge, Reg.PWR_STAT_NET_LOST]

/-- The arrival itself: nothing said yet, counted. -/
theorem confirmed_of_hush : Touches [] confirmedFlds s.hush (s.confirmed f) := by
  have ht : Touches [] [] s.hush ((s.hush.count 0xC0).whenB (f.port.val == 1) fun u => u.levelPulse 0xBE) :=
    .of (by decide) ((refl s.hush).count.whenB fun _ => levelPulse)
  have hm : ∀ t : State, Touches [] confirmedFlds t (t.supMessage f.port.val) := fun t =>
    .of (by decide) (branch (refl t).wr.wr.wr.count (refl t))
  exact .of (by decide) (branch (ht.wr.andThen (hm _)) ht)

theorem confirmed : Touches [.net] confirmedFlds s (s.confirmed f) := .of (by decide) (hush.andThen confirmed_of_hush)

theorem segmentAcks : Touches [.net] [Reg.MEM_ERR_MAC] s (s.segmentAcks f) :=
  .of (by decide) (branch (refl s) ((refl s).each fun _ _ => answer))

theorem cw (h : Touches P L s t) (hP : Part.upsets ∉ P) (hw : (Reg.coachW w).id ∉ L.map Fld.id) : t.cw c w = s.cw c w := by
  have hup : t.upsets = s.upsets := h.parts .upsets hP
  simp only [State.cw, State.cell, h.rdAt hw, hup]

end Touches

/-- What the answers `ms` to a request of a port have added to what the machine said before it, nothing but they: sent, or waiting for
the token. -/
structure Answered (s x : State) (port : Nat) (ms : List (List NetOut × Option Nat)) : Prop where
  out : x.net.out = if s.putOff port then [] else ms.flatMap Prod.fst
  queue : x.net.queue = s.net.queue ++ if s.putOff port then ms else []
  putOff : x.putOff port = s.putOff port
  good : x.net.txBad = false

namespace Answered

theorem reply (h : Answered s x port ms) : Answered s (x.replyFrame port msg) port (ms ++ [msg]) := by
  have hstate : ∀ k, (x.replyFrame port msg).rdAt Reg.BUS_STAT_STATE k = x.rdAt Reg.BUS_STAT_STATE k :=
    Touches.replyFrame.rdAt (by decide)
  have hoff : ∀ y : State, y = x.replyFrame port msg → y.net.postponed = x.net.postponed → y.putOff port = s.putOff port := by
    rintro _ rfl hy
    simp only [State.putOff, State.needsToken, hstate, hy]
    exact h.putOff
  obtain ⟨out, queue, putOff, good⟩ := h
  by_cases hp : s.putOff port = true
  · have he : x.replyFrame port msg = x.waitToken msg := if_pos (putOff.trans hp)
    refine ⟨?_, ?_, hoff _ rfl (he ▸ rfl), he ▸ good⟩
    · rw [he, if_pos hp]
      rwa [if_pos hp] at out
    · rw [he, if_pos hp, ← List.append_assoc]
      rw [if_pos hp] at queue
      exact congrArg (· ++ [msg]) queue
  · have he : x.replyFrame port msg = x.sendFrame port msg := if_neg (putOff ▸ hp)
    have hnet : (x.replyFrame port msg).net = (x.say msg.1).net := he ▸ (State.sendFrame_good good).net
    refine ⟨?_, ?_, hoff _ rfl (hnet ▸ rfl), hnet ▸ good⟩
    · rw [hnet, if_neg hp, List.flatMap_append]
      rw [if_neg hp] at out
      simp [State.say, out]
    · rw [hnet, if_neg hp]
      rw [if_neg hp] at queue
      exact queue

/-- Before any answer. -/
theorem nothing (hnet : x.net = s.hush.net) (hbus : ∀ k, x.rdAt Reg.BUS_STAT_STATE k = s.rdAt Reg.BUS_STAT_STATE k)
    (hbad : s.net.txBad = false) : Answered s x port [] := by
  refine ⟨by simp [hnet, State.hush], by simp [hnet, State.hush], ?_, by rw [hnet]; exact hbad⟩
  simp only [State.putOff, State.needsToken, hnet, hbus]
  rfl

/-- What does not touch the messages keeps what has been answered. -/
theorem frame (h : Answered s x port ms) (ht : Touches P L x t) (hP : Part.net ∉ P) (hL : Reg.BUS_STAT_STATE.id ∉ L.map Fld.id) :
    Answered s t port ms := by
  have hnet : t.net = x.net := ht.parts .net hP
  refine ⟨hnet ▸ h.out, hnet ▸ h.queue, ?_, hnet ▸ h.good⟩
  rw [← h.putOff]
  simp only [State.putOff, State.needsToken, hnet, ht.rdAt hL]

theorem end_out (h : Answered s x port ms) : (x.replyEnd f).evcEdge.net.out = if s.putOff port then [] else ms.flatMap Prod.fst := by
  rw [State.evcEdge_net, ← h.out, State.replyEnd]
  split <;> rfl

theorem end_queue (h : Answered s x port ms) :
    (x.replyEnd f).evcEdge.net.queue = s.net.queue ++ if s.putOff port then ms else [] := by
  rw [State.evcEdge_net, ← h.queue, State.replyEnd]
  split <;> rfl

theorem replies (h : Answered s x port [(l, code)]) : s.replies (x.replyEnd f).evcEdge port l code := by
  have hout := h.end_out (f := f)
  have hqueue := h.end_queue (f := f)
  unfold State.replies State.sends
  split
  · rename_i hp
    rw [if_pos hp] at hout hqueue
    exact ⟨hout, hqueue⟩
  · rename_i hp
    rw [if_neg hp] at hout hqueue
    simpa using And.intro hout hqueue

end Answered

theorem State.confirmed_net : (s.confirmed f).net = s.hush.net := Touches.confirmed_of_hush.parts .net (by decide)

theorem State.confirmed_answered (hbad : s.net.txBad = false) : Answered s (s.confirmed f) port [] :=
  .nothing State.confirmed_net (Touches.confirmed.rdAt (by decide)) hbad

/-- A request that the device handles goes on to the limits of its APDUs. -/
theorem State.request_taken (hbac : s.bacOn f.port.val = true) (hram : f.ram.val = 0) (hdcc : s.rd Reg.NET_STAT_DCC ≠ 1 ∨ always = true) :
    s.request f always act = if apduMax f.port.val < f.octets then ((s.confirmed f).netError f.port.val .apduTooLong).replyEnd f
      else if maxSegments < f.reqSegs ∨ maxSegments < f.ansSegs then ((s.confirmed f).netError f.port.val .tooManySegments).replyEnd f
      else ((act ((s.confirmed f).segmentAcks f)).segmented f).replyEnd f := by
  have hsilent : ¬(s.rd Reg.NET_STAT_DCC = 1 ∧ always = false) := by
    rintro ⟨h₁, h₂⟩
    simp [h₁, h₂] at hdcc
  rw [State.request, if_neg (by simp [hbac]), if_neg (by simp [hram]), if_neg hsilent]

/-- A request and an answer of one segment each. -/
theorem State.request_plain (hbac : s.bacOn f.port.val = true) (hram : f.ram.val = 0) (hplain : plainReq f = true)
    (hdcc : s.rd Reg.NET_STAT_DCC ≠ 1 ∨ always = true) : s.request f always act = (act (s.confirmed f)).replyEnd f := by
  simp only [plainReq, Bool.and_eq_true, decide_eq_true_eq] at hplain
  obtain ⟨⟨hoct, hreq⟩, hans⟩ := hplain
  rw [State.request_taken hbac hram hdcc, if_neg (by omega), if_neg (by simp only [maxSegments]; omega), State.segmentAcks, if_pos hreq,
    State.segmented, if_pos hans]

end Sys2Proof.Machine
end

section
/-! Reads and writes of properties, and subscriptions (R369 to R376). -/

namespace Sys2Proof.Machine

open Sys2Proof (NetFrom BacRef BacVal BacObj)

variable {s t x : State} {f : NetFrom} {refs : List BacRef} {z : Fin 16} {who life i k n : Nat} {ref : BacRef} {q : Int}
  {ms : List (List NetOut × Option Nat)} {port : Nat}

/-- What a read of a zone's Present_Value gives. -/
def State.zoneValue (s : State) (z : Nat) : BacVal := .num (s.rdAt Reg.ZONE_STATE_SET z + 1)

theorem State.readProp_zone : s.readProp ⟨.multiState z.val, .presentValue⟩ = .ok (s.zoneValue z.val, s) := by
  simp [State.readProp, objExists, State.propLacks, State.propOf, State.zoneValue]

/-- A service's answer to a read of a zone's Present_Value. -/
theorem exec_readZone : exec (.bacnetReadProperty f [⟨.multiState z.val, .presentValue⟩]) s = fin (s.request f false fun t =>
    t.answer f.port.val [.property ⟨.multiState z.val, .presentValue⟩ (t.zoneValue z.val)]) := by
  have h : exec (.bacnetReadProperty f [⟨.multiState z.val, .presentValue⟩]) s =
      execBacnetReadProperty f [⟨.multiState z.val, .presentValue⟩] s := rfl
  rw [h, execBacnetReadProperty]
  simp only [State.readProp_zone]

theorem State.confirmed_zoneValue : (s.confirmed f).zoneValue n = s.zoneValue n := by
  rw [State.zoneValue, Touches.confirmed.rdAt (by decide)]
  rfl

theorem readZone_plain (hbac : s.bacOn f.port.val = true) (hram : f.ram.val = 0) (hplain : plainReq f = true) (hbad : s.net.txBad = false)
    (hdcc : s.rd Reg.NET_STAT_DCC ≠ 1) :
    ∃ t, exec (.bacnetReadProperty f [⟨.multiState z.val, .presentValue⟩]) s = .next t ∧
      s.replies t f.port.val [.property ⟨.multiState z.val, .presentValue⟩ (s.zoneValue z.val)] none := by
  rw [exec_readZone, State.request_plain hbac hram hplain (.inl hdcc), State.confirmed_zoneValue]
  exact exists_fin (State.confirmed_answered hbad).reply.replies

/-! Segmented requests (R359). -/

theorem Answered.acks {a : List NetOut} (h : Answered s x port ms) :
    Answered s (x.each (upTo n) fun t _ => t.answer port a) port (ms ++ List.replicate n (a, none)) := by
  unfold State.each upTo
  induction n with
  | zero => simpa using h
  | succ n ih =>
    rw [List.range_succ, List.foldl_append, List.replicate_succ', ← List.append_assoc]
    exact ih.reply

/-- The number of windows of a segmented request. -/
def windows (f : NetFrom) : Nat := (f.reqSegs + windowOf f - 1) / windowOf f

theorem Answered.segmentAcks (h : Answered s x f.port.val []) (hseg : 1 < f.reqSegs) :
    Answered s (x.segmentAcks f) f.port.val (List.replicate (windows f) ([.send (.segmentAck (windowOf f))], none)) := by
  rw [State.segmentAcks, if_neg (by omega)]
  exact h.acks

theorem readZone_segmented (hbac : s.bacOn f.port.val = true) (hram : f.ram.val = 0) (hbad : s.net.txBad = false)
    (hdcc : s.rd Reg.NET_STAT_DCC ≠ 1) (hoct : f.octets ≤ apduMax f.port.val) (hseg : 1 < f.reqSegs) (hmax : f.reqSegs ≤ 16)
    (hans : f.ansSegs ≤ 1) :
    ∃ t, exec (.bacnetReadProperty f [⟨.multiState z.val, .presentValue⟩]) s = .next t ∧
      (if s.putOff f.port.val = true then t.net.out = [] ∧ t.net.queue = s.net.queue ++
          List.replicate ((f.reqSegs + windowOf f - 1) / windowOf f) ([.send (.segmentAck (windowOf f))], none) ++
          [([.property ⟨.multiState z.val, .presentValue⟩ (s.zoneValue z.val)], none)]
        else t.net.out = List.replicate ((f.reqSegs + windowOf f - 1) / windowOf f) (.send (.segmentAck (windowOf f))) ++
          [.property ⟨.multiState z.val, .presentValue⟩ (s.zoneValue z.val)]) := by
  have hval : ((s.confirmed f).segmentAcks f).zoneValue z.val = s.zoneValue z.val := by
    rw [State.zoneValue, Touches.segmentAcks.rdAt (by decide)]
    exact State.confirmed_zoneValue
  have h := ((State.confirmed_answered (port := f.port.val) (f := f) hbad).segmentAcks hseg).reply (msg :=
    ([.property ⟨.multiState z.val, .presentValue⟩ (s.zoneValue z.val)], none))
  rw [exec_readZone, State.request_taken hbac hram (.inl hdcc), if_neg (by omega), if_neg (by simp only [maxSegments]; omega), hval,
    State.segmented, if_pos hans]
  refine exists_fin ?_
  have hout := h.end_out (f := f)
  have hqueue := h.end_queue (f := f)
  split
  · rename_i hp
    rw [if_pos hp] at hout hqueue
    exact ⟨hout, by rw [List.append_assoc]; exact hqueue⟩
  · rename_i hp
    rw [if_neg hp] at hout
    refine hout.trans ?_
    simp [windows, List.flatMap_append, List.flatMap_replicate]

theorem readProperty_tooLong (hbac : s.bacOn f.port.val = true) (hram : f.ram.val = 0) (hbad : s.net.txBad = false)
    (hdcc : s.rd Reg.NET_STAT_DCC ≠ 1) (hoct : apduMax f.port.val < f.octets) :
    ∃ t, exec (.bacnetReadProperty f refs) s = .next t ∧ s.replies t f.port.val [.error .apduTooLong] (some 0xC1) := by
  have h : exec (.bacnetReadProperty f refs) s = execBacnetReadProperty f refs s := rfl
  rw [h, execBacnetReadProperty, State.request_taken hbac hram (.inl hdcc), if_pos hoct]
  exact exists_fin (State.confirmed_answered hbad).reply.replies

theorem readProperty_tooManySegments (hbac : s.bacOn f.port.val = true) (hram : f.ram.val = 0) (hbad : s.net.txBad = false)
    (hdcc : s.rd Reg.NET_STAT_DCC ≠ 1) (hoct : f.octets ≤ apduMax f.port.val) (hseg : 16 < f.reqSegs ∨ 16 < f.ansSegs) :
    ∃ t, exec (.bacnetReadProperty f refs) s = .next t ∧ s.replies t f.port.val [.error .tooManySegments] (some 0xC1) := by
  have h : exec (.bacnetReadProperty f refs) s = execBacnetReadProperty f refs s := rfl
  have hmany : maxSegments < f.reqSegs ∨ maxSegments < f.ansSegs := hseg
  rw [h, execBacnetReadProperty, State.request_taken hbac hram (.inl hdcc), if_neg (by omega), if_pos hmany]
  exact exists_fin (State.confirmed_answered hbad).reply.replies

theorem readZone_blocked (hbac : s.bacOn f.port.val = true) (hport : f.port.val ≤ 1) (hram : f.ram.val = 0) (hplain : plainReq f = true)
    (hbad : s.net.txBad = true) (hdcc : s.rd Reg.NET_STAT_DCC ≠ 1) :
    ∃ t, exec (.bacnetReadProperty f [⟨.multiState z.val, .presentValue⟩]) s = .next t ∧ t.net.out = [] ∧ t.rd Reg.MEM_ERR_MAC = 1 ∧
      t.net.txBad = false := by
  have he : ∀ l, (s.confirmed f).answer f.port.val l = (s.confirmed f).macErr := by
    intro l
    have hb : (s.confirmed f).net.txBad = true := by rw [State.confirmed_net]; exact hbad
    rw [State.answer, State.replyFrame, if_neg (by simp [State.putOff, State.needsToken]; omega), State.sendFrame_blocked hb hport]
  rw [exec_readZone, State.request_plain hbac hram hplain (.inl hdcc), he, State.replyEnd, if_pos hport]
  refine exists_fin ?_
  rw [State.evcEdge_net, State.evcEdge_rd, State.macErr_out, State.confirmed_net]
  exact ⟨rfl, State.macErr_rd, State.macErr_good⟩

/-! A write of an Analog Value (R370, R372). -/

theorem setAt_getElem? {α : Type} {l : List α} {v : α} (h : k < l.length) : (setAt l k v)[k]? = some v := by
  induction l generalizing k with
  | nil => simp at h
  | cons a l ih =>
    cases k with
    | zero => rfl
    | succ k => simpa [setAt] using ih (by simpa using h)

theorem State.av_inst : (s.av i).inst = i := by
  unfold State.av
  cases h : s.avs.find? fun a => a.inst == i with
  | none => rfl
  | some a => simpa using List.find?_some h

/-- A listed Analog Value is read as it was put. -/
theorem State.av_setAv {a : Av} (h : a.prio.all Option.isNone = false) : (s.setAv a).av a.inst = a := by
  have hne : a.prio.isEmpty = false := by
    cases hl : a.prio with
    | nil => simp [hl] at h
    | cons => rfl
  have hrest : (s.avs.filter fun b => b.inst != a.inst).find? (fun b => b.inst == a.inst) = none := by
    rw [List.find?_eq_none]
    intro b hb
    simpa using (List.mem_filter.mp hb).2
  simp [State.setAv, State.av, h, hne, hrest, List.find?_append]

theorem State.av_avPut {p : Nat} (hp : p - 1 < 16) : ((s.avPut i p (some q)).av i).prio.getD (p - 1) none = some q := by
  obtain ⟨l, hl⟩ : ∃ l, l = ((s.av i).prio ++ List.replicate 16 none).take 16 := ⟨_, rfl⟩
  have hat : (setAt l (p - 1) (some q))[p - 1]? = some (some q) := setAt_getElem? (by simp [hl]; omega)
  have hsome : (setAt l (p - 1) (some q)).all Option.isNone = false := by
    rw [List.all_eq_false]
    exact ⟨some q, List.mem_of_getElem? hat, by simp⟩
  have hav : (s.avPut i p (some q)).av i = { s.av i with prio := setAt l (p - 1) (some q) } := by
    have h := State.av_setAv (s := s) (a := { s.av i with prio := setAt l (p - 1) (some q) }) hsome
    rw [hl] at h ⊢
    simpa only [State.avPut, State.av_inst] using h
  rw [hav, List.getD_eq_getElem?_getD, hat]
  rfl

theorem State.av_congr (h : t.avs = s.avs) : t.av i = s.av i := by simp only [State.av, h]

theorem State.confirmed_avBound : (s.confirmed f).avBound i = s.avBound i := by
  have hcw : ∀ c k, k < 4 → (s.confirmed f).outBind c k = s.outBind c k := by
    intro c k hk
    have hw : (s.confirmed f).cw c (6 + k / 2) = s.cw c (6 + k / 2) := Touches.confirmed.cw (by decide) (by
      have : 6 + k / 2 = 6 ∨ 6 + k / 2 = 7 := by omega
      rcases this with h | h <;> rw [h] <;> decide)
    simp only [State.outBind, hw]
  unfold State.avBound
  refine congrArg (List.any (upTo 160)) (funext fun c => ?_)
  rw [Bool.eq_iff_iff, List.any_eq_true, List.any_eq_true]
  refine exists_congr fun k => and_congr_right fun hk => ?_
  rw [hcw c k (List.mem_range.mp hk)]

theorem writeValue_stores {i : Fin 256} {p : Fin 17} {b : Nat} (hbac : s.bacOn f.port.val = true) (hram : f.ram.val = 0)
    (hplain : plainReq f = true) (hbad : s.net.txBad = false) (hdcc : s.rd Reg.NET_STAT_DCC ≠ 1) (hfree : s.avBound i.val = false)
    (hp : p.val ≠ 0) (hq : qOfReal b = some q) :
    ∃ t, exec (.bacnetWriteProperty f [{ ref := ⟨.analogValue i.val, .presentValue⟩, val := .real b, prio := p }]) s = .next t ∧
      s.replies t f.port.val [.ack] none ∧ (t.av i.val).prio.getD (p.val - 1) none = some q := by
  have h : exec (.bacnetWriteProperty f [{ ref := ⟨.analogValue i.val, .presentValue⟩, val := .real b, prio := p }]) s =
      execBacnetWriteProperty f [{ ref := ⟨.analogValue i.val, .presentValue⟩, val := .real b, prio := p }] s := rfl
  have hact : (s.confirmed f).writeProps f.port.val [{ ref := ⟨.analogValue i.val, .presentValue⟩, val := .real b, prio := p }] =
      ((s.confirmed f).avPut i.val p.val (some q)).answer f.port.val [.ack] := by
    have hval : storedReal (.real b) = .ok q := by simp only [storedReal, hq]
    simp [State.writeProps, State.writeRead, State.writeProp, State.writeValue, objExists, State.confirmed_avBound, hfree, hp, hval,
      Except.map]
  have hans : Answered s ((s.confirmed f).avPut i.val p.val (some q)) f.port.val [] := by
    obtain ⟨out, queue, putOff, good⟩ := State.confirmed_answered (f := f) (port := f.port.val) hbad
    exact ⟨out, queue, putOff, good⟩
  rw [h, execBacnetWriteProperty, State.request_plain hbac hram hplain (.inl hdcc), hact]
  refine exists_fin ⟨hans.reply.replies, ?_⟩
  have havs := ((Touches.answer (s := (s.confirmed f).avPut i.val p.val (some q)) (port := f.port.val) (l := [.ack])).andThen
    (.replyEnd (f := f))).evcEdge.parts .avs (by decide)
  rw [State.av_congr havs, State.av_avPut (by omega)]

/-! Subscriptions (R376). -/

theorem State.sendFrame_subs {msg : List NetOut × Option Nat} : (s.sendFrame port msg).net.subs = s.net.subs := by
  by_cases h : s.net.txBad = true ∧ port ≤ 1
  · rw [State.sendFrame_blocked h.1 h.2]
    rfl
  · rw [State.sendFrame, if_neg (by simpa [State.blocked] using h)]
    cases hm : msg.2 with
    | none => rw [State.put_evcOnly.net]; rfl
    | some c =>
      have hc : (s.count c).net.subs = s.net.subs := congrArg NetS.subs (State.count_net s c)
      rw [State.put_evcOnly.net]
      exact hc

theorem State.replyFrame_subs {msg : List NetOut × Option Nat} : (s.replyFrame port msg).net.subs = s.net.subs := by
  unfold State.replyFrame
  split
  · rfl
  · exact State.sendFrame_subs

theorem State.initiate_subs {m : NetOut} : (s.initiate m).net.subs = s.net.subs := by
  unfold State.initiate State.sendOwn
  cases s.bacPort with
  | none => rfl
  | some p =>
    dsimp only
    split
    · rfl
    · exact State.sendFrame_subs

theorem State.replyEnd_subs : (s.replyEnd f).net.subs = s.net.subs := by
  unfold State.replyEnd
  split <;> rfl

theorem State.setSubs_active {l : List CovSub} (h : l.length < 64) : (s.setSubs l).rd Reg.NET_COV_ACTIVE = l.length :=
  (State.rd_wr_same _ _ _).trans (Nat.mod_eq_of_lt h)

/-- The subscription that a request asks for. -/
def State.newSub (s : State) (who : Nat) (z : Nat) (life : Nat) : CovSub :=
  ⟨who, ⟨.multiState z, .presentValue⟩, life, s.zoneValue z⟩

theorem subscribe_zone (hbac : s.bacOn f.port.val = true) (hram : f.ram.val = 0) (hplain : plainReq f = true)
    (hdcc : s.rd Reg.NET_STAT_DCC ≠ 1) (h1 : 1 ≤ life) (hlife : life ≤ 28800)
    (hroom : (dropSub s.net.subs who ⟨.multiState z.val, .presentValue⟩).length < 32) :
    ∃ t, exec (.bacnetSubscribeCov f { who := who, ref := ⟨.multiState z.val, .presentValue⟩, life := life }) s = .next t ∧
      t.net.subs = dropSub s.net.subs who ⟨.multiState z.val, .presentValue⟩ ++ [s.newSub who z.val life] ∧
      t.rd Reg.NET_COV_ACTIVE = (dropSub s.net.subs who ⟨.multiState z.val, .presentValue⟩).length + 1 := by
  have h : exec (.bacnetSubscribeCov f { who := who, ref := ⟨.multiState z.val, .presentValue⟩, life := life }) s =
      execBacnetSubscribeCov f { who := who, ref := ⟨.multiState z.val, .presentValue⟩, life := life } s := rfl
  obtain ⟨l, hl⟩ : ∃ l, l = dropSub s.net.subs who ⟨.multiState z.val, .presentValue⟩ ++ [s.newSub who z.val life] := ⟨_, rfl⟩
  have hsubs : (s.confirmed f).net.subs = s.net.subs := by rw [State.confirmed_net]; rfl
  obtain ⟨u, hu⟩ : ∃ u, u = ((s.confirmed f).setSubs l).answer f.port.val [.ack] := ⟨_, rfl⟩
  have hact : (s.confirmed f).subscribe f.port.val { who := who, ref := ⟨.multiState z.val, .presentValue⟩, life := life } =
      if u.rd Reg.NET_STAT_DCC = 0 then u.initiate (.covNotify who ⟨.multiState z.val, .presentValue⟩ (s.zoneValue z.val)) else u := by
    rw [hu, hl, State.newSub]
    simp only [State.subscribe, State.readProp_zone, State.confirmed_zoneValue, hsubs, Bool.false_eq_true, if_false]
    rw [if_neg (by omega), if_neg (by omega)]
  have hu1 : u.net.subs = l := by rw [hu]; exact State.replyFrame_subs
  have hu2 : u.rd Reg.NET_COV_ACTIVE = l.length := by
    rw [hu, Touches.answer.rd (by decide)]
    exact State.setSubs_active (by rw [hl, List.length_append, List.length_singleton]; omega)
  rw [h, execBacnetSubscribeCov, State.request_plain hbac hram hplain (.inl hdcc), hact]
  refine exists_fin ?_
  rw [State.evcEdge_net, State.evcEdge_rd, State.replyEnd_subs, Touches.replyEnd.rd (by decide),
    ((Touches.initiate (s := u)).either (.of (by decide) (.refl u))).rd (by decide), hu2, ← hl]
  refine ⟨?_, by rw [hl, List.length_append]; rfl⟩
  split
  · exact State.initiate_subs.trans hu1
  · exact hu1

theorem covSubscriptionExpiry_drops (hon : s.netOn = true) (hend : s.subEnded who ref = true) :
    ∃ t, exec (.covSubscriptionExpiry who ref) s = .next t ∧ t.net.subs = dropSub s.net.subs who ref := by
  have he : exec (.covSubscriptionExpiry who ref) s = fin (s.hush.setSubs (dropSub s.net.subs who ref)) :=
    if_pos (by simp [hon, hend])
  rw [he]
  refine exists_fin ?_
  rw [State.evcEdge_net]
  rfl

end Sys2Proof.Machine
end

section
/-! Device management (R379 to R381, R344, R347). -/

namespace Sys2Proof.Machine

open Sys2Proof (NetFrom SyncTime)

variable {s t x : State} {f : NetFrom} {k n i j first : Nat} {time : SyncTime} {pw data : List Nat} {warm : Bool} {g : Nat → Nat} {fld : Fld}

/-! Time synchronisation. -/

theorem Touches.rtcRun : Touches [] [Hid.rtcHold, Reg.RTC_SUBSEC_SUBSEC, Reg.RTC_STAT_SHIFT_PEND] s s.rtcRun :=
  .of (by decide) (branch (refl s) (((refl s).freeBelow.wr.wr).whenB fun t => (refl t).wr.wr.count))

/-- A SET accepted waits for the next edge and shows in the network's flags. -/
theorem State.syncSet_shows {sec wday : Nat} (h : s.on Hid.oscStopped = false) :
    (s.syncSet sec wday).rd Hid.rtcPend = 1 ∧ bit ((s.syncSet sec wday).rd Reg.NET_FLAGS_FLAGS) 7 = true := by
  rw [State.syncSet, if_neg (by simp [h]), State.syncApplied, State.setAccept, State.count_rd, State.count_rd]
  refine ⟨?_, State.bit_or_same (n := 7) (by decide)⟩
  simp (disch := decide) only [State.rd_or_ne, State.count_rd, State.wrs, State.rd_wr_ne, State.rd_wr_same]
  decide

theorem exec_timeSynchronization {hu : Nat} (hport : (upTo 4).any s.bacOn = true) (hdcc : s.rd Reg.NET_STAT_DCC ≠ 1)
    (hsec : syncSeconds time = some (k, hu)) (hrange : k < dayOf 200 1 1 * 86400) (hdow : dowOk time.dow = true)
    (hosf : s.on Reg.RTC_STAT_OSF = true) (hosc : s.on Hid.oscStopped = false) :
    ∃ t, exec (.timeSynchronization false time) s = .next t ∧ t.rd Hid.rtcPend = 1 ∧ bit (t.rd Reg.NET_FLAGS_FLAGS) 7 = true := by
  have h : exec (.timeSynchronization false time) s = fin (s.hush.synchronise false time) := if_neg (by simp [hport, hdcc])
  have hosf' : s.hush.on Reg.RTC_STAT_OSF = true := hosf
  have hrun : s.hush.rtcRun.on Hid.oscStopped = false := (Touches.rtcRun.on (by decide)).trans hosc
  have hsync : ∃ wday, s.hush.synchronise false time = s.hush.rtcRun.syncSet k wday := by
    have hloc : ¬((k : Int) < 0 ∨ (dayOf 200 1 1 : Int) * 86400 ≤ k ∨ dowOk time.dow = false) := by
      rintro (h | h | h)
      · omega
      · omega
      · simp [hdow] at h
    have hshift : s.hush.localShift false = 0 := rfl
    refine ⟨s.hush.rtcRun.syncWday time.dow ((k : Int) / 86400 - (k : Int) / 86400), ?_⟩
    simp only [State.synchronise, hsec, hshift, Int.add_zero]
    rw [if_neg hloc, if_neg (by simp [hosf'])]
    rfl
  obtain ⟨wday, he⟩ := hsync
  rw [h, he]
  refine exists_fin ?_
  rw [State.evcEdge_rd, State.evcEdge_rd]
  exact State.syncSet_shows hrun

/-! Reinitialisation. -/

namespace Touches

theorem refreshZones : Touches [] [Reg.OCC_ZONE_OCC, Hid.wakeOcc] s s.refreshZones :=
  .of (by decide) (branch (refl s) ((refl s).wr.count.whenB fun t => (refl t).wr))

theorem occFresh : Touches [] [Reg.OCC_STAT_CH_OCC, Reg.OCC_ZONE_OCC, Hid.wakeOcc] s s.occFresh :=
  .of (by decide) ((refl s).each fun t _ => (refl t).putBit.andThen refreshZones)

theorem occMoment : Touches [] [Hid.occLast, Reg.OCC_STAT_CH_OCC, Reg.OCC_ZONE_OCC, Hid.wakeOcc] s s.occMoment :=
  .of (by decide) (((refl s).each fun t _ => (refl t).wrAt).andThen occFresh)

/-- The fields of the link, the protocol processor and its services that a restart writes (R377). -/
def restartOwnFlds : List Fld :=
  [Reg.NET_STAT_AMPL, Reg.NET_STAT_TIME_UNCHK, Reg.NET_STAT_DCC, Reg.NET_STAT_PP_RUN, Hid.supAge, Reg.NET_PHY_SQI,
   Reg.NET_SUP_LEFT_LEFT, Reg.NET_SC_STAT_ALERT, Reg.NET_MB_CLI_MB_FAIL, Reg.NET_COV_ACTIVE, Hid.eee, Hid.mbFail, Hid.aiVal, Hid.aiRsn,
   Hid.vmac]

/-- All that a restart of the protocol processor writes. -/
def restartFlds : List Fld := netStopFlds ++ portFlds ++ restartOwnFlds

theorem aiShow : Touches [] [Hid.aiVal, Hid.aiRsn] s (s.aiShow k) := .of (by decide) (branch (refl s).wrAt.wrAt (refl s).wrAt.wrAt)

/-- A restart of the protocol processor begins with RAM in which nothing is said. -/
theorem netRestart_of_ram : ∃ (ram : NetS) (avs : List Av), ram.out = [] ∧
    Touches [] restartFlds { s with net := ram, avs := avs } s.netRestart := by
  unfold State.netRestart
  extract_lets img zs zones ram avs pp run t u w x y
  have hu : Touches [] (netStopFlds ++ restartOwnFlds) { s with net := ram, avs := avs } u :=
    .of (by decide) ipDrop.wr.wr.wr.wr.wr.wr.wr.wr.wr.wr.wr.wr
  have hw : Touches [] (netStopFlds ++ restartOwnFlds) u w :=
    .of (by decide) ((mbEnd.each fun t _ => (refl t).wrAt).each fun _ _ => aiShow)
  have hy : Touches [] restartOwnFlds w y := .of (by decide) (refl w).freeBelow.wr
  have hports : Touches [] (netStopFlds ++ portFlds) y
      (if run then y.netPorts else (y.wr Reg.NET_STAT_SC_STATE 0).each [0, 1] fun t k => (t.wrAt Reg.BUS_STAT_STATE k 0).busInit k) :=
    .of (by decide) (branch netPorts ((refl y).wr.each fun t _ => (refl t).wrAt.andThen busInit))
  exact ⟨ram, avs, rfl, .of (by decide) (((hu.trans hw).andThen hy).andThen hports)⟩

end Touches

/-- A soft reset shows itself in its hold and as the last one, and ends what the network was to say. -/
theorem State.softReset_shows : (s.softReset warm).rd Hid.softHold = 1 ∧ (s.softReset warm).rd Reg.RST_CAUSE_LAST_SOFT = b2n warm ∧
    (s.softReset warm).net.out = [] := by
  unfold State.softReset
  extract_lets m t0 t1 t2 t3
  have hset : t2.rd Hid.softHold = 1 ∧ t2.rd Reg.RST_CAUSE_LAST_SOFT = b2n warm := by
    simp (disch := decide) only [t2, State.wrs, State.rd_wr_ne, State.rd_wr_same]
    cases warm <;> decide
  obtain ⟨u, hu⟩ : ∃ u, u = t3.whenB (t3.mode == mIz30) fun t => t.wrAt Hid.izV 2 0x82 := ⟨_, rfl⟩
  have h2 : Touches [] [Reg.SUPV_LANE_SWAP_BUSY, Hid.izV] t2 u :=
    hu ▸ .of (by decide) (((Touches.refl t2).whenB fun t => (Touches.refl t).wr).whenB fun t => (Touches.refl t).wrAt)
  obtain ⟨ram, avs, hram, hnet⟩ := Touches.netRestart_of_ram (s := u)
  have hend := (hnet.andThen .occMoment).andThen .fastBesideFailed
  rw [← hu, hend.rd (by decide), hend.rd (by decide), hend.parts .net (by decide)]
  exact ⟨(h2.rd (by decide)).trans hset.1, (h2.rd (by decide)).trans hset.2, hram⟩

theorem State.bacOn_alive {port : Nat} (h : s.bacOn port = true) : s.alive = true := by
  have hon : s.netOn = true := by
    unfold State.bacOn State.t1l State.busOn at h
    split_ifs at h <;> simp only [Bool.and_eq_true] at h
    · exact h.1.1.1.1
    · exact h.1.1
    · exact h.1.1
  simp only [State.netOn, Bool.and_eq_true] at hon
  exact hon.1.1.2

theorem State.confirmed_passwordOk : (s.confirmed f).passwordOk pw = s.passwordOk pw := by
  have h : (s.confirmed f).netImg = s.netImg := Touches.confirmed.parts .netImg (by decide)
  simp only [State.passwordOk, h]

theorem State.confirmed_good (h : s.net.txBad = false) {port : Nat} : (s.confirmed f).blocked port = false := by
  rw [State.blocked, State.confirmed_net]
  exact Bool.and_eq_false_iff.mpr (.inl h)

theorem State.replyEnd_out : (s.replyEnd f).net.out = s.net.out := by
  unfold State.replyEnd
  split <;> rfl

theorem reinitialize_warm (hbac : s.bacOn f.port.val = true) (hram : f.ram.val = 0) (hplain : plainReq f = true) (hbad : s.net.txBad = false)
    (hpw : s.passwordOk pw = true) (hhold : s.on Hid.softHold = false) :
    ∃ t, exec (.reinitializeDevice f .warm pw) s = .next t ∧ t.rd Hid.softHold = 1 ∧ t.rd Reg.RST_CAUSE_LAST_SOFT = 1 ∧
      t.net.out = [.ack] := by
  have h : exec (.reinitializeDevice f .warm pw) s = execReinitializeDevice f .warm pw s := rfl
  obtain ⟨v, hv⟩ : ∃ v, v = ((s.confirmed f).count 0xC6).txFrames (b2n (decide (f.port.val ≤ 1))) := ⟨_, rfl⟩
  have hact : (s.confirmed f).reinit f.port.val .warm pw = (v.softReset true).say [.ack] := by
    have hhold' : (s.confirmed f).on Hid.softHold = false := (Touches.confirmed.on (by decide)).trans hhold
    simp [State.reinit, State.confirmed_passwordOk, hpw, hhold', State.confirmed_good hbad, hv]
  obtain ⟨hh, hlast, hout⟩ := State.softReset_shows (s := v) (warm := true)
  have ht := (Touches.refl (v.softReset true)).say (l := [.ack]) |>.andThen (.replyEnd (f := f))
  rw [h, execReinitializeDevice, State.request_plain hbac hram hplain (.inr rfl), hact]
  refine exists_fin ?_
  rw [State.evcEdge_rd, State.evcEdge_rd, State.evcEdge_net, ht.rd (by decide), ht.rd (by decide), State.replyEnd_out]
  exact ⟨hh, hlast, by rw [State.say, hout]; rfl⟩

theorem reinitialize_cold (hbac : s.bacOn f.port.val = true) (hram : f.ram.val = 0) (hplain : plainReq f = true) (hbad : s.net.txBad = false)
    (hpw : s.passwordOk pw = true) :
    ∃ t, exec (.reinitializeDevice f .cold pw) s = .next t ∧ t.mode = mBoot ∧ t.rd Reg.RST_CAUSE_CAUSE = 5 ∧ t.net.out = [.ack] := by
  have h : exec (.reinitializeDevice f .cold pw) s = execReinitializeDevice f .cold pw s := rfl
  obtain ⟨v, hv⟩ : ∃ v, v = (s.confirmed f).count 0xC6 := ⟨_, rfl⟩
  have hvt : Touches [.net] Touches.confirmedFlds s v := hv ▸ Touches.confirmed.count
  have halive : v.alive = true := by
    rw [← State.bacOn_alive hbac]
    simp only [State.alive, State.mode, hvt.rd (f := Reg.PWR_MODE_MODE) (by decide), hvt.rd (f := Hid.resetActive) (by decide)]
  have hact : (s.confirmed f).reinit f.port.val .cold pw = (v.bootReset 5).say [.ack] := by
    simp [State.reinit, State.confirmed_passwordOk, hpw, State.confirmed_good hbad, ← hv, State.assertReset_of_alive halive]
  obtain ⟨hmode, hcause, -⟩ := State.bootReset_rebooted (s := v) (cause := 5) (by decide)
  have ht := (Touches.refl (v.bootReset 5)).say (l := [.ack]) |>.andThen (.replyEnd (f := f))
  rw [h, execReinitializeDevice, State.request_plain hbac hram hplain (.inr rfl), hact]
  refine exists_fin ?_
  rw [State.mode, State.evcEdge_rd, State.evcEdge_rd, State.evcEdge_net, ht.rd (by decide), ht.rd (by decide), State.replyEnd_out]
  exact ⟨hmode, hcause, rfl⟩

/-! DeviceCommunicationControl. -/

theorem exec_deviceCommunicationControl {m : Fin 3} {timed : Bool} (hbac : s.bacOn f.port.val = true) (hram : f.ram.val = 0)
    (hplain : plainReq f = true) (hbad : s.net.txBad = false) (hpw : s.passwordOk pw = true) :
    ∃ t, exec (.deviceCommunicationControl f m timed pw) s = .next t ∧ t.rd Reg.NET_STAT_DCC = m.val ∧ s.replies t f.port.val [.ack] none := by
  have h : exec (.deviceCommunicationControl f m timed pw) s = execDeviceCommunicationControl f m timed pw s := rfl
  obtain ⟨v, hv⟩ : ∃ v, v = (s.confirmed f).wrs [(Reg.NET_STAT_DCC, m.val), (Hid.dccTimed, b2n (timed && m.val != 0))] := ⟨_, rfl⟩
  have hset : v.rd Reg.NET_STAT_DCC = m.val := by
    rw [hv]
    simp (disch := decide) only [State.wrs, State.rd_wr_ne, State.rd_wr_same]
    exact Nat.mod_eq_of_lt (m.isLt.trans (by decide))
  have hvt : Touches [] [Reg.NET_STAT_DCC, Hid.dccTimed] (s.confirmed f) v := by
    rw [hv]
    exact .of (by decide) (Touches.refl _).wr.wr
  have hans : Answered s v f.port.val [] := (State.confirmed_answered hbad).frame hvt (by decide) (by decide)
  rw [h, execDeviceCommunicationControl, State.request_plain hbac hram hplain (.inr rfl), if_pos (State.confirmed_passwordOk.trans hpw), ← hv]
  refine exists_fin ⟨?_, hans.reply.replies⟩
  rw [State.evcEdge_rd, (Touches.answer.andThen .replyEnd).rd (by decide), hset]

theorem exec_dccDurationExpiry (hon : s.netOn = true) (ht : s.on Hid.dccTimed = true) :
    ∃ t, exec .dccDurationExpiry s = .next t ∧ t.rd Reg.NET_STAT_DCC = 0 := by
  have he : exec .dccDurationExpiry s = fin (s.hush.wrs [(Reg.NET_STAT_DCC, 0), (Hid.dccTimed, 0)]) := if_pos ⟨hon, ht⟩
  rw [he]
  refine exists_fin ?_
  rw [State.evcEdge_rd]
  exact (State.rd_wr_ne _ _ _ _ (by decide)).trans (State.rd_wr_same _ _ _)

/-! The staging of a region update (R381). -/

/-- A run of channels written one after the other reads as written. -/
theorem State.rdAt_each_wrAt (hj : j < n) : (s.each (upTo n) fun v i => v.wrAt fld (first + i) (g i)).rdAt fld (first + j) = g j % 2 ^ fld.w := by
  unfold State.each upTo
  induction n with
  | zero => exact absurd hj (Nat.not_lt_zero j)
  | succ n ih =>
    rw [List.range_succ, List.foldl_append]
    change ((List.foldl _ s (List.range n)).wrAt fld (first + n) (g n)).rdAt fld (first + j) = _
    by_cases h : j = n
    · rw [h, State.rdAt_wrAt_same]
    · rw [State.rdAt_wrAt_ne _ _ _ _ _ _ (by omega), ih (by omega)]

/-- The staging buffer claimed by the network. -/
def State.stageClaim (s : State) : State := s.wrs [(Reg.RGN_CTRL_STATE, 1), (Reg.RGN_CTRL_SRC, 1)]

/-- Words put into the staging buffer. -/
def State.stageFill (s : State) (first : Nat) (data : List Nat) : State :=
  s.each (upTo data.length) fun v k => v.wrAt Hid.stage (first + k) (data.getD k 0)

theorem Touches.stageFill : Touches [] [Hid.stage] s (s.stageFill first data) := .of (by decide) ((refl s).each fun t _ => (refl t).wrAt)

theorem State.stageWrite_eq (hmode : s.rgnMode = true) (hst : s.rd Reg.RGN_CTRL_STATE ≠ 3) :
    s.stageWrite 1 first data = (s.stageClaim.stageFill first data).wr Reg.RGN_CTRL_TYPE
      ((s.stageClaim.stageFill first data).rdAt Hid.stage 0 / 65536) := by
  rw [State.stageWrite, if_neg (by simp [hmode]), if_neg hst]
  rfl

/-- In a mode with updates the network claims the buffer, and the words stand in it. -/
theorem State.stageWrite_shows (hmode : s.rgnMode = true) (hst : s.rd Reg.RGN_CTRL_STATE ≠ 3) :
    (s.stageWrite 1 first data).rd Reg.RGN_CTRL_STATE = 1 ∧ (s.stageWrite 1 first data).rd Reg.RGN_CTRL_SRC = 1 ∧
      (∀ j, j < data.length → (s.stageWrite 1 first data).rdAt Hid.stage (first + j) = data.getD j 0 % 2 ^ 32) ∧
      Touches [] [Reg.RGN_CTRL_STATE, Reg.RGN_CTRL_SRC, Hid.stage, Reg.RGN_CTRL_TYPE] s (s.stageWrite 1 first data) := by
  rw [State.stageWrite_eq hmode hst]
  have hfill := (Touches.stageFill (s := s.stageClaim) (first := first) (data := data)).wr (f := Reg.RGN_CTRL_TYPE)
    (v := (s.stageClaim.stageFill first data).rdAt Hid.stage 0 / 65536)
  have hclaim : Touches [] [Reg.RGN_CTRL_SRC, Reg.RGN_CTRL_STATE] s s.stageClaim := (Touches.refl s).wr.wr
  refine ⟨?_, ?_, fun j hj => ?_, .of (by decide) (hclaim.andThen hfill)⟩
  · exact (hfill.rd (by decide)).trans ((State.rd_wr_ne _ _ _ _ (by decide)).trans (State.rd_wr_same _ _ _))
  · exact (hfill.rd (by decide)).trans (State.rd_wr_same _ _ _)
  · exact (State.rdAt_wrAt_id _ _ _ _ _ _ (by decide)).trans (State.rdAt_each_wrAt hj)

theorem atomicWriteFile_stages (hbac : s.bacOn f.port.val = true) (hram : f.ram.val = 0) (hplain : plainReq f = true)
    (hbad : s.net.txBad = false) (hdcc : s.rd Reg.NET_STAT_DCC ≠ 1) (hst : s.rd Reg.RGN_CTRL_STATE = 0) (hmode : s.rgnMode = true)
    (hlen : data.length % 4 = 0) (hroom : k + data.length / 4 ≤ 8192) :
    ∃ t, exec (.atomicWriteFile f 1 ((4 * k : Nat) : Int) data) s = .next t ∧ t.rd Reg.RGN_CTRL_STATE = 1 ∧ t.rd Reg.RGN_CTRL_SRC = 1 ∧
      s.replies t f.port.val [.ack] none ∧
      (∀ j : Nat, j < data.length / 4 → t.rdAt Hid.stage (k + j) = (streamWords data).getD j 0 % 2 ^ 32) := by
  have h : exec (.atomicWriteFile f 1 ((4 * k : Nat) : Int) data) s = execAtomicWriteFile f 1 ((4 * k : Nat) : Int) data s := rfl
  have hst' : (s.confirmed f).rd Reg.RGN_CTRL_STATE = 0 := (Touches.confirmed.rd (by decide)).trans hst
  have hmode' : (s.confirmed f).rgnMode = true := by
    rw [← hmode]
    simp only [State.rgnMode, State.native, State.operating, State.up, State.alive, State.mode,
      Touches.confirmed.rd (f := Reg.PWR_MODE_MODE) (L := Touches.confirmedFlds) (by decide),
      Touches.confirmed.rd (f := Hid.resetActive) (L := Touches.confirmedFlds) (by decide)]
    rfl
  have hstart : ((4 * k : Nat) : Int).toNat / 4 = k := by omega
  have htaken : (s.confirmed f).stageAns 1 = .taken := by simp [State.stageAns, hst']
  obtain ⟨v, hv⟩ : ∃ v, v = (s.confirmed f).stageWrite 1 k (streamWords data) := ⟨_, rfl⟩
  have hact : (s.confirmed f).writeFile f.port.val 1 ((4 * k : Nat) : Int) data = v.answer f.port.val [.ack] := by
    rw [State.writeFile, if_neg (by decide), if_neg (by omega), hstart, if_neg (by omega), htaken, hv]
  obtain ⟨hstate, hsrc, hwords, htouch⟩ := State.stageWrite_shows (first := k) (data := streamWords data) hmode' (by rw [hst']; decide)
  rw [← hv] at hstate hsrc hwords htouch
  have hans : Answered s v f.port.val [] := (State.confirmed_answered hbad).frame htouch (by decide) (by decide)
  have ht := (Touches.answer (s := v) (port := f.port.val) (l := [.ack])).andThen (.replyEnd (f := f))
  rw [h, execAtomicWriteFile, State.request_plain hbac hram hplain (.inl hdcc), hact]
  refine exists_fin ⟨?_, ?_, hans.reply.replies, fun j hj => ?_⟩
  · rw [State.evcEdge_rd, ht.rd (by decide), hstate]
  · rw [State.evcEdge_rd, ht.rd (by decide), hsrc]
  · rw [State.evcEdge_rdAt, ht.rdAt (by decide)]
    exact hwords j (by simpa [streamWords, upTo] using hj)

/-- Settles O30: each service is its request as it is taken, what the service sets, and the frame that answers it. -/
theorem bacnetServices : Obligations.BacnetServices :=
  ⟨fun _ _ _ => readZone_plain, fun _ _ _ => readZone_segmented, fun _ _ _ => readProperty_tooLong,
    fun _ _ _ => readProperty_tooManySegments, fun _ _ _ => readZone_blocked, fun _ _ _ _ _ _ => writeValue_stores,
    fun _ _ _ _ _ hbac hram hplain _ hdcc => subscribe_zone hbac hram hplain hdcc, fun _ _ _ => covSubscriptionExpiry_drops,
    fun _ _ _ _ => exec_timeSynchronization, fun _ _ _ => reinitialize_warm, fun _ _ _ => reinitialize_cold,
    fun _ _ _ _ _ => exec_deviceCommunicationControl, fun _ => exec_dccDurationExpiry, fun _ _ _ _ => atomicWriteFile_stages⟩

end Sys2Proof.Machine
end

section
/-! Statements on the coaches and the loop engine that an error in the stored bits of a coach word refutes (R26, R100, R102): a read gives such
a word with its flipped bits, while the model goes by the word as last written, by its readability, or by what a further flip has mended. -/

namespace Sys2Proof.Machine

open Sys2Proof (EvalEnv)

/-- NATIVE, the queue's head a coach that is disabled: EN and CMD_PEND of its STATUS, written 0, have flipped. -/
def flippedEn : State := { State.wr {} Reg.PWR_MODE_MODE mNative with due := [⟨5, 0⟩], upsets := [⟨0, 44, 0b10100⟩] }

/-- The engine passes over a coach whose STATUS, as last written, has EN 0 (R69). -/
theorem State.evalHead_disabled {s : State} {d : Due} {rest : List Due} {env : EvalEnv} (hdue : s.due = d :: rest)
    (hrun : (s.on Reg.SUPV_LANE_SWAP_BUSY || s.on Reg.SUPV_LANE_STOPPED || s.on Hid.softHold || !s.operating || !s.alive) = false)
    (hen : stEn (s.cell d.coach 44) = false) : s.evalHead env = { s with due := rest } := by
  simp only [State.evalHead, hdue, hrun, Bool.false_eq_true, if_false]
  exact if_pos hen

/-- What a meaning that ends in `s` answers. -/
theorem eq_of_fin {s t : State} (h : fin s = .next t) : t = s.evcEdge := (Host.Outcome.next.inj h).symm

/-- Refutes O3: the coach due first is disabled, but two flipped bits of its STATUS read as EN 1. It is passed over, so LAST_TICK stays 0 where
the statement has the tick 5. -/
theorem not_evaluationCommits : ¬ Obligations.EvaluationCommits := by
  intro h
  obtain ⟨hcommit, -⟩ := h
  obtain ⟨t, ht, -, hlast⟩ := hcommit flippedEn {} ⟨5, 0⟩ [] rfl (by decide) (by decide) (by decide) (by decide) (by decide) (by decide) rfl rfl rfl
  have hpassed : flippedEn.evalHead {} = { flippedEn with due := [] } := State.evalHead_disabled rfl (by decide) (by decide)
  have ht' : t = State.evcEdge { flippedEn with due := [] } := hpassed ▸ eq_of_fin ht
  have hkept : t.cw 0 63 = 0 := by
    rw [ht', (Touches.refl _).evcEdge.cw (by decide) (by decide)]
    decide
  exact absurd (hkept.symm.trans hlast) (by decide)

/-- The port open and door 0 with it, the selected coach OPEN: two flipped bits of its STATUS read as SHUTTERED, for no cause. -/
def flippedState : State :=
  { (State.wr {} Reg.PWR_MODE_MODE mNative).wr Reg.HOST_DOOR_OPEN 1 with upsets := [⟨0, 44, 0b11⟩] }

/-- Refutes O36: the selected coach reads as shuttered for no cause, and its STATUS cannot be read, so it is taken as shuttered for ECC (R102)
and its repair starts, where the statement has it refused with RESULT 2. -/
theorem not_hostSupervisesAndCommands : ¬ Obligations.HostSupervisesAndCommands := by
  intro h
  obtain ⟨-, -, -, hrefused, -⟩ := h
  obtain ⟨t, ht, -, hresult⟩ := hrefused flippedState (by decide) (by decide) (by decide) (by decide)
  have hstarts : t.rd Reg.SUPV_REPAIR_RESULT = 0 := by
    rw [eq_of_fin ht, State.evcEdge_rd]
    decide +kernel
  exact absurd (hstarts.symm.trans hresult) (by decide)

/-- NATIVE, coach 0 due: OPEN with OUT 9, its first output the set-point word of coach 3. Two flipped bits of the binding read as an Analog
Value. -/
def flippedBinding : State :=
  { (((State.wr {} Reg.PWR_MODE_MODE mNative).wrCoach 0 44 4).wrCoach 0 6 (5 + 8 * 3)).wrCoach 0 52 9 with
    due := [⟨5, 0⟩], upsets := [⟨0, 6, 0b11⟩] }

/-- The evaluation's load finds the same two bits flipped once more: the binding reads right again. -/
def mendingLoad : EvalEnv := { upsets := [(6, 0b11)] }

/-- Refutes O45: the errors that arise before the load of the coach due mend its output binding, so its evaluation writes the set-point word of
coach 3, which the binding that could be read before does not name. -/
theorem not_engineFrames : ¬ Obligations.EngineFrames := by
  intro h
  obtain ⟨-, hframe, -⟩ := h
  obtain ⟨t, ht⟩ : ∃ t, exec (.coachEvaluation mendingLoad) flippedBinding = .next t := ⟨_, rfl⟩
  obtain ⟨-, -, -, hcoaches⟩ := hframe mendingLoad flippedBinding t ht
  have hkept : t.cell 3 8 = flippedBinding.cell 3 8 := hcoaches 3 8 (by decide) (by decide)
  have hsent : t.cell 3 8 = 9 := by
    rw [eq_of_fin ht, State.cell, State.evcEdge_rdAt]
    decide +kernel
  exact absurd (hsent.symm.trans hkept) (by decide)

end Sys2Proof.Machine
end

section
/-! What the wheel tick and its parts touch (R47, R48, R337 to R340). -/

namespace Sys2Proof.Machine

variable {s t m : State} {n c d z k : Nat} {P : List Part} {L : List Fld}

namespace Touches

theorem evcTick : Touches [] [] s s.evcTick :=
  .of (by decide) (branch (refl s) (foldl (refl s) fun t _ => branch (branch ((refl t).setEvc)
    (branch ((refl t).setEvc.andThen evcAdd) ((refl t).setEvc.takeFree.andThen evcAdd))) (refl t)))

/-! Modes. -/

theorem vlvFollow {was : State} : Touches [.rgn] vlvOffFlds s (s.vlvFollow was n) := .of (by decide) (branch (refl s) vlvAct)

/-- What an end of SERVICE writes of the outputs that were commanded by hand (R247). -/
def manFlds : List Fld := [Reg.VLV_MAN_MAN_EN, Reg.DMP_MAN_MAN_EN, Reg.BO_MAN_MAN_EN] ++ vlvOffFlds ++ boFlds

theorem manLeave : Touches [.rgn] manFlds s s.manLeave :=
  .of (by decide) ((((each (refl s) fun t _ => (refl t).wrAt.andThen vlvFollow).each fun t _ => (refl t).wrAt).each fun t _ =>
    (refl t).wrAt).andThen boRefresh)

theorem closeInits : Touches [] [Hid.closeInit] s s.closeInits := .of (by decide) (each (refl s) fun t _ => (refl t).wrAt)

theorem svcMark : Touches [] [Hid.svcOpen, Hid.svcDrop] s s.svcMark :=
  .of (by decide) (each (each (refl s) fun t _ => (refl t).wrAt) fun t _ => (refl t).wrAt)

theorem sysAbort : Touches [] [Reg.CAL_SYS_STAT_BUSY, Reg.CAL_SYS_STAT_RESULT] s s.sysAbort := .of (by decide) (branch (refl s).wr.wr (refl s))

theorem zoneApply {wake} : Touches [] [Reg.ZONE_STATE_SET, Hid.wakeSched] s (s.zoneApply z wake) :=
  .of (by decide) ((refl s).wrAt.whenB fun t => (refl t).wr)

theorem releaseZones : Touches [.net] [Reg.ZONE_FORCE_FORCE, Reg.ZONE_STATE_SET, Hid.wakeSched] s s.releaseZones :=
  .of (by decide) (branch (each (refl s) fun t _ => (refl t).wrAt.andThen zoneApply).setNet (refl s))

theorem fanAutoLeave : Touches [] (Reg.FAN_COMMON_SRC :: demandFlds) s s.fanAutoLeave :=
  .of (by decide) ((refl s).wr.each fun _ _ => fanDemand)

/-- What a change of the mode writes (R337 to R339, R71, R247). -/
def modeFlds : List Fld :=
  [Reg.PWR_MODE_MODE, Reg.PWR_FLAGS_MODE_CHG, Reg.PWR_MODE_PREV, Hid.closeInit, Hid.svcOpen, Hid.svcDrop, Reg.CAL_SYS_STAT_BUSY,
    Reg.CAL_SYS_STAT_RESULT, Reg.FAN_COMMON_SRC, Reg.ZONE_FORCE_FORCE, Reg.ZONE_STATE_SET, Hid.wakeSched, Reg.DISP_STAT_STATE] ++
    manFlds ++ demandFlds

theorem setMode : Touches [.net, .rgn] modeFlds s (s.setMode n) := by
  unfold State.setMode
  extract_lets old t u
  have ht : Touches [] modeFlds s t := .of (by decide) (refl s).wr.wr.raise
  have hu : Touches [.rgn] modeFlds s u :=
    .of (by decide) (ht.andThen (branch (manLeave.andThen (closeInits.andThen sysAbort)) (branch fanAutoLeave (refl t))))
  exact .of (by decide) ((branch ((hu.wr.andThen releaseZones).wr) (branch (hu.andThen svcMark) hu)).andThen panelIdle)

/-- What the mode commands, the causes of AUTONOMOUS and the wake events write at a tick, beside the mode's own change. -/
def modesFlds : List Fld :=
  [Hid.wakeAlarm, Hid.wakeOcc, Hid.wakeNet, Reg.PWR_WAKE_LAST, Reg.PWR_MODE_PEND, Hid.modeCmd, Reg.PWR_MODE_RESULT] ++ modeFlds

/-- A change of the mode, among what the modes write at a tick. -/
theorem modes : Touches [.net, .rgn] modesFlds s (s.setMode n) := .of (by decide +kernel) setMode

theorem autoTick : Touches [.net, .rgn] modesFlds s s.autoTick := either modes (either modes (.of (by decide) (refl s)))

theorem wake : Touches [.net, .rgn] modesFlds s (s.wake n) := .of (by decide +kernel) (branch modes (refl s).wr).wr

theorem wakeTick : Touches [.net, .rgn] modesFlds s s.wakeTick := by
  unfold State.wakeTick
  extract_lets t
  have ht : Touches [.net, .rgn] modesFlds s t := by
    have hs : Touches [.net, .rgn] modesFlds s s := .of (by decide +kernel) (refl s)
    refine either ?_ hs
    split
    · exact wake
    · exact hs
  exact .of (by decide +kernel) ht.wr.wr.wr.wr

theorem modeCmdTick : Touches [.net, .rgn] modesFlds s s.modeCmdTick := by
  unfold State.modeCmdTick
  extract_lets c t v u
  have ht : Touches [] modesFlds s t := .of (by decide +kernel) (refl s).wr.wr
  have hu : Touches [.net, .rgn] modesFlds t u := either (either (modes.trans modes) modes) (either modes (either modes wake))
  exact .of (by decide +kernel) (branch (refl s) (branch ht.wr (ht.andThen hu).wr))

/-! The engine's queue, ages and timers. -/

theorem kick : Touches [] [Reg.SUPV_WDT_REMAIN] s s.kick := .of (by decide) (branch (refl s).wr.count (refl s))

theorem dueTick : Touches [.due] [Reg.ENG_STATUS_PMUL, Reg.SUPV_WDT_REMAIN] s s.dueTick :=
  .of (by decide) (branch ((refl s).wr.countIf.setDue.andThen kick) (refl s).wr.countIf.setDue)

theorem ageTick : Touches [] [Reg.UI_AGE_AGE, Reg.SNS_AGE_AGE] s s.ageTick :=
  .of (by decide) (each (each (refl s) fun t _ => (refl t).wrAt) fun t _ => (refl t).wrAt)

theorem timer {f} : Touches [] [f] s (s.timer f) := more (by simp) (by simp) (branch (refl s).wr (refl s))

theorem msTimers : Touches [] [Reg.SUPV_WDT_REMAIN, Reg.HOST_HB_CFG_LEFT, Hid.calHold, Reg.BUS_STAT_TOKEN_AGE, Reg.CLK_FB_TIME_MS] s
    s.msTimers := by
  unfold State.msTimers
  extract_lets t u v
  have hv : Touches [] [Reg.SUPV_WDT_REMAIN, Reg.HOST_HB_CFG_LEFT, Hid.calHold, Reg.BUS_STAT_TOKEN_AGE] s v :=
    .of (by decide) ((((branch timer (refl s)).andThen timer).wr).each fun t _ => (refl t).wrAt)
  exact .of (by decide) (branch hv.wr hv)

/-! The converters, sensors, fans and dampers. -/

theorem pollTick : Touches [] [Hid.snsDue] s s.pollTick := .of (by decide) (branch (each (refl s) fun t _ => (refl t).wrAt) (refl s))

theorem wakeConvs : Touches [.convs] [] s s.wakeConvs := .of (by decide) (each (refl s) fun t _ => branch (refl t).setConv (refl t))

theorem scanTick : Touches [.convs] [Hid.uiDue] s s.scanTick := .of (by decide) ((each (refl s) fun t _ => (refl t).wrAt).andThen wakeConvs)

theorem healthIssue : Touches [.convs, .urgMore, .cals, .xchks] dropFlds s (s.healthIssue c) :=
  .of (by decide) (branch (((refl s).countIf.setCal.andThen urgIssue).andThen urgIssue) ((refl s).countIf.setCal.andThen urgIssue))

theorem healthTick : Touches [.convs, .urgMore, .cals, .xchks] dropFlds s s.healthTick := by
  unfold State.healthTick
  extract_lets t
  have ht : Touches [.convs, .urgMore, .cals, .xchks] dropFlds s t := .of (by decide) (each (refl s) fun t _ => branch healthIssue (refl t))
  exact .of (by decide) (branch (ht.andThen healthIssue) ht)

theorem boTick : Touches [] [Hid.boMs, Reg.BO_STATE_ELAPSED] s s.boTick :=
  .of (by decide) (each (refl s) fun t _ => branch (refl t).wrAt (refl t).wrAt.wrAt)

theorem setRef : Touches [] [Hid.fanRef, Reg.FAN_DEMAND_REF] s (s.setRef n) := .of (by decide) (refl s).wr.wr

theorem fanRefStep : Touches [] [Hid.fanRef, Reg.FAN_DEMAND_REF, Hid.fanRampMs] s s.fanRefStep :=
  .of (by decide) (branch (refl s).wr (branch setRef.wr (branch (branch setRef setRef) setRef)))

theorem fanMeasure : Touches [] [Reg.FAN_MEAS_SPEED, Reg.FAN_MEAS_IQ] s s.fanMeasure :=
  .of (by decide) (branch (refl s).takeFree.takeFree.wr.wrI (refl s))

theorem fanIntegrate : Touches [] [Hid.fanSpdInt] s s.fanIntegrate := .of (by decide) (branch (refl s).wrI (refl s))

theorem fanTick : Touches [] [Hid.fanRef, Reg.FAN_DEMAND_REF, Hid.fanRampMs, Reg.FAN_MEAS_SPEED, Reg.FAN_MEAS_IQ, Hid.fanSpdInt, Hid.fanIlim,
    Reg.FAN_DEMAND_DEMAND, Reg.FANT_DEMAND_DEMAND] s s.fanTick :=
  .of (by decide) (((fanRefStep.andThen fanMeasure).andThen fanIntegrate).wr.each fun _ _ => showDemand)

/-- What a step of a damper writes (R234). -/
def dmpFlds : List Fld := [Reg.DMP_POS_POS, Hid.dmpFrac, Hid.dmpPhase, Hid.dmpVel, Hid.dmpDir]

theorem dmpMove : Touches [] dmpFlds s (s.dmpMove d) := .of (by decide) (refl s).wrAt.wrAt.wrAt.wrAt.wrAt

theorem dmpHoming : Touches [] dmpFlds s (s.dmpHoming d) := .of (by decide) (refl s).wrAt.wrAt.wrAt.wrAt.wrAt

theorem dmpTick : Touches [] dmpFlds s s.dmpTick :=
  .of (by decide) (branch (each (refl s) fun t _ => branch dmpMove (branch dmpHoming (refl t))) (refl s))

theorem vlvMeasure : Touches [] [Reg.VLV_MEAS_CURRENT, Reg.VLV_MEAS_DUTY] s (s.vlvMeasure n) := by
  unfold State.vlvMeasure
  extract_lets r i d
  have hd : Touches [] [] s d.2 :=
    .of (by decide) (branch_snd (refl s).takeFree (refl s).takeFree.takeFree)
  exact .of (by decide) (branch (refl s) hd.wrAt.wrAt)

theorem izSend {src} : Touches [.actQ] [] s (s.izSend n k src) := .of (by decide) (branch (refl s) (refl s).count.setActQ)

theorem izTickOut : Touches [.actQ] [] s s.izTickOut :=
  .of (by decide) (each (each (refl s) fun t _ => branch (refl t) izSend) fun t _ => branch (refl t) izSend)

/-! The network. -/

theorem patchReload : Touches [] [Hid.patch] s s.patchReload := by
  unfold State.patchReload
  extract_lets base n
  refine .of (by decide) (branch (refl s) (branch (refl s) (P' := []) (L' := [Hid.patch]) ?_))
  split
  · exact .of (by decide) (refl s)
  · split
    · exact .of (by decide) (refl s)
    · exact .of (by decide) (each (refl s) fun t _ => (refl t).wrAt)

theorem netRestart : Touches [.net, .avs] restartFlds s s.netRestart := by
  obtain ⟨ram, avs, -, h⟩ := netRestart_of_ram (s := s)
  exact .of (by decide) (andThen ((refl s).set (t := { s with net := ram, avs := avs }) [.net, .avs] rfl rfl rfl) h)

theorem patchTick : Touches [.hatch, .net, .avs] (Hid.patch :: restartFlds) s s.patchTick :=
  .of (by decide) (branch (branch (refl s).freeBelow (((refl s).freeBelow.pathLeave.andThen patchReload).andThen netRestart)) (refl s))

theorem coachGet {w} : Touches [.upsets] eccFlds s (s.coachGet c w) := .of (by decide) (branch noteDue ceFix)

theorem coachWord {w} : Touches [.upsets] eccFlds s (s.coachWord c w).2 := .of (by decide) (branch_snd coachGet.freeBelow coachGet)

/-- A read of a Loop's property reads one word of its coach with its check bits. -/
theorem loopProp {p x} (h : s.loopProp n p = some x) : Touches [.upsets] eccFlds s x.2 := by
  cases p
  case reliability =>
    cases h
    exact coachGet
  all_goals cases h
  all_goals exact coachWord

theorem propOf {r x} (h : s.propOf r = some x) : Touches [.upsets] eccFlds s x.2 := by
  have hsame : ∀ {v : Option Sys2Proof.BacVal}, v.map (fun y => (y, s)) = some x → Touches [.upsets] eccFlds s x.2 := by
    intro v hv
    obtain ⟨y, -, rfl⟩ := Option.map_eq_some_iff.mp hv
    exact .of (by decide) (refl s)
  unfold State.propOf at h
  extract_lets same at h
  split at h
  case h_6 =>
    split at h
    · cases h
      exact loopProp ‹_›
    · exact hsame h
  case h_13 => cases h
  all_goals exact hsame h

theorem changeSeen {old new} : Touches [] [] s (s.changeSeen old new).2 := by
  refine .of (by decide) (branch_snd (refl s) (P' := []) (L' := []) ?_)
  split
  · exact (refl s).takeFree
  · exact refl s

theorem notify {x} : Touches [.net] [Reg.MEM_ERR_MAC] s (s.notify x) :=
  .of (by decide) ((branch ((refl s).freeBelow.andThen initiate) (refl s).freeBelow).andThen initiate)

theorem notifyClass {x} : Touches [.net] [Reg.MEM_ERR_MAC] s (s.notifyClass n x) :=
  .of (by decide) (branch (refl s) (each (refl s) fun _ _ => notify))

theorem trendAdd {v} : Touches [.net] [Reg.MEM_ERR_MAC] s (s.trendAdd k v) :=
  .of (by decide) (branch ((refl s).setNet.andThen notifyClass) (refl s).setNet)

/-- What reports of the protocol processor's objects write (R110, R26). -/
def reportFlds : List Fld := Reg.MEM_ERR_MAC :: eccFlds

theorem covCheck {x} : Touches [.upsets, .net] reportFlds s (s.covCheck x) := by
  refine .of (by decide) (branch (refl s) (P' := [.upsets, .net]) (L' := reportFlds) ?_)
  split
  · exact .of (by decide) (refl s)
  · rename_i p hp
    have hread := (propOf hp).andThen (changeSeen (old := x.last) (new := p.1))
    exact .of (by decide) (branch (hread.setNet.andThen initiate) hread)

theorem trendCheck : Touches [.upsets, .net] reportFlds s (s.trendCheck k) := by
  unfold State.trendCheck
  extract_lets t
  split
  · exact .of (by decide) (refl s)
  · refine .of (by decide) (branch (refl s) (P' := [.upsets, .net]) (L' := reportFlds) ?_)
    split
    · exact .of (by decide) (refl s)
    · have hread := propOf ‹_›
      split
      · exact .of (by decide) (hread.andThen trendAdd)
      · exact .of (by decide) (branch ((hread.andThen changeSeen).andThen trendAdd) (hread.andThen changeSeen))

theorem covTick : Touches [.upsets, .net] reportFlds s s.covTick :=
  .of (by decide) (branch (refl s) ((branch (each (refl s) fun _ _ => covCheck) (refl s)).each fun _ _ => trendCheck))

theorem ipUse {src addr mask gw} : Touches [.net] (Reg.MEM_ERR_MAC :: ipFlds) s (s.ipUse src addr mask gw) :=
  .of (by decide) (branch ((refl s).wr.wr.wr.wr.wr.wr.wr.andThen tx) (refl s).wr.wr.wr.wr.wr.wr)

theorem ipSecond : Touches [.net] (Reg.MEM_ERR_MAC :: ipFlds) s s.ipSecond :=
  .of (by decide) (branch (refl s) (branch (refl s).wr ipUse))

/-! What is counted in seconds. -/

/-- What the seconds' timers write. -/
def secondFlds : List Fld :=
  [Reg.VLV_DIAG_OFF_AGE, Reg.NET_SUP_LEFT_LEFT, Hid.supAge, Reg.NET_SC_STAT_WAIT, Hid.mbDue, Hid.trendDue, Hid.ruDue, Reg.MEM_ERR_MAC] ++ ipFlds

theorem netSecond : Touches [.net] secondFlds s s.netSecond :=
  .of (by decide) (branch (refl s) (((ipSecond.setNet).each fun t _ => (refl t).wrAt).each fun t _ => (refl t).wrAt))

theorem secondTimers : Touches [.net] secondFlds s s.secondTimers := by
  unfold State.secondTimers
  extract_lets t u
  have ht : Touches [] secondFlds s t := .of (by decide) (each (refl s) fun t _ => (refl t).wrAt)
  have hu : Touches [] secondFlds t u := .of (by decide) (branch timer.wr (refl t))
  have hru : ∀ v : State, Touches [] [Hid.ruDue] v v.ruSecond := fun v =>
    .of (by decide) (branch (each (refl v) fun t _ => (refl t).wrAt) (refl v))
  exact .of (by decide) (((ht.andThen hu).andThen (branch timer (refl u))).andThen (netSecond.andThen (hru _)))

/-! The tick. -/

/-- What a wheel tick writes beside its own count. -/
def tickFlds : List Fld :=
  [Reg.UI_AGE_AGE, Reg.SNS_AGE_AGE, Reg.ENG_STATUS_PMUL, Reg.SUPV_WDT_REMAIN, Reg.HOST_HB_CFG_LEFT, Hid.calHold, Reg.BUS_STAT_TOKEN_AGE,
    Reg.CLK_FB_TIME_MS, Hid.snsDue, Hid.uiDue, Hid.boMs, Reg.BO_STATE_ELAPSED, Hid.fanRef, Reg.FAN_DEMAND_REF, Hid.fanRampMs,
    Reg.FAN_MEAS_SPEED, Reg.FAN_MEAS_IQ, Hid.fanSpdInt, Hid.fanIlim, Reg.FAN_DEMAND_DEMAND, Reg.FANT_DEMAND_DEMAND, Reg.VLV_MEAS_CURRENT,
    Reg.VLV_MEAS_DUTY, Hid.patch, Hid.evcFb] ++ modesFlds ++ dropFlds ++ dmpFlds ++ restartFlds ++ reportFlds ++ secondFlds

/-- The components that a wheel tick may touch. -/
def tickParts : List Part := [.due, .upsets, .actQ, .xchks, .convs, .cals, .urgMore, .avs, .rgn, .hatch, .net]

end Touches

/-- The machine as a wheel tick has counted itself. -/
def State.tickCounted (s : State) : State := if s.on Hid.tickRun then s.wr Hid.tick (s.tick + 1) else s.wrs [(Hid.tickRun, 1), (Hid.tick, 0)]

open Touches in
theorem Touches.wheelTick_of_counted : Touches tickParts tickFlds s.tickCounted s.wheelTick := by
  unfold State.wheelTick
  extract_lets t0 t1 t2 t3 t4
  have h1 : Touches tickParts tickFlds t0 t1 := .of (by decide +kernel) (ageTick.andThen dueTick)
  have hauto : Touches tickParts tickFlds t1 t1.autoTick := .of (by decide +kernel) autoTick
  have hwake : Touches tickParts tickFlds t1.autoTick t1.autoTick.wakeTick := .of (by decide +kernel) wakeTick
  have h2 : Touches tickParts tickFlds t1.autoTick.wakeTick t2 := .of (by decide +kernel) modeCmdTick
  have h3 : Touches tickParts tickFlds t2 t3 :=
    .of (by decide +kernel) (((((((msTimers.andThen pollTick).andThen scanTick).andThen healthTick).andThen boTick).andThen fanTick).andThen
      dmpTick).each fun _ _ => vlvMeasure)
  have h4 : Touches tickParts tickFlds t3 t4 := .of (by decide +kernel) (branch izTickOut (patchTick.andThen covTick))
  have h5 : Touches tickParts tickFlds t4 (((if t4.tick % 1000 = 0 then t4.secondTimers else t4).evcTick).wr Hid.evcFb
      (t4.rd Reg.CLK_STAT_FALLBACK)) := .of (by decide +kernel) ((branch secondTimers (refl t4)).andThen evcTick).wr
  exact (((((h1.trans hauto).trans hwake).trans h2).trans h3).trans h4).trans h5

/-! The count of the wheel ticks (R47), and the hold of a soft reset (R347). -/

/-- A wheel tick leaves the count as it has counted itself. -/
theorem State.wheelTick_tick : s.wheelTick.tick = s.tickCounted.tick := Touches.wheelTick_of_counted.rd (by decide +kernel)

theorem State.wheelTick_tickRun : s.wheelTick.on Hid.tickRun = s.tickCounted.on Hid.tickRun :=
  Touches.wheelTick_of_counted.on (by decide +kernel)

theorem State.wheelTick_softHold : s.wheelTick.on Hid.softHold = s.on Hid.softHold := by
  rw [Touches.wheelTick_of_counted.on (by decide +kernel)]
  exact (Touches.branch (Touches.refl s).wr (Touches.refl s).wr.wr : Touches _ [Hid.tick, Hid.tick, Hid.tickRun] s s.tickCounted).on (by decide)

/-- A tick of a running count is one more. -/
theorem State.tickCounted_running (h : s.on Hid.tickRun = true) :
    s.tickCounted.tick = (s.tick + 1) % 2 ^ 48 ∧ s.tickCounted.on Hid.tickRun = true := by
  rw [State.tickCounted, if_pos h]
  exact ⟨State.rd_wr_same _ _ _, (State.on_wr_ne (by decide)).trans h⟩

/-- The first tick begins the count at 0. -/
theorem State.tickCounted_first (h : s.on Hid.tickRun = false) : s.tickCounted.tick = 0 ∧ s.tickCounted.on Hid.tickRun = true := by
  rw [State.tickCounted, if_neg (by simp [h])]
  exact ⟨State.rd_wr_same _ _ _, (State.on_wr_ne (by decide)).trans State.on_wr_same⟩

theorem State.each_cons {α : Type} {a : α} {l : List α} {f : State → α → State} : s.each (a :: l) f = (f s a).each l f := rfl

/-- Wheel ticks delivered one after the other raise a running count by one each. -/
theorem State.each_wheelTick {a : Nat} {l : List Nat} (h : s.on Hid.tickRun = true) :
    (s.each (a :: l) fun t _ => t.wheelTick).tick = (s.tick + (l.length + 1)) % 2 ^ 48 := by
  obtain ⟨hcount, hrun⟩ := State.tickCounted_running h
  rw [State.each_cons]
  induction l generalizing s with
  | nil => exact State.wheelTick_tick.trans hcount
  | cons b l ih =>
    have hrun' := State.wheelTick_tickRun.trans hrun
    obtain ⟨hcount', hrun''⟩ := State.tickCounted_running hrun'
    rw [State.each_cons, ih hrun' hcount' hrun'', State.wheelTick_tick, hcount, List.length_cons]
    omega

/-- Held ticks that are delivered do not begin a new hold. -/
theorem State.each_wheelTick_softHold {l : List Nat} : (s.each l fun t _ => t.wheelTick).on Hid.softHold = s.on Hid.softHold := by
  induction l generalizing s with
  | nil => rfl
  | cons _ l ih => rw [State.each_cons, ih, State.wheelTick_softHold]

theorem exec_periodWheelTick (halive : s.alive = true) (hmode : s.mode ≠ mBoot) :
    exec .periodWheelTick s = if s.on Hid.softHold then fin (s.wr Hid.heldTicks (s.rd Hid.heldTicks + 1)) else fin s.wheelTick :=
  if_neg (by simp [halive, hmode])

/-- The machine as its hold ends, before the ticks that fell in it are delivered. -/
def State.resumed (s : State) : State := (s.wr Hid.heldTicks 0).softEnd

theorem exec_softResetResume (h : s.on Hid.softHold = true) :
    exec .softResetResume s = fin (s.resumed.each (upTo (s.rd Hid.heldTicks)) fun t _ => t.wheelTick) := if_pos h

theorem Touches.resumed_of_ended : Touches [] [Hid.occLast, Reg.OCC_STAT_CH_OCC, Reg.OCC_ZONE_OCC, Hid.wakeOcc]
    ((s.wr Hid.heldTicks 0).wr Hid.softHold 0) s.resumed := .occMoment

theorem State.resumed_softHold : s.resumed.on Hid.softHold = false := by
  rw [Touches.resumed_of_ended.on (by decide), State.on_wr_same]
  rfl

theorem Touches.resumed : Touches [] [Hid.heldTicks, Hid.softHold, Hid.occLast, Reg.OCC_STAT_CH_OCC, Reg.OCC_ZONE_OCC, Hid.wakeOcc] s s.resumed :=
  .of (by decide) ((Touches.refl s).wr.wr.andThen resumed_of_ended)

/-- Settles O2: of all that a wheel tick does, only its own count writes the tick (`Touches.wheelTick_of_counted`), so the held ticks that are
delivered after a soft reset's hold raise it by one each. -/
theorem wheelTickAdvances : Obligations.WheelTickAdvances := by
  refine ⟨fun s halive hmode hhold hrun => ?_, fun s halive hmode hhold hrun => ?_, fun s halive hmode hhold => ?_, fun s hhold => ?_,
    fun s n hhold hrun hheld => ?_⟩
  · rw [exec_periodWheelTick halive hmode, if_neg (by simp [hhold])]
    refine exists_fin ?_
    rw [State.tick, State.evcEdge_rd]
    exact State.wheelTick_tick.trans (State.tickCounted_running hrun).1
  · rw [exec_periodWheelTick halive hmode, if_neg (by simp [hhold])]
    refine exists_fin ?_
    rw [State.tick, State.evcEdge_rd, State.evcEdge_on]
    exact ⟨State.wheelTick_tick.trans (State.tickCounted_first hrun).1, State.wheelTick_tickRun.trans (State.tickCounted_first hrun).2⟩
  · rw [exec_periodWheelTick halive hmode, if_pos hhold]
    exact exists_fin (State.evcEdge_regs _)
  · rw [exec_softResetResume hhold]
    refine exists_fin ?_
    rw [State.evcEdge_on, State.each_wheelTick_softHold, State.resumed_softHold]
  · have hrun' : s.resumed.on Hid.tickRun = true := (Touches.resumed.on (by decide)).trans hrun
    obtain ⟨a, l, hl, hlen⟩ : ∃ a l, upTo (n + 1) = a :: l ∧ l.length = n := by simp [upTo, List.range_succ_eq_map]
    rw [exec_softResetResume hhold, hheld, hl]
    refine exists_fin ?_
    rw [State.tick, State.evcEdge_rd, ← State.tick, State.each_wheelTick hrun', hlen]
    exact congrArg (fun x => (x + (n + 1)) % 2 ^ 48) (Touches.resumed.rd (by decide))

end Sys2Proof.Machine
end

section
/-! A write frame of one word at an open port (R390 to R394): what the word does, and what its answer touches beside it. -/

namespace Sys2Proof.Machine

variable {s t u m : State} {a v n : Nat} {P : List Part} {L : List Fld}

namespace Touches

theorem setReply {resp sent} (hs : Touches P L m s) : Touches (P ++ [.resp, .sent]) L m { s with resp := resp, sent := sent } :=
  hs.set [.resp, .sent] rfl rfl rfl

theorem countWords {run first} : Touches [] [] s (s.countWords a n run first) := by
  have hamount : ∀ (t : State) (c : EvCtr) k, Touches [] [] t (t.takeFree.2.evcAdd k (if run then c.amountRun n t.takeFree.1 first
      else c.amountMore n t.takeFree.1)) := fun t _ _ => .of (by decide) ((refl t).takeFree.andThen evcAdd)
  exact .of (by decide) (branch (refl s).countN (branch (refl s) (foldl (refl s) fun t _ => branch (hamount t _ _) (refl t))))

theorem doorCancel : Touches [] [Reg.HOST_DOOR_STEP] s s.doorCancel := .of (by decide) (branch (refl s) (refl s).wr.count)

theorem hostAsk {write} : Touches [.arb] busFlds s (s.hostAsk write a n) := .of (by decide) (foldl (refl s) fun _ _ => busAsk)

/-- What the answer to a frame writes (R394). -/
def lastFlds : List Fld := [Reg.HOST_LAST_STATUS, Reg.HOST_LAST_OPC, Reg.HOST_LAST_ADDR]

theorem respond {f st data} : Touches [.resp, .sent] lastFlds s (s.respond f st data) := by
  have hlast : Touches [] lastFlds s ((s.wrs [(Reg.HOST_LAST_STATUS, HostStat.code st), (Reg.HOST_LAST_OPC, f.opc),
      (Reg.HOST_LAST_ADDR, f.addr)]).levelPulse 0xDF) := .of (by decide) ((refl s).wr.wr.wr.andThen levelPulse)
  exact .of (by decide) (branch hlast.setReply hlast.setReply)

end Touches

/-- The machine as a request with a correct CRC has arrived that is no second step of a door (R398). -/
def State.arrived (s : State) : State := (s.count 0xD0).doorCancel

theorem Touches.arrived : Touches [] [Reg.HOST_DOOR_STEP] s s.arrived := .of (by decide) ((Touches.refl s).count.andThen doorCancel)

/-- A write frame that is accepted without a reset is answered with OK. -/
theorem State.hostWrite_accepted {data : List Nat} {x : State} (hport : s.port = .opened)
    (hframe : (s.arrived.frameFinds a data.length).frameWrite a data = { s := x }) :
    s.hostWrite a data = x.respond { opc := 2, addr := a, len := data.length, words := data } .ok [] := by
  have harrived : (s.count 0xD0).doorCancel = s.arrived := rfl
  simp [State.hostWrite, State.hostFrame, State.frameGood, State.isSecond, State.frameAct, hport, harrived, hframe, State.countIf,
    State.frameReset]

theorem State.respond_status {f st data} : (s.respond f st data).rd Reg.HOST_LAST_STATUS = st.code := by
  have hreply : ∀ u : State, ∀ l, (u.reply l).rd Reg.HOST_LAST_STATUS = u.rd Reg.HOST_LAST_STATUS := by
    intro u l
    unfold State.reply
    split <;> rfl
  rw [State.respond, hreply, Touches.levelPulse.rd (by decide)]
  simp (disch := decide) only [State.wrs, State.rd_wr_ne, State.rd_wr_same]
  cases st <;> rfl

/-- The machine as one word of a write frame leaves it, with a coach whose PERIOD it changed (R69). -/
def State.wordDone (s : State) (a v : Nat) : State :=
  if (s.checkChan a).1 = 0x1040 then (s.wordApply a v).coachPeriodChange (s.checkChan a).2 (s.coachPeriod (s.checkChan a).2) else s.wordApply a v

/-- What a word of a write frame meets where it is accepted: no objection of its own, and a state that fits the rules about its register. -/
structure State.Takes (u : State) (a v : Nat) : Prop where
  addr : a < 0x10000
  noReset : a ≠ 0x0416
  noOwner : (u.checkChan a).1 ≠ 0x2002 ∧ (u.checkChan a).1 ≠ 0x2003
  stat : u.wordStat u a v = .ok
  fits : (u.wordApply a v).withUpdate.regOk (u.checkChan a).1 (u.checkChan a).2 = true

/-- The write frame as its one word has left it. -/
def Wr.one (u : State) (a v : Nat) : Wr := ({ s := u, bus := (u.hostBursts a 1).isEmpty = false } : Wr).word u a v

theorem Wr.one_eq : Wr.one u a v =
    { s := u.wordApply a v, bad := HostStat.ok.worst (u.wordStat u a v), regs := [u.checkChan a],
      coach := if (u.checkChan a).1 = 0x1040 then some ((u.checkChan a).2, u.coachPeriod (u.checkChan a).2) else none,
      refused := a == 0x4813 && (v % 4 == 1 || v % 4 == 2) && (u.hatchRange (v % 4 + 1)).2,
      rst := if a = 0x0416 then v % 4 else 0, bus := (u.hostBursts a 1).isEmpty = false, seq := 1 } := by
  simp [Wr.one, Wr.word, Wr.countBefore]

theorem Wr.one_stat (h : u.Takes a v) : (Wr.one u a v).stat u = .ok := by
  obtain ⟨-, -, ⟨h2, h3⟩, hstat, hfits⟩ := h
  simp [Wr.stat, Wr.fits, Wr.one_eq, hstat, hfits, h2, h3, HostStat.worst]

/-- A frame of one word that is taken leaves the word's own machine, but for its request for the coach bus and its counters. -/
theorem State.frameWrite_one (hu : u = s.lockRead a [v]) (h : u.Takes a v) :
    ∃ x, s.frameWrite a [v] = { s := x } ∧ Touches [.arb] Touches.busFlds (u.wordDone a v) x := by
  have hone : ({ s := u, bus := (u.hostBursts a 1).isEmpty = false } : Wr).words u a [v] = Wr.one u a v := rfl
  have hlen : ¬ 0x10000 < a + [v].length := Nat.not_lt.mpr h.addr
  have hstat : (({ s := u, bus := (u.hostBursts a [v].length).isEmpty = false } : Wr).words u a [v]).stat u = .ok := Wr.one_stat h
  obtain ⟨x, hx⟩ : ∃ x, x = ((u.wordDone a v).hostAsk true a 1).countWords 0xD5 1 (!decide ((u.hostBursts a 1).isEmpty = false)) true := ⟨_, rfl⟩
  refine ⟨x, ?_, hx ▸ .of (by decide) (Touches.hostAsk.andThen Touches.countWords)⟩
  rw [State.frameWrite, if_neg (by simp), if_neg hlen, ← hu]
  refine (if_pos hstat).trans ?_
  rw [List.length_singleton, hone, Wr.one_eq, hx, State.wordDone]
  by_cases hp : (u.checkChan a).1 = 0x1040 <;> simp [hp, h.noReset]

/-- A frame of one word at an open port that is taken is answered with OK, and leaves the word's own machine but for its answer, its request
for the coach bus and its counters. -/
theorem hostWrite_one (hport : s.port = .opened) (hfinds : a ≠ 0x0028 ∧ a ≠ 0x3C09) (hu : u = s.arrived.lockRead a [v]) (h : u.Takes a v) :
    ∃ t, fin (s.hostWrite a [v]) = .next t ∧ t.rd Reg.HOST_LAST_STATUS = 0 ∧
      Touches [.arb, .resp, .sent] (Touches.busFlds ++ Touches.lastFlds) (u.wordDone a v) t := by
  obtain ⟨x, hx, htouch⟩ := State.frameWrite_one hu h
  have hfound : s.arrived.frameFinds a [v].length = s.arrived := by
    have h1 : ∀ k, a ≠ k → (decide (a ≤ k) && decide (k < a + [v].length)) = false := by
      intro k hk
      simp
      omega
    simp only [State.frameFinds, h1 _ hfinds.1, h1 _ hfinds.2]
    rfl
  refine exists_fin ?_
  rw [State.hostWrite_accepted hport (hfound.symm ▸ hx), State.evcEdge_rd]
  exact ⟨State.respond_status, (htouch.andThen .respond).evcEdge⟩

end Sys2Proof.Machine
end

section
/-! What a word does beside the coaches' window: the plan swap's request, the clear of a longest wait, an input's filter settings. -/

namespace Sys2Proof.Machine

variable {s t u : State} {a v n count : Nat}

theorem State.lockRead_outside {data : List Nat} (h : a + data.length ≤ 0x1040 ∨ 0x1080 ≤ a) : s.lockRead a data = s := by
  have hnone : coachWordsAt a data.length = [] := by
    rw [coachWordsAt, List.filterMap_eq_nil_iff]
    intro k hk
    have : k < data.length := List.mem_range.mp hk
    exact if_neg (by omega)
  simp [State.lockRead, hnone]

/-- R392's final check looks at the register itself, or at the coach of the window. -/
theorem State.checkChan_fst : (s.checkChan a).1 = if 0x1040 ≤ a ∧ a < 0x1080 then 0x1040 else a := by
  unfold State.checkChan
  split
  · rfl
  · split <;> rfl

theorem State.wordDone_outside (h : a < 0x1040 ∨ 0x1080 ≤ a) : s.wordDone a v = s.wordApply a v :=
  if_neg (by rw [State.checkChan_fst]; split <;> omega)

theorem State.withUpdate_free (h : s.rgnHolds = false) : s.withUpdate = s := by
  simp only [State.rgnHolds, Bool.or_eq_false_iff, beq_eq_false_iff_ne] at h
  exact if_neg fun hc => hc.1.elim h.1 h.2

theorem State.arrived_rgnHolds : s.arrived.rgnHolds = s.rgnHolds := by
  simp only [State.rgnHolds, Touches.arrived.rd (f := Reg.RGN_CTRL_STATE) (by decide)]

/-! REQ of the plan swap (R126, R130). -/

/-- The word that requests a swap to so many seats. -/
def swapWord (count : Nat) : Nat := 1 + count % 128 * 65536

theorem State.wordApply_swap (h : count ≤ 64) : s.wordApply 0x0801 (swapWord count) =
    (s.wr Reg.ARB_SWAP_SHADOW_COUNT count).wrs [(Reg.ARB_SWAP_REQ, 1), (Reg.ARB_STATUS_SWAP_PEND, 1)] := by
  have hcount : bits (swapWord count) 16 7 = count := by simp only [bits, swapWord]; omega
  have hreq : bit (swapWord count) 0 = true := by simp [bit, swapWord]; omega
  simp [State.wordApply, State.wordStore, State.ownWrite, State.hookLow, hcount, hreq]

theorem State.takes_swap (hfree : u.rgnHolds = false) (hdoor : bit (u.rd Reg.HOST_DOOR_OPEN) 1 = true) (h : count ≤ 64) :
    u.Takes 0x0801 (swapWord count) := by
  refine ⟨by decide, by decide, by rw [State.checkChan_fst]; decide, ?_, ?_⟩
  · simp [State.wordStat, State.doorBad, doorOf, hdoor, State.lockBad, State.rgnBad, hfree, State.busyBad, busAddr, hatchReg, State.rangeBad,
      selectMax, State.rangeLow]
  · have hw : Touches [] [Reg.ARB_SWAP_SHADOW_COUNT, Reg.ARB_SWAP_REQ, Reg.ARB_STATUS_SWAP_PEND] u (u.wordApply 0x0801 (swapWord count)) := by
      rw [State.wordApply_swap h]
      exact .of (by decide) (Touches.refl u).wr.wr.wr
    have hfree' : (u.wordApply 0x0801 (swapWord count)).rgnHolds = false := by
      simpa only [State.rgnHolds, hw.rd (f := Reg.RGN_CTRL_STATE) (by decide)] using hfree
    have hcount : (u.wordApply 0x0801 (swapWord count)).rd Reg.ARB_SWAP_SHADOW_COUNT = count := by
      rw [State.wordApply_swap h]
      simp (disch := decide) only [State.wrs, State.rd_wr_ne, State.rd_wr_same]
      exact Nat.mod_eq_of_lt (lt_of_le_of_lt h (by decide))
    rw [State.withUpdate_free hfree', State.checkChan_fst]
    simp [State.regOk, State.arbOk, hcount, h]

theorem arbSwapReq_taken (hport : s.port = .opened) (hfree : s.rgnHolds = false) (hdoor : bit (s.rd Reg.HOST_DOOR_OPEN) 1 = true)
    (hcount : count ≤ 64) : ∃ t, exec (.arbSwapReq count) s = .next t ∧ t.rd Reg.HOST_LAST_STATUS = 0 ∧ t.rd Reg.ARB_SWAP_REQ = 1 ∧
      t.rd Reg.ARB_STATUS_SWAP_PEND = 1 ∧ t.rd Reg.ARB_SWAP_SHADOW_COUNT = count := by
  have htakes : s.arrived.Takes 0x0801 (swapWord count) :=
    State.takes_swap (State.arrived_rgnHolds.trans hfree) (by rwa [Touches.arrived.rd (by decide)]) hcount
  obtain ⟨t, ht, hstatus, htouch⟩ := hostWrite_one hport (by decide) (State.lockRead_outside (by simp)).symm htakes
  rw [State.wordDone_outside (by decide), State.wordApply_swap hcount] at htouch
  refine ⟨t, ht, hstatus, ?_⟩
  rw [htouch.rd (by decide), htouch.rd (by decide), htouch.rd (by decide)]
  simp (disch := decide) only [State.wrs, State.rd_wr_ne, State.rd_wr_same]
  exact ⟨rfl, rfl, Nat.mod_eq_of_lt (lt_of_le_of_lt hcount (by decide))⟩

/-! CLR of a longest wait (R130). -/

theorem State.wordApply_wmaxClr {r : Fin 16} : s.wordApply 0x0808 (r.val + 256) = (s.wr Reg.ARB_WSEL_SEL r.val).wrAt Hid.wmax r.val 0 := by
  have hfields : Reg.fieldsAt 0x0808 = [Reg.ARB_WSEL_SEL, Reg.ARB_WSEL_CLR] := by decide
  have hsel : bits (r.val + 256) 0 4 = r.val := by simp only [bits]; omega
  have hlive : (r.val + 256) &&& 0xFFFFFFFF = r.val + 256 := by rw [show 0xFFFFFFFF = 2 ^ 32 - 1 from rfl, Nat.and_two_pow_sub_one_eq_mod]; omega
  have hclr : bit (r.val + 256) 8 = true := by simp only [bit]; simp; omega
  have hstore : s.wordStore 0x0808 (r.val + 256) = s.wr Reg.ARB_WSEL_SEL r.val := by
    simp [State.wordStore, State.ownWrite, hfields, State.each, State.fieldWrite, State.liveBits, hlive]
    simp [Reg.ARB_WSEL_SEL, Reg.ARB_WSEL_CLR, Fld.chan, hsel, State.wr]
  have hrd : (s.wr Reg.ARB_WSEL_SEL r.val).rd Reg.ARB_WSEL_SEL = r.val := (State.rd_wr_same _ _ _).trans (Nat.mod_eq_of_lt r.isLt)
  simp [State.wordApply, hstore, State.hookLow, hclr, hrd]

theorem State.takes_wmaxClr {r : Fin 16} : u.Takes 0x0808 (r.val + 256) := by
  have hfields : Reg.fieldsAt 0x0808 = [Reg.ARB_WSEL_SEL, Reg.ARB_WSEL_CLR] := by decide
  have hsel : bits (r.val + 256) 0 4 < 16 := Nat.mod_lt _ (by decide)
  refine ⟨by decide, by decide, by rw [State.checkChan_fst]; decide, ?_, ?_⟩
  · simp [State.wordStat, State.doorBad, doorOf, State.lockBad, State.rgnBad, regionAddr, State.busyBad, busAddr, hatchReg, State.rangeBad,
      selectMax, State.rangeLow, hfields, Reg.ARB_WSEL_SEL, Reg.ARB_WSEL_CLR]
    omega
  · rw [State.checkChan_fst]
    simp [State.regOk, State.arbOk]

theorem arbWmaxClr_clears {r : Fin 16} (hport : s.port = .opened) : ∃ t, exec (.arbWmaxClr r) s = .next t ∧ t.rd Reg.HOST_LAST_STATUS = 0 ∧
    t.rdAt Hid.wmax r.val = 0 ∧ ∀ k : Nat, k < 16 → k ≠ r.val → t.rdAt Hid.wmax k = s.rdAt Hid.wmax k := by
  obtain ⟨t, ht, hstatus, htouch⟩ := hostWrite_one hport (by decide) (State.lockRead_outside (by simp)).symm (State.takes_wmaxClr (r := r))
  rw [State.wordDone_outside (by decide), State.wordApply_wmaxClr] at htouch
  refine ⟨t, ht, hstatus, ?_, fun k _ hk => ?_⟩
  · rw [htouch.rdAt (by decide), State.rdAt_wrAt_same]
    rfl
  · rw [htouch.rdAt (by decide), State.rdAt_wrAt_ne _ _ _ _ _ _ (fun h => hk h.2), (Touches.refl _).wr.rdAt (by decide),
      Touches.arrived.rdAt (by decide)]

/-! The filter settings of the selected input (R155, R157, R164). -/

/-- The machine with the filter settings of an input that a word names. -/
def State.filterStored (s : State) (v : Nat) : State :=
  s.wrsAt (s.rd Reg.UI_SEL_SEL) [(Reg.UI_FILT_OSR, bits v 0 3), (Reg.UI_FILT_IIR_SHIFT, bits v 4 4), (Reg.UI_FILT_LR, bits v 8 2),
    (Reg.UI_FILT_PACE, bits v 16 8)]

theorem bits_and_word {lo w : Nat} (h : lo + w ≤ 32) : bits (v &&& 0xFFFFFFFF) lo w = bits v lo w := by
  apply Nat.eq_of_testBit_eq
  intro i
  simp only [bits, Nat.testBit_mod_two_pow, Nat.testBit_div_two_pow, Nat.testBit_and, show 0xFFFFFFFF = 2 ^ 32 - 1 from rfl,
    Nat.testBit_two_pow_sub_one]
  by_cases hi : i < w <;> simp [hi]
  intro _
  omega

theorem fieldsAt_filter : Reg.fieldsAt 0x2402 = [Reg.UI_FILT_OSR, Reg.UI_FILT_IIR_SHIFT, Reg.UI_FILT_LR, Reg.UI_FILT_PACE] := by decide

theorem Touches.settingsChanged {before : State} : Touches [] [Reg.UI_STAT_SETTLE_LEFT, Reg.UI_STAT_RELOAD] s (s.settingsChanged before n) :=
  .of (by decide) ((Touches.branch (Touches.refl s).wrAt (Touches.refl s)).whenB fun t => (Touches.refl t).wrAt)

theorem State.wordStore_filter : s.wordStore 0x2402 v = s.filterStored v := by
  have hsel : s.selected 0x2400 = s.rd Reg.UI_SEL_SEL := rfl
  simp [State.wordStore, State.ownWrite, fieldsAt_filter, State.each, State.fieldWrite, State.liveBits]
  simp [Reg.UI_FILT_OSR, Reg.UI_FILT_IIR_SHIFT, Reg.UI_FILT_LR, Reg.UI_FILT_PACE, Fld.chan, hsel, bits_and_word, State.filterStored, State.wrsAt]

/-- Beside the settings themselves a write of them marks the input's results (R155, R157). -/
theorem Touches.wordApply_filter : Touches [.convs] [Reg.UI_STAT_SETTLE_LEFT, Reg.UI_STAT_RELOAD] (s.filterStored v) (s.wordApply 0x2402 v) := by
  have h : s.wordApply 0x2402 v =
      ((s.filterStored v).settingsChanged s ((s.filterStored v).rd Reg.UI_SEL_SEL)).wakeConvs := by
    simp [State.wordApply, State.wordStore_filter, State.hookMid]
  rw [h]
  exact .of (by decide) (settingsChanged.andThen wakeConvs)

theorem State.filterStored_reads : (s.filterStored v).rdAt Reg.UI_FILT_OSR (s.rd Reg.UI_SEL_SEL) = bits v 0 3 ∧
    (s.filterStored v).rdAt Reg.UI_FILT_PACE (s.rd Reg.UI_SEL_SEL) = bits v 16 8 ∧
    (s.filterStored v).rdAt Reg.UI_FILT_LR (s.rd Reg.UI_SEL_SEL) = bits v 8 2 ∧
    (s.filterStored v).rdAt Reg.UI_FILT_IIR_SHIFT (s.rd Reg.UI_SEL_SEL) = bits v 4 4 := by
  simp (disch := decide) only [State.filterStored, State.wrsAt, State.rdAt_wrAt_id, State.rdAt_wrAt_same]
  exact ⟨Nat.mod_mod _ _, Nat.mod_mod _ _, Nat.mod_mod _ _, Nat.mod_mod _ _⟩

theorem State.takes_filter (hfree : u.rgnHolds = false) (hosr : bits v 0 3 ≤ 4) (hpace : bits v 16 8 ≤ 16) (hlr : bits v 8 2 ≤ 2) :
    u.Takes 0x2402 v := by
  have hchan : u.checkChan 0x2402 = (0x2402, u.rd Reg.UI_SEL_SEL) := by
    simp [State.checkChan, fieldsAt_filter, Reg.UI_FILT_OSR, Fld.chan]
    rfl
  refine ⟨by decide, by decide, by rw [State.checkChan_fst]; decide, ?_, ?_⟩
  · simp [State.wordStat, State.doorBad, doorOf, State.lockBad, State.rgnBad, hfree, State.busyBad, busAddr, hatchReg, State.rangeBad,
      selectMax, State.rangeHigh]
  · have hfree' : (u.wordApply 0x2402 v).rgnHolds = false := by
      have hw : Touches [.convs] _ u (u.wordApply 0x2402 v) := (Touches.refl u).wrAt.wrAt.wrAt.wrAt.andThen .wordApply_filter
      simpa only [State.rgnHolds, hw.rd (f := Reg.RGN_CTRL_STATE) (by decide)] using hfree
    obtain ⟨hosr', hpace', hlr', -⟩ := State.filterStored_reads (s := u) (v := v)
    rw [State.withUpdate_free hfree', hchan]
    simp [State.regOk, State.uiOk, Touches.wordApply_filter.rdAt (f := Reg.UI_FILT_OSR) (by decide),
      Touches.wordApply_filter.rdAt (f := Reg.UI_FILT_LR) (by decide), Touches.wordApply_filter.rdAt (f := Reg.UI_FILT_PACE) (by decide),
      hosr', hpace', hlr', hosr, hpace]
    omega

theorem uiSettingsWrite_filter (hport : s.port = .opened) (hfree : s.rgnHolds = false) (hosr : bits v 0 3 ≤ 4) (hpace : bits v 16 8 ≤ 16)
    (hlr : bits v 8 2 ≤ 2) : ∃ t, exec (.uiSettingsWrite 1 v) s = .next t ∧ t.rd Reg.HOST_LAST_STATUS = 0 ∧
      t.rdAt Reg.UI_FILT_OSR (s.rd Reg.UI_SEL_SEL) = bits v 0 3 ∧ t.rdAt Reg.UI_FILT_PACE (s.rd Reg.UI_SEL_SEL) = bits v 16 8 ∧
      t.rdAt Reg.UI_FILT_LR (s.rd Reg.UI_SEL_SEL) = bits v 8 2 ∧ t.rdAt Reg.UI_FILT_IIR_SHIFT (s.rd Reg.UI_SEL_SEL) = bits v 4 4 := by
  have htakes : s.arrived.Takes 0x2402 v := State.takes_filter (State.arrived_rgnHolds.trans hfree) hosr hpace hlr
  obtain ⟨t, ht, hstatus, htouch⟩ := hostWrite_one hport (by decide) (State.lockRead_outside (.inr (by decide))).symm htakes
  rw [State.wordDone_outside (by decide)] at htouch
  have hstored := Touches.wordApply_filter.andThen htouch
  refine ⟨t, ht, hstatus, ?_⟩
  rw [hstored.rdAt (by decide), hstored.rdAt (by decide), hstored.rdAt (by decide), hstored.rdAt (by decide),
    ← Touches.arrived.rd (f := Reg.UI_SEL_SEL) (by decide)]
  exact State.filterStored_reads

end Sys2Proof.Machine
end

section
/-! Words of the coach store as a read returns them (R100, R102): what reads with check bits and writes do to them, and the host's write of a
word of the selected coach (R33, R44, R45, R65). -/

namespace Sys2Proof.Machine

variable {s t u : State} {c d k w v : Nat}

/-- A search finds the same where only entries are left out that it does not look for. -/
theorem find?_filter_kept {α : Type} {l : List α} {p q : α → Bool} (h : ∀ a ∈ l, q a = true → p a = true) : (l.filter p).find? q = l.find? q := by
  induction l with
  | nil => rfl
  | cons a l ih =>
    have ihl := ih fun b hb => h b (List.mem_cons_of_mem _ hb)
    have ha := h a List.mem_cons_self
    cases hq : q a <;> cases hp : p a <;> simp_all

/-- An error that stays is among the upsets of its word. -/
def Upset.spoils (c w : Nat) (x : Upset) : Bool := x.coach == c && x.word == w && decide (2 ≤ popCount 39 x.mask)

theorem State.cw_eq : s.cw c w = ((s.upsets.find? (Upset.spoils c w)).elim (s.cell c w) fun x => Nat.xor (s.cell c w) (x.mask % 2 ^ 32)) := by
  unfold State.cw
  rw [show (fun x : Upset => x.coach == c && x.word == w && decide (2 ≤ popCount 39 x.mask)) = Upset.spoils c w from rfl]
  cases s.upsets.find? (Upset.spoils c w) <;> rfl

theorem State.unreadable_eq : s.unreadable c w = s.upsets.any (Upset.spoils c w) := rfl

/-- What leaves the words as last written, and the errors that spoil them, leaves a read of them. -/
theorem State.cw_congr (hcell : t.cell d k = s.cell d k) (hfind : t.upsets.find? (Upset.spoils d k) = s.upsets.find? (Upset.spoils d k)) :
    t.cw d k = s.cw d k := by rw [State.cw_eq, State.cw_eq, hcell, hfind]

/-- Leaving out the errors of a word that can be read leaves the search for those that spoil a word. -/
theorem State.freshen_find (h : s.unreadable c w = false ∨ ¬(d = c ∧ k = w)) :
    (s.freshen c w).upsets.find? (Upset.spoils d k) = s.upsets.find? (Upset.spoils d k) := by
  refine find?_filter_kept fun x hx hspoils => ?_
  by_contra hout
  have hin : x.coach = c ∧ x.word = w := by simpa using hout
  have hof : x.coach = d ∧ x.word = k := by
    simp only [Upset.spoils, Bool.and_eq_true, beq_iff_eq] at hspoils
    exact hspoils.1
  rcases h with h | h
  · rw [State.unreadable_eq, List.any_eq_false] at h
    exact h x hx (by rw [← hin.1, ← hin.2, hof.1, hof.2]; exact hspoils)
  · exact h ⟨hof.1.symm.trans hin.1, hof.2.symm.trans hin.2⟩

theorem State.unreadable_eq_find : s.unreadable c w = (s.upsets.find? (Upset.spoils c w)).isSome := by
  rw [State.unreadable_eq, Bool.eq_iff_iff, List.find?_isSome, List.any_eq_true]

theorem State.coachLocked_eq : s.coachLocked c = ((if s.unreadable c 44 then 3 else stState (s.cw c 44)) != 0 || stPend (s.cw c 44) == 2) := rfl

/-- The words of every coach stand as they were, with the errors that spoil them. -/
def State.SameWords (s t : State) : Prop := ∀ d k : Nat, k < 64 →
  t.cell d k = s.cell d k ∧ t.upsets.find? (Upset.spoils d k) = s.upsets.find? (Upset.spoils d k)

namespace State.SameWords

theorem refl (s : State) : s.SameWords s := fun _ _ _ => ⟨rfl, rfl⟩

theorem trans (h : s.SameWords t) (g : t.SameWords u) : s.SameWords u :=
  fun d k hk => ⟨(g d k hk).1.trans (h d k hk).1, (g d k hk).2.trans (h d k hk).2⟩

theorem of_touches {P : List Part} {L : List Fld} (h : Touches P L s t) (hP : Part.upsets ∉ P) (hL : ∀ w < 64, (Reg.coachW w).id ∉ L.map Fld.id) :
    s.SameWords t := by
  have hup : t.upsets = s.upsets := h.parts .upsets hP
  exact fun d k hk => ⟨h.rdAt (hL k hk) d, by rw [hup]⟩

theorem cw (h : s.SameWords t) (hk : k < 64) : t.cw d k = s.cw d k := State.cw_congr (h d k hk).1 (h d k hk).2

theorem unreadable (h : s.SameWords t) (hk : k < 64) : t.unreadable d k = s.unreadable d k := by
  rw [State.unreadable_eq_find, State.unreadable_eq_find, (h d k hk).2]

theorem coachLocked (h : s.SameWords t) : t.coachLocked c = s.coachLocked c := by
  rw [State.coachLocked_eq, State.coachLocked_eq, h.cw (by decide), h.unreadable (by decide)]

theorem freshen (h : s.unreadable c w = false) : s.SameWords (s.freshen c w) := fun _ _ _ => ⟨rfl, State.freshen_find (.inl h)⟩

/-- A read with check bits mends a single-bit error only, and records any other. -/
theorem coachGet : s.SameWords (s.coachGet c w) := by
  unfold State.coachGet State.ceFix
  split
  · exact of_touches Touches.noteDue (by decide) (by decide)
  · split
    · have hnote : Touches [] [Reg.SUPV_STAT_CE, Reg.SUPV_CE_ADDR_COACH, Reg.SUPV_CE_ADDR_WORD, Reg.SUPV_CE_ADDR_SYNDROME] s (s.noteCe c w) :=
        .of (by decide) (Touches.refl s).wr.wr.wr.wr.count
      have hup : (s.noteCe c w).upsets = s.upsets := hnote.parts .upsets (by decide)
      refine (of_touches hnote (by decide) (by decide)).trans (freshen ?_)
      rwa [State.unreadable_eq, hup, ← State.unreadable_eq, ← Bool.not_eq_true]
    · exact refl s

end State.SameWords

theorem coachW_id_inj (h : (Reg.coachW k).id = (Reg.coachW w).id) : k = w := by
  have hcode : ∀ x : Cls, x.code < 4 := fun x => by cases x <;> decide
  have hk := hcode (Reg.coachCls k)
  have hw := hcode (Reg.coachCls w)
  simp only [Fld.id, Reg.coachW] at h
  omega

/-- A write leaves every other word of the coach store, with its errors. -/
theorem State.wrCoach_cw_ne (h : ¬(d = c ∧ k = w)) : (s.wrCoach c w v).cw d k = s.cw d k :=
  State.cw_congr (State.rdAt_wrAt_ne s _ _ c d v fun hx => h ⟨hx.2, coachW_id_inj hx.1⟩)
    (State.freshen_find (s := s.wrAt (Reg.coachW w) c v) (.inr h))

theorem State.wrCoach_cell_same : (s.wrCoach c w v).cell c w = v % 2 ^ 32 := State.rdAt_wrAt_same s (Reg.coachW w) c v

/-- A word just written has fresh check bits. -/
theorem State.wrCoach_cw_same : (s.wrCoach c w v).cw c w = v % 2 ^ 32 := by
  have hnone : (s.wrCoach c w v).upsets.find? (Upset.spoils c w) = none := by
    rw [List.find?_eq_none]
    intro x hx
    have hout : x.coach = c → ¬x.word = w := by simpa [imp_iff_not_or] using (List.mem_filter.mp hx).2
    simpa [Upset.spoils] using fun h1 h2 => absurd h2 (hout h1)
  rw [State.cw_eq, hnone]
  exact State.wrCoach_cell_same

/-- The same write in two machines whose words read alike. -/
theorem State.wrCoach_cw_congr (h : t.cw d k = s.cw d k) : (t.wrCoach c w v).cw d k = (s.wrCoach c w v).cw d k := by
  by_cases hk : d = c ∧ k = w
  · obtain ⟨rfl, rfl⟩ := hk
    rw [State.wrCoach_cw_same, State.wrCoach_cw_same]
  · rw [State.wrCoach_cw_ne hk, State.wrCoach_cw_ne hk, h]

/-- The rules about a coach's words speak of them as they read. -/
theorem State.coachOk_congr (h : ∀ d k, k < 64 → t.cw d k = s.cw d k) : t.coachOk c = s.coachOk c := by
  have hq : ∀ d k, k < 64 → t.cq d k = s.cq d k := fun d k hk => congrArg (toI 32) (h d k hk)
  have hfour : upTo 4 = [0, 1, 2, 3] := rfl
  have hbind : ∀ d k, k < 4 → t.outBind d k = s.outBind d k := fun d k hk => by simp only [State.outBind, h d (6 + k / 2) (by omega)]
  have htargets : ∀ d, t.targets d = s.targets d := fun d => by
    simp only [State.targets, hfour, List.map_cons, List.map_nil, hbind d 0 (by decide), hbind d 1 (by decide), hbind d 2 (by decide),
      hbind d 3 (by decide)]
  have hwords : t.coachWordsOk c = s.coachWordsOk c := by
    simp (disch := decide) only [State.coachWordsOk, hfour, List.all_cons, List.all_nil, h, hq, hbind]
  simp only [State.coachOk, hwords, State.soleTargets, htargets]

/-! PERIOD (R32, R69). -/

/-- Beginning or ending a coach's evaluation leaves its PERIOD and PHASE. -/
theorem State.coachPeriodChange_cw {was : Nat} : (s.coachPeriodChange c was).cw c 1 = s.cw c 1 := by
  have hzero : ∀ (l : List Nat) (u : State), 1 ∉ l → (u.each l fun t w => t.wrCoach c w 0).cw c 1 = u.cw c 1 := by
    intro l
    induction l with
    | nil => exact fun _ _ => rfl
    | cons a l ih =>
      intro u h
      exact (ih _ fun hm => h (List.mem_cons_of_mem _ hm)).trans (State.wrCoach_cw_ne fun hx => h (hx.2 ▸ List.mem_cons_self))
  unfold State.coachPeriodChange
  split
  · unfold State.coachEnable
    extract_lets s1 x y
    have hy : y.cw c 1 = s.cw c 1 := by
      rw [State.wrCoach_cw_ne (by simp), State.wrCoach_cw_ne (by simp)]
      exact hzero _ s1 (by decide)
    exact ((Touches.refl y).wrAt.wrAt.wrAt.wrAt.cw (by decide) (by decide)).trans hy
  · split
    · exact State.wrCoach_cw_ne (by simp)
    · rfl

end Sys2Proof.Machine
end

section
/-! The host's write of a word of the selected coach (R33, R44, R45, R65). -/

namespace Sys2Proof.Machine

variable {s t u : State} {v a : Nat} {w : Fin 64} {data : List Nat}

theorem State.SameWords.each {l : List Nat} {f : State → Nat → State} (hf : ∀ t k, State.SameWords t (f t k)) : s.SameWords (s.each l f) := by
  induction l generalizing s with
  | nil => exact .refl s
  | cons k l ih => exact (hf s k).trans ih

/-- What the test of the lock reads (R65). -/
theorem State.SameWords.lockRead : s.SameWords (s.lockRead a data) := by
  unfold State.lockRead
  extract_lets
  split
  · exact .refl s
  · exact coachGet.trans (each fun _ _ => coachGet)

theorem Touches.lockRead : Touches [.upsets] eccFlds s (s.lockRead a data) :=
  .of (by decide) (branch (refl s) (coachGet.each fun _ _ => coachGet))

/-- An address of the coach window is none of the registers below or above it. -/
theorem window_ne (h : 0x1040 ≤ a ∧ a < 0x1080) (k : Nat) (hk : k < 0x1040 ∨ 0x1080 ≤ k) : ¬ a = k := by omega

theorem window_not_le (h : 0x1040 ≤ a ∧ a < 0x1080) (k : Nat) (hk : k < 0x1040) : ¬ a ≤ k := by omega

theorem window_not_ge (h : 0x1040 ≤ a ∧ a < 0x1080) (k : Nat) (hk : 0x1080 ≤ k) : ¬ k ≤ a := by omega

theorem State.wordApply_coach (hacc : Reg.coachAcc w = .rw ∨ Reg.coachAcc w = .rwl) :
    u.wordApply (0x1040 + w) v = u.wrCoach (u.rd Reg.COACH_SEL_SEL) w (v &&& coachMask w) := by
  obtain ⟨a, ha⟩ : ∃ a, a = 0x1040 + w.val := ⟨_, rfl⟩
  have hin : 0x1040 ≤ a ∧ a < 0x1080 := by omega
  have hw : a - 0x1040 = w.val := by omega
  have hlow : a < 0x2000 := by omega
  have hstore : u.wordStore a v = u.wrCoach (u.rd Reg.COACH_SEL_SEL) w (v &&& coachMask w) := by
    rw [State.wordStore, if_pos hin, hw, State.coachWrite]
    rcases hacc with h | h <;> simp only [h]
  rw [← ha, State.wordApply, if_pos hlow, hstore]
  simp [State.hookLow, window_ne hin, window_not_le hin]

theorem State.takes_coachWord (hfree : u.rgnHolds = false) (hbus : u.ownsBus 11 = false) (hacc : Reg.coachAcc w = .rw ∨ Reg.coachAcc w = .rwl)
    (hlock : Reg.coachAcc w = .rwl → u.coachLocked (u.rd Reg.COACH_SEL_SEL) = false)
    (hok : (u.wrCoach (u.rd Reg.COACH_SEL_SEL) w (v &&& coachMask w)).coachOk (u.rd Reg.COACH_SEL_SEL) = true) : u.Takes (0x1040 + w) v := by
  obtain ⟨a, ha⟩ : ∃ a, a = 0x1040 + w.val := ⟨_, rfl⟩
  have hin : 0x1040 ≤ a ∧ a < 0x1080 := by omega
  have hw : a - 0x1040 = w.val := by omega
  have hlow : a < 0x2000 := by omega
  have hchan : u.checkChan a = (0x1040, u.rd Reg.COACH_SEL_SEL) := if_pos hin
  have hunlocked : (Reg.coachAcc w == .rwl && u.coachLocked (u.rd Reg.COACH_SEL_SEL)) = false := by
    rcases hacc with h | h
    · rw [h]
      rfl
    · rw [hlock h, Bool.and_false]
  rw [← ha]
  refine ⟨by omega, window_ne hin _ (by decide), by rw [State.checkChan_fst, if_pos hin]; decide, ?_, ?_⟩
  · have hlocked : u.lockBad a v = false := by
      simp only [State.lockBad, hw, hin, decide_true, Bool.true_and, hunlocked, Bool.false_and]
    simp [State.wordStat, State.doorBad, doorOf, hlocked, State.rgnBad, hfree, State.busyBad, busAddr, hin, hbus, State.rangeBad, selectMax,
      State.rangeLow, window_ne hin, window_not_le hin, window_not_ge hin, hlow]
  · have hfree' : (u.wrCoach (u.rd Reg.COACH_SEL_SEL) w (v &&& coachMask w)).rgnHolds = false := by
      have hwr : Touches [.upsets] [Reg.coachW w] u (u.wrCoach (u.rd Reg.COACH_SEL_SEL) w (v &&& coachMask w)) := (Touches.refl u).wrAt.setUpsets
      have hid : ∀ w : Fin 64, Reg.RGN_CTRL_STATE.id ∉ [Reg.coachW w].map Fld.id := by decide
      simpa only [State.rgnHolds, hwr.rd (hid w)] using hfree
    rw [hchan, ha, State.wordApply_coach hacc, State.withUpdate_free hfree']
    exact hok

/-- The written word stands: only a write of word 1 can change PERIOD, and the coach that this begins or ends (R69) keeps word 1. -/
theorem State.wordDone_coach (hacc : Reg.coachAcc w = .rw ∨ Reg.coachAcc w = .rwl) :
    (u.wordDone (0x1040 + w) v).cw (u.rd Reg.COACH_SEL_SEL) w = (v &&& coachMask w) % 2 ^ 32 := by
  obtain ⟨c, hc⟩ : ∃ c, c = u.rd Reg.COACH_SEL_SEL := ⟨_, rfl⟩
  have hchan : u.checkChan (0x1040 + w) = (0x1040, c) := hc ▸ if_pos (by omega)
  rw [State.wordDone, hchan, if_pos rfl, State.wordApply_coach hacc, ← hc]
  by_cases hw : w.val = 1
  · rw [hw, State.coachPeriodChange_cw, State.wrCoach_cw_same]
  · have hperiod : (u.wrCoach c w (v &&& coachMask w)).coachPeriod c = u.coachPeriod c :=
      congrArg (bits · 0 16) (State.rdAt_wrAt_ne u _ _ c c _ fun h => hw (coachW_id_inj h.1).symm)
    have hkept : (u.wrCoach c w (v &&& coachMask w)).coachPeriodChange c (u.coachPeriod c) = u.wrCoach c w (v &&& coachMask w) := by
      rw [State.coachPeriodChange, hperiod, if_neg (by simp), if_neg (fun h => h.1 h.2)]
    rw [hkept, State.wrCoach_cw_same]

theorem coachWindowWrite_word (hport : s.port = .opened) (hfree : s.rgnHolds = false) (hbus : s.ownsBus 11 = false)
    (hacc : Reg.coachAcc w = .rw ∨ Reg.coachAcc w = .rwl) (hlock : Reg.coachAcc w = .rwl → s.coachLocked (s.rd Reg.COACH_SEL_SEL) = false)
    (hok : (s.wrCoach (s.rd Reg.COACH_SEL_SEL) w (v &&& coachMask w)).coachOk (s.rd Reg.COACH_SEL_SEL) = true) :
    ∃ t, exec (.coachWindowWrite w [v]) s = .next t ∧ t.rd Reg.HOST_LAST_STATUS = 0 ∧
      t.cw (s.rd Reg.COACH_SEL_SEL) w = (v &&& coachMask w) % 2 ^ 32 := by
  obtain ⟨u, hu⟩ : ∃ u, u = s.arrived.lockRead (0x1040 + w) [v] := ⟨_, rfl⟩
  have htouch : Touches [.upsets] (Reg.HOST_DOOR_STEP :: Touches.eccFlds) s u := hu ▸ .of (by decide) (Touches.arrived.andThen .lockRead)
  have hsame : s.SameWords u := hu ▸ (State.SameWords.of_touches Touches.arrived (by decide) (by decide)).trans .lockRead
  have hsel : u.rd Reg.COACH_SEL_SEL = s.rd Reg.COACH_SEL_SEL := htouch.rd (by decide)
  have harb : u.arb = s.arb := htouch.parts .arb (by decide)
  have htakes : u.Takes (0x1040 + w) v := by
    refine State.takes_coachWord ?_ ?_ hacc (fun h => ?_) ?_
    · simpa only [State.rgnHolds, htouch.rd (f := Reg.RGN_CTRL_STATE) (by decide)] using hfree
    · rwa [State.ownsBus, harb]
    · rw [hsel, hsame.coachLocked]
      exact hlock h
    · rw [hsel, State.coachOk_congr (s := s.wrCoach (s.rd Reg.COACH_SEL_SEL) w (v &&& coachMask w))
        fun d k hk => State.wrCoach_cw_congr (hsame.cw hk)]
      exact hok
  obtain ⟨t, ht, hstatus, hdone⟩ := hostWrite_one hport ⟨by omega, by omega⟩ hu htakes
  refine ⟨t, ht, hstatus, ?_⟩
  have hid : ∀ w : Fin 64, (Reg.coachW w).id ∉ (Touches.busFlds ++ Touches.lastFlds).map Fld.id := by decide
  rw [hdone.cw (by decide) (hid w), ← hsel]
  exact State.wordDone_coach hacc

/-- A frame of no words does nothing but to be answered. -/
theorem coachWindowWrite_empty (hport : s.port = .opened) : ∃ t, exec (.coachWindowWrite w []) s = .next t ∧ t.rd Reg.HOST_LAST_STATUS = 0 ∧
    ∀ c : Nat, c < 160 → ∀ k : Nat, k < 64 → t.cw c k = s.cw c k := by
  have hframe : (s.arrived.frameFinds (0x1040 + w) 0).frameWrite (0x1040 + w) [] = { s := s.arrived } := by
    have hfinds : ∀ k, (decide (0x1040 + w.val ≤ k) && decide (k < 0x1040 + w.val + 0)) = false := fun k => by
      simp
    simp only [State.frameFinds, hfinds]
    rfl
  have htouch : Touches [.resp, .sent] _ s _ := (Touches.arrived.andThen (.respond (f := { opc := 2, addr := 0x1040 + w, len := 0, words := [] })
    (st := .ok) (data := []))).evcEdge
  refine exists_fin ?_
  rw [List.take_nil, State.hostWrite_accepted hport hframe, State.evcEdge_rd]
  exact ⟨State.respond_status, fun c _ k hk => (State.SameWords.of_touches htouch (by decide) (by decide)).cw hk⟩

/-- Settles O37: each frame is taken (`State.Takes`), so it leaves what its one word does, but for its answer, its request for the coach bus and
its counters (`hostWrite_one`). -/
theorem hostWritesCoachesAndPlans : Obligations.HostWritesCoachesAndPlans := by
  refine ⟨fun s w v hport hfree hbus hacc hlock hok => ?_, fun s w => coachWindowWrite_empty, fun s count => arbSwapReq_taken,
    fun s r => arbWmaxClr_clears, fun s v => uiSettingsWrite_filter⟩
  obtain ⟨t, ht, hstatus, hword⟩ := coachWindowWrite_word hport hfree hbus hacc hlock hok
  exact ⟨t, ht, hstatus, fun _ => hword⟩

end Sys2Proof.Machine
end

section
/-! The CRC-8 of R105 and the bytes of a number (R3): no change within one byte leaves the CRC as it was. -/

namespace Sys2Proof.Machine

variable {poly init b c d e k n u v : Nat} {l : List Nat}

/-! The shift register of the CRC loses nothing. -/

/-- One bit of the CRC-8: the register is shifted, and the polynomial added where a one leaves it. -/
def crc8Shift (poly c : Nat) : Nat := if 128 ≤ c then Nat.xor (c * 2 % 256) poly else c * 2 % 256

theorem crc8Byte_eq_iterate : crc8Byte poly c b = (crc8Shift poly)^[8] (c ^^^ b % 256) :=
  List.foldl_const (crc8Shift poly) (c ^^^ b % 256) (List.range 8)

theorem xor_lt_256 (hc : c < 256) (hd : d < 256) : c ^^^ d < 256 := Nat.xor_lt_two_pow (n := 8) hc hd

theorem crc8Shift_lt (hpoly : poly < 256) : crc8Shift poly c < 256 := by
  unfold crc8Shift
  split
  · exact xor_lt_256 (Nat.mod_lt _ (by decide)) hpoly
  · exact Nat.mod_lt _ (by decide)

/-- The lowest bit of a shifted register says whether the polynomial was added, where that is odd. -/
theorem crc8Shift_mod_two (hodd : poly % 2 = 1) : crc8Shift poly c % 2 = if 128 ≤ c then 1 else 0 := by
  unfold crc8Shift
  split
  · have hx : (c * 2 % 256 ^^^ poly) % 2 = (c * 2 % 256 % 2) ^^^ poly % 2 := Nat.xor_mod_two_pow (n := 1)
    have h0 : c * 2 % 256 % 2 = 0 := by omega
    rw [h0, hodd] at hx
    exact hx
  · omega

theorem crc8Shift_injOn (hodd : poly % 2 = 1) : Set.InjOn (crc8Shift poly) (Set.Iio 256) := by
  intro c hc d hd h
  rw [Set.mem_Iio] at hc hd
  have hlow : (if 128 ≤ c then 1 else 0) = if 128 ≤ d then 1 else 0 := by
    rw [← crc8Shift_mod_two hodd, ← crc8Shift_mod_two hodd, h]
  by_cases hcc : 128 ≤ c <;> by_cases hdd : 128 ≤ d <;> simp only [crc8Shift, hcc, hdd, if_true, if_false] at h hlow
  · have := Nat.xor_left_injective h
    omega
  · omega
  · omega
  · omega

/-- What a byte makes of the register tells the sum of the two. -/
theorem crc8Byte_inj (hc : c < 256) (hd : d < 256) (h : crc8Byte 0x2F c b = crc8Byte 0x2F d e) : c ^^^ b % 256 = d ^^^ e % 256 := by
  rw [crc8Byte_eq_iterate, crc8Byte_eq_iterate] at h
  exact (crc8Shift_injOn (by decide)).iterate (fun _ _ => crc8Shift_lt (by decide)) 8 (xor_lt_256 hc (Nat.mod_lt _ (by decide)))
    (xor_lt_256 hd (Nat.mod_lt _ (by decide))) h

theorem crc8Byte_lt : crc8Byte 0x2F c b < 256 := by
  rw [crc8Byte_eq_iterate, Function.iterate_succ_apply']
  exact crc8Shift_lt (by decide)

theorem crc8With_cons : crc8With poly init (b :: l) = crc8With poly (crc8Byte poly init b) l := by
  simp only [crc8With, List.foldl_cons]

theorem crc8_snoc : crc8 (l ++ [b]) = crc8Byte 0x2F (crc8 l) b := by
  simp only [crc8, crc8With, List.foldl_append, List.foldl_cons, List.foldl_nil]

theorem crc8With_lt (h : init < 256) : crc8With 0x2F init l < 256 := by
  induction l generalizing init with
  | nil => exact h
  | cons b l ih =>
    rw [crc8With_cons]
    exact ih crc8Byte_lt

/-- Two registers that differ still differ after the same bytes. -/
theorem crc8With_init_inj (hc : c < 256) (hd : d < 256) (h : crc8With 0x2F c l = crc8With 0x2F d l) : c = d := by
  induction l generalizing c d with
  | nil => exact h
  | cons b l ih =>
    rw [crc8With_cons, crc8With_cons] at h
    exact Nat.xor_left_inj.mp (crc8Byte_inj hc hd (ih crc8Byte_lt crc8Byte_lt h))

/-- Bytes followed by their CRC have the CRC 0. -/
theorem crc8_append_crc : crc8 (l ++ [crc8 l]) = 0 := by
  have h : crc8 l < 256 := crc8With_lt (by decide)
  rw [crc8_snoc, crc8Byte_eq_iterate, Nat.mod_eq_of_lt h, Nat.xor_self]
  exact Function.iterate_fixed (by decide) 8

/-! Bytes and the number that they spell. -/

theorem beBytes_congr (h : u ≡ v [MOD 256 ^ n]) : beBytes n u = beBytes n v := by
  induction n with
  | zero => rfl
  | succ n ih =>
    have hhead : u / 256 ^ n % 256 = v / 256 ^ n % 256 := by
      have hu := congrArg (· / 256 ^ n) h
      simpa only [pow_succ, Nat.mod_mul_right_div_self] using hu
    rw [beBytes, beBytes, hhead, ih (h.of_dvd (pow_dvd_pow 256 n.le_succ))]

theorem foldl_bytes : l.foldl (fun a b => a * 256 + b % 256) v = v * 256 ^ l.length + ofBeBytes l := by
  induction l generalizing v with
  | nil => simp [ofBeBytes]
  | cons b l ih =>
    have hb : ofBeBytes (b :: l) = b % 256 * 256 ^ l.length + ofBeBytes l := by simpa [ofBeBytes] using ih (v := 0 * 256 + b % 256)
    rw [List.foldl_cons, ih, hb, List.length_cons]
    ring

theorem ofBeBytes_cons : ofBeBytes (b :: l) = b % 256 * 256 ^ l.length + ofBeBytes l := by
  rw [ofBeBytes, List.foldl_cons, Nat.zero_mul, Nat.zero_add, foldl_bytes]

theorem ofBeBytes_lt : ofBeBytes l < 256 ^ l.length := by
  induction l with
  | nil => decide
  | cons b l ih =>
    have hb : b % 256 < 256 := Nat.mod_lt _ (by decide)
    rw [ofBeBytes_cons, List.length_cons, pow_succ]
    nlinarith

/-- The bytes of the number that a list of bytes spells are that list. -/
theorem beBytes_ofBeBytes (h : ∀ b ∈ l, b < 256) : beBytes l.length (ofBeBytes l) = l := by
  induction l with
  | nil => rfl
  | cons b l ih =>
    have hb : b % 256 = b := Nat.mod_eq_of_lt (h b List.mem_cons_self)
    have htail : beBytes l.length (b * 256 ^ l.length + ofBeBytes l) = l :=
      (beBytes_congr (Nat.mul_add_mod_self_right _ _ _)).trans (ih fun c hc => h c (List.mem_cons_of_mem b hc))
    have hhead : (b * 256 ^ l.length + ofBeBytes l) / 256 ^ l.length = b := by
      rw [Nat.mul_comm, Nat.mul_add_div (by positivity), Nat.div_eq_of_lt ofBeBytes_lt, Nat.add_zero]
    rw [ofBeBytes_cons, hb, List.length_cons, beBytes, htail, hhead, hb]

theorem beBytes_lt : ∀ b ∈ beBytes n v, b < 256 := by
  induction n with
  | zero => simp [beBytes]
  | succ n ih => exact List.forall_mem_cons.mpr ⟨Nat.mod_lt _ (by decide), ih⟩

theorem length_beBytes : (beBytes n v).length = n := by
  induction n with
  | zero => rfl
  | succ n ih => rw [beBytes, List.length_cons, ih]

/-! An inverted bit. -/

/-- The bytes of a number with one bit inverted. -/
theorem byte_xor_two_pow (n : Nat) : (v ^^^ 2 ^ k) / 256 ^ n % 256 = (v / 256 ^ n % 256) ^^^ (2 ^ k / 256 ^ n % 256) := by
  rw [show 256 ^ n = 2 ^ (8 * n) from (Nat.pow_mul 2 8 n).symm, Nat.xor_div_two_pow]
  exact Nat.xor_mod_two_pow (n := 8)

/-- Whatever the bytes, an inversion of any one of their bits changes the CRC. -/
theorem crc8With_flip_ne (hinit : init < 256) (hk : k < 8 * n) :
    crc8With 0x2F init (beBytes n (v ^^^ 2 ^ k)) ≠ crc8With 0x2F init (beBytes n v) := by
  induction n generalizing init with
  | zero => omega
  | succ n ih =>
    rw [beBytes, beBytes, crc8With_cons, crc8With_cons, byte_xor_two_pow]
    have hpow : 256 ^ n = 2 ^ (8 * n) := (Nat.pow_mul 2 8 n).symm
    by_cases hlow : k < 8 * n
    · rw [Nat.div_eq_of_lt (a := 2 ^ k) (hpow ▸ Nat.pow_lt_pow_right (by decide) hlow), Nat.zero_mod, Nat.xor_zero]
      exact ih crc8Byte_lt hlow
    · have htail : beBytes n (v ^^^ 2 ^ k) = beBytes n v := by
        have hzero : 2 ^ k % 2 ^ (8 * n) = 0 := Nat.mod_eq_zero_of_dvd (pow_dvd_pow 2 (by omega))
        refine beBytes_congr ?_
        rw [Nat.ModEq, hpow, Nat.xor_mod_two_pow, hzero, Nat.xor_zero]
      have hbit : 2 ^ k / 256 ^ n % 256 = 2 ^ (k - 8 * n) := by
        rw [hpow, Nat.pow_div (by omega) (by decide)]
        exact Nat.mod_eq_of_lt (Nat.pow_lt_pow_right (n := 8) (by decide) (by omega))
      rw [htail, hbit]
      intro h
      have hsum := Nat.xor_right_inj.mp (crc8Byte_inj hinit hinit (crc8With_init_inj crc8Byte_lt crc8Byte_lt h))
      have hpos : 0 < 2 ^ (k - 8 * n) := Nat.two_pow_pos _
      rw [Nat.mod_mod, Nat.mod_eq_of_lt (xor_lt_256 (Nat.mod_lt _ (by decide)) (hbit ▸ Nat.mod_lt _ (by decide)))] at hsum
      exact absurd (Nat.xor_right_inj.mp (hsum.trans (Nat.xor_zero _).symm)) hpos.ne'

end Sys2Proof.Machine
end

section
/-! The actuator command bus (R104 to R106): the frame that the receiving block gets, and how a command ends. -/

namespace Sys2Proof.Machine

variable {s : State} {a : ActCmd} {rest : List ActCmd} {kind seq index value k flips : Nat}

/-- A target that exists has a bit of SUPV_CMD_PATH. -/
theorem targetBit_lt (h : targetOk kind index = true) : targetBit kind index < 21 := by
  simp only [targetOk, Bool.or_eq_true, Bool.and_eq_true, beq_iff_eq, decide_eq_true_eq] at h
  obtain ((⟨rfl, h⟩ | ⟨rfl, h⟩) | ⟨rfl, h⟩) | ⟨rfl, h⟩ := h <;> simp [targetBit] <;> omega

theorem targetOk_bounds (h : targetOk kind index = true) : kind < 8 ∧ index < 256 := by
  simp only [targetOk, Bool.or_eq_true, Bool.and_eq_true, beq_iff_eq, decide_eq_true_eq] at h
  omega

/-! The frame. -/

/-- The frame of a command to a target that exists is seven bytes. -/
theorem actFrame_bytes (h : targetOk kind index = true) : ∀ b ∈ actFrame kind seq index value, b < 256 := by
  obtain ⟨hkind, hindex⟩ := targetOk_bounds h
  have hseq : seq % 32 < 32 := Nat.mod_lt _ (by decide)
  simp only [actFrame, List.forall_mem_append, List.forall_mem_cons]
  exact ⟨⟨⟨by omega, hindex, by simp⟩, beBytes_lt⟩, crc8With_lt (by decide), by simp⟩

theorem length_actFrame : (actFrame kind seq index value).length = 7 := by
  simp [actFrame, length_beBytes]

theorem beBytes_actFrame (h : targetOk kind index = true) :
    beBytes 7 (ofBeBytes (actFrame kind seq index value)) = actFrame kind seq index value := by
  have hb := beBytes_ofBeBytes (actFrame_bytes (seq := seq) (value := value) h)
  rwa [length_actFrame] at hb

/-- What the receiving block gets of the command at the head, with `flips` of its 56 bits inverted. -/
def State.busReceived (s : State) (a : ActCmd) (flips : Nat) : List Nat :=
  beBytes 7 (Nat.xor (ofBeBytes (actFrame a.kind (s.rdAt Hid.sndSeq (targetBit a.kind a.index)) a.index a.value)) (flips % 2 ^ 56))

theorem State.busReceived_whole (h : targetOk a.kind a.index = true) :
    s.busReceived a 0 = actFrame a.kind (s.rdAt Hid.sndSeq (targetBit a.kind a.index)) a.index a.value := by
  refine Eq.trans ?_ (beBytes_actFrame h)
  exact congrArg (beBytes 7) (Nat.xor_zero _)

theorem State.crc_busReceived_flip (h : targetOk a.kind a.index = true) (hk : k < 56) : crc8 (s.busReceived a (2 ^ k)) ≠ 0 := by
  have hwhole := crc8_append_crc (l := [a.kind * 32 + s.rdAt Hid.sndSeq (targetBit a.kind a.index) % 32, a.index] ++ beBytes 4 a.value)
  rw [State.busReceived, Nat.mod_eq_of_lt (Nat.pow_lt_pow_right (by decide) hk)]
  refine ne_of_ne_of_eq (crc8With_flip_ne (n := 7) (by decide) hk) ?_
  rw [beBytes_actFrame h]
  exact hwhole

/-! How a command crosses the bus. -/

/-- What the receiving block does with the bytes `b` that it gets for the command `a` at the head. -/
def State.busTake (s : State) (a : ActCmd) (rest : List ActCmd) (b : List Nat) : State :=
  let kind := b.headD 0 / 32
  let seq := b.headD 0 % 32
  let index := b.getD 1 0
  let tgt := targetBit a.kind a.index
  if crc8 b = 0 ∧ targetOk kind index = true ∧ seq = (s.rdAt Hid.rcvSeq (targetBit kind index) + 1) % 32 then
    ((({ s with actQ := rest } : State).wrAt Hid.rcvSeq (targetBit kind index) seq).wrAt Hid.sndSeq tgt (s.rdAt Hid.sndSeq tgt + 1)).actuate
      kind index (ofBeBytes ((b.drop 2).take 4))
  else { s with actQ := { a with nacked := true } :: rest }

theorem exec_actuatorCommand (hq : s.actQ = a :: rest) (hnack : a.nacked = false) (halive : s.alive = true) :
    exec (.actuatorCommand flips) s = fin (s.busTake a rest (s.busReceived a flips)) := by
  change execActuatorCommand flips s = _
  rw [State.busTake, apply_ite fin, execActuatorCommand, hq]
  exact if_neg (by simp [hnack, halive])

/-- A frame with a wrong CRC is answered with NACK. -/
theorem State.busTake_refused {b : List Nat} (h : crc8 b ≠ 0) : s.busTake a rest b = { s with actQ := { a with nacked := true } :: rest } :=
  if_neg fun hb => h hb.1

/-- A frame without an error and with the next sequence number acts at its target, and both ends take the number. -/
theorem State.busTake_accepted (hok : targetOk a.kind a.index = true)
    (hseq : seq % 32 = (s.rdAt Hid.rcvSeq (targetBit a.kind a.index) + 1) % 32) :
    s.busTake a rest (actFrame a.kind seq a.index a.value) =
      ((({ s with actQ := rest } : State).wrAt Hid.rcvSeq (targetBit a.kind a.index) (seq % 32)).wrAt Hid.sndSeq (targetBit a.kind a.index)
        (s.rdAt Hid.sndSeq (targetBit a.kind a.index) + 1)).actuate a.kind a.index (ofBeBytes (beBytes 4 a.value)) := by
  have hhead : (actFrame a.kind seq a.index a.value).headD 0 = a.kind * 32 + seq % 32 := rfl
  have hindex : (actFrame a.kind seq a.index a.value).getD 1 0 = a.index := rfl
  have hvalue : ((actFrame a.kind seq a.index a.value).drop 2).take 4 = beBytes 4 a.value := rfl
  have hkind : (a.kind * 32 + seq % 32) / 32 = a.kind := by omega
  have hnum : (a.kind * 32 + seq % 32) % 32 = seq % 32 := by omega
  have hcrc : crc8 (actFrame a.kind seq a.index a.value) = 0 := crc8_append_crc
  simp only [State.busTake, hhead, hindex, hvalue, hkind, hnum]
  exact if_pos ⟨hcrc, hok, hseq⟩

/-- Settles O11: a frame without an error has the CRC 0, and no inversion of one bit leaves a CRC as it was (`crc8With_flip_ne`). -/
theorem singleBitErrorsAreRefused : Obligations.SingleBitErrorsAreRefused := by
  intro s a rest k hq hnack halive hok _
  rw [exec_actuatorCommand hq hnack halive, State.busTake_refused (State.crc_busReceived_flip hok k.isLt)]
  exact exists_fin ⟨State.evcEdge_actQ _, State.evcEdge_regs _, State.evcEdge_flash _, State.evcEdge_eeprom _⟩

/-- A command that crosses without an error leaves the bus, and its target has taken its number. -/
theorem exec_actuatorCommand_crosses (hq : s.actQ = a :: rest) (hnack : a.nacked = false) (halive : s.alive = true)
    (hok : targetOk a.kind a.index = true)
    (hseq : s.rdAt Hid.sndSeq (targetBit a.kind a.index) % 32 = (s.rdAt Hid.rcvSeq (targetBit a.kind a.index) + 1) % 32) :
    ∃ t, exec (.actuatorCommand 0) s = .next t ∧ t.actQ = rest ∧
      t.rdAt Hid.rcvSeq (targetBit a.kind a.index) = s.rdAt Hid.sndSeq (targetBit a.kind a.index) % 32 := by
  rw [exec_actuatorCommand hq hnack halive, State.busReceived_whole hok, State.busTake_accepted hok hseq]
  refine exists_fin ⟨?_, ?_⟩
  · rw [State.evcEdge_actQ]
    exact Touches.actuate.parts .actQ (by decide)
  · rw [State.evcEdge_rdAt, Touches.actuate.rdAt (by decide), State.rdAt_wrAt_id _ _ _ _ _ _ (by decide), State.rdAt_wrAt_same]
    exact Nat.mod_mod _ 32

/-- A first NACK has the command sent again. -/
theorem exec_actuatorCommandNack_first (hq : s.actQ = a :: rest) (hnack : a.nacked = true) (hagain : a.again = false) :
    ∃ t, exec .actuatorCommandNack s = .next t ∧ t.actQ = { a with nacked := false, again := true } :: rest ∧ t.regs = s.regs := by
  have he : exec .actuatorCommandNack s = fin { s.count 0x35 with actQ := { a with nacked := false, again := true } :: rest } := by
    change execActuatorCommandNack s = _
    simp [execActuatorCommandNack, hq, hnack, hagain]
  rw [he]
  exact exists_fin ⟨State.evcEdge_actQ _, (State.evcEdge_regs _).trans (State.count_regs s _)⟩

/-- A second NACK gives the command up and marks its target. -/
theorem exec_actuatorCommandNack_second (hq : s.actQ = a :: rest) (hnack : a.nacked = true) (hagain : a.again = true)
    (hok : targetOk a.kind a.index = true) :
    ∃ t, exec .actuatorCommandNack s = .next t ∧ t.actQ = rest ∧ bit (t.rd Reg.SUPV_CMD_PATH_MAP) (targetBit a.kind a.index) = true ∧
      t.rd Reg.SUPV_STAT_CMD_PATH = 1 ∧ bit t.intCause 1 = true := by
  have he : exec .actuatorCommandNack s = fin ((((({ s.count 0x35 with actQ := rest } : State).or Reg.SUPV_CMD_PATH_MAP
      (2 ^ targetBit a.kind a.index)).wr Reg.SUPV_STAT_CMD_PATH 1).count 0x36).raise 1) := by
    change execActuatorCommandNack s = _
    simp [execActuatorCommandNack, hq, hnack, hagain]
  rw [he]
  refine exists_fin ⟨?_, ?_, ?_, State.evcEdge_causes State.bit_raise⟩
  · rw [State.evcEdge_actQ, State.raise_actQ, State.count_actQ]
    rfl
  · rw [State.evcEdge_rd, State.raise_rd, State.count_rd, State.rd_wr_ne _ _ _ _ (by decide)]
    exact State.bit_or_same (targetBit_lt hok)
  · rw [State.evcEdge_rd, State.raise_rd, State.count_rd, State.rd_wr_same]
    rfl

/-! A coach's repair (R103). -/

/-- A repair ends with the coach's words, where the active copy gives them. -/
theorem exec_supvRepairDone_done {words : List Nat} (hgo : s.on Reg.SUPV_REPAIR_GO = true) (hup : s.up = true) (hpath : s.pathServes 2 = true)
    (hwords : s.copyCoachWords (s.rd Hid.repairCoach) = some words) :
    ∃ t, exec (.supvRepairDone true) s = .next t ∧ t.rd Reg.SUPV_REPAIR_GO = 0 ∧ t.rd Reg.SUPV_REPAIR_RESULT = 1 := by
  have he : exec (.supvRepairDone true) s = fin ((s.pathLeave 2).repairWith (s.rd Hid.repairCoach) words) := by
    change execSupvRepairDone true s = _
    simp [execSupvRepairDone, hgo, hup, hpath, hwords]
  rw [he]
  refine exists_fin ⟨?_, ?_⟩ <;>
    simp (disch := decide) only [State.evcEdge_rd, State.repairWith, State.wrs, State.rd_wr_ne, State.rd_wr_same] <;> decide

/-- A repair ends without a change of its coach, where the active copy cannot be read. -/
theorem exec_supvRepairDone_unreadable (hgo : s.on Reg.SUPV_REPAIR_GO = true) (hup : s.up = true) (hpath : s.pathServes 2 = true) :
    ∃ t, exec (.supvRepairDone false) s = .next t ∧ t.rd Reg.SUPV_REPAIR_GO = 0 ∧ t.rd Reg.SUPV_REPAIR_RESULT = 3 := by
  have he : exec (.supvRepairDone false) s = fin ((s.pathLeave 2).wrs [(Reg.SUPV_REPAIR_GO, 0), (Reg.SUPV_REPAIR_RESULT, 3)]) := by
    change execSupvRepairDone false s = _
    simp [execSupvRepairDone, hgo, hup, hpath]
  rw [he]
  refine exists_fin ⟨?_, ?_⟩ <;> simp (disch := decide) only [State.evcEdge_rd, State.wrs, State.rd_wr_ne, State.rd_wr_same] <;> decide

/-- Settles O10: each command is known by what the receiving block gets of it (`State.busTake`), each NACK and each end of a repair by what it
writes last. -/
theorem actuatorsAndRepairs : Obligations.ActuatorsAndRepairs :=
  ⟨fun _ _ _ hq hnack halive hok _ hseq => exec_actuatorCommand_crosses hq hnack halive hok hseq,
    fun _ _ _ => exec_actuatorCommandNack_first, fun _ _ _ => exec_actuatorCommandNack_second, fun _ _ => exec_supvRepairDone_done,
    fun _ => exec_supvRepairDone_unreadable⟩

end Sys2Proof.Machine
end

section
/-! The lanes (R89 to R99): a silent lane, the spare's entry test, and a restore. -/

namespace Sys2Proof.Machine

variable {s : State} {a b c : Bool} {f : Fld} {k l n p : Nat} {q : Nat → Bool} {back : List Nat}

/-- A map of bits has the bits of its predicate. -/
theorem testBit_bitMap : (bitMap n q).testBit k = (decide (k < n) && q k) := by
  have hstep : ∀ m, bitMap (m + 1) q = if q m then bitMap m q + 2 ^ m else bitMap m q := fun m => by
    simp only [bitMap, List.range_succ, List.foldl_append, List.foldl_cons, List.foldl_nil]
  suffices h : bitMap n q < 2 ^ n ∧ (bitMap n q).testBit k = (decide (k < n) && q k) from h.2
  induction n with
  | zero => simp [bitMap]
  | succ n ih =>
    obtain ⟨hlt, hbits⟩ := ih
    rw [hstep, pow_succ]
    cases hq : q n with
    | false =>
      refine ⟨by simp only [Bool.false_eq_true, if_false]; omega, ?_⟩
      rcases Nat.lt_trichotomy k n with hk | rfl | hk
      · simp [hbits, hk, Nat.lt_succ_of_lt hk]
      · simp [hbits, hq]
      · simp [hbits, hk.not_gt, show ¬ k < n + 1 by omega]
    | true =>
      refine ⟨by simp only [if_true]; omega, ?_⟩
      rw [if_pos rfl, Nat.add_comm]
      rcases Nat.lt_trichotomy k n with hk | rfl | hk
      · simp [Nat.testBit_two_pow_add_gt hk, hbits, hk, Nat.lt_succ_of_lt hk]
      · simp [Nat.testBit_two_pow_add_eq, hbits, hq]
      · rw [Nat.testBit_lt_two_pow]
        · simp [show ¬ k < n + 1 by omega]
        · calc 2 ^ n + bitMap n q < 2 ^ (n + 1) := by rw [pow_succ]; omega
            _ ≤ 2 ^ k := Nat.pow_le_pow_right (by decide) hk

/-- Settles O58: a lane in a position delivers the result that differs, and the evaluation runs with it. -/
theorem silentLaneCountsAsDiffering : Obligations.SilentLaneCountsAsDiffering := by
  intro s env lane k hpos
  change execLaneTimeout lane env s = execCoachEvaluation _ s
  simp only [execLaneTimeout, hpos, execCoachEvaluation]

/-! The entry test of the spare (R92, R93). -/

/-- The position that the spare is tested for, 1 for the lead's and 2 for the follow's. -/
def freeSeat (p : Nat) : Fld := if p = 1 then Reg.SUPV_LANE_LEAD else Reg.SUPV_LANE_FOLLOW

/-- The other of the two positions. -/
def keptSeat (p : Nat) : Fld := if p = 1 then Reg.SUPV_LANE_FOLLOW else Reg.SUPV_LANE_LEAD

/-- The swap is over, whatever the spare's test has shown. -/
def State.swapOver (s : State) : State := s.wrs [(Reg.SUPV_LANE_SWAP_BUSY, 0), (Hid.swapPos, 0)]

theorem State.swapOver_busy : s.swapOver.rd Reg.SUPV_LANE_SWAP_BUSY = 0 := by
  simp (disch := decide) only [State.swapOver, State.wrs, State.rd_wr_ne, State.rd_wr_same]
  rfl

theorem Touches.swapOver : Touches [] [Hid.swapPos, Reg.SUPV_LANE_SWAP_BUSY] s s.swapOver := .of (by decide) (refl s).wrs

theorem exec_laneSwapEntryTest_pass (halive : s.alive = true) (hpos : s.rd Hid.swapPos = p) (hp : p ≠ 0) :
    exec (.laneSwapEntryTest true) s = fin (s.swapOver.wrs [(freeSeat p, s.rd Reg.SUPV_LANE_SPARE), (Reg.SUPV_LANE_SPARE, 3)]) := by
  change execLaneSwapEntryTest true s = _
  simp [execLaneSwapEntryTest, halive, hpos, hp, freeSeat, State.swapOver]

theorem exec_laneSwapEntryTest_fail (halive : s.alive = true) (hpos : s.rd Hid.swapPos = p) (hp : p ≠ 0) :
    exec (.laneSwapEntryTest false) s = fin ((s.swapOver.laneRetire (s.rd Reg.SUPV_LANE_SPARE)).degrade (s.swapOver.rd (keptSeat p))) := by
  change execLaneSwapEntryTest false s = _
  simp [execLaneSwapEntryTest, halive, hpos, hp, keptSeat, State.swapOver]

theorem State.bit_or_two_pow (hk : k < f.w) : bit ((s.or f (2 ^ n)).rd f) k = (bit (s.rd f) k || n == k) := by
  rw [State.rd_or_same, bit_eq_testBit, bit_eq_testBit, Nat.testBit_mod_two_pow, Nat.testBit_or, Nat.testBit_two_pow, decide_eq_true hk,
    Bool.true_and]
  rfl

theorem Touches.degrade : Touches [] [Reg.SUPV_LANE_LEAD, Reg.SUPV_LANE_FOLLOW, Reg.SUPV_LANE_SPARE, Reg.SUPV_LANE_DEGRADED] s (s.degrade l) :=
  .of (by decide) (refl s).wr.wr.wr.wr

/-- A lane is retired, and another goes on alone. -/
theorem exists_fin_retire_degrade : ∃ t, fin ((s.laneRetire n).degrade l) = .next t ∧ t.rd Reg.SUPV_LANE_LEAD = l % 4 ∧
    t.rd Reg.SUPV_LANE_FOLLOW = 3 ∧ t.rd Reg.SUPV_LANE_SPARE = 3 ∧ t.rd Reg.SUPV_LANE_DEGRADED = 1 ∧
    t.rd Reg.SUPV_LANE_SWAP_BUSY = s.rd Reg.SUPV_LANE_SWAP_BUSY ∧ (∀ k : Nat, k < 3 → bit (t.rd Reg.SUPV_LANE_RETIRED) k =
      (bit (s.rd Reg.SUPV_LANE_RETIRED) k || n == k)) ∧ bit t.intCause 1 = true := by
  refine exists_fin ?_
  have hbusy : ((s.laneRetire n).degrade l).rd Reg.SUPV_LANE_SWAP_BUSY = s.rd Reg.SUPV_LANE_SWAP_BUSY :=
    ((Touches.refl s).or.wr.count.raise.andThen .degrade).rd (by decide)
  have hretired : ((s.laneRetire n).degrade l).rd Reg.SUPV_LANE_RETIRED = (s.or Reg.SUPV_LANE_RETIRED (2 ^ n)).rd Reg.SUPV_LANE_RETIRED :=
    ((Touches.refl _).wr.count.raise.andThen .degrade).rd (by decide)
  have hcause : bit ((s.laneRetire n).degrade l).intCause 1 = true := Touches.degrade.causes 1 State.bit_raise
  refine ⟨?_, ?_, ?_, ?_, (State.evcEdge_rd _ _).trans hbusy, fun k hk => ?_, State.evcEdge_causes hcause⟩
  case refine_5 =>
    rw [State.evcEdge_rd, hretired]
    exact State.bit_or_two_pow hk
  all_goals
    simp (disch := decide) only [State.evcEdge_rd, State.degrade, State.wrs, State.rd_wr_ne, State.rd_wr_same]
    rfl

/-- A spare that passes takes the free position. -/
theorem exec_laneSwapEntryTest_seats (halive : s.alive = true) (hpos : s.rd Hid.swapPos = p) (hp : p ≠ 0) :
    ∃ t, exec (.laneSwapEntryTest true) s = .next t ∧ t.rd (freeSeat p) = s.rd Reg.SUPV_LANE_SPARE % 4 ∧
      t.rd (keptSeat p) = s.rd (keptSeat p) ∧ t.rd Reg.SUPV_LANE_SPARE = 3 ∧ t.rd Reg.SUPV_LANE_SWAP_BUSY = 0 ∧
      t.rd Reg.SUPV_LANE_RETIRED = s.rd Reg.SUPV_LANE_RETIRED := by
  rw [exec_laneSwapEntryTest_pass halive hpos hp]
  refine exists_fin ?_
  unfold freeSeat keptSeat
  by_cases h : p = 1 <;>
    simp (disch := decide) only [h, if_true, if_false, State.evcEdge_rd, State.swapOver, State.wrs, State.rd_wr_ne, State.rd_wr_same] <;>
    exact ⟨rfl, trivial, rfl, rfl, trivial⟩

/-- A spare that fails is retired, and the lane in the other position goes on alone. -/
theorem exec_laneSwapEntryTest_retires (halive : s.alive = true) (hpos : s.rd Hid.swapPos = p) (hp : p ≠ 0) :
    ∃ t, exec (.laneSwapEntryTest false) s = .next t ∧ t.rd Reg.SUPV_LANE_LEAD = s.rd (keptSeat p) % 4 ∧
      t.rd Reg.SUPV_LANE_FOLLOW = 3 ∧ t.rd Reg.SUPV_LANE_SPARE = 3 ∧ t.rd Reg.SUPV_LANE_DEGRADED = 1 ∧
      t.rd Reg.SUPV_LANE_SWAP_BUSY = 0 ∧ (∀ k : Nat, k < 3 → bit (t.rd Reg.SUPV_LANE_RETIRED) k =
        (bit (s.rd Reg.SUPV_LANE_RETIRED) k || s.rd Reg.SUPV_LANE_SPARE == k)) ∧ bit t.intCause 1 = true := by
  have hkept : s.swapOver.rd (keptSeat p) = s.rd (keptSeat p) := by
    unfold keptSeat
    split <;> exact Touches.swapOver.rd (by decide)
  have hretired : s.swapOver.rd Reg.SUPV_LANE_RETIRED = s.rd Reg.SUPV_LANE_RETIRED := Touches.swapOver.rd (by decide)
  rw [exec_laneSwapEntryTest_fail halive hpos hp, hkept, ← hretired, ← State.swapOver_busy (s := s)]
  exact exists_fin_retire_degrade

/-! A restore (R99). -/

/-- The retired lanes that pass their entry test. -/
def lanesBack (ret : Nat) (passes : List Bool) : List Nat := (upTo 3).filter fun l => bit ret l && passes.getD l false

/-- A restore is over, and the lanes `back` are no longer retired. -/
def State.restoreOver (s : State) (back : List Nat) : State :=
  s.wrs [(Reg.SUPV_LANE_CMD_CMD, 0), (Reg.SUPV_LANE_SWAP_BUSY, 0), (Reg.SUPV_LANE_CMD_RESULT, if back.isEmpty then 2 else 1),
    (Reg.SUPV_LANE_RETIRED, clearBits (s.rd Reg.SUPV_LANE_RETIRED) (bitMap 3 fun l => back.contains l))]

/-- What the lanes' positions and the engine's state are written in. -/
def Touches.seatFlds : List Fld :=
  [Reg.SUPV_LANE_LEAD, Reg.SUPV_LANE_FOLLOW, Reg.SUPV_LANE_SPARE, Reg.SUPV_LANE_STOPPED, Reg.SUPV_LANE_DEGRADED]

theorem Touches.seatLanes : Touches [] seatFlds s (s.seatLanes back) := .of (by decide) (refl s).wr.wr.wr.wr.wr

theorem Touches.laneReturn : Touches [] seatFlds s (s.laneReturn l) := .of (by decide) (branch (refl s).wr.wr (refl s).wr)

/-- A restore ends the command, and only gives lanes their positions after that. -/
theorem exec_laneRestoreRun (halive : s.alive = true) (hcmd : s.rd Reg.SUPV_LANE_CMD_CMD = 1) (hpos : s.rd Hid.swapPos = 0) :
    ∃ t, exec (.laneRestoreRun a b c) s = fin t ∧
      Touches [] Touches.seatFlds (s.restoreOver (lanesBack (s.rd Reg.SUPV_LANE_RETIRED) [a, b, c])) t := by
  obtain ⟨u, hu⟩ : ∃ u, u = s.restoreOver (lanesBack (s.rd Reg.SUPV_LANE_RETIRED) [a, b, c]) := ⟨_, rfl⟩
  have he : exec (.laneRestoreRun a b c) s = if (lanesBack (s.rd Reg.SUPV_LANE_RETIRED) [a, b, c]).isEmpty then fin u
      else if s.on Reg.SUPV_LANE_STOPPED then fin (u.seatLanes (lanesBack (s.rd Reg.SUPV_LANE_RETIRED) [a, b, c]))
      else fin (u.each (lanesBack (s.rd Reg.SUPV_LANE_RETIRED) [a, b, c]) State.laneReturn) := by
    rw [hu]
    exact if_neg (by simp [hcmd, hpos, halive])
  rw [he, ← hu]
  split
  · exact ⟨u, rfl, .of (by decide) (.refl u)⟩
  · split
    · exact ⟨_, rfl, .seatLanes⟩
    · exact ⟨_, rfl, .of (by decide) ((Touches.refl u).each fun _ _ => .laneReturn)⟩

theorem lanesBack_isEmpty {passes : List Bool} : (lanesBack n passes).isEmpty = !(upTo 3).any fun l => bit n l && passes.getD l false := by
  rw [lanesBack, Bool.eq_iff_iff, List.isEmpty_iff, List.filter_eq_nil_iff]
  simp

theorem mem_lanesBack {passes : List Bool} (hl : l < 3) : (lanesBack n passes).contains l = (bit n l && passes.getD l false) := by
  rw [Bool.eq_iff_iff, List.contains_iff_mem, lanesBack, List.mem_filter, upTo, List.mem_range]
  simp [hl]

/-- A lane is retired after a restore where it was and has not come back. -/
theorem State.restoreOver_retired {l : Nat} (hl : l < 3) : bit ((s.restoreOver back).rd Reg.SUPV_LANE_RETIRED) l =
    (bit (s.rd Reg.SUPV_LANE_RETIRED) l && !back.contains l) := by
  have hw : l < Reg.SUPV_LANE_RETIRED.w := hl
  simp only [State.restoreOver, State.wrs, State.rd_wr_same]
  rw [bit_eq_testBit, bit_eq_testBit, Nat.testBit_mod_two_pow, testBit_clearBits, testBit_bitMap, decide_eq_true hw, decide_eq_true hl,
    Bool.true_and, Bool.true_and]

/-- What RESTORE leaves. -/
theorem exec_laneRestoreRun_ends (halive : s.alive = true) (hcmd : s.rd Reg.SUPV_LANE_CMD_CMD = 1) (hpos : s.rd Hid.swapPos = 0) :
    ∃ t, exec (.laneRestoreRun a b c) s = .next t ∧ t.rd Reg.SUPV_LANE_CMD_CMD = 0 ∧ t.rd Reg.SUPV_LANE_SWAP_BUSY = 0 ∧
      t.rd Reg.SUPV_LANE_CMD_RESULT =
        (if (upTo 3).any (fun l => bit (s.rd Reg.SUPV_LANE_RETIRED) l && [a, b, c].getD l false) then 1 else 2) ∧
      ∀ l : Nat, l < 3 → bit (t.rd Reg.SUPV_LANE_RETIRED) l = (bit (s.rd Reg.SUPV_LANE_RETIRED) l && !([a, b, c].getD l false)) := by
  obtain ⟨t, he, ht⟩ := exec_laneRestoreRun (a := a) (b := b) (c := c) halive hcmd hpos
  rw [he]
  refine exists_fin ⟨?_, ?_, ?_, fun l hl => ?_⟩
  · rw [State.evcEdge_rd, ht.rd (by decide)]
    simp (disch := decide) only [State.restoreOver, State.wrs, State.rd_wr_ne, State.rd_wr_same]
    rfl
  · rw [State.evcEdge_rd, ht.rd (by decide)]
    simp (disch := decide) only [State.restoreOver, State.wrs, State.rd_wr_ne, State.rd_wr_same]
    rfl
  · rw [State.evcEdge_rd, ht.rd (by decide)]
    simp (disch := decide) only [State.restoreOver, State.wrs, State.rd_wr_ne, State.rd_wr_same, lanesBack_isEmpty]
    cases (upTo 3).any fun l => bit (s.rd Reg.SUPV_LANE_RETIRED) l && [a, b, c].getD l false <;> rfl
  · rw [State.evcEdge_rd, ht.rd (by decide), State.restoreOver_retired hl, mem_lanesBack hl]
    cases bit (s.rd Reg.SUPV_LANE_RETIRED) l <;> rfl

end Sys2Proof.Machine
end

section
/-! The scrubber (R101) and the cross-checks (R87). -/

namespace Sys2Proof.Machine

variable {s : State} {x : XChk} {r : Int} {k : Nat} {coach : Fin 160}

/-- A carriage of the scrubber moves it on by eight words, and at the end of a pass back to 0. -/
theorem exec_scrubCarriage {upsets : List (Nat × Nat)} (hop : s.operating = true) (halive : s.alive = true) :
    ∃ t, exec (.scrubCarriage upsets) s = .next t ∧
      t.rd Reg.SUPV_SCRUB_POS = if s.rd Reg.SUPV_SCRUB_POS + 8 < 10240 then s.rd Reg.SUPV_SCRUB_POS + 8 else 0 := by
  change ∃ t, execScrubCarriage upsets s = .next t ∧ _
  rw [execScrubCarriage, if_neg (by simp [hop, halive])]
  extract_lets p t0 t1
  split
  · refine exists_fin ?_
    have hlt : p + 8 < 2 ^ Reg.SUPV_SCRUB_POS.w := Nat.lt_trans ‹_› (by decide)
    rw [State.evcEdge_rd, State.rd_wr_same, Nat.mod_eq_of_lt hlt]
  · refine exists_fin ?_
    simp (disch := decide) only [State.evcEdge_rd, State.count_rd, State.wrs, State.rd_wr_ne, State.rd_wr_same]
    rfl

/-! How many cross-checks wait: an urgent request that is dropped only marks its own as not issued (R159). -/

theorem State.urgDrop_xchks {u : Urg} : (s.urgDrop u).xchks.length = s.xchks.length := by
  obtain ⟨src, input, conv⟩ := u
  have hcount : ((s.wr Reg.CONV_FLAGS_DROP 1).count 0x47).xchks = s.xchks := State.count_xchks _ _
  cases src with
  | host => exact congrArg List.length hcount
  | therm =>
    have hwhen : ∀ b : Bool, ∀ t : State, (t.whenB b fun t => (t.wr Reg.THERM_FLAGS_URG_DROP 1).count 0x72).xchks = t.xchks := fun b t =>
      ((Touches.refl t).whenB fun t => (Touches.refl t).wr.count).parts .xchks (by decide)
    exact congrArg List.length ((hwhen _ _).trans hcount)
  | cal => exact congrArg List.length hcount
  | supv => exact (List.length_map _).trans (congrArg List.length hcount)

theorem State.urgPlace_xchks {u : Urg} : (s.urgPlace u).xchks.length = s.xchks.length := by
  unfold State.urgPlace
  extract_lets c x busy
  split
  · exact congrArg List.length ((Touches.branch (Touches.refl s).setConv (.branch (Touches.refl s).setConv (Touches.refl s).countIf.setConv)).parts
      .xchks (by decide))
  · split
    · exact State.urgDrop_xchks
    · exact congrArg List.length ((Touches.branch (Touches.refl s).setConv (.branch (Touches.refl s).setConv (Touches.refl s).setConv)).parts
        .xchks (by decide))

theorem State.urgIssue_xchks {src : UrgBy} {input : Nat} {named : Option Nat} : (s.urgIssue src input named).xchks.length = s.xchks.length := by
  unfold State.urgIssue State.urgSend
  split
  · rfl
  · rw [State.urgPlace_xchks, State.countIf_xchks, State.countIf_xchks, State.count_xchks]

theorem State.healthIssue_xchks : (s.healthIssue k).xchks.length = s.xchks.length := by
  have hfirst : ∀ c : CalS, (((s.countIf (s.cal (s.servedBy .cal k)).skipped 0x6B).setCal (s.servedBy .cal k) c).urgIssue .cal 62
      (some k)).xchks.length = s.xchks.length := fun c => State.urgIssue_xchks.trans (congrArg List.length (State.countIf_xchks _ _ _))
  unfold State.healthIssue
  extract_lets _ t u
  split
  · exact State.urgIssue_xchks.trans (hfirst _)
  · exact hfirst _

/-! The ends of a cross-check. -/

/-- An unserved cross-check is issued again; while the supervisor has a request, its further one waits (R160). -/
theorem exec_crossCheckRetry_busy (hx : s.xchks = [x]) (hcoach : x.coach = coach.val) (hissued : x.issued = false)
    (hbusy : s.urgBusy .supv = true) :
    ∃ t, exec (.crossCheckRetry coach) s = .next t ∧ t.xchks = [{ x with issued := true }] ∧
      t.urgMore = s.urgMore ++ [⟨.supv, x.input, x.conv⟩] := by
  have he : exec (.crossCheckRetry coach) s =
      fin { s with xchks := [{ x with issued := true }], urgMore := s.urgMore ++ [⟨.supv, x.input, x.conv⟩] } := by
    have hfind : s.xchks.find? (fun y => y.coach == coach.val && !y.issued) = some x := by simp [hx, hcoach, hissued]
    have hmap : s.xchks.map (fun y => if y = x then { y with issued := true } else y) = [{ x with issued := true }] := by simp [hx]
    change execCrossCheckRetry coach s = _
    simp only [execCrossCheckRetry, hfind, hmap]
    exact congrArg fin (if_pos hbusy)
  rw [he]
  exact exists_fin ⟨State.evcEdge_xchks _, State.evcEdge_urgMore _⟩

/-- An unserved cross-check is given up. -/
theorem exec_crossCheckAbandon (hx : s.xchks = [x]) (hcoach : x.coach = coach.val) (hraw : x.raw = none) :
    ∃ t, exec (.crossCheckAbandon coach) s = .next t ∧ t.xchks = [] ∧ t.rd Reg.SUPV_STAT_XCHK_SKIP = 1 := by
  have he : exec (.crossCheckAbandon coach) s = fin (({ s with xchks := [] } : State).wr Reg.SUPV_STAT_XCHK_SKIP 1) := by
    change execCrossCheckAbandon coach s = _
    simp [execCrossCheckAbandon, hx, hcoach, hraw]
  rw [he]
  exact exists_fin ⟨State.evcEdge_xchks _, (State.evcEdge_rd _ _).trans (State.rd_wr_same _ _ _)⟩

/-- The value that the served conversion `r` of a cross-check stores, and the machine after it. -/
def State.xchkSettle (s : State) (x : XChk) (r : Int) : Int × State :=
  s.settleValue (s.natural x.input (s.inSet x.input (s.conv x.conv).untraced) r)

/-- How far the served conversion lies from the stored value, in the units of the coach (R87). -/
def State.xchkDiff (s : State) (x : XChk) (r : Int) : Int :=
  unitQ x.unit (ofI 16 (s.xchkSettle x r).1) - unitQ x.unit (s.rdAt Reg.UI_VALUE_VALUE x.input)

/-- The health of a converter is checked, where no check runs (R179). -/
def State.checkHealth (s : State) (k : Nat) : State := if (s.cal k).health then s else s.healthIssue k

theorem State.checkHealth_xchks : (s.checkHealth k).xchks.length = s.xchks.length := by
  unfold State.checkHealth
  split
  · rfl
  · exact State.healthIssue_xchks

theorem Touches.checkHealth : Touches [.convs, .urgMore, .cals, .xchks] dropFlds s (s.checkHealth k) :=
  .of (by decide) (branch (refl s) healthIssue)

/-- The record of a cross-check that disagrees, by `lsb` in the LSB of the stored value. -/
def State.xchkRecord (s : State) (coach input : Nat) (lsb : Int) : State :=
  (s.wrs [(Reg.SUPV_XCHK_COACH, coach), (Reg.SUPV_XCHK_INPUT, input), (Reg.SUPV_XCHK_DIFF, ofI 16 (sat16 lsb)),
    (Reg.SUPV_STAT_XCHK_DIS, 1)]).count 0x3D

theorem State.xchkRecord_reads {coach input : Nat} {lsb : Int} : (s.xchkRecord coach input lsb).rd Reg.SUPV_STAT_XCHK_DIS = 1 ∧
    (s.xchkRecord coach input lsb).rd Reg.SUPV_XCHK_COACH = coach % 256 ∧ (s.xchkRecord coach input lsb).rd Reg.SUPV_XCHK_INPUT = input % 64 := by
  refine ⟨?_, ?_, ?_⟩ <;> simp (disch := decide) only [State.xchkRecord, State.count_rd, State.wrs, State.rd_wr_ne, State.rd_wr_same] <;> rfl

/-- The same difference in the LSB of the stored value, in which XCHK_DIFF holds it. -/
def State.xchkLsb (s : State) (x : XChk) (r : Int) : Int :=
  let got := ofI 16 (s.xchkSettle x r).1
  let stored := s.rdAt Reg.UI_VALUE_VALUE x.input
  if x.unit = 0 ∨ x.unit = 3 then toI 16 got - toI 16 stored else (got : Int) - stored

/-- A served cross-check is taken off the list, and where it disagrees by more than half of WIN_WIDTH it is recorded and both converters are
checked. -/
theorem exec_crossCheckResult_eq (hx : s.xchks = [x]) (hcoach : x.coach = coach.val) (hraw : x.raw = some r) :
    exec (.crossCheckResult coach) s = if s.cq coach.val 30 < 2 * (s.xchkDiff x r).natAbs then
      fin (((({ (s.xchkSettle x r).2 with xchks := [] } : State).xchkRecord coach.val x.input (s.xchkLsb x r)).checkHealth
        (s.ownerOf x.input)).checkHealth x.conv)
    else fin { (s.xchkSettle x r).2 with xchks := [] } := by
  have hfind : s.xchks.find? (fun y => y.coach == coach.val && y.raw.isSome) = some x := by simp [hx, hcoach, hraw]
  have hrest : s.xchks.filter (fun y => y != x) = [] := by simp [hx]
  change execCrossCheckResult coach s = _
  simp only [execCrossCheckResult, hfind, hrest, hraw, Option.getD_some]
  rfl

theorem exec_crossCheckResult (hx : s.xchks = [x]) (hcoach : x.coach = coach.val) (hraw : x.raw = some r) :
    ∃ t, exec (.crossCheckResult coach) s = .next t ∧ t.xchks = [] ∧ (s.cq coach.val 30 < 2 * (s.xchkDiff x r).natAbs →
      t.rd Reg.SUPV_STAT_XCHK_DIS = 1 ∧ t.rd Reg.SUPV_XCHK_COACH = coach.val ∧ t.rd Reg.SUPV_XCHK_INPUT = x.input % 64) := by
  obtain ⟨u, hu⟩ : ∃ u : State, u = { (s.xchkSettle x r).2 with xchks := [] } := ⟨_, rfl⟩
  have hnone : u.xchks.length = 0 := by rw [hu]; rfl
  rw [exec_crossCheckResult_eq hx hcoach hraw, ← hu]
  split
  case isTrue hdiff =>
    obtain ⟨hdis, hcoach, hinput⟩ := u.xchkRecord_reads (coach := coach.val) (input := x.input) (lsb := s.xchkLsb x r)
    have hchecks := Touches.checkHealth (s := u.xchkRecord coach.val x.input (s.xchkLsb x r)) (k := s.ownerOf x.input) |>.andThen
      (.checkHealth (k := x.conv))
    refine exists_fin ⟨?_, fun _ => ⟨?_, ?_, ?_⟩⟩
    · rw [State.evcEdge_xchks, ← List.length_eq_zero_iff, State.checkHealth_xchks, State.checkHealth_xchks, State.xchkRecord, State.count_xchks]
      exact hnone
    · rw [State.evcEdge_rd, hchecks.rd (by decide), hdis]
    · rw [State.evcEdge_rd, hchecks.rd (by decide), hcoach]
      omega
    · rw [State.evcEdge_rd, hchecks.rd (by decide), hinput]
  case isFalse hdiff =>
    refine exists_fin ⟨?_, fun h => absurd h hdiff⟩
    rw [State.evcEdge_xchks, ← List.length_eq_zero_iff, hnone]

/-- Settles O4: each command is reduced to what it writes, and what follows those writes touches none of their fields (`Touches`). -/
theorem lanesAndChecks : Obligations.LanesAndChecks :=
  ⟨fun _ halive hpos => exec_laneSwapEntryTest_seats (p := 1) halive hpos (by decide),
    fun _ halive hpos => exec_laneSwapEntryTest_seats (p := 2) halive hpos (by decide),
    fun _ halive hpos => exec_laneSwapEntryTest_retires (p := 1) halive hpos (by decide),
    fun _ halive hpos => exec_laneSwapEntryTest_retires (p := 2) halive hpos (by decide), fun _ _ _ _ => exec_laneRestoreRun_ends,
    fun _ _ => exec_scrubCarriage, fun _ _ _ => exec_crossCheckRetry_busy, fun _ _ _ => exec_crossCheckAbandon,
    fun _ _ _ _ => exec_crossCheckResult⟩

end Sys2Proof.Machine
end

section
/-! Every command answers a next state (`Leads.exec`). -/

namespace Sys2Proof.Machine

/-- Settles O56: whatever the command, the operations it is made of keep the queue. -/
theorem everyCommandCompletes : Obligations.EveryCommandCompletes := by
  intro c s
  obtain ⟨t, ht, hl⟩ := (Leads.refl s).exec (i := c)
  exact ⟨t, ht, hl.pending⟩

end Sys2Proof.Machine
end

section
/-! Requests for the coach bus and for the other resources (R112, R113, R122, R124). -/

namespace Sys2Proof.Machine

variable {s : State} {c : Carriage} {ask : Ask} {id held asked : Nat} {req : Fin 15}

theorem State.orderRefuse_arb : (s.orderRefuse id held asked).arb = { s.arb with errs := s.arb.errs ++ [reqOf id] } := by
  simp [State.orderRefuse, State.wrs]

/-- What a refused request leaves in the arbiter's registers (R124). -/
theorem State.orderRefuse_reads (hid : id < 16) (hheld : held < 8) (hasked : asked < 4) :
    (s.orderRefuse id held asked).rd Reg.ARB_FLAGS_ORDER = 1 ∧ (s.orderRefuse id held asked).rd Reg.ARB_ORDER_LOG_REQ = id ∧
      (s.orderRefuse id held asked).rd Reg.ARB_ORDER_LOG_HELD = held ∧ (s.orderRefuse id held asked).rd Reg.ARB_ORDER_LOG_ASKED = asked := by
  simp (disch := decide) only [State.orderRefuse, State.raise_rd, State.count_rd, State.wrs, State.rd_wr_ne, State.rd_wr_same]
  exact ⟨rfl, Nat.mod_eq_of_lt hid, Nat.mod_eq_of_lt hheld, Nat.mod_eq_of_lt hasked⟩

/-- A command that ends in a refused request. -/
theorem exists_fin_orderRefuse (hid : id < 16) (hheld : held < 8) (hasked : asked < 4) :
    ∃ t, fin (s.orderRefuse id held asked) = .next t ∧ t.arb.pend = s.arb.pend ∧ t.rd Reg.ARB_FLAGS_ORDER = 1 ∧
      t.rd Reg.ARB_ORDER_LOG_REQ = id ∧ t.rd Reg.ARB_ORDER_LOG_HELD = held ∧ t.rd Reg.ARB_ORDER_LOG_ASKED = asked ∧
      bit t.intCause 2 = true := by
  refine exists_fin ?_
  simp only [State.evcEdge_arb, State.evcEdge_rd]
  obtain ⟨horder, hreq, hlogHeld, hlogAsked⟩ := s.orderRefuse_reads hid hheld hasked
  exact ⟨by rw [State.orderRefuse_arb], horder, hreq, hlogHeld, hlogAsked, State.evcEdge_causes State.bit_raise⟩

theorem State.busRaise_of_owner (hown : s.ownsBus id = true) : s.busRaise id c ask = s.orderRefuse id 1 1 := if_pos hown

/-- A request of a requester that has none is put among those that wait. -/
theorem State.busRaise_pend (hown : s.ownsBus id = false) (hpend : ∀ r ∈ s.arb.pend, reqOf r.id ≠ reqOf id)
    (hwinner : ∀ r, s.arb.winner = some r → reqOf r.id ≠ reqOf id) : (s.busRaise id c ask).arb.pend = s.arb.pend ++
      [⟨id, c.beat % 0x2000, c.write, min c.beats (legalBeats id), ask.cont, (s.arb.running.isSome && !ask.last) || s.arb.winner.isSome,
        enableBits c.write ask.enables⟩] := by
  have hnone : ¬ (s.arb.pend.any (fun r => reqOf r.id == reqOf id) || s.arb.winner.any fun r => reqOf r.id == reqOf id) = true := by
    have hwin : s.arb.winner.any (fun r => reqOf r.id == reqOf id) = false := by simpa [Option.any_eq_false] using hwinner
    simpa [hwin] using hpend
  simp [State.busRaise, hown, hnone]

theorem exec_coachBusRequest {beat beats : Nat} {write : Bool} (hmay : s.mayAsk req.val = true)
    (hin : inMemory ⟨beat, write, min beats (legalBeats req.val), []⟩ = true) :
    exec (.coachBusRequest req beat write beats ask) s = fin (s.busRaise req.val { beat := beat, write := write, beats := beats } ask) :=
  (if_pos hmay).trans (congrArg fin (if_pos hin))

theorem exec_coachBusRequest_outside {beat beats : Nat} {write : Bool}
    (hin : inMemory ⟨beat, write, min beats (legalBeats req.val), []⟩ = false) :
    exec (.coachBusRequest req beat write beats ask) s = fin s := by
  change execCoachBusRequest req beat write beats ask s = fin s
  simp [execCoachBusRequest, State.busAsk, hin]

/-- A request for a resource no higher than one held is refused. -/
theorem exec_resourceRequest_refused (hlow : 1 ≤ asked) (hhigh : asked ≤ 3)
    (horder : orderRefused (held % 8 ||| b2n (s.ownsBus req.val)) asked = true) :
    exec (.resourceRequest req held asked) s = fin (s.orderRefuse req.val (held % 8 ||| b2n (s.ownsBus req.val)) asked) :=
  if_pos ⟨hlow, hhigh, horder⟩

/-- In rank order, or for no resource, a request is left to its resource. -/
theorem exec_resourceRequest_granted
    (h : asked = 0 ∨ 3 < asked ∨ orderRefused (held % 8 ||| b2n (s.ownsBus req.val)) asked = false) :
    exec (.resourceRequest req held asked) s = fin s := by
  refine if_neg fun ⟨hlow, hhigh, horder⟩ => ?_
  rcases h with rfl | habove | hranked
  · exact absurd hlow (by decide)
  · omega
  · exact Bool.false_ne_true (hranked.symm.trans horder)

theorem b2n_lt_two (b : Bool) : b2n b < 2 := by cases b <;> decide

theorem ranksHeld_lt (b : Bool) : held % 8 ||| b2n b < 8 :=
  Nat.or_lt_two_pow (n := 3) (Nat.mod_lt _ (by decide)) ((b2n_lt_two b).trans (by decide))

end Sys2Proof.Machine
end

section
/-! An arbitration with one request waiting (R115, R116). -/

namespace Sys2Proof.Machine

variable {s : State} {r : BusReq} {how : WonBy} {p wait : Nat} {seatOk seatBad : Bool}

/-- The background IDs, from any of them on, reach every ID. -/
theorem mem_backgroundIds {last id : Nat} (hid : id < 16) : id ∈ (upTo 16).map fun k => (last + 1 + k) % 16 :=
  List.mem_map.mpr ⟨(id + 15 * (last + 1)) % 16, List.mem_range.mpr (Nat.mod_lt _ (by decide)), by omega⟩

/-- In the background, the one request that may win does at the turn of its ID. -/
theorem background_alone {ids : List Nat} (hmem : r.id ∈ ids) :
    (ids.findSome? fun id => ([r].find? fun q => q.id == id).map fun q => (q, WonBy.bg)) = some (r, .bg) := by
  induction ids with
  | nil => cases hmem
  | cons id ids ih =>
    by_cases h : r.id = id
    · simp [h]
    · simpa [List.findSome?_cons, h] using ih ((List.mem_cons.mp hmem).resolve_left h)

/-- A request that waits alone wins, by its seat or in the background. -/
theorem State.arbitrate_alone (hpend : s.arb.pend = [r]) (hpassed : s.arb.passed = []) (hid : r.id < 16) (hcont : r.cont = false)
    (hclk : s.on Reg.CLK_STAT_FALLBACK = false) : ∃ how, s.arbitrate p seatOk = some (r, how) := by
  have helig : s.arb.pend.filter (fun q => !s.arb.excluded q.id) = [r] := by simp [ArbS.excluded, hpend, hpassed]
  have hnocont : s.arb.pend.find? (fun q => q.cont && decide (q.id ≤ 2)) = none := by simp [hpend, hcont]
  simp only [State.arbitrate, hnocont, hclk, helig, Bool.false_eq_true, if_false, background_alone (mem_backgroundIds hid)]
  split
  · rename_i q hseat
    split at hseat
    · exact ⟨.seat, by rw [List.mem_singleton.mp (List.mem_of_find?_eq_some hseat)]⟩
    · cases hseat
  · exact ⟨.bg, rfl⟩

/-- What an arbitration counts and records before its winner is granted the bus (R116, R117, R119). -/
def State.seatRecord (s : State) (r : BusReq) (how : WonBy) (seatBad : Bool) : State :=
  let open_ := how == .seat || how == .bg
  let s2 := s.countIf (open_ && s.arb.pend.any (fun q => s.arb.excluded q.id)) 0x05
  let s3 := if open_ && seatBad then s2.seatParity else s2
  if how == .bg then s3.wr Reg.ARB_LAST_BG_ID r.id else s3

theorem State.arbiter_eq (h : s.arbitrate p (!seatBad) = some (r, how)) : s.arbiter p seatBad wait none =
    (((s.seatRecord r how seatBad).winRecord r how wait).busGrant r).parkRest := by
  rw [State.arbiter, h]
  rfl

theorem Touches.seatParity : Touches [] [Reg.ARB_FLAGS_SEAT_PAR, Reg.MEM_ERR_SEAT] s s.seatParity :=
  .of (by decide) ((refl s).wr.count.raise.andThen memErr)

theorem Touches.seatRecord : Touches [] [Reg.ARB_FLAGS_SEAT_PAR, Reg.MEM_ERR_SEAT, Reg.ARB_LAST_BG_ID] s (s.seatRecord r how seatBad) := by
  unfold State.seatRecord
  extract_lets _ s2 s3
  have hs3 : Touches [] [Reg.ARB_FLAGS_SEAT_PAR, Reg.MEM_ERR_SEAT] s s3 :=
    .of (by decide) (branch ((refl s).countIf.andThen seatParity) (refl s).countIf)
  exact .of (by decide) (branch hs3.wr hs3)

theorem State.winRecord_arb : (s.winRecord r how wait).arb = s.arb.win r how := by
  have hnote : ∀ t : State, (t.noteWait r.id wait).arb = t.arb := fun t =>
    (Touches.branch (Touches.refl t).wrAt (.refl t)).parts .arb (by decide)
  unfold State.winRecord
  rw [hnote]
  cases how <;> simp

/-- A winner is given an idle bus at once (R115). -/
theorem State.busGrant_idle (h : s.arb.running = none) : (s.busGrant r).arb = { s.arb with running := some r, held := false } ∧
    (s.busGrant r).rd Reg.ARB_STATUS_OWNER = r.id % 16 ∧ (s.busGrant r).rd Reg.ARB_STATUS_BUSY = 1 := by
  have he : s.busGrant r = ({ (s.count 0x00).count (0x10 + reqOf r.id) with arb := { s.arb with running := some r, held := false } } : State).wrs
      [(Reg.ARB_STATUS_OWNER, r.id), (Reg.ARB_STATUS_BUSY, 1)] := by
    simp [State.busGrant, h]
  rw [he]
  refine ⟨rfl, ?_, ?_⟩ <;> simp (disch := decide) only [State.wrs, State.rd_wr_ne, State.rd_wr_same] <;> rfl

theorem Touches.parkRest : Touches [.arb] [] s s.parkRest := .of (by decide) (refl s).setArb.countN

theorem State.parkRest_running : s.parkRest.arb.running = s.arb.running := by simp [State.parkRest]

theorem State.parkRest_pend (h : s.arb.pend = []) : s.parkRest.arb.pend = [] := by simp [State.parkRest, h]

theorem State.raiseAgain_nil : (s.raiseAgain []).arb = s.arb := by simp [State.raiseAgain]

theorem Touches.raiseAgain {bad : List BusReq} : Touches [.arb] [] s (s.raiseAgain bad) := .of (by decide) (refl s).setArb.countN

/-- The machine at an arbitration, with the pointer's place shown. -/
def State.atPointer (s : State) (pointer : Nat) : State := s.wr Reg.ARB_STATUS_POINTER (s.pointerAt pointer)

theorem exec_arbitration_alone {pointer : Nat} (hpend : s.arb.pend = [r]) (hwinner : s.arb.winner = none) :
    exec (.arbitration pointer seatBad [] wait none) s =
      fin (((s.atPointer pointer).arbiter (s.pointerAt pointer) seatBad wait none).raiseAgain []) := by
  change execArbitration pointer seatBad [] wait none s = _
  simp [execArbitration, hpend, hwinner, State.dropBadPend, State.atPointer]

/-- Alone, a request becomes the owner whatever the seat. -/
theorem exec_arbitration_owner {pointer : Nat} (hpend : s.arb.pend = [r]) (hpassed : s.arb.passed = []) (hwinner : s.arb.winner = none)
    (hidle : s.arb.running = none) (hid : r.id < 15) (hcont : r.cont = false) (hclk : s.on Reg.CLK_STAT_FALLBACK = false) :
    ∃ t, exec (.arbitration pointer seatBad [] wait none) s = .next t ∧ t.arb.running = some r ∧ t.arb.pend = [] ∧
      t.rd Reg.ARB_STATUS_OWNER = r.id ∧ t.rd Reg.ARB_STATUS_BUSY = 1 := by
  obtain ⟨how, hwon⟩ := (s.atPointer pointer).arbitrate_alone (p := s.pointerAt pointer) (seatOk := !seatBad) hpend hpassed
    (hid.trans (by decide)) hcont ((State.on_wr_ne (by decide)).trans hclk)
  have harb : (((s.atPointer pointer).seatRecord r how seatBad).winRecord r how wait).arb = s.arb.win r how := by
    rw [State.winRecord_arb, Touches.seatRecord.parts .arb (by decide)]
    rfl
  rw [exec_arbitration_alone hpend hwinner, State.arbiter_eq hwon]
  obtain ⟨u, hu⟩ : ∃ u, u = ((s.atPointer pointer).seatRecord r how seatBad).winRecord r how wait := ⟨_, rfl⟩
  rw [← hu] at harb ⊢
  obtain ⟨hgrant, howner, hbusy⟩ := u.busGrant_idle (r := r) ((congrArg ArbS.running harb).trans hidle)
  have hend := (Touches.parkRest (s := u.busGrant r)).andThen (.raiseAgain (bad := []))
  refine exists_fin ⟨?_, ?_, ?_, ?_⟩
  · rw [State.evcEdge_arb, State.raiseAgain_nil, State.parkRest_running, hgrant]
  · rw [State.evcEdge_arb, State.raiseAgain_nil, State.parkRest_pend]
    simp [hgrant, harb, ArbS.win, hpend]
  · rw [State.evcEdge_rd, hend.rd (by decide), howner, Nat.mod_eq_of_lt (hid.trans (by decide))]
  · rw [State.evcEdge_rd, hend.rd (by decide), hbusy]

end Sys2Proof.Machine
end

section
/-! A carriage held too long, and its end (R114, R123). -/

namespace Sys2Proof.Machine

variable {s t u : State} {r w : BusReq} {len : Nat}

theorem exec_holdLong_records (hrun : s.arb.running = some r) (hheld : s.arb.held = false) (hlimit : s.rd Reg.ARB_HOLD_HOLD_LIMIT ≠ 0) :
    ∃ t, exec .holdLong s = .next t ∧ t.rd Reg.ARB_FLAGS_HOLD_LONG = 1 ∧ t.rd Reg.ARB_HOLD_LOG_REQ = s.rd Reg.ARB_STATUS_OWNER % 16 ∧
      bit t.intCause 2 = true ∧ t.arb.held = true := by
  have he : exec .holdLong s = fin (((({ s with arb := { s.arb with held := true } } : State).wrs
      [(Reg.ARB_FLAGS_HOLD_LONG, 1), (Reg.ARB_HOLD_LOG_REQ, s.rd Reg.ARB_STATUS_OWNER)]).count 0x06).raise 2) := by
    change execHoldLong s = _
    simp [execHoldLong, State.holdLong, hrun, hheld, hlimit]
  rw [he]
  refine exists_fin ⟨?_, ?_, State.evcEdge_causes State.bit_raise, ?_⟩
  · simp (disch := decide) only [State.evcEdge_rd, State.raise_rd, State.count_rd, State.wrs, State.rd_wr_ne, State.rd_wr_same]
    rfl
  · simp only [State.evcEdge_rd, State.raise_rd, State.count_rd, State.wrs, State.rd_wr_same]
    rfl
  · simp [State.wrs]

/-- A carriage is recorded once. -/
theorem exec_holdLong_again (hheld : s.arb.held = true) : exec .holdLong s = fin s := by
  change execHoldLong s = fin s
  simp [execHoldLong, State.holdLong, hheld]

/-- From `s` to `t` the bus stays with its owner and with the winner that waits for it, whatever else is asked for. -/
structure State.OwnerKept (s t : State) : Prop where
  running : t.arb.running = s.arb.running
  winner : t.arb.winner = s.arb.winner
  touches : Touches [.arb, .convs] (Reg.CONV_DATA_NEW :: Touches.busFlds) s t

namespace State.OwnerKept

theorem of_touches (h : Touches [.convs] [Reg.CONV_DATA_NEW] s t) : s.OwnerKept t :=
  have harb : t.arb = s.arb := h.parts .arb (by decide)
  ⟨congrArg ArbS.running harb, congrArg ArbS.winner harb, h.of (by decide)⟩

theorem refl (s : State) : s.OwnerKept s := of_touches (.of (by decide) (.refl s))

theorem trans (h : s.OwnerKept t) (g : t.OwnerKept u) : s.OwnerKept u :=
  ⟨g.running.trans h.running, g.winner.trans h.winner, h.touches.trans g.touches⟩

theorem branch {c : Prop} {inst : Decidable c} (ht : s.OwnerKept t) (hu : s.OwnerKept u) : s.OwnerKept (if c then t else u) := by
  split
  · exact ht
  · exact hu

theorem orderRefuse {id held asked : Nat} : s.OwnerKept (s.orderRefuse id held asked) :=
  ⟨by rw [State.orderRefuse_arb], by rw [State.orderRefuse_arb],
    .of (by decide) (Touches.refl s).setArb.wr.wr.wr.wr.count.raise⟩

theorem setArb {a : ArbS} (hrun : a.running = s.arb.running) (hwinner : a.winner = s.arb.winner) : s.OwnerKept { s with arb := a } :=
  ⟨hrun, hwinner, .of (by decide) (Touches.refl s).setArb⟩

theorem countIf {b : Bool} {code : Nat} (h : s.OwnerKept t) : s.OwnerKept (t.countIf b code) :=
  ⟨by rw [State.countIf_arb, h.running], by rw [State.countIf_arb, h.winner], h.touches.countIf⟩

theorem busRaise {id : Nat} {c : Carriage} {ask : Ask} : s.OwnerKept (s.busRaise id c ask) :=
  branch orderRefuse (branch (refl s) (countIf (setArb (by rfl) (by rfl))))

theorem busAsk {id : Nat} {c : Carriage} {ask : Ask} : s.OwnerKept (s.busAsk id c ask) := branch busRaise (refl s)

theorem fetchNext : s.OwnerKept s.fetchNext := by
  unfold State.fetchNext
  refine branch (refl s) ?_
  split
  · exact refl s
  · exact trans (setArb (by rfl) (by rfl)) busAsk

theorem moverAsk : s.OwnerKept s.moverAsk := branch busRaise (refl s)

theorem moverTake {c : Nat} : s.OwnerKept (s.moverTake c) := by
  refine of_touches ?_
  unfold State.moverTake
  extract_lets x
  split
  · exact .of (by decide) (.branch (Touches.refl s).setConv.wrAt (.refl s))
  · exact .of (by decide) (.refl s)

theorem foldl_snd {α β : Type} {l : List α} {f : β × State → α → β × State} {x : β × State}
    (hf : ∀ (y : β × State) a, y.2.OwnerKept (f y a).2) : x.2.OwnerKept (l.foldl f x).2 := by
  induction l generalizing x with
  | nil => exact refl x.2
  | cons a l ih => exact (hf x a).trans ih

theorem moverCarriage : s.OwnerKept s.moverCarriage := by
  refine trans (foldl_snd (x := (16, s)) fun y c => ?_) moverAsk
  exact trans (of_touches (.of (by decide) (Touches.refl y.2).setConv)) moverTake

end State.OwnerKept

/-- The end of a carriage passes the bus on (R114); what follows it leaves the bus where it is. -/
theorem exec_carriageEnd (hrun : s.arb.running = some r) :
    ∃ u t : State, u.arb.winner = s.arb.winner ∧ u.busPass.OwnerKept t ∧ exec (.carriageEnd len) s = fin t := by
  change ∃ u t : State, _ ∧ _ ∧ execCarriageEnd len s = fin t
  simp only [execCarriageEnd, hrun]
  refine ⟨_, _, ?_, .trans .fetchNext (.branch .moverCarriage (.refl _)), rfl⟩
  have hlong : s.holdLong.arb.winner = s.arb.winner := by
    unfold State.holdLong
    split
    · rfl
    · simp [State.wrs]
  split_ifs <;> simp [hlong]

/-- A winner that waits becomes the owner. -/
theorem exec_carriageEnd_passes (hrun : s.arb.running = some r) (hwinner : s.arb.winner = some w) :
    ∃ t, exec (.carriageEnd len) s = .next t ∧ t.arb.running = some w ∧ t.arb.winner = none ∧ t.rd Reg.ARB_STATUS_OWNER = w.id % 16 := by
  obtain ⟨u, t, hu, ht, he⟩ := exec_carriageEnd (len := len) hrun
  have hpass : u.busPass = ({ u with arb := { u.arb with running := some w, winner := none, held := false } } : State).wrs
      [(Reg.ARB_STATUS_OWNER, w.id), (Reg.ARB_STATUS_BUSY, 1)] := by rw [State.busPass, hu, hwinner]
  rw [hpass] at ht
  rw [he]
  refine exists_fin ⟨?_, ?_, ?_⟩
  · rw [State.evcEdge_arb, ht.running]
    rfl
  · rw [State.evcEdge_arb, ht.winner]
    rfl
  · rw [State.evcEdge_rd, ht.touches.rd (by decide)]
    simp (disch := decide) only [State.wrs, State.rd_wr_ne, State.rd_wr_same]
    rfl

/-- With no winner decided the bus is idle. -/
theorem exec_carriageEnd_idle (hrun : s.arb.running = some r) (hwinner : s.arb.winner = none) :
    ∃ t, exec (.carriageEnd len) s = .next t ∧ t.arb.running = none ∧ t.rd Reg.ARB_STATUS_BUSY = 0 := by
  obtain ⟨u, t, hu, ht, he⟩ := exec_carriageEnd (len := len) hrun
  have hpass : u.busPass = ({ u with arb := { u.arb with running := none, held := false } } : State).wr Reg.ARB_STATUS_BUSY 0 := by
    rw [State.busPass, hu, hwinner]
  rw [hpass] at ht
  rw [he]
  refine exists_fin ⟨?_, ?_⟩
  · rw [State.evcEdge_arb, ht.running]
    rfl
  · rw [State.evcEdge_rd, ht.touches.rd (by decide), State.rd_wr_same]
    rfl

end Sys2Proof.Machine
end

section
/-! The swap of the seat plans (R126). -/

namespace Sys2Proof.Machine

variable {s : State} {f g : Fld} {k : Nat}

/-- A field copied from another for each number of a list. -/
theorem State.each_copy {l : List Nat} (hne : g.id ≠ f.id) (hk : k ∈ l) :
    (s.each l fun t j => t.wrAt f j (t.rdAt g j)).rdAt f k = s.rdAt g k % 2 ^ f.w := by
  induction l using List.reverseRecOn with
  | nil => cases hk
  | append_singleton l j ih =>
    have hsource : (s.each l fun t j => t.wrAt f j (t.rdAt g j)).rdAt g j = s.rdAt g j :=
      (Touches.foldl_mem (L := [f]) (P := []) fun t i _ => (Touches.refl t).wrAt).rdAt (by simpa using hne) j
    rw [State.each, List.foldl_append]
    change ((s.each l _).wrAt f j ((s.each l _).rdAt g j)).rdAt f k = _
    by_cases hkj : k = j
    · rw [hkj, State.rdAt_wrAt_same, hsource]
    · rw [State.rdAt_wrAt_ne _ _ _ _ _ _ fun h => hkj h.2]
      exact ih (by simpa [hkj] using hk)

/-- The active plan with the shadow seats, before the rest of the swap. -/
def State.seatsCopied (s : State) : State := s.each (upTo 16) fun t k => t.wrAt Reg.ARB_ACT_SEATS k (t.rdAt Reg.ARB_SHD_SEATS k)

/-- What a swap writes beside the seats. -/
def Touches.swapFlds : List Fld := [Reg.ARB_STATUS_SEAT_COUNT, Reg.ARB_STATUS_POINTER, Reg.ARB_STATUS_SWAP_PEND, Reg.ARB_SWAP_REQ]

theorem Touches.seatSwap_of_seatsCopied : Touches [] swapFlds s.seatsCopied s.seatSwap := .of (by decide) (refl s.seatsCopied).wr.wr.wr.wr.count

theorem State.seatSwap_seats (hk : k < 16) : s.seatSwap.rdAt Reg.ARB_ACT_SEATS k = s.rdAt Reg.ARB_SHD_SEATS k % 2 ^ 32 := by
  rw [Touches.seatSwap_of_seatsCopied.rdAt (by decide)]
  exact State.each_copy (by decide) (List.mem_range.mpr hk)

theorem State.seatSwap_reads : s.seatSwap.rd Reg.ARB_STATUS_SEAT_COUNT = s.rd Reg.ARB_SWAP_SHADOW_COUNT % 128 ∧
    s.seatSwap.rd Reg.ARB_STATUS_POINTER = 0 ∧ s.seatSwap.rd Reg.ARB_STATUS_SWAP_PEND = 0 ∧ s.seatSwap.rd Reg.ARB_SWAP_REQ = 0 := by
  simp (disch := decide) only [State.seatSwap, State.count_rd, State.wrs, State.rd_wr_ne, State.rd_wr_same]
  exact ⟨rfl, rfl, rfl, rfl⟩

/-- A swap at the wrap; it may end a seat-plan update too (R319). -/
theorem exec_seatPlanSwap (hpend : s.on Reg.ARB_STATUS_SWAP_PEND = true) : ∃ t, exec .seatPlanSwap s = fin t ∧
    Touches [.rgn] Touches.rgnFlds s.seatSwap t :=
  ⟨_, if_pos hpend, .of (by decide) ((Touches.refl s.seatSwap).whenB fun _ => .rgnDone)⟩

theorem exec_seatPlanSwap_copies (hpend : s.on Reg.ARB_STATUS_SWAP_PEND = true) :
    ∃ t, exec .seatPlanSwap s = .next t ∧ (∀ k : Nat, k < 16 → t.rdAt Reg.ARB_ACT_SEATS k = s.rdAt Reg.ARB_SHD_SEATS k % 2 ^ 32) ∧
      t.rd Reg.ARB_STATUS_SEAT_COUNT = s.rd Reg.ARB_SWAP_SHADOW_COUNT % 128 ∧ t.rd Reg.ARB_STATUS_POINTER = 0 ∧
      t.rd Reg.ARB_STATUS_SWAP_PEND = 0 ∧ t.rd Reg.ARB_SWAP_REQ = 0 := by
  obtain ⟨t, he, ht⟩ := exec_seatPlanSwap hpend
  obtain ⟨hcount, hpointer, hswap, hreq⟩ := s.seatSwap_reads
  rw [he]
  refine exists_fin ⟨fun k hk => ?_, ?_, ?_, ?_, ?_⟩
  · rw [State.evcEdge_rdAt, ht.rdAt (by decide), State.seatSwap_seats hk]
  all_goals rw [State.evcEdge_rd, ht.rd (by decide)]; assumption

/-- Settles O5: each command is reduced to what it makes of the bus; what follows that leaves the bus with its owner (`State.OwnerKept`) and
the registers named alone (`Touches`). -/
theorem seatsAndArbitration : Obligations.SeatsAndArbitration := by
  refine ⟨fun s req beat beats write ask hmay hown hin hpend hwinner => ?_, fun s req beat beats write ask hin => ?_,
    fun s req beat beats write ask hmay hown hin => ?_, fun _ _ _ _ _ => exec_arbitration_owner, fun _ _ => exec_holdLong_records,
    fun s hheld => ?_, fun _ _ _ _ => exec_carriageEnd_passes, fun _ _ _ => exec_carriageEnd_idle, fun _ => exec_seatPlanSwap_copies,
    fun s req held asked hlow hhigh horder => ?_, fun s req held asked h => ?_⟩
  case refine_1 =>
    rw [exec_coachBusRequest hmay hin]
    exact exists_fin ((congrArg ArbS.pend (State.evcEdge_arb _)).trans (State.busRaise_pend hown hpend hwinner))
  case refine_2 =>
    rw [exec_coachBusRequest_outside hin]
    exact exists_fin ⟨State.evcEdge_arb s, State.evcEdge_regs s⟩
  case refine_3 =>
    obtain ⟨t, ht, hpend, horder, hreq, -, -, hcause⟩ := exists_fin_orderRefuse (s := s) (held := 1) (asked := 1)
      (req.isLt.trans (by decide)) (by decide) (by decide)
    rw [exec_coachBusRequest hmay hin, State.busRaise_of_owner hown]
    exact ⟨t, ht, hpend, horder, hreq, hcause⟩
  case refine_4 =>
    rw [exec_holdLong_again hheld]
    exact exists_fin ⟨State.evcEdge_regs s, State.evcEdge_arb s⟩
  case refine_5 =>
    obtain ⟨t, ht, -, hreads⟩ := exists_fin_orderRefuse (s := s) (req.isLt.trans (by decide)) (ranksHeld_lt (held := held) (s.ownsBus req.val))
      (Nat.lt_succ_of_le hhigh)
    rw [exec_resourceRequest_refused hlow hhigh horder]
    exact ⟨t, ht, hreads⟩
  case refine_6 =>
    rw [exec_resourceRequest_granted h]
    exact exists_fin (State.evcEdge_evcOnly s)

end Sys2Proof.Machine
end

section
/-! What the operations of the inputs, the converters and their calibration touch (R132 to R190), beside those of which other commands
are made. -/

namespace Sys2Proof.Machine

variable {s t m : State} {c i n k : Nat} {x : Int}

namespace Touches

/-! From a raw result to the result store (R132 to R145, R151 to R154). -/

/-- What the occupancy of a channel writes (R141, R142, R340). -/
def occFlds : List Fld := [Reg.OCC_STAT_CH_OCC, Reg.OCC_ZONE_OCC, Hid.wakeOcc]

/-- What a stored result writes, beside the register of its input, at those that use it (R141, R217, R254, R351, R371, R443). -/
def userFlds : List Fld :=
  [Reg.CONV_FLAGS_CLIP, Hid.aiVal, Hid.aiRsn, Hid.izCode, Reg.PWR_VMEAS0_VDD_IO, Reg.PWR_VMEAS0_VDDA, Reg.PWR_VMEAS1_VM,
    Reg.PWR_VMEAS1_VCORE, Hid.vlvVm, Hid.tsGot, Hid.tsNew, Hid.occRun, Hid.occLast, Reg.OCC_STAT_DET, Reg.OCC_FLOOR_FLOOR] ++ occFlds

/-- What a stored result writes (R152). -/
def storeFlds : List Fld :=
  [Reg.UI_VALUE_VALUE, Reg.UI_VALUE_VALID, Reg.UI_VALUE_REASON, Reg.UI_VALUE_SRC, Reg.UI_AGE_AGE] ++ userFlds

/-- What a result that has been filtered and converted writes (R152, R156). -/
def emitFlds : List Fld := [Hid.iirY, Reg.UI_STAT_RELOAD, Hid.izCorr] ++ storeFlds

/-- What a complete scan entry writes (R152, R154, R185). -/
def entryFlds : List Fld :=
  [Reg.UI_RAW_RAW, Hid.sysSum, Hid.sysCnt, Reg.CAL_SYS_STAT_COUNT, Hid.sysClip, Hid.winSum, Hid.winCnt, Hid.winSrc] ++ emitFlds

theorem setOcc {b} : Touches [] occFlds s (s.setOcc n b) := .of (by decide) ((refl s).putBit.andThen refreshZones)

theorem occStep : Touches [] userFlds s (s.occStep n x) := by
  unfold State.occStep
  extract_lets m floor base run t1 u f t2
  have h1 : Touches [] userFlds s t1 := .of (by decide) (refl s).wrAt
  have hu : Touches [] userFlds t1 u := .of (by decide) (refl t1).countIf.putBit
  have h2 : Touches [] userFlds s t2 := .of (by decide) (refl s).wrAt.putBit.wrAt
  have hocc : ∀ (v : State) b, Touches [] userFlds v (v.setOcc n b) := fun v b => .of (by decide) setOcc
  exact either (.of (by decide) (refl s)) (either (either (h1.trans (hu.trans (.of (by decide) ((refl u).wrAt.andThen setOcc))))
    (h1.trans (hocc _ _))) (h2.trans (hocc _ _)))

theorem housekeep : Touches [] userFlds s (s.housekeep i x) :=
  .of (by decide) (branch (refl s).wr (branch (refl s).wr (branch (refl s).wr.wr (branch (refl s).wr (branch (refl s).wrI.wrAt (refl s))))))

theorem netStore {r} : Touches [] userFlds s (s.netStore i x r) := .of (by decide) (branch (refl s).wrAt.wrAt (refl s))

theorem izStore {r} : Touches [] userFlds s (s.izStore i x r) := .of (by decide) (branch (refl s) (refl s).wrAt)

theorem storeResult {r src} : Touches [] storeFlds s (s.storeResult i x r src) := by
  unfold State.storeResult
  extract_lets t u w
  have hu : Touches [] storeFlds s u := .of (by decide) (refl s).wrAt.wrAt.wrAt.wrAt.wrAt.count.countIf.countIf.countIf.countIf
  have hw : Touches [] storeFlds u w := .of (by decide) ((((refl u).whenB fun t => (refl t).wr).andThen netStore).andThen izStore)
  exact (hu.trans hw).trans (.of (by decide) (branch (branch occStep housekeep) (refl w)))

theorem settleValue {v} : Touches [] [] s (s.settleValue v).2 := by
  unfold State.settleValue
  split
  · exact .of (by decide) (branch_snd ((refl s).freeBelow (n := 2)) (refl s))
  · exact (refl s).freeBelow (n := 65536)

theorem storeConverted {mark src set} : Touches [] emitFlds s (s.storeConverted i x mark src set) :=
  .of (by decide) ((((refl s).whenB fun t => (refl t).wrI).andThen settleValue).andThen storeResult)

theorem emit {src set} : Touches [] emitFlds s (s.emit i x src set) := .of (by decide) ((refl s).wrI.wrAt.andThen storeConverted)

theorem sysTake {settle limit} : Touches [] entryFlds s (s.sysTake i x settle limit) :=
  .of (by decide) (branch ((refl s).wrI.wr.wr.whenB fun t => (refl t).wr) (refl s))

theorem moverEntry {a src} : Touches [] entryFlds s (s.moverEntry a src) := by
  unfold State.moverEntry
  extract_lets i avg c mark t u
  have ht : Touches [] entryFlds s t := .of (by decide) ((refl s).wrAt.andThen sysTake)
  have hu : Touches [] entryFlds t u := .of (by decide) (refl t).wrI.wrAt.wrAt
  have hmarked : ∀ (v : State) k, Touches [] entryFlds v ((v.storeConverted i c k src a.set).wrAt Reg.UI_STAT_RELOAD i 1) := fun _ _ =>
    .of (by decide) storeConverted.wrAt
  exact ht.trans (either (hmarked t _) (either (.of (by decide) emit) (either (.of (by decide) (refl t))
    (hu.trans (either (hmarked u _) (.of (by decide) (refl u)))))))

theorem uiLogicOne {us} : Touches [] (Reg.UI_STAT_SETTLE_LEFT :: Reg.UI_STAT_RELOAD :: storeFlds) s (s.uiLogicOne us i) := by
  unfold State.uiLogicOne
  extract_lets m left t r
  have ht : Touches [] [Reg.UI_STAT_SETTLE_LEFT] s t := .of (by decide) (branch (refl s) (refl s).wrAt)
  exact .of (by decide) (branch (refl s) (((ht.andThen settleValue).andThen storeResult).whenB fun u => (refl u).wrAt))

/-- What the end of a poll writes that has failed (R145). -/
def pollFlds : List Fld := [Reg.SNS_VAL_FAILS, Reg.SNS_STAT_BUSY, Reg.SNS_VAL_VALID, Reg.SNS_VAL_REASON, Reg.SNS_STAT_INVALID]

theorem pollFail : Touches [] pollFlds s (s.pollFail n) :=
  .of (by decide) (branch (refl s).wrAt.wr.count.wrsAt.wr.count (refl s).wrAt.wr.count)

theorem setPulses {l} (hs : Touches [] [] m s) : Touches [.pulses] [] m { s with pulses := l } := hs.set [.pulses] rfl rfl rfl

theorem setSnsTx {r} : Touches [.snsTx] [] s { s with snsTx := r } := (refl s).set [.snsTx] rfl rfl rfl

/-! Scan entries, the mover's buffers and urgent conversions (R129, R148 to R161). -/

theorem moverTake : Touches [.convs] [Reg.CONV_DATA_NEW] s (s.moverTake c) := by
  unfold State.moverTake
  extract_lets x
  split
  · exact .of (by decide) (branch (refl s).setConv.wrAt (refl s))
  · exact .of (by decide) (refl s)

theorem moverAsk : Touches [.arb] busFlds s s.moverAsk := .of (by decide) (branch busRaise (refl s))

theorem restCheck {gapLong} : Touches [.convs] [] s (s.restCheck c gapLong) := .of (by decide) (branch powerDown (refl s))

theorem loseRaw {r} : Touches [.convs] [] s (s.loseRaw c r) := .of (by decide) (branch (refl s) (refl s).setConv.count)

/-- What a result writes that is placed in CONV_DATA (R151), and the mover's request for it (R129). -/
def dataFlds : List Fld :=
  [Reg.CONV_DATA_VALUE, Reg.CONV_DATA_INPUT, Reg.CONV_DATA_VALID, Reg.CONV_DATA_REASON, Reg.CONV_DATA_OVR, Reg.CONV_DATA_NEW,
    Reg.CONV_FLAGS_OVR] ++ busFlds

theorem placeData {r} : Touches [.convs, .arb] dataFlds s (s.placeData c r) := by
  unfold State.placeData
  extract_lets old lim reason s0 _ t u
  have h0 : Touches [.convs, .arb] dataFlds s s0 := by
    unfold s0
    clear_value old
    cases old with
    | none => exact .of (by decide) (refl s)
    | some o => exact .of (by decide) loseRaw
  have hu : Touches [.convs, .arb] dataFlds s0 u := .of (by decide) (refl s0).setConv.wrAt.wrAt.wrAt.wrAt.wrAt.wrAt.count
  exact h0.trans (hu.trans (.of (by decide) (((branch (refl u).or.count (refl u)).andThen moverTake).andThen moverAsk)))

theorem urgKept {src} : Touches [.convs, .urgMore, .cals, .xchks] dropFlds s (s.urgKept src n) := by
  induction n generalizing s with
  | zero => exact .of (by decide) (refl s)
  | succ n ih =>
    refine either (.of (by decide) (refl s)) ?_
    split
    · exact .of (by decide) (refl s)
    · exact (Touches.of (by decide) ((refl s).setUrgMore.andThen urgSend)).trans ih

theorem urgNextKept {src} : Touches [.convs, .urgMore, .cals, .xchks] dropFlds s (s.urgNextKept src) := urgKept

/-- What an urgent result writes at its requester (R161). -/
def urgFlds : List Fld :=
  [Reg.CONV_URG_DONE, Reg.CONV_URG_BY, Reg.CONV_URG_RES_RAW, Reg.CONV_URG_RES_CORR, Hid.tsUrgCode, Hid.tsUrgNew]

theorem urgDeliver {u x} : Touches [.xchks] urgFlds s (s.urgDeliver u x) := by
  unfold State.urgDeliver
  extract_lets corr
  split
  · exact .of (by decide) (refl s).wr.wr.wr.wr
  · exact .of (by decide) (branch (refl s).wrI.wrAt (refl s))
  · exact .of (by decide) (refl s).setXchks
  · exact .of (by decide) (refl s)

/-! Calibration, relief and the health of the converters (R166 to R183). -/

/-- The trim set of a converter (R189). -/
def trimFlds : List Fld := [Reg.CAL_TRIM_LO_TAPS, Reg.CAL_TRIM_HI_TAPS]

/-- What is brought up to date of the relief (R182). -/
def reliefFlds : List Fld := [Reg.CAL_STAT_NO_RELIEF, Reg.CAL_STAT_UNSERVED]

/-- What the settings of an entry write as they take effect (R149, R154). -/
def forceFlds : List Fld := [Hid.uiSet, Reg.UI_STAT_LR_FILL, Hid.winSum, Hid.winCnt]

theorem setForce {set} : Touches [] forceFlds s (s.setForce i set) := .of (by decide) (branch (refl s).wrAt (refl s).wrAt.wrAt.wrAt.wrAt)

theorem applySys : Touches [] [Reg.UI_OFFSET_OFFSET, Reg.UI_GAIN_GAIN, Hid.sysNew] s (s.applySys i) :=
  .of (by decide) (branch (refl s).wrAt.wrAt.wrAt (refl s))

theorem reloadTrim : Touches [] trimFlds s (s.reloadTrim k) := .of (by decide) (refl s).wrAt.wrAt

theorem applyTaps {l} : Touches [] trimFlds s (s.applyTaps c l) := .of (by decide) (refl s).wrAt.wrAt

theorem calAbandonEach {d} : Touches [.convs, .cals, .relief] calFlds s (((s.calAbandon c).calAbandon d).calAbandon 2) :=
  calAbandon.trans (calAbandon.trans calAbandon)

theorem makeSuspect {failed} : Touches [.convs, .cals, .relief] (Reg.CAL_FLAGS_SUSPECT :: calFlds) s (s.makeSuspect c failed) := by
  unfold State.makeSuspect
  extract_lets t u _ v
  have hu : Touches [.convs, .cals, .relief] (Reg.CAL_FLAGS_SUSPECT :: calFlds) s u :=
    .of (by decide) ((refl s).wr.andThen (branch (refl t) calAbandonEach))
  have hv : Touches [.convs, .cals, .relief] (Reg.CAL_FLAGS_SUSPECT :: calFlds) s v := .of (by decide) hu.setCal
  exact either hv (.of (by decide) hv.setRelief)

theorem trimParity : Touches [.convs, .cals, .relief] ([Reg.MEM_ERR_TRIM, Reg.CAL_FLAGS_SUSPECT] ++ trimFlds ++ calFlds) s (s.trimParity c) := by
  unfold State.trimParity
  extract_lets t
  have ht : Touches [] (Reg.MEM_ERR_TRIM :: trimFlds) s t := .of (by decide) (memErr.andThen reloadTrim)
  exact .of (by decide) (branch ht (ht.andThen makeSuspect))

/-- What C's failure writes (R182). -/
def failFlds : List Fld := Reg.CAL_FLAGS_C_FAILED :: calFlds ++ reliefFlds

theorem failC : Touches [.convs, .cals, .relief] failFlds s s.failC := by
  unfold State.failC
  extract_lets s1 _ t
  have ht : Touches [.convs, .cals, .relief] failFlds s t :=
    .of (by decide) ((((calAbandon.trans calAbandon).setCal).wr.count).andThen traceReview)
  exact ht.trans (.of (by decide) (branch (((refl t).setRelief.setConv.andThen cIdle).andThen refreshRelief)
    ((refl t).setRelief.andThen refreshRelief)))

/-- What C's check before a relief writes, where it is dropped or C fails it (R170, R173). -/
def checkFlds : List Fld := failFlds ++ dropFlds

/-- The components that C's check may touch. -/
def checkParts : List Part := [.convs, .cals, .relief, .urgMore, .xchks]

theorem checkC {a b} : Touches checkParts checkFlds s (s.checkC a b).1 := by
  unfold State.checkC
  extract_lets x busy _ t u
  have ht : Touches checkParts checkFlds s t := .of (by decide) (refl s).countIf.setCal.count
  have hu : Touches checkParts checkFlds t u := .of (by decide) (refl t).countIf.count.count
  have hdrop : Touches checkParts checkFlds t (t.urgDrop ⟨.cal, 62, 2⟩) := .of (by decide) urgDrop
  have hfail : Touches checkParts checkFlds u u.failC := .of (by decide) failC
  split
  · exact ht.trans hdrop
  · split
    · exact ht.trans hu
    · dsimp only
      exact ht.trans (hu.trans hfail)

theorem handToC : Touches [.convs, .relief] [] s (s.handToC c) := .of (by decide) ((refl s).setConv.setRelief.count.andThen urgNext)

theorem handOff : Touches [.convs, .relief] [] s (s.handOff c) := .of (by decide) ((refl s).setConv.setConv.setRelief.count.andThen urgNext)

theorem handBack : Touches [.convs, .relief] [] s (s.handBack c) := .of (by decide) (handOff.andThen cIdle)

theorem settleBack : Touches [.convs, .cals] (trimFlds ++ calFlds) s (s.settleBack c) := by
  unfold State.settleBack
  extract_lets q t
  have ht : Touches [.convs, .cals] (trimFlds ++ calFlds) s t := .of (by decide) (branch (applyTaps.setCal.andThen calRecord) (refl s))
  exact either (.of (by decide) ht.setCal.count) ht

theorem calStart : Touches [.convs] [] s (s.calStart c) := .of (by decide) ((refl s).setConv.andThen urgNext)

theorem takeOver {e} : Touches [.convs, .relief] (forceFlds ++ reliefFlds) s (s.takeOver c e) := by
  unfold State.takeOver
  extract_lets t x u
  have hu : Touches [.convs, .relief] (forceFlds ++ reliefFlds) t u := by
    unfold u
    split
    · exact .of (by decide) ((refl t).setConv.andThen setForce)
    · exact .of (by decide) (refl t)
  exact (Touches.of (by decide) handToC).trans (hu.trans (.of (by decide) ((refl u).setRelief.andThen refreshRelief)))

/-- What a calibration that has ended writes. -/
def finishFlds : List Fld := trimFlds ++ calFlds

theorem calFinish {result reason taps} : Touches [.convs, .cals, .relief] finishFlds s (s.calFinish c result reason taps) := by
  unfold State.calFinish
  extract_lets t1 _ t2
  have h1 : Touches [.convs, .cals, .relief] finishFlds s t1 := .of (by decide) ((branch applyTaps (refl s)).andThen calRecord)
  have h2 : Touches [.convs, .cals, .relief] finishFlds s t2 := .of (by decide) (branch (refl s).setCal calRecord)
  exact either (h1.trans (.of (by decide) cIdle)) (either (.of (by decide) h2.setRelief) h2)

theorem urgMove : Touches [.convs, .urgMore, .cals, .xchks] dropFlds s (s.urgMove c) :=
  .of (by decide) (((refl s).setConv.setUrgMore.each fun t _ => (refl t).count.andThen urgPlace).andThen urgNextKept)

/-- What a replacement writes (R180, R182). -/
def replaceFlds : List Fld := Reg.CAL_FLAGS_REPLACED :: finishFlds ++ dropFlds ++ forceFlds ++ reliefFlds

/-- The components that a replacement may touch. -/
def replaceParts : List Part := [.convs, .urgMore, .cals, .xchks, .relief]

theorem replace : Touches replaceParts replaceFlds s (s.replace c) := by
  unfold State.replace
  extract_lets s1 e _ t _ u v
  have h1 : Touches replaceParts replaceFlds s s1 := .of (by decide) calAbandon
  have hu : Touches replaceParts replaceFlds s1 u :=
    .of (by decide) ((((refl s1).setCal.or.count.raise.setConv.andThen powerDown).andThen urgMove).andThen traceReview)
  have hv : Touches replaceParts replaceFlds u v := .of (by decide) (calAbandon.trans calAbandon)
  have hdone : ∀ (w : State) (r : Relief), Touches replaceParts replaceFlds w ({ w with relief := r } : State).refreshRelief := fun w r =>
    .of (by decide) ((refl w).setRelief.andThen refreshRelief)
  exact h1.trans (hu.trans (either (.of (by decide) refreshRelief) (either (hdone u _) (hv.trans (either (either
    (.of (by decide) ((settleBack.andThen handOff).andThen takeOver)) (hdone v _)) (.of (by decide) takeOver))))))

theorem healthClear : Touches [.convs, .urgMore, .cals, .xchks] dropFlds s (s.healthClear c) :=
  .of (by decide) (((refl s).setConv.setUrgMore.setCal.andThen urgNext).andThen urgNextKept)

theorem healthJudge {pass} : Touches replaceParts (Reg.CAL_FLAGS_SUSPECT :: replaceFlds) s (s.healthJudge c pass) := by
  unfold State.healthJudge
  extract_lets q t u
  have hs : ∀ r : State, Touches [] [] t r → Touches replaceParts (Reg.CAL_FLAGS_SUSPECT :: replaceFlds) s r := fun r h =>
    .of (by decide) ((refl s).countIf.andThen h)
  have ht := hs t (refl t)
  have hcal : ∀ r : CalS, Touches replaceParts (Reg.CAL_FLAGS_SUSPECT :: replaceFlds) s (t.setCal c r) := fun r => .of (by decide) ht.setCal
  have hreplace : Touches replaceParts (Reg.CAL_FLAGS_SUSPECT :: replaceFlds) s (t.replace c) := ht.trans (.of (by decide) replace)
  exact either (either ht (ht.trans (.of (by decide) makeSuspect))) (either (either (hcal _) (either hreplace (hcal _)))
    (either (either (either (.of (by decide) (hcal _).setRelief) (hcal _)) hreplace) ht))

/-! System calibration (R185, R186). -/

/-- What a point of a system calibration writes as it ends (R185, R186). -/
def sysFlds : List Fld :=
  [Reg.CAL_SYS_STAT_BUSY, Reg.CAL_SYS_STAT_RESULT, Reg.CAL_FLAGS_SYS_FAIL, Reg.CAL_SYS_M0_M0, Reg.CAL_SYS_M1_M1, Reg.CAL_SYS_NEW_GAIN,
    Reg.CAL_SYS_NEW_OFFSET, Hid.sysNew, Hid.sysNewOff, Hid.sysNewGain]

theorem sysFail {r} : Touches [] sysFlds s (s.sysFail r) := .of (by decide) (refl s).wr.wr

theorem sysJudge : Touches [] sysFlds s s.sysJudge := by
  unfold State.sysJudge
  extract_lets m0 m1 t0 t1 den num gain offset fit t g o
  have hfit : ∀ (u : State) f v lo hi, f ∈ sysFlds → Touches [] sysFlds u (fit u f v lo hi) := by
    intro u f v lo hi hf
    have hone : ∀ w : State, Touches [] [f] u w → Touches [] sysFlds u w := fun w h => h.more (by simp) (by simpa using hf)
    unfold fit
    split
    · exact hone _ (either (refl u).wr ((refl u).freeBelow (n := 65536)).wr)
    · exact hone _ ((refl u).freeBelow (n := 65536)).wr
  have ht : Touches [] sysFlds s t := (hfit _ _ _ _ _ (by decide)).trans (hfit _ _ _ _ _ (by decide))
  exact ht.trans (either sysFail (either sysFail (either sysFail (.of (by decide) (refl t).wr.wrAt.wrAt.wrAt))))

end Touches

end Sys2Proof.Machine
end

section
/-! What the commands of the inputs, the converters and their calibration leave alone (R142, R149, R154, R158, R172, R185). -/

namespace Sys2Proof.Machine

variable {s : State}

/-- What an answer may touch may be said of more than it does touch. -/
theorem TouchesOut.of {P P' : List Part} {L L' : List Fld} {o : Out} (h : covered P' L' P L = true) (ho : TouchesOut P' L' s o) :
    TouchesOut P L s o := fun t ht => (ho t ht).of h

namespace Touches

/-- What the start of a scan entry writes (R148, R149, R157, R186), with a parity error of the converter's trim set (R26). -/
def scanFlds : List Fld :=
  [Hid.uiDue, Reg.UI_STAT_SETTLE_LEFT, Reg.MEM_ERR_TRIM, Reg.CAL_FLAGS_SUSPECT, Reg.UI_OFFSET_OFFSET, Reg.UI_GAIN_GAIN, Hid.sysNew] ++
    trimFlds ++ calFlds ++ forceFlds

theorem execScanEntryStart {conv trimBad} : TouchesOut [.convs, .cals, .relief] scanFlds s (execScanEntryStart conv trimBad s) := by
  unfold Machine.execScanEntryStart
  extract_lets c x
  split
  · exact .fin (.of (by decide) (refl s))
  · split
    · exact .fin (.of (by decide) (refl s))
    · exact .fin (.of (by decide) ((((branch trimParity (refl s)).andThen applySys).wrAt.andThen setForce).whenB fun t => (refl t).wrAt).setConv)

theorem execConversionResult {conv code gapLong} : TouchesOut [.convs, .arb] dataFlds s (execConversionResult conv code gapLong s) := by
  unfold Machine.execConversionResult
  extract_lets c x
  split
  · exact .fin (.of (by decide) (refl s))
  · exact .of (by decide) (.branch (.fin (refl s)) (.branch (.fin ((refl s).setConv.setConv.andThen restCheck))
      (.fin (((refl s).setConv.andThen placeData).andThen restCheck))))

theorem execConverterStartUpDone {conv} : TouchesOut [.convs] [] s (execConverterStartUpDone conv s) :=
  .of (by decide) (.branch (.fin ((refl s).setConv.andThen urgNext)) (.fin (refl s)))

theorem execSampleMoverEntry {conv} :
    TouchesOut [.convs, .arb] (Reg.CONV_DATA_NEW :: busFlds ++ entryFlds) s (execSampleMoverEntry conv s) := by
  unfold Machine.execSampleMoverEntry
  extract_lets c x d
  split
  · exact .fin (.of (by decide) (((refl s).setConv.andThen moverTake).andThen moverAsk))
  · extract_lets t u
    have hu : Touches [.convs] entryFlds s u := by
      refine (Touches.of (by decide) (refl s).setConv : Touches [.convs] entryFlds s t).trans ?_
      unfold u
      split
      · exact .of (by decide) (branch moverEntry (refl t))
      · exact .of (by decide) (refl t)
    exact .fin (.of (by decide) ((hu.andThen moverTake).andThen moverAsk))

theorem execOccHoldExpiry {chan} : TouchesOut [] occFlds s (execOccHoldExpiry chan s) :=
  .of (by decide) (.branch (.fin (refl s)) (.fin setOcc))

theorem execLrWindowEnd {input} :
    TouchesOut [] ([Reg.UI_STAT_LR_FILL, Hid.winSum, Hid.winCnt, Hid.winNo] ++ emitFlds) s (execLrWindowEnd input s) :=
  .of (by decide) (.branch (.fin (refl s)) (.fin (branch (refl s) ((refl s).wrAt.andThen emit)).wrAt.wrAt.wrAt))

theorem execUiComparatorEdge {input high us} :
    TouchesOut [.pulses] [Hid.contact, Reg.UI_PULSE_COUNT] s (execUiComparatorEdge input high us s) :=
  .of (by decide) (.branch (.fin (refl s)) (.branch (.fin (refl s).wrAt) (.branch (.fin (refl s))
    (.fin (branch (refl s).setPulses.wrAt (refl s).setPulses)))))

theorem execUiLogicStore {us} :
    TouchesOut [] (Reg.UI_STAT_SETTLE_LEFT :: Reg.UI_STAT_RELOAD :: storeFlds) s (execUiLogicStore us s) :=
  .of (by decide) (.branch (.fin ((refl s).foldl fun _ _ => uiLogicOne)) (.fin (refl s)))

theorem execSensorPollStart {entry} :
    TouchesOut [.snsTx] [Hid.snsDue, Reg.SNS_STAT_BUSY, Reg.SNS_STAT_ENTRY] s (execSensorPollStart entry s) :=
  .of (by decide) (.branch (.fin setSnsTx.wrAt.wr.wr.count) (.fin (refl s)))

theorem execSensorPollDone {reply} : TouchesOut [] ([Reg.SNS_STAT_NACK, Reg.SNS_STAT_CRC, Reg.SNS_VAL_VALUE, Reg.SNS_AGE_AGE] ++ pollFlds) s
    (execSensorPollDone reply s) := by
  unfold Machine.execSensorPollDone
  extract_lets n
  split
  · exact .fin (.of (by decide) (refl s))
  · cases reply with
    | nack => exact .fin (.of (by decide) ((refl s).wr.andThen pollFail))
    | data hi lo crc =>
      exact .of (by decide) (.branch (.fin ((refl s).wr.andThen pollFail)) (.fin (refl s).wrAt.wrAt.wrAt.wrAt.wrAt.wr))

theorem execSnsStretchTimeout : TouchesOut [] (Reg.SNS_STAT_STRETCH :: pollFlds) s (execSnsStretchTimeout s) :=
  .of (by decide) (.branch (.fin ((refl s).wr.count.andThen pollFail)) (.fin (refl s)))

theorem execUrgentRequest {src input conv} :
    TouchesOut [.convs, .urgMore, .cals, .xchks] dropFlds s (execUrgentRequest src input conv s) :=
  .of (by decide) (.branch (.fin (refl s)) (.fin urgIssue))

theorem execUrgentConversionDone {conv code gapLong} :
    TouchesOut [.convs, .urgMore, .cals, .xchks] (urgFlds ++ dropFlds) s (execUrgentConversionDone conv code gapLong s) := by
  unfold Machine.execUrgentConversionDone
  extract_lets c
  split
  · exact .fin (.of (by decide) (refl s))
  · exact .fin (.of (by decide) (((((refl s).setConv.andThen urgDeliver).andThen urgNext).andThen urgNextKept).andThen restCheck))

theorem execSelfCalDue {conv} : TouchesOut [.cals] [] s (execSelfCalDue conv s) := .of (by decide) (.branch (.fin calDue) (.fin (refl s)))

theorem execSelfCalStart {conv zero half} : TouchesOut checkParts checkFlds s (execSelfCalStart conv zero half s) := by
  unfold Machine.execSelfCalStart
  extract_lets c _ t _ _ q
  have ht : Touches checkParts checkFlds s t := .of (by decide) (refl s).setCal.count
  have hq : Touches checkParts checkFlds s q.1 := ht.trans checkC
  split
  · exact .fin (.of (by decide) (refl s))
  · split
    · exact .fin (.of (by decide) (refl s).setCal)
    · split
      · exact .fin (.of (by decide) (ht.setCal.setConv.andThen urgNext))
      · split
        · exact .fin (.of (by decide) (hq.setCal.setConv.andThen urgNext))
        · exact .fin (.of (by decide) hq.setCal)
        · exact .fin (.of (by decide) checkC.setCal)

theorem execReliefHandover {conv zero half} : TouchesOut checkParts (trimFlds ++ checkFlds) s (execReliefHandover conv zero half s) := by
  unfold Machine.execReliefHandover
  extract_lets c forCal other s1 _ q
  have h1 : Touches checkParts (trimFlds ++ checkFlds) s s1 := .of (by decide) (branch (settleBack.andThen handOff) (refl s))
  have hq : Touches checkParts (trimFlds ++ checkFlds) s q.1 := h1.trans (.of (by decide) checkC)
  have hs : TouchesOut checkParts (trimFlds ++ checkFlds) s (fin s) := .fin (.of (by decide) (refl s))
  exact .of (by decide) (.branch hs (.branch hs (.branch (.fin ((h1.andThen calStart).setCal.andThen handToC))
    (.branch (.fin (hq.andThen handToC)) (.fin (hq.whenB fun _ => cIdle))))))

theorem execCalRunDone {conv searches zero half} :
    TouchesOut [.convs, .cals, .relief] (Reg.CAL_INFO_SPREAD :: finishFlds) s (execCalRunDone conv searches zero half s) := by
  unfold Machine.execCalRunDone
  extract_lets c q
  split
  · exact .fin (.of (by decide) (refl s))
  · split
    · exact .fin (.of (by decide) ((refl s).count.andThen calFinish))
    · exact .of (by decide) (.branch (.fin (refl s).setCal) (.branch (.fin ((refl s).wrAt.count.andThen calFinish))
        (.branch (.fin ((refl s).wrAt.andThen calFinish)) (.fin ((refl s).wrAt.andThen calFinish)))))

theorem execCalHandback {conv} :
    TouchesOut [.convs, .cals, .relief] (finishFlds ++ forceFlds ++ reliefFlds) s (execCalHandback conv s) := by
  unfold Machine.execCalHandback
  extract_lets c
  split
  · split
    · exact .fin (.of (by decide) ((settleBack.andThen handOff).andThen takeOver))
    · exact .fin (.of (by decide) ((settleBack.andThen handBack).andThen refreshRelief))
  · exact .fin (.of (by decide) (refl s))

/-- What the end of a health check writes (R179 to R182). -/
def healthFlds : List Fld := Reg.CAL_FLAGS_SUSPECT :: Reg.CAL_FLAGS_C_FAILED :: replaceFlds

theorem execHealthCheckDone {conv zero half} : TouchesOut replaceParts healthFlds s (execHealthCheckDone conv zero half s) := by
  unfold Machine.execHealthCheckDone
  extract_lets c t
  have ht : Touches replaceParts healthFlds s t := .of (by decide) healthClear.count
  split
  · exact .fin (.of (by decide) (refl s))
  · split
    · exact .fin (either ht (ht.trans (.of (by decide) failC)))
    · exact .fin (ht.trans (.of (by decide) healthJudge))

theorem execConverterStuck {conv zero half} :
    TouchesOut replaceParts (Reg.CAL_FLAGS_C_FAILED :: replaceFlds) s (execConverterStuck conv zero half s) :=
  .of (by decide) (.branch (.fin (refl s)) (.branch (.fin replace) (.fin (checkC.andThen replace))))

theorem execRefinLoss : TouchesOut [.convs, .cals] [Reg.CAL_STAT_CAL_UNTRACED, Reg.CAL_STAT_REF_LOW] s (execRefinLoss s) :=
  .of (by decide) (.branch (.fin (refl s)) (.fin ((refl s).wr.wr.count.each fun t _ => (refl t).setConv.setCal.andThen calDue)))

theorem execCalSysPointDone : TouchesOut [] sysFlds s (execCalSysPointDone s) :=
  .of (by decide) (.branch (.fin (refl s)) (.branch (.fin ((refl s).wr.count.andThen sysFail))
    (.branch (.fin (refl s).wr.count.wrI.wr) (.fin ((refl s).wr.count.wrI.andThen sysJudge)))))

end Touches

/-- Settles O46: each command is made of operations whose fields, causes and components are known (`Touches`). -/
theorem converterFrames : Obligations.ConverterFrames :=
  ⟨fun _ _ _ _ => Touches.execScanEntryStart.frame [.convs, .cals, .relief] (by decide),
    fun _ _ _ _ _ => Touches.execConversionResult.frame [.arb, .convs] (by decide),
    fun _ _ _ => Touches.execConverterStartUpDone.frame [.convs] (by decide),
    fun _ _ _ => Touches.execSampleMoverEntry.frame [.arb, .convs] (by decide),
    fun _ _ _ => Touches.execOccHoldExpiry.frame [] (by decide),
    fun _ _ _ => Touches.execLrWindowEnd.frame [] (by decide),
    fun _ _ _ _ _ => Touches.execUiComparatorEdge.frame [.pulses] (by decide),
    fun _ _ _ => Touches.execUiLogicStore.frame [] (by decide),
    fun _ _ _ => Touches.execSensorPollStart.frame [.snsTx] (by decide),
    fun _ _ _ => Touches.execSensorPollDone.frame [] (by decide),
    fun _ _ => Touches.execSnsStretchTimeout.frame [] (by decide),
    fun _ _ _ _ _ => Touches.execUrgentRequest.frame [.xchks, .convs, .cals, .urgMore] (by decide),
    fun _ _ _ _ _ => Touches.execUrgentConversionDone.frame [.xchks, .convs, .cals, .urgMore] (by decide),
    fun _ _ _ => Touches.execSelfCalDue.frame [.cals] (by decide),
    fun _ _ _ _ _ => Touches.execSelfCalStart.frame [.xchks, .convs, .cals, .relief, .urgMore] (by decide),
    fun _ _ _ _ _ => Touches.execReliefHandover.frame [.xchks, .convs, .cals, .relief, .urgMore] (by decide),
    fun _ _ _ _ _ _ => Touches.execCalRunDone.frame [.convs, .cals, .relief] (by decide),
    fun _ _ _ => Touches.execCalHandback.frame [.convs, .cals, .relief] (by decide),
    fun _ _ _ _ _ => Touches.execHealthCheckDone.frame [.xchks, .convs, .cals, .relief, .urgMore] (by decide),
    fun _ _ _ _ _ => Touches.execConverterStuck.frame [.xchks, .convs, .cals, .relief, .urgMore] (by decide),
    fun _ _ => Touches.execRefinLoss.frame [.convs, .cals] (by decide),
    fun _ _ => (TouchesOut.fin (Touches.refl _).wr).frame [] (by decide),
    fun _ _ => Touches.execCalSysPointDone.frame [] (by decide)⟩

end Sys2Proof.Machine
end

section
/-! The sample mover's entry (R129, R152): a statement that an accumulator and a result of different lengths refute. -/

namespace Sys2Proof.Machine

/-- Converter A with one conversion of an entry of two accumulated, and in the mover's buffer a result that says it is the second of five of
the same entry. -/
def mixedEntry : State :=
  { convs := [{ buf := [⟨0, 1, 5, 0, false, {}, 0, 0⟩], accu := some ⟨0, 2, 1, 2, false, false, {}, 0, 0⟩ }, {}, {}] }

/-- Refutes O6: the result completes the accumulator's entry of two, but by its own length it does not end an entry, so the mover keeps it in the
accumulator. UI_RAW stays 0 where the statement has the average 1. -/
theorem not_scansAndUrgentConversions : ¬ Obligations.ScansAndUrgentConversions := by
  intro h
  obtain ⟨-, -, hmover, -⟩ := h
  obtain ⟨t, ht, hraw⟩ := hmover mixedEntry 0 ⟨0, 1, 5, 0, false, {}, 0, 0⟩ [] ⟨0, 2, 2, 2, false, false, {}, 0, 0⟩ rfl rfl rfl
  have hkept : t.rdAt Reg.UI_RAW_RAW 0 = 0 := by
    rw [eq_of_fin ht, State.evcEdge_rdAt]
    decide
  exact absurd (hkept.symm.trans hraw) (by decide)

end Sys2Proof.Machine
end

section
/-! Occupancy, line-rejection windows and comparator inputs (R138, R141, R142, R152, R154). -/

namespace Sys2Proof.Machine

variable {s : State} {i k us : Nat} {q : Pulse} {high : Bool}

theorem exec_occHoldExpiry {n : Fin 4} (halive : s.alive = true) (hsafe : s.mode ≠ mSafe) (hiz : s.mode ≠ mIz30)
    (hon : s.rdAt Reg.OCC_CFG_PERSIST n.val ≠ 0) : ∃ t, exec (.occHoldExpiry n) s = .next t ∧
      bit (t.rd Reg.OCC_STAT_CH_OCC) n.val = (s.occHeld n.val || bit (s.rd Reg.OCC_STAT_DET) n.val) := by
  have he : exec (.occHoldExpiry n) s = fin (s.setOcc n.val (s.occHeld n.val || bit (s.rd Reg.OCC_STAT_DET) n.val)) :=
    if_neg (by simp [halive, hsafe, hiz, hon])
  rw [he]
  refine exists_fin ?_
  rw [State.evcEdge_rd, State.setOcc, Touches.refreshZones.rd (by decide), State.putBit_bit n.isLt, if_pos rfl]
  simp [hon]

theorem exec_lrWindowEnd {i : Fin 64} (halive : s.alive = true) (hlr : (s.inForce i.val).lr ≠ 0) :
    ∃ t, exec (.lrWindowEnd i) s = .next t ∧ t.rdAt Hid.winSum i.val = 0 ∧ t.rdAt Hid.winCnt i.val = 0 := by
  change ∃ t, execLrWindowEnd i s = .next t ∧ _
  rw [execLrWindowEnd, if_neg (by simp [halive, hlr])]
  refine exists_fin ?_
  simp (disch := decide) only [State.evcEdge_rdAt, State.wrsAt, State.rdAt_wrAt_id, State.rdAt_wrAt_same]
  exact ⟨rfl, rfl⟩

theorem exec_uiComparatorEdge_contact {i : Fin 40} (hop : s.operating = true) (hmode : s.rdAt Reg.UI_CFG_MODE i.val = 7) :
    ∃ t, exec (.uiComparatorEdge i high us) s = .next t ∧ t.rdAt Hid.contact i.val = b2n (!high) := by
  have he : exec (.uiComparatorEdge i high us) s = fin (s.wrAt Hid.contact i.val (b2n (!high))) := by
    change execUiComparatorEdge i high us s = _
    simp [execUiComparatorEdge, hop, hmode]
  rw [he]
  exact exists_fin ((State.evcEdge_rdAt _ _ _).trans ((State.rdAt_wrAt_same _ _ _ _).trans (Nat.mod_eq_of_lt (b2n_lt_two _))))

theorem State.pulse_input : (s.pulse i).input = i := by
  unfold State.pulse
  cases h : s.pulses.find? fun p => p.input == i with
  | none => rfl
  | some p => simpa using List.find?_some h

theorem State.pulse_setPulse (hq : q.input = i) : (s.setPulse q).pulse i = q := by simp [State.pulse, State.setPulse, hq]

/-- An edge to the other level enters the history, and a rising one of the sense that INV gives is counted. -/
theorem exec_uiComparatorEdge_pulse {i : Fin 40} (hop : s.operating = true) (hmode : s.rdAt Reg.UI_CFG_MODE i.val = 8)
    (hlevel : (s.pulse i.val).level ≠ high) : ∃ q : Pulse, q.input = i.val ∧ q.level = high ∧ exec (.uiComparatorEdge i high us) s =
      fin (if high = s.onAt Reg.UI_CFG_INV i.val then s.setPulse q
        else (s.setPulse q).wrAt Reg.UI_PULSE_COUNT i.val (s.rdAt Reg.UI_PULSE_COUNT i.val + 1)) := by
  refine ⟨if high then { s.pulse i.val with rises := keepEdges us (s.pulse i.val).rises, level := true }
    else { s.pulse i.val with falls := keepEdges us (s.pulse i.val).falls, level := false }, ?_, ?_, ?_⟩
  · cases high <;> exact State.pulse_input
  · cases high <;> rfl
  · change execUiComparatorEdge i high us s = _
    simp [execUiComparatorEdge, hop, hmode, hlevel, ite_not]

theorem uiComparatorEdge_counts {i : Fin 40} (hop : s.operating = true) (hmode : s.rdAt Reg.UI_CFG_MODE i.val = 8)
    (hlevel : (s.pulse i.val).level ≠ high) : ∃ t, exec (.uiComparatorEdge i high us) s = .next t ∧ (t.pulse i.val).level = high ∧
      t.rdAt Reg.UI_PULSE_COUNT i.val = (if high = s.onAt Reg.UI_CFG_INV i.val then s.rdAt Reg.UI_PULSE_COUNT i.val
        else (s.rdAt Reg.UI_PULSE_COUNT i.val + 1) % 2 ^ 32) := by
  obtain ⟨q, hinput, hq, he⟩ := exec_uiComparatorEdge_pulse (us := us) hop hmode hlevel
  have hpulse : ∀ t : State, t.pulses = (s.setPulse q).pulses → (t.evcEdge.pulse i.val).level = high := fun t ht => by
    rw [State.pulse, State.evcEdge_pulses, ht]
    exact (congrArg Pulse.level (State.pulse_setPulse hinput)).trans hq
  rw [he]
  split
  · exact exists_fin ⟨hpulse _ rfl, State.evcEdge_rdAt _ _ _⟩
  · exact exists_fin ⟨hpulse _ rfl, (State.evcEdge_rdAt _ _ _).trans (State.rdAt_wrAt_same _ _ _ _)⟩

end Sys2Proof.Machine
end

section
/-! The UI logic's store of a contact input (R138, R152, R155, R157). -/

namespace Sys2Proof.Machine

variable {s t : State} {i j us r src : Nat} {x : Int}

/-- The register of an input as a result has been written to it, before those that use it. -/
def State.resultStored (s : State) (i : Nat) (x : Int) (r src : Nat) : State :=
  s.wrsAt i [(Reg.UI_VALUE_VALUE, ofI 16 x), (Reg.UI_VALUE_VALID, b2n (r == 0)), (Reg.UI_VALUE_REASON, r), (Reg.UI_VALUE_SRC, src),
    (Reg.UI_AGE_AGE, 0)]

open Touches in
theorem Touches.storeResult_of_resultStored : Touches [] userFlds (s.resultStored i x r src) (s.storeResult i x r src) := by
  unfold State.storeResult
  extract_lets t u w
  have hw : Touches [] userFlds t w :=
    .of (by decide) ((((refl t).count.countIf.countIf.countIf.countIf.whenB fun t => (refl t).wr).andThen netStore).andThen izStore)
  exact hw.trans (.of (by decide) (branch (branch occStep housekeep) (refl w)))

/-- A result is stored at its own input alone. -/
theorem State.resultStored_other {f : Fld} (hij : i ≠ j) : (s.resultStored j x r src).rdAt f i = s.rdAt f i := by
  simp only [State.resultStored, State.wrsAt]
  simp only [State.rdAt_wrAt_ne _ _ _ _ _ _ fun h : _ ∧ i = j => hij h.2]

/-- A contact input that has no settling left. -/
structure State.ContactSettled (s : State) (i : Nat) (closed : Bool) : Prop where
  mode : s.rdAt Reg.UI_CFG_MODE i = 7
  settled : s.rdAt Reg.UI_STAT_SETTLE_LEFT i = 0
  closed : (s.onAt Hid.contact i != s.onAt Reg.UI_CFG_INV i) = closed

/-- What the UI logic has stored of a contact. -/
structure State.ContactStored (s : State) (i : Nat) (closed : Bool) : Prop where
  value : s.rdAt Reg.UI_VALUE_VALUE i = b2n closed
  valid : s.rdAt Reg.UI_VALUE_VALID i = 1
  age : s.rdAt Reg.UI_AGE_AGE i = 0

/-- The store of another input leaves the fields of an input as they are, but for those that no input has of its own. -/
theorem State.uiLogicOne_other {f : Fld} (hij : i ≠ j) (hf : f.id ∉ Touches.userFlds.map Fld.id) :
    (s.uiLogicOne us j).rdAt f i = s.rdAt f i := by
  have hwr : ∀ (t : State) g v, (t.wrAt g j v).rdAt f i = t.rdAt f i := fun t g v => State.rdAt_wrAt_ne _ _ _ _ _ _ fun h => hij h.2
  have hleft : ∀ v, (if s.rdAt Reg.UI_STAT_SETTLE_LEFT j = 0 then s else s.wrAt Reg.UI_STAT_SETTLE_LEFT j v).rdAt f i = s.rdAt f i := by
    intro v
    split
    · rfl
    · exact hwr _ _ _
  unfold State.uiLogicOne
  extract_lets m left t r
  have hstore : ∀ mark, (r.2.storeResult j r.1 mark 3).rdAt f i = s.rdAt f i := fun mark => by
    rw [Touches.storeResult_of_resultStored.rdAt hf, State.resultStored_other hij, Touches.settleValue.rdAt (by simp)]
    exact hleft _
  split
  · rfl
  · unfold State.whenB
    split
    · exact (hwr _ _ _).trans (hstore _)
    · exact hstore _

theorem State.uiLogicOne_contact {closed : Bool} (h : s.ContactSettled i closed) :
    s.uiLogicOne us i = s.storeResult i (b2n closed) 0 3 := by
  obtain ⟨hmode, hsettled, rfl⟩ := h
  simp [State.uiLogicOne, hmode, hsettled, State.comparatorValue, State.settleValue, State.whenB]

theorem State.ContactSettled.keep {closed : Bool} (h : s.ContactSettled i closed) : (s.uiLogicOne us j).ContactSettled i closed := by
  have hsame : ∀ f ∈ [Reg.UI_CFG_MODE, Reg.UI_STAT_SETTLE_LEFT, Hid.contact, Reg.UI_CFG_INV], (s.uiLogicOne us j).rdAt f i = s.rdAt f i := by
    intro f hf
    by_cases hij : i = j
    · subst hij
      rw [State.uiLogicOne_contact h]
      exact Touches.storeResult.rdAt (by revert f; decide) i
    · exact State.uiLogicOne_other hij (by revert f; decide)
  obtain ⟨hmode, hsettled, hclosed⟩ := h
  refine ⟨(hsame _ (by simp)).trans hmode, (hsame _ (by simp)).trans hsettled, ?_⟩
  simpa only [State.onAt, hsame Hid.contact (by simp), hsame Reg.UI_CFG_INV (by simp)] using hclosed

theorem State.ContactSettled.stored {closed : Bool} (h : s.ContactSettled i closed) : (s.uiLogicOne us i).ContactStored i closed := by
  rw [State.uiLogicOne_contact h]
  have hread : ∀ f ∈ [Reg.UI_VALUE_VALUE, Reg.UI_VALUE_VALID, Reg.UI_AGE_AGE], (s.storeResult i (b2n closed) 0 3).rdAt f i =
      (s.resultStored i (b2n closed) 0 3).rdAt f i := fun f hf => Touches.storeResult_of_resultStored.rdAt (by revert f; decide) i
  refine ⟨(hread _ (by simp)).trans ?_, (hread _ (by simp)).trans ?_, (hread _ (by simp)).trans ?_⟩ <;>
    simp (disch := decide) only [State.resultStored, State.wrsAt, State.rdAt_wrAt_id, State.rdAt_wrAt_same]
  · cases closed <;> rfl
  · rfl
  · rfl

theorem State.ContactStored.keep {closed : Bool} (h : s.ContactStored i closed) (hij : i ≠ j) : (s.uiLogicOne us j).ContactStored i closed :=
  ⟨(State.uiLogicOne_other hij (by decide)).trans h.value, (State.uiLogicOne_other hij (by decide)).trans h.valid,
    (State.uiLogicOne_other hij (by decide)).trans h.age⟩

/-- A settled contact input is stored wherever it stands among the inputs of one store. -/
theorem State.uiLogic_contact {closed : Bool} {l : List Nat} (h : s.ContactSettled i closed) :
    (l.foldl (fun t j => t.uiLogicOne us j) s).ContactSettled i closed ∧
      (i ∈ l → (l.foldl (fun t j => t.uiLogicOne us j) s).ContactStored i closed) := by
  induction l using List.reverseRecOn with
  | nil => exact ⟨h, by simp⟩
  | append_singleton l j ih =>
    obtain ⟨hsettled, hstored⟩ := ih
    rw [List.foldl_append]
    refine ⟨hsettled.keep, fun hi => ?_⟩
    by_cases hij : i = j
    · exact hij ▸ hsettled.stored
    · exact (hstored (by simpa [hij] using hi)).keep hij

theorem exec_uiLogicStore_contact {i : Fin 40} (hop : s.operating = true) (hmode : s.rdAt Reg.UI_CFG_MODE i.val = 7)
    (hsettled : s.rdAt Reg.UI_STAT_SETTLE_LEFT i.val = 0) : ∃ t, exec (.uiLogicStore us) s = .next t ∧
      t.rdAt Reg.UI_VALUE_VALUE i.val = b2n (s.onAt Hid.contact i.val != s.onAt Reg.UI_CFG_INV i.val) ∧
      t.rdAt Reg.UI_VALUE_VALID i.val = 1 ∧ t.rdAt Reg.UI_AGE_AGE i.val = 0 := by
  obtain ⟨hvalue, hvalid, hage⟩ := (State.uiLogic_contact (us := us) ⟨hmode, hsettled, rfl⟩).2 (List.mem_range.mpr i.isLt)
  have he : exec (.uiLogicStore us) s = fin ((upTo 40).foldl (fun t j => t.uiLogicOne us j) s) := if_pos hop
  rw [he]
  refine exists_fin ?_
  simp only [State.evcEdge_rdAt]
  exact ⟨hvalue, hvalid, hage⟩

end Sys2Proof.Machine
end

section
/-! The polls of the sensor master (R143 to R145). -/

namespace Sys2Proof.Machine

variable {s : State} {n : Nat}

theorem capN_eq_min (hi x : Nat) : capN hi x = min hi x := by
  unfold capN
  split <;> omega

theorem exec_sensorPollStart {n : Fin 32} (hpoll : s.polling = true) (hnext : s.pollNext = some n.val) (hidle : s.on Reg.SNS_STAT_BUSY = false) :
    ∃ t, exec (.sensorPollStart n) s = .next t ∧ t.rd Reg.SNS_STAT_BUSY = 1 ∧ t.rd Reg.SNS_STAT_ENTRY = n.val ∧
      t.snsTx = s.pollTx n.val ∧ t.rdAt Hid.snsDue n.val = 0 := by
  have he : exec (.sensorPollStart n) s = fin (((({ s with snsTx := s.pollTx n.val } : State).wrAt Hid.snsDue n.val 0).wrs
      [(Reg.SNS_STAT_BUSY, 1), (Reg.SNS_STAT_ENTRY, n.val)]).count 0x56) := if_pos (by simp [hpoll, hnext, hidle])
  rw [he]
  refine exists_fin ?_
  simp (disch := decide) only [State.evcEdge_rd, State.evcEdge_rdAt, State.evcEdge_snsTx, State.count_rd, State.count_rdAt, State.count_snsTx,
    State.wrs, State.rd_wr_ne, State.rd_wr_same]
  refine ⟨rfl, Nat.mod_eq_of_lt n.isLt, rfl, ?_⟩
  rw [(Touches.refl _).wr.wr.rdAt (by decide), State.rdAt_wrAt_same]
  rfl

/-- A failed poll frees the master and counts its failure, whether or not it turns the entry invalid (R145). -/
theorem State.pollFail_reads : (s.pollFail n).rd Reg.SNS_STAT_BUSY = 0 ∧
    (s.pollFail n).rdAt Reg.SNS_VAL_FAILS n = min 15 (s.rdAt Reg.SNS_VAL_FAILS n + 1) := by
  unfold State.pollFail
  extract_lets f t
  have hthird : Touches [] [Reg.SNS_VAL_VALID, Reg.SNS_VAL_REASON, Reg.SNS_STAT_INVALID] t
      (if f = 3 then ((t.wrsAt n [(Reg.SNS_VAL_VALID, 0), (Reg.SNS_VAL_REASON, 5)]).wr Reg.SNS_STAT_INVALID 1).count 0x58 else t) :=
    .of (by decide) (.branch (Touches.refl t).wrAt.wrAt.wr.count (.refl t))
  have hfails : f < 2 ^ Reg.SNS_VAL_FAILS.w := by
    simp only [f, capN_eq_min]
    exact lt_of_le_of_lt (min_le_left _ _) (by decide)
  rw [hthird.rd (by decide), hthird.rdAt (by decide)]
  refine ⟨(State.count_rd _ _ _).trans (State.rd_wr_same _ _ _), (State.count_rdAt _ _ _ _).trans ?_⟩
  rw [(Touches.refl _).wr.rdAt (by decide), State.rdAt_wrAt_same, Nat.mod_eq_of_lt hfails]
  exact capN_eq_min _ _

theorem exec_sensorPollDone_data {hi lo crc : Nat} (hbusy : s.on Reg.SNS_STAT_BUSY = true) (halive : s.alive = true)
    (hfmt : s.rdAt Reg.SNS_ENT_FMT (s.rd Reg.SNS_STAT_ENTRY) < 2) :
    ∃ t, exec (.sensorPollDone (.data hi lo crc)) s = .next t ∧ t.rd Reg.SNS_STAT_BUSY = 0 ∧
      t.rdAt Reg.SNS_VAL_VALUE (s.rd Reg.SNS_STAT_ENTRY) = s.pollValue (s.rd Reg.SNS_STAT_ENTRY) hi lo % 2 ^ 16 ∧
      t.rdAt Reg.SNS_VAL_VALID (s.rd Reg.SNS_STAT_ENTRY) = 1 ∧ t.rdAt Reg.SNS_VAL_FAILS (s.rd Reg.SNS_STAT_ENTRY) = 0 := by
  obtain ⟨n, hn⟩ : ∃ n, n = s.rd Reg.SNS_STAT_ENTRY := ⟨_, rfl⟩
  rw [← hn] at hfmt ⊢
  have he : exec (.sensorPollDone (.data hi lo crc)) s = fin ((s.wrsAt n [(Reg.SNS_VAL_VALUE, s.pollValue n hi lo), (Reg.SNS_VAL_VALID, 1),
      (Reg.SNS_VAL_REASON, 0), (Reg.SNS_VAL_FAILS, 0), (Reg.SNS_AGE_AGE, 0)]).wr Reg.SNS_STAT_BUSY 0) := by
    change execSensorPollDone (.data hi lo crc) s = _
    simp [execSensorPollDone, hbusy, halive, ← hn, Nat.not_le.mpr hfmt]
  rw [he]
  refine exists_fin ⟨(State.evcEdge_rd _ _).trans (State.rd_wr_same _ _ _), ?_⟩
  simp (disch := decide) only [State.evcEdge_rdAt, State.wr, State.wrsAt, State.rdAt_wrAt_id, State.rdAt_wrAt_same]
  exact ⟨rfl, rfl, rfl⟩

theorem exec_sensorPollDone_nack (hbusy : s.on Reg.SNS_STAT_BUSY = true) (halive : s.alive = true) :
    ∃ t, exec (.sensorPollDone .nack) s = .next t ∧ t.rd Reg.SNS_STAT_BUSY = 0 ∧ t.rd Reg.SNS_STAT_NACK = 1 ∧
      t.rdAt Reg.SNS_VAL_FAILS (s.rd Reg.SNS_STAT_ENTRY) = min 15 (s.rdAt Reg.SNS_VAL_FAILS (s.rd Reg.SNS_STAT_ENTRY) + 1) := by
  have he : exec (.sensorPollDone .nack) s = fin ((s.wr Reg.SNS_STAT_NACK 1).pollFail (s.rd Reg.SNS_STAT_ENTRY)) := by
    change execSensorPollDone .nack s = _
    simp [execSensorPollDone, hbusy, halive]
  obtain ⟨hfree, hfails⟩ := State.pollFail_reads (s := s.wr Reg.SNS_STAT_NACK 1) (n := s.rd Reg.SNS_STAT_ENTRY)
  rw [he]
  refine exists_fin ⟨(State.evcEdge_rd _ _).trans hfree, ?_, ?_⟩
  · rw [State.evcEdge_rd, Touches.pollFail.rd (by decide), State.rd_wr_same]
    rfl
  · rw [State.evcEdge_rdAt, hfails, (Touches.refl s).wr.rdAt (by decide)]

theorem exec_snsStretchTimeout (hbusy : s.on Reg.SNS_STAT_BUSY = true) (halive : s.alive = true) :
    ∃ t, exec .snsStretchTimeout s = .next t ∧ t.rd Reg.SNS_STAT_BUSY = 0 ∧ t.rd Reg.SNS_STAT_STRETCH = 1 ∧
      t.rdAt Reg.SNS_VAL_FAILS (s.rd Reg.SNS_STAT_ENTRY) = min 15 (s.rdAt Reg.SNS_VAL_FAILS (s.rd Reg.SNS_STAT_ENTRY) + 1) := by
  have he : exec .snsStretchTimeout s = fin (((s.wr Reg.SNS_STAT_STRETCH 1).count 0x59).pollFail (s.rd Reg.SNS_STAT_ENTRY)) :=
    if_pos ⟨hbusy, halive⟩
  obtain ⟨hfree, hfails⟩ := State.pollFail_reads (s := (s.wr Reg.SNS_STAT_STRETCH 1).count 0x59) (n := s.rd Reg.SNS_STAT_ENTRY)
  rw [he]
  refine exists_fin ⟨(State.evcEdge_rd _ _).trans hfree, ?_, ?_⟩
  · rw [State.evcEdge_rd, Touches.pollFail.rd (by decide), State.count_rd, State.rd_wr_same]
    rfl
  · rw [State.evcEdge_rdAt, hfails, State.count_rdAt, (Touches.refl s).wr.rdAt (by decide)]

/-- Settles O7: each clause is what one command writes; what follows that touches none of its fields, or stands at another input. -/
theorem occupancyComparatorsSensors : Obligations.OccupancyComparatorsSensors :=
  ⟨fun _ _ => exec_occHoldExpiry, fun _ _ => exec_lrWindowEnd, fun _ _ _ _ => exec_uiComparatorEdge_contact,
    fun _ _ _ _ => uiComparatorEdge_counts, fun _ _ _ => exec_uiLogicStore_contact, fun _ _ => exec_sensorPollStart,
    fun _ _ _ _ => exec_sensorPollDone_data, fun _ => exec_sensorPollDone_nack, fun _ => exec_snsStretchTimeout⟩

end Sys2Proof.Machine
end

section
/-! A word to a command register of the converters, of calibration or of the thermal block (R163, R189, R268): it is always taken, and does
what the register's command does. -/

namespace Sys2Proof.Machine

variable {s u : State} {a v : Nat}

/-- The command registers CONV_URG, CAL_CTRL, CAL_SYS_CMD and THERM_CMD. -/
def commandRegs : List Nat := [0x2006, 0x2800, 0x2810, 0x2C08]

/-- No door, lock, update or busy resource keeps a word from these registers, and no rule binds what they hold; only CAL_SYS_CMD has a range. -/
theorem State.takes_command (ha : a ∈ commandRegs) (hrange : u.rangeHigh a v = false) : u.Takes a v := by
  simp only [commandRegs, List.mem_cons, List.not_mem_nil, or_false] at ha
  have hchan : (u.checkChan a).1 = a := by
    rw [State.checkChan_fst, if_neg]
    omega
  refine ⟨by omega, by omega, by rw [hchan]; omega, ?_, ?_⟩
  · rcases ha with rfl | rfl | rfl | rfl <;>
      simp [State.wordStat, State.doorBad, doorOf, State.lockBad, State.rgnBad, regionAddr, State.busyBad, busAddr, hatchReg, State.rangeBad,
        selectMax, hrange]
  · rw [hchan]
    rcases ha with rfl | rfl | rfl | rfl <;> simp [State.regOk, State.convOk, State.thermOk]

/-- The frame of such a word at an open port is answered with OK, and leaves what the word does. -/
theorem hostWrite_command (hport : s.port = .opened) (ha : a ∈ commandRegs) (hrange : s.arrived.rangeHigh a v = false) :
    ∃ t, fin (s.hostWrite a [v]) = .next t ∧ t.rd Reg.HOST_LAST_STATUS = 0 ∧
      Touches [.arb, .resp, .sent] (Touches.busFlds ++ Touches.lastFlds) (s.arrived.wordApply a v) t := by
  have hlow : 0x1080 ≤ a ∧ a ≠ 0x0028 ∧ a ≠ 0x3C09 := by
    simp only [commandRegs, List.mem_cons, List.not_mem_nil, or_false] at ha
    omega
  rw [← State.wordDone_outside (.inr hlow.1)]
  exact hostWrite_one hport hlow.2 (State.lockRead_outside (.inr hlow.1)).symm (State.takes_command ha hrange)

/-! What each register's word does. -/

/-- The input and the converter that a word of CONV_URG names. -/
def State.urgNamed (u : State) (v : Nat) : State := (u.wr Reg.CONV_URG_INPUT (bits v 0 6)).wr Reg.CONV_URG_CONV (bits v 8 2)

theorem State.wordApply_urgGo (hgo : bit v 15 = true) : u.wordApply 0x2006 v = (u.urgNamed v).urgGo := by
  have hfields : Reg.fieldsAt 0x2006 = [Reg.CONV_URG_INPUT, Reg.CONV_URG_CONV, Reg.CONV_URG_GO, Reg.CONV_URG_DONE, Reg.CONV_URG_DROPPED,
      Reg.CONV_URG_BY] := by decide
  have hstore : u.wordStore 0x2006 v = u.urgNamed v := by
    simp [State.wordStore, State.ownWrite, hfields, State.each, State.fieldWrite, State.liveBits]
    simp [Reg.CONV_URG_INPUT, Reg.CONV_URG_CONV, Reg.CONV_URG_GO, Reg.CONV_URG_DONE, Reg.CONV_URG_DROPPED, Reg.CONV_URG_BY, Fld.chan,
      bits_and_word, State.wr, State.urgNamed]
  simp [State.wordApply, hstore, State.hookMid, hgo]

theorem State.wordApply_calCtrl : u.wordApply 0x2800 v = (u.wr Reg.CAL_CTRL_AUTO_EN (bits v 0 1)).calReq (bits v 4 3) := by
  have hfields : Reg.fieldsAt 0x2800 = [Reg.CAL_CTRL_AUTO_EN, Reg.CAL_CTRL_REQ] := by decide
  have hstore : u.wordStore 0x2800 v = u.wr Reg.CAL_CTRL_AUTO_EN (bits v 0 1) := by
    simp [State.wordStore, State.ownWrite, hfields, State.each, State.fieldWrite, State.liveBits]
    simp [Reg.CAL_CTRL_AUTO_EN, Reg.CAL_CTRL_REQ, Fld.chan, bits_and_word, State.wr]
  simp [State.wordApply, hstore, State.hookMid]

/-- The input and the point that a word of CAL_SYS_CMD names. -/
def State.sysNamed (u : State) (v : Nat) : State := (u.wr Reg.CAL_SYS_CMD_INPUT (bits v 0 6)).wr Reg.CAL_SYS_CMD_POINT (bits v 8 2)

theorem State.wordStore_calSys : u.wordStore 0x2810 v = u.sysNamed v := by
  have hfields : Reg.fieldsAt 0x2810 = [Reg.CAL_SYS_CMD_INPUT, Reg.CAL_SYS_CMD_POINT, Reg.CAL_SYS_CMD_ABORT, Reg.CAL_SYS_CMD_GO] := by decide
  simp [State.wordStore, State.ownWrite, hfields, State.each, State.fieldWrite, State.liveBits]
  simp [Reg.CAL_SYS_CMD_INPUT, Reg.CAL_SYS_CMD_POINT, Reg.CAL_SYS_CMD_ABORT, Reg.CAL_SYS_CMD_GO, Fld.chan, bits_and_word, State.wr, State.sysNamed]

theorem State.wordApply_sysGo (habort : bit v 14 = false) (hgo : bit v 15 = true) :
    u.wordApply 0x2810 v = (u.sysNamed v).sysGo ((u.sysNamed v).rd Reg.CAL_SYS_CMD_INPUT) ((u.sysNamed v).rd Reg.CAL_SYS_CMD_POINT) := by
  simp [State.wordApply, State.wordStore_calSys, State.hookMid, habort, hgo]

theorem State.wordApply_sysAbort (habort : bit v 14 = true) (hgo : bit v 15 = false) : u.wordApply 0x2810 v = (u.sysNamed v).sysAbort := by
  simp [State.wordApply, State.wordStore_calSys, State.hookMid, habort, hgo]

theorem State.wordApply_thermCmd : u.wordApply 0x2C08 v = u.thermReadmit (v % 256) := by
  have hfields : Reg.fieldsAt 0x2C08 = [Reg.THERM_CMD_READMIT] := by decide
  have hstore : u.wordStore 0x2C08 v = u := by
    simp [State.wordStore, State.ownWrite, hfields, State.each, State.fieldWrite]
    simp [Reg.THERM_CMD_READMIT]
  simp [State.wordApply, hstore, State.hookMid]

end Sys2Proof.Machine
end

section
/-! The host's urgent conversion and its requests for calibration (R158, R160, R172). -/

namespace Sys2Proof.Machine

variable {s t u w : State} {c i k n input v : Nat} {src : UrgBy} {x : ConvS} {asked : Bool}

theorem setAt_eq_set {α : Type} (l : List α) (k : Nat) (x : α) : setAt l k x = l.set k x := by
  induction l generalizing k with
  | nil => rfl
  | cons y l ih => cases k <;> simp [setAt, ih]

section

variable {P : List Part} {L : List Fld}

/-- A change that touches no converter leaves the converters. -/
theorem Touches.convs_eq (h : Touches P L s t) (hP : Part.convs ∉ P) : t.convs = s.convs := h.parts .convs hP

theorem Touches.conv_eq (h : Touches P L s t) (hP : Part.convs ∉ P) : t.conv k = s.conv k := congrArg (·.getD k {}) (h.convs_eq hP)

/-- A change that touches no calibration leaves the calibrations. -/
theorem Touches.cals_eq (h : Touches P L s t) (hP : Part.cals ∉ P) : t.cals = s.cals := h.parts .cals hP

theorem Touches.cal_eq (h : Touches P L s t) (hP : Part.cals ∉ P) : t.cal k = s.cal k := congrArg (·.getD k {}) (h.cals_eq hP)

end

theorem State.setConv_rd {f : Fld} : (s.setConv k x).rd f = s.rd f := rfl

theorem State.conv_setConv (h : k < s.convs.length) : (s.setConv k x).conv k = x := by
  simp [State.conv, State.setConv, setAt_eq_set, h]

theorem State.cal_setCal_same {q : CalS} (h : k < s.cals.length) : (s.setCal k q).cal k = q := by
  simp [State.cal, State.setCal, setAt_eq_set, h]

theorem State.cal_setCal_ne {q : CalS} (h : k ≠ c) : (s.setCal k q).cal c = s.cal c := by
  simp [State.cal, State.setCal, setAt_eq_set, List.getD_eq_getElem?_getD, List.getElem?_set_ne h]

/-- A request for a converter that is off starts it and waits there (R158). -/
theorem State.urgPlace_off {q : Urg} (hoff : (s.conv q.conv).phase = .off) : s.urgPlace q =
    s.setConv q.conv { s.conv q.conv with phase := .starting, wait := (s.conv q.conv).wait ++ [q] } := by
  simp [State.urgPlace, hoff]

/-- The machine with the host's last urgent result cleared (R163). -/
def State.urgCleared (s : State) : State := s.wrs [(Reg.CONV_URG_DONE, 0), (Reg.CONV_URG_DROPPED, 0)]

/-- The counts of the host's urgent request to C (R165). -/
def State.urgCounted (s : State) (input : Nat) : State :=
  ((s.urgCleared.count 0x46).countIf false 0x49).countIf (s.urgCleared.fastReq .host input) 0x71

theorem State.urgGo_off (hnamed : s.rd Reg.CONV_URG_CONV = 3) (hoff : (s.conv 2).phase = .off) :
    s.urgGo = (s.urgCounted (s.rd Reg.CONV_URG_INPUT)).setConv 2
      { s.conv 2 with phase := .starting, wait := (s.conv 2).wait ++ [⟨.host, s.rd Reg.CONV_URG_INPUT, 2⟩] } := by
  have hconv : ∀ input, (s.urgCounted input).conv 2 = s.conv 2 := fun input => by
    simp [State.conv, State.urgCounted, State.urgCleared, State.wrs]
  have hsend : s.urgGo = (s.urgCounted (s.rd Reg.CONV_URG_INPUT)).urgPlace ⟨.host, s.rd Reg.CONV_URG_INPUT, 2⟩ := by
    simp [State.urgGo, State.urgIssue, State.urgSend, State.servedBy, hnamed, State.urgCounted, State.urgCleared]
  rw [hsend, State.urgPlace_off (by rw [hconv, hoff]), hconv]


theorem State.urgCounted_rd {f : Fld} : (s.urgCounted input).rd f = s.urgCleared.rd f := by simp [State.urgCounted]

theorem State.urgCleared_done : s.urgCleared.rd Reg.CONV_URG_DONE = 0 := by
  simp (disch := decide) [State.urgCleared, State.wrs, State.rd_wr_ne]

theorem State.urgCleared_dropped : s.urgCleared.rd Reg.CONV_URG_DROPPED = 0 := by
  simp [State.urgCleared, State.wrs]

theorem State.urgCounted_convs : (s.urgCounted input).convs = s.convs := by simp [State.urgCounted, State.urgCleared, State.wrs]

/-- The word that names an input with a choice of two bits, and starts: that of CONV_URG and of CAL_SYS_CMD. -/
def goWord (input choice : Nat) : Nat := input + 256 * choice + 2 ^ 15

theorem goWord_fields {choice : Nat} (hinput : input < 64) (hchoice : choice < 4) : bits (goWord input choice) 0 6 = input ∧
    bits (goWord input choice) 8 2 = choice ∧ bit (goWord input choice) 14 = false ∧ bit (goWord input choice) 15 = true := by
  simp only [bits, bit, goWord, beq_eq_false_iff_ne, beq_iff_eq]
  omega

/-- GO on C with C off starts it with the request waiting there, and clears the last result (R158, R163). -/
theorem execConvUrgGo_off {i : Fin 64} (hport : s.port = .opened) (hlen : s.convs.length = 3) (hoff : (s.conv 2).phase = .off) :
    ∃ t, exec (.convUrgGo i 3) s = .next t ∧ t.rd Reg.HOST_LAST_STATUS = 0 ∧ (t.conv 2).phase = .starting ∧
      (t.conv 2).wait = (s.conv 2).wait ++ [⟨.host, i.val, 2⟩] ∧ t.rd Reg.CONV_URG_DONE = 0 ∧ t.rd Reg.CONV_URG_DROPPED = 0 := by
  have hexec : exec (.convUrgGo i 3) s = fin (s.hostWrite 0x2006 [goWord i.val (3 : Fin 4).val]) := rfl
  obtain ⟨hinput, hnamed, -, hgo⟩ := goWord_fields i.isLt (3 : Fin 4).isLt
  generalize goWord i.val (3 : Fin 4).val = v at hexec hinput hnamed hgo
  obtain ⟨t, ht, hstatus, htouch⟩ := hostWrite_command (a := 0x2006) (v := v) hport (by decide) (by simp [State.rangeHigh])
  refine ⟨t, hexec.trans ht, hstatus, ?_⟩
  have hconvs : (s.arrived.urgNamed v).convs = s.convs := by
    rw [State.urgNamed, State.wr_convs, State.wr_convs, Touches.arrived.convs_eq (by decide)]
  have hconv : (s.arrived.urgNamed v).conv 2 = s.conv 2 := by rw [State.conv, hconvs, State.conv]
  have hrdInput : (s.arrived.urgNamed v).rd Reg.CONV_URG_INPUT = i.val := by
    rw [State.urgNamed, State.rd_wr_ne _ _ _ _ (by decide), State.rd_wr_same, hinput]
    exact Nat.mod_eq_of_lt i.isLt
  have hrdConv : (s.arrived.urgNamed v).rd Reg.CONV_URG_CONV = 3 := by
    rw [State.urgNamed, State.rd_wr_same, hnamed]
    rfl
  rw [State.wordApply_urgGo hgo, State.urgGo_off hrdConv (by rw [hconv, hoff]), hrdInput, hconv] at htouch
  have hafter : t.conv 2 = { s.conv 2 with phase := .starting, wait := (s.conv 2).wait ++ [⟨.host, i.val, 2⟩] } := by
    rw [htouch.conv_eq (by decide), State.conv_setConv]
    rw [State.urgCounted_convs, hconvs, hlen]
    decide
  refine ⟨by rw [hafter], by rw [hafter], ?_, ?_⟩
  · rw [htouch.rd (by decide), State.setConv_rd, State.urgCounted_rd, State.urgCleared_done]
  · rw [htouch.rd (by decide), State.setConv_rd, State.urgCounted_rd, State.urgCleared_dropped]

/-! REQ of calibration (R172). -/

theorem State.calDue_cals_length : (s.calDue k asked).cals.length = s.cals.length := by
  unfold State.calDue
  split
  · rfl
  · exact length_setAt _ _ _

/-- A converter that C does not replace becomes due. -/
theorem State.calDue_due (hlen : c < s.cals.length) (hown : s.replaced c = false) : ((s.calDue c asked).cal c).due = true := by
  rw [State.calDue, if_neg (by simp [hown]), State.cal_setCal_same hlen]

/-- What a request for one converter asks of calibration, it takes from none. -/
theorem State.calDue_due_kept (hlen : c < s.cals.length) (hdue : (s.cal c).due = true) : ((s.calDue k asked).cal c).due = true := by
  unfold State.calDue
  split
  · exact hdue
  · by_cases hk : k = c
    · rw [hk, State.cal_setCal_same hlen]
    · rw [State.cal_setCal_ne hk, hdue]

theorem State.calDue_replaced (hlen : c < s.cals.length) : (s.calDue k asked).replaced c = s.replaced c := by
  unfold State.calDue
  split
  · rfl
  · by_cases hk : k = c
    · rw [State.replaced, hk, State.cal_setCal_same hlen, State.replaced]
    · rw [State.replaced, State.cal_setCal_ne hk, State.replaced]

theorem State.calDue_list_due_kept {l : List Nat} (hlen : c < s.cals.length) (hdue : (s.cal c).due = true) :
    ((s.each l fun t k => t.calDue k true).cal c).due = true := by
  induction l generalizing s with
  | nil => exact hdue
  | cons k l ih => exact ih (by rwa [State.calDue_cals_length]) (State.calDue_due_kept hlen hdue)

/-- Requests for several converters make each of them due that C does not replace. -/
theorem State.calDue_list_due {l : List Nat} (hmem : c ∈ l) (hlen : c < s.cals.length) (hown : s.replaced c = false) :
    ((s.each l fun t k => t.calDue k true).cal c).due = true := by
  induction l generalizing s with
  | nil => exact absurd hmem List.not_mem_nil
  | cons k l ih =>
    have hlen' : c < (s.calDue k true).cals.length := by rwa [State.calDue_cals_length]
    by_cases hk : c = k
    · exact State.calDue_list_due_kept (s := s.calDue k true) hlen' (hk ▸ State.calDue_due hlen hown)
    · exact ih (List.mem_of_ne_of_mem hk hmem) hlen' (by rwa [State.calDue_replaced hlen])

/-- The word of CAL_CTRL that asks for the calibration of converters and keeps AUTO_EN. -/
def calReqWord (auto : Bool) (mask : Nat) : Nat := b2n auto + 16 * mask

/-- REQ makes the calibration of every named converter due that C does not replace (R172). -/
theorem execCalReq_due {mask : Fin 8} (hport : s.port = .opened) (hlen : s.cals.length = 3) :
    ∃ t, exec (.calReq mask) s = .next t ∧ t.rd Reg.HOST_LAST_STATUS = 0 ∧
      (∀ c : Nat, c < 3 → bit mask.val c = true → s.replaced c = false → (t.cal c).due = true) := by
  have hexec : exec (.calReq mask) s = fin (s.hostWrite 0x2800 [calReqWord (s.on Reg.CAL_CTRL_AUTO_EN) mask.val]) := rfl
  have hmask : bits (calReqWord (s.on Reg.CAL_CTRL_AUTO_EN) mask.val) 4 3 = mask.val := by
    have := b2n_lt_two (s.on Reg.CAL_CTRL_AUTO_EN)
    simp only [bits, calReqWord]
    omega
  generalize calReqWord (s.on Reg.CAL_CTRL_AUTO_EN) mask.val = v at hexec hmask
  obtain ⟨t, ht, hstatus, htouch⟩ := hostWrite_command (a := 0x2800) (v := v) hport (by decide) (by simp [State.rangeHigh])
  refine ⟨t, hexec.trans ht, hstatus, fun c hc hbit hown => ?_⟩
  have harrived : Touches [] [Reg.CAL_CTRL_AUTO_EN, Reg.HOST_DOOR_STEP] s (s.arrived.wr Reg.CAL_CTRL_AUTO_EN (bits v 0 1)) := Touches.arrived.wr
  rw [State.wordApply_calCtrl, hmask] at htouch
  rw [htouch.cal_eq (by decide)]
  refine State.calDue_list_due ?_ ?_ ?_
  · exact List.mem_filter.mpr ⟨List.mem_range.mpr hc, hbit⟩
  · rwa [harrived.cals_eq (by decide), hlen]
  · rwa [State.replaced, harrived.cal_eq (by decide)]

end Sys2Proof.Machine
end

section
/-! The host's system calibration points (R185, R186). -/

namespace Sys2Proof.Machine

variable {s t u : State} {input point : Nat} {i : Fin 64} {p : Fin 4}

/-- What the start of a point leaves to read. -/
theorem State.sysGo_starts (hidle : s.on Reg.CAL_SYS_STAT_BUSY = false) (hmode : s.mode = mService)
    (hui : 1 ≤ s.uiMode input ∧ s.uiMode input ≤ 6) :
    (s.sysGo input point).rd Reg.CAL_SYS_STAT_BUSY = 1 ∧ (s.sysGo input point).rd Reg.CAL_SYS_STAT_RESULT = 0 ∧
      (s.sysGo input point).rd Hid.sysIn = input % 64 ∧ (s.sysGo input point).rd Hid.sysPoint = point % 4 := by
  have hmodeOk : ¬ (s.uiMode input = 0 ∨ 6 < s.uiMode input) := by omega
  simp (disch := decide) [State.sysGo, hidle, hmode, hmodeOk, State.wrs, State.rd_wr_ne]
  exact ⟨rfl, rfl⟩

theorem State.sysGo_outside (hidle : s.on Reg.CAL_SYS_STAT_BUSY = false) (hmode : s.mode ≠ mService) :
    s.sysGo input point = s.wr Reg.CAL_SYS_STAT_RESULT 7 := by
  simp [State.sysGo, hidle, hmode]

theorem State.sysGo_busy (hbusy : s.on Reg.CAL_SYS_STAT_BUSY = true) : s.sysGo input point = s.wr Reg.CAL_SYS_STAT_RESULT 9 := by
  simp [State.sysGo, hbusy]

theorem State.sysAbort_busy (hbusy : s.on Reg.CAL_SYS_STAT_BUSY = true) :
    s.sysAbort.rd Reg.CAL_SYS_STAT_BUSY = 0 ∧ s.sysAbort.rd Reg.CAL_SYS_STAT_RESULT = 10 := by
  simp (disch := decide) [State.sysAbort, hbusy, State.wrs, State.rd_wr_ne]
  rfl

theorem Touches.sysNamed {v : Nat} :
    Touches [] [Reg.CAL_SYS_CMD_POINT, Reg.CAL_SYS_CMD_INPUT, Reg.HOST_DOOR_STEP] s (s.arrived.sysNamed v) := Touches.arrived.wr.wr

/-- GO for an input of the universal ones and a point that exists is taken, and asks for that point. -/
theorem execCalSysGo_taken (hport : s.port = .opened) (hi : i.val < 40) (hp : p.val = 1 ∨ p.val = 2) :
    ∃ t u, exec (.calSysGo i p) s = .next t ∧ t.rd Reg.HOST_LAST_STATUS = 0 ∧
      Touches [] [Reg.CAL_SYS_CMD_POINT, Reg.CAL_SYS_CMD_INPUT, Reg.HOST_DOOR_STEP] s u ∧
      Touches [.arb, .resp, .sent] (Touches.busFlds ++ Touches.lastFlds) (u.sysGo i.val p.val) t := by
  have hexec : exec (.calSysGo i p) s = fin (s.hostWrite 0x2810 [goWord i.val p.val]) := rfl
  obtain ⟨hinput, hpoint, habort, hgo⟩ := goWord_fields i.isLt p.isLt
  generalize goWord i.val p.val = v at hexec hinput hpoint habort hgo
  have hrange : s.arrived.rangeHigh 0x2810 v = false := by
    rcases hp with hp | hp <;> simp [State.rangeHigh, hinput, hpoint, hi, hp]
  obtain ⟨t, ht, hstatus, htouch⟩ := hostWrite_command (a := 0x2810) (v := v) hport (by decide) hrange
  refine ⟨t, s.arrived.sysNamed v, hexec.trans ht, hstatus, .sysNamed, ?_⟩
  have hrdInput : (s.arrived.sysNamed v).rd Reg.CAL_SYS_CMD_INPUT = i.val := by
    rw [State.sysNamed, State.rd_wr_ne _ _ _ _ (by decide), State.rd_wr_same, hinput]
    exact Nat.mod_eq_of_lt i.isLt
  have hrdPoint : (s.arrived.sysNamed v).rd Reg.CAL_SYS_CMD_POINT = p.val := by
    rw [State.sysNamed, State.rd_wr_same, hpoint]
    exact Nat.mod_eq_of_lt p.isLt
  rwa [State.wordApply_sysGo habort hgo, hrdInput, hrdPoint] at htouch

/-- In SERVICE, GO for an input with an analogue mode starts the point. -/
theorem execCalSysGo_starts (hport : s.port = .opened) (hmode : s.mode = mService) (hi : i.val < 40) (hp : p.val = 1 ∨ p.val = 2)
    (hui : 1 ≤ s.uiMode i.val ∧ s.uiMode i.val ≤ 6) (hidle : s.on Reg.CAL_SYS_STAT_BUSY = false) :
    ∃ t, exec (.calSysGo i p) s = .next t ∧ t.rd Reg.HOST_LAST_STATUS = 0 ∧ t.rd Reg.CAL_SYS_STAT_BUSY = 1 ∧
      t.rd Reg.CAL_SYS_STAT_RESULT = 0 ∧ t.rd Hid.sysIn = i.val ∧ t.rd Hid.sysPoint = p.val := by
  obtain ⟨t, u, ht, hstatus, hsame, htouch⟩ := execCalSysGo_taken hport hi hp
  have huiMode : u.uiMode i.val = s.uiMode i.val := by simp only [State.uiMode, hsame.rdAt (f := Reg.UI_CFG_MODE) (by decide)]
  obtain ⟨hbusy, hresult, hin, hpoint⟩ := State.sysGo_starts (s := u) (input := i.val) (point := p.val)
    (by rw [hsame.on (by decide), hidle]) ((hsame.rd (by decide)).trans hmode) (by rwa [huiMode])
  refine ⟨t, ht, hstatus, ?_, ?_, ?_, ?_⟩
  · rw [htouch.rd (by decide), hbusy]
  · rw [htouch.rd (by decide), hresult]
  · rw [htouch.rd (by decide), hin, Nat.mod_eq_of_lt i.isLt]
  · rw [htouch.rd (by decide), hpoint, Nat.mod_eq_of_lt p.isLt]

/-- Outside SERVICE, GO answers RESULT 7. -/
theorem execCalSysGo_outside (hport : s.port = .opened) (hmode : s.mode ≠ mService) (hi : i.val < 40) (hp : p.val = 1 ∨ p.val = 2)
    (hidle : s.on Reg.CAL_SYS_STAT_BUSY = false) :
    ∃ t, exec (.calSysGo i p) s = .next t ∧ t.rd Reg.HOST_LAST_STATUS = 0 ∧ t.rd Reg.CAL_SYS_STAT_RESULT = 7 ∧
      t.rd Reg.CAL_SYS_STAT_BUSY = s.rd Reg.CAL_SYS_STAT_BUSY := by
  obtain ⟨t, u, ht, hstatus, hsame, htouch⟩ := execCalSysGo_taken hport hi hp
  have hmode' : u.mode ≠ mService := fun h => hmode ((hsame.rd (f := Reg.PWR_MODE_MODE) (by decide)).symm.trans h)
  rw [State.sysGo_outside (by rw [hsame.on (by decide), hidle]) hmode'] at htouch
  refine ⟨t, ht, hstatus, ?_, ?_⟩
  · rw [htouch.rd (by decide), State.rd_wr_same]
    rfl
  · rw [htouch.rd (by decide), State.rd_wr_ne _ _ _ _ (by decide), hsame.rd (by decide)]

/-- While a point runs, GO answers RESULT 9. -/
theorem execCalSysGo_busy (hport : s.port = .opened) (hi : i.val < 40) (hp : p.val = 1 ∨ p.val = 2)
    (hbusy : s.on Reg.CAL_SYS_STAT_BUSY = true) :
    ∃ t, exec (.calSysGo i p) s = .next t ∧ t.rd Reg.HOST_LAST_STATUS = 0 ∧ t.rd Reg.CAL_SYS_STAT_RESULT = 9 := by
  obtain ⟨t, u, ht, hstatus, hsame, htouch⟩ := execCalSysGo_taken hport hi hp
  rw [State.sysGo_busy (by rw [hsame.on (by decide), hbusy])] at htouch
  refine ⟨t, ht, hstatus, ?_⟩
  rw [htouch.rd (by decide), State.rd_wr_same]
  rfl

/-- The word of CAL_SYS_CMD that ends a point and keeps INPUT and POINT. -/
def abortWord (input point : Nat) : Nat := input + 256 * point + 2 ^ 14

theorem abortWord_fields (hinput : input < 40) (hpoint : point = 1 ∨ point = 2) : bits (abortWord input point) 0 6 = input ∧
    bits (abortWord input point) 8 2 = point ∧ bit (abortWord input point) 14 = true ∧ bit (abortWord input point) 15 = false := by
  simp only [bits, bit, abortWord, beq_eq_false_iff_ne, beq_iff_eq]
  omega

/-- ABORT ends the point that runs with RESULT 10. -/
theorem execCalSysAbort_busy (hport : s.port = .opened) (hbusy : s.on Reg.CAL_SYS_STAT_BUSY = true)
    (hinput : s.rd Reg.CAL_SYS_CMD_INPUT < 40) (hpoint : s.rd Reg.CAL_SYS_CMD_POINT = 1 ∨ s.rd Reg.CAL_SYS_CMD_POINT = 2) :
    ∃ t, exec .calSysAbort s = .next t ∧ t.rd Reg.HOST_LAST_STATUS = 0 ∧ t.rd Reg.CAL_SYS_STAT_BUSY = 0 ∧
      t.rd Reg.CAL_SYS_STAT_RESULT = 10 := by
  have hexec : exec .calSysAbort s = fin (s.hostWrite 0x2810 [abortWord (s.rd Reg.CAL_SYS_CMD_INPUT) (s.rd Reg.CAL_SYS_CMD_POINT)]) := rfl
  obtain ⟨hin, hpt, habort, hgo⟩ := abortWord_fields hinput hpoint
  generalize abortWord (s.rd Reg.CAL_SYS_CMD_INPUT) (s.rd Reg.CAL_SYS_CMD_POINT) = v at hexec hin hpt habort hgo
  have hrange : s.arrived.rangeHigh 0x2810 v = false := by
    rcases hpoint with hp | hp <;> simp [State.rangeHigh, hin, hpt, hinput, hp]
  obtain ⟨t, ht, hstatus, htouch⟩ := hostWrite_command (a := 0x2810) (v := v) hport (by decide) hrange
  rw [State.wordApply_sysAbort habort hgo] at htouch
  obtain ⟨hended, hresult⟩ := State.sysAbort_busy (s := s.arrived.sysNamed v) (by rw [Touches.sysNamed.on (by decide), hbusy])
  exact ⟨t, hexec.trans ht, hstatus, (htouch.rd (by decide)).trans hended, (htouch.rd (by decide)).trans hresult⟩

end Sys2Proof.Machine
end

section
/-! The host's re-admission of one thermal sensor (R265, R268). -/

namespace Sys2Proof.Machine

variable {s t : State} {i : Nat} {n : Fin 8} {mask : Fin 256}

theorem thermSensor_named : (upTo 8).filter (bit (2 ^ n.val)) = [n.val] := by
  revert n
  decide

/-- A sensor that has not failed, or failed for a cause that no re-admission mends, answers RESULT 2. -/
theorem State.thermReadmit_unfit
    (h : s.tsFailed n.val = false ∨ (s.rdAt Reg.TS_STATE_CAUSE n.val ≠ 1 ∧ s.rdAt Reg.TS_STATE_CAUSE n.val ≠ 3)) :
    s.thermReadmit (2 ^ n.val) = s.wr Reg.THERM_CMD_STAT_RESULT 2 := by
  rw [State.thermReadmit, thermSensor_named]
  exact if_pos h

theorem State.readmit_fit (hfailed : s.tsFailed i = true) (hcause : s.rdAt Reg.TS_STATE_CAUSE i ∈ [1, 3]) :
    ¬ (s.tsFailed i = false ∨ (s.rdAt Reg.TS_STATE_CAUSE i ≠ 1 ∧ s.rdAt Reg.TS_STATE_CAUSE i ≠ 3)) := by
  simp only [List.mem_cons, List.not_mem_nil, or_false] at hcause
  simp [hfailed]
  omega

/-- Without a usable neighbour the answer is RESULT 3. -/
theorem State.thermReadmit_alone (hfailed : s.tsFailed n.val = true) (hcause : s.rdAt Reg.TS_STATE_CAUSE n.val ∈ [1, 3])
    (hnone : s.tsUsables n.val = []) : s.thermReadmit (2 ^ n.val) = s.wr Reg.THERM_CMD_STAT_RESULT 3 := by
  rw [State.thermReadmit, thermSensor_named]
  exact (if_neg (State.readmit_fit hfailed hcause)).trans (if_pos (by rw [hnone]; rfl))

/-- The machine with the readmit of a sensor that counts no earlier code. -/
def State.readmitting (s : State) (i : Nat) : State := (s.wrAt Hid.tsReadmit i 1).wrAt Hid.tsUrgNew i 0

/-- Otherwise the readmit stands, and its conversion is asked for. -/
theorem State.thermReadmit_asks (hfailed : s.tsFailed n.val = true) (hcause : s.rdAt Reg.TS_STATE_CAUSE n.val ∈ [1, 3])
    (hsome : s.tsUsables n.val ≠ []) : s.thermReadmit (2 ^ n.val) = (s.readmitting n.val).urgIssue .therm (54 + n.val) none := by
  rw [State.thermReadmit, thermSensor_named]
  refine (if_neg (State.readmit_fit hfailed hcause)).trans (if_neg ?_)
  simpa using hsome

/-- A request of the thermal block waits behind its request under way. -/
theorem State.urgIssue_therm_waits {input : Nat} (hbusy : s.urgBusy .therm = true) :
    (s.urgIssue .therm input none).urgMore = s.urgMore ++ [⟨.therm, input, 3⟩] := by
  simp [State.urgIssue, hbusy]

theorem State.arrived_tsFailed : s.arrived.tsFailed i = s.tsFailed i := by
  simp only [State.tsFailed, State.onAt, Touches.arrived.rdAt (f := Reg.TS_STATE_FAILED) (by decide)]

theorem State.arrived_tsUsables : s.arrived.tsUsables i = s.tsUsables i := by
  have htick : s.arrived.tick = s.tick := Touches.arrived.rd (by decide)
  have husable : s.arrived.tsUsable = s.tsUsable := by
    funext j
    simp only [State.tsUsable, State.arrived_tsFailed, htick, Touches.arrived.rdAt (f := Hid.tsAt) (by decide)]
  rw [State.tsUsables, husable, State.tsUsables]

/-- READMIT of one sensor is taken, and leaves what its word does. -/
theorem execThermReadmit_taken (hport : s.port = .opened) (hmask : mask.val = 2 ^ n.val) :
    ∃ t, exec (.thermReadmit mask) s = .next t ∧ t.rd Reg.HOST_LAST_STATUS = 0 ∧
      Touches [.arb, .resp, .sent] (Touches.busFlds ++ Touches.lastFlds) (s.arrived.thermReadmit (2 ^ n.val)) t := by
  obtain ⟨t, ht, hstatus, htouch⟩ := hostWrite_command (a := 0x2C08) (v := mask.val) hport (by decide) (by simp [State.rangeHigh])
  rw [State.wordApply_thermCmd, Nat.mod_eq_of_lt mask.isLt, hmask] at htouch
  exact ⟨t, ht, hstatus, htouch⟩

/-- READMIT of a sensor that is not fit for it answers RESULT 2. -/
theorem execThermReadmit_unfit (hport : s.port = .opened) (hmask : mask.val = 2 ^ n.val)
    (h : s.tsFailed n.val = false ∨ (s.rdAt Reg.TS_STATE_CAUSE n.val ≠ 1 ∧ s.rdAt Reg.TS_STATE_CAUSE n.val ≠ 3)) :
    ∃ t, exec (.thermReadmit mask) s = .next t ∧ t.rd Reg.HOST_LAST_STATUS = 0 ∧ t.rd Reg.THERM_CMD_STAT_RESULT = 2 ∧
      t.rdAt Hid.tsReadmit n.val = s.rdAt Hid.tsReadmit n.val := by
  obtain ⟨t, ht, hstatus, htouch⟩ := execThermReadmit_taken hport hmask
  rw [State.thermReadmit_unfit (by rwa [State.arrived_tsFailed, Touches.arrived.rdAt (by decide)])] at htouch
  refine ⟨t, ht, hstatus, ?_, ?_⟩
  · rw [htouch.rd (by decide), State.rd_wr_same]
    rfl
  · rw [htouch.rdAt (by decide), Touches.arrived.wr.rdAt (by decide)]

/-- READMIT without a usable neighbour answers RESULT 3. -/
theorem execThermReadmit_alone (hport : s.port = .opened) (hmask : mask.val = 2 ^ n.val) (hfailed : s.tsFailed n.val = true)
    (hcause : s.rdAt Reg.TS_STATE_CAUSE n.val ∈ [1, 3]) (hnone : s.tsUsables n.val = []) :
    ∃ t, exec (.thermReadmit mask) s = .next t ∧ t.rd Reg.HOST_LAST_STATUS = 0 ∧ t.rd Reg.THERM_CMD_STAT_RESULT = 3 ∧
      t.rdAt Hid.tsReadmit n.val = s.rdAt Hid.tsReadmit n.val := by
  obtain ⟨t, ht, hstatus, htouch⟩ := execThermReadmit_taken hport hmask
  rw [State.thermReadmit_alone (by rwa [State.arrived_tsFailed]) (by rwa [Touches.arrived.rdAt (by decide)])
    (by rwa [State.arrived_tsUsables])] at htouch
  refine ⟨t, ht, hstatus, ?_, ?_⟩
  · rw [htouch.rd (by decide), State.rd_wr_same]
    rfl
  · rw [htouch.rdAt (by decide), Touches.arrived.wr.rdAt (by decide)]

/-- READMIT of any other sensor stands. -/
theorem execThermReadmit_asks (hport : s.port = .opened) (hmask : mask.val = 2 ^ n.val) (hfailed : s.tsFailed n.val = true)
    (hcause : s.rdAt Reg.TS_STATE_CAUSE n.val ∈ [1, 3]) (hsome : s.tsUsables n.val ≠ []) :
    ∃ t, exec (.thermReadmit mask) s = .next t ∧ t.rd Reg.HOST_LAST_STATUS = 0 ∧ t.rdAt Hid.tsReadmit n.val = 1 ∧
      t.rdAt Hid.tsUrgNew n.val = 0 ∧ t.rdAt Reg.TS_STATE_FAILED n.val = s.rdAt Reg.TS_STATE_FAILED n.val ∧
      (s.urgBusy .therm = true → t.urgMore = s.urgMore ++ [⟨.therm, 54 + n.val, 3⟩]) := by
  obtain ⟨t, ht, hstatus, htouch⟩ := execThermReadmit_taken hport hmask
  rw [State.thermReadmit_asks (by rwa [State.arrived_tsFailed]) (by rwa [Touches.arrived.rdAt (by decide)])
    (by rwa [State.arrived_tsUsables])] at htouch
  have hafter := Touches.urgIssue.andThen htouch
  refine ⟨t, ht, hstatus, ?_, ?_, ?_, fun hbusy => ?_⟩
  · rw [hafter.rdAt (by decide), State.readmitting, State.rdAt_wrAt_id _ _ _ _ _ _ (by decide), State.rdAt_wrAt_same]
    rfl
  · rw [hafter.rdAt (by decide), State.readmitting, State.rdAt_wrAt_same]
    rfl
  · rw [hafter.rdAt (by decide)]
    exact Touches.arrived.wrAt.wrAt.rdAt (by decide) _
  · have hconvs : (s.arrived.readmitting n.val).convs = s.convs := Touches.arrived.convs_eq (by decide)
    have hmore : (s.arrived.readmitting n.val).urgMore = s.urgMore := Touches.arrived.parts .urgMore (by decide)
    have hkept : t.urgMore = ((s.arrived.readmitting n.val).urgIssue .therm (54 + n.val) none).urgMore := htouch.parts .urgMore (by decide)
    rw [hkept, State.urgIssue_therm_waits (by rwa [State.urgBusy, hconvs]), hmore]

/-- Settles O38: each command is one word at an open port, which is taken and does what its register's command does. -/
theorem hostConvertsAndCalibrates : Obligations.HostConvertsAndCalibrates := by
  unfold Obligations.HostConvertsAndCalibrates
  exact ⟨fun _ _ => execConvUrgGo_off, fun _ _ => execCalReq_due,
    fun _ _ _ hport hmode hi hp hlow hhigh => execCalSysGo_starts hport hmode hi hp ⟨hlow, hhigh⟩,
    fun _ _ _ => execCalSysGo_outside, fun _ _ _ => execCalSysGo_busy, fun _ => execCalSysAbort_busy,
    fun _ _ _ => execThermReadmit_unfit, fun _ _ _ => execThermReadmit_alone, fun _ _ _ => execThermReadmit_asks⟩

end Sys2Proof.Machine
end

section
/-! How converters and calibrations read after the operations that change them, and what the service of urgent requests leaves of
both (R146 to R150, R158 to R160). -/

namespace Sys2Proof.Machine

variable {s t u : State} {P : List Part} {L : List Fld} {b : Bool} {c k n code : Nat} {x : ConvS} {q : CalS}

@[simp] theorem State.evcEdge_conv : s.evcEdge.conv k = s.conv k := by simp [State.conv]

@[simp] theorem State.evcEdge_cal : s.evcEdge.cal k = s.cal k := by simp [State.cal]

@[simp] theorem State.count_conv : (s.count code).conv k = s.conv k := by simp [State.conv]

@[simp] theorem State.count_cal : (s.count code).cal k = s.cal k := by simp [State.cal]

@[simp] theorem State.countIf_cal : (s.countIf b code).cal k = s.cal k := by simp [State.cal]

@[simp] theorem State.setConv_cals : (s.setConv c x).cals = s.cals := rfl

@[simp] theorem State.setCal_convs : (s.setCal c q).convs = s.convs := rfl

@[simp] theorem State.setConv_cal : (s.setConv c x).cal k = s.cal k := rfl

@[simp] theorem State.setCal_conv : (s.setCal c q).conv k = s.conv k := rfl

@[simp] theorem State.setConv_convs_length : (s.setConv c x).convs.length = s.convs.length := length_setAt _ _ _

@[simp] theorem State.setCal_cals_length : (s.setCal c q).cals.length = s.cals.length := length_setAt _ _ _

theorem State.conv_setConv_ne (h : c ≠ k) : (s.setConv c x).conv k = s.conv k := by
  simp [State.conv, State.setConv, setAt_eq_set, List.getD_eq_getElem?_getD, List.getElem?_set_ne h]

/-- A converter that the list does not hold is not changed. -/
theorem State.setConv_beyond (h : s.convs.length ≤ c) : s.setConv c x = s := by
  rw [State.setConv, setAt_eq_set, List.set_eq_of_length_le h]

theorem State.setCal_beyond (h : s.cals.length ≤ c) : s.setCal c q = s := by
  rw [State.setCal, setAt_eq_set, List.set_eq_of_length_le h]

/-- What holds of a converter before and after a change of it, whether or not the list holds it. -/
theorem State.conv_setConv_of {p : ConvS → Prop} (hold : p (s.conv k)) (hnew : c = k → p x) : p ((s.setConv c x).conv k) := by
  by_cases hk : c = k
  · subst hk
    rcases Nat.lt_or_ge c s.convs.length with hlt | hge
    · rw [State.conv_setConv hlt]
      exact hnew rfl
    · rwa [State.setConv_beyond hge]
  · rwa [State.conv_setConv_ne hk]

theorem State.cal_setCal_of {p : CalS → Prop} (hold : p (s.cal k)) (hnew : c = k → p q) : p ((s.setCal c q).cal k) := by
  by_cases hk : c = k
  · subst hk
    rcases Nat.lt_or_ge c s.cals.length with hlt | hge
    · rw [State.cal_setCal_same hlt]
      exact hnew rfl
    · rwa [State.setCal_beyond hge]
  · rwa [State.cal_setCal_ne hk]

/-- Every converter stands where it stood in its walk, in its power phase (R148, R150). -/
structure WalksKept (s t : State) : Prop where
  length : t.convs.length = s.convs.length
  pos : ∀ k, (t.conv k).pos = (s.conv k).pos
  phase : ∀ k, (t.conv k).phase = (s.conv k).phase

namespace WalksKept

theorem of_convs (h : t.convs = s.convs) : WalksKept s t :=
  ⟨by rw [h], fun k => by rw [State.conv, h, State.conv], fun k => by rw [State.conv, h, State.conv]⟩

theorem refl (s : State) : WalksKept s s := of_convs rfl

theorem trans (h : WalksKept s t) (g : WalksKept t u) : WalksKept s u :=
  ⟨g.length.trans h.length, fun k => (g.pos k).trans (h.pos k), fun k => (g.phase k).trans (h.phase k)⟩

theorem of_touches (h : Touches P L s t) (hP : Part.convs ∉ P) : WalksKept s t := of_convs (h.convs_eq hP)

theorem setConv (hpos : x.pos = (s.conv c).pos) (hphase : x.phase = (s.conv c).phase) : WalksKept s (s.setConv c x) :=
  ⟨State.setConv_convs_length, fun k => State.conv_setConv_of (p := fun y => y.pos = (s.conv k).pos) rfl fun h => h ▸ hpos,
    fun k => State.conv_setConv_of (p := fun y => y.phase = (s.conv k).phase) rfl fun h => h ▸ hphase⟩

theorem setCal : WalksKept s (s.setCal c q) := of_convs rfl

theorem urgNext : WalksKept s (s.urgNext c) := by
  unfold State.urgNext
  extract_lets x
  split
  · exact refl s
  · split
    · exact setConv rfl rfl
    · exact refl s

/-- What a converter's start needs to know of it. -/
theorem go (h : WalksKept s t) : (t.conv k).go = (s.conv k).go := by rw [ConvS.go, h.phase, ConvS.go]

end WalksKept

@[simp] theorem State.urgNext_relief : (s.urgNext c).relief = s.relief := Touches.urgNext.parts .relief (by decide)

@[simp] theorem State.urgNext_cal : (s.urgNext c).cal k = s.cal k := Touches.urgNext.cal_eq (by decide)

@[simp] theorem State.urgDrop_relief {v : Urg} : (s.urgDrop v).relief = s.relief := Touches.urgDrop.parts .relief (by decide)

/-- Every calibration keeps its course: only which health checks run or are owed may differ, and none begins (R159, R179). -/
structure CoursesKept (s t : State) : Prop where
  length : t.cals.length = s.cals.length
  course : ∀ k, t.cal k = { s.cal k with health := (t.cal k).health, skipped := (t.cal k).skipped }
  idle : ∀ k, (s.cal k).health = false → (t.cal k).health = false

namespace CoursesKept

theorem of_cals (h : t.cals = s.cals) : CoursesKept s t := by
  have hcal : ∀ k, t.cal k = s.cal k := fun k => by rw [State.cal, h, State.cal]
  exact ⟨by rw [h], fun k => by rw [hcal], fun k hk => by rwa [hcal]⟩

theorem refl (s : State) : CoursesKept s s := of_cals rfl

theorem trans (h : CoursesKept s t) (g : CoursesKept t u) : CoursesKept s u :=
  ⟨g.length.trans h.length, fun k => by rw [g.course, h.course], fun k hk => g.idle k (h.idle k hk)⟩

theorem of_touches (h : Touches P L s t) (hP : Part.cals ∉ P) : CoursesKept s t := of_cals (h.cals_eq hP)

theorem either {p : Prop} {inst : Decidable p} (ht : CoursesKept s t) (hu : CoursesKept s u) : CoursesKept s (if p then t else u) := by
  split
  · exact ht
  · exact hu

theorem phase (h : CoursesKept s t) (k : Nat) : (t.cal k).phase = (s.cal k).phase := by rw [h.course]

theorem due (h : CoursesKept s t) (k : Nat) : (t.cal k).due = (s.cal k).due := by rw [h.course]

theorem suspect (h : CoursesKept s t) (k : Nat) : (t.cal k).suspect = (s.cal k).suspect := by rw [h.course]

theorem replaced (h : CoursesKept s t) (k : Nat) : t.replaced k = s.replaced k := by rw [State.replaced, h.phase, State.replaced]

/-- A change of which checks of a converter run or are owed. -/
theorem setCal (hq : q = { s.cal c with health := q.health, skipped := q.skipped }) (hidle : (s.cal c).health = false → q.health = false) :
    CoursesKept s (s.setCal c q) :=
  ⟨State.setCal_cals_length,
    fun k => State.cal_setCal_of (p := fun r => r = { s.cal k with health := r.health, skipped := r.skipped }) rfl fun h => h ▸ hq,
    fun _ hk => State.cal_setCal_of (p := fun r => r.health = false) hk fun h => hidle (h ▸ hk)⟩

/-- A dropped request ends the check that it belongs to (R159). -/
theorem urgDrop {v : Urg} : CoursesKept s (s.urgDrop v) := by
  unfold State.urgDrop
  extract_lets t
  have ht : CoursesKept s t := of_cals (by simp [t])
  have hmore : ∀ l, CoursesKept t { t with urgMore := l } := fun _ => of_cals rfl
  split
  · exact ht.trans (of_cals rfl)
  · exact ht.trans (of_touches (P := []) ((Touches.refl t).whenB fun w => (Touches.refl w).wr.count) (by simp))
  · exact ht.trans ((hmore _).trans (setCal rfl fun _ => rfl))
  · exact ht.trans (of_cals rfl)

theorem urgPlace {v : Urg} : CoursesKept s (s.urgPlace v) := by
  have hset : ∀ {w : State} {y : ConvS}, w.cals = s.cals → CoursesKept s (w.setConv v.conv y) := fun hw => of_cals hw
  exact either (either (hset rfl) (either (hset rfl) (hset (State.countIf_cals _ _ _))))
    (either urgDrop (either (hset rfl) (either (hset rfl) (hset rfl))))

theorem urgSend {src : UrgBy} {input : Nat} {named : Option Nat} : CoursesKept s (s.urgSend src input named) :=
  (of_cals (by simp)).trans urgPlace

theorem urgKept {src : UrgBy} : CoursesKept s (s.urgKept src n) := by
  induction n generalizing s with
  | zero => exact refl s
  | succ n ih =>
    unfold State.urgKept
    split
    · exact refl s
    · split
      · exact refl s
      · next v _ =>
        have herase : CoursesKept s { s with urgMore := s.urgMore.erase v } := of_cals rfl
        exact herase.trans (urgSend.trans ih)

theorem urgNextKept {src : UrgBy} : CoursesKept s (s.urgNextKept src) := urgKept

theorem foldl {α : Type} {l : List α} {f : State → α → State} (hf : ∀ t a, CoursesKept t (f t a)) : CoursesKept s (l.foldl f s) := by
  induction l generalizing s with
  | nil => exact refl s
  | cons a l ih => exact (hf s a).trans ih

/-- The requests of a replaced converter go to C, which may drop them (R158, R180). -/
theorem urgMove : CoursesKept s (s.urgMove c) := by
  unfold State.urgMove
  extract_lets x t u
  have hu : CoursesKept s u := of_cals rfl
  have hplaced : ∀ (w : State) (v : Urg), CoursesKept w ((w.count 0x49).urgPlace { v with conv := 2 }) := fun w v =>
    (of_cals (by simp)).trans urgPlace
  exact hu.trans ((foldl hplaced).trans urgNextKept)

end CoursesKept

end Sys2Proof.Machine
end

section
/-! How a calibration attempt that ends, and a scan that goes back, leave the other converters (R169, R176, R177). -/

namespace Sys2Proof.Machine

variable {s t u : State} {P : List Part} {L : List Fld} {c k result reason : Nat} {q : CalS}

/-- The calibrations of the converters other than `c` stand as they did. -/
structure OtherCalsKept (c : Nat) (s t : State) : Prop where
  length : t.cals.length = s.cals.length
  others : ∀ k, k ≠ c → t.cal k = s.cal k

namespace OtherCalsKept

theorem of_cals (h : t.cals = s.cals) : OtherCalsKept c s t := ⟨by rw [h], fun k _ => by rw [State.cal, h, State.cal]⟩

theorem refl (s : State) : OtherCalsKept c s s := of_cals rfl

theorem trans (h : OtherCalsKept c s t) (g : OtherCalsKept c t u) : OtherCalsKept c s u :=
  ⟨g.length.trans h.length, fun k hk => (g.others k hk).trans (h.others k hk)⟩

theorem setCal : OtherCalsKept c s (s.setCal c q) :=
  ⟨State.setCal_cals_length, fun _ hk => State.cal_setCal_ne hk.symm⟩

theorem replaced (h : OtherCalsKept c s t) (hk : k ≠ c) : t.replaced k = s.replaced k := by rw [State.replaced, h.others k hk, State.replaced]

/-- The record of an attempt is its converter's own (R176, R189). -/
theorem calRecord : OtherCalsKept c s (s.calRecord c result reason) := by
  unfold State.calRecord
  extract_lets t u onInt _ v _ w
  have ht : OtherCalsKept c s t := of_cals rfl
  have hv : OtherCalsKept c t v := of_cals (by simp [v, u, State.wrsAt])
  have hw : OtherCalsKept c t w := of_cals (by simp [w, State.or, State.orAt])
  split
  · exact ht.trans (hv.trans (setCal.trans (of_cals (Touches.traceReview.cals_eq (by decide)))))
  · split
    · exact ht.trans (hw.trans setCal)
    · exact ht.trans (setCal.trans (of_cals (State.count_cals _ _)))

/-- An abandoned calibration is its converter's own (R177). -/
theorem calAbandon : OtherCalsKept c s (s.calAbandon c) := by
  unfold State.calAbandon
  extract_lets p t
  split
  · split
    · exact calRecord.trans (of_cals rfl)
    · exact calRecord
  · exact refl s

end OtherCalsKept

/-- A calibration that is abandoned changes the relief only where C holds its scan (R177). -/
theorem State.calAbandon_relief (h : s.relief.target ≠ some c) : (s.calAbandon c).relief = s.relief := by
  unfold State.calAbandon
  extract_lets p t
  have ht : t.relief = s.relief := Touches.calRecord.parts .relief (by decide)
  split
  · rw [if_neg (by rwa [ht]), ht]
  · rfl

namespace WalksKept

/-- The record of an attempt leaves the walks (R148, R183). -/
theorem calRecord : WalksKept s (s.calRecord c result reason) := by
  unfold State.calRecord
  extract_lets t u onInt _ v _ w
  have ht : WalksKept s t := of_convs rfl
  have hv : WalksKept t v := (of_convs (by simp [u, State.wrsAt])).trans (setConv rfl rfl)
  have hw : WalksKept t w := of_convs (by simp [w, State.or, State.orAt])
  split
  · exact ht.trans (hv.trans (setCal.trans (of_touches Touches.traceReview (by decide))))
  · split
    · exact ht.trans (hw.trans setCal)
    · exact ht.trans (setCal.trans (of_convs (State.count_convs _ _)))

theorem settleBack : WalksKept s (s.settleBack c) := by
  unfold State.settleBack
  extract_lets q t
  have ht : WalksKept s t := by
    unfold t
    split
    · exact (of_touches (Touches.applyTaps.setCal (P := []) (c := c)) (by decide)).trans calRecord
    · exact refl s
  split
  · exact ht.trans (setCal.trans (of_convs (State.count_convs _ _)))
  · exact ht

end WalksKept

/-- What C does once it has no scan leaves the other converters (R150, R169). -/
theorem State.cIdle_conv (h : k ≠ 2) : s.cIdle.conv k = s.conv k := by
  have hset : ∀ y, (s.setConv 2 y).conv k = s.conv k := fun _ => State.conv_setConv_ne h.symm
  unfold State.cIdle
  extract_lets
  split
  · rfl
  · split
    · unfold State.powerDown
      split
      · rfl
      · rw [State.count_conv, hset]
    · unfold State.urgNext
      extract_lets
      split
      · rfl
      · split
        · exact hset _
        · rfl

end Sys2Proof.Machine
end

section
/-! Scans that pass between converters (R169, R176, R180), and C's check before a relief (R170, R179). -/

namespace Sys2Proof.Machine

variable {s : State} {c k : Nat} {a b : Int} {e : Option Entry}

theorem State.conv_setRelief {r : Relief} : ({ s with relief := r } : State).conv k = s.conv k := rfl

theorem State.handToC_target : (s.handToC c).relief.target = some c := by
  rw [State.handToC, State.urgNext_relief, State.count_relief]

/-- C goes on where the converter stood in its walk (R169). -/
theorem State.handToC_pos (hlen : 2 < s.convs.length) : ((s.handToC c).conv 2).pos = (s.conv c).pos := by
  rw [State.handToC, WalksKept.urgNext.pos, State.count_conv, State.conv_setRelief, State.conv_setConv hlen]

theorem State.handOff_relief : (s.handOff c).relief = { s.relief with target := none, back := false } := by
  rw [State.handOff, State.urgNext_relief, State.count_relief]
  rfl

/-- The converter that gets its scan back goes on where C stood in its walk (R169, R176). -/
theorem State.handOff_walk (hlen : c < s.convs.length) (hc : c ≠ 2) :
    ((s.handOff c).conv c).pos = (s.conv 2).pos ∧ ((s.handOff c).conv c).phase = (s.conv c).go := by
  rw [State.handOff, WalksKept.urgNext.pos, WalksKept.urgNext.phase, State.count_conv, State.conv_setRelief,
    State.conv_setConv_ne hc.symm, State.conv_setConv hlen]
  exact ⟨rfl, rfl⟩

/-- A converter that C takes over is relieved for good (R180). -/
theorem State.takeOver_relief : (s.takeOver c e).relief = { target := some c, forGood := true } := rfl

/-- A check of C that it would pass, made or dropped, leaves every calibration in its course and the relief as it was. -/
theorem State.checkC_kept (hpass : healthPass a b = true) : CoursesKept s (s.checkC a b).1 ∧ (s.checkC a b).1.relief = s.relief := by
  unfold State.checkC
  extract_lets x busy _ t u
  have ht : CoursesKept s t := ((CoursesKept.of_cals (State.countIf_cals s _ 0x6B)).trans
    (.setCal (by rw [State.countIf_cal]) (by rw [State.countIf_cal]; exact id))).trans (.of_cals (State.count_cals _ _))
  have hu : CoursesKept t u := .of_cals (by simp [u])
  have hrelief : t.relief = s.relief := by simp [t, State.setCal]
  split
  · dsimp only
    exact ⟨ht.trans .urgDrop, State.urgDrop_relief.trans hrelief⟩
  · dsimp only
    exact ⟨ht.trans hu, (by simp [u] : u.relief = t.relief).trans hrelief⟩

/-- With no conversion of C under way its check is made (R160, R170). -/
theorem State.checkC_passed (hpass : healthPass a b = true) (hentry : (s.conv 2).entry = none) (hurg : (s.conv 2).urg = none) :
    (s.checkC a b).2 = some true := by
  simp [State.checkC, hpass, hentry, hurg]

end Sys2Proof.Machine
end

section
/-! Self-calibration from its due time to the handback (R169, R172 to R176). -/

namespace Sys2Proof.Machine

variable {s : State} {a b : Int} {c k : Nat}

/-! A converter becomes due. -/

theorem execSelfCalDue_due {c : Fin 3} (hup : s.up = true) (hnow : s.calNowDue c.val = true) (hlen : s.cals.length = 3)
    (hown : s.replaced c.val = false) (hruns : s.calRuns c.val = false) :
    ∃ t, exec (.selfCalDue c) s = .next t ∧ (t.cal c.val).due = true := by
  have hexec : exec (.selfCalDue c) s = fin (s.calDue c.val false) := if_pos (by simp [hup, hnow, hruns])
  rw [hexec]
  refine exists_fin ?_
  rw [State.evcEdge_cal]
  exact State.calDue_due (by omega) hown

/-- A calibration under way is not asked for again (R177). -/
theorem execSelfCalDue_running {c : Fin 3} (hruns : s.calRuns c.val = true) :
    ∃ t, exec (.selfCalDue c) s = .next t ∧ (t.cal c.val).due = (s.cal c.val).due := by
  have hexec : exec (.selfCalDue c) s = fin s := if_neg (by simp [hruns])
  rw [hexec]
  exact exists_fin (by rw [State.evcEdge_cal])

/-! A due calibration starts. -/

/-- A calibration whose turn it is starts: it is due no more (R173). -/
def State.calStarted (s : State) (c : Nat) : State := (s.setCal c { s.cal c with due := false, asked := false }).count 0x60

theorem State.calStarted_cal (hlen : c < s.cals.length) :
    (s.calStarted c).cal c = { s.cal c with due := false, asked := false } := by
  rw [State.calStarted, State.count_cal, State.cal_setCal_same hlen]

theorem State.calStarted_cals_length : (s.calStarted c).cals.length = s.cals.length := by
  rw [State.calStarted, State.count_cals, State.setCal_cals_length]

theorem State.calStarted_conv : (s.calStarted c).conv k = s.conv k := by
  rw [State.calStarted, State.count_conv, State.setCal_conv]

/-- C's own runs need no relief and begin at once (R178). -/
theorem execSelfCalStart_ofC (hlen : s.cals.length = 3) (hallowed : s.calAllowed 2 = true) (hfree : s.cFree = true) :
    ∃ t, exec (.selfCalStart 2 a b) s = .next t ∧ (t.cal 2).phase = 3 ∧ (t.cal 2).due = false := by
  have hexec : exec (.selfCalStart 2 a b) s =
      fin ((((s.calStarted 2).setCal 2 { (s.calStarted 2).cal 2 with phase := 3, onInt := s.on Reg.CAL_STAT_REF_LOW }).setConv 2
        { (s.calStarted 2).conv 2 with phase := .ready, entry := none }).urgNext 2) :=
    (if_neg (by simp [hallowed])).trans ((if_neg (by simp [hfree])).trans (if_pos rfl))
  have hlen' : 2 < (s.calStarted 2).cals.length := by rw [State.calStarted_cals_length, hlen]; decide
  rw [hexec]
  refine exists_fin ?_
  rw [State.evcEdge_cal, State.urgNext_cal, State.setConv_cal, State.cal_setCal_same hlen', State.calStarted_cal (by omega)]
  exact ⟨rfl, rfl⟩

/-- A or B waits for its boundary once C has passed its check (R173, R174). -/
theorem execSelfCalStart_ofAB {c : Fin 2} (hlen : s.cals.length = 3) (hallowed : s.calAllowed c.val = true) (hfree : s.cFree = true)
    (hpass : healthPass a b = true) (hfirst : c.val = 1 → s.calAllowed 0 = false) (hentry : (s.conv 2).entry = none)
    (hurg : (s.conv 2).urg = none) :
    ∃ t, exec (.selfCalStart (Fin.castLE (by decide) c) a b) s = .next t ∧ (t.cal c.val).phase = 2 ∧ (t.cal c.val).due = false := by
  have hchecked : ((s.calStarted c.val).checkC a b).2 = some true :=
    State.checkC_passed hpass (by rw [State.calStarted_conv, hentry]) (by rw [State.calStarted_conv, hurg])
  have hkept := (State.checkC_kept (s := s.calStarted c.val) hpass).1
  set u := ((s.calStarted c.val).checkC a b).1 with hu
  have hexec : exec (.selfCalStart (Fin.castLE (by decide) c) a b) s =
      fin (((u.setCal c.val { u.cal c.val with phase := 2 }).setConv 2 { u.conv 2 with phase := .ready }).urgNext 2) := by
    have hAB : c.val ≠ 2 := by omega
    have hturn : ¬(c.val = 1 ∧ s.calAllowed 0 = true) := fun ⟨hB, hA⟩ => by simp [hfirst hB] at hA
    change execSelfCalStart _ a b s = _
    rw [State.calStarted] at hchecked
    simp [execSelfCalStart, hallowed, hfree, hAB, hturn, hchecked, hu, State.calStarted]
  have hlen' : c.val < u.cals.length := by rw [hkept.length, State.calStarted_cals_length]; omega
  rw [hexec]
  refine exists_fin ?_
  rw [State.evcEdge_cal, State.urgNext_cal, State.setConv_cal, State.cal_setCal_same hlen']
  refine ⟨rfl, (hkept.due _).trans ?_⟩
  rw [State.calStarted_cal (by omega)]

/-- B waits while A is due too (R173). -/
theorem execSelfCalStart_ofB_waits (hlen : s.cals.length = 3) (hB : s.calAllowed 1 = true) (hA : s.calAllowed 0 = true) :
    ∃ t, exec (.selfCalStart 1 a b) s = .next t ∧ (t.cal 1).phase = 1 ∧ (t.cal 1).due = (s.cal 1).due := by
  have hexec : exec (.selfCalStart 1 a b) s = fin (s.setCal 1 { s.cal 1 with phase := 1 }) :=
    (if_neg (by simp [hB])).trans (if_pos (by simp [hA]))
  rw [hexec]
  refine exists_fin ?_
  rw [State.evcEdge_cal, State.cal_setCal_same (by omega)]
  exact ⟨rfl, rfl⟩

/-! The runs, with the scan at C. -/

theorem State.calStart_pos : ((s.calStart c).conv k).pos = (s.conv k).pos :=
  (WalksKept.urgNext.pos k).trans (State.conv_setConv_of (p := fun x => x.pos = (s.conv k).pos) rfl fun h => by rw [h])

theorem State.calStart_convs_length : (s.calStart c).convs.length = s.convs.length :=
  WalksKept.urgNext.length.trans State.setConv_convs_length

/-- A handover for a calibration begins its first run and gives the scan to C (R169, R174). -/
theorem execReliefHandover_calibration {c : Fin 2} (hcals : s.cals.length = 3) (hconvs : s.convs.length = 3)
    (hphase : (s.cal c.val).phase = 2) (hboundary : s.boundary c.val = true) (hC : s.replaced 2 = false)
    (hgood : s.relief.forGood = false) (hidle : s.relief.target = none) :
    ∃ t, exec (.reliefHandover c a b) s = .next t ∧ t.relief.target = some c.val ∧ (t.cal c.val).phase = 3 ∧
      (t.conv 2).pos = (s.conv c.val).pos := by
  have hown : s.replaced c.val = false := by simp [State.replaced, hphase]
  have hexec : exec (.reliefHandover c a b) s = fin (((s.calStart c.val).setCal c.val
      { s.cal c.val with phase := 3, onInt := s.on Reg.CAL_STAT_REF_LOW }).handToC c.val) := by
    change execReliefHandover c a b s = _
    simp [execReliefHandover, hphase, hboundary, hC, hown, hgood, hidle]
  have hlen : c.val < (s.calStart c.val).cals.length := by rw [Touches.calStart.cals_eq (by decide)]; omega
  rw [hexec]
  refine exists_fin ⟨?_, ?_, ?_⟩
  · rw [State.evcEdge_relief, State.handToC_target]
  · rw [State.evcEdge_cal, Touches.handToC.cal_eq (by decide), State.cal_setCal_same hlen]
  · rw [State.evcEdge_conv, State.handToC_pos (by rw [State.setCal_convs, State.calStart_convs_length, hconvs]; decide),
      State.setCal_conv, State.calStart_pos]

/-- A plausible first run keeps its taps, and the second begins (R174). -/
theorem execCalRunDone_first {c : Fin 3} {l : List TapSearch} {taps : List Int} (hlen : s.cals.length = 3)
    (hphase : (s.cal c.val).phase = 3) (htaps : runTaps (s.tapsOf c.val) l = some taps) :
    ∃ t, exec (.calRunDone c l a b) s = .next t ∧ (t.cal c.val).phase = 4 ∧ (t.cal c.val).run1 = taps := by
  have hexec : exec (.calRunDone c l a b) s = fin (s.setCal c.val { s.cal c.val with phase := 4, run1 := taps }) := by
    change execCalRunDone c l a b s = _
    simp [execCalRunDone, hphase, htaps]
  rw [hexec]
  refine exists_fin ?_
  rw [State.evcEdge_cal, State.cal_setCal_same (by omega)]
  exact ⟨rfl, rfl⟩

/-! The handback. -/

section

variable {c : Fin 2} (htarget : s.relief.target = some c.val) (hback : s.relief.back = true) (hboundary : s.boundary 2 = true)
  (hgood : s.relief.forGood = false)

include htarget hback hboundary hgood

/-- With no converter that waits, C hands the scan back and comes to rest (R176). -/
theorem execCalHandback_returns (hlen : s.convs.length = 3) (hwanted : s.relief.wanted = []) :
    ∃ t, exec (.calHandback (Fin.castLE (by decide) c)) s = .next t ∧ t.relief.target = none ∧
      (t.conv c.val).pos = (s.conv 2).pos ∧ (t.conv c.val).phase = (s.conv c.val).go := by
  have hexec : exec (.calHandback (Fin.castLE (by decide) c)) s = fin ((s.settleBack c.val).handBack c.val).refreshRelief := by
    change execCalHandback _ s = _
    simp [execCalHandback, htarget, hback, hboundary, hgood, hwanted]
  have hc : c.val ≠ 2 := by omega
  have hsettled := WalksKept.settleBack (s := s) (c := c.val)
  obtain ⟨hpos, hphase⟩ := State.handOff_walk (s := s.settleBack c.val) (c := c.val) (by rw [hsettled.length]; omega) hc
  have hafter : ((s.settleBack c.val).handBack c.val).refreshRelief.evcEdge.conv c.val = ((s.settleBack c.val).handOff c.val).conv c.val := by
    rw [State.evcEdge_conv, Touches.refreshRelief.conv_eq (by decide), State.handBack, State.cIdle_conv hc]
  have hrelief : ((s.settleBack c.val).handBack c.val).refreshRelief.relief = ((s.settleBack c.val).handOff c.val).relief :=
    Touches.cIdle.parts .relief (by decide)
  rw [hexec]
  refine exists_fin ⟨?_, ?_, ?_⟩
  · rw [State.evcEdge_relief, hrelief, State.handOff_relief]
  · rw [hafter, hpos, hsettled.pos]
  · rw [hafter, hphase, hsettled.go]

/-- A replaced converter that waits is next (R177). -/
theorem execCalHandback_next {k : Fin 2} (hwanted : s.relief.wanted = [k.val]) (hreplaced : s.replaced k.val = true) :
    ∃ t, exec (.calHandback (Fin.castLE (by decide) c)) s = .next t ∧ t.relief.target = some k.val ∧ t.relief.forGood = true := by
  have hexec : exec (.calHandback (Fin.castLE (by decide) c)) s =
      fin (((s.settleBack c.val).handOff c.val).takeOver k.val s.relief.redo) := by
    change execCalHandback _ s = _
    simp [execCalHandback, htarget, hback, hboundary, hgood, hwanted, hreplaced]
  rw [hexec]
  refine exists_fin ?_
  rw [State.evcEdge_relief, State.takeOver_relief]
  exact ⟨rfl, rfl⟩

end

end Sys2Proof.Machine
end

section
/-! Health checks and replacement (R179, R180, R182). -/

namespace Sys2Proof.Machine

variable {s : State} {c : Nat} {a b : Int}

/-! A health check that passes. -/

/-- What the end of a health check leaves of its converter's calibration: no check runs (R179). -/
theorem State.healthClear_cal (hlen : c < s.cals.length) :
    ((s.healthClear c).cal c).health = false ∧ ((s.healthClear c).cal c).suspect = (s.cal c).suspect := by
  unfold State.healthClear
  extract_lets mine x t u
  have hu : u.cal c = s.cal c := rfl
  have hset : ((u.setCal c { u.cal c with health := false }).urgNext c).cal c = { s.cal c with health := false } := by
    rw [State.urgNext_cal, State.cal_setCal_same (s := u) hlen, hu]
  have hkept := CoursesKept.urgNextKept (s := (u.setCal c { u.cal c with health := false }).urgNext c) (src := .cal)
  exact ⟨hkept.idle c (by rw [hset]), (hkept.suspect c).trans (by rw [hset])⟩

theorem State.healthJudge_pass (hsuspect : (s.cal c).suspect = false) : s.healthJudge c true = s := by
  simp [State.healthJudge, State.countIf, hsuspect]

theorem execHealthCheckDone_pass {c : Fin 3} (hlen : s.cals.length = 3) (hhealth : (s.cal c.val).health = true)
    (hsuspect : (s.cal c.val).suspect = false) (hpass : healthPass a b = true) :
    ∃ t, exec (.healthCheckDone c a b) s = .next t ∧ (t.cal c.val).health = false := by
  obtain ⟨hcleared, hsame⟩ := State.healthClear_cal (s := s) (c := c.val) (by omega)
  have hjudge : ((s.healthClear c.val).count 0x68).healthJudge c.val true = (s.healthClear c.val).count 0x68 :=
    State.healthJudge_pass (by rw [State.count_cal, hsame, hsuspect])
  have hexec : exec (.healthCheckDone c a b) s = fin ((s.healthClear c.val).count 0x68) := by
    change execHealthCheckDone c a b s = _
    simp [execHealthCheckDone, hhealth, hpass, hjudge]
  rw [hexec]
  exact exists_fin (by rw [State.evcEdge_cal, State.count_cal, hcleared])

/-! A replacement. -/

/-- A converter of A or B marked replaced (R180). -/
def State.markReplaced (s : State) (c : Nat) : State :=
  (((s.setCal c { s.cal c with phase := 7, suspect := false, health := false }).or Reg.CAL_FLAGS_REPLACED (2 ^ c)).count 0x6C).raise 3

theorem State.markReplaced_cals :
    (s.markReplaced c).cals = (s.setCal c { s.cal c with phase := 7, suspect := false, health := false }).cals := by
  simp [State.markReplaced, State.or, State.orAt]

theorem State.markReplaced_phase (hlen : c < s.cals.length) : ((s.markReplaced c).cal c).phase = 7 := by
  rw [State.cal, State.markReplaced_cals]
  exact congrArg CalS.phase (State.cal_setCal_same hlen)

theorem State.markReplaced_flag (hc : c < 2) : bit ((s.markReplaced c).rd Reg.CAL_FLAGS_REPLACED) c = true := by
  rw [State.markReplaced, State.raise_rd, State.count_rd]
  exact State.bit_or_same hc

theorem State.markReplaced_relief : (s.markReplaced c).relief = s.relief := by
  simp [State.markReplaced, State.or, State.orAt, State.setCal]

theorem OtherCalsKept.markReplaced : OtherCalsKept c s (s.markReplaced c) := setCal.trans (.of_cals State.markReplaced_cals)

/-- A replaced converter out of its scan, its urgent requests at C (R158, R180). -/
def State.leaveScan (s : State) (c : Nat) : State :=
  (((s.setConv c { (s.conv c).boundary with accu := none }).powerDown c).urgMove c).traceReview

theorem Touches.leaveScan :
    Touches [.convs, .urgMore, .cals, .xchks] (Reg.CAL_STAT_CAL_UNTRACED :: dropFlds) s (s.leaveScan c) :=
  .of (by decide) ((((refl s).setConv.andThen powerDown).andThen urgMove).andThen traceReview)

theorem CoursesKept.leaveScan : CoursesKept s (s.leaveScan c) :=
  ((of_touches ((Touches.refl s).setConv.andThen .powerDown) (by decide)).trans urgMove).trans (of_touches Touches.traceReview (by decide))

/-- A converter that is replaced: its calibration ends, it is marked and leaves its scan (R177, R180). -/
def State.withdraw (s : State) (c : Nat) : State := ((s.calAbandon c).markReplaced c).leaveScan c

theorem State.withdraw_phase (hlen : c < s.cals.length) : ((s.withdraw c).cal c).phase = 7 :=
  (CoursesKept.leaveScan.phase c).trans (State.markReplaced_phase (by rwa [OtherCalsKept.calAbandon.length]))

theorem State.withdraw_flag (hc : c < 2) : bit ((s.withdraw c).rd Reg.CAL_FLAGS_REPLACED) c = true := by
  rw [State.withdraw, Touches.leaveScan.rd (by decide), State.markReplaced_flag hc]

theorem State.withdraw_relief (h : s.relief.target ≠ some c) : (s.withdraw c).relief = s.relief := by
  have hleave : (s.withdraw c).relief = ((s.calAbandon c).markReplaced c).relief := Touches.leaveScan.parts .relief (by decide)
  rw [hleave, State.markReplaced_relief, State.calAbandon_relief h]

theorem State.withdraw_replaced {k : Nat} (hk : k ≠ c) : (s.withdraw c).replaced k = s.replaced k := by
  rw [State.withdraw, CoursesKept.leaveScan.replaced, OtherCalsKept.markReplaced.replaced hk, OtherCalsKept.calAbandon.replaced hk]

/-- The calibrations of the other converters end as C is needed for good (R177). -/
def State.calAbandonOthers (s : State) (c : Nat) : State := (s.calAbandon (1 - c)).calAbandon 2

theorem State.calAbandonOthers_relief (h : s.relief.target = none) : (s.calAbandonOthers c).relief = s.relief := by
  have hfirst : (s.calAbandon (1 - c)).relief = s.relief := State.calAbandon_relief (by simp [h])
  rw [State.calAbandonOthers, State.calAbandon_relief (by simp [hfirst, h]), hfirst]

theorem State.calAbandonOthers_cal (hc : c < 2) : (s.calAbandonOthers c).cal c = s.cal c :=
  (OtherCalsKept.calAbandon.others c (by omega)).trans (OtherCalsKept.calAbandon.others c (by omega))

theorem Touches.calAbandonOthers : Touches [.convs, .cals, .relief] calFlds s (s.calAbandonOthers c) := calAbandon.trans calAbandon

/-- A C that has no scan takes over that of a replaced converter, and its interrupted entry (R180). -/
theorem State.replace_free (hc : c < 2) (hC : s.replaced 2 = false) (hgood : s.relief.forGood = false) (hidle : s.relief.target = none) :
    s.replace c = ((s.withdraw c).calAbandonOthers c).takeOver c ((s.calAbandon c).conv c).entry := by
  unfold State.replace
  extract_lets _ e _ _ _ u v
  have hu : u = s.withdraw c := rfl
  have hv : v = u.calAbandonOthers c := rfl
  have hrelief : u.relief = s.relief := hu ▸ State.withdraw_relief (by simp [hidle])
  have hothers : v.relief = s.relief := hv ▸ (State.calAbandonOthers_relief (by rw [hrelief, hidle])).trans hrelief
  have hC' : u.replaced 2 = false := by rw [hu, State.withdraw_replaced (by omega), hC]
  rw [if_neg (by simp [hC', hrelief, hgood]), if_neg (by simp [hrelief, hidle]), if_neg (by simp [hothers, hidle]), hv, hu]

/-- A stuck converter is replaced at once, whether C's check is made or dropped (R180). -/
theorem execConverterStuck_replaces {c : Fin 2} (hlen : s.cals.length = 3) (hscan : s.scanOf c.val = some c.val)
    (hentry : (s.conv c.val).entry ≠ none) (hC : s.replaced 2 = false) (hgood : s.relief.forGood = false)
    (hidle : s.relief.target = none) (hpass : healthPass a b = true) :
    ∃ t, exec (.converterStuck c a b) s = .next t ∧ (t.cal c.val).phase = 7 ∧ t.relief.target = some c.val ∧
      t.relief.forGood = true ∧ bit (t.rd Reg.CAL_FLAGS_REPLACED) c.val = true := by
  obtain ⟨hcourse, hrelief⟩ := State.checkC_kept (s := s) hpass
  generalize hchecked : (s.checkC a b).1 = u at hcourse hrelief
  have hexec : exec (.converterStuck c a b) s = fin (u.replace c.val) := by
    rw [← hchecked]
    exact (if_neg (by simp [hscan, hentry])).trans (if_neg (by simp [hC, hgood]))
  have htakes := State.replace_free (s := u) c.isLt (by rw [hcourse.replaced, hC]) (by rw [hrelief, hgood]) (by rw [hrelief, hidle])
  rw [hexec, htakes]
  refine exists_fin ⟨?_, ?_, ?_, ?_⟩
  · rw [State.evcEdge_cal, Touches.takeOver.cal_eq (by decide), State.calAbandonOthers_cal c.isLt, State.withdraw_phase]
    rw [hcourse.length]
    omega
  · rw [State.evcEdge_relief, State.takeOver_relief]
  · rw [State.evcEdge_relief, State.takeOver_relief]
  · rw [State.evcEdge_rd, Touches.takeOver.rd (by decide), Touches.calAbandonOthers.rd (by decide), State.withdraw_flag c.isLt]

end Sys2Proof.Machine
end

section
/-! The loss of REFIN (R183) and a point of a system calibration (R185). -/

namespace Sys2Proof.Machine

variable {s : State} {c k : Nat}

/-! The loss of REFIN. -/

/-- A converter that goes over to VREF_INT, at the end of its entry where one is under way (R183). -/
def ConvS.toInternal (x : ConvS) : ConvS := if x.entry.isNone then { x with untraced := true } else { x with toInt := true }

/-- One converter at the loss of REFIN: it goes over to VREF_INT and becomes due (R183). -/
def State.refinLost (s : State) (c : Nat) : State :=
  ((s.setConv c (s.conv c).toInternal).setCal c { s.cal c with onInt := true }).calDue c false

theorem Touches.refinLost : Touches [.convs, .cals] [] s (s.refinLost c) := .of (by decide) ((refl s).setConv.setCal.andThen calDue)

theorem State.refinLost_conv_same (hlen : c < s.convs.length) : (s.refinLost c).conv c = (s.conv c).toInternal := by
  rw [State.refinLost, Touches.calDue.conv_eq (by decide), State.setCal_conv, State.conv_setConv hlen]

theorem State.refinLost_conv_ne (h : k ≠ c) : (s.refinLost k).conv c = s.conv c := by
  rw [State.refinLost, Touches.calDue.conv_eq (by decide), State.setCal_conv, State.conv_setConv_ne h]

theorem State.refinLost_convs_length : (s.refinLost c).convs.length = s.convs.length := by
  rw [State.refinLost, Touches.calDue.convs_eq (by decide), State.setCal_convs, State.setConv_convs_length]

/-- Each of several converters goes over once. -/
theorem State.refinLost_list {l : List Nat} (hl : l.Nodup) (hlen : c < s.convs.length) :
    (s.each l State.refinLost).conv c = if c ∈ l then (s.conv c).toInternal else s.conv c := by
  induction l generalizing s with
  | nil => rfl
  | cons k l ih =>
    obtain ⟨hk, hl⟩ := List.nodup_cons.mp hl
    rw [State.each, List.foldl_cons, ← State.each, ih hl (by rwa [State.refinLost_convs_length])]
    by_cases hkc : k = c
    · subst hkc
      rw [if_neg hk, State.refinLost_conv_same hlen, if_pos List.mem_cons_self]
    · simp [State.refinLost_conv_ne hkc, Ne.symm hkc]

theorem ConvS.toInternal_iff (x : ConvS) : if x.entry.isNone then x.toInternal.untraced = true else x.toInternal.toInt = true := by
  unfold ConvS.toInternal
  split <;> rfl

/-- The flags of the reference at its loss (R183). -/
def State.refLow (s : State) : State := (s.wrs [(Reg.CAL_STAT_CAL_UNTRACED, 1), (Reg.CAL_STAT_REF_LOW, 1)]).count 0x6D

theorem State.refLow_convs : s.refLow.convs = s.convs := by simp [State.refLow, State.wrs]

theorem State.refLow_flags : s.refLow.rd Reg.CAL_STAT_REF_LOW = 1 ∧ s.refLow.rd Reg.CAL_STAT_CAL_UNTRACED = 1 := by
  simp (disch := decide) [State.refLow, State.wrs, State.rd_wr_ne]

theorem execRefinLoss_low (hlen : s.convs.length = 3) (hgood : s.on Reg.CAL_STAT_REF_LOW = false) (halive : s.alive = true) :
    ∃ t, exec .refinLoss s = .next t ∧ t.rd Reg.CAL_STAT_REF_LOW = 1 ∧ t.rd Reg.CAL_STAT_CAL_UNTRACED = 1 ∧
      (∀ c : Nat, c < 3 → if (s.conv c).entry.isNone then (t.conv c).untraced = true else (t.conv c).toInt = true) := by
  have hexec : exec .refinLoss s = fin (s.refLow.each (upTo 3) State.refinLost) := if_neg (by simp [hgood, halive])
  have htouch : Touches [.convs, .cals] [] s.refLow (s.refLow.each (upTo 3) State.refinLost) :=
    .of (by decide) ((Touches.refl s.refLow).each fun _ _ => .refinLost)
  obtain ⟨hlow, huntraced⟩ := s.refLow_flags
  rw [hexec]
  refine exists_fin ⟨?_, ?_, fun c hc => ?_⟩
  · rw [State.evcEdge_rd, htouch.rd (by decide), hlow]
  · rw [State.evcEdge_rd, htouch.rd (by decide), huntraced]
  · have hconv : s.refLow.conv c = s.conv c := by rw [State.conv, State.refLow_convs, State.conv]
    have hlen' : c < s.refLow.convs.length := by rwa [State.refLow_convs, hlen]
    have hmem : c ∈ upTo 3 := List.mem_range.mpr hc
    rw [State.evcEdge_conv, State.refinLost_list (l := upTo 3) List.nodup_range hlen', if_pos hmem, hconv]
    exact ConvS.toInternal_iff _

theorem execRefinRestore_low : ∃ t, exec .refinRestore s = .next t ∧ t.rd Reg.CAL_STAT_REF_LOW = 0 :=
  exists_fin ((State.evcEdge_rd _ _).trans (State.rd_wr_same _ _ _))

/-! A point of a system calibration. -/

/-- Point 1 with its averages within the limits ends, and its mean is the sum in 1/256 LSB (R185). -/
theorem execCalSysPointDone_zero (hbusy : s.on Reg.CAL_SYS_STAT_BUSY = true) (hcount : 256 ≤ s.rd Hid.sysCnt)
    (hclip : s.on Hid.sysClip = false) (hpoint : s.rd Hid.sysPoint = 1) :
    ∃ t, exec .calSysPointDone s = .next t ∧ t.rd Reg.CAL_SYS_STAT_BUSY = 0 ∧ t.rd Reg.CAL_SYS_STAT_RESULT = 1 ∧
      t.rd Reg.CAL_SYS_M0_M0 = ofI 24 (s.rdI Hid.sysSum 0) := by
  have hexec : exec .calSysPointDone s = fin ((((s.wr Reg.CAL_SYS_STAT_BUSY 0).count 0x6E).wrI Reg.CAL_SYS_M0_M0 0
      (s.rdI Hid.sysSum 0)).wr Reg.CAL_SYS_STAT_RESULT 1) :=
    (if_neg (by simp [hbusy]; omega)).trans ((if_neg (by simp [hclip])).trans (if_pos hpoint))
  rw [hexec]
  refine exists_fin ⟨?_, ?_, ?_⟩
  · rw [State.evcEdge_rd, State.rd_wr_ne _ _ _ _ (by decide), State.wrI]
    exact (State.rd_wr_ne _ _ _ _ (by decide)).trans ((State.count_rd _ _ _).trans (State.rd_wr_same _ _ _))
  · rw [State.evcEdge_rd, State.rd_wr_same]
    rfl
  · rw [State.evcEdge_rd, State.rd_wr_ne _ _ _ _ (by decide), State.rd_wrI_same]
    rfl

/-- Settles O8: each command comes down to the operations whose effect on the converters, their calibrations and the relief is known. -/
theorem calibrationRuns : Obligations.CalibrationRuns := by
  unfold Obligations.CalibrationRuns
  exact ⟨fun _ _ => execSelfCalDue_due, fun _ _ => execSelfCalDue_running, fun _ _ _ => execSelfCalStart_ofC,
    fun _ _ _ _ => execSelfCalStart_ofAB, fun _ _ _ => execSelfCalStart_ofB_waits, fun _ _ _ _ => execReliefHandover_calibration,
    fun _ _ _ _ _ _ => execCalRunDone_first,
    fun _ _ hlen htarget hback hboundary hgood => execCalHandback_returns htarget hback hboundary hgood hlen,
    fun _ _ _ _ htarget hback hboundary hgood => execCalHandback_next htarget hback hboundary hgood,
    fun _ _ _ _ => execHealthCheckDone_pass, fun _ _ _ _ => execConverterStuck_replaces, fun _ => execRefinLoss_low,
    fun _ => execRefinRestore_low, fun _ => execCalSysPointDone_zero⟩

end Sys2Proof.Machine
end

section
/-! What the commands of the fans touch (R193 to R210). -/

namespace Sys2Proof.Machine

variable {m s : State} {P : List Part} {L : List Fld} {n : Nat}

namespace Touches

theorem fanFlag (hs : Touches P L m s) : Touches P (Reg.FAN_FLAGS_FLAGS :: L) m (s.fanFlag n) := hs.or

theorem setDuty {v} (hs : Touches P L m s) : Touches P (Reg.FANT_MEAS_DUTY :: L) m (s.setDuty n v) := hs.wrAt

/-- What a fan channel writes as it locks (R203). -/
def lockFlds : List Fld :=
  [Reg.FAN_STATE_STATE, Reg.FANT_STATE_STATE, Reg.FAN_FLAGS_FLAGS, Reg.FAN_COMMON_HEATER_BLOCK] ++ gatesFlds ++ boFlds

theorem fanLock : Touches [] lockFlds s (s.fanLock n) :=
  .of (by decide) ((setFan.whenB fun _ => gatesOff).fanFlag.count.raise.andThen heaterRefresh)

/-- What a fan channel writes as it stalls (R203). -/
def stallFlds : List Fld := [Reg.FAN_STATE_STALL_CNT, Reg.FANT_STATE_STALL_CNT, Reg.FAN_STATE_LOCK_CAUSE] ++ lockFlds

/-- STALL_CNT belongs to the channel that stalls. -/
theorem stallCnt {ch v} : Touches [] stallFlds s
    (s.wrAt (if n = 0 then Reg.FAN_STATE_STALL_CNT else Reg.FANT_STATE_STALL_CNT) ch v) := by
  split
  · exact .of (by decide) (refl s).wrAt
  · exact .of (by decide) (refl s).wrAt

theorem fanStall : Touches [] stallFlds s (s.fanStall n) :=
  .of (by decide) (branch ((stallCnt.whenB fun t => (refl t).wr).andThen fanLock)
    ((stallCnt.andThen setFan).fanFlag.count.raise.andThen heaterRefresh))

/-- What channel 0 writes as it coasts (R198, R199). -/
theorem fanCoasts : Touches [] ([Reg.FAN_STATE_STATE, Reg.FANT_STATE_STATE, Hid.fanCoasted] ++ gatesFlds) s s.fanCoast :=
  .of (by decide) (setFan.andThen gatesOff).wr

/-- What channel 0 writes as it begins to align (R198, R199). -/
theorem fanAligns : Touches [] ([Reg.FAN_STATE_STATE, Reg.FANT_STATE_STATE] ++ gatesFlds) s s.fanAlign :=
  .of (by decide) (setFan.andThen gatesOff).count

theorem fanCoastOut : Touches [] fanFlds s s.fanCoastOut := .of (by decide) (branch fanStop0 ((refl s).wr.andThen fanCatch))

theorem fanSyncLoss : Touches [] ([Reg.FAN_STATE_STATE, Reg.FANT_STATE_STATE, Hid.fanCoasted, Reg.FAN_FLAGS_FLAGS] ++ gatesFlds) s
    s.fanSyncLoss := .of (by decide) (branch ((refl s).fanFlag.count.andThen fanCoasts) (refl s))

theorem tachSpeed {us : Nat} : Touches [] [] s (s.tachSpeed us).2 := .of (by decide) (branch_snd (refl s) ((refl s).freeBelow (n := 2)))

theorem execFanObserverConverged {speed field : Nat} {dirOk : Bool} : TouchesOut [] [Hid.fanRef, Hid.fanSpdInt, Reg.FANT_STATE_STATE,
    Reg.FAN_DEMAND_REF, Reg.FAN_MEAS_SPEED, Reg.FAN_STATE_STATE] s (execFanObserverConverged speed field dirOk s) := by
  unfold Machine.execFanObserverConverged
  extract_lets min run
  have hrun : ∀ i, Touches [] [Hid.fanRef, Hid.fanSpdInt, Reg.FANT_STATE_STATE, Reg.FAN_DEMAND_REF, Reg.FAN_MEAS_SPEED,
      Reg.FAN_STATE_STATE] s (run s i) := fun i => .of (by decide) (setFan.andThen setRef).wr.wrI
  split
  · exact .fin (hrun _).count
  · split
    · exact .fin (hrun _).count
    · exact .fin (of (by decide) (refl s))

theorem execFanRampTimeout : TouchesOut [] (Reg.FAN_STATE_ATTEMPT :: stallFlds) s (execFanRampTimeout s) := by
  unfold Machine.execFanRampTimeout
  extract_lets t a
  have ht : Touches [] lockFlds s t := of (by decide) ((refl s).fanFlag.count.andThen gatesOff)
  split
  · exact .fin (of (by decide) (refl s))
  · split
    · exact .fin (of (by decide) (ht.andThen setFan).wr)
    · exact .fin (of (by decide) (ht.andThen fanStall))

theorem execFanOvercurrent : TouchesOut [] (Hid.fanOcAt :: Hid.fanCoasted :: Reg.FAN_STATE_LOCK_CAUSE :: lockFlds) s
    (execFanOvercurrent s) := by
  unfold Machine.execFanOvercurrent
  extract_lets t u
  have hu : Touches [] [Hid.fanOcAt, Reg.FAN_FLAGS_FLAGS] s u := of (by decide) (refl s).wrAt.wrAt.wrAt.fanFlag.count
  split
  · exact .fin (of (by decide) (refl s))
  · split
    · exact .fin (of (by decide) (hu.wr.andThen fanLock))
    · exact .fin (of (by decide) (hu.andThen fanCoasts))

theorem execFanVdrvLow : TouchesOut [] ([Hid.vdrvBlock, Reg.PWR_STAT_VDRV_LOW, Reg.PWR_FLAGS_FLAGS, Reg.FAN_FLAGS_FLAGS, Hid.fanCoasted,
    Reg.FAN_STATE_STATE, Reg.FANT_STATE_STATE] ++ gatesFlds) s (execFanVdrvLow s) := by
  unfold Machine.execFanVdrvLow
  extract_lets t
  have ht : Touches [] [Hid.vdrvBlock, Reg.PWR_STAT_VDRV_LOW, Reg.PWR_FLAGS_FLAGS, Reg.FAN_FLAGS_FLAGS] s t :=
    of (by decide) (refl s).wrs.or.fanFlag.count
  split
  · exact .fin (of (by decide) (refl s))
  · split
    · exact .fin (of (by decide) (ht.andThen fanCoasts))
    · exact .fin (of (by decide) ht)

/-- What an edge of a tachometer writes (R205, R208, R451). -/
def edgeFlds : List Fld := [Hid.izV, Reg.FANT_MEAS_SPEED, Reg.FANT_STATE_PLAUS_RUN] ++ fanTFlds

theorem execFanTachEdge {chan us} : TouchesOut [] edgeFlds s (execFanTachEdge chan us s) := by
  unfold Machine.execFanTachEdge
  extract_lets k n plausible q run t
  have ht : Touches [] edgeFlds s t := of (by decide) tachSpeed.wrAt.wrAt
  have hrun : Touches [] edgeFlds s (t.fanRunT n) := of (by decide) (ht.andThen fanRunT)
  split
  · exact .fin (of (by decide) (refl s))
  · split
    · exact .fin (of (by decide) (refl s).wrAt)
    · split
      · exact .fin (of (by decide) ht.wrAt)
      · split
        · exact .fin ht
        · split
          · exact .fin hrun
          · split
            · exact .fin hrun.count
            · exact .fin ht

theorem execFanSpeedStep {chan} : TouchesOut [] [Hid.fanInt, Reg.FANT_MEAS_DUTY] s (execFanSpeedStep chan s) := by
  unfold Machine.execFanSpeedStep
  extract_lets k n err i0 i1 sum base limited i f r corr
  have hr : Touches [] [] s r.2 := of (by decide) (branch_snd (refl s) ((refl s).freeBelow (n := 2)))
  split
  · exact .fin (of (by decide) (refl s))
  · exact .fin (of (by decide) hr.wrI.setDuty)

theorem execFanAutoTableStep {chan} : TouchesOut [.upsets, .actQ] (Reg.FAN_FLAGS_FLAGS :: eccFlds) s (execFanAutoTableStep chan s) := by
  unfold Machine.execFanAutoTableStep
  extract_lets n q r t
  have ht : Touches [.upsets] (Reg.FAN_FLAGS_FLAGS :: eccFlds) s t :=
    of (by decide) ((coachGet.andThen coachGet).whenB fun u => (refl u).fanFlag).count
  split
  · exact .fin (of (by decide) (refl s))
  · exact .fin (of (by decide) ht.setActQ)

end Touches

/-- Settles O49: each command is made of operations whose fields, causes and components are known (`Touches`). -/
theorem fanFrames : Obligations.FanFrames := by
  refine ⟨fun s t h => ?_, fun s t h => ?_, fun s t h => ?_, fun speed field dirOk s t h => ?_, fun s t h => ?_, fun s t h => ?_,
    fun s t h => ?_, fun s t h => ?_, fun chan s t h => ?_, fun s t h => ?_, fun s t h => ?_, fun s t h => ?_, fun periods s t h => ?_,
    fun s t h => ?_, fun chan s t h => ?_, fun chan us s t h => ?_, fun chan s t h => ?_, fun chan s t h => ?_, fun chan s t h => ?_,
    fun chan s t h => ?_, fun chan s t h => ?_, fun chan s t h => ?_⟩
  · exact (TouchesOut.branch (.fin .fanAligns) (.fin (.refl s))).frame [] (by decide) h
  · exact (TouchesOut.branch (.fin ((Touches.refl s).wr.fanFlag.count.andThen .fanLock)) (.fin (.refl s))).frame [] (by decide) h
  · exact (TouchesOut.branch (.fin (.wr (.andThen .setFan .setRef))) (.fin (.refl s))).frame [] (by decide) h
  · exact (Touches.execFanObserverConverged (field := field)).frame [] (by decide) h
  · exact Touches.execFanRampTimeout.frame [] (by decide) h
  · exact (TouchesOut.branch (.fin .fanAligns) (.fin (.refl s))).frame [] (by decide) h
  · exact (TouchesOut.branch (.fin .fanStop0) (.fin (.refl s))).frame [] (by decide) h
  · exact (TouchesOut.branch (.fin (.refl s)) (.branch (.fin (Touches.refl s).wr) (.fin .fanCoastOut))).frame [] (by decide) h
  · exact (TouchesOut.branch (.fin (.refl s)) (.branch (.branch (.fin (.andThen .fanStop0 .heaterRefresh))
      (.fin (.andThen (.andThen (Touches.refl s).wr .fanCatch) .heaterRefresh)))
      (.fin (.andThen .fanStopT .heaterRefresh)))).frame [] (by decide) h
  · exact Touches.execFanOvercurrent.frame [] (by decide) h
  · exact Touches.execFanVdrvLow.frame [] (by decide) h
  · exact (TouchesOut.branch (.fin ((Touches.refl s).wrs.andThen .fanCoastOut)) (.fin (Touches.refl s).wrs)).frame [] (by decide) h
  · exact (TouchesOut.branch (.fin (.refl s)) (.branch (.fin ((Touches.refl s).fanFlag.andThen .fanSyncLoss))
      (.fin (Touches.refl s).fanFlag))).frame [] (by decide) h
  · exact (TouchesOut.fin Touches.fanSyncLoss).frame [] (by decide) h
  · exact (TouchesOut.branch (.fin (.refl s)) (.branch (.fin (Touches.refl s).wr) (.fin (Touches.refl s).wrAt))).frame [] (by decide) h
  · exact Touches.execFanTachEdge.frame [] (by decide) h
  · exact (TouchesOut.fin (Touches.refl s).wrAt).frame [] (by decide) h
  · exact Touches.execFanSpeedStep.frame [] (by decide) h
  · exact (TouchesOut.branch (.fin (.refl s)) (.fin (Touches.setFan.setDuty.fanFlag.count))).frame [] (by decide) h
  · exact (TouchesOut.branch (.fin (.refl s)) (.fin ((Touches.refl s).setDuty.andThen .fanStall))).frame [] (by decide) h
  · exact (TouchesOut.branch (.fin (.refl s)) (.fin (Touches.setFan.setDuty.wrsAt.fanFlag.count.raise))).frame [] (by decide) h
  · exact Touches.execFanAutoTableStep.frame [.upsets, .actQ] (by decide) h

end Sys2Proof.Machine
end


section
/-! How the state of a fan channel reads after the operations of the drive (R198, R199, R203). -/

namespace Sys2Proof.Machine

variable {s t : State} {P : List Part} {L : List Fld} {n v : Nat}

/-- An answer that ends a meaning is a next state, whatever the command came down to. -/
theorem exists_of_eq_fin {o : Out} {Q : State → Prop} (ho : o = fin t) (h : Q t.evcEdge) : ∃ u, o = .next u ∧ Q u := ⟨t.evcEdge, ho, h⟩

/-- A change that writes neither state field leaves every channel in its state. -/
theorem Touches.fan (h : Touches P L s t) (h0 : Reg.FAN_STATE_STATE.id ∉ L.map Fld.id) (hT : Reg.FANT_STATE_STATE.id ∉ L.map Fld.id) :
    t.fan n = s.fan n := by
  simp only [State.fan, h.rd h0, h.rdAt hT]

theorem Touches.fanD (h : Touches P L s t) (hL : Hid.fanDem.id ∉ L.map Fld.id) : t.fanD n = s.fanD n := h.rdAt hL n

@[simp] theorem State.evcEdge_fan : s.evcEdge.fan n = s.fan n := by simp [State.fan]

@[simp] theorem State.count_fan {code : Nat} : (s.count code).fan n = s.fan n := by simp [State.fan]

theorem State.fan_setFan (hv : v < 16) : (s.setFan n v).fan n = v := by
  have hmod : v % 16 = v := Nat.mod_eq_of_lt hv
  by_cases hn : n = 0
  · simp only [State.setFan, State.fan, if_pos hn]
    exact (State.rd_wr_same _ _ _).trans hmod
  · simp only [State.setFan, State.fan, if_neg hn]
    exact (State.rdAt_wrAt_same _ _ _ _).trans hmod

theorem State.setRef_ref : (s.setRef v).rd Hid.fanRef = v % 2 ^ Hid.fanRef.w :=
  (State.rd_wr_ne _ _ _ _ (by decide)).trans (State.rd_wr_same _ _ _)

theorem State.gatesOff_ref : s.gatesOff.rd Hid.fanRef = 0 := by
  rw [State.gatesOff, (Touches.refl _).wrs.rd (by decide), State.setRef_ref]
  rfl

theorem State.fanAlign_fan : s.fanAlign.fan 0 = fAlign :=
  (Touches.gatesOff.count.fan (by decide) (by decide)).trans (State.fan_setFan (by decide))

theorem State.fanCoast_fan : s.fanCoast.fan 0 = fCoast :=
  (Touches.gatesOff.wr.fan (by decide) (by decide)).trans (State.fan_setFan (by decide))

theorem State.fanCatch_of_vdrv (h : s.on Hid.vdrvBlock = false) : s.fanCatch = s.setFan 0 fCatch := if_neg (by simp [h])

theorem State.fanLock_fan : (s.fanLock n).fan n = fLocked :=
  ((((Touches.refl _).whenB fun _ => .gatesOff).fanFlag.count.raise.andThen .heaterRefresh).fan (by decide) (by decide)).trans
    (State.fan_setFan (by decide))

theorem State.fanLock_cause : bit (s.fanLock n).intCause 5 = true := Touches.heaterRefresh.causes 5 State.bit_raise

/-- Without a demand a stop of channel 0 leaves it STOPPED with its gates off. -/
theorem State.fanStop0_idle (h : s.fanD 0 = 0) : s.fanStop0 = (s.setFan 0 fStopped).gatesOff :=
  if_pos (.inr (.inl (((Touches.setFan.andThen .gatesOff).fanD (by decide)).trans h)))

theorem State.fanStop0_fan (h : s.fanD 0 = 0) : s.fanStop0.fan 0 = fStopped := by
  rw [State.fanStop0_idle h, Touches.gatesOff.fan (by decide) (by decide)]
  exact State.fan_setFan (by decide)

/-- Without a demand a tachometer channel that stops has duty 0. -/
theorem State.fanStopT_idle (h : s.fanD n = 0) : s.fanStopT n = (s.setFan n fStopped).setDuty n 0 :=
  if_pos (.inr (.inl ((Touches.setFan.setDuty.fanD (by decide)).trans h)))

theorem State.fanStopT_fan (h : s.fanD n = 0) : (s.fanStopT n).fan n = fStopped := by
  rw [State.fanStopT_idle h, (Touches.refl _).setDuty.fan (by decide) (by decide)]
  exact State.fan_setFan (by decide)

end Sys2Proof.Machine
end

section
/-! The direct drive from its catch to its stop (R199, R201). -/

namespace Sys2Proof.Machine

variable {s : State} {speed field : Nat} {dir : Bool} {i : Int}

theorem execFanCatchTimeout_aligns (h : s.fan 0 = fCatch) : ∃ t, exec .fanCatchTimeout s = .next t ∧ t.fan 0 = fAlign :=
  exists_of_eq_fin (if_pos h) (State.evcEdge_fan.trans State.fanAlign_fan)

theorem execFanAlignOpenPhase_locks (h : s.fan 0 = fAlign) : ∃ t, exec .fanAlignOpenPhase s = .next t ∧ t.fan 0 = fLocked ∧
    t.rd Reg.FAN_STATE_LOCK_CAUSE = 2 ∧ bit t.intCause 5 = true := by
  refine exists_of_eq_fin (if_pos h) ⟨State.evcEdge_fan.trans State.fanLock_fan, ?_, State.evcEdge_causes State.fanLock_cause⟩
  rw [State.evcEdge_rd, ((Touches.refl _).fanFlag.count.andThen .fanLock).rd (by decide), State.rd_wr_same]
  rfl

theorem execFanAlignDone_ramps (h : s.fan 0 = fAlign) : ∃ t, exec .fanAlignDone s = .next t ∧ t.fan 0 = fRamp ∧ t.rd Hid.fanRef = 0 := by
  refine exists_of_eq_fin (if_pos h) ⟨?_, ?_⟩
  · rw [State.evcEdge_fan, Touches.setRef.wr.fan (by decide) (by decide)]
    exact State.fan_setFan (by decide)
  · rw [State.evcEdge_rd, State.rd_wr_ne _ _ _ _ (by decide), State.setRef_ref]
    rfl

/-- Channel 0 runs at an observed speed in rpm, its speed loop starting with `i` mA (R201). -/
def State.fanRuns (s : State) (speed : Nat) (i : Int) : State :=
  (((s.setFan 0 fRun).setRef (speed * 1000)).wr Reg.FAN_MEAS_SPEED speed).wrI Hid.fanSpdInt 0 (i * 256000)

theorem State.fanRuns_fan : (s.fanRuns speed i).fan 0 = fRun :=
  (Touches.setRef.wr.wrI.fan (by decide) (by decide)).trans (State.fan_setFan (by decide))

theorem State.fanRuns_ref : (s.fanRuns speed i).rd Hid.fanRef = speed * 1000 % 2 ^ Hid.fanRef.w :=
  ((Touches.refl _).wr.wrI.rd (by decide)).trans State.setRef_ref

theorem State.fanRuns_speed : (s.fanRuns speed i).rd Reg.FAN_MEAS_SPEED = speed % 2 ^ Reg.FAN_MEAS_SPEED.w :=
  ((Touches.refl _).wrI.rd (by decide)).trans (State.rd_wr_same _ _ _)

theorem execFanObserverConverged_catches (h : s.fan 0 = fCatch) (hmin : s.rd Reg.FAN_SPD_LIM_MIN_RPM ≤ speed) :
    ∃ t, exec (.fanObserverConverged speed field true) s = .next t ∧ t.fan 0 = fRun :=
  exists_of_eq_fin (t := (s.fanRuns speed 0).count 0x83) (if_pos ⟨h, hmin, rfl⟩)
    (State.evcEdge_fan.trans (State.count_fan.trans State.fanRuns_fan))

theorem execFanObserverConverged_hands_over (h : s.fan 0 = fRamp) (hmin : s.rd Reg.FAN_SPD_LIM_MIN_RPM * 1000 ≤ s.rd Hid.fanRef)
    (hnear : s.fanNear speed = true) :
    ∃ t, exec (.fanObserverConverged speed field dir) s = .next t ∧ t.fan 0 = fRun ∧
      t.rd Hid.fanRef = speed * 1000 % 2 ^ Hid.fanRef.w ∧ t.rd Reg.FAN_MEAS_SPEED = speed % 2 ^ Reg.FAN_MEAS_SPEED.w := by
  have hcatch : s.fan 0 ≠ fCatch := by rw [h]; decide
  have hexec : exec (.fanObserverConverged speed field dir) s = fin ((s.fanRuns speed s.fanCurrent).count 0x82) :=
    (if_neg fun hc => hcatch hc.1).trans (if_pos ⟨h, hmin, hnear⟩)
  refine exists_of_eq_fin hexec ?_
  rw [State.evcEdge_fan, State.count_fan, State.evcEdge_rd, State.count_rd, State.evcEdge_rd, State.count_rd]
  exact ⟨State.fanRuns_fan, State.fanRuns_ref, State.fanRuns_speed⟩

theorem execFanRampTimeout_retries (h : s.fan 0 = fRamp) (ha : s.rd Reg.FAN_STATE_ATTEMPT < 3) :
    ∃ t, exec .fanRampTimeout s = .next t ∧ t.fan 0 = fRetry ∧ t.rd Reg.FAN_STATE_ATTEMPT = s.rd Reg.FAN_STATE_ATTEMPT + 1 := by
  refine exists_of_eq_fin ((if_neg (not_not.mpr h)).trans (if_pos ha)) ⟨?_, ?_⟩
  · rw [State.evcEdge_fan, (Touches.refl _).wr.fan (by decide) (by decide)]
    exact State.fan_setFan (by decide)
  · rw [State.evcEdge_rd, State.rd_wr_same]
    exact Nat.mod_eq_of_lt (Nat.succ_lt_succ ha)

theorem execFanRetryWaitEnd_aligns (h : s.fan 0 = fRetry) : ∃ t, exec .fanRetryWaitEnd s = .next t ∧ t.fan 0 = fAlign :=
  exists_of_eq_fin (if_pos h) (State.evcEdge_fan.trans State.fanAlign_fan)

theorem execFanStopDone_stops (h : s.fan 0 = fRun) (hd : s.fanD 0 = 0)
    (href : s.rd Hid.fanRef ≤ s.rd Reg.FAN_SPD_LIM_MIN_RPM * 1000) :
    ∃ t, exec .fanStopDone s = .next t ∧ t.fan 0 = fStopped ∧ t.rd Hid.fanRef = 0 := by
  refine exists_of_eq_fin (if_pos ⟨h, hd, href⟩) ⟨State.evcEdge_fan.trans (State.fanStop0_fan hd), ?_⟩
  rw [State.evcEdge_rd, State.fanStop0_idle hd, State.gatesOff_ref]

theorem execFanCoastEnd_catches (h : s.fan 0 = fCoast) (hblock : s.on Hid.vdrvBlock = false) (hd : s.fanD 0 ≠ 0) :
    ∃ t, exec .fanCoastEnd s = .next t ∧ t.fan 0 = fCatch ∧ t.rd Reg.FAN_STATE_ATTEMPT = 0 := by
  have hout : s.fanCoastOut = (s.wr Reg.FAN_STATE_ATTEMPT 0).setFan 0 fCatch :=
    (if_neg hd).trans (State.fanCatch_of_vdrv ((State.on_wr_ne (by decide)).trans hblock))
  have hexec : exec .fanCoastEnd s = fin s.fanCoastOut := (if_neg (not_not.mpr h)).trans (if_neg (by simp [hblock]))
  refine exists_of_eq_fin hexec ?_
  rw [hout, State.evcEdge_fan, State.evcEdge_rd, Touches.setFan.rd (by decide), State.rd_wr_same]
  exact ⟨State.fan_setFan (by decide), rfl⟩

end Sys2Proof.Machine
end

section
/-! The faults of the direct drive (R198, R332), and the ends of a stall and of its count (R199, R203, R208). -/

namespace Sys2Proof.Machine

variable {s : State} {periods : Nat} {n : Fin 3}

/-- The machine with an overcurrent recorded and flagged (R198, R214). -/
def State.fanTripped (s : State) : State :=
  ((((s.wrAt Hid.fanOcAt 2 (s.rdAt Hid.fanOcAt 1)).wrAt Hid.fanOcAt 1 (s.rdAt Hid.fanOcAt 0)).wrAt Hid.fanOcAt 0 (s.tick + 1)).fanFlag
    4).count 0x87

/-- Where no trip stood before, the trip before this one is none, so this is not the third. -/
theorem State.fanTripped_few (h : s.rdAt Hid.fanOcAt 0 = 0) : s.fanTripped.fanOcCnt < 3 := by
  have hprev : s.fanTripped.rdAt Hid.fanOcAt 1 = 0 := by
    rw [State.fanTripped, (Touches.refl _).fanFlag.count.rdAt (by decide), State.rdAt_wrAt_ne _ _ _ _ _ _ (by decide), State.rdAt_wrAt_same, h]
    rfl
  exact List.length_filter_lt_length_iff_exists.mpr ⟨1, by decide, by simp [hprev]⟩

theorem execFanOvercurrent_coasts (hgates : s.fanGates = true) (h : s.rdAt Hid.fanOcAt 0 = 0) :
    ∃ t, exec .fanOvercurrent s = .next t ∧ t.fan 0 = fCoast ∧ bit (t.rd Reg.FAN_FLAGS_FLAGS) 4 = true := by
  have hexec : exec .fanOvercurrent s = fin s.fanTripped.fanCoast :=
    (if_neg (by simp [hgates])).trans (if_neg (Nat.not_le.mpr (State.fanTripped_few h)))
  refine exists_of_eq_fin hexec ⟨State.evcEdge_fan.trans State.fanCoast_fan, ?_⟩
  rw [State.evcEdge_rd, Touches.fanCoasts.rd (by decide), State.fanTripped, State.count_rd]
  exact State.bit_or_same (by decide)

/-- The machine with VDRV low: the drive blocked, and its flags (R198, R332). -/
def State.vdrvLow (s : State) : State :=
  (((s.wrs [(Hid.vdrvBlock, 1), (Reg.PWR_STAT_VDRV_LOW, 1)]).or Reg.PWR_FLAGS_FLAGS 16).fanFlag 5).count 0x89

theorem execFanVdrvLow_blocks (halive : s.alive = true) (hgood : s.on Reg.PWR_STAT_VDRV_LOW = false) :
    ∃ t, exec .fanVdrvLow s = .next t ∧ t.rd Reg.PWR_STAT_VDRV_LOW = 1 ∧ t.rd Hid.vdrvBlock = 1 ∧
      bit (t.rd Reg.PWR_FLAGS_FLAGS) 4 = true ∧ bit (t.rd Reg.FAN_FLAGS_FLAGS) 5 = true := by
  obtain ⟨x, hexec, hx⟩ : ∃ x, exec .fanVdrvLow s = fin x ∧ Touches [] Touches.fanFlds s.vdrvLow x := by
    have hlow : exec .fanVdrvLow s = if s.vdrvLow.fanGates = true ∨ s.vdrvLow.fan 0 = fRetry then fin s.vdrvLow.fanCoast else fin s.vdrvLow :=
      if_neg (by simp [halive, hgood])
    rw [hlow]
    split
    · exact ⟨_, rfl, .fanCoast⟩
    · exact ⟨_, rfl, .of (by decide) (.refl _)⟩
  refine exists_of_eq_fin hexec ?_
  simp (disch := decide) only [State.evcEdge_rd, hx.rd, State.vdrvLow, State.count_rd, State.fanFlag, State.rd_or_ne]
  refine ⟨State.rd_wr_same _ _ _, ?_, State.bit_or_same (n := 4) (by decide), State.bit_or_same (by decide)⟩
  exact (State.rd_wr_ne _ _ _ _ (by decide)).trans (State.rd_wr_same _ _ _)

theorem execFanVdrvGood_unblocks : ∃ t, exec .fanVdrvGood s = .next t ∧ t.rd Reg.PWR_STAT_VDRV_LOW = 0 ∧ t.rd Hid.vdrvBlock = 0 := by
  obtain ⟨x, hexec, hx⟩ : ∃ x, exec .fanVdrvGood s = fin x ∧
      Touches [] Touches.fanFlds (s.wrs [(Hid.vdrvBlock, 0), (Reg.PWR_STAT_VDRV_LOW, 0)]) x := by
    change ∃ x, execFanVdrvGood s = fin x ∧ _
    unfold execFanVdrvGood
    extract_lets t
    split
    · exact ⟨_, rfl, .fanCoastOut⟩
    · exact ⟨_, rfl, .of (by decide) (.refl _)⟩
  refine exists_of_eq_fin hexec ?_
  rw [State.evcEdge_rd, State.evcEdge_rd, hx.rd (by decide), hx.rd (by decide)]
  exact ⟨State.rd_wr_same _ _ _, (State.rd_wr_ne _ _ _ _ (by decide)).trans (State.rd_wr_same _ _ _)⟩

theorem State.fanSyncLoss_of_run (h : s.fan 0 = fRun) : s.fanSyncLoss = ((s.fanFlag 7).count 0x88).fanCoast := if_pos h

/-- A synchronisation loss leaves the flags that stand. -/
theorem State.fanSyncLoss_flag {k : Nat} (h : bit (s.rd Reg.FAN_FLAGS_FLAGS) k = true) (hk : k < Reg.FAN_FLAGS_FLAGS.w) :
    bit (s.fanSyncLoss.rd Reg.FAN_FLAGS_FLAGS) k = true := by
  unfold State.fanSyncLoss
  split
  · rw [Touches.fanCoasts.rd (by decide), State.count_rd, State.fanFlag, State.bit_or_two_pow hk, h, Bool.true_or]
  · exact h

theorem execFanBootstrapLow_flags (hgates : s.fanGates = true) :
    ∃ t, exec (.fanBootstrapLow periods) s = .next t ∧ bit (t.rd Reg.FAN_FLAGS_FLAGS) 6 = true := by
  have hflag : bit ((s.fanFlag 6).rd Reg.FAN_FLAGS_FLAGS) 6 = true := State.bit_or_same (by decide)
  have hlow : exec (.fanBootstrapLow periods) s = if 16 ≤ periods then fin (s.fanFlag 6).fanSyncLoss else fin (s.fanFlag 6) :=
    if_neg (by simp [hgates])
  rw [hlow]
  split
  · exact exists_fin ((State.evcEdge_rd _ _).symm ▸ State.fanSyncLoss_flag hflag (by decide))
  · exact exists_fin ((State.evcEdge_rd _ _).symm ▸ hflag)

theorem execFanSyncLoss_coasts (h : s.fan 0 = fRun) :
    ∃ t, exec .fanSyncLoss s = .next t ∧ t.fan 0 = fCoast ∧ bit (t.rd Reg.FAN_FLAGS_FLAGS) 7 = true := by
  refine exists_of_eq_fin (congrArg fin (State.fanSyncLoss_of_run h)) ⟨State.evcEdge_fan.trans State.fanCoast_fan, ?_⟩
  rw [State.evcEdge_rd, Touches.fanCoasts.rd (by decide), State.count_rd]
  exact State.bit_or_same (by decide)

theorem execFanStallWaitEnd_stops (h : s.fan n.val = fStalled) (hd : s.fanD n.val = 0) :
    ∃ t, exec (.fanStallWaitEnd n) s = .next t ∧ t.fan n.val = fStopped := by
  have hexec : exec (.fanStallWaitEnd n) s = fin (if n.val = 0 then s.fanStop0 else s.fanStopT n.val).heaterRefresh := by
    refine (if_neg (not_not.mpr h)).trans ?_
    by_cases hn : n.val = 0
    · rw [if_pos hn, if_pos hn, if_pos (hn ▸ hd)]
    · rw [if_neg hn, if_neg hn]
  refine exists_of_eq_fin hexec ?_
  rw [State.evcEdge_fan, Touches.heaterRefresh.fan (by decide) (by decide)]
  split
  case isTrue hn =>
    rw [hn] at hd ⊢
    exact State.fanStop0_fan hd
  case isFalse => exact State.fanStopT_fan hd

theorem execFanStallCntReset_clears (h : s.fan n.val = fRun) : ∃ t, exec (.fanStallCntReset n) s = .next t ∧
    (if n.val = 0 then t.rd Reg.FAN_STATE_STALL_CNT else t.rdAt Reg.FANT_STATE_STALL_CNT (n.val - 1)) = 0 := by
  have hrun : exec (.fanStallCntReset n) s = if n.val = 0 then fin (s.wr Reg.FAN_STATE_STALL_CNT 0) else
      fin (s.wrAt Reg.FANT_STATE_STALL_CNT (n.val - 1) 0) := if_neg (not_not.mpr h)
  by_cases hn : n.val = 0
  · refine exists_of_eq_fin (hrun.trans (if_pos hn)) ?_
    rw [if_pos hn, State.evcEdge_rd, State.rd_wr_same]
    rfl
  · refine exists_of_eq_fin (hrun.trans (if_neg hn)) ?_
    rw [if_neg hn, State.evcEdge_rdAt, State.rdAt_wrAt_same]
    rfl

/-- Settles O24: each command comes down to the entry of one state of the drive, whose effect on the channel's state, its reference and its
flags is known. -/
theorem directFan : Obligations.DirectFan := by
  unfold Obligations.DirectFan
  exact ⟨fun _ => execFanCatchTimeout_aligns, fun _ => execFanAlignOpenPhase_locks, fun _ => execFanAlignDone_ramps,
    fun _ _ _ => execFanObserverConverged_catches, fun _ _ _ _ => execFanObserverConverged_hands_over,
    fun _ => execFanRampTimeout_retries, fun _ => execFanRetryWaitEnd_aligns, fun _ => execFanStopDone_stops,
    fun _ => execFanCoastEnd_catches, fun _ hgates h0 _ => execFanOvercurrent_coasts hgates h0, fun _ => execFanVdrvLow_blocks,
    fun _ => execFanVdrvGood_unblocks, fun _ _ => execFanBootstrapLow_flags, fun _ => execFanSyncLoss_coasts,
    fun _ _ => execFanStallWaitEnd_stops, fun _ _ => execFanStallCntReset_clears⟩

end Sys2Proof.Machine
end


section
/-! The tachometer fans (R205 to R210): what an edge measures, and the ends of a start, a kick and a run without one. -/

namespace Sys2Proof.Machine

variable {s : State} {k : Fin 2} {n us : Nat}

/-- A tachometer fan's duty just set. -/
theorem State.setDuty_duty {v : Nat} : (s.setDuty (n + 1) v).rdAt Reg.FANT_MEAS_DUTY n = v % 2 ^ 16 := State.rdAt_wrAt_same _ _ _ _

/-- The machine with a plausible edge measured (R205). -/
def State.tachEdge (s : State) (k us : Nat) : State :=
  ((s.tachSpeed us).2.wrAt Reg.FANT_MEAS_SPEED k (s.tachSpeed us).1).wrAt Reg.FANT_STATE_PLAUS_RUN k
    (capN 5 (s.rdAt Reg.FANT_STATE_PLAUS_RUN k + 1))

/-- What follows a measured edge leaves the speed alone (R208, R451). -/
theorem execFanTachEdge_plausible (hactive : s.fanActive (k.val + 1) = true) (hon : s.fan (k.val + 1) ≠ 0) (hpos : 0 < us)
    (hlow : 100 * us ≤ 30000000) (hhigh : 30000000 ≤ s.rdAt Reg.FANT_LIM_MAX_RPM k.val * us) :
    ∃ x, exec (.fanTachEdge k us) s = fin x ∧ Touches [] (Hid.izV :: Touches.fanTFlds) (s.tachEdge k.val us) x := by
  change ∃ x, execFanTachEdge k us s = fin x ∧ _
  unfold execFanTachEdge
  extract_lets c n plausible q run edge
  have hplausible : plausible = true := by simp [plausible, c, hpos, hlow, hhigh]
  have hkeep : Touches [] (Hid.izV :: Touches.fanTFlds) edge edge := .of (by decide) (.refl _)
  have hrun : Touches [] (Hid.izV :: Touches.fanTFlds) edge (edge.fanRunT n) := .of (by decide) .fanRunT
  rw [if_neg (by simp [n, c, hactive, hon]), if_neg (by simp [hplausible])]
  split
  · exact ⟨_, rfl, .of (by decide) (Touches.refl _).wrAt⟩
  · split
    · exact ⟨_, rfl, hkeep⟩
    · split
      · exact ⟨_, rfl, hrun⟩
      · split
        · exact ⟨_, rfl, hrun.count⟩
        · exact ⟨_, rfl, hkeep⟩

theorem execFanTachEdge_measures (hactive : s.fanActive (k.val + 1) = true) (hon : s.fan (k.val + 1) ≠ 0) (hpos : 0 < us)
    (hlow : 100 * us ≤ 30000000) (hhigh : 30000000 ≤ s.rdAt Reg.FANT_LIM_MAX_RPM k.val * us) (hwhole : 30000000 % us = 0) :
    ∃ t, exec (.fanTachEdge k us) s = .next t ∧ t.rdAt Reg.FANT_MEAS_SPEED k.val = 30000000 / us % 2 ^ Reg.FANT_MEAS_SPEED.w := by
  obtain ⟨x, hexec, hx⟩ := execFanTachEdge_plausible hactive hon hpos hlow hhigh
  have hspeed : s.tachSpeed us = (30000000 / us, s) := if_pos hwhole
  refine exists_of_eq_fin hexec ?_
  rw [State.evcEdge_rdAt, hx.rdAt (by decide), State.tachEdge, State.rdAt_wrAt_id _ _ _ _ _ _ (by decide), State.rdAt_wrAt_same, hspeed]

theorem execFanTachSpeedTimeout_zero : ∃ t, exec (.fanTachSpeedTimeout k) s = .next t ∧ t.rdAt Reg.FANT_MEAS_SPEED k.val = 0 := by
  refine exists_fin ?_
  rw [State.evcEdge_rdAt, State.rdAt_wrAt_same]
  rfl

theorem toNat_clampI (d : Nat) : (clampI 0 65535 d).toNat = min 65535 d := by
  unfold clampI
  split_ifs <;> omega

/-- With no error and no integral nothing corrects the table's duty, which is held at full duty (R207). -/
theorem execFanSpeedStep_table (h : s.fan (k.val + 1) = fRun) (htach : s.onAt Reg.FANT_CTRL_TACH_EN k.val = true)
    (hactive : s.fanActive (k.val + 1) = true) (hd : s.fanD (k.val + 1) = s.rdAt Reg.FANT_MEAS_SPEED k.val)
    (hint : s.rdI Hid.fanInt k.val = 0) : ∃ t, exec (.fanSpeedStep k) s = .next t ∧
      t.rdAt Reg.FANT_MEAS_DUTY k.val = min 65535 (s.fanTable (k.val + 1) (s.fanD (k.val + 1))) := by
  have hexec : exec (.fanSpeedStep k) s =
      fin ((s.wrI Hid.fanInt k.val 0).setDuty (k.val + 1) (clampI 0 65535 (s.fanTable (k.val + 1) (s.fanD (k.val + 1)) : Nat)).toNat) := by
    change execFanSpeedStep k s = _
    have hcorr : clampI (-16384) 16384 0 = 0 := by decide
    simp [execFanSpeedStep, h, htach, hactive, hd, hint, hcorr]
  refine exists_of_eq_fin hexec ?_
  rw [State.evcEdge_rdAt, State.setDuty_duty, toNat_clampI]
  exact Nat.mod_eq_of_lt (Nat.lt_succ_of_le (Nat.min_le_left _ _))

theorem execFanTstartTimeout_kicks (h : s.fan (k.val + 1) = fCatch) (htach : s.onAt Reg.FANT_CTRL_TACH_EN k.val = true) :
    ∃ t, exec (.fanTstartTimeout k) s = .next t ∧ t.fan (k.val + 1) = fAlign ∧ t.rdAt Reg.FANT_MEAS_DUTY k.val = 65535 := by
  refine exists_of_eq_fin (if_neg (by simp [h, htach])) ⟨?_, ?_⟩
  · rw [State.evcEdge_fan, (Touches.refl _).setDuty.fanFlag.count.fan (by decide) (by decide)]
    exact State.fan_setFan (by decide)
  · rw [State.evcEdge_rdAt, (Touches.refl _).fanFlag.count.rdAt (by decide), State.setDuty_duty]
    rfl

/-- A tachometer channel stalls, and is not locked yet, while its STALL_CNT stays below 10 (R203). -/
theorem State.fanStallT_eq (h : s.rdAt Reg.FANT_STATE_STALL_CNT n < 9) : s.fanStall (n + 1) =
    (((((s.wrAt Reg.FANT_STATE_STALL_CNT n (s.rdAt Reg.FANT_STATE_STALL_CNT n + 1)).setFan (n + 1) fStalled).fanFlag 1).count 0x84).raise
      5).heaterRefresh := by
  have hleft : ¬ 10 ≤ s.rdAt Reg.FANT_STATE_STALL_CNT n + 1 := by omega
  simp [State.fanStall, hleft]

theorem execFanKickEnd_stalls (h : s.fan (k.val + 1) = fAlign) (htach : s.onAt Reg.FANT_CTRL_TACH_EN k.val = true)
    (hcnt : s.rdAt Reg.FANT_STATE_STALL_CNT k.val < 9) : ∃ t, exec (.fanKickEnd k) s = .next t ∧ t.fan (k.val + 1) = fStalled ∧
      t.rdAt Reg.FANT_MEAS_DUTY k.val = 0 ∧ t.rdAt Reg.FANT_STATE_STALL_CNT k.val = s.rdAt Reg.FANT_STATE_STALL_CNT k.val + 1 := by
  have hexec : exec (.fanKickEnd k) s = fin ((s.setDuty (k.val + 1) 0).fanStall (k.val + 1)) := if_neg (by simp [h, htach])
  have hcnt' : (s.setDuty (k.val + 1) 0).rdAt Reg.FANT_STATE_STALL_CNT k.val = s.rdAt Reg.FANT_STATE_STALL_CNT k.val :=
    (Touches.refl s).setDuty.rdAt (by decide) _
  have htail : ∀ u : State, Touches [] _ u (((u.fanFlag 1).count 0x84).raise 5).heaterRefresh :=
    fun u => (Touches.refl u).fanFlag.count.raise.andThen .heaterRefresh
  rw [hexec, State.fanStallT_eq (by rwa [hcnt']), hcnt']
  refine exists_fin ⟨?_, ?_, ?_⟩
  · rw [State.evcEdge_fan, (htail _).fan (by decide) (by decide)]
    exact State.fan_setFan (by decide)
  · rw [State.evcEdge_rdAt, (htail _).rdAt (by decide), Touches.setFan.rdAt (by decide), State.rdAt_wrAt_id _ _ _ _ _ _ (by decide),
      State.setDuty_duty]
    rfl
  · rw [State.evcEdge_rdAt, (htail _).rdAt (by decide), Touches.setFan.rdAt (by decide), State.rdAt_wrAt_same]
    exact Nat.mod_eq_of_lt (by show _ < 16; omega)

theorem execFanTachLost_opens (h : s.fan (k.val + 1) = fRun) (htach : s.onAt Reg.FANT_CTRL_TACH_EN k.val = true)
    (hduty : 13107 < s.rdAt Reg.FANT_MEAS_DUTY k.val) : ∃ t, exec (.fanTachLost k) s = .next t ∧ t.fan (k.val + 1) = fRetry ∧
      t.rdAt Reg.FANT_STATE_TACH_LOST k.val = 1 ∧
      t.rdAt Reg.FANT_MEAS_DUTY k.val = s.fanTable (k.val + 1) (s.fanD (k.val + 1)) % 2 ^ 16 ∧ bit t.intCause 5 = true := by
  refine exists_of_eq_fin (if_neg (by simp [h, htach, hduty])) ⟨?_, ?_, ?_, State.evcEdge_causes State.bit_raise⟩
  · rw [State.evcEdge_fan, (Touches.refl _).setDuty.wrsAt.fanFlag.count.raise.fan (by decide) (by decide)]
    exact State.fan_setFan (by decide)
  · rw [State.evcEdge_rdAt, (Touches.refl _).fanFlag.count.raise.rdAt (by decide)]
    exact (State.rdAt_wrAt_id _ _ _ _ _ _ (by decide)).trans (State.rdAt_wrAt_same _ _ _ _)
  · rw [State.evcEdge_rdAt, (Touches.refl _).wrsAt.fanFlag.count.raise.rdAt (by decide), State.setDuty_duty]

theorem execFanAutoTableStep_commands {n : Fin 3} (hmode : s.mode = mAuto) (hsrc : bit (s.rd Reg.FAN_COMMON_SRC) n.val = true)
    (halive : s.alive = true) : ∃ t, exec (.fanAutoTableStep n) s = .next t ∧
      t.actQ = s.actQ ++ [{ kind := 3, index := n.val, value := (s.autoSpeed n.val).1 + 65536, src := 160 }] := by
  obtain ⟨x, hexec, hx⟩ : ∃ x : State, exec (.fanAutoTableStep n) s = fin { x with
      actQ := x.actQ ++ [{ kind := 3, index := n.val, value := (s.autoSpeed n.val).1 + 65536, src := 160 }] } ∧ x.actQ = s.actQ := by
    refine ⟨_, if_neg (by simp [hmode, hsrc, halive]), ?_⟩
    exact ((Touches.coachGet.andThen .coachGet).whenB fun u => (Touches.refl u).fanFlag).count.parts .actQ (by decide)
  refine exists_of_eq_fin hexec ?_
  rw [State.evcEdge_actQ, hx]

/-- Settles O25: an edge, a step of the regulation and the end of a wait each come down to the writes of one channel's own fields. -/
theorem tachometerFans : Obligations.TachometerFans := by
  unfold Obligations.TachometerFans
  exact ⟨fun _ _ _ => execFanTachEdge_measures, fun _ _ => execFanTachSpeedTimeout_zero, fun _ _ => execFanSpeedStep_table,
    fun _ _ => execFanTstartTimeout_kicks, fun _ _ => execFanKickEnd_stalls, fun _ _ => execFanTachLost_opens,
    fun _ _ => execFanAutoTableStep_commands⟩

end Sys2Proof.Machine
end


section
/-! A statement on the host's commands to the valves that a profile write without its update refutes (R226, R318, R476). -/

namespace Sys2Proof.Machine

/-- NATIVE, the port open: channel 0 is disabled by its MODE and rests in OFF, and a word of a valve profile waits for it, MODE 2, while no
update is queued or runs. -/
def leftoverProfile : State :=
  { (((State.wr {} Reg.PWR_MODE_MODE mNative).wrAt Reg.VLV_HOLD_I_HOLD 0 300).wrAt Reg.VLV_HOLD_I_HOLD_MIN 0 300) with
    rgn := { writes := [(0, 0x3401, 2)] } }

/-- Refutes O39: VLV_CFG is written with MODE 1 and the channel enters OFF under it, where it takes the waiting word (R226), so its MODE is 2.
State.rgnHolds goes by RGN_CTRL.STATE alone, and the statement assumes nothing of the words that wait. -/
theorem not_hostCommandsOutputs : ¬ Obligations.HostCommandsOutputs := by
  intro h
  obtain ⟨-, hcfg, -⟩ := h
  obtain ⟨t, ht, -, hmode, -⟩ := hcfg leftoverProfile 1 (by decide) (by decide) (by decide +kernel)
  have htaken : t.rdAt Reg.VLV_CFG_MODE 0 = 2 := by
    rw [eq_of_fin ht, State.evcEdge_rdAt]
    decide +kernel
  exact absurd (htaken.symm.trans hmode) (by decide)

end Sys2Proof.Machine
end


section
/-! What the commands of the valves, the dampers and the binary outputs touch (R218 to R232, R234 to R241, R242 to R244). -/

namespace Sys2Proof.Machine

variable {s : State} {d n : Nat}

namespace Touches

/-! The valve channels. -/

/-- What a valve channel writes as it starts (R220 to R223, R229): all that a change of its state writes but its grid. -/
def startFlds : List Fld :=
  [Reg.VLV_STATE_STATE, Reg.VLV_STATE_BAND, Reg.VLV_MEAS_CURRENT, Reg.VLV_MEAS_DUTY, Reg.VLV_DIAG_OFF_RES, Hid.vlvOrg, Hid.vlvOrgKind,
    Hid.vlvTest, Hid.vlvHsTest]

theorem setVlv_noGrid {v} : Touches [] startFlds s (s.setVlv n v) :=
  of (by decide) ((refl s).wrAt.whenB fun t => (refl t).wrsAt)

theorem vlvEnter_noGrid {st} : Touches [] startFlds s (s.vlvEnter n st) :=
  of (by decide) (branch setVlv_noGrid.wrAt.wrAt setVlv_noGrid)

theorem vlvAbortTest_noGrid : Touches [] startFlds s (s.vlvAbortTest n) :=
  of (by decide) (branch (refl s) ((each (refl s) fun t _ => (refl t).wrsAt).whenB fun t => (refl t).wrAt).count)

theorem vlvStart_noGrid : Touches [] startFlds s (s.vlvStart n) := by
  unfold State.vlvStart
  extract_lets b t u
  have ht : Touches [] startFlds s t := of (by decide) vlvAbortTest_noGrid.wrAt.wrAt
  have hpeak : Touches [] startFlds s (u.vlvEnter n vPeak) := of (by decide) (ht.count.andThen vlvEnter_noGrid)
  split
  · exact of (by decide) (ht.andThen setVlv_noGrid)
  · split
    · exact of (by decide) (ht.count.andThen vlvEnter_noGrid)
    · split
      · exact either (of (by decide) (ht.count.andThen setVlv_noGrid).count) hpeak
      · exact hpeak

theorem vlvExtend_noGrid {grid} : Touches [] startFlds s (s.vlvExtend n grid) :=
  of (by decide) (branch (refl s).count.wrAt.wrAt (refl s).count)

/-- What a channel that latches a fault writes (R231, R450). -/
def vlvLatchFlds : List Fld := [Hid.izV, Hid.vlvOcWait, Reg.VLV_DIAG_CAUSE] ++ vlvOffFlds

theorem vlvLatch {st cause} : Touches [.rgn] vlvLatchFlds s (s.vlvLatch n st cause) :=
  of (by decide) (((refl s).wrAt.wrAt.wrAt.andThen vlvDrop).count.raise.whenB fun t => (refl t).orAt)

/-- What a short to ground of a switch writes (R230, R231). -/
def shortFlds : List Fld := [Reg.VLV_FLAGS_SHORT_GND, Reg.VLV_HS_BLOCKED] ++ vlvLatchFlds

theorem hsShort {h cause} : Touches [.rgn] shortFlds s (s.hsShort h cause) :=
  of (by decide) (each (refl s).or.or fun t _ => branch (refl t) vlvLatch)

theorem execValvePeakEnd {chan} : TouchesOut [.rgn] vlvOffFlds s (execValvePeakEnd chan s) := by
  unfold Machine.execValvePeakEnd
  extract_lets n past
  split
  · exact .fin (of (by decide) (refl s))
  · split
    · exact .fin vlvDrop
    · exact .fin (of (by decide) (setVlv.andThen vlvPeakEnd))

theorem vlvTestStart {h} : Touches [] [Hid.vlvHsTest, Hid.vlvTest] s (s.vlvTestStart h) :=
  of (by decide) (branch (refl s) ((each (refl s) fun t _ => (refl t).wrAt).whenB fun t => (refl t).wrAt))

theorem execValveOffTestDone {hs limit low1 high2 low2} : TouchesOut [.rgn]
    ([Reg.VLV_DIAG_OFF_AGE, Reg.VLV_FLAGS_OPEN, Reg.VLV_FLAGS_SHORT_SUP] ++ shortFlds) s
    (execValveOffTestDone hs limit low1 high2 low2 s) := by
  unfold Machine.execValveOffTestDone
  extract_lets h under served short t u
  have ht : Touches [] [Reg.VLV_DIAG_OFF_RES, Reg.VLV_DIAG_OFF_AGE, Hid.vlvTest, Reg.VLV_FLAGS_OPEN, Reg.VLV_FLAGS_SHORT_SUP] s t :=
    of (by decide) (each (refl s) fun t _ => ((refl t).wrAt.wrAt.wrAt.whenB fun t => (refl t).or).whenB fun t => (refl t).or)
  split
  · exact .fin (of (by decide) (refl s))
  · exact .fin (of (by decide) (ht.wrAt.count.whenB fun _ => hsShort))

theorem execValveHighSideOvercurrent {hs lowSum} : TouchesOut [.rgn]
    ([Hid.vlvOcAt, Reg.VLV_DIAG_ON_RES, Reg.VLV_FLAGS_HS_OC] ++ shortFlds) s (execValveHighSideOvercurrent hs lowSum s) := by
  unfold Machine.execValveHighSideOvercurrent
  extract_lets h prev now t u
  have hu : Touches [] [Reg.VLV_FLAGS_HS_OC, Hid.vlvOcAt] s u := of (by decide) (refl s).or.count.wrAt.wrAt
  split
  · exact .fin (of (by decide) (refl s))
  · split
    · exact .fin (of (by decide) ((each (refl s) fun t _ => (refl t).wrAt).andThen hsShort))
    · split
      · exact .fin (of (by decide) (hu.andThen hsShort))
      · exact .fin (of (by decide) (hu.each fun t _ => branch (((refl t).wrAt.wrAt.andThen setVlv).andThen vlvTake) (refl t)))

/-! The dampers. -/

/-- What the scheduler writes of a damper (R239). -/
def schedFlds : List Fld := [Hid.dmpFb, Hid.dmpStalled, Hid.dmpVel, Reg.DMP_FLAGS_PREEMPT, Reg.DMP_STATE_STATE]

theorem dmpStart : Touches [.dmp] schedFlds s (s.dmpStart d) :=
  of (by decide) (refl s).setDmp.wrAt.wrAt.wrAt.wrAt.count

theorem dmpFill {fuel} : Touches [.dmp] schedFlds s (State.dmpFill fuel s) := by
  induction fuel generalizing s with
  | zero => exact of (by decide) (refl s)
  | succ fuel ih =>
    unfold State.dmpFill
    split
    · exact of (by decide) (refl s)
    · split
      · exact dmpStart.trans ih
      · exact dmpStart.trans ih
      · exact of (by decide) (refl s)

theorem dmpPreempt : Touches [.dmp] schedFlds s s.dmpPreempt :=
  of (by decide) (each (refl s).setDmp fun t _ => (refl t).or.count)

theorem dmpJoin : Touches [.dmp] schedFlds s s.dmpJoin :=
  of (by decide) (each (refl s) fun t _ => branch (refl t).setDmp.wrAt (branch dmpOut.wrAt (refl t)))

theorem dmpEnd : Touches [.dmp] [Hid.dmpFb, Hid.dmpStalled, Hid.dmpVel, Reg.DMP_STATE_STATE] s (s.dmpEnd d) :=
  of (by decide) dmpOut.wrAt.wrAt.wrAt

theorem dmpShift {delta} : Touches [] [Hid.dmpFrac, Hid.dmpPhase, Reg.DMP_POS_POS] s (s.dmpShift d delta) :=
  of (by decide) (refl s).wrAt.wrAt.wrAt

/-- What a damper writes as it enters FAULT (R241). -/
def dmpFaultFlds : List Fld :=
  [Hid.dmpFb, Hid.dmpStalled, Hid.dmpVel, Reg.DMP_POS_POS, Reg.DMP_STATE_CAUSE, Reg.DMP_STATE_POS_OK, Reg.DMP_STATE_STATE]

theorem dmpFault {cause} : Touches [.dmp] dmpFaultFlds s (s.dmpFault d cause) :=
  of (by decide) (dmpLose.andThen dmpOut).wrAt.wrAt.wrAt.wrAt.raise

theorem dmpHomed : Touches [.dmp] [Hid.dmpFb, Hid.dmpFrac, Hid.dmpHome, Hid.dmpStalled, Hid.dmpVel, Reg.DMP_POS_POS,
    Reg.DMP_STATE_POS_OK, Reg.DMP_STATE_STATE] s (s.dmpHomed d) := by
  unfold State.dmpHomed
  extract_lets stalled t
  have ht : Touches [] [Reg.DMP_POS_POS, Hid.dmpFrac, Hid.dmpVel, Reg.DMP_STATE_POS_OK, Hid.dmpHome] s t :=
    of (by decide) (refl s).wrsAt.count
  exact of (by decide) (branch (ht.andThen dmpEnd) ht.wrAt.wrAt)

theorem execDamperStall {damper} : TouchesOut [.dmp] [Hid.dmpFb, Hid.dmpFrac, Hid.dmpHome, Hid.dmpStalled, Hid.dmpVel,
    Reg.DMP_FLAGS_STALL, Reg.DMP_POS_POS, Reg.DMP_STATE_CAUSE, Reg.DMP_STATE_POS_OK, Reg.DMP_STATE_STATE] s (execDamperStall damper s) := by
  unfold Machine.execDamperStall
  extract_lets d t
  have ht : Touches [] [Reg.DMP_FLAGS_STALL] s t := (refl s).or.count
  split
  · exact .fin (of (by decide) (refl s))
  · split
    · exact .fin (of (by decide) dmpHomed)
    · split
      · split
        · exact .fin (of (by decide) (ht.andThen dmpFault))
        · exact .fin (of (by decide) (ht.andThen dmpLose).wrsAt)
      · exact .fin (of (by decide) (refl s))

theorem execDamperFeedbackCheck {damper} : TouchesOut [.dmp] ([Hid.dmpFbTry, Hid.dmpHome, Reg.DMP_FBPOS_FB_POS, Reg.DMP_FBPOS_FB_VALID,
    Reg.DMP_FLAGS_FB_MISMATCH] ++ dmpFaultFlds) s (execDamperFeedbackCheck damper s) := by
  unfold Machine.execDamperFeedbackCheck
  extract_lets d t i fb u w
  have ht : Touches [] [Hid.dmpFb] s t := (refl s).wrAt
  have hu : Touches [] [Hid.dmpFb, Reg.DMP_FBPOS_FB_POS, Reg.DMP_FBPOS_FB_VALID] s u := of (by decide) ht.wrAt.wrAt
  split
  · exact .fin (of (by decide) (refl s))
  · split
    · exact .fin (of (by decide) ht.wrAt)
    · split
      · exact .fin (of (by decide) hu.wrAt)
      · split
        · exact .fin (of (by decide) (hu.or.wrAt.wrAt.andThen dmpFault))
        · exact .fin (of (by decide) hu.or.wrAt.wrsAt)

theorem execDamperPreemptStop {damper pos} : TouchesOut [.dmp] [Hid.dmpFrac, Hid.dmpHome, Hid.dmpVel, Reg.DMP_POS_POS,
    Reg.DMP_STATE_STATE] s (execDamperPreemptStop damper pos s) := by
  unfold Machine.execDamperPreemptStop
  extract_lets d stamp o q t u
  have ht : Touches [.dmp] [Hid.dmpVel] s t := of (by decide) dmpOut.setDmp
  split
  · exact .fin (of (by decide) (refl s))
  · exact .fin (of (by decide) (branch ht.wrAt.wrAt ht.wrAt).wrAt)

/-! The binary outputs. -/

theorem execBoOvercurrent {out} : TouchesOut [] ([Hid.boOc, Hid.boOcAt, Reg.BO_FLAGS_LATCH, Reg.BO_FLAGS_OC] ++ boFlds) s
    (execBoOvercurrent out s) := by
  unfold Machine.execBoOvercurrent
  extract_lets n last prev now third t u
  have hu : Touches [] ([Hid.boOc, Hid.boOcAt, Reg.BO_FLAGS_OC] ++ boFlds) s u := of (by decide) boSwitch.or.count.wrAt.wrAt.wrAt
  split
  · exact .fin (of (by decide) (refl s))
  · exact .fin (of (by decide) ((hu.whenB fun t => (refl t).orAt.or).andThen boRefresh))

end Touches

/-- Settles O48: each command is made of operations whose fields, causes and components are known (`Touches`). -/
theorem outputFrames : Obligations.OutputFrames := by
  refine ⟨fun chan s t h => ?_, fun chan s t h => ?_, fun chan s t h => ?_, fun s t h => ?_, fun hs s t h => ?_,
    fun hs limit low1 high2 low2 s t h => ?_, fun chan current s t h => ?_, fun chan s t h => ?_, fun hs lowSum s t h => ?_,
    fun chan s t h => ?_, fun s t h => ?_, fun d s t h => ?_, fun d s t h => ?_, fun d s t h => ?_, fun d s t h => ?_,
    fun d s t h => ?_, fun d s t h => ?_, fun out s t h => ?_, fun out s t h => ?_, fun out s t h => ?_, fun out s t h => ?_,
    fun d pos s t h => ?_⟩
  · exact (TouchesOut.branch (.fin (.refl s)) (.branch (.branch (.fin (.refl s)) (.fin .vlvStart_noGrid))
      (.branch (.fin .vlvExtend_noGrid) (.fin (.refl s))))).frame [] (by decide) h
  · exact Touches.execValvePeakEnd.frame [.rgn] (by decide) h
  · exact (TouchesOut.branch (.fin .vlvDrop) (.fin (.refl s))).frame [.rgn] (by decide) h
  · exact (TouchesOut.branch (.fin (.each (.refl s) fun t _ => (Touches.refl t).wrAt)) (.fin (.refl s))).frame [] (by decide) h
  · exact (TouchesOut.fin Touches.vlvTestStart).frame [] (by decide) h
  · exact Touches.execValveOffTestDone.frame [.rgn] (by decide) h
  · exact (TouchesOut.branch (.fin (.refl s)) (.branch (.fin (Touches.refl s).wrAt.or) (.fin (Touches.refl s).wrAt))).frame
      [] (by decide) h
  · exact (TouchesOut.branch (.fin (.refl s)) (.fin ((Touches.refl s).wrAt.or.andThen .vlvLatch))).frame [.rgn] (by decide) h
  · exact Touches.execValveHighSideOvercurrent.frame [.rgn] (by decide) h
  · exact (TouchesOut.branch (.fin ((Touches.refl s).wrAt.andThen .vlvResume)) (.fin (.refl s))).frame [] (by decide) h
  · exact (TouchesOut.branch (.fin ((Touches.dmpJoin.andThen .dmpPreempt).andThen .dmpFill)) (.fin (.refl s))).frame [.dmp] (by decide) h
  · exact (TouchesOut.branch (.fin (.refl s)) (.fin (Touches.dmpShift.andThen .dmpEnd))).frame [.dmp] (by decide) h
  · exact Touches.execDamperStall.frame [.dmp] (by decide) h
  · exact (TouchesOut.branch (.fin (.refl s)) (.fin ((Touches.refl s).or.andThen .dmpFault))).frame [.dmp] (by decide) h
  · exact Touches.execDamperFeedbackCheck.frame [.dmp] (by decide) h
  · exact (TouchesOut.branch (.fin ((Touches.refl s).or.andThen .dmpFault)) (.fin (.refl s))).frame [.dmp] (by decide) h
  · exact (TouchesOut.branch (.fin ((Touches.refl s).or.andThen .dmpFault)) (.fin (.refl s))).frame [.dmp] (by decide) h
  · exact Touches.execBoOvercurrent.frame [] (by decide) h
  · exact (TouchesOut.branch (.fin ((Touches.refl s).wrAt.andThen .boEval)) (.fin (.refl s))).frame [] (by decide) h
  · exact (TouchesOut.branch (.fin (.refl s)) (.fin (Touches.boEval.andThen .boRefresh))).frame [] (by decide) h
  · exact (TouchesOut.branch (.fin (Touches.refl s).or) (.fin (.refl s))).frame [] (by decide) h
  · exact Touches.execDamperPreemptStop.frame [.dmp] (by decide) h

end Sys2Proof.Machine
end


section
/-! A statement on the valve channels that a valve profile waiting for its channel refutes (R221, R226, R476). -/

namespace Sys2Proof.Machine

/-- NATIVE, channel 2 in the hold of a PULSED run, while an update is queued (RGN_CTRL.STATE 3) with a profile for that channel alone, which
waits for its entry to OFF (R226, R319): its VLV_CFG has MODE 0. -/
def profileWaits : State :=
  { (State.wrs {} [(Reg.PWR_MODE_MODE, mNative), (Reg.RGN_CTRL_STATE, 3), (Reg.RGN_RES_LEFT, 1)]).wrsAt 2
      [(Reg.VLV_CFG_MODE, 2), (Reg.VLV_STATE_STATE, vHold), (Reg.VLV_STATE_VALUE, 9)] with
    rgn := { writes := [(2, 0x3401, 0)], named := [2] } }

/-- Refutes O22: VALVE_HOLD_END turns channel 2 off, and as it enters OFF it takes the profile that waits for it (R226), whose MODE 0 leaves
it disabled. The clause on VALVE_HOLD_END assumes nothing of the profiles that wait. -/
theorem not_valveChannels : ¬ Obligations.ValveChannels := by
  intro h
  obtain ⟨-, -, -, -, -, -, hend, -⟩ := h
  obtain ⟨t, ht, hoff⟩ := hend profileWaits 2 (by decide) (by decide +kernel)
  have hdisabled : t.vlv 2 = vDis := by
    rw [eq_of_fin ht, State.vlv, State.evcEdge_rdAt]
    decide
  exact absurd (hdisabled.symm.trans hoff) (by decide)

end Sys2Proof.Machine
end


section
/-! How one-bit fields, the modes and what they allow read after a change that does not touch them. -/

namespace Sys2Proof.Machine

variable {s t : State} {P : List Part} {L : List Fld} {f : Fld} {ch : Nat}

theorem State.onAt_iff : s.onAt f ch = true ↔ s.rdAt f ch = 1 := by simp [State.onAt]

namespace Touches

theorem onAt (h : Touches P L s t) (hf : f.id ∉ L.map Fld.id) (ch : Nat) : t.onAt f ch = s.onAt f ch :=
  congrArg (· == 1) (h.rdAt hf ch)

theorem mode (h : Touches P L s t) (hL : Reg.PWR_MODE_MODE.id ∉ L.map Fld.id) : t.mode = s.mode := h.rd hL

theorem native (h : Touches P L s t) (hL : Reg.PWR_MODE_MODE.id ∉ L.map Fld.id) : t.native = s.native := by
  rw [State.native, State.operating, h.mode hL, State.native, State.operating]

theorem alive (h : Touches P L s t) (hL : Reg.PWR_MODE_MODE.id ∉ L.map Fld.id) (hR : Hid.resetActive.id ∉ L.map Fld.id) :
    t.alive = s.alive := by
  rw [State.alive, h.mode hL, h.rd hR, State.alive]

theorem regionCut (h : Touches P L s t) (hL : Reg.TS_STATE_ENTERED.id ∉ L.map Fld.id) (i : Nat) : t.regionCut i = s.regionCut i := by
  simp only [State.regionCut, State.tsCut, h.rdAt hL]

end Touches

end Sys2Proof.Machine
end

section
/-! How a binary output follows what is wanted of it (R242 to R244). -/

namespace Sys2Proof.Machine

variable {s t : State} {P : List Part} {f : Fld} {k m n : Nat} {due : Bool}

/-- The machine with FORCED of output `n` brought up to date (R243). -/
def State.boShow (s : State) (n : Nat) : State := s.wrAt Reg.BO_STATE_FORCED n (s.boForced n)

theorem Touches.boShow : Touches [] [Reg.BO_STATE_FORCED] s (s.boShow n) := (refl s).wrAt

theorem bit_two_of_forced (a b c : Bool) : bit ((b2n a + 2 * b2n b + 4 * b2n c) % 8) 2 = c := by
  revert a b c
  decide

/-- The latched fault, which is all that is read of FORCED again, stands. -/
theorem State.boShow_latch : bit ((s.boShow m).rdAt Reg.BO_STATE_FORCED n) 2 = bit (s.rdAt Reg.BO_STATE_FORCED n) 2 := by
  by_cases h : n = m
  · subst h
    exact (congrArg (bit · 2) (State.rdAt_wrAt_same _ _ _ _)).trans (bit_two_of_forced _ _ _)
  · exact congrArg (bit · 2) (State.rdAt_wrAt_ne _ _ _ _ _ _ fun hc => h hc.2)

/-- What is wanted of an output goes by nothing that the outputs write or a trip leaves, but for the latched fault in its FORCED. -/
theorem Touches.boWanted (h : Touches P (Hid.boOc :: Touches.boFlds) s t)
    (hlatch : bit (t.rdAt Reg.BO_STATE_FORCED n) 2 = bit (s.rdAt Reg.BO_STATE_FORCED n) 2) : t.boWanted n = s.boWanted n := by
  have hdesired : t.boDesired n = s.boDesired n := by
    rw [State.boDesired, h.onAt (by decide), h.onAt (by decide), h.onAt (by decide), State.boDesired]
  have hforced : t.boForced n = s.boForced n := by
    rw [State.boForced, h.onAt (by decide), h.on (by decide), h.regionCut (by decide), hlatch, State.boForced]
  rw [State.boWanted, h.native (by decide), h.alive (by decide) (by decide), h.onAt (by decide), hdesired, hforced, State.boWanted]

/-- Nor does what blocks an output go by more, but for the outputs that are on. -/
theorem Touches.boBlocked (h : Touches [] [Reg.BO_STATE_FORCED, Hid.boOc] s t)
    (hlatch : ∀ m, bit (t.rdAt Reg.BO_STATE_FORCED m) 2 = bit (s.rdAt Reg.BO_STATE_FORCED m) 2) : t.boBlocked n = s.boBlocked n := by
  have hwant : ∀ m, t.boWanted m = s.boWanted m := fun m => (h.of (P := []) (by decide)).boWanted (hlatch m)
  simp (disch := decide) only [State.boBlocked, State.xlocked, hwant, h.onAt, h.rdAt]

theorem State.boShow_boWanted : (s.boShow m).boWanted n = s.boWanted n :=
  Touches.boWanted (P := []) (.of (by decide) Touches.boShow) State.boShow_latch

theorem State.boShow_boBlocked : (s.boShow m).boBlocked n = s.boBlocked n :=
  Touches.boBlocked (.of (by decide) Touches.boShow) fun _ => State.boShow_latch

/-- An output that is on and wanted stays on, and waits for nothing. -/
theorem State.boEval_of_on (hon : s.onAt Reg.BO_STATE_OUT n = true) (hwant : s.boWanted n = true) :
    s.boEval n due = (s.boShow n).wrAt Reg.BO_STATE_WAIT n 0 := by
  have hon' : (s.boShow n).onAt Reg.BO_STATE_OUT n = true := (Touches.boShow.onAt (by decide) n).trans hon
  exact (if_pos hon').trans (if_pos (State.boShow_boWanted.trans hwant))

/-- An output that is off, wanted, not blocked and not waiting after a trip turns on once its minimum time has run. -/
theorem State.boEval_of_off (hoff : s.onAt Reg.BO_STATE_OUT n = false) (hwant : s.boWanted n = true)
    (hoc : s.onAt Hid.boOc n = false) (hfree : s.boBlocked n = false) : s.boEval n true = (s.boShow n).boSwitch n true := by
  have hoff' : (s.boShow n).onAt Reg.BO_STATE_OUT n = false := (Touches.boShow.onAt (by decide) n).trans hoff
  have hoc' : (s.boShow n).onAt Hid.boOc n = false := (Touches.boShow.onAt (by decide) n).trans hoc
  have hwant' : (s.boShow n).boWanted n ≠ false := by simp [State.boShow_boWanted, hwant]
  have hfree' : (s.boShow n).boBlocked n = false := State.boShow_boBlocked.trans hfree
  exact (if_neg (Bool.eq_false_iff.mp hoff')).trans ((if_neg hwant').trans
    ((if_neg (not_or.mpr ⟨Bool.eq_false_iff.mp hoc', fun h => Bool.noConfusion h.1⟩)).trans (if_neg (Bool.eq_false_iff.mp hfree'))))

/-- An output that is off after a trip stays off (R242). -/
theorem State.boEval_of_tripped (hoff : s.rdAt Reg.BO_STATE_OUT n = 0) (hoc : s.onAt Hid.boOc n = true) :
    (s.boEval n due).rdAt Reg.BO_STATE_OUT n = 0 := by
  have hout : (s.boShow n).rdAt Reg.BO_STATE_OUT n = 0 := (Touches.boShow.rdAt (by decide) n).trans hoff
  have hoc' : (s.boShow n).onAt Hid.boOc n = true := (Touches.boShow.onAt (by decide) n).trans hoc
  have hoff' : (s.boShow n).onAt Reg.BO_STATE_OUT n ≠ true := fun h => by simp [State.onAt_iff.mp h] at hout
  have heval : s.boEval n due = if (s.boShow n).boWanted n = false then (s.boShow n).wrAt Reg.BO_STATE_WAIT n 0
      else (s.boShow n).boDefer n 2 := (if_neg hoff').trans (congrArg _ (if_pos (.inl hoc')))
  have hkeep : Touches [] [Reg.BO_STATE_WAIT] (s.boShow n) (s.boEval n due) := by
    rw [heval]
    exact .either (Touches.refl _).wrAt (Touches.refl _).countIf.wrAt
  exact (hkeep.rdAt (by decide) n).trans hout

/-! An output writes its own channel alone. -/

theorem State.boSwitch_rdAt_ne {v : Bool} (h : k ≠ n) : (s.boSwitch n v).rdAt f k = s.rdAt f k := by
  simp [State.boSwitch, State.wrsAt, State.rdAt_wrAt_ne, h]

theorem State.boDefer_rdAt_ne {w : Nat} (h : k ≠ n) : (s.boDefer n w).rdAt f k = s.rdAt f k := by
  simp [State.boDefer, State.rdAt_wrAt_ne, h]

theorem State.boEval_rdAt_ne (h : k ≠ n) : (s.boEval n due).rdAt f k = s.rdAt f k := by
  have hwr : ∀ (u : State) (g : Fld) (v : Nat), (u.wrAt g n v).rdAt f k = u.rdAt f k := fun u g v =>
    State.rdAt_wrAt_ne u g f n k v fun hc => h hc.2
  unfold State.boEval
  extract_lets u on want
  split_ifs <;> simp only [State.boSwitch_rdAt_ne h, State.boDefer_rdAt_ne h, hwr, u]

/-! A round of all outputs. -/

/-- What each output's following keeps, a round of all outputs keeps. -/
theorem State.boRefresh_keeps {Q : State → Prop} (hs : Q s) (h : ∀ t m, Q t → Q (t.boEval m false)) : Q s.boRefresh :=
  List.foldlRecOn _ _ (List.foldlRecOn _ _ hs fun t ht m _ => h t m ht) fun t ht m _ => h t m ht

/-- It leaves a tripped output off. -/
theorem State.boRefresh_of_tripped (hoff : s.rdAt Reg.BO_STATE_OUT n = 0) (hoc : s.onAt Hid.boOc n = true) :
    s.boRefresh.rdAt Reg.BO_STATE_OUT n = 0 := by
  refine (State.boRefresh_keeps (Q := fun t => t.rdAt Reg.BO_STATE_OUT n = 0 ∧ t.onAt Hid.boOc n = true) ⟨hoff, hoc⟩ ?_).1
  rintro t m ⟨hoff, hoc⟩
  refine ⟨?_, (Touches.boEval.onAt (by decide) n).trans hoc⟩
  by_cases h : n = m
  · exact h ▸ State.boEval_of_tripped hoff hoc
  · exact (State.boEval_rdAt_ne h).trans hoff

/-- It leaves an output on that is on and wanted, and that output waits for nothing. -/
theorem State.boRefresh_of_on (hon : s.rdAt Reg.BO_STATE_OUT n = 1) (hwait : s.rdAt Reg.BO_STATE_WAIT n = 0)
    (hwant : s.boWanted n = true) :
    s.boRefresh.rdAt Reg.BO_STATE_OUT n = 1 ∧ s.boRefresh.rdAt Reg.BO_STATE_WAIT n = 0 := by
  refine And.imp_right And.left (State.boRefresh_keeps (Q := fun t => t.rdAt Reg.BO_STATE_OUT n = 1 ∧
    t.rdAt Reg.BO_STATE_WAIT n = 0 ∧ t.boWanted n = true) ⟨hon, hwait, hwant⟩ ?_)
  rintro t m ⟨hon, hwait, hwant⟩
  by_cases h : n = m
  · subst h
    rw [State.boEval_of_on (State.onAt_iff.mpr hon) hwant]
    have hkeep : Touches [] [Reg.BO_STATE_WAIT] (t.boShow n) ((t.boShow n).wrAt Reg.BO_STATE_WAIT n 0) := (Touches.refl _).wrAt
    refine ⟨((Touches.boShow.andThen hkeep).rdAt (by decide) n).trans hon, State.rdAt_wrAt_same _ _ _ _, ?_⟩
    have hlatch := congrArg (bit · 2) (hkeep.rdAt (f := Reg.BO_STATE_FORCED) (by decide) n)
    exact ((hkeep.of (P := []) (by decide)).boWanted hlatch).trans (State.boShow_boWanted.trans hwant)
  · have hlatch := congrArg (bit · 2) (State.boEval_rdAt_ne (s := t) (f := Reg.BO_STATE_FORCED) (due := false) h)
    exact ⟨(State.boEval_rdAt_ne h).trans hon, (State.boEval_rdAt_ne h).trans hwait,
      ((Touches.boEval.of (P := []) (by decide)).boWanted hlatch).trans hwant⟩

/-! A switch. -/

theorem State.boSwitch_out {v : Bool} : (s.boSwitch n v).rdAt Reg.BO_STATE_OUT n = b2n v := by
  rw [State.boSwitch, State.count_rdAt, State.wrsAt, (Touches.refl _).wrsAt.rdAt (by decide), State.rdAt_wrAt_same]
  cases v <;> rfl

theorem State.boSwitch_wait {v : Bool} : (s.boSwitch n v).rdAt Reg.BO_STATE_WAIT n = 0 := by
  rw [State.boSwitch, State.count_rdAt, State.wrsAt, State.wrsAt, (Touches.refl _).wrsAt.rdAt (by decide), State.rdAt_wrAt_same]
  rfl

/-- An output that switches is wanted as it was: the latched fault stands. -/
theorem State.boSwitch_boWanted {v : Bool} : (s.boSwitch n v).boWanted n = s.boWanted n := by
  have h : Touches [] [Reg.BO_STATE_OUT, Reg.BO_STATE_WAIT, Reg.BO_STATE_ELAPSED, Hid.boMs] s (s.boSwitch n v) :=
    .of (by decide) (Touches.refl s).wrAt.wrAt.wrAt.wrAt.count
  exact (h.of (P := []) (by decide)).boWanted (congrArg (bit · 2) (h.rdAt (by decide) n))

end Sys2Proof.Machine
end

section
/-! Trips, restarts, minimum times and open load of the binary outputs (R242 to R244). -/

namespace Sys2Proof.Machine

variable {s : State} {n : Fin 6}

/-- The machine with output `n` tripped: off, flagged, and the trip recorded (R242). -/
def State.boTripped (s : State) (n : Nat) : State :=
  (((((s.boSwitch n false).or Reg.BO_FLAGS_OC (2 ^ n)).count 0x9F).wrAt Hid.boOcAt (2 * n + 1) (s.rdAt Hid.boOcAt (2 * n))).wrAt
    Hid.boOcAt (2 * n) (s.tick + 1)).wrAt Hid.boOc n 1

/-- A third trip's FAULT and the round of all outputs write neither the flag of the trip nor its wait, in which the output stays off. -/
theorem execBoOvercurrent_trips (hon : s.onAt Reg.BO_STATE_OUT n.val = true) : ∃ t, exec (.boOvercurrent n) s = .next t ∧
    t.rdAt Reg.BO_STATE_OUT n.val = 0 ∧ bit (t.rd Reg.BO_FLAGS_OC) n.val = true := by
  obtain ⟨x, hexec, hx⟩ : ∃ x, exec (.boOvercurrent n) s = fin x.boRefresh ∧
      Touches [] [Reg.BO_STATE_FORCED, Reg.BO_FLAGS_LATCH] (s.boTripped n.val) x := by
    change ∃ x : State, execBoOvercurrent n s = fin x.boRefresh ∧ _
    unfold execBoOvercurrent
    extract_lets k last prev now third t u
    exact ⟨_, if_neg (by simp [k, hon]), .of (by decide) ((Touches.refl _).whenB fun t => (Touches.refl t).orAt.or)⟩
  refine exists_of_eq_fin hexec ⟨?_, ?_⟩
  · rw [State.evcEdge_rdAt]
    refine State.boRefresh_of_tripped ?_ ?_
    · rw [hx.rdAt (by decide), State.boTripped, (Touches.refl _).or.count.wrAt.wrAt.wrAt.rdAt (by decide), State.boSwitch_out]
      rfl
    · rw [hx.onAt (by decide), State.onAt_iff]
      exact State.rdAt_wrAt_same _ _ _ _
  · rw [State.evcEdge_rd, Touches.boRefresh.rd (by decide), hx.rd (by decide), State.boTripped,
      (Touches.refl _).wrAt.wrAt.wrAt.rd (by decide), State.count_rd]
    exact State.bit_or_same n.isLt

theorem execBoOcRestart_turns_on (hoc : s.onAt Hid.boOc n.val = true) (hoff : s.onAt Reg.BO_STATE_OUT n.val = false)
    (hwant : s.boWanted n.val = true) (hfree : s.boBlocked n.val = false) : ∃ t, exec (.boOcRestart n) s = .next t ∧
      t.rdAt Reg.BO_STATE_OUT n.val = 1 ∧ t.rdAt Hid.boOc n.val = 0 := by
  have h : Touches [] [Hid.boOc] s (s.wrAt Hid.boOc n.val 0) := (Touches.refl s).wrAt
  have hlatch : ∀ m, bit ((s.wrAt Hid.boOc n.val 0).rdAt Reg.BO_STATE_FORCED m) 2 = bit (s.rdAt Reg.BO_STATE_FORCED m) 2 :=
    fun m => congrArg (bit · 2) (h.rdAt (by decide) m)
  have hexec : exec (.boOcRestart n) s = fin (((s.wrAt Hid.boOc n.val 0).boShow n.val).boSwitch n.val true) := by
    refine (if_pos hoc).trans (congrArg fin (State.boEval_of_off ?_ ?_ ?_ ?_))
    · exact (h.onAt (by decide) _).trans hoff
    · exact ((h.of (P := []) (by decide)).boWanted (hlatch n.val)).trans hwant
    · simp [State.onAt]
    · exact (Touches.boBlocked (h.of (by decide)) hlatch).trans hfree
  refine exists_of_eq_fin hexec ?_
  rw [State.evcEdge_rdAt, State.boSwitch_out, State.evcEdge_rdAt, (Touches.boShow.andThen .boSwitch).rdAt (by decide),
    State.rdAt_wrAt_same]
  exact ⟨rfl, rfl⟩

theorem execBoMinTimeExpiry_turns_on (hwait : s.rdAt Reg.BO_STATE_WAIT n.val ≠ 0) (hoc : s.onAt Hid.boOc n.val = false)
    (hoff : s.onAt Reg.BO_STATE_OUT n.val = false) (hwant : s.boWanted n.val = true) (hfree : s.boBlocked n.val = false) :
    ∃ t, exec (.boMinTimeExpiry n) s = .next t ∧ t.rdAt Reg.BO_STATE_OUT n.val = 1 ∧ t.rdAt Reg.BO_STATE_WAIT n.val = 0 := by
  have hexec : exec (.boMinTimeExpiry n) s = fin (((s.boShow n.val).boSwitch n.val true).boRefresh) :=
    (if_neg hwait).trans (congrArg (fun u : State => fin u.boRefresh) (State.boEval_of_off hoff hwant hoc hfree))
  refine exists_of_eq_fin hexec ?_
  rw [State.evcEdge_rdAt, State.evcEdge_rdAt]
  exact State.boRefresh_of_on State.boSwitch_out State.boSwitch_wait
    (State.boSwitch_boWanted.trans (State.boShow_boWanted.trans hwant))

theorem execBoOpenLoad_flags (hen : s.onAt Reg.BO_CFG_OPEN_EN n.val = true) (hon : s.onAt Reg.BO_STATE_OUT n.val = true) :
    ∃ t, exec (.boOpenLoad n) s = .next t ∧ bit (t.rd Reg.BO_FLAGS_OPEN) n.val = true := by
  refine exists_of_eq_fin (if_pos (by simp [hen, hon])) ?_
  rw [State.evcEdge_rd]
  exact State.bit_or_same n.isLt

/-- Settles O21: an output that is off and waits after its trip stays off through a round of all outputs, and one that is on and wanted
stays on. -/
theorem binaryOutputs : Obligations.BinaryOutputs :=
  ⟨fun _ _ => execBoOvercurrent_trips, fun _ _ => execBoOcRestart_turns_on, fun _ _ => execBoMinTimeExpiry_turns_on,
    fun _ _ => execBoOpenLoad_flags⟩

end Sys2Proof.Machine
end


section
/-! How the dampers and their scheduler read after the operations that change them (R234 to R241). -/

namespace Sys2Proof.Machine

variable {s t : State} {P : List Part} {L : List Fld} {d n v cause : Nat}

@[simp] theorem State.evcEdge_dst : s.evcEdge.dst d = s.dst d := by simp [State.dst]

/-- A change that does not write the states of the dampers leaves them. -/
theorem Touches.dst (h : Touches P L s t) (hL : Reg.DMP_STATE_STATE.id ∉ L.map Fld.id) : t.dst d = s.dst d := h.rdAt hL d

theorem State.dst_wrAt (hv : v < 8) : (s.wrAt Reg.DMP_STATE_STATE d v).dst d = v :=
  (State.rdAt_wrAt_same _ _ _ _).trans (Nat.mod_eq_of_lt hv)

/-- What a damper's target goes by (R234, R247). -/
def targetFlds : List Fld :=
  [Reg.DMP_MAN_MAN_EN, Reg.DMP_MAN_MAN_VALUE, Reg.DMP_TARGET_VALUE, Reg.DMP_TRAVEL_STEPS, Reg.DMP_CFG_MICRO]

theorem Touches.dmpTarget (h : Touches P L s t) (hL : ∀ f ∈ targetFlds, f.id ∉ L.map Fld.id) : t.dmpTarget d = s.dmpTarget d := by
  simp only [targetFlds, List.forall_mem_cons] at hL
  obtain ⟨hen, hman, hval, hsteps, hmicro, -⟩ := hL
  have hvalue : t.dmpValue d = s.dmpValue d := by
    rw [State.dmpValue, h.onAt hen, h.rdAt hman, h.rdAt hval, State.dmpValue]
  rw [State.dmpTarget, State.dmpTravel, h.rdAt hsteps, h.rdAt hmicro, hvalue, State.dmpTarget, State.dmpTravel]

theorem Touches.dmpLimit (h : Touches P L s t) (hL : ∀ f ∈ [Reg.DMP_SCHED_MAX_MOVING, Reg.THERM_STAT_LVL_DMP, Reg.DMP_SCHED_THR1,
    Reg.DMP_SCHED_THR2, Reg.DMP_SCHED_THR3], f.id ∉ L.map Fld.id) : t.dmpLimit = s.dmpLimit := by
  simp only [List.forall_mem_cons] at hL
  obtain ⟨hmax, hlvl, h1, h2, h3, -⟩ := hL
  simp only [State.dmpLimit]
  rw [h.rd hmax, h.rd hlvl]
  split
  · rfl
  · congr 1
    split_ifs
    · exact h.rd h1
    · exact h.rd h2
    · exact h.rd h3

/-! FAULT (R241). -/

theorem State.dmpFault_dst (hc : cause < 8) : (s.dmpFault d cause).dst d = 5 ∧
    (s.dmpFault d cause).rdAt Reg.DMP_STATE_CAUSE d = cause ∧ bit (s.dmpFault d cause).intCause 7 = true := by
  refine ⟨?_, ?_, State.bit_raise⟩
  · exact ((Touches.refl _).wrAt.wrAt.wrAt.raise.dst (by decide)).trans (State.dst_wrAt (by decide))
  · exact ((Touches.refl _).wrAt.wrAt.raise.rdAt (by decide) d).trans
      ((State.rdAt_wrAt_same _ _ _ _).trans (Nat.mod_eq_of_lt hc))

/-- A damper that faults with its flag set is in FAULT with that cause and raises DMP. -/
theorem exists_dmpFault {o : Out} {f : Fld} (hd : d < f.w) (hf : f.id ∉ Touches.dmpFaultFlds.map Fld.id) (hc : cause < 8)
    (ho : o = fin ((s.or f (2 ^ d)).dmpFault d cause)) : ∃ t, o = .next t ∧ t.dst d = 5 ∧ t.rdAt Reg.DMP_STATE_CAUSE d = cause ∧
      bit (t.rd f) d = true ∧ bit t.intCause 7 = true := by
  obtain ⟨hdst, hcause, hraised⟩ := State.dmpFault_dst (s := s.or f (2 ^ d)) (d := d) hc
  refine exists_of_eq_fin ho ⟨State.evcEdge_dst.trans hdst, (State.evcEdge_rdAt _ _ _).trans hcause, ?_, State.evcEdge_causes hraised⟩
  rw [State.evcEdge_rd, Touches.dmpFault.rd hf]
  exact State.bit_or_same hd

/-! The scheduler's lists (R239). -/

theorem DmpS.mem_remove_moving {q : DmpS} {p : Nat × Nat} (hp : p ∈ (q.remove d).moving) : p.2 ≠ d := by
  simpa using (List.mem_filter.mp hp).2

theorem DmpS.remove_stopping {q : DmpS} : (q.remove d).stopping.contains d = false := by
  simp [DmpS.remove]

theorem mem_insertStamp {p : Nat × Nat} {l : List (Nat × Nat)} : p ∈ insertStamp p l := by
  induction l with
  | nil => exact List.mem_singleton_self p
  | cons q l ih =>
    unfold insertStamp
    split
    · exact List.mem_cons_of_mem q ih
    · exact List.mem_cons_self

end Sys2Proof.Machine
end

section
/-! Dampers that move, stall and fail (R235 to R241). -/

namespace Sys2Proof.Machine

variable {s : State} {d : Fin 4} {n pos : Nat}

/-! The end of a move (R235). -/

theorem State.dmpEnd_dst : (s.dmpEnd n).dst n = 1 :=
  ((Touches.refl _).wrAt.wrAt.dst (by decide)).trans (State.dst_wrAt (by decide))

theorem State.dmpEnd_dmp : (s.dmpEnd n).dmp = s.dmp.remove n := rfl

/-- A shift over the whole gap puts a damper at its target. -/
theorem State.dmpShift_gap : (s.dmpShift n (s.dmpGap n)).rdAt Reg.DMP_POS_POS n = s.dmpTarget n % 2 ^ Reg.DMP_POS_POS.w := by
  have hsteps : ((s.rdAt Hid.dmpFrac n : Int) + s.dmpGap n).fdiv 2000000 = (s.dmpTarget n : Int) - s.rdAt Reg.DMP_POS_POS n := by
    rw [State.dmpGap, add_sub_cancel, Int.mul_fdiv_cancel _ (by decide)]
  have hpos : ((s.rdAt Reg.DMP_POS_POS n : Int) + ((s.rdAt Hid.dmpFrac n : Int) + s.dmpGap n).fdiv 2000000).toNat = s.dmpTarget n := by
    rw [hsteps]
    omega
  exact ((Touches.refl _).wrAt.wrAt.rdAt (by decide) n).trans ((State.rdAt_wrAt_same _ _ _ _).trans (by rw [hpos]))

theorem execDamperMoveDone_arrives (h : s.dst d.val = 3) : ∃ t, exec (.damperMoveDone d) s = .next t ∧ t.dst d.val = 1 ∧
    t.rdAt Reg.DMP_POS_POS d.val = s.dmpTarget d.val % 2 ^ Reg.DMP_POS_POS.w ∧ (∀ p ∈ t.dmp.moving, p.2 ≠ d.val) := by
  refine exists_of_eq_fin (if_neg (not_not.mpr h)) ⟨State.evcEdge_dst.trans State.dmpEnd_dst, ?_, ?_⟩
  · rw [State.evcEdge_rdAt, Touches.dmpEnd.rdAt (by decide), State.dmpShift_gap]
  · rw [State.evcEdge_dmp, State.dmpEnd_dmp]
    exact fun p => DmpS.mem_remove_moving

/-! A stall (R236, R237). -/

/-- The machine with damper `n` at the end stop that its homing looked for (R236). -/
def State.dmpStop (s : State) (n : Nat) : State :=
  (s.wrsAt n [(Reg.DMP_POS_POS, 0), (Hid.dmpFrac, 0), (Hid.dmpVel, 0), (Reg.DMP_STATE_POS_OK, 1), (Hid.dmpHome, 0)]).count 0x99

theorem execDamperStall_homed (hfast : s.rdAt Reg.DMP_STALL_STALL_MIN d.val * 1000 ≤ s.rdAt Hid.dmpVel d.val) (h : s.dst d.val = 4)
    (htarget : s.dmpTarget d.val = 0) : ∃ t, exec (.damperStall d) s = .next t ∧ t.dst d.val = 1 ∧
      t.rdAt Reg.DMP_POS_POS d.val = 0 ∧ t.rdAt Reg.DMP_STATE_POS_OK d.val = 1 := by
  have hstop : (s.dmpStop d.val).dmpTarget d.val = 0 := ((Touches.refl s).wrsAt.count.dmpTarget (by decide)).trans htarget
  have hexec : exec (.damperStall d) s = fin ((s.dmpStop d.val).dmpEnd d.val) :=
    (if_neg (Nat.not_lt.mpr hfast)).trans ((if_pos h).trans (congrArg fin (if_pos hstop)))
  refine exists_of_eq_fin hexec ⟨State.evcEdge_dst.trans State.dmpEnd_dst, ?_, ?_⟩
  · rw [State.evcEdge_rdAt, Touches.dmpEnd.rdAt (by decide), State.dmpStop, State.wrsAt, (Touches.refl _).wrsAt.count.rdAt (by decide),
      State.rdAt_wrAt_same]
    rfl
  · rw [State.evcEdge_rdAt, Touches.dmpEnd.rdAt (by decide)]
    exact ((Touches.refl _).wrAt.count.rdAt (by decide) d.val).trans (State.rdAt_wrAt_same _ _ _ _)

/-- The machine with a stall of damper `n` flagged (R237). -/
def State.dmpStallFlag (s : State) (n : Nat) : State := (s.or Reg.DMP_FLAGS_STALL (2 ^ n)).count 0x9A

theorem Touches.dmpStallFlag : Touches [] [Reg.DMP_FLAGS_STALL] s (s.dmpStallFlag n) := (refl s).or.count

theorem State.dmpLose_pos_ok (h : s.dst n = 3) : (s.dmpLose n).rdAt Reg.DMP_STATE_POS_OK n = 0 := by
  rw [State.dmpLose, if_pos (.inl h)]
  exact ((Touches.refl _).wrAt.rdAt (by decide) n).trans (State.rdAt_wrAt_same _ _ _ _)

theorem execDamperStall_homes_again (hfast : s.rdAt Reg.DMP_STALL_STALL_MIN d.val * 1000 ≤ s.rdAt Hid.dmpVel d.val)
    (h : s.dst d.val = 3) (hfirst : s.onAt Hid.dmpStalled d.val = false) : ∃ t, exec (.damperStall d) s = .next t ∧ t.dst d.val = 4 ∧
      t.rdAt Reg.DMP_STATE_POS_OK d.val = 0 ∧ bit (t.rd Reg.DMP_FLAGS_STALL) d.val = true := by
  have hexec : exec (.damperStall d) s = fin (((s.dmpStallFlag d.val).dmpLose d.val).wrsAt d.val
      [(Hid.dmpStalled, 1), (Hid.dmpVel, 0), (Reg.DMP_STATE_STATE, 4)]) :=
    (if_neg (Nat.not_lt.mpr hfast)).trans ((if_neg (by simp [h])).trans ((if_pos h).trans (if_neg (by simp [hfirst]))))
  refine exists_of_eq_fin hexec ⟨State.evcEdge_dst.trans (State.dst_wrAt (by decide)), ?_, ?_⟩
  · rw [State.evcEdge_rdAt, (Touches.refl _).wrsAt.rdAt (by decide)]
    exact State.dmpLose_pos_ok ((Touches.dmpStallFlag.dst (by decide)).trans h)
  · rw [State.evcEdge_rd, (Touches.dmpLose.wrsAt).rd (by decide), State.dmpStallFlag, State.count_rd]
    exact State.bit_or_same d.isLt

theorem execDamperStall_faults (hfast : s.rdAt Reg.DMP_STALL_STALL_MIN d.val * 1000 ≤ s.rdAt Hid.dmpVel d.val) (h : s.dst d.val = 3)
    (hagain : s.onAt Hid.dmpStalled d.val = true) : ∃ t, exec (.damperStall d) s = .next t ∧ t.dst d.val = 5 ∧
      t.rdAt Reg.DMP_STATE_CAUSE d.val = 2 ∧ bit t.intCause 7 = true := by
  have hexec : exec (.damperStall d) s = fin ((s.dmpStallFlag d.val).dmpFault d.val 2) :=
    (if_neg (Nat.not_lt.mpr hfast)).trans ((if_neg (by simp [h])).trans ((if_pos h).trans (if_pos hagain)))
  obtain ⟨hdst, hcause, hraised⟩ := State.dmpFault_dst (s := s.dmpStallFlag d.val) (d := d.val) (cause := 2) (by decide)
  exact exists_of_eq_fin hexec ⟨State.evcEdge_dst.trans hdst, (State.evcEdge_rdAt _ _ _).trans hcause, State.evcEdge_causes hraised⟩

theorem execDamperStall_slow (hslow : s.rdAt Hid.dmpVel d.val < s.rdAt Reg.DMP_STALL_STALL_MIN d.val * 1000) :
    ∃ t, exec (.damperStall d) s = .next t ∧ t.regs = s.regs ∧ t.dmp = s.dmp :=
  exists_of_eq_fin (if_pos hslow) ⟨State.evcEdge_regs s, State.evcEdge_dmp s⟩

/-! Failures (R236, R241). -/

theorem execDamperHomeFail_faults (h : s.dst d.val = 4) : ∃ t, exec (.damperHomeFail d) s = .next t ∧ t.dst d.val = 5 ∧
    t.rdAt Reg.DMP_STATE_CAUSE d.val = 1 ∧ bit (t.rd Reg.DMP_FLAGS_HOME_FAIL) d.val = true ∧ bit t.intCause 7 = true :=
  exists_dmpFault d.isLt (by decide) (by decide) (if_neg (not_not.mpr h))

theorem execDamperBridgeOvercurrent_faults (hactive : s.dmpActive = true) (h : s.dst d.val = 3 ∨ s.dst d.val = 4) :
    ∃ t, exec (.damperBridgeOvercurrent d) s = .next t ∧ t.dst d.val = 5 ∧ t.rdAt Reg.DMP_STATE_CAUSE d.val = 4 ∧
      bit (t.rd Reg.DMP_FLAGS_BRIDGE) d.val = true ∧ bit t.intCause 7 = true := by
  have hbridges : s.dmpBridges d.val = true := by
    rcases h with h | h <;> simp [State.dmpBridges, hactive, h]
  exact exists_dmpFault d.isLt (by decide) (by decide) (if_pos hbridges)

theorem execDamperOpenWinding_faults (h : s.dst d.val = 3 ∨ s.dst d.val = 4) :
    ∃ t, exec (.damperOpenWinding d) s = .next t ∧ t.dst d.val = 5 ∧ t.rdAt Reg.DMP_STATE_CAUSE d.val = 5 ∧
      bit (t.rd Reg.DMP_FLAGS_BRIDGE) d.val = true ∧ bit t.intCause 7 = true :=
  exists_dmpFault d.isLt (by decide) (by decide) (if_pos h)

/-! A preempted damper comes to rest (R239). -/

/-- The machine with damper `n` out of its slot and ahead of the queue, by its start stamp (R239). -/
def State.dmpYield (s : State) (n : Nat) : State :=
  let stamp := ((s.dmp.moving.find? fun p => p.2 == n).map fun p => p.1).getD 0
  { s.dmpOut n with dmp := { s.dmp.remove n with front := insertStamp (stamp, n) (s.dmp.remove n).front } }

theorem execDamperPreemptStop_yields (hstop : s.dmp.stopping.contains d.val = true) (hactive : s.dmpActive = true)
    (h : s.dst d.val = 3) : ∃ t, exec (.damperPreemptStop d pos) s = .next t ∧ t.dst d.val = 2 ∧
      t.rdAt Reg.DMP_POS_POS d.val = min pos (s.dmpTravel d.val) % 2 ^ Reg.DMP_POS_POS.w ∧
      t.dmp.front.any (fun p => p.2 == d.val) = true ∧ t.dmp.stopping.contains d.val = false := by
  have hexec : exec (.damperPreemptStop d pos) s = fin (((s.dmpYield d.val).wrsAt d.val
      [(Reg.DMP_POS_POS, min pos (s.dmpTravel d.val)), (Hid.dmpFrac, 0)]).wrAt Reg.DMP_STATE_STATE d.val 2) :=
    (if_neg (by simp [List.contains_iff_mem.mp hstop, hactive])).trans
      (congrArg (fun u : State => fin (u.wrAt Reg.DMP_STATE_STATE d.val 2)) (if_pos h))
  refine exists_of_eq_fin hexec ⟨State.evcEdge_dst.trans (State.dst_wrAt (by decide)), ?_, ?_, ?_⟩
  · rw [State.evcEdge_rdAt, State.wrsAt, (Touches.refl _).wrsAt.wrAt.rdAt (by decide), State.rdAt_wrAt_same]
  · rw [State.evcEdge_dmp]
    exact List.any_eq_true.mpr ⟨_, mem_insertStamp, beq_self_eq_true _⟩
  · rw [State.evcEdge_dmp]
    exact DmpS.remove_stopping

/-! The scheduler's tick (R239). -/

/-- What changes nothing for any of a list leaves the machine as it is. -/
theorem State.each_of_idle {α : Type} {l : List α} {f : State → α → State} (h : ∀ a ∈ l, f s a = s) : s.each l f = s := by
  induction l with
  | nil => rfl
  | cons a l ih => rw [State.each_cons, h a List.mem_cons_self, ih fun b hb => h b (List.mem_cons_of_mem a hb)]

/-- The machine with damper `n` in the queue (R239). -/
def State.dmpQueued (s : State) (n : Nat) : State :=
  ({ s with dmp := { s.dmp with queue := s.dmp.queue ++ [n] } } : State).wrAt Reg.DMP_STATE_STATE n 2

theorem Touches.dmpQueued : Touches [.dmp] [Reg.DMP_STATE_STATE] s (s.dmpQueued n) := (refl s).setDmp.wrAt

/-- What the queue's round does for damper `n` (R239). -/
def State.dmpJoinAt (s : State) (n : Nat) : State :=
  if s.dst n = 1 ∧ s.dmpNeeds n = true then s.dmpQueued n
  else if s.dst n = 2 ∧ s.dmpNeeds n = false then (s.dmpOut n).wrAt Reg.DMP_STATE_STATE n 1 else s

theorem State.dmpJoin_eq : s.dmpJoin = s.each (upTo 4) State.dmpJoinAt := rfl

/-- A damper that is neither idle nor queued is passed over. -/
theorem State.dmpJoinAt_of_busy (h : s.dst n ≠ 1 ∧ s.dst n ≠ 2) : s.dmpJoinAt n = s :=
  (if_neg fun hc => h.1 hc.1).trans (if_neg fun hc => h.2 hc.1)

/-- Where no other damper is idle or queued, the one that needs a slot joins the queue alone. -/
theorem State.dmpJoin_of_one (hn : n < 4) (hidle : s.dst n = 1) (hneeds : s.dmpNeeds n = true)
    (hothers : ∀ e < 4, e ≠ n → s.dst e ≠ 1 ∧ s.dst e ≠ 2) : s.dmpJoin = s.dmpQueued n := by
  obtain ⟨before, after, hsplit⟩ := List.append_of_mem (List.mem_range.mpr hn)
  have hother : ∀ e ∈ before ++ after, e < 4 ∧ e ≠ n := by
    have hnodup : (before ++ n :: after).Nodup := hsplit ▸ List.nodup_range
    have hmem : ∀ e ∈ before ++ n :: after, e < 4 := fun e he => List.mem_range.mp (hsplit ▸ he)
    obtain ⟨hnot, -⟩ := List.nodup_cons.mp (List.nodup_middle.mp hnodup)
    refine fun e he => ⟨hmem e ?_, fun h => hnot (h ▸ he)⟩
    rw [List.mem_append] at he ⊢
    exact he.imp_right (List.mem_cons_of_mem n)
  have hbusy : ∀ e ∈ before ++ after, s.dst e ≠ 1 ∧ s.dst e ≠ 2 := fun e he => hothers e (hother e he).1 (hother e he).2
  have hbusy' : ∀ e ∈ after, (s.dmpQueued n).dst e ≠ 1 ∧ (s.dmpQueued n).dst e ≠ 2 := by
    intro e he
    have hne : e ≠ n := (hother e (List.mem_append_right _ he)).2
    have hkeep : (s.dmpQueued n).dst e = s.dst e := State.rdAt_wrAt_ne _ _ _ _ _ _ fun hc => hne hc.2
    exact hkeep ▸ hbusy e (List.mem_append_right _ he)
  calc s.dmpJoin = (s.each before State.dmpJoinAt).each (n :: after) State.dmpJoinAt := by
        rw [State.dmpJoin_eq, upTo, hsplit, State.each, List.foldl_append, State.each, State.each]
    _ = s.each (n :: after) State.dmpJoinAt := by
        rw [State.each_of_idle fun e he => State.dmpJoinAt_of_busy (hbusy e (List.mem_append_left _ he))]
    _ = (s.dmpQueued n).each after State.dmpJoinAt := by rw [State.each_cons, State.dmpJoinAt, if_pos ⟨hidle, hneeds⟩]
    _ = s.dmpQueued n := State.each_of_idle fun e he => State.dmpJoinAt_of_busy (hbusy' e he)

/-- Without a damper that moves there is none to stop. -/
theorem State.dmpPreempt_of_none (h : s.dmp.moving = []) : s.dmpPreempt = s := by
  rw [State.dmpPreempt, h, List.reverse_nil, List.take_nil]
  show ({ s with dmp := { s.dmp with stopping := s.dmp.stopping ++ [] } } : State) = s
  rw [List.append_nil]

/-- An empty queue starts no damper. -/
theorem State.dmpFill_of_empty {fuel : Nat} (hfront : s.dmp.front = []) (hqueue : s.dmp.queue = []) : State.dmpFill fuel s = s := by
  cases fuel with
  | zero => rfl
  | succ fuel => simp [State.dmpFill, hfront, hqueue]

/-- A free slot goes to the head of the queue where no preempted damper waits. -/
theorem State.dmpFill_of_queue {fuel : Nat} {l : List Nat} (hfree : s.dmp.moving.length < s.dmpLimit) (hfront : s.dmp.front = [])
    (hqueue : s.dmp.queue = n :: l) : State.dmpFill (fuel + 1) s = State.dmpFill fuel (s.dmpStart n) := by
  rw [State.dmpFill, if_neg (Nat.not_le.mpr hfree), hfront, hqueue]

theorem State.dmpStart_dst : (s.dmpStart n).dst n =
    if s.onAt Reg.DMP_STATE_POS_OK n = false ∨ s.onAt Hid.dmpHome n = true then 4 else 3 := by
  refine ((Touches.refl _).wrAt.wrAt.wrAt.count.dst (by decide)).trans (State.dst_wrAt ?_)
  split <;> decide

theorem State.dmpStart_dmp : (s.dmpStart n).dmp = { s.dmp.remove n with
    moving := (s.dmp.remove n).moving ++ [(s.dmp.stamp, n)], stamp := s.dmp.stamp + 1 } := State.count_dmp _ _

theorem execDamperSchedTick_starts (hactive : s.dmpActive = true) (hmoving : s.dmp.moving = []) (hfront : s.dmp.front = [])
    (hqueue : s.dmp.queue = []) (hlimit : 1 ≤ s.dmpLimit) (hidle : s.dst d.val = 1) (hneeds : s.dmpNeeds d.val = true)
    (hothers : ∀ e : Nat, e < 4 → e ≠ d.val → s.dst e ≠ 1 ∧ s.dst e ≠ 2) :
    ∃ t, exec .damperSchedTick s = .next t ∧ t.dmp.moving = [(s.dmp.stamp, d.val)] ∧
      t.dst d.val = if s.onAt Reg.DMP_STATE_POS_OK d.val = false ∨ s.onAt Hid.dmpHome d.val = true then 4 else 3 := by
  have hq : (s.dmpQueued d.val).dmp = { s.dmp with queue := [d.val] } := by
    show ({ s.dmp with queue := s.dmp.queue ++ [d.val] } : DmpS) = _
    rw [hqueue, List.nil_append]
  have hstart : ((s.dmpQueued d.val).dmpStart d.val).dmp = { s.dmp.remove d.val with
      moving := [(s.dmp.stamp, d.val)], front := [], queue := [], stamp := s.dmp.stamp + 1 } := by
    rw [State.dmpStart_dmp, hq]
    simp [DmpS.remove, hmoving, hfront]
  have hfree : (s.dmpQueued d.val).dmp.moving.length < (s.dmpQueued d.val).dmpLimit := by
    rw [Touches.dmpQueued.dmpLimit (by decide), hq, hmoving]
    exact hlimit
  have hexec : exec .damperSchedTick s = fin ((s.dmpQueued d.val).dmpStart d.val) := by
    refine (if_pos hactive).trans (congrArg fin ?_)
    rw [State.dmpJoin_of_one d.isLt hidle hneeds hothers, State.dmpPreempt_of_none (by rw [hq, hmoving]),
      State.dmpFill_of_queue hfree (by rw [hq, hfront]) (by rw [hq]), State.dmpFill_of_empty (by rw [hstart]) (by rw [hstart])]
  refine exists_of_eq_fin hexec ⟨?_, ?_⟩
  · rw [State.evcEdge_dmp, hstart]
  · rw [State.evcEdge_dst, State.dmpStart_dst, Touches.dmpQueued.onAt (by decide), Touches.dmpQueued.onAt (by decide)]

/-! The feedback check (R238). -/

theorem fbOf_lt (x lo hi : Nat) : fbOf x lo hi < 2 ^ 16 := by
  unfold fbOf clampI
  extract_lets n q
  split_ifs <;> omega

theorem execDamperFeedbackCheck_shows (hdue : s.onAt Hid.dmpFb d.val = true) (hen : s.onAt Reg.DMP_CFG_FB_EN d.val = true)
    (hactive : s.dmpActive = true) (hvalid : s.onAt Reg.UI_VALUE_VALID (s.rdAt Reg.DMP_CFG_FB_IN d.val) = true)
    (htol : absDiff (fbOf (s.rdAt Reg.UI_VALUE_VALUE (s.rdAt Reg.DMP_CFG_FB_IN d.val)) (s.rdAt Reg.DMP_FB_FB_LO d.val)
      (s.rdAt Reg.DMP_FB_FB_HI d.val)) (s.dmpValue d.val) ≤ s.rdAt Reg.DMP_FB_TOL_TOL d.val) :
    ∃ t, exec (.damperFeedbackCheck d) s = .next t ∧ t.rdAt Reg.DMP_FBPOS_FB_VALID d.val = 1 ∧ t.dst d.val = s.dst d.val ∧
      t.rdAt Reg.DMP_FBPOS_FB_POS d.val = fbOf (s.rdAt Reg.UI_VALUE_VALUE (s.rdAt Reg.DMP_CFG_FB_IN d.val))
        (s.rdAt Reg.DMP_FB_FB_LO d.val) (s.rdAt Reg.DMP_FB_FB_HI d.val) := by
  have hdone : ¬ (s.onAt Hid.dmpFb d.val = false ∨ s.onAt Reg.DMP_CFG_FB_EN d.val = false ∨ s.dmpActive = false) := by
    simp [hdue, hen, hactive]
  refine exists_of_eq_fin ((if_neg hdone).trans ((if_neg (by simp [hvalid])).trans (if_pos htol))) ⟨?_, ?_, ?_⟩
  · rw [State.evcEdge_rdAt, (Touches.refl _).wrAt.rdAt (by decide)]
    exact State.rdAt_wrAt_same _ _ _ _
  · exact State.evcEdge_dst.trans ((Touches.refl s).wrAt.wrAt.wrAt.wrAt.dst (by decide))
  · rw [State.evcEdge_rdAt, State.wrsAt, (Touches.refl _).wrsAt.wrAt.rdAt (by decide), State.rdAt_wrAt_same]
    exact Nat.mod_eq_of_lt (fbOf_lt _ _ _)

/-- Settles O23: each command comes down to one entry of the damper's state, whose effect on its position, its flags and the scheduler's
lists is known. -/
theorem damperRuns : Obligations.DamperRuns := by
  unfold Obligations.DamperRuns
  exact ⟨fun _ _ => execDamperSchedTick_starts, fun _ _ => execDamperMoveDone_arrives, fun _ _ => execDamperStall_homed,
    fun _ _ => execDamperStall_homes_again, fun _ _ => execDamperStall_faults, fun _ _ => execDamperStall_slow,
    fun _ _ _ => execDamperPreemptStop_yields, fun _ _ => execDamperHomeFail_faults, fun _ _ => execDamperBridgeOvercurrent_faults,
    fun _ _ => execDamperOpenWinding_faults, fun _ _ => execDamperFeedbackCheck_shows⟩

end Sys2Proof.Machine
end

section
/-! The samples of the die sensors, their failures and their return (R254 to R268). -/

namespace Sys2Proof.Machine

variable {s t : State} {P : List Part} {L : List Fld} {i j : Nat} {n : Fin 8} {x : Int} {l : List Int}

theorem Touches.tsFailed (h : Touches P L s t) (hL : Reg.TS_STATE_FAILED.id ∉ L.map Fld.id) (i : Nat) : t.tsFailed i = s.tsFailed i :=
  h.onAt hL i

theorem Touches.tsUsables (h : Touches P L s t) (hL : ∀ f ∈ [Reg.TS_STATE_FAILED, Hid.tsAt, Hid.tick], f.id ∉ L.map Fld.id) (i : Nat) :
    t.tsUsables i = s.tsUsables i := by
  have htick : t.tick = s.tick := h.rd (hL _ (by simp))
  refine List.filter_congr fun j _ => ?_
  simp only [State.tsUsable, h.tsFailed (hL _ (by simp)), h.rdAt (hL Hid.tsAt (by simp)), htick]

theorem Touches.thermRefresh_after (h : Touches P L s t) : Touches (P ++ [.dmp, .rgn]) (L ++ Touches.thermFlds) s t.thermRefresh :=
  h.andThen .thermRefresh

/-! A sample of a sensor (R254, R259). -/

/-- The machine in which a sample of a sensor is its latest one. -/
def State.tsTaken (s : State) (i : Nat) (x : Int) : State :=
  (s.wrsAt i [(Hid.tsLast, ofI 16 x), (Hid.tsAt, s.tick + 1), (Reg.TS_VALUE_VALID, 1)]).count 0x70

theorem Touches.tsTaken : Touches [] [Reg.TS_VALUE_VALID, Hid.tsAt, Hid.tsLast] s (s.tsTaken i x) := (refl s).wrAt.wrAt.wrAt.count

theorem State.tsTaken_valid : (s.tsTaken i x).rdAt Reg.TS_VALUE_VALID i = 1 :=
  ((Touches.refl _).count.rdAt (by decide) i).trans (State.rdAt_wrAt_same _ _ _ _)

theorem ne_of_mem_tsNeighbours (h : j ∈ tsNeighbours i) : j ≠ i := by
  rintro rfl
  have hno : ∀ k < 8, k ∉ tsNeighbours k := by decide
  by_cases hj : j < 8
  · exact hno j hj h
  · rw [tsNeighbours, List.getD_eq_default _ _ (Nat.le_of_not_lt hj)] at h
    exact List.not_mem_nil h

/-- A sensor's own sample makes none of its neighbours usable or unusable. -/
theorem State.tsTaken_tsUsables : (s.tsTaken i x).tsUsables i = s.tsUsables i := by
  refine List.filter_congr fun j hj => ?_
  have hage : (s.tsTaken i x).rdAt Hid.tsAt j = s.rdAt Hid.tsAt j := by
    rw [State.tsTaken, (Touches.refl _).count.rdAt (by decide), State.wrsAt, State.wrsAt, (Touches.refl _).wrsAt.rdAt (by decide),
      State.rdAt_wrAt_ne _ _ _ _ _ _ fun h => ne_of_mem_tsNeighbours hj h.2, (Touches.refl s).wrAt.rdAt (by decide)]
  have htick : (s.tsTaken i x).tick = s.tick := Touches.tsTaken.rd (by decide)
  simp only [State.tsUsable, Touches.tsTaken.tsFailed (by decide), hage, htick]

/-- The machine that feeds the samples it held of a sensor to the thresholds, and then a new one that it does not hold. -/
def State.tsFedAll (s : State) (i : Nat) (l : List Int) (x : Int) : State :=
  ((((l.foldl (fun t h => t.tsFeed i h false) s).setHeld i []).wrAt Reg.TS_STATE_XCNT i 0).tsFeed i x false).tsRate i x false

theorem Touches.tsFedAll : Touches [.dmp, .rgn] (feedFlds ++ [Hid.tsHeld, Hid.tsHeldN, Reg.TS_STATE_XCNT, Reg.TS_STATE_FAST, Hid.tsCalm]) s
    (s.tsFedAll i l x) :=
  of (by decide) (((((foldl (refl s) fun _ _ => tsFeed).andThen setHeld).wrAt).andThen tsFeed).andThen tsRate)

/-- TS_VALUE shows the sample fed last. -/
theorem State.tsFeed_value {subst : Bool} : (s.tsFeed i x subst).rdAt Reg.TS_VALUE_T i = ofI 16 x := by
  unfold State.tsFeed
  extract_lets t
  have ht : t.rdAt Reg.TS_VALUE_T i = ofI 16 x := by
    refine ((Touches.refl _).wrAt.rdAt (by decide) i).trans ?_
    exact (State.rdAt_wrAt_same _ _ _ _).trans (Nat.mod_eq_of_lt (ofI_lt 16 x))
  have hmax := (Touches.refl t).wrI (f := Reg.TS_MAX_TMAX) (ch := i) (v := x)
  rw [(Touches.branch hmax (.refl t)).thermRefresh_after.rdAt (by decide), ht]

theorem State.tsFedAll_value : (s.tsFedAll i l x).rdAt Reg.TS_VALUE_T i = ofI 16 x :=
  (Touches.tsRate.rdAt (by decide) i).trans State.tsFeed_value

/-- A sample without a usable neighbour goes to the thresholds, with NOCHECK. -/
theorem State.tsSample_unchecked (hfailed : s.tsFailed i = false) (hnone : s.tsUsables i = []) :
    s.tsSample i x = ((s.tsTaken i x).wrAt Reg.TS_STATE_NOCHECK i 1).tsFedAll i ((s.tsTaken i x).tsHeldList i) x := by
  have hempty : ((s.tsTaken i x).tsUsables i).isEmpty = true := by rw [State.tsTaken_tsUsables, hnone, List.isEmpty_nil]
  exact (if_neg (by simp [hfailed])).trans (if_pos hempty)

theorem execThermalSample_slow (hon : s.thermOn = true) (hslow : s.onAt Reg.TS_STATE_FAST n.val = false)
    (hnew : s.onAt Hid.tsNew n.val = true) :
    exec (.thermalSample n) s = fin ((s.wrAt Hid.tsNew n.val 0).tsSample n.val (s.rdI Hid.tsGot n.val)) :=
  (if_neg (by simp [hon])).trans ((if_neg (by simp [hslow])).trans (if_pos hnew))

theorem execThermalSample_unchecked (hon : s.thermOn = true) (hfailed : s.tsFailed n.val = false)
    (hslow : s.onAt Reg.TS_STATE_FAST n.val = false) (hnew : s.onAt Hid.tsNew n.val = true) (hnone : s.tsUsables n.val = []) :
    ∃ t, exec (.thermalSample n) s = .next t ∧ t.rdAt Reg.TS_VALUE_T n.val = ofI 16 (s.rdI Hid.tsGot n.val) ∧
      t.rdAt Reg.TS_VALUE_VALID n.val = 1 ∧ t.rdAt Reg.TS_STATE_NOCHECK n.val = 1 := by
  have htaken : Touches [] [Hid.tsNew] s (s.wrAt Hid.tsNew n.val 0) := (Touches.refl s).wrAt
  have hnone' : (s.wrAt Hid.tsNew n.val 0).tsUsables n.val = [] := by rw [htaken.tsUsables (by decide), hnone]
  have hsample := State.tsSample_unchecked (x := s.rdI Hid.tsGot n.val) (hfailed ▸ htaken.tsFailed (by decide) n.val) hnone'
  refine exists_of_eq_fin ((execThermalSample_slow hon hslow hnew).trans (congrArg fin hsample)) ⟨?_, ?_, ?_⟩
  · rw [State.evcEdge_rdAt, State.tsFedAll_value]
  · rw [State.evcEdge_rdAt, Touches.tsFedAll.rdAt (by decide), (Touches.refl _).wrAt.rdAt (by decide), State.tsTaken_valid]
  · rw [State.evcEdge_rdAt, Touches.tsFedAll.rdAt (by decide), State.rdAt_wrAt_same]
    rfl

/-! The requests of the sensors at the fast rate (R254). -/

/-- With one sensor at the fast rate and none failed, its request is issued, and no substitute is fed. -/
theorem execThermalFastStep_one (hon : s.thermOn = true) (hgood : ∀ j : Nat, j < 8 → s.tsFailed j = false)
    (hfast : ∀ j : Nat, j < 8 → (s.onAt Reg.TS_STATE_FAST j = true ↔ j = n.val)) :
    exec .thermalFastStep s = fin ((s.wrAt Hid.tsNew n.val 0).urgIssue .therm (54 + n.val) none) := by
  have hrequests : (upTo 8).filter (fun j => s.onAt Reg.TS_STATE_FAST j && !s.tsFailed j) = [n.val] := by
    have hone : (upTo 8).filter (fun j => j == n.val) = [n.val] := by
      clear hfast
      revert n
      decide
    refine (List.filter_congr fun j hj => ?_).trans hone
    have hj := List.mem_range.mp hj
    rw [Bool.eq_iff_iff]
    simp [hgood j hj, hfast j hj]
  have htouch : Touches [.convs, .urgMore, .cals, .xchks] (Hid.tsNew :: Touches.dropFlds) s
      ((s.wrAt Hid.tsNew n.val 0).urgIssue .therm (54 + n.val) none) := .of (by decide) ((Touches.refl s).wrAt.andThen .urgIssue)
  have hnone : (upTo 8).filter ((s.wrAt Hid.tsNew n.val 0).urgIssue .therm (54 + n.val) none).tsFailed = [] :=
    List.filter_eq_nil_iff.mpr fun j hj => by rw [htouch.tsFailed (by decide), hgood j (List.mem_range.mp hj)]; decide
  refine (if_neg (by simp [hon])).trans (congrArg fin ?_)
  rw [hrequests]
  exact congrArg _ hnone

theorem execThermalFastStep_requests (hon : s.thermOn = true) (hgood : ∀ j : Nat, j < 8 → s.tsFailed j = false)
    (hfast : ∀ j : Nat, j < 8 → (s.onAt Reg.TS_STATE_FAST j = true ↔ j = n.val)) (hbusy : s.urgBusy .therm = true) :
    ∃ t, exec .thermalFastStep s = .next t ∧ t.urgMore = s.urgMore ++ [⟨.therm, 54 + n.val, 3⟩] :=
  exists_of_eq_fin (execThermalFastStep_one hon hgood hfast)
    ((State.evcEdge_urgMore _).trans (State.urgIssue_therm_waits (s := s.wrAt Hid.tsNew n.val 0) hbusy))

/-! A sensor fails (R260, R262), and the hold ends (R264). -/

/-- An exclusion marks the sensor failed with its cause, starts the hold and raises the thermal cause. -/
theorem State.tsExclude_fails {cause : Nat} : (s.tsExclude i cause).rdAt Reg.TS_STATE_FAILED i = 1 ∧
    (s.tsExclude i cause).rdAt Reg.TS_STATE_CAUSE i = cause % 4 ∧ (s.tsExclude i cause).rd Reg.THERM_STAT_HOLD = 1 ∧
    bit (s.tsExclude i cause).intCause 4 = true := by
  unfold State.tsExclude
  extract_lets t u v
  have hu : Touches [] [Hid.tsHeld, Hid.tsHeldN, Reg.THERM_STAT_HOLD, Reg.THERM_FLAGS_EXCLUDE] t u :=
    .of (by decide) ((Touches.refl t).andThen .setHeld).wr.wr.count
  have hv : Touches [] [Hid.tsHeld, Hid.tsHeldN, Reg.TS_STATE_XCNT, Reg.TS_STATE_FAST] u v :=
    .of (by decide) (.each (.refl u) fun _ _ => Touches.setHeld.wrAt.wrAt)
  have hend := (hv.wr (f := Reg.THERM_STAT_NONE_LEFT) (v := b2n ((upTo 8).all v.tsFailed))).raise (n := 4) |>.thermRefresh_after
  have hhold : u.rd Reg.THERM_STAT_HOLD = 1 := by
    refine ((Touches.refl _).wr.count.rd (by decide)).trans ?_
    exact State.rd_wr_same _ _ _
  refine ⟨?_, ?_, ?_, Touches.thermRefresh.causes 4 State.bit_raise⟩
  · rw [(hu.andThen hend).rdAt (by decide)]
    exact ((Touches.refl _).wrAt.wrAt.rdAt (by decide) i).trans (State.rdAt_wrAt_same _ _ _ _)
  · rw [(hu.andThen hend).rdAt (by decide)]
    exact ((Touches.refl _).wrAt.rdAt (by decide) i).trans (State.rdAt_wrAt_same _ _ _ _)
  · rw [hend.rd (by decide), hhold]

theorem execThermalNodata_fails (hon : s.thermOn = true) (hgood : s.tsFailed n.val = false) :
    ∃ t, exec (.thermalNodata n) s = .next t ∧ t.rdAt Reg.TS_STATE_FAILED n.val = 1 ∧ t.rdAt Reg.TS_STATE_CAUSE n.val = 3 ∧
      t.rd Reg.THERM_STAT_HOLD = 1 ∧ bit t.intCause 4 = true := by
  obtain ⟨hfailed, hcause, hhold, hraised⟩ := State.tsExclude_fails (s := s) (i := n.val) (cause := 3)
  refine exists_of_eq_fin (if_neg (by simp [hon, hgood])) ⟨?_, ?_, ?_, State.evcEdge_causes hraised⟩
  · rw [State.evcEdge_rdAt, hfailed]
  · rw [State.evcEdge_rdAt, hcause]
  · rw [State.evcEdge_rd, hhold]

/-- The machine that leaves a threshold, told by its number, where the end of the hold finds its down run at 3. -/
def State.tsLeaveDue (s : State) (j : Nat) : State :=
  if bit (s.rdAt Reg.TS_STATE_ENTERED (j / 5)) (j % 5) && s.rdAt Hid.tsDn j == 3 then (s.tsLeave (j / 5) (j % 5)).count 0x7C else s

theorem Touches.tsLeaveDue : Touches [] [Reg.TS_STATE_ENTERED] s (s.tsLeaveDue j) := of (by decide) (branch tsLeave.count (refl s))

theorem execThermalHoldEnd_held (hhold : ¬ s.on Reg.THERM_STAT_HOLD = false) :
    exec .thermalHoldEnd s = fin ((s.wr Reg.THERM_STAT_HOLD 0).each (upTo 40) State.tsLeaveDue).thermRefresh := if_neg hhold

theorem execThermalHoldEnd_ends : ∃ t, exec .thermalHoldEnd s = .next t ∧ t.on Reg.THERM_STAT_HOLD = false := by
  by_cases hidle : s.on Reg.THERM_STAT_HOLD = false
  · exact exists_of_eq_fin (if_pos hidle) (State.evcEdge_on.trans hidle)
  · have hleft := ((Touches.refl (s.wr Reg.THERM_STAT_HOLD 0)).each (l := upTo 40) (f := State.tsLeaveDue) fun _ _ => .tsLeaveDue).thermRefresh_after
    exact exists_of_eq_fin (execThermalHoldEnd_held hidle) (State.evcEdge_on.trans ((hleft.on (by decide)).trans State.on_wr_same))

/-! The powers of the regions (R259). -/

theorem tenMilliwatts_lt (k : Nat) : tenMilliwatts k < 256 := by
  rw [tenMilliwatts, capN_eq_min]
  omega

theorem State.regionPower_lt (currents : List Nat) (k : Nat) : s.regionPower currents k < 256 := tenMilliwatts_lt _

theorem execThermalPowerEstimate_shows {currents : List Nat} (hon : s.thermOn = true) :
    ∃ t, exec (.thermalPowerEstimate currents) s = .next t ∧ t.rd Reg.THERM_PWR0_P2 = s.regionPower currents 2 ∧
      t.rd Reg.THERM_PWR0_P3 = s.regionPower currents 3 ∧ t.rd Reg.THERM_PWR0_P4 = s.regionPower currents 4 ∧
      t.rd Reg.THERM_PWR0_P5 = s.regionPower currents 5 ∧ t.rd Reg.THERM_PWR1_P6 = s.regionPower currents 6 := by
  have hshown : ∀ (u : State) (f : Fld) (k : Nat), f.w = 8 →
      (u.wr f (s.regionPower currents k)).rd f = s.regionPower currents k := fun u f k hw =>
    (State.rd_wr_same u f _).trans (by rw [hw]; exact Nat.mod_eq_of_lt (State.regionPower_lt currents k))
  refine exists_of_eq_fin (if_neg (by simp [hon])) ?_
  simp (disch := decide) only [State.evcEdge_rd, State.wrs, State.rd_wr_ne, hshown, and_self]

/-! The end of a READMIT (R265). -/

/-- The code is farther than 5 °C from the expectation. -/
def State.tsAstray (s : State) (i : Nat) : Prop :=
  640 * ((s.tsExpect i).2 : Int) < ((s.tsUrgTemp i * (s.tsExpect i).2 - (s.tsExpect i).1).natAbs : Int)

/-- Without a code, without an expectation or too far from it, the sensor is left as it is, with RESULT 3. -/
theorem execThermReadmitResult_refuses (hreadmit : s.onAt Hid.tsReadmit n.val = true)
    (h : s.onAt Hid.tsUrgNew n.val = false ∨ (s.tsUsables n.val).isEmpty = true ∨ s.tsAstray n.val) :
    ∃ t, exec (.thermReadmitResult n) s = .next t ∧ t.rd Reg.THERM_CMD_STAT_RESULT = 3 ∧
      t.rdAt Reg.TS_STATE_FAILED n.val = s.rdAt Reg.TS_STATE_FAILED n.val ∧
      t.rdAt Reg.TS_STATE_CAUSE n.val = s.rdAt Reg.TS_STATE_CAUSE n.val := by
  refine exists_of_eq_fin ((if_neg (by simp [hreadmit])).trans (if_pos h)) ⟨?_, ?_, ?_⟩
  · exact (State.evcEdge_rd _ _).trans (State.rd_wr_same _ _ _)
  · exact (Touches.refl s).wrAt.wrAt.wr.evcEdge.rdAt (by decide) _
  · exact (Touches.refl s).wrAt.wrAt.wr.evcEdge.rdAt (by decide) _

/-- The machine in which a sensor is as before its failure, with nothing counted or held of it. -/
def State.tsReinstated (s : State) (i : Nat) : State :=
  ((s.wrsAt i [(Reg.TS_STATE_FAILED, 0), (Reg.TS_STATE_CAUSE, 0), (Reg.TS_STATE_XCNT, 0), (Hid.tsCalm, 0)]).setHeld i []).each (upTo 5)
    fun t k => (t.wrAt Hid.tsUp (5 * i + k) 0).wrAt Hid.tsDn (5 * i + k) 0

theorem State.tsReinstated_good : (s.tsReinstated i).rdAt Reg.TS_STATE_FAILED i = 0 ∧ (s.tsReinstated i).rdAt Reg.TS_STATE_CAUSE i = 0 := by
  have hruns : ∀ u : State, Touches [] [Hid.tsHeld, Hid.tsHeldN, Hid.tsUp, Hid.tsDn] u ((u.setHeld i []).each (upTo 5)
      fun t k => (t.wrAt Hid.tsUp (5 * i + k) 0).wrAt Hid.tsDn (5 * i + k) 0) := fun u =>
    .of (by decide) (Touches.setHeld.each fun t _ => (Touches.refl t).wrAt.wrAt)
  constructor
  · refine ((hruns _).rdAt (by decide) i).trans (((Touches.refl _).wrAt.wrAt.wrAt.rdAt (by decide) i).trans ?_)
    exact State.rdAt_wrAt_same _ _ _ _
  · refine ((hruns _).rdAt (by decide) i).trans (((Touches.refl _).wrAt.wrAt.rdAt (by decide) i).trans ?_)
    exact State.rdAt_wrAt_same _ _ _ _

/-- The machine that answers RESULT 1, and whose rates, levels and CUTs follow. -/
def State.tsReadmits (s : State) : State :=
  ((s.wrs [(Reg.THERM_CMD_STAT_RESULT, 1), (Reg.THERM_STAT_NONE_LEFT, 0)]).count 0x7B).fastBesideFailed.thermRefresh

/-- Once the answer stands, what follows leaves it and the sensor's failure alone. -/
theorem Touches.tsReadmits_answered : Touches [.dmp, .rgn] ([Reg.THERM_STAT_NONE_LEFT, Reg.TS_STATE_FAST] ++ thermFlds)
    (s.wr Reg.THERM_CMD_STAT_RESULT 1) s.tsReadmits := of (by decide) ((refl _).wr.count.andThen fastBesideFailed).thermRefresh_after

theorem Touches.tsReadmits : Touches [.dmp, .rgn] ([Reg.THERM_CMD_STAT_RESULT, Reg.THERM_STAT_NONE_LEFT, Reg.TS_STATE_FAST] ++ thermFlds) s
    s.tsReadmits := of (by decide) ((refl s).wr.andThen tsReadmits_answered)

theorem State.tsReadmits_result : s.tsReadmits.rd Reg.THERM_CMD_STAT_RESULT = 1 :=
  (Touches.tsReadmits_answered.rd (by decide)).trans (State.rd_wr_same _ _ _)

/-- Within 5 °C of the expectation the sensor is readmitted, with RESULT 1. -/
theorem execThermReadmitResult_readmits (hreadmit : s.onAt Hid.tsReadmit n.val = true) (hnew : s.onAt Hid.tsUrgNew n.val = true)
    (hsome : s.tsUsables n.val ≠ []) (hnear : ¬ s.tsAstray n.val) :
    ∃ t, exec (.thermReadmitResult n) s = .next t ∧ t.rdAt Reg.TS_STATE_FAILED n.val = 0 ∧ t.rdAt Reg.TS_STATE_CAUSE n.val = 0 ∧
      t.rd Reg.THERM_CMD_STAT_RESULT = 1 := by
  have hfit : ¬ (s.onAt Hid.tsUrgNew n.val = false ∨ (s.tsUsables n.val).isEmpty = true ∨ s.tsAstray n.val) := by
    simp [hnew, hsome, hnear]
  have hexec : exec (.thermReadmitResult n) s =
      fin (((s.wrAt Hid.tsReadmit n.val 0).wrAt Hid.tsUrgNew n.val 0).tsReinstated n.val).tsReadmits :=
    (if_neg (by simp [hreadmit])).trans (if_neg hfit)
  obtain ⟨hfailed, hcause⟩ := State.tsReinstated_good (s := (s.wrAt Hid.tsReadmit n.val 0).wrAt Hid.tsUrgNew n.val 0) (i := n.val)
  refine exists_of_eq_fin hexec ⟨?_, ?_, (State.evcEdge_rd _ _).trans State.tsReadmits_result⟩
  · rw [State.evcEdge_rdAt, Touches.tsReadmits.rdAt (by decide), hfailed]
  · rw [State.evcEdge_rdAt, Touches.tsReadmits.rdAt (by decide), hcause]

/-- Settles O9: each command comes down to one operation on the sensor, which writes what the statement reads, and what follows it (the
block levels and the CUTs) touches none of that. -/
theorem thermalSamplesAndFailures : Obligations.ThermalSamplesAndFailures := by
  unfold Obligations.ThermalSamplesAndFailures
  refine ⟨fun _ _ => execThermalSample_unchecked, fun _ _ => execThermalFastStep_requests, fun _ _ => execThermalNodata_fails,
    fun _ => execThermalHoldEnd_ends, fun _ _ => execThermalPowerEstimate_shows,
    fun s i hreadmit hnew hsome hnear => execThermReadmitResult_readmits hreadmit hnew hsome (not_lt.mpr hnear),
    fun s i hreadmit hnew => ?_, fun s i hreadmit hfar => execThermReadmitResult_refuses hreadmit (.inr (.inr hfar))⟩
  obtain ⟨t, ht, hresult, hfailed, -⟩ := execThermReadmitResult_refuses hreadmit (.inl hnew)
  exact ⟨t, ht, hresult, hfailed⟩

end Sys2Proof.Machine
end

section
/-! What the calendar clock, its alarms and the schedule engine touch (R272 to R274, R279 to R282, R289 to R293). -/

namespace Sys2Proof.Machine

variable {s : State} {n e z : Nat}

namespace Touches

/-- What a change of a zone's scheduled set writes (R291). -/
def zoneFlds : List Fld := [Reg.ZONE_STATE_SCHED_SET, Reg.ZONE_STATE_SET, Hid.wakeSched]

theorem zoneSet {set} : Touches [] zoneFlds s (s.zoneSet z set) := .of (by decide) ((refl s).wrAt.andThen zoneApply)

theorem schedNoTime : Touches [] (Reg.SCHED_STAT_NOTIME :: zoneFlds) s s.schedNoTime :=
  .of (by decide) (branch ((refl s).wr.each fun _ _ => zoneSet) (refl s))

theorem setOsf : Touches [] (Reg.RTC_STAT_OSF :: Reg.SCHED_STAT_NOTIME :: zoneFlds) s s.setOsf :=
  .of (by decide) (branch (refl s) ((refl s).wr.count.andThen schedNoTime))

theorem setSchedLog {P : List Part} {L : List Fld} {m s : State} {x} (hs : Touches P L m s) :
    Touches (P ++ [.schedLog]) L m { s with schedLog := x } := hs.set [.schedLog] rfl rfl rfl

/-- What an event writes of its zones (R289, R292). -/
def eventFlds : List Fld := [Reg.ZONE_STATE_PRESTART, Hid.preAt] ++ zoneFlds

theorem execEvent {day zones} : Touches [.schedLog] eventFlds s (s.execEvent e day zones) :=
  .of (by decide) (each (refl s) fun _ _ => zoneSet.wrAt).setSchedLog

theorem minuteEvents {day wday minute code} : Touches [.schedLog] eventFlds s (s.minuteEvents day wday minute code) :=
  .of (by decide) (each (refl s) fun t _ => branch (refl t) (branch (refl t).count execEvent.count))

theorem preEnd : Touches [] eventFlds s s.preEnd := .of (by decide) (each (refl s) fun t _ => (refl t).wrsAt)

theorem currentState : Touches [.schedLog] ([Reg.SCHED_STAT_NOTIME, Reg.SCHED_STAT_LAST_CHG, Hid.schedBack] ++ eventFlds) s s.currentState :=
  .of (by decide) ((refl s).wr.wr.wr.setSchedLog.each fun _ _ => zoneSet.wrAt)

/-- What a change of the time writes of the schedule engine (R293). -/
def changeFlds : List Fld := [Reg.SCHED_STAT_NOTIME, Reg.SCHED_STAT_LAST_CHG, Hid.schedBack] ++ eventFlds

theorem timeChange {oDay oSec oWday sub osf} : Touches [.schedLog] changeFlds s (s.timeChange oDay oSec oWday sub osf) := by
  have hsame : Touches [.schedLog] changeFlds s s := .of (by decide) (refl s)
  refine either hsame (either (.of (by decide) currentState) (either hsame (either hsame (either ?_ (either ?_ ?_)))))
  · exact .of (by decide) (refl s).wr.wr
  · exact .of (by decide) ((refl s).wr.each fun _ _ => minuteEvents)
  · refine .of (by decide) (((refl s).wr.count.each (P' := []) (L' := zoneFlds) fun t z => ?_).andThen preEnd)
    split
    · exact zoneSet
    · exact .of (by decide) (refl t)

theorem lnPeriods {num den a} : Touches [] [] s (s.lnPeriods num den a).2 := by
  unfold State.lnPeriods
  extract_lets p q lo hi
  exact (refl s).freeBelow (n := hi - lo + 1)

/-- The lead time of a zone is found from coach words, read with their check bits (R292). -/
theorem leadMs : Touches [.upsets] eccFlds s (s.leadMs z).2 := by
  unfold State.leadMs
  extract_lets c st typ a cfg bindW gain offset pv src t wi w den num A B k
  have ht : Touches [.upsets] eccFlds s t := .of (by decide) (each (refl s) fun _ _ => coachGet)
  have hk : Touches [.upsets] eccFlds s k.2 := .of (by decide) (ht.andThen lnPeriods)
  clear_value k A B num den w wi t cfg a typ st
  exact .of (by decide) (branch_snd ht (branch_snd ht (branch_snd ht hk)))

theorem wholeMin {ms} : Touches [] [] s (s.wholeMin ms).2 :=
  .of (by decide) (branch_snd (refl s) ((refl s).freeBelow (n := 2)))

/-- What the optimum start writes (R292). -/
def optimumFlds : List Fld := Reg.ZONE_STATE_LEAD :: eccFlds ++ eventFlds

theorem optimum : Touches [.upsets] optimumFlds s (s.optimum e z) := by
  unfold State.optimum
  extract_lets max l ms w t
  have ht : Touches [.upsets] optimumFlds s t := .of (by decide) (leadMs.andThen wholeMin).wrAt
  split
  · exact .of (by decide) (branch (ht.andThen zoneSet.wrAt.wrAt.count) ht)
  · exact ht

theorem optimumAll : Touches [.upsets] optimumFlds s s.optimumAll :=
  .of (by decide) (each (refl s) fun t _ => branch (each (refl t) fun _ _ => optimum) (refl t))

theorem alarmFire {f code} : Touches [] [Hid.wakeAlarm, f] s (s.alarmFire f code) :=
  more (by simp) (by simp) (branch (refl s).wr.wr.count.raise (refl s).wr.wr.count)

/-- What the alarms write at a second tick (R280). -/
def alarmFlds : List Fld := [Hid.wakeAlarm, Reg.RTC_AFLAG_AF_A, Reg.RTC_AFLAG_AF_B]

theorem alarms : Touches [] alarmFlds s s.alarms :=
  .of (by decide) (branch (refl s) (((refl s).whenB fun _ => alarmFire).whenB fun _ => alarmFire))

theorem rtcCount : Touches [] [Hid.rtcEdges, Hid.rtcSecs] s s.rtcCount := .of (by decide) (refl s).wr.wr

/-- After the calendar has advanced, a second tick lets the alarms and the schedule engine act. -/
theorem secondTick_of_advanced : Touches [.upsets, .schedLog] (alarmFlds ++ optimumFlds) s.rtcCount.advance s.secondTick := by
  unfold State.secondTick
  extract_lets t
  have ht : Touches [] alarmFlds s.rtcCount.advance t := alarms
  exact .of (by decide) (branch (((ht.andThen minuteEvents).andThen preEnd).andThen optimumAll) ht)

theorem shiftDone : Touches [] [Hid.rtcHold, Reg.RTC_STAT_SHIFT_PEND] s s.shiftDone := .of (by decide) (refl s).wr.wr.count

theorem subCarry : Touches [] [Reg.RTC_SUBSEC_SUBSEC, Hid.rtcHold, Reg.RTC_STAT_SHIFT_PEND] s s.subCarry :=
  .of (by decide) ((refl s).wr.whenB fun _ => shiftDone)

end Touches

end Sys2Proof.Machine
end

section
/-! The calendar (R272 to R274): a second tick from its fields to its fields. -/

namespace Sys2Proof.Machine

variable {s t u : State} {P : List Part} {L : List Fld} {bad : List Nat}

/-- What the calendar shows: the time, the date, the weekday and OSF. -/
def calendarFlds : List Fld :=
  [Reg.RTC_TIME_HOUR, Reg.RTC_TIME_MIN, Reg.RTC_TIME_SEC, Reg.RTC_DATE_YEAR, Reg.RTC_DATE_MONTH, Reg.RTC_DATE_DAY, Reg.RTC_DATE_WDAY,
    Reg.RTC_STAT_OSF]

/-- Two machines whose calendars show the same. -/
def State.SameCalendar (s t : State) : Prop := ∀ f ∈ calendarFlds, t.rd f = s.rd f

namespace State.SameCalendar

theorem of_touches (h : Touches P L s t) (hL : ∀ f ∈ calendarFlds, f.id ∉ L.map Fld.id) : s.SameCalendar t := fun f hf => h.rd (hL f hf)

theorem trans (h : s.SameCalendar t) (g : t.SameCalendar u) : s.SameCalendar u := fun f hf => (g f hf).trans (h f hf)

variable (h : s.SameCalendar t)

include h

theorem hour : t.rd Reg.RTC_TIME_HOUR = s.rd Reg.RTC_TIME_HOUR := h _ (by decide)

theorem min : t.rd Reg.RTC_TIME_MIN = s.rd Reg.RTC_TIME_MIN := h _ (by decide)

theorem sec : t.rd Reg.RTC_TIME_SEC = s.rd Reg.RTC_TIME_SEC := h _ (by decide)

theorem year : t.rd Reg.RTC_DATE_YEAR = s.rd Reg.RTC_DATE_YEAR := h _ (by decide)

theorem month : t.rd Reg.RTC_DATE_MONTH = s.rd Reg.RTC_DATE_MONTH := h _ (by decide)

theorem day : t.rd Reg.RTC_DATE_DAY = s.rd Reg.RTC_DATE_DAY := h _ (by decide)

theorem wday : t.rd Reg.RTC_DATE_WDAY = s.rd Reg.RTC_DATE_WDAY := h _ (by decide)

theorem osf : t.rd Reg.RTC_STAT_OSF = s.rd Reg.RTC_STAT_OSF := h _ (by decide)

theorem clock : t.clock = s.clock := by simp only [State.clock, h.hour, h.min, h.sec]

theorem date : t.date = s.date := by simp only [State.date, h.year, h.month, h.day]

end State.SameCalendar

/-- What a second tick does before the calendar advances. -/
def Touches.beforeTickFlds : List Fld :=
  [Reg.RTC_SUBSEC_SUBSEC, Hid.rtcHold, Reg.RTC_STAT_SHIFT_PEND, Hid.schedBad, Reg.MEM_ERR_SCHED, Hid.rtcEdges, Hid.rtcSecs]

/-- A second tick of a running oscillator advances the calendar as it stands, and nothing else in the command changes it. -/
theorem exec_rtcSecondTick (hosc : s.on Hid.oscStopped = false) :
    ∃ u t, exec (.rtcSecondTick bad) s = .next t ∧ s.SameCalendar u ∧ u.advance.SameCalendar t := by
  obtain ⟨v, hv⟩ : ∃ v, (if s.subCarry.schedOn then s.subCarry.each (bad.filter (fun e => e < 96)) (fun t e =>
    (t.or Hid.schedBad (2 ^ e)).memErr Reg.MEM_ERR_SCHED) else s.subCarry) = v := ⟨_, rfl⟩
  have he : exec (.rtcSecondTick bad) s = fin v.secondTick := by
    rw [← hv]
    exact if_neg (by simp [hosc])
  have hbefore : Touches [] Touches.beforeTickFlds s v.rtcCount := by
    have hbad : Touches [] Touches.beforeTickFlds s v := by
      rw [← hv]
      exact .of (by decide) (.branch (.each .subCarry fun t _ => (Touches.refl t).or.andThen .memErr) .subCarry)
    exact .of (by decide) (hbad.andThen .rtcCount)
  exact ⟨v.rtcCount, v.secondTick.evcEdge, he, .of_touches hbefore (by decide),
    .of_touches Touches.secondTick_of_advanced.evcEdge (by decide)⟩

/-! The calendar's carries (R273, R274), one for each part that stands at its end. -/

/-- What is read back of a value that fits the field. -/
theorem State.rd_wr_lt {f : Fld} {v : Nat} (h : v < 2 ^ f.w) : (s.wr f v).rd f = v := (State.rd_wr_same _ _ _).trans (Nat.mod_eq_of_lt h)

theorem monthLen_eq (y m : Nat) : monthLen y m = monthDays y m := by simp [monthLen, monthDays, leap]

theorem monthDays_le (y m : Nat) : monthDays y m ≤ 31 := by
  unfold monthDays
  split <;> split <;> omega

theorem State.advance_second (h : s.rd Reg.RTC_TIME_SEC < 59) :
    s.advance.clock = (s.rd Reg.RTC_TIME_HOUR, s.rd Reg.RTC_TIME_MIN, s.rd Reg.RTC_TIME_SEC + 1) ∧ s.advance.date = s.date := by
  have he : s.advance = s.wr Reg.RTC_TIME_SEC (s.rd Reg.RTC_TIME_SEC + 1) := if_pos h
  have hlt : s.rd Reg.RTC_TIME_SEC + 1 < 2 ^ Reg.RTC_TIME_SEC.w := show _ < 64 by omega
  rw [he]
  simp (disch := decide) only [State.clock, State.date, State.rd_wr_ne, State.rd_wr_lt hlt, and_self]

theorem State.advance_minute (hs : s.rd Reg.RTC_TIME_SEC = 59) (hm : s.rd Reg.RTC_TIME_MIN < 59) :
    s.advance.clock = (s.rd Reg.RTC_TIME_HOUR, s.rd Reg.RTC_TIME_MIN + 1, 0) ∧ s.advance.date = s.date := by
  have he : s.advance = s.wrs [(Reg.RTC_TIME_SEC, 0), (Reg.RTC_TIME_MIN, s.rd Reg.RTC_TIME_MIN + 1)] :=
    (if_neg (by omega)).trans (if_pos hm)
  have hlt : s.rd Reg.RTC_TIME_MIN + 1 < 2 ^ Reg.RTC_TIME_MIN.w := show _ < 64 by omega
  rw [he]
  simp (disch := decide) only [State.clock, State.date, State.wrs, State.rd_wr_ne, State.rd_wr_lt, State.rd_wr_lt hlt, and_self]

theorem State.advance_hour (hs : s.rd Reg.RTC_TIME_SEC = 59) (hm : s.rd Reg.RTC_TIME_MIN = 59) (hh : s.rd Reg.RTC_TIME_HOUR < 23) :
    s.advance.clock = (s.rd Reg.RTC_TIME_HOUR + 1, 0, 0) ∧ s.advance.date = s.date ∧
      s.advance.rd Reg.RTC_DATE_WDAY = s.rd Reg.RTC_DATE_WDAY := by
  have he : s.advance = s.wrs [(Reg.RTC_TIME_SEC, 0), (Reg.RTC_TIME_MIN, 0), (Reg.RTC_TIME_HOUR, s.rd Reg.RTC_TIME_HOUR + 1)] :=
    (if_neg (by omega)).trans ((if_neg (by omega)).trans (if_pos hh))
  have hlt : s.rd Reg.RTC_TIME_HOUR + 1 < 2 ^ Reg.RTC_TIME_HOUR.w := show _ < 32 by omega
  rw [he]
  simp (disch := decide) only [State.clock, State.date, State.wrs, State.rd_wr_ne, State.rd_wr_lt, State.rd_wr_lt hlt, and_self]

/-- R274: the time of day starts anew and the weekday moves on. -/
def State.newDay (s : State) : State :=
  s.wrs [(Reg.RTC_TIME_SEC, 0), (Reg.RTC_TIME_MIN, 0), (Reg.RTC_TIME_HOUR, 0),
    (Reg.RTC_DATE_WDAY, if 6 ≤ s.rd Reg.RTC_DATE_WDAY then 0 else s.rd Reg.RTC_DATE_WDAY + 1)]

theorem State.midnight_newDay : s.midnight s.newDay := by
  have hw : (if 6 ≤ s.rd Reg.RTC_DATE_WDAY then 0 else s.rd Reg.RTC_DATE_WDAY + 1) < 2 ^ Reg.RTC_DATE_WDAY.w := show _ < 8 by
    split <;> omega
  have hif : (if 6 ≤ s.rd Reg.RTC_DATE_WDAY then 0 else s.rd Reg.RTC_DATE_WDAY + 1) =
      if s.rd Reg.RTC_DATE_WDAY < 6 then s.rd Reg.RTC_DATE_WDAY + 1 else 0 := by
    split <;> split <;> omega
  refine ⟨?_, ?_⟩
  · simp (disch := decide) only [State.newDay, State.clock, State.wrs, State.rd_wr_ne, State.rd_wr_lt]
  · rw [← hif]
    exact State.rd_wr_lt hw

/-- Midnight passed, whatever is then done to the date and OSF. -/
theorem State.midnight.of_touches (h : s.midnight t) (ht : Touches P L t u)
    (hL : ∀ f ∈ [Reg.RTC_TIME_HOUR, Reg.RTC_TIME_MIN, Reg.RTC_TIME_SEC, Reg.RTC_DATE_WDAY], f.id ∉ L.map Fld.id) : s.midnight u := by
  obtain ⟨hc, hw⟩ := h
  have hk : ∀ f ∈ [Reg.RTC_TIME_HOUR, Reg.RTC_TIME_MIN, Reg.RTC_TIME_SEC, Reg.RTC_DATE_WDAY], u.rd f = t.rd f := fun f hf => ht.rd (hL f hf)
  refine ⟨?_, (hk _ (by decide)).trans hw⟩
  rw [← hc]
  simp only [State.clock, hk Reg.RTC_TIME_HOUR (by decide), hk Reg.RTC_TIME_MIN (by decide), hk Reg.RTC_TIME_SEC (by decide)]

/-- The calendar of two machines that show the same passes midnight alike. -/
theorem State.SameCalendar.midnight {v : State} (h : s.SameCalendar t) (g : u.SameCalendar v) (hm : t.midnight u) : s.midnight v := by
  obtain ⟨hc, hw⟩ := hm
  exact ⟨g.clock.trans hc, by rw [g.wday, hw, h.wday]⟩

/-- What a second tick at the end of a day makes of the machine (R274). -/
theorem State.advance_midnight (hc : s.clock = (23, 59, 59)) :
    s.advance = (if s.rd Reg.RTC_DATE_DAY < monthLen (s.rd Reg.RTC_DATE_YEAR) (s.rd Reg.RTC_DATE_MONTH) then
        s.newDay.wr Reg.RTC_DATE_DAY (s.rd Reg.RTC_DATE_DAY + 1)
      else if s.rd Reg.RTC_DATE_MONTH < 12 then
        s.newDay.wrs [(Reg.RTC_DATE_DAY, 1), (Reg.RTC_DATE_MONTH, s.rd Reg.RTC_DATE_MONTH + 1)]
      else if s.rd Reg.RTC_DATE_YEAR < 199 then
        s.newDay.wrs [(Reg.RTC_DATE_DAY, 1), (Reg.RTC_DATE_MONTH, 1), (Reg.RTC_DATE_YEAR, s.rd Reg.RTC_DATE_YEAR + 1)]
      else (s.newDay.wrs [(Reg.RTC_DATE_DAY, 1), (Reg.RTC_DATE_MONTH, 1), (Reg.RTC_DATE_YEAR, 0)]).setOsf) := by
  obtain ⟨hh, hm, hs⟩ : s.rd Reg.RTC_TIME_HOUR = 23 ∧ s.rd Reg.RTC_TIME_MIN = 59 ∧ s.rd Reg.RTC_TIME_SEC = 59 := by
    simpa [State.clock] using hc
  exact (if_neg (by omega)).trans ((if_neg (by omega)).trans (if_neg (by omega)))

theorem State.newDay_date : s.newDay.date = s.date := by
  simp (disch := decide) only [State.newDay, State.date, State.wrs, State.rd_wr_ne]

theorem State.advance_day (hc : s.clock = (23, 59, 59))
    (hd : s.rd Reg.RTC_DATE_DAY < monthDays (s.rd Reg.RTC_DATE_YEAR) (s.rd Reg.RTC_DATE_MONTH)) :
    s.midnight s.advance ∧ s.advance.date = (s.rd Reg.RTC_DATE_YEAR, s.rd Reg.RTC_DATE_MONTH, s.rd Reg.RTC_DATE_DAY + 1) := by
  have hle := monthDays_le (s.rd Reg.RTC_DATE_YEAR) (s.rd Reg.RTC_DATE_MONTH)
  have hlt : s.rd Reg.RTC_DATE_DAY + 1 < 2 ^ Reg.RTC_DATE_DAY.w := show _ < 32 by omega
  rw [State.advance_midnight hc, if_pos (monthLen_eq _ _ ▸ hd)]
  refine ⟨State.midnight_newDay.of_touches (Touches.refl _).wr (by decide), ?_⟩
  simp (disch := decide) only [State.newDay, State.date, State.wrs, State.rd_wr_ne, State.rd_wr_lt hlt]

theorem State.advance_month (hc : s.clock = (23, 59, 59))
    (hd : s.rd Reg.RTC_DATE_DAY = monthDays (s.rd Reg.RTC_DATE_YEAR) (s.rd Reg.RTC_DATE_MONTH)) (hm : s.rd Reg.RTC_DATE_MONTH < 12) :
    s.midnight s.advance ∧ s.advance.date = (s.rd Reg.RTC_DATE_YEAR, s.rd Reg.RTC_DATE_MONTH + 1, 1) := by
  have hlt : s.rd Reg.RTC_DATE_MONTH + 1 < 2 ^ Reg.RTC_DATE_MONTH.w := show _ < 16 by omega
  rw [State.advance_midnight hc, if_neg (by rw [monthLen_eq]; omega), if_pos hm]
  refine ⟨State.midnight_newDay.of_touches (Touches.refl _).wr.wr (by decide), ?_⟩
  simp (disch := decide) only [State.newDay, State.date, State.wrs, State.rd_wr_ne, State.rd_wr_lt, State.rd_wr_lt hlt]

/-- The last day of December is day 31. -/
theorem monthDays_december (y : Nat) : monthDays y 12 = 31 := rfl

theorem State.advance_year (hc : s.clock = (23, 59, 59)) (hd : s.rd Reg.RTC_DATE_DAY = 31) (hm : s.rd Reg.RTC_DATE_MONTH = 12)
    (hy : s.rd Reg.RTC_DATE_YEAR < 199) :
    s.midnight s.advance ∧ s.advance.date = (s.rd Reg.RTC_DATE_YEAR + 1, 1, 1) := by
  have hlt : s.rd Reg.RTC_DATE_YEAR + 1 < 2 ^ Reg.RTC_DATE_YEAR.w := show _ < 256 by omega
  rw [State.advance_midnight hc, if_neg (by rw [monthLen_eq, hm, monthDays_december]; omega), if_neg (by omega), if_pos hy]
  refine ⟨State.midnight_newDay.of_touches (Touches.refl _).wr.wr.wr (by decide), ?_⟩
  simp (disch := decide) only [State.newDay, State.date, State.wrs, State.rd_wr_ne, State.rd_wr_lt, State.rd_wr_lt hlt]

theorem State.setOsf_osf : s.setOsf.rd Reg.RTC_STAT_OSF = 1 := by
  unfold State.setOsf
  split
  case isTrue h => exact State.on_iff.mp h
  case isFalse h =>
    have hcount : Touches [] [] (s.wr Reg.RTC_STAT_OSF 1) ((s.wr Reg.RTC_STAT_OSF 1).count 0xA1) := (Touches.refl _).count
    exact ((hcount.andThen .schedNoTime).rd (by decide)).trans (State.rd_wr_lt (by decide))

theorem State.advance_end (hc : s.clock = (23, 59, 59)) (hd : s.date = (199, 12, 31)) :
    s.midnight s.advance ∧ s.advance.date = (0, 1, 1) ∧ s.advance.rd Reg.RTC_STAT_OSF = 1 := by
  obtain ⟨hy, hm, hd⟩ : s.rd Reg.RTC_DATE_YEAR = 199 ∧ s.rd Reg.RTC_DATE_MONTH = 12 ∧ s.rd Reg.RTC_DATE_DAY = 31 := by
    simpa [State.date] using hd
  rw [State.advance_midnight hc, if_neg (by rw [monthLen_eq, hm, monthDays_december]; omega), if_neg (by omega), if_neg (by omega)]
  have hosf : Touches [] _ _ (s.newDay.wrs [(Reg.RTC_DATE_DAY, 1), (Reg.RTC_DATE_MONTH, 1), (Reg.RTC_DATE_YEAR, 0)]).setOsf := .setOsf
  refine ⟨State.midnight_newDay.of_touches ((Touches.refl _).wrs.andThen hosf) (by decide), ?_, State.setOsf_osf⟩
  simp only [State.date, hosf.rd (f := Reg.RTC_DATE_YEAR) (by decide), hosf.rd (f := Reg.RTC_DATE_MONTH) (by decide),
    hosf.rd (f := Reg.RTC_DATE_DAY) (by decide)]
  simp (disch := decide) only [State.wrs, State.rd_wr_ne, State.rd_wr_lt]

end Sys2Proof.Machine
end

section
/-! The pending SET and the pending shift (R276, R279), and the obligations on the calendar and on ALARM_A. -/

namespace Sys2Proof.Machine

variable {s : State} {sub : Fin 32768}

/-- The machine as a pending SET leaves it, before the schedule engine and the alarms answer the change of time (R276). -/
def State.setLoaded (s : State) : State :=
  ((s.loadTime (s.rd Hid.rtcPendT)).loadDate (s.rd Hid.rtcPendD)).wrs [(Hid.rtcPend, 0), (Reg.RTC_STAT_OSF, 0), (Hid.rtcShPend, 0),
    (Hid.rtcHold, 0), (Reg.RTC_STAT_SHIFT_PEND, 0), (Reg.RTC_SUBSEC_SUBSEC, 0)]

/-- What the load of a SET itself writes. -/
def Touches.setLoadFlds : List Fld :=
  [Reg.RTC_TIME_SEC, Reg.RTC_TIME_MIN, Reg.RTC_TIME_HOUR, Reg.RTC_DATE_DAY, Reg.RTC_DATE_MONTH, Reg.RTC_DATE_YEAR, Reg.RTC_DATE_WDAY,
    Hid.rtcPend, Reg.RTC_STAT_OSF, Hid.rtcShPend, Hid.rtcHold, Reg.RTC_STAT_SHIFT_PEND, Reg.RTC_SUBSEC_SUBSEC]

theorem Touches.setLoaded : Touches [] setLoadFlds s s.setLoaded :=
  .of (by decide) (refl s).wr.wr.wr.wr.wr.wr.wr.wr.wr.wr.wr.wr.wr

/-- What follows the load of a SET. -/
def Touches.setEffectFlds : List Fld := [Reg.RTC_AFLAG_CATCH_B, Reg.RTC_AFLAG_AF_B, Hid.wakeAlarm] ++ changeFlds

theorem exec_rtcSetLoad_pending (hp : s.on Hid.rtcPend = true) (ho : s.on Hid.oscStopped = false) :
    ∃ t, exec (.rtcSetLoad sub) s = .next t ∧ Touches [.schedLog] Touches.setEffectFlds s.setLoaded t := by
  obtain ⟨v, hv⟩ : ∃ v, s.setLoaded.timeChange s.today s.todSec (s.rd Reg.RTC_DATE_WDAY) (s.subAt sub) (s.on Reg.RTC_STAT_OSF) = v := ⟨_, rfl⟩
  have hch : Touches [.schedLog] Touches.changeFlds s.setLoaded v := hv ▸ .timeChange
  obtain ⟨c, he⟩ : ∃ c : Bool, exec (.rtcSetLoad sub) s =
      if c then fin (((v.wr Reg.RTC_AFLAG_CATCH_B 1).alarmFire Reg.RTC_AFLAG_AF_B 0xA3).count 0xA4) else fin v := by
    subst hv
    exact ⟨_, if_neg (by simp [hp, ho])⟩
  rw [he]
  split
  · exact ⟨_, rfl, .of (by decide) (hch.wr.andThen .alarmFire).count.evcEdge⟩
  · exact ⟨_, rfl, .of (by decide) hch.evcEdge⟩

/-- The calendar after the load of a SET: the time and the date of the SET, and nothing pending (R276). -/
theorem State.setLoaded_shows :
    s.setLoaded.rd Reg.RTC_TIME_SEC = bits (s.rd Hid.rtcPendT) 0 6 ∧ s.setLoaded.rd Reg.RTC_TIME_MIN = bits (s.rd Hid.rtcPendT) 8 6 ∧
      s.setLoaded.rd Reg.RTC_TIME_HOUR = bits (s.rd Hid.rtcPendT) 16 5 ∧ s.setLoaded.rd Reg.RTC_DATE_DAY = bits (s.rd Hid.rtcPendD) 0 5 ∧
      s.setLoaded.rd Reg.RTC_DATE_MONTH = bits (s.rd Hid.rtcPendD) 8 4 ∧ s.setLoaded.rd Reg.RTC_DATE_YEAR = bits (s.rd Hid.rtcPendD) 16 8 ∧
      s.setLoaded.rd Reg.RTC_DATE_WDAY = bits (s.rd Hid.rtcPendD) 24 3 ∧ s.setLoaded.rd Reg.RTC_STAT_OSF = 0 ∧
      s.setLoaded.rd Reg.RTC_STAT_SHIFT_PEND = 0 ∧ s.setLoaded.rd Hid.rtcPend = 0 ∧ s.setLoaded.rd Reg.RTC_SUBSEC_SUBSEC = 0 := by
  have hlt : ∀ v lo w, bits v lo w < 2 ^ w := fun _ _ _ => Nat.mod_lt _ (Nat.two_pow_pos _)
  have hrd : ∀ (t : State) (f : Fld) (v lo : Nat), (t.wr f (bits v lo f.w)).rd f = bits v lo f.w := fun _ _ _ _ => State.rd_wr_lt (hlt _ _ _)
  simp (disch := decide) only [State.setLoaded, State.loadTime, State.loadDate, State.wrs, State.rd_wr_ne, State.rd_wr_lt, and_true]
  exact ⟨hrd .., hrd .., hrd .., hrd .., hrd .., hrd .., hrd ..⟩

/-- The fields of a shift that a second tick, too, leaves alone. -/
def shiftKept : List Fld := [Reg.RTC_STAT_SHIFT_PEND, Hid.rtcShPend, Reg.RTC_SUBSEC_SUBSEC]

/-- What the advance of the calendar writes (R272 to R274). -/
theorem Touches.advance :
    Touches [] ([Reg.RTC_TIME_SEC, Reg.RTC_TIME_MIN, Reg.RTC_TIME_HOUR, Reg.RTC_DATE_WDAY, Reg.RTC_DATE_DAY, Reg.RTC_DATE_MONTH,
      Reg.RTC_DATE_YEAR, Reg.RTC_STAT_OSF, Reg.SCHED_STAT_NOTIME] ++ zoneFlds) s s.advance :=
  either (.of (by decide) (refl s).wr) (either (.of (by decide) (refl s).wr.wr) (either (.of (by decide) (refl s).wr.wr.wr)
    (either (.of (by decide) (refl s).wr.wr.wr.wr.wr) (either (.of (by decide) (refl s).wr.wr.wr.wr.wr.wr)
      (either (.of (by decide) (refl s).wr.wr.wr.wr.wr.wr.wr) (.of (by decide) ((refl s).wr.wr.wr.wr.wr.wr.wr.andThen setOsf)))))))

theorem secondTick_shiftKept {f : Fld} (hf : f ∈ shiftKept) : s.secondTick.rd f = s.rd f :=
  ((Touches.rtcCount.andThen .advance).andThen .secondTick_of_advanced).rd (by revert f; decide)

theorem exec_rtcShiftApply_add (hp : s.on Hid.rtcShPend = true) (ho : s.on Hid.oscStopped = false)
    (hb : bit (s.rd Hid.rtcShift) 15 = false) :
    ∃ t, exec (.rtcShiftApply sub) s = .next t ∧ t.rd Reg.RTC_STAT_SHIFT_PEND = 0 ∧ t.rd Hid.rtcShPend = 0 ∧
      t.rd Reg.RTC_SUBSEC_SUBSEC = (s.subAt sub + bits (s.rd Hid.rtcShift) 0 15) % 32768 := by
  obtain ⟨c, edges, u, he, hu⟩ : ∃ c edges u, exec (.rtcShiftApply sub) s = (if 32768 ≤ c then fin u.secondTick else fin u) ∧
      u = ((s.wr Hid.rtcShPend 0).wrs [(Reg.RTC_SUBSEC_SUBSEC, (s.subAt sub + bits (s.rd Hid.rtcShift) 0 15) % 32768),
        (Hid.rtcEdges, edges)]).shiftDone :=
    ⟨_, _, _, (if_neg (by simp [hp, ho])).trans (if_neg (by simp [hb])), rfl⟩
  have hlt : (s.subAt sub + bits (s.rd Hid.rtcShift) 0 15) % 32768 < 2 ^ Reg.RTC_SUBSEC_SUBSEC.w := Nat.mod_lt _ (by decide)
  have hshows : u.rd Reg.RTC_STAT_SHIFT_PEND = 0 ∧ u.rd Hid.rtcShPend = 0 ∧
      u.rd Reg.RTC_SUBSEC_SUBSEC = (s.subAt sub + bits (s.rd Hid.rtcShift) 0 15) % 32768 := by
    subst hu
    simp (disch := decide) only [State.shiftDone, State.count_rd, State.wrs, State.rd_wr_ne, State.rd_wr_lt, State.rd_wr_lt hlt, and_self]
  rw [he]
  split
  · refine exists_fin ?_
    simpa only [State.evcEdge_rd, secondTick_shiftKept (f := Reg.RTC_STAT_SHIFT_PEND) (by decide),
      secondTick_shiftKept (f := Hid.rtcShPend) (by decide), secondTick_shiftKept (f := Reg.RTC_SUBSEC_SUBSEC) (by decide)] using hshows
  · exact exists_fin (by simpa only [State.evcEdge_rd] using hshows)

theorem exec_rtcShiftApply_hold (hp : s.on Hid.rtcShPend = true) (ho : s.on Hid.oscStopped = false)
    (hb : bit (s.rd Hid.rtcShift) 15 = true) :
    ∃ t, exec (.rtcShiftApply sub) s = .next t ∧ t.rd Hid.rtcShPend = 0 ∧ t.rd Hid.rtcHold = bits (s.rd Hid.rtcShift) 0 15 ∧
      t.rd Reg.RTC_STAT_SHIFT_PEND = s.rd Reg.RTC_STAT_SHIFT_PEND := by
  have hlt : bits (s.rd Hid.rtcShift) 0 15 < 2 ^ Hid.rtcHold.w := Nat.mod_lt _ (by decide)
  refine ⟨_, (if_neg (by simp [hp, ho])).trans (if_pos hb), ?_⟩
  simp (disch := decide) only [State.evcEdge_rd, State.wrs, State.rd_wr_ne, State.rd_wr_lt, State.rd_wr_lt hlt, and_self]

/-- Settles O19: a second tick advances the calendar as it stands, and what the tick does besides leaves the calendar alone. -/
theorem calendarTimeRuns : Obligations.CalendarTimeRuns := by
  unfold Obligations.CalendarTimeRuns
  refine ⟨fun s bad ho hs => ?_, fun s bad ho hs hm => ?_, fun s bad ho hs hm hh => ?_, fun s bad ho hc hd => ?_,
    fun s bad ho hc hd hm => ?_, fun s bad ho hc hd hm hy => ?_, fun s bad ho hc hd => ?_, fun s sub hp ho => ?_,
    fun s sub hp ho hb => exec_rtcShiftApply_add hp ho hb, fun s sub hp ho hb => exec_rtcShiftApply_hold hp ho hb⟩
  · obtain ⟨u, t, he, hu, ht⟩ := exec_rtcSecondTick (bad := bad) ho
    obtain ⟨hclock, hdate⟩ := State.advance_second (s := u) (by rwa [hu.sec])
    exact ⟨t, he, by rw [ht.clock, hclock, hu.hour, hu.min, hu.sec], by rw [ht.date, hdate, hu.date]⟩
  · obtain ⟨u, t, he, hu, ht⟩ := exec_rtcSecondTick (bad := bad) ho
    obtain ⟨hclock, hdate⟩ := State.advance_minute (s := u) (by rwa [hu.sec]) (by rwa [hu.min])
    exact ⟨t, he, by rw [ht.clock, hclock, hu.hour, hu.min], by rw [ht.date, hdate, hu.date]⟩
  · obtain ⟨u, t, he, hu, ht⟩ := exec_rtcSecondTick (bad := bad) ho
    obtain ⟨hclock, hdate, hwday⟩ := State.advance_hour (s := u) (by rwa [hu.sec]) (by rwa [hu.min]) (by rwa [hu.hour])
    exact ⟨t, he, by rw [ht.clock, hclock, hu.hour], by rw [ht.date, hdate, hu.date], by rw [ht.wday, hwday, hu.wday]⟩
  · obtain ⟨u, t, he, hu, ht⟩ := exec_rtcSecondTick (bad := bad) ho
    obtain ⟨hmid, hdate⟩ := State.advance_day (s := u) (by rwa [hu.clock]) (by rwa [hu.day, hu.year, hu.month])
    exact ⟨t, he, hu.midnight ht hmid, by rw [ht.date, hdate, hu.year, hu.month, hu.day]⟩
  · obtain ⟨u, t, he, hu, ht⟩ := exec_rtcSecondTick (bad := bad) ho
    obtain ⟨hmid, hdate⟩ := State.advance_month (s := u) (by rwa [hu.clock]) (by rwa [hu.day, hu.year, hu.month]) (by rwa [hu.month])
    exact ⟨t, he, hu.midnight ht hmid, by rw [ht.date, hdate, hu.year, hu.month]⟩
  · obtain ⟨u, t, he, hu, ht⟩ := exec_rtcSecondTick (bad := bad) ho
    obtain ⟨hmid, hdate⟩ := State.advance_year (s := u) (by rwa [hu.clock]) (by rwa [hu.day]) (by rwa [hu.month]) (by rwa [hu.year])
    exact ⟨t, he, hu.midnight ht hmid, by rw [ht.date, hdate, hu.year]⟩
  · obtain ⟨u, t, he, hu, ht⟩ := exec_rtcSecondTick (bad := bad) ho
    obtain ⟨hmid, hdate, hosf⟩ := State.advance_end (s := u) (by rwa [hu.clock]) (by rwa [hu.date])
    exact ⟨t, he, hu.midnight ht hmid, ht.date.trans hdate, ht.osf.trans hosf⟩
  · obtain ⟨t, he, ht⟩ := exec_rtcSetLoad_pending (sub := sub) hp ho
    have hkept : ∀ f ∈ Touches.setLoadFlds, f.id ∉ Touches.setEffectFlds.map Fld.id → t.rd f = s.setLoaded.rd f := fun f _ hf => ht.rd hf
    refine ⟨t, he, ?_⟩
    simpa (disch := decide) only [hkept] using s.setLoaded_shows

/-! A change of the time and ALARM_A (R281). -/

theorem Touches.syncShift {d wday} :
    Touches [] [Hid.rtcShPend, Hid.rtcShift, Reg.RTC_STAT_SHIFT_PEND, Reg.RTC_DATE_WDAY, Reg.NET_FLAGS_FLAGS] s (s.syncShift d wday) := by
  unfold State.syncShift
  extract_lets n f
  have hf : Touches [] [] s f.2 := .of (by decide) (branch_snd (x := (n, s)) (refl s) ((refl s).freeBelow (n := 32767)))
  exact .of (by decide) (branch (refl s).wr (branch (refl s).count hf.wr.wr.wr.wr.or.count))

theorem Touches.syncSet {sec wday} :
    Touches [] [Hid.rtcPend, Hid.rtcPendT, Hid.rtcPendD, Reg.NET_FLAGS_FLAGS] s (s.syncSet sec wday) :=
  .of (by decide) (branch (refl s).count (refl s).wr.wr.wr.count.or.count)

/-- What a time synchronization writes (R379). -/
def Touches.synchroniseFlds : List Fld :=
  [Hid.rtcHold, Reg.RTC_SUBSEC_SUBSEC, Reg.RTC_STAT_SHIFT_PEND, Hid.rtcShPend, Hid.rtcShift, Reg.RTC_DATE_WDAY, Reg.NET_FLAGS_FLAGS,
    Hid.rtcPend, Hid.rtcPendT, Hid.rtcPendD]

theorem Touches.synchronise {utc time} : Touches [] synchroniseFlds s (s.synchronise utc time) := by
  have hignored : Touches [] synchroniseFlds s s.syncIgnored := .of (by decide) (refl s).count
  unfold State.synchronise
  split
  · exact hignored
  · exact either hignored (either (.of (by decide) (rtcRun.andThen syncShift)) (.of (by decide) (rtcRun.andThen syncSet)))

/-- Settles O59: neither command's change of the time writes AF_A, whatever the times are. -/
theorem timeChangesDoNotFireAlarmA : Obligations.TimeChangesDoNotFireAlarmA := by
  unfold Obligations.TimeChangesDoNotFireAlarmA
  refine ⟨fun s sub => ?_, fun s utc time => ?_⟩
  · by_cases h : s.on Hid.rtcPend = false ∨ s.on Hid.oscStopped = true
    · exact ⟨_, if_pos h, State.evcEdge_rd _ _⟩
    · obtain ⟨hpend, hosc⟩ : s.on Hid.rtcPend = true ∧ s.on Hid.oscStopped = false := by simpa using h
      obtain ⟨t, he, ht⟩ := exec_rtcSetLoad_pending (sub := sub) hpend hosc
      exact ⟨t, he, (Touches.setLoaded.andThen ht).rd (by decide)⟩
  · by_cases h : (upTo 4).any s.bacOn = false ∨ s.rd Reg.NET_STAT_DCC = 1
    · exact ⟨_, if_pos h, State.evcEdge_rd _ _⟩
    · exact ⟨_, if_neg h, (Touches.hush.andThen .synchronise).evcEdge.rd (by decide)⟩

end Sys2Proof.Machine
end

section
/-! A statement on the frame of REGION_APPLY that a field outside the register map refutes (R305, R319). -/

namespace Sys2Proof.Machine

/-- NATIVE, a seat-plan update that is validated: its one run writes the value 2 to the register of the shadow plan's count. -/
def seatPlanUpdate : State :=
  ((((State.wr {} Reg.PWR_MODE_MODE mNative).wr Reg.RGN_CTRL_STATE 3).wrAt Hid.stage 0 (9 * 65536 + 2)).wrAt Hid.stage 1 (0x0801 * 65536 + 1)).wrAt
    Hid.stage 2 (2 * 65536)

/-- A field that no register holds, with its first bit past bit 31 of address 0: its number is that of the shadow plan's count. -/
def aliasOfShadowCount : Fld := { Reg.ARB_SWAP_SHADOW_COUNT with addr := 0, lo := 0x0801 * 32 + Reg.ARB_SWAP_SHADOW_COUNT.lo }

/-- Refutes O50: a seat-plan update writes the count of the shadow plan. The clause of REGION_APPLY tells what an update may write by a field's
address, over all values of the type of fields, while the register store knows a field by its number alone: the field of address 0 with that
number, which the clause keeps, reads the written value. The map itself has no such field; only the quantifier over all of `Fld` reaches it. -/
theorem not_timeAndUpdateFrames : ¬ Obligations.TimeAndUpdateFrames := by
  intro h
  obtain ⟨-, -, -, -, -, -, -, -, -, -, -, hframe, -⟩ := h
  obtain ⟨t, ht⟩ : ∃ t, exec (.regionApply true) seatPlanUpdate = .next t := ⟨_, rfl⟩
  obtain ⟨hfields, -⟩ := hframe true seatPlanUpdate t ht
  have hkept : t.rdAt aliasOfShadowCount 0 = 0 := hfields aliasOfShadowCount (by decide +kernel) (by decide +kernel) 0
  have hwritten : t.rdAt aliasOfShadowCount 0 = 2 := by
    rw [eq_of_fin ht, State.evcEdge_rdAt]
    decide +kernel
  exact absurd (hwritten.symm.trans hkept) (by decide)

end Sys2Proof.Machine
end

section
/-! The backup domain: the compensation, the oscillator, the battery and the retention latch (R270, R272, R277, R283, R284). -/

namespace Sys2Proof.Machine

variable {s : State}

/-- A number that fits in two's complement is read back as it was written. -/
theorem toI_ofI {w : Nat} {x : Int} (hlo : -((2 ^ w : Nat) : Int) ≤ x) (hhi : x < (2 ^ w : Nat)) : toI (w + 1) (ofI (w + 1) x) = x := by
  have hdouble : 2 ^ (w + 1) = 2 * 2 ^ w := Nat.pow_succ'
  have hlt := ofI_lt (w + 1) x
  unfold toI
  rw [Nat.mod_eq_of_lt hlt, Nat.add_sub_cancel]
  have hof : (ofI (w + 1) x : Int) = if x < 0 then x + (2 ^ (w + 1) : Nat) else x := by
    unfold ofI
    split
    · rw [← Int.add_emod_right, Int.emod_eq_of_lt (by omega) (by omega)]
      omega
    · rw [Int.emod_eq_of_lt (by omega) (by omega)]
      omega
  split at hof <;> split <;> omega

theorem exec_rtcCompSample {temp : Int} (hen : s.on Reg.RTC_COMP1_COMP_EN = true) :
    ∃ t, exec (.rtcCompSample temp) s = .next t ∧ t.rd Reg.RTC_COMP_STAT_TEMP = ofI 16 temp ∧
      t.rdI Reg.RTC_COMP_STAT_N 0 = clampI (-255) 255 (rndUp (s.rdI Reg.RTC_COMP0_OFFSET 0 * 4194304 +
        s.rdI Reg.RTC_COMP1_K 0 * ((temp - s.rdI Reg.RTC_COMP0_T0 0) * (temp - s.rdI Reg.RTC_COMP0_T0 0))) 1024000000) := by
  obtain ⟨n, hn⟩ : ∃ n, rndUp (s.rdI Reg.RTC_COMP0_OFFSET 0 * 4194304 + s.rdI Reg.RTC_COMP1_K 0 * ((temp - s.rdI Reg.RTC_COMP0_T0 0) *
    (temp - s.rdI Reg.RTC_COMP0_T0 0))) 1024000000 = n := ⟨_, rfl⟩
  have he : exec (.rtcCompSample temp) s =
      fin (((s.wrI Reg.RTC_COMP_STAT_N 0 (clampI (-255) 255 n)).wrI Reg.RTC_COMP_STAT_TEMP 0 temp).count 0xA6) := by
    simp only [exec, execRtcCompSample, hen, hn, if_true]
  rw [he, hn]
  have hclamp : -255 ≤ clampI (-255) 255 n ∧ clampI (-255) 255 n ≤ 255 := by
    unfold clampI
    split <;> [skip; split] <;> omega
  have hround : toI 9 (ofI 9 (clampI (-255) 255 n)) = clampI (-255) 255 n := toI_ofI (w := 8) (by omega) (by omega)
  refine exists_fin ⟨?_, ?_⟩
  · rw [State.evcEdge_rd, State.count_rd]
    exact State.rd_wrI_same
  · refine Eq.trans (congrArg (toI 9) ?_) hround
    exact (((Touches.refl _).wrI.count.evcEdge).rd (by decide)).trans State.rd_wrI_same

theorem exec_rtcOscStop : ∃ t, exec .rtcOscStop s = .next t ∧ t.rd Reg.RTC_STAT_OSF = 1 ∧ t.rd Hid.oscStopped = 1 := by
  refine exists_fin ⟨?_, ?_⟩
  · rw [State.evcEdge_rd, State.setOsf_osf]
  · rw [State.evcEdge_rd, Touches.setOsf.rd (by decide), State.rd_wr_lt (by decide)]

/-- The time that a switch to the battery stamps (R283). -/
theorem State.stamp_shows (h : s.on Reg.RTC_STAMP_DATE_STAMPED = false) :
    s.stamp.rd Reg.RTC_STAMP_DATE_STAMPED = 1 ∧ s.stamp.rd Reg.RTC_STAMP_TIME_SEC = s.rd Reg.RTC_TIME_SEC % 64 ∧
      s.stamp.rd Reg.RTC_STAMP_TIME_MIN = s.rd Reg.RTC_TIME_MIN % 64 ∧ s.stamp.rd Reg.RTC_STAMP_TIME_HOUR = s.rd Reg.RTC_TIME_HOUR % 32 ∧
      s.stamp.rd Reg.RTC_STAMP_DATE_DAY = s.rd Reg.RTC_DATE_DAY % 32 := by
  rw [State.stamp, if_neg (by simp [h])]
  simp (disch := decide) only [State.wrs, State.rd_wr_ne, State.rd_wr_same]
  exact ⟨rfl, rfl, rfl, rfl, rfl⟩

theorem exec_backupSwitchVbat {vbat : Bool} (hvbat : s.on Reg.RTC_STAT_ON_VBAT = false) (hstamp : s.on Reg.RTC_STAMP_DATE_STAMPED = false) :
    ∃ t, exec (.backupSwitchVbat vbat) s = .next t ∧ t.rd Reg.RTC_STAT_ON_VBAT = 1 ∧ t.rd Reg.RTC_STAMP_DATE_STAMPED = 1 ∧
      t.rd Reg.RTC_STAMP_TIME_SEC = s.rd Reg.RTC_TIME_SEC % 64 ∧ t.rd Reg.RTC_STAMP_TIME_MIN = s.rd Reg.RTC_TIME_MIN % 64 ∧
      t.rd Reg.RTC_STAMP_TIME_HOUR = s.rd Reg.RTC_TIME_HOUR % 32 ∧ t.rd Reg.RTC_STAMP_DATE_DAY = s.rd Reg.RTC_DATE_DAY % 32 := by
  obtain ⟨u, hexec, hu⟩ : ∃ u, exec (.backupSwitchVbat vbat) s = fin u ∧
      Touches [.tap] [Reg.PWR_MODE_MODE, Hid.panelDis] (((s.count 0xA7).stamp).wr Reg.RTC_STAT_ON_VBAT 1) u := by
    by_cases h : vbat = true ∧ s.on Hid.resetActive = true
    · exact ⟨_, (if_neg (by simp [hvbat])).trans (if_pos h), .of (by decide) (Touches.refl _).wrs.setTap⟩
    · exact ⟨_, (if_neg (by simp [hvbat])).trans (if_neg h), .of (by decide) (Touches.refl _)⟩
  have hshows := State.stamp_shows (s := s.count 0xA7) (by rwa [State.on, State.count_rd])
  simp only [State.count_rd] at hshows
  rw [hexec]
  refine exists_fin ⟨?_, ?_⟩
  · rw [State.evcEdge_rd, hu.rd (by decide), State.rd_wr_lt (by decide)]
  · simpa (disch := decide) only [State.evcEdge_rd, hu.rd, State.rd_wr_ne] using hshows

theorem exec_vbatLow (hon : s.on Reg.RTC_STAT_ON_VBAT = true) (hlow : s.on Reg.RTC_STAT_VBAT_LOW = false) (hmode : s.mode ≠ mBackup) :
    ∃ t, exec .vbatLow s = .next t ∧ t.rd Reg.RTC_STAT_VBAT_LOW = 1 ∧ bit t.intCause 8 = true := by
  have hpower : ((s.wr Reg.RTC_STAT_VBAT_LOW 1).count 0xAF).mainPower = true := by
    have hkept : ((s.wr Reg.RTC_STAT_VBAT_LOW 1).count 0xAF).mode = s.mode := (Touches.refl s).wr.count.rd (by decide)
    simpa [State.mainPower, hkept] using hmode
  have he : exec .vbatLow s = fin (((s.wr Reg.RTC_STAT_VBAT_LOW 1).count 0xAF).raise 8) :=
    (if_pos ⟨hon, hlow⟩).trans (congrArg fin (if_pos hpower))
  rw [he]
  refine exists_fin ⟨?_, State.evcEdge_causes State.bit_raise⟩
  exact ((Touches.refl _).count.raise.evcEdge.rd (by decide)).trans (State.rd_wr_lt (f := Reg.RTC_STAT_VBAT_LOW) (by decide))

/-- Settles O20: each event of the backup domain comes down to the writes of its own fields. -/
theorem backupDomainEvents : Obligations.BackupDomainEvents := by
  unfold Obligations.BackupDomainEvents
  refine ⟨fun s temp => exec_rtcCompSample, fun s hsecs => ?_, fun s => exec_rtcOscStop, fun s => ?_,
    fun s vbat => exec_backupSwitchVbat, fun s => ?_, fun s => exec_vbatLow, fun s => ?_, fun s => ?_⟩
  · refine ⟨_, if_pos hsecs, ?_⟩
    rw [State.evcEdge_rd, State.rd_wr_same]
    split <;> rfl
  · refine exists_fin ⟨?_, ?_⟩
    · rw [State.evcEdge_rd, State.rd_wr_lt (by decide)]
    · rw [State.evcEdge_rd, State.rd_wr_ne _ _ _ _ (by decide)]
  · apply exists_fin
    simp (disch := decide) only [State.evcEdge_rd, State.wrs, State.rd_wr_ne, State.rd_wr_lt, and_self]
  · refine exists_fin ?_
    rw [State.evcEdge_rd, State.rd_wr_lt (by decide)]
  · refine exists_fin ?_
    rw [State.evcEdge_rd, State.rd_wr_lt (by decide)]

end Sys2Proof.Machine
end

section
/-! A word to a command register of the calendar clock, of the modes or of the network (R276, R279, R337, R385): what it meets and does. -/

namespace Sys2Proof.Machine

variable {s u : State} {a v c : Nat}

/-- The registers PWR_MODE, RTC_CMD, RTC_SHIFT and NET_CMD. -/
def timeCommandRegs : List Nat := [0x0410, 0x3C05, 0x3C09, 0x4001]

/-- No door, lock or update keeps a word from these registers, and no rule binds what they hold. -/
theorem State.takes_timeCommand (ha : a ∈ timeCommandRegs) (hbusy : u.busyBad u a v = false) (hrange : u.rangeBad a v = false) :
    u.Takes a v := by
  simp only [timeCommandRegs, List.mem_cons, List.not_mem_nil, or_false] at ha
  have hchan : (u.checkChan a).1 = a := by
    rw [State.checkChan_fst, if_neg]
    omega
  refine ⟨by omega, by omega, by rw [hchan]; omega, ?_, ?_⟩
  · rcases ha with rfl | rfl | rfl | rfl <;>
      simp [State.wordStat, State.doorBad, doorOf, State.lockBad, State.rgnBad, regionAddr, hbusy, hrange]
  · rw [hchan]
    rcases ha with rfl | rfl | rfl | rfl <;> simp [State.regOk, State.arbOk, State.timeOk, State.netOk, Fld.hits, Reg.RTC_AL_T_SEC, Reg.RTC_AL_D_DAY]

/-- A register of command bits and of fields that only the machine writes keeps its fields. -/
theorem State.wordStore_command (hfields : ∀ f ∈ Reg.fieldsAt a, f.acc = .wo ∨ f.acc = .ro) (hcoach : a < 0x1040 ∨ 0x1080 ≤ a) :
    s.wordStore a v = s := by
  unfold State.wordStore
  rw [if_neg (by omega)]
  split
  · rfl
  · refine List.foldlRecOn (motive := (· = s)) _ _ rfl fun t ht f hf => ?_
    rcases hfields f hf with hacc | hacc <;> simp [State.fieldWrite, hacc, ht]

theorem State.wordApply_rtcCmd : s.wordApply 0x3C05 v = s.rtcCmd v := by
  simp [State.wordApply, State.wordStore_command (a := 0x3C05) (by decide) (by decide), State.hookOut]

theorem State.wordApply_mode : s.wordApply 0x0410 v = s.modeWrite (bits v 8 3) := by
  simp [State.wordApply, State.wordStore_command (a := 0x0410) (by decide) (by decide), State.hookLow]

theorem State.wordApply_relink (hon : s.netOn = true) : s.wordApply 0x4001 1 = s.linkDrop := by
  simp [State.wordApply, State.wordStore_command (a := 0x4001) (by decide) (by decide), State.hookHigh, bit, hon]

theorem State.wordApply_scRetry : s.wordApply 0x4001 2 = s.scRetry := by
  simp [State.wordApply, State.wordStore_command (a := 0x4001) (by decide) (by decide), State.hookHigh, bit]

/-- The frame of such a word at an open port is answered with OK, and leaves what the word does. -/
theorem hostWrite_timeCommand (hport : s.port = .opened) (ha : a ∈ timeCommandRegs) (hshift : a ≠ 0x3C09)
    (hbusy : s.arrived.busyBad s.arrived a v = false) (hrange : s.arrived.rangeBad a v = false) :
    ∃ t, fin (s.hostWrite a [v]) = .next t ∧ t.rd Reg.HOST_LAST_STATUS = 0 ∧
      Touches [.arb, .resp, .sent] (Touches.busFlds ++ Touches.lastFlds) (s.arrived.wordApply a v) t := by
  have htakes := State.takes_timeCommand ha hbusy hrange
  have hout : (a + [v].length ≤ 0x1040 ∨ 0x1080 ≤ a) ∧ a ≠ 0x0028 := by
    simp only [timeCommandRegs, List.mem_cons, List.not_mem_nil, or_false] at ha
    simp only [List.length_singleton]
    omega
  have hdone : s.arrived.wordDone a v = s.arrived.wordApply a v := State.wordDone_outside (by simp at hout; omega)
  exact hdone ▸ hostWrite_one hport ⟨hout.2, hshift⟩ (State.lockRead_outside hout.1).symm htakes

/-! RTC_CMD (R276, R283). -/

/-- A word of RTC_CMD is taken where the clock runs, or asks for REARM alone, and what it asks to load is possible. -/
theorem State.rtcCmd_taken (hport : s.port = .opened) (hosc : v % 4 = 0 ∨ s.on Hid.oscStopped = false)
    (hset : bit v 0 = true → s.setOk = true) (hwday : bit v 1 = true → s.rd Reg.RTC_SET_DATE_WDAY ≤ 6) :
    ∃ t, fin (s.hostWrite 0x3C05 [v]) = .next t ∧ t.rd Reg.HOST_LAST_STATUS = 0 ∧
      Touches [.arb, .resp, .sent] (Touches.busFlds ++ Touches.lastFlds) (s.arrived.rtcCmd v) t := by
  have hrd : ∀ f : Fld, f.id ∉ [Reg.HOST_DOOR_STEP].map Fld.id → s.arrived.rd f = s.rd f := fun f hf => Touches.arrived.rd hf
  rw [← State.wordApply_rtcCmd]
  refine hostWrite_timeCommand hport (by decide) (by decide) ?_ ?_
  · have hstop : s.arrived.on Hid.oscStopped = s.on Hid.oscStopped := Touches.arrived.on (by decide)
    simp only [State.busyBad, busAddr, hatchReg, hstop]
    rcases hosc with h | h <;> simp [h]
  · have hok : s.arrived.setOk = s.setOk := by simp (disch := decide) only [State.setOk, hrd]
    simp only [State.rangeBad, selectMax, State.rangeHigh, hok, hrd Reg.RTC_SET_DATE_WDAY (by decide)]
    cases h0 : bit v 0 <;> cases h1 : bit v 1 <;> simp_all

theorem exec_rtcSet (hport : s.port = .opened) (hosc : s.on Hid.oscStopped = false) (hset : s.setOk = true) :
    ∃ t, exec .rtcSet s = .next t ∧ t.rd Reg.HOST_LAST_STATUS = 0 ∧ t.rd Hid.rtcPend = 1 := by
  obtain ⟨t, ht, hstatus, htouch⟩ := State.rtcCmd_taken (v := 1) hport (.inr hosc) (fun _ => hset) (fun h => absurd h (by decide))
  refine ⟨t, ht, hstatus, ?_⟩
  have hcmd : s.arrived.rtcCmd 1 = s.arrived.setAccept (s.arrived.storedWord 0x3C03) (s.arrived.storedWord 0x3C04) := by simp [State.rtcCmd, bit]
  rw [htouch.rd (by decide), hcmd, State.setAccept, State.count_rd]
  simp (disch := decide) only [State.wrs, State.rd_wr_ne, State.rd_wr_lt]

theorem exec_rtcSetWday (hport : s.port = .opened) (hosc : s.on Hid.oscStopped = false) (hwday : s.rd Reg.RTC_SET_DATE_WDAY ≤ 6) :
    ∃ t, exec .rtcSetWday s = .next t ∧ t.rd Reg.HOST_LAST_STATUS = 0 ∧ t.rd Reg.RTC_DATE_WDAY = s.rd Reg.RTC_SET_DATE_WDAY := by
  obtain ⟨t, ht, hstatus, htouch⟩ := State.rtcCmd_taken (v := 2) hport (.inr hosc) (fun h => absurd h (by decide)) (fun _ => hwday)
  refine ⟨t, ht, hstatus, ?_⟩
  have hcmd : s.arrived.rtcCmd 2 = s.arrived.wr Reg.RTC_DATE_WDAY (s.arrived.rd Reg.RTC_SET_DATE_WDAY) := by simp [State.rtcCmd, bit]
  rw [htouch.rd (by decide), hcmd, Touches.arrived.rd (by decide)]
  exact State.rd_wr_lt (show _ < 8 by omega)

theorem exec_rtcRearm (hport : s.port = .opened) :
    ∃ t, exec .rtcRearm s = .next t ∧ t.rd Reg.HOST_LAST_STATUS = 0 ∧ t.rd Reg.RTC_STAMP_DATE_STAMPED = 0 := by
  obtain ⟨t, ht, hstatus, htouch⟩ := State.rtcCmd_taken (v := 4) hport (.inl rfl) (fun h => absurd h (by decide)) (fun h => absurd h (by decide))
  refine ⟨t, ht, hstatus, ?_⟩
  have hcmd : s.arrived.rtcCmd 4 = s.arrived.wr Reg.RTC_STAMP_DATE_STAMPED 0 := by simp [State.rtcCmd, bit]
  rw [htouch.rd (by decide), hcmd, State.rd_wr_lt (by decide)]

/-! The mode commands (R337, R338). -/

theorem State.modeWrite_shows (hc : c < 8) : (s.modeWrite c).rd Reg.PWR_MODE_PEND = 1 ∧ (s.modeWrite c).rd Hid.modeCmd = c := by
  have hlt : c < 2 ^ Hid.modeCmd.w := hc
  rw [State.modeWrite]
  simp (disch := decide) only [State.wrs, State.rd_wr_ne, State.rd_wr_lt, State.rd_wr_lt hlt, and_self]

theorem State.arrived_modeAllows : s.arrived.modeAllows c = s.modeAllows c := by
  simp (disch := decide) only [State.modeAllows, State.mode, Touches.arrived.rd]

/-- A mode command that the mode allows waits for the next tick. -/
theorem hostWrite_mode (hport : s.port = .opened) (hc : c < 8) (hallows : s.modeAllows c = true) :
    ∃ t, fin (s.hostWrite 0x0410 [c * 0x100]) = .next t ∧ t.rd Reg.HOST_LAST_STATUS = 0 ∧ t.rd Reg.PWR_MODE_PEND = 1 ∧ t.rd Hid.modeCmd = c := by
  have hbits : bits (c * 0x100) 8 3 = c := by simp only [bits]; omega
  have hrange : s.arrived.rangeBad 0x0410 (c * 0x100) = false := by
    simp [State.rangeBad, selectMax, State.rangeLow, hbits, State.arrived_modeAllows, hallows]
  obtain ⟨t, ht, hstatus, htouch⟩ := hostWrite_timeCommand hport (by decide) (by decide) (by simp [State.busyBad, busAddr, hatchReg]) hrange
  rw [State.wordApply_mode, hbits] at htouch
  refine ⟨t, ht, hstatus, ?_⟩
  rw [htouch.rd (by decide), htouch.rd (by decide)]
  exact State.modeWrite_shows hc

/-! NET_CMD (R357, R364). -/

theorem State.linkDrop_shows (hl : s.on Reg.NET_STAT_LINK = true) :
    s.linkDrop.rd Reg.NET_STAT_LINK = 0 ∧ bit (s.linkDrop.rd Reg.NET_FLAGS_FLAGS) 0 = true := by
  obtain ⟨v, hv⟩ : ∃ v, (s.wr Reg.NET_STAT_LINK 0).or Reg.NET_FLAGS_FLAGS 1 = v := ⟨_, rfl⟩
  have he : s.linkDrop = (v.scClose.ipDrop.count 0xB1).raise 11 := by
    rw [← hv]
    exact if_pos hl
  have ht := ((Touches.scClose (s := v)).andThen .ipDrop).count (code := 0xB1) |>.raise (n := 11)
  rw [he, ht.rd (by decide), ht.rd (by decide), ← hv]
  refine ⟨?_, State.bit_or_same (n := 0) (by decide)⟩
  rw [State.rd_or_ne (by decide), State.rd_wr_lt (by decide)]

theorem hostWrite_netCmd (hport : s.port = .opened) :
    ∃ t, fin (s.hostWrite 0x4001 [v]) = .next t ∧ t.rd Reg.HOST_LAST_STATUS = 0 ∧
      Touches [.arb, .resp, .sent] (Touches.busFlds ++ Touches.lastFlds) (s.arrived.wordApply 0x4001 v) t :=
  hostWrite_timeCommand hport (by decide) (by decide) (by simp [State.busyBad, busAddr, hatchReg])
    (by simp [State.rangeBad, selectMax, State.rangeHigh])

theorem State.arrived_netOn : s.arrived.netOn = s.netOn := by
  have hrd : ∀ f : Fld, f.id ∉ [Reg.HOST_DOOR_STEP].map Fld.id → s.arrived.rd f = s.rd f := fun f hf => Touches.arrived.rd hf
  have hmode : s.arrived.mode = s.mode := hrd Reg.PWR_MODE_MODE (by decide)
  simp [State.netOn, State.native, State.operating, State.alive, State.on, hmode, hrd Hid.resetActive (by decide),
    hrd Reg.CLK_STAT_FALLBACK (by decide), hrd Reg.NET_STAT_PP_RUN (by decide)]

theorem exec_netRelink (hport : s.port = .opened) (hon : s.netOn = true) (hl : s.on Reg.NET_STAT_LINK = true) :
    ∃ t, exec .netRelink s = .next t ∧ t.rd Reg.HOST_LAST_STATUS = 0 ∧ t.rd Reg.NET_STAT_LINK = 0 ∧ bit (t.rd Reg.NET_FLAGS_FLAGS) 0 = true := by
  obtain ⟨t, ht, hstatus, htouch⟩ := hostWrite_netCmd (v := 1) hport
  rw [State.wordApply_relink (State.arrived_netOn.trans hon)] at htouch
  refine ⟨t, ht, hstatus, ?_⟩
  rw [htouch.rd (by decide), htouch.rd (by decide)]
  exact State.linkDrop_shows ((Touches.arrived.on (by decide)).trans hl)

theorem State.scRetry_shows : s.scRetry.rd Reg.NET_SC_STAT_WAIT = 0 ∧ (s.rd Reg.NET_STAT_SC_STATE = 6 → s.scRetry.rd Reg.NET_STAT_SC_STATE = 3) := by
  obtain ⟨u, hu⟩ : ∃ u, s.wrs [(Hid.scBackoff, s.netImg.scMin), (Reg.NET_SC_STAT_WAIT, 0)] = u := ⟨_, rfl⟩
  have he : s.scRetry = if u.rd Reg.NET_STAT_SC_STATE = 6 then u.wr Reg.NET_STAT_SC_STATE 3 else u := by rw [← hu]; rfl
  have hwait : u.rd Reg.NET_SC_STAT_WAIT = 0 := by rw [← hu]; exact State.rd_wr_lt (by decide)
  have hstate : u.rd Reg.NET_STAT_SC_STATE = s.rd Reg.NET_STAT_SC_STATE := by
    rw [← hu]
    simp (disch := decide) only [State.wrs, State.rd_wr_ne]
  rw [he, hstate]
  split
  · exact ⟨(State.rd_wr_ne _ _ _ _ (by decide)).trans hwait, fun _ => State.rd_wr_lt (by decide)⟩
  · exact ⟨hwait, fun h => absurd h ‹_›⟩

theorem exec_netScRetry (hport : s.port = .opened) :
    ∃ t, exec .netScRetry s = .next t ∧ t.rd Reg.HOST_LAST_STATUS = 0 ∧ t.rd Reg.NET_SC_STAT_WAIT = 0 ∧
      (s.rd Reg.NET_STAT_SC_STATE = 6 → t.rd Reg.NET_STAT_SC_STATE = 3) := by
  obtain ⟨t, ht, hstatus, htouch⟩ := hostWrite_netCmd (v := 2) hport
  rw [State.wordApply_scRetry] at htouch
  refine ⟨t, ht, hstatus, ?_⟩
  rw [htouch.rd (by decide), htouch.rd (by decide), ← Touches.arrived.rd (f := Reg.NET_STAT_SC_STATE) (by decide)]
  exact State.scRetry_shows

end Sys2Proof.Machine
end

section
/-! Frames that end otherwise (R275, R279, R337, R392, R393): one that finds a shift under way, one that is refused, a read, a reset. -/

namespace Sys2Proof.Machine

variable {s u x : State} {a v n : Nat} {hold : Bool}

theorem State.arrived_rd {f : Fld} (hf : f.id ∉ [Reg.HOST_DOOR_STEP].map Fld.id) : s.arrived.rd f = s.rd f := Touches.arrived.rd hf

/-! GO of a shift (R279). -/

theorem State.rtcShow_pend (h : s.on Reg.RTC_STAT_SHIFT_PEND = false) : s.rtcShow.on Reg.RTC_STAT_SHIFT_PEND = false := by
  have hdone : ∀ t : State, t.shiftDone.on Reg.RTC_STAT_SHIFT_PEND = false := fun t => by
    have hrd : t.shiftDone.rd Reg.RTC_STAT_SHIFT_PEND = 0 := (State.count_rd _ _ _).trans (State.rd_wr_lt (by decide))
    simp [State.on, hrd]
  unfold State.rtcShow State.rtcRun
  split
  · exact h
  · split
    · exact h
    · unfold State.whenB
      extract_lets
      split
      · exact hdone _
      · exact ((Touches.refl s).freeBelow.wr.wr.on (by decide)).trans h

theorem Touches.rtcShow : Touches [] [Hid.rtcHold, Reg.RTC_SUBSEC_SUBSEC, Reg.RTC_STAT_SHIFT_PEND] s s.rtcShow :=
  .of (by decide) (branch (refl s) rtcRun)

/-- The word of RTC_SHIFT that starts a shift. -/
def shiftWord (n : Nat) (hold : Bool) : Nat := n + b2n hold * 2 ^ 15 + 2 ^ 31

theorem shiftWord_bits (hn : n < 32768) :
    bits (shiftWord n hold) 0 15 = n ∧ bits (shiftWord n hold) 15 1 = b2n hold ∧ bit (shiftWord n hold) 31 = true := by
  cases hold <;> simp [bits, bit, shiftWord, b2n] <;> omega

theorem State.wordApply_shift (hn : n < 32768) : s.wordApply 0x3C09 (shiftWord n hold) =
    ((s.wr Reg.RTC_SHIFT_N n).wr Reg.RTC_SHIFT_SUB (b2n hold)).shiftGo := by
  obtain ⟨hN, hsub, hgo⟩ := shiftWord_bits (hold := hold) hn
  have hfields : Reg.fieldsAt 0x3C09 = [Reg.RTC_SHIFT_N, Reg.RTC_SHIFT_SUB, Reg.RTC_SHIFT_GO] := by decide
  have hstore : s.wordStore 0x3C09 (shiftWord n hold) = (s.wr Reg.RTC_SHIFT_N n).wr Reg.RTC_SHIFT_SUB (b2n hold) := by
    simp [State.wordStore, State.ownWrite, hfields, State.each, State.fieldWrite, State.liveBits]
    simp [Reg.RTC_SHIFT_N, Reg.RTC_SHIFT_SUB, Reg.RTC_SHIFT_GO, Fld.chan, bits_and_word, hN, hsub, State.wr]
  simp [State.wordApply, hstore, State.hookOut, hgo]

theorem State.shiftGo_shows (hn : n < 32768) :
    ((s.wr Reg.RTC_SHIFT_N n).wr Reg.RTC_SHIFT_SUB (b2n hold)).shiftGo.rd Reg.RTC_STAT_SHIFT_PEND = 1 ∧
      ((s.wr Reg.RTC_SHIFT_N n).wr Reg.RTC_SHIFT_SUB (b2n hold)).shiftGo.rd Hid.rtcShift = n + b2n hold * 2 ^ 15 := by
  have hsub : b2n hold < 2 ^ Reg.RTC_SHIFT_SUB.w := by cases hold <;> decide
  have hnlt : n < 2 ^ Reg.RTC_SHIFT_N.w := hn
  have hlt : n + b2n hold * 2 ^ 15 < 2 ^ Hid.rtcShift.w := show _ < 65536 by
    cases hold <;> simp [b2n] <;> omega
  rw [State.shiftGo]
  simp (disch := decide) only [State.wrs, State.rd_wr_ne, State.rd_wr_lt, State.rd_wr_lt hsub, State.rd_wr_lt hnlt, State.rd_wr_lt hlt, and_self]

theorem exec_rtcShiftGo {n : Fin 32768} (hport : s.port = .opened) (hosc : s.on Hid.oscStopped = false)
    (hpend : s.on Reg.RTC_STAT_SHIFT_PEND = false) (hn : n.val ≠ 0) :
    ∃ t, exec (.rtcShiftGo n hold) s = .next t ∧ t.rd Reg.HOST_LAST_STATUS = 0 ∧ t.rd Reg.RTC_STAT_SHIFT_PEND = 1 ∧
      t.rd Hid.rtcShift = n.val + b2n hold * 2 ^ 15 := by
  obtain ⟨u, hu⟩ : ∃ u, s.arrived.rtcShow = u := ⟨_, rfl⟩
  have hosc' : u.on Hid.oscStopped = false := by
    rw [← hu, Touches.rtcShow.on (by decide), Touches.arrived.on (by decide), hosc]
  have hpend' : u.on Reg.RTC_STAT_SHIFT_PEND = false := hu ▸ State.rtcShow_pend ((Touches.arrived.on (by decide)).trans hpend)
  obtain ⟨hN, -, hgo⟩ := shiftWord_bits (hold := hold) n.isLt
  have htakes : u.Takes 0x3C09 (shiftWord n.val hold) := State.takes_timeCommand (by decide)
    (by simp [State.busyBad, busAddr, hatchReg, hosc', hpend']) (by simp [State.rangeBad, selectMax, State.rangeHigh, hN, hn])
  obtain ⟨x, hx, htouch⟩ := State.frameWrite_one (s := u) (State.lockRead_outside (.inr (by decide))).symm htakes
  have hfound : s.arrived.frameFinds 0x3C09 1 = u := hu
  rw [State.wordDone_outside (by decide), State.wordApply_shift n.isLt] at htouch
  have hexec : exec (.rtcShiftGo n hold) s = fin (s.hostWrite 0x3C09 [shiftWord n.val hold]) := rfl
  rw [hexec, State.hostWrite_accepted hport (hfound.symm ▸ hx)]
  refine exists_fin ?_
  rw [State.evcEdge_rd, State.evcEdge_rd, State.evcEdge_rd, Touches.respond.rd (f := Reg.RTC_STAT_SHIFT_PEND) (by decide),
    Touches.respond.rd (f := Hid.rtcShift) (by decide), htouch.rd (by decide), htouch.rd (by decide)]
  exact ⟨State.respond_status, State.shiftGo_shows n.isLt⟩

/-! A mode command that the mode refuses (R337). -/

theorem Touches.refuseCounts {st refused} : Touches [] [] s (s.refuseCounts st a n refused) :=
  .of (by decide) (refl s).countIf.countIf.countIf.countIf.countIf

/-- A frame of one word that meets an objection other than a busy resource is refused for it, and counted. -/
theorem State.frameWrite_refused {st : HostStat} (hu : u = s.lockRead a [v]) (ha : a < 0x10000) (hst : u.wordStat u a v = st) (hok : st ≠ .ok)
    (hbusy : st ≠ .busy) (hworst : HostStat.ok.worst st = st) : ∃ refused, s.frameWrite a [v] = { stat := st, s := u.refuseCounts st a 1 refused } := by
  have hone : ({ s := u, bus := (u.hostBursts a 1).isEmpty = false } : Wr).words u a [v] = Wr.one u a v := rfl
  have hlen : ¬ 0x10000 < a + [v].length := Nat.not_lt.mpr ha
  have hstat : (Wr.one u a v).stat u = st := by
    rw [Wr.one_eq, Wr.stat, hst, hworst]
    exact if_neg hok
  refine ⟨(Wr.one u a v).refused, ?_⟩
  rw [State.frameWrite, if_neg (by simp), if_neg hlen, ← hu]
  simp only [List.length_singleton, hone, hstat]
  rw [if_neg hok, if_neg (by simp [hbusy])]

theorem State.hostWrite_refused {data : List Nat} {st : HostStat} (hport : s.port = .opened) (hst : st ≠ .ok)
    (hframe : (s.arrived.frameFinds a data.length).frameWrite a data = { stat := st, s := x }) :
    s.hostWrite a data = (x.count 0xD3).respond { opc := 2, addr := a, len := data.length, words := data } st [] := by
  have harrived : (s.count 0xD0).doorCancel = s.arrived := rfl
  simp [State.hostWrite, State.hostFrame, State.frameGood, State.isSecond, State.frameAct, hport, harrived, hframe, hst, State.countIf,
    State.frameReset]

theorem exec_pwrModeWake_refused (hport : s.port = .opened) (hmode : s.mode = mNative) :
    ∃ t, exec .pwrModeWake s = .next t ∧ t.rd Reg.HOST_LAST_STATUS = 6 ∧ t.rd Reg.PWR_MODE_PEND = s.rd Reg.PWR_MODE_PEND := by
  have hstat : s.arrived.wordStat s.arrived 0x0410 0x400 = .range := by
    have hmode' : s.arrived.mode = mNative := (State.arrived_rd (by decide)).trans hmode
    have hnot : s.arrived.modeAllows 4 = false := by simp [State.modeAllows, hmode', mNative, mStandby, mAuto]
    have hbits : bits 0x400 8 3 = 4 := rfl
    simp [State.wordStat, State.doorBad, doorOf, State.lockBad, State.rgnBad, regionAddr, State.busyBad, busAddr, hatchReg, State.rangeBad, selectMax,
      State.rangeLow, hbits, hnot]
  obtain ⟨refused, hframe⟩ : ∃ refused, s.arrived.frameWrite 0x0410 [0x400] =
      { stat := .range, s := s.arrived.refuseCounts .range 0x0410 1 refused } :=
    State.frameWrite_refused (State.lockRead_outside (.inl (by decide))).symm (by decide) hstat (by decide) (by decide) (by decide)
  have hfound : s.arrived.frameFinds 0x0410 1 = s.arrived := rfl
  have hexec : exec .pwrModeWake s = fin (s.hostWrite 0x0410 [0x400]) := rfl
  rw [hexec, State.hostWrite_refused hport (by decide) (hfound.symm ▸ hframe)]
  refine exists_fin ⟨?_, ?_⟩
  · rw [State.evcEdge_rd, State.respond_status]
    rfl
  · rw [State.evcEdge_rd, Touches.respond.rd (by decide), State.count_rd, Touches.refuseCounts.rd (by decide),
      hfound, State.arrived_rd (by decide)]

end Sys2Proof.Machine
end

section
/-! The read of RTC_TIME, the force of a zone and the resets that the host asks for (R275, R291, R298, R344, R347). -/

namespace Sys2Proof.Machine

variable {s u x : State} {a v : Nat}

/-! A read of RTC_TIME (R275). -/

theorem State.hostRead_accepted {data : List Nat} (hport : s.port = .opened)
    (hframe : (s.arrived.frameFinds a 1).frameRead a 1 = { data := data, s := x }) :
    s.hostRead a = x.respond { opc := 1, addr := a, len := 1 } .ok data := by
  have harrived : (s.count 0xD0).doorCancel = s.arrived := rfl
  simp [State.hostRead, State.hostFrame, State.frameGood, State.isSecond, State.frameAct, hport, harrived, hframe, State.countIf,
    State.frameReset]

theorem State.frameRead_rtcTime :
    ∃ data x, s.frameRead 0x3C00 1 = { data := data, s := x } ∧ Touches [.arb] Touches.busFlds (s.readEffect 0x3C00) x := by
  obtain ⟨r, hr⟩ : ∃ r, s.frameWords 0x3C00 0 0 1 = r := ⟨_, rfl⟩
  have hword : r.2.2 = s.readEffect 0x3C00 := by
    rw [← hr]
    simp [State.frameWords, State.readWord, State.rtcLatched]
  have hread : s.frameRead 0x3C00 1 =
      { data := r.1, s := (r.2.2.hostAsk false 0x3C00 1).countWords 0xD4 (1 - r.2.1) false (r.2.1 == 0) } := by
    rw [← hr]
    have hbus : s.hostOrder 0x3C00 1 = false := by
      rw [State.hostOrder, show (upTo 1).any (fun k => busAddr (0x3C00 + k)) = false from by decide, Bool.and_false]
    exact (if_neg (by decide)).trans ((if_neg (by decide)).trans (if_neg (by simp [hbus])))
  exact ⟨_, _, hread, hword ▸ .of (by decide) (Touches.hostAsk.andThen Touches.countWords)⟩

theorem State.readEffect_rtcTime : (s.readEffect 0x3C00).rd Hid.rtcLatDOn = 1 ∧ (s.readEffect 0x3C00).rd Hid.rtcLatD = s.dateWord % 2 ^ 27 := by
  have he : s.readEffect 0x3C00 = s.rtcRun.wrs [(Hid.rtcLatD, s.dateWord), (Hid.rtcLatDOn, 1), (Hid.rtcLatS, s.rtcRun.rd Reg.RTC_SUBSEC_SUBSEC),
      (Hid.rtcLatSOn, 1)] := rfl
  rw [he]
  simp (disch := decide) only [State.wrs, State.rd_wr_ne, State.rd_wr_same]
  exact ⟨rfl, rfl⟩

theorem exec_rtcTimeRead (hport : s.port = .opened) :
    ∃ t, exec .rtcTimeRead s = .next t ∧ t.rd Reg.HOST_LAST_STATUS = 0 ∧ t.rd Hid.rtcLatDOn = 1 ∧ t.rd Hid.rtcLatD = s.dateWord % 2 ^ 27 := by
  obtain ⟨data, x, hframe, htouch⟩ := s.arrived.frameRead_rtcTime
  have hfound : s.arrived.frameFinds 0x3C00 1 = s.arrived := rfl
  have hexec : exec .rtcTimeRead s = fin (s.hostRead 0x3C00) := rfl
  have hdate : s.arrived.dateWord = s.dateWord := by simp (disch := decide) only [State.dateWord, State.arrived_rd]
  rw [hexec, State.hostRead_accepted hport (hfound.symm ▸ hframe), ← hdate]
  refine exists_fin ⟨?_, ?_⟩
  · rw [State.evcEdge_rd, State.respond_status]
    rfl
  · rw [State.evcEdge_rd, State.evcEdge_rd, Touches.respond.rd (by decide), Touches.respond.rd (by decide), htouch.rd (by decide),
      htouch.rd (by decide)]
    exact State.readEffect_rtcTime

/-! A force of the selected zone (R291, R298). -/

theorem fieldsAt_force : Reg.fieldsAt 0x3E07 = [Reg.ZONE_FORCE_FORCE] := by decide

/-- The machine with a zone's force written and applied. -/
def State.forced (s : State) (v : Nat) : State :=
  (s.wrAt Reg.ZONE_FORCE_FORCE (s.rd Reg.SCHED_ZSEL_SEL) v).zoneApply (s.rd Reg.SCHED_ZSEL_SEL) false

theorem State.wordApply_force (hv : v ≤ 4) : s.wordApply 0x3E07 v = s.forced v := by
  have hsel : s.selected 0x3E02 = s.rd Reg.SCHED_ZSEL_SEL := rfl
  have hbits : bits v 0 3 = v := by simp only [bits]; omega
  have hstore : s.wordStore 0x3E07 v = s.wrAt Reg.ZONE_FORCE_FORCE (s.rd Reg.SCHED_ZSEL_SEL) v := by
    simp [State.wordStore, State.ownWrite, fieldsAt_force, State.each, State.fieldWrite, State.liveBits]
    simp [Reg.ZONE_FORCE_FORCE, Fld.chan, bits_and_word, hsel, hbits]
  have hkept : (s.wrAt Reg.ZONE_FORCE_FORCE (s.rd Reg.SCHED_ZSEL_SEL) v).rd Reg.SCHED_ZSEL_SEL = s.rd Reg.SCHED_ZSEL_SEL :=
    (Touches.refl s).wrAt.rd (by decide)
  simp [State.wordApply, hstore, State.hookOut, hkept, State.forced]

theorem State.forced_shows (hv : v ≤ 4) : (s.forced v).rdAt Reg.ZONE_FORCE_FORCE (s.rd Reg.SCHED_ZSEL_SEL) = v ∧
    (1 ≤ v → (s.forced v).rdAt Reg.ZONE_STATE_SET (s.rd Reg.SCHED_ZSEL_SEL) = v - 1) := by
  obtain ⟨z, hz⟩ : ∃ z, s.rd Reg.SCHED_ZSEL_SEL = z := ⟨_, rfl⟩
  have hforce : (s.wrAt Reg.ZONE_FORCE_FORCE z v).rdAt Reg.ZONE_FORCE_FORCE z = v :=
    (State.rdAt_wrAt_same ..).trans (Nat.mod_eq_of_lt (show v < 8 by omega))
  rw [State.forced, hz]
  refine ⟨(Touches.zoneApply.rdAt (by decide) _).trans hforce, fun h1 => ?_⟩
  have hset : (s.wrAt Reg.ZONE_FORCE_FORCE z v).zoneApply z false = (s.wrAt Reg.ZONE_FORCE_FORCE z v).wrAt Reg.ZONE_STATE_SET z (v - 1) := by
    have hne : v ≠ 0 := by omega
    simp [State.zoneApply, hforce, hne, State.whenB]
  rw [hset, State.rdAt_wrAt_same]
  exact Nat.mod_eq_of_lt (show v - 1 < 4 by omega)

theorem State.takes_force (hfree : u.rgnHolds = false) (hv : v ≤ 4) : u.Takes 0x3E07 v := by
  have hchan : u.checkChan 0x3E07 = (0x3E07, u.rd Reg.SCHED_ZSEL_SEL) := by
    simp [State.checkChan, fieldsAt_force, Reg.ZONE_FORCE_FORCE, Fld.chan]
    rfl
  refine ⟨by decide, by decide, by rw [State.checkChan_fst]; decide, ?_, ?_⟩
  · simp [State.wordStat, State.doorBad, doorOf, State.lockBad, State.rgnBad, hfree, State.busyBad, busAddr, hatchReg, State.rangeBad,
      selectMax, State.rangeHigh]
  · have hfree' : (u.forced v).rgnHolds = false := by
      have hw : Touches [] _ u (u.forced v) := (Touches.refl u).wrAt.andThen .zoneApply
      simpa only [State.rgnHolds, hw.rd (f := Reg.RGN_CTRL_STATE) (by decide)] using hfree
    rw [State.wordApply_force hv, State.withUpdate_free hfree', hchan]
    simp [State.regOk, State.timeOk, (State.forced_shows hv).1, hv]

theorem exec_zoneForceWrite (hport : s.port = .opened) (hfree : s.rgnHolds = false) (hv : v ≤ 4) :
    ∃ t, exec (.zoneForceWrite v) s = .next t ∧ t.rd Reg.HOST_LAST_STATUS = 0 ∧ t.rdAt Reg.ZONE_FORCE_FORCE (s.rd Reg.SCHED_ZSEL_SEL) = v ∧
      (1 ≤ v → t.rdAt Reg.ZONE_STATE_SET (s.rd Reg.SCHED_ZSEL_SEL) = v - 1) := by
  have htakes : s.arrived.Takes 0x3E07 v := State.takes_force (State.arrived_rgnHolds.trans hfree) hv
  obtain ⟨t, ht, hstatus, htouch⟩ := hostWrite_one hport (by decide) (State.lockRead_outside (.inr (by decide))).symm htakes
  rw [State.wordDone_outside (by decide), State.wordApply_force hv] at htouch
  refine ⟨t, ht, hstatus, ?_⟩
  rw [htouch.rdAt (by decide), htouch.rdAt (by decide), ← State.arrived_rd (f := Reg.SCHED_ZSEL_SEL) (by decide)]
  exact State.forced_shows hv

/-! SOFT and COLD (R344, R347). -/

/-- The reset that a word of PWR_RST asks for is not the word's own: the frame leaves the registers. -/
theorem State.frameWrite_reset (hkey : bits v 8 8 = 0x5A) (hcmd : v % 4 ≠ 3) :
    ∃ x, s.frameWrite 0x0416 [v] = { s := x, rst := v % 4 } ∧ Touches [.arb] Touches.busFlds s x := by
  have happly : s.wordApply 0x0416 v = s := by
    simp [State.wordApply, State.wordStore_command (a := 0x0416) (by decide) (by decide), State.hookLow]
  have hstat : s.wordStat s 0x0416 v = .ok := by
    simp [State.wordStat, State.doorBad, doorOf, State.lockBad, State.rgnBad, regionAddr, State.busyBad, busAddr, hatchReg, State.rangeBad,
      selectMax, State.rangeLow, hkey, hcmd]
  have hchan : s.checkChan 0x0416 = (0x0416, 0) := by
    have hfields : Reg.fieldsAt 0x0416 = [Reg.PWR_RST_CMD, Reg.PWR_RST_KEY] := by decide
    simp [State.checkChan, hfields, Reg.PWR_RST_CMD, Reg.PWR_RST_KEY]
  have hone : ({ s := s, bus := (s.hostBursts 0x0416 1).isEmpty = false } : Wr).words s 0x0416 [v] = Wr.one s 0x0416 v := rfl
  have hfits : (Wr.one s 0x0416 v).stat s = .ok := by
    simp [Wr.stat, Wr.fits, Wr.one_eq, hstat, hchan, HostStat.worst, State.regOk, State.arbOk]
  obtain ⟨x, hx⟩ : ∃ x, (s.hostAsk true 0x0416 1).countWords 0xD5 1 (!decide ((s.hostBursts 0x0416 1).isEmpty = false)) true = x := ⟨_, rfl⟩
  refine ⟨x, ?_, hx ▸ .of (by decide) (Touches.hostAsk.andThen Touches.countWords)⟩
  rw [State.frameWrite, if_neg (by simp), if_neg (by simp), State.lockRead_outside (.inl (by simp))]
  simp only [List.length_singleton, hone, hfits, if_true]
  rw [Wr.one_eq, ← hx]
  simp [hchan, happly]

end Sys2Proof.Machine
end

section
/-! The interrupt causes and the event counters after a soft reset (R347): both are cleared, and nothing that the reset does afterwards sets a
cause or counts, for a counter at rest names no source. -/

namespace Sys2Proof.Machine

/-- No cause is set and every event counter is at rest. -/
structure State.AtRest (s : State) : Prop where
  cause : s.intCause = 0
  evcs : s.evcs = List.replicate 16 {}

namespace State.AtRest

variable {s t : State}

theorem of_eq (hs : s.AtRest) (hc : t.intCause = s.intCause) (he : t.evcs = s.evcs) : t.AtRest := ⟨hc.trans hs.cause, he.trans hs.evcs⟩

theorem wrAt {f ch v} (hs : s.AtRest) : (s.wrAt f ch v).AtRest := hs.of_eq rfl rfl

theorem wr {f v} (hs : s.AtRest) : (s.wr f v).AtRest := hs.wrAt

theorem or {f v} (hs : s.AtRest) : (s.or f v).AtRest := hs.wrAt

theorem putBit {f n b} (hs : s.AtRest) : (s.putBit f n b).AtRest := hs.wrAt

theorem wrs {l : List (Fld × Nat)} (hs : s.AtRest) : (s.wrs l).AtRest := by
  induction l generalizing s with
  | nil => exact hs
  | cons p l ih => exact ih hs.wrAt

theorem wrsAt {ch} {l : List (Fld × Nat)} (hs : s.AtRest) : (s.wrsAt ch l).AtRest := by
  induction l generalizing s with
  | nil => exact hs
  | cons p l ih => exact ih hs.wrAt

theorem each {α : Type} {l : List α} {f : State → α → State} (hs : s.AtRest) (hf : ∀ t a, t.AtRest → (f t a).AtRest) :
    (s.each l f).AtRest := List.foldlRecOn (motive := State.AtRest) l f hs fun t ht a _ => hf t a ht

theorem whenB {b : Bool} {f : State → State} (hs : s.AtRest) (hf : ∀ t, t.AtRest → (f t).AtRest) : (s.whenB b f).AtRest := by
  unfold State.whenB
  split
  · exact hf s hs
  · exact hs

theorem branch {c : Prop} {inst : Decidable c} (hs : s.AtRest) (ht : t.AtRest) : (if c then s else t).AtRest := by
  split
  · exact hs
  · exact ht

theorem freeBelow {n} (hs : s.AtRest) : (s.freeBelow n).2.AtRest := hs.of_eq rfl rfl

/-- A counter at rest counts no event: event codes begin at 1. -/
theorem count {code} (hs : s.AtRest) (hcode : code ≠ 0) : s.count code = s := by
  have hsrc : ∀ k, (s.evcs.getD k {}).src = 0 := by
    intro k
    rw [hs.evcs, List.getD_eq_getElem?_getD, List.getElem?_replicate]
    split <;> rfl
  change s.countN code 1 = s
  unfold State.countN
  split
  · rfl
  · exact List.foldl_fixed' (fun k => by simp only [hsrc, hcode.symm, false_and, if_false]) _

theorem refreshZones (hs : s.AtRest) : s.refreshZones.AtRest := by
  unfold State.refreshZones
  extract_lets old new
  have hcount : ((s.wr Reg.OCC_ZONE_OCC new).count 0x55).AtRest := by
    rw [(hs.wr (v := new)).count (by decide)]
    exact hs.wr
  exact .branch hs (hcount.whenB fun _ ht => ht.wr)

theorem occMoment (hs : s.AtRest) : s.occMoment.AtRest :=
  .each (.each hs fun _ _ ht => ht.wrAt) fun _ _ ht => ht.putBit.refreshZones

theorem fastBesideFailed (hs : s.AtRest) : s.fastBesideFailed.AtRest := .each hs fun _ _ ht => ht.wrAt

theorem calValues (hs : s.AtRest) : s.calValues.AtRest := .each (.each hs fun _ _ ht => ht.wrsAt) fun _ _ ht => ht.wrAt.wrAt

theorem mbEnd (hs : s.AtRest) : s.mbEnd.AtRest := .each (.each hs fun _ _ ht => ht.wrsAt) fun _ _ ht => ht.wrsAt

theorem netPorts (hs : s.AtRest) : s.netPorts.AtRest := by
  have hsc : s.scInit.AtRest := .branch hs.wrs.wr (.branch hs.wrs.wr (.branch hs.wrs.wr.or hs.wrs.wrs))
  exact hsc.wrsAt.wrsAt

theorem netRestart (hs : s.AtRest) : s.netRestart.AtRest := by
  unfold State.netRestart
  extract_lets img zs zones ram avs pp run t u w
  have ht : t.AtRest := State.AtRest.wrs (hs.of_eq rfl rfl)
  have hw : w.AtRest := .each (.each ht.wrs.mbEnd fun _ _ h => h.wrAt) fun _ _ h => .branch h.wrsAt h.wrsAt
  exact .branch hw.freeBelow.wr.netPorts (.each hw.freeBelow.wr.wr fun _ _ h => h.wrAt.wrsAt)

end State.AtRest

/-- After a soft reset no cause is set, and the event counters are at rest. -/
theorem State.softReset_atRest {s : State} {warm : Bool} : (s.softReset warm).AtRest := by
  unfold State.softReset
  extract_lets m t0 t1 t2 t3
  have h0 : t0.AtRest := ⟨rfl, rfl⟩
  have hscan : t0.softScan.AtRest := h0.of_eq rfl rfl
  have hcal : t0.softScan.calValues.refreshRelief.AtRest := hscan.calValues.wrs
  have h3 : t3.AtRest := (hcal.each fun _ _ ht => ht.wrAt).wrs.whenB fun _ ht => ht.wr
  exact (h3.whenB fun _ ht => ht.wrAt).netRestart.occMoment.fastBesideFailed

/-- A soft reset counts itself. -/
theorem State.softReset_count {s : State} {warm : Bool} :
    (s.softReset warm).rd Reg.RST_CAUSE_SOFT_CNT = capN 255 (s.rd Reg.RST_CAUSE_SOFT_CNT + 1) := by
  unfold State.softReset
  extract_lets m t0 t1 t2 t3
  have hcap : capN 255 (s.rd Reg.RST_CAUSE_SOFT_CNT + 1) < 2 ^ Reg.RST_CAUSE_SOFT_CNT.w := show _ < 256 by
    unfold capN
    split <;> omega
  have hset : t2.rd Reg.RST_CAUSE_SOFT_CNT = capN 255 (s.rd Reg.RST_CAUSE_SOFT_CNT + 1) := by
    simp (disch := decide) only [t2, State.wrs, State.rd_wr_ne, State.rd_wr_lt hcap]
  obtain ⟨u, hu⟩ : ∃ u, u = t3.whenB (t3.mode == mIz30) fun t => t.wrAt Hid.izV 2 0x82 := ⟨_, rfl⟩
  have h2 : Touches [] [Reg.SUPV_LANE_SWAP_BUSY, Hid.izV] t2 u :=
    hu ▸ .of (by decide) (((Touches.refl t2).whenB fun t => (Touches.refl t).wr).whenB fun t => (Touches.refl t).wrAt)
  obtain ⟨ram, avs, -, hnet⟩ := Touches.netRestart_of_ram (s := u)
  have hend := (hnet.andThen .occMoment).andThen .fastBesideFailed
  rw [← hu, hend.rd (by decide)]
  exact (h2.rd (by decide)).trans hset

end Sys2Proof.Machine
end

section
/-! SOFT and COLD (R344, R347), and the obligation on the host's time, modes and resets. -/

namespace Sys2Proof.Machine

variable {s : State} {v : Nat}

/-- A word of PWR_RST that asks for a reset: its frame is answered, and then the reset takes hold. -/
theorem State.hostWrite_reset (hport : s.port = .opened) (hkey : bits v 8 8 = 0x5A) (hcmd : v % 4 ≠ 3) :
    ∃ y, s.hostWrite 0x0416 [v] = y.frameReset (v % 4) ∧
      Touches [.arb, .resp, .sent] (Reg.HOST_DOOR_STEP :: Touches.busFlds ++ Touches.lastFlds) s y := by
  obtain ⟨x, hx, htouch⟩ := State.frameWrite_reset (s := s.arrived) hkey hcmd
  have harrived : (s.count 0xD0).doorCancel = s.arrived := rfl
  have hfound : s.arrived.frameFinds 0x0416 1 = s.arrived := rfl
  refine ⟨x.respond { opc := 2, addr := 0x0416, len := 1, words := [v] } .ok [], ?_,
    .of (by decide) ((Touches.arrived.andThen htouch).andThen .respond)⟩
  simp [State.hostWrite, State.hostFrame, State.frameGood, State.isSecond, State.frameAct, hport, harrived, hfound, hx, State.countIf]

theorem exec_pwrRstSoft (hport : s.port = .opened) :
    ∃ t, exec .pwrRstSoft s = .next t ∧ t.on Hid.softHold = true ∧ t.rd Reg.RST_CAUSE_SOFT_CNT = capN 255 (s.rd Reg.RST_CAUSE_SOFT_CNT + 1) ∧
      t.rd Reg.RST_CAUSE_LAST_SOFT = 0 ∧ t.intCause = 0 := by
  obtain ⟨y, hwrite, hy⟩ := State.hostWrite_reset (v := 0x5A01) hport (by decide) (by decide)
  obtain ⟨hhold, hlast, -⟩ := State.softReset_shows (s := y) (warm := false)
  obtain ⟨hcause, hevcs⟩ := State.softReset_atRest (s := y) (warm := false)
  have hexec : exec .pwrRstSoft s = fin (y.softReset false) := congrArg fin hwrite
  refine ⟨y.softReset false, ?_, State.on_iff.mpr hhold, ?_, hlast, hcause⟩
  · rw [hexec, fin_next, State.evcEdge_of_evcs_rest hevcs]
  · rw [State.softReset_count, hy.rd (by decide)]

theorem State.alive_of_opened (hport : s.port = .opened) : s.alive = true := by
  by_contra h
  have hoff : s.port = .off := if_pos (.inl (by simpa using h))
  exact absurd (hport.symm.trans hoff) (by decide)

theorem exec_pwrRstCold (hport : s.port = .opened) :
    ∃ t, exec .pwrRstCold s = .next t ∧ t.mode = mBoot ∧ t.rd Reg.RST_CAUSE_CAUSE = 6 ∧ t.alive = false := by
  obtain ⟨y, hwrite, hy⟩ := State.hostWrite_reset (v := 0x5A02) hport (by decide) (by decide)
  have halive : y.alive = true := by
    rw [← State.alive_of_opened hport]
    simp only [State.alive, State.mode, hy.rd (f := Reg.PWR_MODE_MODE) (by decide), hy.rd (f := Hid.resetActive) (by decide)]
  have hexec : exec .pwrRstCold s = fin (y.assertReset 6) := congrArg fin hwrite
  obtain ⟨t, ht, hmode, hcause, hactive, -⟩ := fin_assertReset halive (cause := 6) (by decide)
  exact ⟨t, hexec.trans ht, hmode, hcause, by simp [State.alive, hactive]⟩

/-- Settles O40: each frame is taken as it stands, and its answer touches none of the fields that its word writes; a reset follows its answer. -/
theorem hostTimeModesAndResets : Obligations.HostTimeModesAndResets := by
  unfold Obligations.HostTimeModesAndResets
  exact ⟨fun s => exec_rtcSet, fun s => exec_rtcSetWday, fun s => exec_rtcRearm, fun s n hold => exec_rtcShiftGo, fun s => exec_rtcTimeRead,
    fun s v => exec_zoneForceWrite, fun s hport hmode => hostWrite_mode (c := 1) hport (by decide) (by simp [State.modeAllows, hmode]),
    fun s hport hmode => hostWrite_mode (c := 2) hport (by decide) (by simp [State.modeAllows, hmode]),
    fun s hport hmode => hostWrite_mode (c := 3) hport (by decide) (by simp [State.modeAllows, hmode]),
    fun s hport hmode => hostWrite_mode (c := 4) hport (by decide) (by simp [State.modeAllows, hmode]), fun s => exec_pwrModeWake_refused,
    fun s => exec_pwrRstSoft, fun s => exec_pwrRstCold, fun s => exec_netRelink, fun s => exec_netScRetry⟩

end Sys2Proof.Machine
end

section
/-! The step, the machine after reset and OTP over a step (R308, R344, R363, R409, R410). -/

namespace Sys2Proof.Machine

variable {s t : State}

/-- Settles O55: a step that takes a command leads to a machine that keeps what is programmed, and an idle one changes nothing. -/
theorem fusesStayBlown : Obligations.FusesStayBlown := by
  intro s t h
  have hkept : FusesKept s.otp t.otp := by
    cases hp : s.pending with
    | nil =>
      rw [step_of_pending_nil hp] at h
      cases h
      exact .refl _
    | cons c rest => exact (leads_of_step hp h).fuses
  exact ⟨hkept.hash, hkept.signed, hkept.key, hkept.identity⟩

/-- Settles O1: a step is its command's meaning on the rest of the queue, or nothing where no command waits. -/
theorem stepRunsFrontCommand : Obligations.StepRunsFrontCommand :=
  ⟨fun _ _ _ => step_of_pending_cons, fun _ => step_of_pending_nil⟩

/-- The sixteen event counters after reset all rest. -/
theorem State.reset_evc_count (k : Nat) : (State.reset.evcs.getD k {}).count = 0 := by
  have hrest : State.reset.evcs = List.replicate 16 {} := rfl
  rw [hrest, List.getD_eq_getElem?_getD, List.getElem?_replicate]
  split <;> rfl

/-- Settles O57: the machine after reset lists no cell, so every field rests; the queues and the memories are empty. -/
theorem resetState : Obligations.ResetState :=
  ⟨⟨.nil, rfl, rfl, rfl, rfl, rfl⟩, rfl, rfl, rfl, rfl, rfl, rfl, rfl, rfl, rfl, rfl, fun k _ => State.reset_evc_count k, fun _ => rfl, rfl⟩

end Sys2Proof.Machine
end

section
/-! The set-point of an IZ-30 loop (R447). -/

namespace Sys2Proof.Machine

variable {s : State} {n : Nat}

/-- The quotient truncated towards zero is the library's. -/
theorem truncDiv_eq_tdiv (a b : Int) : truncDiv a b = a.tdiv b := by
  have hpos (n : Nat) : ¬ Int.ofNat n < 0 := not_lt.mpr (Int.natCast_nonneg n)
  cases a <;> cases b <;> simp only [truncDiv, hpos, Int.negSucc_lt_zero, decide_true, decide_false] <;> rfl

theorem State.izSetpoint_own (h : bit (s.iz (0x10 + 16 * n)) 2 = false) : s.izSetpoint n = s.iz16 (0x14 + 16 * n) := by
  rw [State.izSetpoint, h]
  rfl

/-- SP_IN has three bits, so it always names an AIN and not a room unit. -/
theorem State.izSetpoint_external (h : bit (s.iz (0x10 + 16 * n)) 2 = true) :
    s.izSetpoint n = s.iz16 (0x1A + 16 * n) +
      Int.tdiv ((s.iz16 (0x1C + 16 * n) - s.iz16 (0x1A + 16 * n)) * (s.rdAt Hid.izCode (s.iz (0x12 + 16 * n) % 8) : Int)) 4095 := by
  have hain : s.izCodeOf (s.iz (0x12 + 16 * n) % 8) = s.rdAt Hid.izCode (s.iz (0x12 + 16 * n) % 8) :=
    if_pos (Nat.mod_lt _ (by decide))
  rw [State.izSetpoint, if_pos h]
  dsimp only
  rw [hain, truncDiv_eq_tdiv]

theorem State.izSetpoint_top (h : bit (s.iz (0x10 + 16 * n)) 2 = true) (hcode : s.rdAt Hid.izCode (s.iz (0x12 + 16 * n) % 8) = 4095) :
    s.izSetpoint n = s.iz16 (0x1C + 16 * n) := by
  have hfull (x : Int) : Int.tdiv (x * (4095 : Nat)) 4095 = x := Int.mul_tdiv_cancel x (by decide)
  rw [State.izSetpoint_external h, hcode, hfull]
  omega

/-- Settles O60: SPEXT chooses between SP and the scaled code of an AIN. -/
theorem iz30SetPoint : Obligations.Iz30SetPoint :=
  ⟨fun _ _ => State.izSetpoint_own, fun _ _ => State.izSetpoint_external, fun _ _ => State.izSetpoint_top⟩

end Sys2Proof.Machine
end

section
/-! The test port (R456). -/

namespace Sys2Proof.Machine

variable {s : State} {tms tdi : Bool}

theorem exec_tapTckEdge_rise (h : s.mode ≠ mBackup) :
    exec (.tapTckEdge true tms tdi) s = fin { s.takeFree.2 with tap := s.tapRise tms tdi s.takeFree.1 } :=
  (if_neg h).trans (if_neg (by decide))

theorem exec_tapTckEdge_fall (h : s.mode ≠ mBackup) : exec (.tapTckEdge false tms tdi) s = fin { s with tap := s.tap.fall } :=
  (if_neg h).trans (if_pos rfl)

theorem State.tapRise_tdo (free : Nat) : (s.tapRise tms tdi free).tdo = s.tap.tdo := by
  rw [State.tapRise]
  cases s.tap.st <;> rfl

/-- R456: CAPTURE-DR takes the identification where IDCODE is in force. -/
theorem State.tapRise_captureDr (free : Nat) (hid : s.tap.idcode = true) (hst : s.tap.st = .captureDr) :
    (s.tapRise tms tdi free).drShift = s.tapId := by
  simp [State.tapRise, hst, State.tapCaptured, hid]

/-- R456: the identification register has 32 bits, and SHIFT-DR shifts it by one towards TDO. -/
theorem State.tapRise_shiftDr (free : Nat) (hid : s.tap.idcode = true) (hst : s.tap.st = .shiftDr) :
    (s.tapRise tms tdi free).drShift = s.tap.drShift / 2 + b2n tdi * 2 ^ 31 := by
  simp [State.tapRise, hst, TapS.drLen, hid, shiftIn]

theorem TapS.fall_shiftDr {p : TapS} (h : p.st = .shiftDr) : p.fall = { p with tdo := some (bit p.drShift 0) } := by
  simp [TapS.fall, h]

theorem TapS.fall_reset {p : TapS} (h : p.st = .reset) : p.fall = { p with tdo := none, idcode := true } := by
  simp [TapS.fall, h]

theorem TapS.fall_updateDr {p : TapS} (h : p.st = .updateDr) :
    p.fall = { p with tdo := none, bsr := if 2 ≤ p.kind then p.drShift else p.bsr } := by
  simp [TapS.fall, h]

/-- IEEE 1149.1: five rising edges with TMS high lead from every state of the controller to TEST-LOGIC-RESET. -/
theorem TapState.next_five (st : TapState) : ((((st.next true).next true).next true).next true).next true = .reset := by
  cases st <;> rfl

/-- Settles O35: each edge changes the test port alone, as the controller's state has it. -/
theorem testPort : Obligations.TestPort := by
  unfold Obligations.TestPort
  refine ⟨fun s tms tdi h => ⟨_, exec_tapTckEdge_rise h, ?_, ?_, ?_⟩, fun s tms tdi h hid hst => ⟨_, exec_tapTckEdge_rise h, ?_⟩,
    fun s tms tdi h hid hst => ⟨_, exec_tapTckEdge_rise h, ?_⟩, fun s tms tdi h hst => ⟨_, exec_tapTckEdge_fall h, ?_⟩,
    fun s tms tdi h hst => ⟨_, exec_tapTckEdge_fall h, ?_⟩, fun s tms tdi h hst => ⟨_, exec_tapTckEdge_fall h, ?_⟩, TapState.next_five⟩
  · exact congrArg TapS.st (State.evcEdge_tap _)
  · exact State.evcEdge_regs _
  · exact (congrArg TapS.tdo (State.evcEdge_tap _)).trans (State.tapRise_tdo _)
  · exact (congrArg TapS.drShift (State.evcEdge_tap _)).trans (State.tapRise_captureDr _ hid hst)
  · exact (congrArg TapS.drShift (State.evcEdge_tap _)).trans (State.tapRise_shiftDr _ hid hst)
  · simp [TapS.fall_shiftDr hst]
  · simp [TapS.fall_reset hst]
  · simp [TapS.fall_updateDr hst]

end Sys2Proof.Machine
end

section
/-! A statement on the frames of the host's commands that a field outside the register map refutes (R392). -/

namespace Sys2Proof.Machine

/-- A machine in NATIVE, whose port is open. -/
def nativeMachine : State := State.wr { regs := [], pending := [] } Reg.PWR_MODE_MODE mNative

/-- INT_EN under its own number, as a field that claims no register: an array of none. -/
def aliasOfIntEn : Fld := { Reg.INT_EN_EN with idx := .arr 0 1 }

/-- Refutes O53: a write of INT_EN stores it. The clause of LYALE_WRITE tells what a frame may write by the registers that a field's index
names, over all values of the type of fields, while the register store knows a field by its number alone: the field with INT_EN's number that
names no register, which the clause keeps, reads the written value. The map itself has no such field; only the quantifier over all of `Fld`
reaches it. -/
theorem not_hostCommandFrames : ¬ Obligations.HostCommandFrames := by
  intro h
  obtain ⟨-, -, -, -, -, -, -, -, -, -, -, -, -, -, -, -, -, -, -, -, -, -, -, -, -, -, -, -, -, -, -, -, -, -, -, -, -, -, -, -, -,
    -, -, -, -, -, hframe, -⟩ := h
  obtain ⟨t, ht⟩ : ∃ t, exec (.lyaleWrite 0x4809 [1] (requestCrc 2 0x4809 1 [1])) nativeMachine = .next t := ⟨_, rfl⟩
  obtain ⟨hfields, -⟩ := hframe 0x4809 [1] _ nativeMachine t ht (by decide)
  have hkept : t.rdAt aliasOfIntEn 0 = 0 := hfields aliasOfIntEn (by decide +kernel) (by decide +kernel) 0
  have hwritten : t.rdAt aliasOfIntEn 0 = 1 := by
    rw [eq_of_fin ht, State.evcEdge_rdAt]
    decide +kernel
  exact absurd (hwritten.symm.trans hkept) (by decide)

end Sys2Proof.Machine
end

section
/-! The attached memories (R300 to R302, R400): what a run of bytes written, programmed or erased reads, byte by byte and as words. -/

namespace Sys2Proof.Machine

variable {m : List Host.Cell} {a n x k : Nat} {l : List Nat} {g : Nat → Nat}

/-- A run of bytes, each replaced by what `h` makes of it and of a new value. -/
theorem Memory.read_foldl_run (h : Nat → Nat → Nat) :
    Memory.read (((upTo n).map fun k => (a + k, g k)).foldl (fun m p => Memory.write m p.1 (h (Memory.read m p.1) p.2)) m) x =
      if a ≤ x ∧ x < a + n then h (Memory.read m x) (g (x - a)) % 256 else Memory.read m x := by
  induction n with
  | zero => exact (if_neg (by omega)).symm
  | succ n ih =>
    rw [upTo, List.range_succ, List.map_append, List.foldl_append]
    change Memory.read (Memory.write _ (a + n) (h (Memory.read _ (a + n)) (g n))) x = _
    rw [← upTo]
    by_cases hx : x = a + n
    · subst hx
      rw [Memory.read_write_same, if_pos (by omega), Nat.add_sub_cancel_left, ih, if_neg (by omega)]
    · rw [Memory.read_write_ne _ _ _ _ hx, ih]
      simp only [show (x < a + (n + 1) ↔ x < a + n) by omega]

theorem Memory.read_writes_run : Memory.read (Memory.writes m ((upTo n).map fun k => (a + k, g k))) x =
    if a ≤ x ∧ x < a + n then g (x - a) % 256 else Memory.read m x :=
  Memory.read_foldl_run fun _ v => v

theorem Memory.read_program_run : Memory.read (Memory.program m ((upTo n).map fun k => (a + k, g k))) x =
    if a ≤ x ∧ x < a + n then (Memory.read m x &&& g (x - a)) % 256 else Memory.read m x :=
  Memory.read_foldl_run fun old v => old &&& v

theorem Memory.read_erase : Memory.read (Memory.erase m a n) x = if a ≤ x ∧ x < a + n then 255 else Memory.read m x := by
  induction m with
  | nil => simp [Memory.erase, Memory.read]
  | cons c m ih =>
    by_cases hc : c.1 < a ∨ a + n ≤ c.1
    · have hkeep : Memory.erase (c :: m) a n = c :: Memory.erase m a n := List.filter_cons_of_pos (by simpa using hc)
      rw [hkeep, Memory.read, Memory.read, ih]
      by_cases hx : c.1 = x
      · rw [if_pos hx, if_pos hx, if_neg (by omega)]
      · rw [if_neg hx, if_neg hx]
    · have hdrop : Memory.erase (c :: m) a n = Memory.erase m a n := List.filter_cons_of_neg (by simpa using hc)
      rw [hdrop, ih, Memory.read]
      by_cases hx : c.1 = x
      · rw [if_pos (by omega), if_pos (by omega)]
      · rw [if_neg hx]

/-- Byte `k` of a list of words, most significant byte first (R302). -/
def byteOf (l : List Nat) (k : Nat) : Nat := bits (l.getD (k / 4) 0) (8 * (3 - k % 4)) 8

theorem byteOf_lt : byteOf l k < 256 := Nat.mod_lt _ (by decide)

theorem wordBytes_eq : wordBytes a l = (upTo (4 * l.length)).map fun k => (a + k, byteOf l k) := rfl

theorem Memory.read_writes_words : Memory.read (Memory.writes m (wordBytes a l)) x =
    if a ≤ x ∧ x < a + 4 * l.length then byteOf l (x - a) else Memory.read m x := by
  rw [wordBytes_eq, Memory.read_writes_run, Nat.mod_eq_of_lt byteOf_lt]

theorem Memory.read_program_words : Memory.read (Memory.program m (wordBytes a l)) x =
    if a ≤ x ∧ x < a + 4 * l.length then (Memory.read m x &&& byteOf l (x - a)) % 256 else Memory.read m x := by
  rw [wordBytes_eq, Memory.read_program_run]

/-- The four bytes of a word spell it. -/
theorem ofBeBytes_bits {w : Nat} (hw : w < 2 ^ 32) : ofBeBytes [bits w 24 8, bits w 16 8, bits w 8 8, bits w 0 8] = w := by
  simp only [ofBeBytes, List.foldl, bits]
  omega

theorem Memory.word_eq : Memory.word m a =
    ofBeBytes [Memory.read m a, Memory.read m (a + 1), Memory.read m (a + 2), Memory.read m (a + 3)] := rfl

/-- Words whose bytes stand in the memory read back. -/
theorem Memory.words_of_bytes (hl : ∀ w ∈ l, w < 2 ^ 32) (h : ∀ k < 4 * l.length, Memory.read m (a + k) = byteOf l k) :
    Memory.words m a l.length = l := by
  refine List.ext_getElem (by simp [Memory.words, upTo]) fun i _ hi => ?_
  have hb : ∀ j < 4, Memory.read m (a + 4 * i + j) = bits l[i] (8 * (3 - j)) 8 := fun j hj => by
    have hdiv : (4 * i + j) / 4 = i := by omega
    have hmod : (4 * i + j) % 4 = j := by omega
    rw [Nat.add_assoc, h _ (by omega), byteOf, hdiv, hmod, List.getD_eq_getElem _ _ hi]
  simp only [Memory.words, upTo, List.getElem_map, List.getElem_range, Memory.word_eq]
  rw [show a + 4 * i = a + 4 * i + 0 from rfl, hb 0 (by decide), hb 1 (by decide), hb 2 (by decide), hb 3 (by decide)]
  exact ofBeBytes_bits (hl _ (List.getElem_mem hi))

end Sys2Proof.Machine
end

section
/-! The port's timers and short frames, and the ends of the hatch's operations and of OTP programming (R389, R394, R398 to R403, R410). -/

namespace Sys2Proof.Machine

variable {s t u : State} {k n : Nat} {st : Fin 256}

/-! Frames cut short, responses, doors and the heartbeat. -/

theorem State.reply_sends_nothing : (s.reply []).sent = [] ∧ (s.reply []).regs = s.regs := by
  unfold State.reply
  split <;> exact ⟨rfl, rfl⟩

theorem exec_hostFrameTruncated (h : s.port ≠ .off) : ∃ t, exec .hostFrameTruncated s = .next t ∧ t.sent = [] ∧ t.regs = s.regs := by
  have he : exec .hostFrameTruncated s = fin ((s.count 0xD2).reply []) := if_neg h
  obtain ⟨hsent, hregs⟩ := State.reply_sends_nothing (s := s.count 0xD2)
  rw [he]
  refine exists_fin ⟨?_, ?_⟩
  · rw [State.evcEdge_sent, hsent]
  · rw [State.evcEdge_regs, hregs, State.count_regs]

theorem exec_i2cResponseRead (h : s.port ≠ .off) (hi2c : s.on Reg.HOST_CFG_PORT = true) :
    ∃ t, exec (.i2cResponseRead n) s = .next t ∧ t.sent = (s.resp ++ List.replicate n 0xFF).take n ∧ t.resp = [] ∧ t.regs = s.regs := by
  have he : exec (.i2cResponseRead n) s = fin { s with sent := (s.resp ++ List.replicate n 0xFF).take n, resp := [] } :=
    if_neg (by simp [h, hi2c])
  rw [he]
  exact exists_fin ⟨State.evcEdge_sent _, State.evcEdge_resp _, State.evcEdge_regs _⟩

theorem State.doorCancel_step : s.doorCancel.rd Reg.HOST_DOOR_STEP = 0 := by
  unfold State.doorCancel
  split
  · assumption
  · rw [State.count_rd, State.rd_wr_lt (by decide)]

theorem exec_doorStepTimeout : ∃ t, exec .doorStepTimeout s = .next t ∧ t.rd Reg.HOST_DOOR_STEP = 0 := by
  have he : exec .doorStepTimeout s = fin s.doorCancel := rfl
  rw [he]
  exact exists_fin ((State.evcEdge_rd _ _).trans State.doorCancel_step)

/-- A bit of a field just cleared. -/
theorem State.bit_putBit_false {f : Fld} : bit ((s.putBit f n false).rd f) n = false := by
  rw [State.putBit, if_neg (by decide), State.rd_wr_same, bit_eq_testBit, Nat.testBit_mod_two_pow, testBit_clearBits]
  simp

theorem exec_doorTimeout (d : Fin 4) : ∃ t, exec (.doorTimeout d) s = .next t ∧ bit (t.rd Reg.HOST_DOOR_OPEN) d.val = false := by
  cases hopen : bit (s.rd Reg.HOST_DOOR_OPEN) d.val with
  | true =>
    have he : exec (.doorTimeout d) s = fin ((s.putBit Reg.HOST_DOOR_OPEN d.val false).count 0xDB) := if_pos hopen
    rw [he]
    refine exists_fin ?_
    rw [State.evcEdge_rd, State.count_rd]
    exact State.bit_putBit_false
  | false =>
    have he : exec (.doorTimeout d) s = fin s := if_neg (by simp [hopen])
    rw [he]
    exact exists_fin (by rw [State.evcEdge_rd, hopen])

theorem exec_heartbeatExpiry (hup : s.up = true) (hcfg : s.rd Reg.HOST_HB_CFG_HB_TIMEOUT ≠ 0) (hleft : s.rd Reg.HOST_HB_CFG_LEFT ≠ 0) :
    ∃ t, exec .heartbeatExpiry s = .next t ∧ t.rd Reg.HOST_HB_CFG_LEFT = 0 ∧ t.rd Reg.PWR_STAT_HOST_LOST = 1 ∧ bit t.intCause 12 = true := by
  have he : exec .heartbeatExpiry s = fin (((s.wrs [(Reg.HOST_HB_CFG_LEFT, 0), (Reg.PWR_STAT_HOST_LOST, 1)]).raise 12).count 0xD8) :=
    if_neg (by simp [hup, hcfg, hleft])
  rw [he]
  refine exists_fin ⟨?_, ?_, State.evcEdge_causes ((Touches.refl _).count.causes 12 State.bit_raise)⟩
  all_goals
    rw [State.evcEdge_rd, State.count_rd, State.raise_rd]
    simp (disch := decide) only [State.wrs, State.rd_wr_ne, State.rd_wr_lt]

/-! The hatch (R400, R401). -/

theorem Touches.hatchWord : Touches [] [Reg.HATCH_DATA_DATA] s (s.hatchWord k) :=
  .of (by decide) (branch (refl s).wrAt (branch (refl s).wrAt (refl s).takeFree.wrAt))

theorem Touches.hatchWords : Touches [] [Reg.HATCH_DATA_DATA] s (s.each (upTo n) State.hatchWord) :=
  foldl_mem fun _ _ _ => hatchWord

theorem Touches.onEeprom {P : List Part} {L : List Fld} (h : Touches P L s t) (hf : Reg.BOOT_STAT_STRAP.id ∉ L.map Fld.id) :
    t.onEeprom = s.onEeprom := by
  rw [State.onEeprom, State.onEeprom, h.rd hf]

theorem State.hatchWord_flash (h : s.onEeprom = false) :
    s.hatchWord k = s.wrAt Reg.HATCH_DATA_DATA k (Memory.word s.flash (s.hatch.addr + 4 * k)) := if_pos h

theorem State.hatchWord_eeprom (h : s.onEeprom = true) (hk : s.hatch.addr + 4 * k ≤ 0xFC) :
    s.hatchWord k = s.wrAt Reg.HATCH_DATA_DATA k (Memory.word s.eeprom (s.hatch.addr + 4 * k)) :=
  (if_neg (by simp [h])).trans (if_pos hk)

/-- A read's word goes to its own channel of HATCH_DATA. -/
theorem State.hatchWord_rdAt_ne (h : n ≠ k) : (s.hatchWord k).rdAt Reg.HATCH_DATA_DATA n = s.rdAt Reg.HATCH_DATA_DATA n := by
  have hne : ∀ (u : State) v, (u.wrAt Reg.HATCH_DATA_DATA k v).rdAt Reg.HATCH_DATA_DATA n = u.rdAt Reg.HATCH_DATA_DATA n :=
    fun u v => State.rdAt_wrAt_ne u _ _ k n v fun hx => h hx.2
  unfold State.hatchWord
  extract_lets a
  split
  · exact hne _ _
  · split
    · exact hne _ _
    · exact hne _ _

/-- A read puts into each word of HATCH_DATA what its step alone does, whatever came before. -/
theorem State.hatchWords_rdAt {v : Nat} (hk : k < n)
    (hword : ∀ u, Touches [] [Reg.HATCH_DATA_DATA] s u → (u.hatchWord k).rdAt Reg.HATCH_DATA_DATA k = v) :
    (s.each (upTo n) State.hatchWord).rdAt Reg.HATCH_DATA_DATA k = v := by
  induction n with
  | zero => exact absurd hk (Nat.not_lt_zero k)
  | succ n ih =>
    have hstep : s.each (upTo (n + 1)) State.hatchWord = (s.each (upTo n) State.hatchWord).hatchWord n := by
      simp [State.each, upTo, List.range_succ]
    rw [hstep]
    by_cases h : k = n
    · exact h ▸ hword _ Touches.hatchWords
    · rw [State.hatchWord_rdAt_ne h, ih (by omega)]

theorem Touches.hatchEnd {r : Nat} : Touches [.hatch] [Reg.HATCH_STAT_LAST_OP, Reg.HATCH_STAT_RESULT] s (s.hatchEnd r) :=
  .of (by decide) ((refl s).wr.wr.setHatch.pathLeave.count.raise)

/-- What a hatch operation that ends shows (R401, R403). -/
theorem State.hatchEnd_shows {r : Nat} (hop : s.hatch.op < 4) (hr : r < 16) : (s.hatchEnd r).evcEdge.rd Reg.HATCH_STAT_RESULT = r ∧
    (s.hatchEnd r).evcEdge.rd Reg.HATCH_STAT_LAST_OP = s.hatch.op ∧ (s.hatchEnd r).evcEdge.hatch.op = 0 ∧
      bit (s.hatchEnd r).evcEdge.intCause 14 = true := by
  have hr' : r < 2 ^ Reg.HATCH_STAT_RESULT.w := hr
  have hop' : s.hatch.op < 2 ^ Reg.HATCH_STAT_LAST_OP.w := hop
  have hrd : ∀ f, (s.hatchEnd r).evcEdge.rd f = (s.wrs [(Reg.HATCH_STAT_LAST_OP, s.hatch.op), (Reg.HATCH_STAT_RESULT, r)]).rd f := fun f =>
    (State.evcEdge_rd _ f).trans (State.count_rd _ _ f)
  refine ⟨?_, ?_, ?_, State.evcEdge_causes State.bit_raise⟩
  · rw [hrd]
    simp (disch := decide) only [State.wrs, State.rd_wr_lt hr']
  · rw [hrd]
    simp (disch := decide) only [State.wrs, State.rd_wr_ne, State.rd_wr_lt hop']
  · rw [State.evcEdge_hatch, State.hatchEnd, State.raise_hatch, State.count_hatch]
    rfl

theorem exec_hatchOpDone_read {o : HatchEnd} (hup : s.up = true) (hserves : s.pathServes 1 = true) (hop : s.hatch.op = 1) :
    exec (.hatchOpDone o st) s = fin ((s.each (upTo s.hatch.count) State.hatchWord).hatchEnd 1) :=
  (if_neg (by simp [hup, hserves, hop])).trans (if_pos hop)

/-- A read ends with its words in HATCH_DATA. -/
theorem hatchRead_ends {o : HatchEnd} {v : Nat → Nat} {p : Nat → Prop} (hup : s.up = true) (hserves : s.pathServes 1 = true) (hop : s.hatch.op = 1)
    (hword : ∀ u, Touches [] [Reg.HATCH_DATA_DATA] s u → ∀ k, p k → (u.hatchWord k).rdAt Reg.HATCH_DATA_DATA k = v k) :
    ∃ t, exec (.hatchOpDone o st) s = .next t ∧ (∀ k : Nat, k < s.hatch.count → p k → t.rdAt Reg.HATCH_DATA_DATA k = v k) ∧
      t.rd Reg.HATCH_STAT_RESULT = 1 ∧ t.rd Reg.HATCH_STAT_LAST_OP = 1 ∧ t.hatch.op = 0 ∧ bit t.intCause 14 = true := by
  obtain ⟨u, hu⟩ : ∃ u, s.each (upTo s.hatch.count) State.hatchWord = u := ⟨_, rfl⟩
  have hut : Touches [] [Reg.HATCH_DATA_DATA] s u := hu ▸ Touches.hatchWords
  have hop' : u.hatch.op = 1 := (congrArg HatchS.op (hut.parts .hatch (by decide))).trans hop
  rw [exec_hatchOpDone_read hup hserves hop, hu]
  obtain ⟨hres, hlast, hdone, hcause⟩ := State.hatchEnd_shows (s := u) (r := 1) (by omega) (by decide)
  refine exists_fin ⟨fun k hk hp => ?_, hres, hlast.trans hop', hdone, hcause⟩
  rw [State.evcEdge_rdAt, Touches.hatchEnd.rdAt (by decide), ← hu]
  exact State.hatchWords_rdAt hk fun w hw => hword w hw k hp

theorem exec_hatchOpDone_flashRead (hup : s.up = true) (hserves : s.pathServes 1 = true) (hflash : s.onEeprom = false) (hop : s.hatch.op = 1) :
    ∃ t, exec (.hatchOpDone .done st) s = .next t ∧ (∀ k : Nat, k < s.hatch.count →
      t.rdAt Reg.HATCH_DATA_DATA k = Memory.word s.flash (s.hatch.addr + 4 * k) % 2 ^ 32) ∧
      t.rd Reg.HATCH_STAT_RESULT = 1 ∧ t.rd Reg.HATCH_STAT_LAST_OP = 1 ∧ t.hatch.op = 0 ∧ bit t.intCause 14 = true := by
  obtain ⟨t, ht, hdata, hrest⟩ := hatchRead_ends (st := st) (o := .done) (p := fun _ => True)
    (v := fun k => Memory.word s.flash (s.hatch.addr + 4 * k) % 2 ^ 32) hup hserves hop fun u hu k _ => by
      have hmem : u.flash = s.flash := hu.parts .flash (by decide)
      have hh : u.hatch = s.hatch := hu.parts .hatch (by decide)
      rw [State.hatchWord_flash ((hu.onEeprom (by decide)).trans hflash), State.rdAt_wrAt_same, hmem, hh]
      rfl
  exact ⟨t, ht, fun k hk => hdata k hk trivial, hrest⟩

theorem exec_hatchOpDone_eepromRead (hup : s.up = true) (hserves : s.pathServes 1 = true) (hee : s.onEeprom = true) (hop : s.hatch.op = 1) :
    ∃ t, exec (.hatchOpDone .done st) s = .next t ∧ (∀ k : Nat, k < s.hatch.count → s.hatch.addr + 4 * k ≤ 0xFC →
      t.rdAt Reg.HATCH_DATA_DATA k = Memory.word s.eeprom (s.hatch.addr + 4 * k) % 2 ^ 32) ∧
      t.rd Reg.HATCH_STAT_RESULT = 1 ∧ t.rd Reg.HATCH_STAT_LAST_OP = 1 ∧ t.hatch.op = 0 ∧ bit t.intCause 14 = true :=
  hatchRead_ends (o := .done) hup hserves hop fun u hu k hk => by
    have hmem : u.eeprom = s.eeprom := hu.parts .eeprom (by decide)
    have hh : u.hatch = s.hatch := hu.parts .hatch (by decide)
    rw [State.hatchWord_eeprom ((hu.onEeprom (by decide)).trans hee) (by rwa [hh]), State.rdAt_wrAt_same, hmem, hh]
    rfl

/-- The machine with the flash's status as a program or an erase of the hatch reads it. -/
def State.withStatus (s : State) (st : Fin 256) : State := s.whenB (!s.onEeprom) fun u => u.wr Reg.HATCH_STAT_FSTAT st.val

theorem Touches.withStatus : Touches [] [Reg.HATCH_STAT_FSTAT] s (s.withStatus st) := .of (by decide) ((refl s).whenB fun u => (refl u).wr)

theorem exec_hatchOpDone_done (hup : s.up = true) (hserves : s.pathServes 1 = true) (hop : 2 ≤ s.hatch.op) :
    exec (.hatchOpDone .done st) s =
      fin ((s.withStatus st).hatchApply.hatchEnd (if (s.withStatus st).hatchApply.hatchReadsBack then 1 else 3)) := by
  have hop1 : ¬ s.hatch.op = 1 := by omega
  exact ((if_neg (by simp [hup, hserves]; omega)).trans (if_neg hop1)).trans (if_pos (.inl rfl))

theorem Touches.hatchApply : Touches [.flash, .eeprom] [] s s.hatchApply := by
  have hflash : ∀ m, Touches [.flash, .eeprom] [] s { s with flash := m } := fun _ => .of (by decide) ((refl s).set [.flash] rfl rfl rfl)
  have heep : ∀ m, Touches [.flash, .eeprom] [] s { s with eeprom := m } := fun _ => .of (by decide) ((refl s).set [.eeprom] rfl rfl rfl)
  exact either (either (heep _) (hflash _)) (either (hflash _) (.of (by decide) (refl s)))

/-- A program or an erase that completes: the memories it leaves, and its record. -/
theorem hatchOpDone_ends {r : Nat} (hup : s.up = true) (hserves : s.pathServes 1 = true) (hop : 2 ≤ s.hatch.op) (hop4 : s.hatch.op < 4)
    (hr : (if s.hatchApply.hatchReadsBack then 1 else 3) = r) :
    ∃ t, exec (.hatchOpDone .done st) s = .next t ∧ t.flash = s.hatchApply.flash ∧ t.eeprom = s.hatchApply.eeprom ∧
      t.rd Reg.HATCH_STAT_RESULT = r ∧ t.rd Reg.HATCH_STAT_LAST_OP = s.hatch.op ∧ (s.onEeprom = false → t.rd Reg.HATCH_STAT_FSTAT = st.val) ∧
      t.hatch.op = 0 ∧ bit t.intCause 14 = true := by
  obtain ⟨v, hv⟩ : ∃ v, s.withStatus st = v := ⟨_, rfl⟩
  have hvt : Touches [] [Reg.HATCH_STAT_FSTAT] s v := hv ▸ Touches.withStatus
  have hh : v.hatch = s.hatch := hvt.parts .hatch (by decide)
  have hf : v.flash = s.flash := hvt.parts .flash (by decide)
  have he : v.eeprom = s.eeprom := hvt.parts .eeprom (by decide)
  have hee : v.onEeprom = s.onEeprom := hvt.onEeprom (by decide)
  have hflash : v.hatchApply.flash = s.hatchApply.flash := by
    simp only [State.hatchApply, hh, hf, hee]
    split_ifs <;> simp [hf]
  have heeprom : v.hatchApply.eeprom = s.hatchApply.eeprom := by
    simp only [State.hatchApply, hh, he, hee]
    split_ifs <;> simp [he]
  have hkeep : ∀ w : State, w.hatchApply.hatch = w.hatch ∧ w.hatchApply.onEeprom = w.onEeprom := fun w =>
    ⟨Touches.hatchApply.parts .hatch (by decide), Touches.hatchApply.onEeprom (by decide)⟩
  have hback : v.hatchApply.hatchReadsBack = s.hatchApply.hatchReadsBack := by
    simp only [State.hatchReadsBack, hkeep, hflash, hh, hee]
  rw [exec_hatchOpDone_done hup hserves hop, hv, hback, hr]
  have hr16 : r < 16 := by
    rw [← hr]
    split <;> decide
  obtain ⟨hres, hlast, hdone, hcause⟩ := State.hatchEnd_shows (s := v.hatchApply) (r := r) (by rw [(hkeep v).1, hh]; exact hop4) hr16
  refine exists_fin ⟨?_, ?_, hres, ?_, fun hno => ?_, hdone, hcause⟩
  · rw [State.evcEdge_flash, ← hflash]
    exact Touches.hatchEnd.parts .flash (by decide)
  · rw [State.evcEdge_eeprom, ← heeprom]
    exact Touches.hatchEnd.parts .eeprom (by decide)
  · rw [hlast, (hkeep v).1, hh]
  · rw [State.evcEdge_rd, Touches.hatchEnd.rd (by decide), Touches.hatchApply.rd (by decide), ← hv, State.withStatus, hno]
    exact State.rd_wr_lt st.isLt

theorem State.hatchApply_flashProgram (hflash : s.onEeprom = false) (hop : s.hatch.op = 2) :
    s.hatchApply = { s with flash := Memory.program s.flash (wordBytes s.hatch.addr s.hatch.words) } :=
  (if_pos hop).trans (if_neg (by simp [hflash]))

theorem State.hatchApply_eepromProgram (hee : s.onEeprom = true) (hop : s.hatch.op = 2) :
    s.hatchApply = { s with eeprom := Memory.writes s.eeprom (wordBytes s.hatch.addr s.hatch.words) } :=
  (if_pos hop).trans (if_pos hee)

theorem State.hatchApply_erase (hop : s.hatch.op = 3) : s.hatchApply = { s with flash := Memory.erase s.flash s.hatch.addr 4096 } :=
  (if_neg (by omega)).trans (if_pos hop)

/-- A program of the flash ends with RESULT 1 or 3, as its words read back (R400). -/
theorem exec_hatchOpDone_flashProgram {r : Nat} (hup : s.up = true) (hserves : s.pathServes 1 = true) (hflash : s.onEeprom = false)
    (hop : s.hatch.op = 2) (hr : (if Memory.words (Memory.program s.flash (wordBytes s.hatch.addr s.hatch.words)) s.hatch.addr
      s.hatch.words.length = s.hatch.words then 1 else 3) = r) :
    ∃ t, exec (.hatchOpDone .done st) s = .next t ∧ t.flash = Memory.program s.flash (wordBytes s.hatch.addr s.hatch.words) ∧
      t.rd Reg.HATCH_STAT_RESULT = r ∧ t.rd Reg.HATCH_STAT_LAST_OP = 2 ∧ t.rd Reg.HATCH_STAT_FSTAT = st.val ∧ t.hatch.op = 0 ∧
      bit t.intCause 14 = true := by
  have happly := State.hatchApply_flashProgram hflash hop
  have hee : s.hatchApply.onEeprom = false := (Touches.hatchApply.onEeprom (by decide)).trans hflash
  have hback : (if s.hatchApply.hatchReadsBack then 1 else 3) = r := by
    rw [← hr, State.hatchReadsBack, hee, happly]
    simp [hop]
  obtain ⟨t, ht, hmem, -, hres, hlast, hstat, hdone, hcause⟩ := hatchOpDone_ends (st := st) hup hserves (by omega) (by omega) hback
  exact ⟨t, ht, by rw [hmem, happly], hres, hlast.trans hop, hstat hflash, hdone, hcause⟩

theorem exec_hatchOpDone_erase (hup : s.up = true) (hserves : s.pathServes 1 = true) (hop : s.hatch.op = 3) :
    ∃ t, exec (.hatchOpDone .done st) s = .next t ∧ (∀ a : Nat, Memory.read t.flash a =
      if s.hatch.addr ≤ a ∧ a < s.hatch.addr + 4096 then 255 else Memory.read s.flash a) ∧
      t.rd Reg.HATCH_STAT_RESULT = 1 ∧ t.rd Reg.HATCH_STAT_LAST_OP = 3 ∧ t.hatch.op = 0 ∧ bit t.intCause 14 = true := by
  have happly := State.hatchApply_erase hop
  have hback : (if s.hatchApply.hatchReadsBack then 1 else 3) = 1 := by simp [State.hatchReadsBack, happly, hop]
  obtain ⟨t, ht, hmem, -, hres, hlast, -, hdone, hcause⟩ := hatchOpDone_ends (st := st) hup hserves (by omega) (by omega) hback
  refine ⟨t, ht, fun a => ?_, hres, hlast.trans hop, hdone, hcause⟩
  rw [hmem, happly]
  exact Memory.read_erase

theorem exec_hatchOpDone_eepromProgram (hup : s.up = true) (hserves : s.pathServes 1 = true) (hee : s.onEeprom = true) (hop : s.hatch.op = 2) :
    ∃ t, exec (.hatchOpDone .done st) s = .next t ∧ t.eeprom = Memory.writes s.eeprom (wordBytes s.hatch.addr s.hatch.words) ∧
      t.flash = s.flash ∧ (∀ k : Nat, k < 4 * s.hatch.words.length →
        Memory.read t.eeprom (s.hatch.addr + k) = bits (s.hatch.words.getD (k / 4) 0) (8 * (3 - k % 4)) 8) ∧
      (∀ a : Nat, a < s.hatch.addr ∨ s.hatch.addr + 4 * s.hatch.words.length ≤ a → Memory.read t.eeprom a = Memory.read s.eeprom a) ∧
      t.rd Reg.HATCH_STAT_RESULT = 1 ∧ t.rd Reg.HATCH_STAT_LAST_OP = 2 ∧ t.hatch.op = 0 ∧ bit t.intCause 14 = true := by
  have happly := State.hatchApply_eepromProgram hee hop
  have hee' : s.hatchApply.onEeprom = true := (Touches.hatchApply.onEeprom (by decide)).trans hee
  have hback : (if s.hatchApply.hatchReadsBack then 1 else 3) = 1 := by simp [State.hatchReadsBack, hee']
  obtain ⟨t, ht, hflash, hmem, hres, hlast, -, hdone, hcause⟩ := hatchOpDone_ends (st := st) hup hserves (by omega) (by omega) hback
  rw [happly] at hmem hflash
  refine ⟨t, ht, hmem, hflash, fun k hk => ?_, fun a ha => ?_, hres, hlast.trans hop, hdone, hcause⟩
  · rw [hmem]
    refine Memory.read_writes_words.trans ((if_pos (by omega)).trans ?_)
    rw [Nat.add_sub_cancel_left]
    rfl
  · rw [hmem]
    exact Memory.read_writes_words.trans (if_neg (by omega))

/-! OTP programming (R410). -/

theorem exec_otpProgDone (hup : s.up = true) (hbusy : s.on Reg.OTP_PROG_BUSY = true) :
    ∃ t, exec (.otpProgDone true) s = .next t ∧ t.rd Reg.OTP_PROG_BUSY = 0 ∧ t.rd Reg.OTP_PROG_RESULT = 1 ∧ t.otp = s.otpApply.otp := by
  have he : exec (.otpProgDone true) s = fin (s.otpApply.wrs [(Reg.OTP_PROG_BUSY, 0), (Reg.OTP_PROG_RESULT, 1), (Hid.otpOp, 0)]) :=
    if_neg (by simp [hup, hbusy])
  rw [he]
  refine exists_fin ⟨?_, ?_, State.evcEdge_otp _⟩
  all_goals
    rw [State.evcEdge_rd]
    simp (disch := decide) only [State.wrs, State.rd_wr_ne, State.rd_wr_lt]

/-- Settles O18: each row is an equation of its meaning, whose next state is read field by field. -/
theorem hostTimersHatchAndOtp : Obligations.HostTimersHatchAndOtp := by
  unfold Obligations.HostTimersHatchAndOtp
  refine ⟨fun s => exec_hostFrameTruncated, fun s n => exec_i2cResponseRead, fun s => exec_doorStepTimeout, fun s => exec_doorTimeout,
    fun s => exec_heartbeatExpiry, fun s st => exec_hatchOpDone_flashRead,
    fun s st hup hserves hflash hop hback => exec_hatchOpDone_flashProgram hup hserves hflash hop (if_pos hback),
    fun s st hup hserves hflash hop hback => exec_hatchOpDone_flashProgram hup hserves hflash hop (if_neg hback),
    fun s st hup hserves _ hop => exec_hatchOpDone_erase hup hserves hop, fun s st => exec_hatchOpDone_eepromRead,
    fun s st => exec_hatchOpDone_eepromProgram, fun s hup hbusy hop => ?_, fun s hup hbusy hop => ?_⟩
  · obtain ⟨t, ht, hidle, hres, hotp⟩ := exec_otpProgDone hup hbusy
    exact ⟨t, ht, hidle, hres, by rw [hotp, State.otpApply, if_pos hop]⟩
  · obtain ⟨t, ht, hidle, hres, hotp⟩ := exec_otpProgDone hup hbusy
    exact ⟨t, ht, hidle, hres, by rw [hotp, State.otpApply, if_neg (by omega), if_pos hop]⟩

end Sys2Proof.Machine
end

section
/-! What words below 0x0400, and the commands of the hatch and of the panel, do (R318 to R326, R400, R410, R424). -/

namespace Sys2Proof.Machine

variable {s t u : State} {a v : Nat}

/-! What an open port is, and what a frame that has arrived leaves. -/

theorem State.port_opened (h : s.port = .opened) : s.alive = true ∧ s.mode ≠ mIz30 ∧ s.mode ≠ mBoot ∧ s.on Hid.softHold = false := by
  unfold State.port at h
  split at h
  · exact absurd h (by decide)
  · split at h
    · split at h <;> exact absurd h (by decide)
    · split at h
      · exact absurd h (by decide)
      · simp_all

theorem Touches.up {P : List Part} {L : List Fld} (h : Touches P L s t) (hf : Reg.PWR_MODE_MODE.id ∉ L.map Fld.id)
    (hr : Hid.resetActive.id ∉ L.map Fld.id) : t.up = s.up := by
  rw [State.up, State.up, h.mode hf, h.alive hf hr]

theorem Touches.rgnMode {P : List Part} {L : List Fld} (h : Touches P L s t) (hf : Reg.PWR_MODE_MODE.id ∉ L.map Fld.id)
    (hr : Hid.resetActive.id ∉ L.map Fld.id) : t.rgnMode = s.rgnMode := by
  rw [State.rgnMode, State.rgnMode, h.up hf hr, h.native hf]

/-- A word of a frame at an open port whose row finds the machine as it arrived is answered with OK where it is taken. -/
theorem State.hostWrite_found (hport : s.port = .opened) (hfound : s.arrived.frameFinds a 1 = s.arrived) (hlow : a + 1 ≤ 0x1040 ∨ 0x1080 ≤ a)
    (h : s.arrived.Takes a v) : ∃ x, s.hostWrite a [v] = x.respond { opc := 2, addr := a, len := 1, words := [v] } .ok [] ∧
      Touches [.arb] Touches.busFlds (s.arrived.wordApply a v) x := by
  obtain ⟨x, hx, htouch⟩ := State.frameWrite_one (State.lockRead_outside (data := [v]) hlow).symm h
  rw [State.wordDone_outside (by omega)] at htouch
  exact ⟨x, State.hostWrite_accepted hport (hfound.symm ▸ hx), htouch⟩

theorem hostWrite_found (hport : s.port = .opened) (hfound : s.arrived.frameFinds a 1 = s.arrived) (hlow : a + 1 ≤ 0x1040 ∨ 0x1080 ≤ a)
    (h : s.arrived.Takes a v) : ∃ t, fin (s.hostWrite a [v]) = .next t ∧ t.rd Reg.HOST_LAST_STATUS = 0 ∧
      Touches [.arb, .resp, .sent] (Touches.busFlds ++ Touches.lastFlds) (s.arrived.wordApply a v) t := by
  obtain ⟨x, hx, htouch⟩ := State.hostWrite_found hport hfound hlow h
  refine exists_fin ?_
  rw [hx, State.evcEdge_rd]
  exact ⟨State.respond_status, (htouch.andThen .respond).evcEdge⟩

/-- R397: an open door lets a word in, and a register without a door needs none. -/
theorem State.doorBad_open {d : Nat} (hdoor : doorOf a = some d) (h : bit (s.rd Reg.HOST_DOOR_OPEN) d = true) : s.doorBad a v = false := by
  simp [State.doorBad, hdoor, h]

/-- The fields of a register that a word may store into. -/
def storedFlds (a : Nat) : List Fld := (Reg.fieldsAt a).filter fun f => f.acc != .wo && f.acc != .ro

/-- Outside the coaches' window a word stores into fields of its own register alone. -/
theorem Touches.wordStore (h : a < 0x1040 ∨ 0x1080 ≤ a) : Touches [] (storedFlds a) s (s.wordStore a v) := by
  have hstep : ∀ t : State, ∀ f ∈ Reg.fieldsAt a, Touches [] (storedFlds a) t (s.fieldWrite a (v &&& s.liveBits a) t f) := by
    intro t f hf
    have hone : f.acc ≠ .wo → f.acc ≠ .ro → ∀ f' ∈ [f], f' ∈ storedFlds a := fun hwo hro f' hf' => by
      rw [List.mem_singleton.mp hf']
      exact List.mem_filter.mpr ⟨hf, by simp [hwo, hro]⟩
    unfold State.fieldWrite
    cases hacc : f.acc with
    | ro | wo => exact (refl t).more (by simp) (by simp)
    | rw | rwd | rwl => exact (refl t).wrAt.more (by simp) (hone (by simp [hacc]) (by simp [hacc]))
    | w1c | st => exact (refl t).clrAt.more (by simp) (hone (by simp [hacc]) (by simp [hacc]))
  unfold State.wordStore
  rw [if_neg (by omega)]
  split
  · exact (refl s).more (by simp) (by simp)
  · exact foldl_mem hstep

/-- A word for a register that no rule of R392 is about is taken where it is not refused itself. -/
theorem State.takes_unruled (ha : a < 0x10000 ∧ a ≠ 0x0416 ∧ a ≠ 0x2002 ∧ a ≠ 0x2003) (hcoach : a < 0x1040 ∨ 0x1080 ≤ a)
    (hreg : ∀ (t : State) ch, t.regOk a ch = true) (h : u.wordStat u a v = .ok) : u.Takes a v := by
  have hchan : (u.checkChan a).1 = a := by rw [State.checkChan_fst, if_neg (by omega)]
  exact ⟨ha.1, ha.2.1, by rw [hchan]; exact ha.2.2, h, by rw [hchan]; exact hreg _ _⟩

theorem State.takes_low (ha : a < 0x0400) (h : u.wordStat u a v = .ok) : u.Takes a v :=
  State.takes_unruled (by omega) (by omega) (fun _ _ => by rw [State.regOk, if_pos ha]) h

/-! Staging, START and ABORT of an update (R318, R322, R323). -/

theorem State.wordApply_stage {k : Fin 256} : s.wordApply (0x0100 + k.val) v = s.stageWrite 0 (s.rd Reg.RGN_OFS_OFS + k.val) [v % 2 ^ 32] := by
  have hk := k.isLt
  have hown : s.ownWrite (0x0100 + k.val) = true := by simp [State.ownWrite]; omega
  have hstore : s.wordStore (0x0100 + k.val) v = s := by rw [State.wordStore, if_neg (by omega), if_pos hown]
  rw [State.wordApply, hstore, if_pos (by omega), State.hookLow, if_neg (by omega), if_neg (by omega), if_neg (by omega), if_pos (by omega),
    Nat.add_sub_cancel_left]

theorem doorOf_stage {k : Fin 256} : doorOf (0x0100 + k.val) = some 2 := by
  have hk := k.isLt
  rw [doorOf, if_neg (by omega), if_neg (by omega), if_pos (by omega)]

theorem State.takes_stage {k : Fin 256} (hdoor : bit (u.rd Reg.HOST_DOOR_OPEN) 2 = true) (hst : u.rd Reg.RGN_CTRL_STATE = 0)
    (hofs : u.rd Reg.RGN_OFS_OFS + k.val ≤ 8191) : u.Takes (0x0100 + k.val) v := by
  have hk := k.isLt
  have htaken : u.stageAns 0 = .taken := by simp [State.stageAns, hst]
  have hlock : u.lockBad (0x0100 + k.val) v = false := by simp [State.lockBad]; omega
  have hrgn : u.rgnBad (0x0100 + k.val) v = false := by rw [State.rgnBad, if_pos (by omega), htaken]; rfl
  have hbusy : u.busyBad u (0x0100 + k.val) v = false := by rw [State.busyBad, if_neg (by omega), if_pos (by omega), htaken]; rfl
  have hsel : selectMax (0x0100 + k.val) = none := by
    unfold selectMax
    repeat rw [if_neg (by omega)]
  have hrange : u.rangeBad (0x0100 + k.val) v = false := by
    rw [State.rangeBad, hsel, if_pos (by omega), State.rangeLow, if_neg (by omega), if_neg (by omega), if_pos (by omega)]
    simp
    omega
  refine State.takes_low (by omega) ?_
  simp [State.wordStat, State.doorBad_open doorOf_stage hdoor, hlock, hrgn, hbusy, hrange]

/-- A first staged word claims the buffer for its source. -/
theorem State.stageWrite_claims {src first w : Nat} (hmode : s.rgnMode = true) (hst : s.rd Reg.RGN_CTRL_STATE = 0) :
    (s.stageWrite src first [w]).rd Reg.RGN_CTRL_STATE = 1 ∧ (s.stageWrite src first [w]).rd Reg.RGN_CTRL_SRC = src % 2 ∧
      (s.stageWrite src first [w]).rdAt Hid.stage first = w % 2 ^ 32 := by
  rw [State.stageWrite, if_neg (by simp [hmode]), if_neg (by simp [hst])]
  refine ⟨?_, ?_, ?_⟩
  · simp (disch := decide) only [State.wrs, State.each, upTo, List.length_singleton, List.range_one, List.foldl_cons, List.foldl_nil,
      State.rd_wr_ne, (Touches.refl _).wrAt.rd, State.rd_wr_lt]
  · simp (disch := decide) only [State.wrs, State.each, upTo, List.length_singleton, List.range_one, List.foldl_cons, List.foldl_nil,
      State.rd_wr_ne, (Touches.refl _).wrAt.rd, State.rd_wr_same]
    rfl
  · rw [State.wr, State.rdAt_wrAt_id _ _ _ _ _ _ (by decide)]
    exact State.rdAt_wrAt_same _ _ _ _

theorem exec_regionStageWrite {k : Fin 256} (hport : s.port = .opened) (hdoor : bit (s.rd Reg.HOST_DOOR_OPEN) 2 = true)
    (hmode : s.rgnMode = true) (hst : s.rd Reg.RGN_CTRL_STATE = 0) (hofs : s.rd Reg.RGN_OFS_OFS + k.val ≤ 8191) :
    ∃ t, exec (.regionStageWrite k [v]) s = .next t ∧ t.rd Reg.HOST_LAST_STATUS = 0 ∧ t.rd Reg.RGN_CTRL_STATE = 1 ∧
      t.rd Reg.RGN_CTRL_SRC = 0 ∧ t.rdAt Hid.stage (s.rd Reg.RGN_OFS_OFS + k.val) = v % 2 ^ 32 := by
  have hk := k.isLt
  have hofs' : s.arrived.rd Reg.RGN_OFS_OFS = s.rd Reg.RGN_OFS_OFS := Touches.arrived.rd (by decide)
  have hst' : s.arrived.rd Reg.RGN_CTRL_STATE = 0 := (Touches.arrived.rd (by decide)).trans hst
  have hfound : s.arrived.frameFinds (0x0100 + k.val) 1 = s.arrived := by
    simp only [State.frameFinds, State.whenB, Bool.and_eq_true, decide_eq_true_eq]
    rw [if_neg (by omega), if_neg (by omega)]
  obtain ⟨t, ht, hstatus, htouch⟩ := hostWrite_found hport hfound (by omega)
    (State.takes_stage (v := v) (by rwa [Touches.arrived.rd (by decide)]) hst' (by rwa [hofs']))
  obtain ⟨hstate, hsrc, hword⟩ := State.stageWrite_claims (src := 0) (first := s.rd Reg.RGN_OFS_OFS + k.val) (w := v % 2 ^ 32)
    ((Touches.arrived.rgnMode (by decide) (by decide)).trans hmode) hst'
  rw [State.wordApply_stage, hofs'] at htouch
  refine ⟨t, ht, hstatus, (htouch.rd (by decide)).trans hstate, (htouch.rd (by decide)).trans hsrc, ?_⟩
  rw [htouch.rdAt (by decide), hword, Nat.mod_mod]

theorem State.takes_rgnCtrl (hdoor : bit (u.rd Reg.HOST_DOOR_OPEN) 2 = true) (hst : u.rd Reg.RGN_CTRL_STATE = 1) : u.Takes 0x002C v := by
  refine State.takes_low (by decide) ?_
  simp [State.wordStat, State.doorBad_open (a := 0x002C) (d := 2) (by decide) hdoor, State.lockBad, State.rgnBad, State.busyBad, State.rangeBad,
    State.rangeLow, selectMax, hst, regionAddr]

theorem hostWrite_rgnCtrl (hport : s.port = .opened) (hdoor : bit (s.rd Reg.HOST_DOOR_OPEN) 2 = true) (hst : s.rd Reg.RGN_CTRL_STATE = 1) :
    ∃ t u, fin (s.hostWrite 0x002C [v]) = .next t ∧ t.rd Reg.HOST_LAST_STATUS = 0 ∧ Touches [] [Reg.HOST_DOOR_STEP, Reg.RGN_CTRL_CMD] s u ∧
      Touches [.arb, .resp, .sent] (Touches.busFlds ++ Touches.lastFlds) (u.hookLow 0x002C v) t := by
  obtain ⟨t, ht, hstatus, htouch⟩ := hostWrite_found (a := 0x002C) (v := v) hport rfl (by decide)
    (State.takes_rgnCtrl (by rwa [Touches.arrived.rd (by decide)]) ((Touches.arrived.rd (by decide)).trans hst))
  exact ⟨t, s.arrived.wordStore 0x002C v, ht, hstatus, .of (by decide) (Touches.arrived.andThen (.wordStore (by decide))), htouch⟩

theorem exec_rgnStart (hport : s.port = .opened) (hdoor : bit (s.rd Reg.HOST_DOOR_OPEN) 2 = true) (hmode : s.rgnMode = true)
    (hst : s.rd Reg.RGN_CTRL_STATE = 1) :
    ∃ t, exec .rgnStart s = .next t ∧ t.rd Reg.HOST_LAST_STATUS = 0 ∧ t.rd Reg.RGN_CTRL_STATE = 2 := by
  obtain ⟨t, u, ht, hstatus, hu, htouch⟩ := hostWrite_rgnCtrl (v := 1) hport hdoor hst
  have hstart : u.hookLow 0x002C 1 = u.rgnStart := rfl
  refine ⟨t, ht, hstatus, (htouch.rd (by decide)).trans ?_⟩
  rw [hstart, State.rgnStart, if_neg (by rw [hu.rgnMode (by decide) (by decide), hmode]; decide), State.count_rd, State.rd_wr_lt (by decide)]

/-- An update that ends shows its result and raises IMG (R318, R403). -/
theorem State.rgnEnd_shows {result reason code : Nat} (h : result < 2 ^ Reg.RGN_RES_RESULT.w) :
    (s.rgnEnd result reason code).rd Reg.RGN_CTRL_STATE = 0 ∧ (s.rgnEnd result reason code).rd Reg.RGN_RES_RESULT = result ∧
      bit (s.rgnEnd result reason code).intCause 14 = true := by
  refine ⟨?_, ?_, State.bit_raise⟩
  · rw [State.rgnEnd, State.raise_rd, State.count_rd]
    exact (Touches.refl _).setRgn.rd (by decide) |>.trans (by simp (disch := decide) only [State.wrs, State.rd_wr_ne, State.rd_wr_lt])
  · rw [State.rgnEnd, State.raise_rd, State.count_rd]
    exact (Touches.refl _).setRgn.rd (by decide) |>.trans (by
      simp (disch := decide) only [State.wrs, State.rd_wr_ne, State.rd_wr_same]
      exact Nat.mod_eq_of_lt h)

theorem exec_rgnAbort (hport : s.port = .opened) (hdoor : bit (s.rd Reg.HOST_DOOR_OPEN) 2 = true) (hmode : s.rgnMode = true)
    (hst : s.rd Reg.RGN_CTRL_STATE = 1) :
    ∃ t, exec .rgnAbort s = .next t ∧ t.rd Reg.HOST_LAST_STATUS = 0 ∧ t.rd Reg.RGN_CTRL_STATE = 0 ∧ t.rd Reg.RGN_RES_RESULT = 4 ∧
      bit t.intCause 14 = true := by
  obtain ⟨t, u, ht, hstatus, hu, htouch⟩ := hostWrite_rgnCtrl (v := 2) hport hdoor hst
  obtain ⟨v, hv⟩ : ∃ v : State, u.hookLow 0x002C 2 = v.rgnEnd 4 0 0xF5 := by
    have hst' : u.rd Reg.RGN_CTRL_STATE = 1 := (hu.rd (by decide)).trans hst
    have habort : u.hookLow 0x002C 2 = u.rgnAbort := rfl
    rw [habort, State.rgnAbort, if_neg (by rw [hu.rgnMode (by decide) (by decide), hmode]; decide)]
    simp only [hst', if_neg (show ¬ (1 : Nat) = 0 by decide), if_neg (show ¬ (1 : Nat) = 4 by decide)]
    exact ⟨_, rfl⟩
  obtain ⟨hstate, hresult, hcause⟩ := State.rgnEnd_shows (s := v) (reason := 0) (code := 0xF5) (show 4 < 2 ^ Reg.RGN_RES_RESULT.w by decide)
  rw [hv] at htouch
  exact ⟨t, ht, hstatus, (htouch.rd (by decide)).trans hstate, (htouch.rd (by decide)).trans hresult, htouch.causes 14 hcause⟩

/-! OPEN, COMMIT and ABORT of a persist (R326). -/

theorem State.persistRun_rests (h : s.rd Reg.IMG_PERSIST_STATE = 0 ∨ s.rd Reg.IMG_PERSIST_STATE = 3) : s.persistRun = s := by
  rw [State.persistRun]
  exact if_pos (.inl (by rcases h with h | h <;> rw [h] <;> decide))

theorem State.takes_persist (hdoor : bit (u.rd Reg.HOST_DOOR_OPEN) 2 = true) : u.Takes 0x0028 v := by
  refine State.takes_low (by decide) ?_
  simp [State.wordStat, State.doorBad_open (a := 0x0028) (d := 2) (by decide) hdoor, State.lockBad, State.rgnBad, State.busyBad, busAddr, hatchReg,
    State.rangeBad, State.rangeLow, selectMax, regionAddr]

/-- A command for a persist that is not at work reaches it. -/
theorem hostWrite_persist (hport : s.port = .opened) (hdoor : bit (s.rd Reg.HOST_DOOR_OPEN) 2 = true)
    (hst : s.rd Reg.IMG_PERSIST_STATE = 0 ∨ s.rd Reg.IMG_PERSIST_STATE = 3) :
    ∃ t u, fin (s.hostWrite 0x0028 [v]) = .next t ∧ t.rd Reg.HOST_LAST_STATUS = 0 ∧
      Touches [] [Reg.HOST_DOOR_STEP, Reg.IMG_PERSIST_CMD, Reg.IMG_PERSIST_TARGET_B] s u ∧
      Touches [.arb, .resp, .sent] (Touches.busFlds ++ Touches.lastFlds) (u.persistCmd (v % 4)) t := by
  have hfound : s.arrived.frameFinds 0x0028 1 = s.arrived := by
    rw [← Touches.arrived.rd (f := Reg.IMG_PERSIST_STATE) (by decide)] at hst
    exact State.persistRun_rests hst
  obtain ⟨t, ht, hstatus, htouch⟩ := hostWrite_found (a := 0x0028) (v := v) hport hfound (by decide)
    (State.takes_persist (by rwa [Touches.arrived.rd (by decide)]))
  exact ⟨t, s.arrived.wordStore 0x0028 v, ht, hstatus, .of (by decide) (Touches.arrived.andThen (.wordStore (by decide))), htouch⟩

theorem Touches.pathJoin {k : Nat} : Touches [.hatch] [] s (s.pathJoin k) := .of (by decide) (branch (refl s) (refl s).setHatch)

theorem persistWord_mod (c b : Nat) (h : c < 4) : (c + 8 * b) % 4 = c := by omega

theorem exec_imgPersistOpen (hport : s.port = .opened) (hdoor : bit (s.rd Reg.HOST_DOOR_OPEN) 2 = true) (hmode : s.mode = mNative)
    (hst : s.rd Reg.IMG_PERSIST_STATE = 0) (hcopy : s.rd Reg.BOOT_STAT_COPY ≤ 1) :
    ∃ t, exec .imgPersistOpen s = .next t ∧ t.rd Reg.HOST_LAST_STATUS = 0 ∧ t.rd Reg.IMG_PERSIST_STATE = 1 ∧
      t.rd Reg.IMG_PERSIST_TARGET = 1 - s.rd Reg.BOOT_STAT_COPY := by
  obtain ⟨t, u, ht, hstatus, hu, htouch⟩ := hostWrite_persist (v := 1 + 8 * s.rd Reg.IMG_PERSIST_TARGET_B) hport hdoor (.inl hst)
  have hmode' : u.mode = mNative := (hu.mode (by decide)).trans hmode
  have htarget : u.persistTarget = 1 - s.rd Reg.BOOT_STAT_COPY := by
    rw [State.persistTarget, hmode', if_neg (by decide), hu.rd (by decide)]
  have hopen : u.persistCmd 1 = (u.wrs [(Reg.IMG_PERSIST_STATE, 1), (Reg.IMG_PERSIST_TARGET, 1 - s.rd Reg.BOOT_STAT_COPY), (Reg.IMG_PERSIST_RESULT, 0),
      (Reg.IMG_PERSIST_REASON, 0)]).pathJoin 3 := by
    simp [State.persistCmd, hmode', htarget, (hu.rd (f := Reg.IMG_PERSIST_STATE) (by decide)).trans hst, mNative, mIz30, mSafe]
  rw [persistWord_mod _ _ (by decide), hopen] at htouch
  refine ⟨t, ht, hstatus, ?_, ?_⟩
  all_goals
    rw [htouch.rd (by decide), Touches.pathJoin.rd (by decide)]
    simp (disch := decide) only [State.wrs, State.rd_wr_ne, State.rd_wr_lt, State.rd_wr_same]
  exact Nat.mod_eq_of_lt (show 1 - s.rd Reg.BOOT_STAT_COPY < 2 by omega)

theorem exec_imgPersistCommit (hport : s.port = .opened) (hdoor : bit (s.rd Reg.HOST_DOOR_OPEN) 2 = true) (hst : s.rd Reg.IMG_PERSIST_STATE = 3) :
    ∃ t, exec .imgPersistCommit s = .next t ∧ t.rd Reg.HOST_LAST_STATUS = 0 ∧ t.rd Reg.IMG_PERSIST_STATE = 4 := by
  obtain ⟨t, u, ht, hstatus, hu, htouch⟩ := hostWrite_persist (v := 2 + 8 * s.rd Reg.IMG_PERSIST_TARGET_B) hport hdoor (.inr hst)
  have hiz : u.mode ≠ mIz30 := by rw [hu.mode (by decide)]; exact (State.port_opened hport).2.1
  have hcommit : u.persistCmd 2 = (u.wr Reg.IMG_PERSIST_STATE 4).pathJoin 3 := by
    simp [State.persistCmd, hiz, (hu.rd (f := Reg.IMG_PERSIST_STATE) (by decide)).trans hst]
  rw [persistWord_mod _ _ (by decide), hcommit] at htouch
  exact ⟨t, ht, hstatus, (htouch.rd (by decide)).trans ((Touches.pathJoin.rd (by decide)).trans (State.rd_wr_lt (by decide)))⟩

/-- A persist that ends shows its result and reason and raises IMG (R326, R403). -/
theorem State.persistEnd_shows {result reason code : Nat} (hresult : result < 8) :
    (s.persistEnd result reason code).rd Reg.IMG_PERSIST_STATE = 0 ∧ (s.persistEnd result reason code).rd Reg.IMG_PERSIST_RESULT = result ∧
      (s.persistEnd result reason code).rd Reg.IMG_PERSIST_REASON = reason % 16 ∧ bit (s.persistEnd result reason code).intCause 14 = true := by
  have hrd : ∀ f : Fld, (s.persistEnd result reason code).rd f =
      ((s.pathLeave 3).wrs [(Reg.IMG_PERSIST_STATE, 0), (Reg.IMG_PERSIST_RESULT, result), (Reg.IMG_PERSIST_REASON, reason)]).rd f := fun f =>
    (Touches.refl _).countIf.raise.rd (by simp)
  refine ⟨?_, ?_, ?_, State.bit_raise⟩
  all_goals
    rw [hrd]
    simp (disch := decide) only [State.wrs, State.rd_wr_ne, State.rd_wr_lt, State.rd_wr_same]
  · exact Nat.mod_eq_of_lt hresult
  · rfl

theorem exec_imgPersistAbort (hport : s.port = .opened) (hdoor : bit (s.rd Reg.HOST_DOOR_OPEN) 2 = true) (hst : s.rd Reg.IMG_PERSIST_STATE = 3) :
    ∃ t, exec .imgPersistAbort s = .next t ∧ t.rd Reg.HOST_LAST_STATUS = 0 ∧ t.rd Reg.IMG_PERSIST_STATE = 0 ∧
      t.rd Reg.IMG_PERSIST_RESULT = 4 ∧ bit t.intCause 14 = true := by
  obtain ⟨t, u, ht, hstatus, hu, htouch⟩ := hostWrite_persist (v := 3 + 8 * s.rd Reg.IMG_PERSIST_TARGET_B) hport hdoor (.inr hst)
  have hiz : u.mode ≠ mIz30 := by rw [hu.mode (by decide)]; exact (State.port_opened hport).2.1
  have habort : u.persistCmd 3 = u.persistEnd 4 0 0 := by
    simp [State.persistCmd, hiz, (hu.rd (f := Reg.IMG_PERSIST_STATE) (by decide)).trans hst]
  obtain ⟨hstate, hresult, -, hcause⟩ := State.persistEnd_shows (s := u) (result := 4) (reason := 0) (code := 0) (by decide)
  rw [persistWord_mod _ _ (by decide), habort] at htouch
  exact ⟨t, ht, hstatus, (htouch.rd (by decide)).trans hstate, (htouch.rd (by decide)).trans hresult, htouch.causes 14 hcause⟩

/-- Settles O41: each row is one word of a frame, which the port takes; what it does is its register's own meaning. -/
theorem hostRunsUpdates : Obligations.HostRunsUpdates :=
  ⟨fun _ _ _ => exec_regionStageWrite, fun _ => exec_rgnStart, fun _ => exec_rgnAbort, fun _ => exec_imgPersistOpen, fun _ => exec_imgPersistCommit,
    fun _ => exec_imgPersistAbort⟩

end Sys2Proof.Machine
end

section
/-! Commands of the hatch, of OTP and of the panel (R400, R401, R410, R422, R424). -/

namespace Sys2Proof.Machine

variable {s t u : State} {a v : Nat}

/-! The hatch: a read, a program and an erase start (R400, R401). -/

theorem State.hatchStart_shows {op : Nat} : (s.hatchStart op).hatch.op = op ∧ (s.hatchStart op).hatch.addr = s.rd Reg.HATCH_ADDR_ADDR ∧
    (s.hatchStart op).hatch.count = s.rd Reg.HATCH_LEN_WORDS_M1 + 1 ∧
    (s.hatchStart op).hatch.words = if op = 2 then (upTo (s.rd Reg.HATCH_LEN_WORDS_M1 + 1)).map (fun k => s.rdAt Reg.HATCH_DATA_DATA k) else [] := by
  unfold State.hatchStart State.pathJoin
  extract_lets n ws h
  split <;> exact ⟨rfl, rfl, rfl, rfl⟩

theorem State.hatchFree (h : s.hatch.op = 0) : s.arrived.hatchBusy = false := by
  have hpart : s.arrived.hatch = s.hatch := Touches.arrived.parts .hatch (by decide)
  simp [State.hatchBusy, hpart, h]

theorem regOk_hatch {u : State} {ch : Nat} : u.regOk 0x4812 ch = true ∧ u.regOk 0x4813 ch = true := by
  constructor <;> simp [State.regOk, State.sysOk]

theorem exec_hatchRead (hport : s.port = .opened) (hop : s.hatch.op = 0) (hew : s.on Reg.PWR_STAT_EW = false)
    (haddr : s.rd Reg.HATCH_ADDR_ADDR % 4 = 0) (hee : s.onEeprom = false) :
    ∃ t, exec .hatchRead s = .next t ∧ t.rd Reg.HOST_LAST_STATUS = 0 ∧ t.hatch.op = 1 ∧ t.hatch.addr = s.rd Reg.HATCH_ADDR_ADDR ∧
      t.hatch.count = s.rd Reg.HATCH_LEN_WORDS_M1 + 1 := by
  have hew' : s.arrived.on Reg.PWR_STAT_EW = false := (Touches.arrived.on (by decide)).trans hew
  have hee' : s.arrived.onEeprom = false := (Touches.arrived.onEeprom (by decide)).trans hee
  have haddr' : s.arrived.rd Reg.HATCH_ADDR_ADDR % 4 = 0 := by rwa [Touches.arrived.rd (by decide)]
  have htakes : s.arrived.Takes 0x4812 1 := by
    refine State.takes_unruled (by decide) (by decide) (fun _ _ => regOk_hatch.1) ?_
    simp [State.wordStat, State.doorBad, doorOf, State.lockBad, State.rgnBad, regionAddr, State.busyBad, busAddr, hatchReg, State.hatchFree hop, hew',
      State.rangeBad, selectMax, State.rangeHigh, State.hatchRange, hee', haddr']
  obtain ⟨t, ht, hstatus, htouch⟩ := hostWrite_found hport rfl (by decide) htakes
  have happly : s.arrived.wordApply 0x4812 1 = (s.arrived.wordStore 0x4812 1).hatchStart 1 := rfl
  have hstore : Touches [] [Reg.HOST_DOOR_STEP] s (s.arrived.wordStore 0x4812 1) := .of (by decide) (Touches.arrived.andThen (.wordStore (by decide)))
  obtain ⟨hop', haddr', hcount, -⟩ := State.hatchStart_shows (s := s.arrived.wordStore 0x4812 1) (op := 1)
  have hpart : t.hatch = _ := htouch.parts .hatch (by decide)
  rw [hstore.rd (by decide)] at haddr' hcount
  rw [happly] at hpart
  exact ⟨t, ht, hstatus, by rw [hpart, hop'], by rw [hpart, haddr'], by rw [hpart, hcount]⟩

/-- A word of HATCH_PROG that asks for a program (1) or an erase (2) starts it. -/
theorem hostWrite_hatchProg {op : Nat} (hv : op = 1 ∨ op = 2) (hport : s.port = .opened) (hdoor : bit (s.rd Reg.HOST_DOOR_OPEN) 2 = true)
    (hop : s.hatch.op = 0) (hew : s.on Reg.PWR_STAT_EW = false) (hrange : (s.arrived.hatchRange (op + 1)).1 = false) :
    ∃ t, fin (s.hostWrite 0x4813 [op]) = .next t ∧ t.rd Reg.HOST_LAST_STATUS = 0 ∧ t.hatch = (s.arrived.hatchStart (op + 1)).hatch := by
  have hew' : s.arrived.on Reg.PWR_STAT_EW = false := (Touches.arrived.on (by decide)).trans hew
  have hdoor' : bit (s.arrived.rd Reg.HOST_DOOR_OPEN) 2 = true := by rwa [Touches.arrived.rd (by decide)]
  have hmod : op % 4 = op := by omega
  have htakes : s.arrived.Takes 0x4813 op := by
    refine State.takes_unruled (by decide) (by decide) (fun _ _ => regOk_hatch.2) ?_
    have hthree : op ≠ 3 := by omega
    simp [State.wordStat, State.doorBad_open (a := 0x4813) (d := 2) (by decide) hdoor', State.lockBad, State.rgnBad, regionAddr, State.busyBad, busAddr,
      hatchReg, State.hatchFree hop, hew', State.rangeBad, selectMax, State.rangeHigh, hmod, hrange, hthree]
  obtain ⟨t, ht, hstatus, htouch⟩ := hostWrite_found hport rfl (by decide) htakes
  have happly : s.arrived.wordApply 0x4813 op = s.arrived.hatchStart (op + 1) := by
    rcases hv with rfl | rfl <;> rfl
  rw [happly] at htouch
  exact ⟨t, ht, hstatus, htouch.parts .hatch (by decide)⟩

theorem State.hatchMay_safe {n : Nat} (h : s.mode = mSafe) : s.hatchMay a n = true := by simp [State.hatchMay, h]

theorem exec_hatchProgram (hport : s.port = .opened) (hdoor : bit (s.rd Reg.HOST_DOOR_OPEN) 2 = true) (hmode : s.mode = mSafe)
    (hop : s.hatch.op = 0) (hew : s.on Reg.PWR_STAT_EW = false) (haddr : s.rd Reg.HATCH_ADDR_ADDR % 4 = 0) (hee : s.onEeprom = false)
    (hpage : s.rd Reg.HATCH_ADDR_ADDR % 256 + 4 * (s.rd Reg.HATCH_LEN_WORDS_M1 + 1) ≤ 256) :
    ∃ t, exec .hatchProgram s = .next t ∧ t.rd Reg.HOST_LAST_STATUS = 0 ∧ t.hatch.op = 2 ∧
      t.hatch.words = (upTo (s.rd Reg.HATCH_LEN_WORDS_M1 + 1)).map (fun k => s.rdAt Reg.HATCH_DATA_DATA k) := by
  have haddr' : s.arrived.rd Reg.HATCH_ADDR_ADDR = s.rd Reg.HATCH_ADDR_ADDR := Touches.arrived.rd (by decide)
  have hlen : s.arrived.rd Reg.HATCH_LEN_WORDS_M1 = s.rd Reg.HATCH_LEN_WORDS_M1 := Touches.arrived.rd (by decide)
  have hmay : s.arrived.hatchMay (s.rd Reg.HATCH_ADDR_ADDR) (4 * (s.rd Reg.HATCH_LEN_WORDS_M1 + 1)) = true :=
    State.hatchMay_safe ((Touches.arrived.mode (by decide)).trans hmode)
  have hrange : (s.arrived.hatchRange 2).1 = false := by
    simp only [State.hatchRange, (Touches.arrived.onEeprom (by decide)).trans hee, haddr', hlen, haddr, hmay]
    simp
    omega
  obtain ⟨t, ht, hstatus, hhatch⟩ := hostWrite_hatchProg (.inl rfl) hport hdoor hop hew hrange
  obtain ⟨hop', -, -, hwords⟩ := State.hatchStart_shows (s := s.arrived) (op := 2)
  have hdata : ∀ k, s.arrived.rdAt Reg.HATCH_DATA_DATA k = s.rdAt Reg.HATCH_DATA_DATA k := Touches.arrived.rdAt (by decide)
  simp only [if_pos, hlen, hdata] at hwords
  exact ⟨t, ht, hstatus, by rw [hhatch, hop'], by rw [hhatch, hwords]⟩

theorem exec_hatchErase (hport : s.port = .opened) (hdoor : bit (s.rd Reg.HOST_DOOR_OPEN) 2 = true) (hmode : s.mode = mSafe)
    (hop : s.hatch.op = 0) (hew : s.on Reg.PWR_STAT_EW = false) (haddr : s.rd Reg.HATCH_ADDR_ADDR % 4096 = 0) (hee : s.onEeprom = false) :
    ∃ t, exec .hatchErase s = .next t ∧ t.rd Reg.HOST_LAST_STATUS = 0 ∧ t.hatch.op = 3 := by
  have hrange : (s.arrived.hatchRange 3).1 = false := by
    simp [State.hatchRange, (Touches.arrived.onEeprom (by decide)).trans hee, Touches.arrived.rd (f := Reg.HATCH_ADDR_ADDR) (by decide), haddr,
      State.hatchMay_safe ((Touches.arrived.mode (by decide)).trans hmode)]
  obtain ⟨t, ht, hstatus, hhatch⟩ := hostWrite_hatchProg (.inr rfl) hport hdoor hop hew hrange
  exact ⟨t, ht, hstatus, by rw [hhatch, State.hatchStart_shows.1]⟩

/-! Programming of OTP starts (R410). -/

/-- A command of OTP_PROG that its state allows starts the programming. -/
theorem hostWrite_otpProg {cmd : Nat} (hcmd : cmd = 1 ∨ cmd = 2) (hport : s.port = .opened) (hdoor : bit (s.rd Reg.HOST_DOOR_OPEN) 3 = true)
    (hbusy : s.on Reg.OTP_PROG_BUSY = false) (hew : s.on Reg.PWR_STAT_EW = false) (hmay : s.arrived.rangeLow 0x0038 cmd = false) :
    ∃ t u, fin (s.hostWrite 0x0038 [cmd]) = .next t ∧ t.rd Reg.HOST_LAST_STATUS = 0 ∧ Touches [] [Reg.HOST_DOOR_STEP, Reg.OTP_PROG_CMD] s u ∧
      Touches [.arb, .resp, .sent] (Touches.busFlds ++ Touches.lastFlds) (u.otpStart cmd) t := by
  have hew' : s.arrived.on Reg.PWR_STAT_EW = false := (Touches.arrived.on (by decide)).trans hew
  have hbusy' : s.arrived.on Reg.OTP_PROG_BUSY = false := (Touches.arrived.on (by decide)).trans hbusy
  have hdoor' : bit (s.arrived.rd Reg.HOST_DOOR_OPEN) 3 = true := by rwa [Touches.arrived.rd (by decide)]
  have htakes : s.arrived.Takes 0x0038 cmd := by
    refine State.takes_low (by decide) ?_
    simp [State.wordStat, State.doorBad_open (a := 0x0038) (d := 3) (by decide) hdoor', State.lockBad, State.rgnBad, regionAddr, State.busyBad, hew',
      hbusy', State.rangeBad, selectMax, hmay]
  obtain ⟨t, ht, hstatus, htouch⟩ := hostWrite_found hport rfl (by decide) htakes
  have happly : s.arrived.wordApply 0x0038 cmd = (s.arrived.wordStore 0x0038 cmd).otpStart cmd := by
    rcases hcmd with rfl | rfl <;> rfl
  rw [happly] at htouch
  exact ⟨t, s.arrived.wordStore 0x0038 cmd, ht, hstatus, .of (by decide) (Touches.arrived.andThen (.wordStore (by decide))), htouch⟩

/-- OTP programming that has started is busy with its command, and a hash is the one staged. -/
theorem State.otpStart_shows {cmd : Nat} : (s.otpStart cmd).rd Reg.OTP_PROG_BUSY = 1 ∧ (s.otpStart cmd).rd Hid.otpOp = cmd % 2 ^ Hid.otpOp.w ∧
    (cmd = 1 → (s.otpStart cmd).otp.hash = (upTo 8).map fun k => s.rdAt Reg.OTP_HASH_HASH k) := by
  have hregs : (s.otpStart cmd).regs = (s.wrs [(Reg.OTP_PROG_BUSY, 1), (Hid.otpOp, cmd)]).regs := by
    unfold State.otpStart
    extract_lets t
    split <;> rfl
  refine ⟨?_, ?_, fun h => ?_⟩
  · rw [State.rd, State.rdAt_of_regs hregs]
    exact (State.rd_wr_ne _ _ _ _ (by decide)).trans (State.rd_wr_lt (by decide))
  · rw [State.rd, State.rdAt_of_regs hregs]
    exact State.rd_wr_same _ _ _
  · simp only [State.otpStart, if_pos h]

theorem exec_otpProgHash (hport : s.port = .opened) (hdoor : bit (s.rd Reg.HOST_DOOR_OPEN) 3 = true) (hbusy : s.on Reg.OTP_PROG_BUSY = false)
    (hew : s.on Reg.PWR_STAT_EW = false) (hset : s.otp.hashSet = false) :
    ∃ t, exec .otpProgHash s = .next t ∧ t.rd Reg.HOST_LAST_STATUS = 0 ∧ t.rd Reg.OTP_PROG_BUSY = 1 ∧
      t.otp.hash = (upTo 8).map (fun k => s.rdAt Reg.OTP_HASH_HASH k) := by
  have hotp : s.arrived.otp = s.otp := Touches.arrived.parts .otp (by decide)
  obtain ⟨t, u, ht, hstatus, hu, htouch⟩ := hostWrite_otpProg (.inl rfl) hport hdoor hbusy hew (by simp [State.rangeLow, hotp, hset])
  obtain ⟨hbusy', -, hhash⟩ := State.otpStart_shows (s := u) (cmd := 1)
  have htotp : t.otp = (u.otpStart 1).otp := htouch.parts .otp (by decide)
  have hstaged : ∀ k, u.rdAt Reg.OTP_HASH_HASH k = s.rdAt Reg.OTP_HASH_HASH k := hu.rdAt (by decide)
  simp only [hstaged, forall_const] at hhash
  exact ⟨t, ht, hstatus, (htouch.rd (by decide)).trans hbusy', by rw [htotp, hhash]⟩

theorem exec_otpProgSigned (hport : s.port = .opened) (hdoor : bit (s.rd Reg.HOST_DOOR_OPEN) 3 = true) (hbusy : s.on Reg.OTP_PROG_BUSY = false)
    (hew : s.on Reg.PWR_STAT_EW = false) (hset : s.otp.hashSet = true) (hsigned : s.otp.signed = false) :
    ∃ t, exec .otpProgSigned s = .next t ∧ t.rd Reg.HOST_LAST_STATUS = 0 ∧ t.rd Reg.OTP_PROG_BUSY = 1 ∧ t.rd Hid.otpOp = 2 := by
  have hotp : s.arrived.otp = s.otp := Touches.arrived.parts .otp (by decide)
  obtain ⟨t, u, ht, hstatus, -, htouch⟩ := hostWrite_otpProg (.inr rfl) hport hdoor hbusy hew (by simp [State.rangeLow, hotp, hset, hsigned])
  obtain ⟨hbusy', hop, -⟩ := State.otpStart_shows (s := u) (cmd := 2)
  exact ⟨t, ht, hstatus, (htouch.rd (by decide)).trans hbusy', (htouch.rd (by decide)).trans hop⟩

/-! OFF and ON of the panel (R422, R424). -/

/-- A word of DISP_CMD is taken at any time. -/
theorem hostWrite_dispCmd (hport : s.port = .opened) (hv : v < 3) :
    ∃ t, fin (s.hostWrite 0x5008 [v]) = .next t ∧ t.rd Reg.HOST_LAST_STATUS = 0 ∧
      Touches [.arb, .resp, .sent] (Touches.busFlds ++ Touches.lastFlds) (s.arrived.dispCmd v) t := by
  have hmod : v % 4 = v := by omega
  have htakes : s.arrived.Takes 0x5008 v := by
    refine State.takes_unruled (by decide) (by decide) (fun _ _ => by simp [State.regOk, State.dispOk]) ?_
    have hthree : v ≠ 3 := by omega
    simp [State.wordStat, State.doorBad, doorOf, State.lockBad, State.rgnBad, regionAddr, State.busyBad, busAddr, hatchReg, State.rangeBad,
      selectMax, State.rangeHigh, hmod, hthree]
  obtain ⟨t, ht, hstatus, htouch⟩ := hostWrite_found hport rfl (by decide) htakes
  have happly : s.arrived.wordApply 0x5008 v = s.arrived.dispCmd v := by
    simp [State.wordApply, State.wordStore_command (a := 0x5008) (by decide) (by decide), State.hookHigh, hmod]
  exact ⟨t, ht, hstatus, happly ▸ htouch⟩

theorem exec_dispOff (hport : s.port = .opened) (hst : s.rd Reg.DISP_STAT_STATE = 3) :
    ∃ t, exec .dispOff s = .next t ∧ t.rd Reg.HOST_LAST_STATUS = 0 ∧ t.rd Reg.DISP_STAT_STATE = 4 ∧ t.rd Hid.dispOff = 1 := by
  obtain ⟨t, ht, hstatus, htouch⟩ := hostWrite_dispCmd (v := 1) hport (by decide)
  have hoff : Touches [] [Reg.HOST_DOOR_STEP, Hid.dispOff] s (s.arrived.wr Hid.dispOff 1) := .of (by decide) Touches.arrived.wr
  have hcmd : s.arrived.dispCmd 1 = (s.arrived.wr Hid.dispOff 1).panelDischarge := rfl
  rw [hcmd] at htouch
  refine ⟨t, ht, hstatus, (htouch.rd (by decide)).trans ?_,
    (htouch.rd (by decide)).trans ((Touches.panelDischarge.rd (by decide)).trans (State.rd_wr_lt (by decide)))⟩
  rw [State.panelDischarge, if_pos (.inr ((hoff.rd (by decide)).trans hst))]
  simp (disch := decide) only [State.wrs, State.rd_wr_ne, State.rd_wr_lt]

theorem exec_dispOn (hport : s.port = .opened) (hst : s.rd Reg.DISP_STAT_STATE = 0) (hnative : s.native = true)
    (hlines : s.rd Reg.DISP_CTRL_LINES ≠ 0) (hew : s.on Reg.PWR_STAT_EW = false) :
    ∃ t, exec .dispOn s = .next t ∧ t.rd Reg.HOST_LAST_STATUS = 0 ∧ t.rd Reg.DISP_STAT_STATE = 1 ∧ t.rd Hid.dispOff = 0 := by
  obtain ⟨t, ht, hstatus, htouch⟩ := hostWrite_dispCmd (v := 2) hport (by decide)
  have hon : Touches [] [Reg.HOST_DOOR_STEP, Hid.dispOff] s (s.arrived.wr Hid.dispOff 0) := .of (by decide) Touches.arrived.wr
  have hoff : (s.arrived.wr Hid.dispOff 0).rd Hid.dispOff = 0 := State.rd_wr_lt (by decide)
  have hmay : (s.arrived.wr Hid.dispOff 0).panelMay = true := by
    have hoff' : (s.arrived.wr Hid.dispOff 0).on Hid.dispOff = false := by rw [State.on, hoff]; rfl
    rw [State.panelMay, hon.native (by decide), hon.alive (by decide) (by decide), hon.rd (by decide), hoff', hon.on (by decide), hew, hnative,
      (State.port_opened hport).1]
    simp [hlines]
  have hcmd : s.arrived.dispCmd 2 = (s.arrived.wr Hid.dispOff 0).panelIdle := rfl
  rw [hcmd] at htouch
  refine ⟨t, ht, hstatus, (htouch.rd (by decide)).trans ?_, (htouch.rd (by decide)).trans ((Touches.panelIdle.rd (by decide)).trans hoff)⟩
  simp [State.panelIdle, (hon.rd (f := Reg.DISP_STAT_STATE) (by decide)).trans hst, hmay, State.rd_wr_lt (f := Reg.DISP_STAT_STATE) (v := 1) (by decide)]

/-- Settles O43: each row is one word of a frame, which the port takes in the state that its clause describes. -/
theorem hatchOtpAndPanelCommands : Obligations.HatchOtpAndPanelCommands :=
  ⟨fun _ => exec_hatchRead, fun _ => exec_hatchProgram, fun _ => exec_hatchErase, fun _ => exec_otpProgHash, fun _ => exec_otpProgSigned,
    fun _ => exec_dispOff, fun _ => exec_dispOn⟩

end Sys2Proof.Machine
end

section
/-! Request frames at the port: what is read, written, refused and answered (R388 to R394). -/

namespace Sys2Proof.Machine

variable {s t u x : State} {a v n : Nat} {f : Frame} {st : HostStat} {data : List Nat}

/-! What an answer shows. -/

theorem State.reply_rd {g : Fld} {l : List Nat} : (s.reply l).rd g = s.rd g := by
  unfold State.reply
  split <;> rfl

theorem State.respond_last : (s.respond f st data).rd Reg.HOST_LAST_OPC = f.opc % 2 ^ 8 ∧ (s.respond f st data).rd Reg.HOST_LAST_ADDR = f.addr % 2 ^ 16 := by
  constructor
  all_goals
    rw [State.respond, State.reply_rd, Touches.levelPulse.rd (by decide)]
    simp (disch := decide) only [State.wrs, State.rd_wr_ne, State.rd_wr_same]
  all_goals rfl

/-- Over SPI an answer sends its status, four bytes a word and a CRC byte at once (R388, R390). -/
theorem State.respond_sent (hspi : s.on Reg.HOST_CFG_PORT = false) :
    (s.respond f st data).sent.length = 4 * data.length + 2 ∧ (s.respond f st data).sent.head? = some st.code := by
  have hpulse : Touches [] Touches.lastFlds s ((s.wrs [(Reg.HOST_LAST_STATUS, st.code), (Reg.HOST_LAST_OPC, f.opc),
      (Reg.HOST_LAST_ADDR, f.addr)]).levelPulse 0xDF) := .of (by decide) ((Touches.refl s).wr.wr.wr.andThen .levelPulse)
  have hlen : (data.flatMap (beBytes 4)).length = 4 * data.length := by
    rw [List.length_flatMap]
    simp [length_beBytes, Nat.mul_comm]
  rw [State.respond, State.reply, if_neg (by rw [hpulse.on (by decide), hspi]; decide)]
  exact ⟨by simp [hlen], rfl⟩

/-! The frame as the port takes it in. -/

theorem requestCrc_lt {opc len : Nat} {words : List Nat} : requestCrc opc a len words < 256 := crc8With_lt (by decide)

/-- A request that is no command acts on the machine as it arrived, and its answer is counted where it refuses. -/
theorem State.hostFrame_acts {r : Answer} (hport : s.port = .opened) (hcrc : f.crcOk = true) (hopc : f.opc ≠ 3) (hact : s.arrived.frameAct f = r)
    (hrst : r.rst = 0) : s.hostFrame f = (r.s.countIf (r.stat != .ok) 0xD3).respond f r.stat r.data := by
  have harrived : (s.count 0xD0).doorCancel = s.arrived := rfl
  simp [State.hostFrame, State.frameGood, State.isSecond, hport, hcrc, hopc, harrived, hact, hrst, State.frameReset]

theorem exec_crcWrong (hport : s.port = .opened) (hcrc : f.crcOk = false) :
    ∃ t, fin (s.hostFrame f) = .next t ∧ t.rd Reg.HOST_LAST_STATUS = 1 ∧ t.rd Reg.HOST_LAST_OPC = f.opc % 2 ^ 8 ∧
      Touches [.resp, .sent] Touches.lastFlds s t := by
  have hframe : s.hostFrame f = (s.count 0xD1).respond f .crc [] := by simp [State.hostFrame, hport, hcrc]
  rw [hframe]
  refine exists_fin ?_
  rw [State.evcEdge_rd, State.evcEdge_rd]
  exact ⟨State.respond_status, State.respond_last.1, .of (by decide) ((Touches.refl s).count.andThen .respond).evcEdge⟩

/-- A request of no known kind is refused for its form. -/
theorem exec_unknown (hport : s.port = .opened) (hcrc : f.crcOk = true) (hopc : 4 ≤ f.opc) :
    ∃ t, fin (s.hostFrame f) = .next t ∧ t.rd Reg.HOST_LAST_STATUS = 6 ∧ t.rd Reg.HOST_LAST_OPC = f.opc % 2 ^ 8 := by
  have hact : s.arrived.frameAct f = { stat := .rangeForm, s := s.arrived } := by
    rw [State.frameAct, if_neg (by omega), if_neg (by omega), if_neg (by omega)]
  rw [State.hostFrame_acts hport hcrc (by omega) hact rfl]
  refine exists_fin ?_
  rw [State.evcEdge_rd, State.evcEdge_rd]
  exact ⟨State.respond_status, State.respond_last.1⟩

/-- A port in BOOT or in the hold of a soft reset answers that it is busy, and does nothing else (R347, R393). -/
theorem exec_portBusy (hport : s.port = .busy) (hcrc : f.crcOk = true) :
    ∃ t, fin (s.hostFrame f) = .next t ∧ t.rd Reg.HOST_LAST_STATUS = 3 ∧
      Touches [.resp, .sent] (Reg.HOST_DOOR_STEP :: Touches.lastFlds) s t := by
  have hframe : s.hostFrame f = (s.arrived.countIf true 0xD3).respond f .busyPort [] := by
    have harrived : (s.count 0xD0).doorCancel = s.arrived := rfl
    simp [State.hostFrame, State.frameGood, State.isSecond, hport, hcrc, harrived, State.frameReset]
    rfl
  rw [hframe]
  refine exists_fin ?_
  rw [State.evcEdge_rd]
  exact ⟨State.respond_status, .of (by decide) (Touches.arrived.countIf.andThen .respond).evcEdge⟩

theorem exec_portOff (hport : s.port = .off) : ∃ t, fin (s.hostFrame f) = .next t ∧ t.regs = s.regs ∧ t.sent = s.sent := by
  rw [State.hostFrame, if_pos hport]
  exact exists_fin ⟨State.evcEdge_regs _, State.evcEdge_sent _⟩

/-! A read frame (R391, R392). -/

/-- What reads of registers write: latched words, the RTC's running sub-second, and what a read with check bits records. -/
def readFlds : List Fld :=
  [Reg.WHEEL_HI_TICK, Hid.rtcLatD, Hid.rtcLatDOn, Hid.rtcLatS, Hid.rtcLatSOn, Hid.rtcHold, Reg.RTC_SUBSEC_SUBSEC, Reg.RTC_STAT_SHIFT_PEND] ++
    Touches.eccFlds

namespace Touches

theorem evcShow {k : Nat} : Touches [] [] s (s.evcShow k) :=
  .of (by decide) (branch ((refl s).freeBelow.setEvc.andThen evcAdd) (refl s))

theorem readEffect : Touches [.upsets] readFlds s (s.readEffect a) :=
  .of (by decide) (branch (refl s).wr (branch rtcRun.wr.wr.wr.wr (branch rtcRun (branch rtcShow (branch evcShow
    (branch ((refl s).each fun _ _ => evcShow) (branch noteDue (branch ceFix (refl s)))))))))

theorem rtcLatched : Touches [] [Hid.rtcLatDOn, Hid.rtcLatSOn] s (s.rtcLatched a).2 := by
  unfold State.rtcLatched
  exact .of (by decide) (branch_snd (refl s).wr (branch_snd (refl s).wr (refl s)))

theorem pointerRead : Touches [] [] s s.pointerRead.2 := .of (by decide) (branch_snd (refl s) (refl s).freeBelow)

theorem balRead : Touches [] [] s s.balRead.2 := by
  have hspent : Touches [] [] s s.panelSpent.2 := (refl s).setEvc
  unfold State.balRead
  extract_lets p
  exact .of (by decide) (branch_snd hspent (refl s))

theorem readWord : Touches [.upsets] readFlds s (s.readWord a).2 := by
  unfold State.readWord
  extract_lets t l
  have hl : Touches [.upsets] readFlds s l.2 := .of (by decide) (readEffect.andThen rtcLatched)
  split
  · exact hl
  · split
    · exact .of (by decide) (readEffect.andThen pointerRead)
    · split
      · exact .of (by decide) (readEffect.andThen balRead)
      · exact readEffect

theorem frameWords {seq cnt : Nat} : Touches [.upsets] readFlds s (s.frameWords a seq cnt n).2.2 := by
  induction n generalizing s a seq cnt with
  | zero => exact (refl s).more (by simp) (by simp)
  | succ n ih =>
    unfold State.frameWords
    extract_lets f due m w
    have hw : Touches [.upsets] readFlds s w.2 := .of (by decide) ((branch ((refl s).freeBelow.andThen countWords) (refl s)).andThen readWord)
    exact hw.trans ih

theorem frameFinds : Touches [] [Reg.IMG_PERSIST_STATE, Hid.rtcHold, Reg.RTC_SUBSEC_SUBSEC, Reg.RTC_STAT_SHIFT_PEND] s (s.frameFinds a n) := by
  have hrun : ∀ t : State, Touches [] [Reg.IMG_PERSIST_STATE] t t.persistRun := fun t =>
    .of (by decide) (branch (refl t) (branch (refl t).freeBelow (branch (branch (refl t).freeBelow.wr (refl t).freeBelow)
      (branch (refl t).freeBelow.wr (refl t).freeBelow))))
  exact .of (by decide) (((refl s).whenB hrun).whenB fun _ => rtcShow)

end Touches

theorem State.length_frameWords {seq cnt : Nat} : (s.frameWords a seq cnt n).1.length = n := by
  induction n generalizing s a seq cnt with
  | zero => rfl
  | succ n ih => simp only [State.frameWords, List.length_cons, ih]

/-- A read frame that its form and the coach bus allow answers its words. -/
theorem State.frameRead_ok (hend : a + n ≤ 0x10000) (hbus : s.hostOrder a n = false) :
    ∃ data x, s.frameRead a n = { data := data, s := x } ∧ data.length = n ∧ Touches [.arb, .upsets] (readFlds ++ Touches.busFlds) s x := by
  unfold State.frameRead
  by_cases hn : n = 0
  · rw [if_pos hn]
    exact ⟨[], s, rfl, hn.symm, (Touches.refl s).more (by simp) (by simp)⟩
  · rw [if_neg hn, if_neg (by omega), if_neg (by simp [hbus])]
    exact ⟨_, _, rfl, State.length_frameWords, .of (by decide) (Touches.frameWords.andThen (Touches.hostAsk.andThen .countWords))⟩

theorem exec_lyaleRead (hport : s.port = .opened) (hend : a + n ≤ 0x10000) (ha : a < 0x10000) (hn : n ≤ 255) (hbus : s.hostOrder a n = false)
    (hspi : s.on Reg.HOST_CFG_PORT = false) :
    ∃ t, exec (.lyaleRead a n (requestCrc 1 a n [])) s = .next t ∧ t.rd Reg.HOST_LAST_STATUS = 0 ∧ t.rd Reg.HOST_LAST_OPC = 1 ∧
      t.rd Reg.HOST_LAST_ADDR = a ∧ t.sent.length = 4 * n + 2 ∧ (t.sent.head? = some 0) := by
  obtain ⟨f, hf⟩ : ∃ f : Frame, f = { opc := 1, addr := a, len := n, words := [], crcOk := true } := ⟨_, rfl⟩
  have hframe : frameOf 1 a n [] (some (requestCrc 1 a n [])) = f := by
    simp [frameOf, hf, Nat.mod_eq_of_lt ha, Nat.mod_eq_of_lt (show n < 256 by omega), Nat.mod_eq_of_lt requestCrc_lt]
  have hfinds : Touches [] [Reg.HOST_DOOR_STEP, Reg.IMG_PERSIST_STATE, Hid.rtcHold, Reg.RTC_SUBSEC_SUBSEC, Reg.RTC_STAT_SHIFT_PEND] s
      (s.arrived.frameFinds a n) := .of (by decide) (Touches.arrived.andThen .frameFinds)
  have hbus' : (s.arrived.frameFinds a n).hostOrder a n = false := by
    rw [← hbus, State.hostOrder, State.hostOrder, State.ownsBus, State.ownsBus]
    have harb : (s.arrived.frameFinds a n).arb = s.arb := hfinds.parts .arb (by decide)
    rw [harb]
  obtain ⟨data, x, hread, hlen, hx⟩ := State.frameRead_ok hend hbus'
  have hact : s.arrived.frameAct f = { data := data, s := x } := by rw [hf]; exact hread
  have hexec : exec (.lyaleRead a n (requestCrc 1 a n [])) s = fin (s.hostFrame f) := by rw [← hframe]; rfl
  rw [hexec, State.hostFrame_acts hport (by rw [hf]) (by simp [hf]) hact rfl]
  obtain ⟨hsent, hhead⟩ := State.respond_sent (f := f) (st := .ok) (data := data) (((hfinds.andThen hx).on (by decide)).trans hspi)
  obtain ⟨hopc, haddr⟩ := State.respond_last (s := x) (f := f) (st := .ok) (data := data)
  refine exists_fin ?_
  rw [State.evcEdge_rd, State.evcEdge_rd, State.evcEdge_rd, State.evcEdge_sent]
  refine ⟨State.respond_status, hopc.trans (by simp [hf]), haddr.trans (by rw [hf]; exact Nat.mod_eq_of_lt ha), hsent.trans (by rw [hlen]), hhead⟩

/-! A write of INT_EN (R392), and a word behind a closed door (R397). -/

theorem State.wordStore_intEn : s.wordStore 0x4809 v = s.wr Reg.INT_EN_EN (bits v 0 16) := by
  have hfields : Reg.fieldsAt 0x4809 = [Reg.INT_EN_EN] := by decide
  simp [State.wordStore, State.ownWrite, hfields, State.each, State.fieldWrite, State.liveBits]
  simp [Reg.INT_EN_EN, Fld.chan, bits_and_word, State.wr]

theorem frameOf_write (crc : Nat) : frameOf 2 0x4809 (min [v].length 255) [v] (some crc) =
    { opc := 2, addr := 0x4809, len := 1, words := [v % 2 ^ 32], crcOk := crc % 256 == requestCrc 2 0x4809 1 [v % 2 ^ 32] } := rfl

theorem exec_lyaleWrite_intEn (hport : s.port = .opened) :
    ∃ t, exec (.lyaleWrite 0x4809 [v] (requestCrc 2 0x4809 1 [v % 2 ^ 32])) s = .next t ∧ t.rd Reg.HOST_LAST_STATUS = 0 ∧
      t.rd Reg.INT_EN_EN = v % 2 ^ 16 ∧ t.rd Reg.HOST_LAST_OPC = 2 := by
  have hexec : exec (.lyaleWrite 0x4809 [v] (requestCrc 2 0x4809 1 [v % 2 ^ 32])) s = fin (s.hostWrite 0x4809 [v % 2 ^ 32]) := by
    have h : exec (.lyaleWrite 0x4809 [v] (requestCrc 2 0x4809 1 [v % 2 ^ 32])) s = fin (s.hostFrame (frameOf 2 0x4809 (min [v].length 255) [v]
      (some (requestCrc 2 0x4809 1 [v % 2 ^ 32])))) := rfl
    rw [h, frameOf_write, Nat.mod_eq_of_lt requestCrc_lt, beq_self_eq_true]
    rfl
  have htakes : s.arrived.Takes 0x4809 (v % 2 ^ 32) := by
    refine State.takes_unruled (by decide) (by decide) (fun _ _ => by simp [State.regOk, State.sysOk]) ?_
    simp [State.wordStat, State.doorBad, doorOf, State.lockBad, State.rgnBad, regionAddr, State.busyBad, busAddr, hatchReg, State.rangeBad,
      selectMax, State.rangeHigh]
  obtain ⟨x, hx, htouch⟩ := State.hostWrite_found hport rfl (by decide) htakes
  have happly : s.arrived.wordApply 0x4809 (v % 2 ^ 32) = s.arrived.wr Reg.INT_EN_EN (bits (v % 2 ^ 32) 0 16) := by
    simp [State.wordApply, State.wordStore_intEn, State.hookHigh]
  rw [hexec, hx]
  refine exists_fin ?_
  rw [State.evcEdge_rd, State.evcEdge_rd, State.evcEdge_rd]
  refine ⟨State.respond_status, ?_, State.respond_last.1⟩
  rw [Touches.respond.rd (by decide), htouch.rd (by decide), happly, State.rd_wr_same]
  simp only [bits, Reg.INT_EN_EN]
  omega

/-- A word for SUPV_REPAIR with its door closed would set GO, so that it is refused. -/
theorem State.wordStat_repair (hdoor : bit (s.rd Reg.HOST_DOOR_OPEN) 0 = false) (hgo : s.rd Reg.SUPV_REPAIR_GO = 0) :
    s.wordStat s 0x1808 1 = .door := by
  have hfields : Reg.fieldsAt 0x1808 = [Reg.SUPV_REPAIR_GO, Reg.SUPV_REPAIR_RESULT] := by decide
  have hword : bits (s.regWord 0x1808) 0 1 = 0 := by
    have hstored : s.storedWord 0x1808 = s.rd Reg.SUPV_REPAIR_GO + s.rd Reg.SUPV_REPAIR_RESULT * 2 ^ 8 := by
      rw [State.storedWord, hfields]
      simp [State.rd, Fld.chan, Reg.SUPV_REPAIR_GO, Reg.SUPV_REPAIR_RESULT]
    have hzero : s.derivedLow 0x1808 = 0 := by simp [State.derivedLow]
    rw [State.regWord, if_neg (by decide), if_neg (by decide), if_neg (by decide), if_pos (by decide), hstored, hzero, hgo]
    simp only [bits]
    omega
  have hacts : s.doorActs 0x1808 1 = true := by
    have hgoes : (Reg.SUPV_REPAIR_GO.acc == .rwd && bits (s.regWord 0x1808) Reg.SUPV_REPAIR_GO.lo Reg.SUPV_REPAIR_GO.w !=
        bits (1 &&& s.liveBits 0x1808) Reg.SUPV_REPAIR_GO.lo Reg.SUPV_REPAIR_GO.w) = true := by
      simp [Reg.SUPV_REPAIR_GO, hword, State.liveBits]
      decide
    rw [State.doorActs, hfields, List.any_cons, hgoes]
    rfl
  simp [State.wordStat, State.doorBad, doorOf, hdoor, hacts]

theorem exec_supvRepair_door (hport : s.port = .opened) (hdoor : bit (s.rd Reg.HOST_DOOR_OPEN) 0 = false) (hgo : s.rd Reg.SUPV_REPAIR_GO = 0) :
    ∃ t, exec .supvRepair s = .next t ∧ t.rd Reg.HOST_LAST_STATUS = 5 ∧ t.rd Reg.SUPV_REPAIR_GO = 0 := by
  have hstat : s.arrived.wordStat s.arrived 0x1808 1 = .door :=
    State.wordStat_repair (by rwa [Touches.arrived.rd (by decide)]) ((Touches.arrived.rd (by decide)).trans hgo)
  obtain ⟨refused, hframe⟩ : ∃ refused, s.arrived.frameWrite 0x1808 [1] = { stat := .door, s := s.arrived.refuseCounts .door 0x1808 1 refused } :=
    State.frameWrite_refused (State.lockRead_outside (.inr (by decide))).symm (by decide) hstat (by decide) (by decide) (by decide)
  have hfound : s.arrived.frameFinds 0x1808 1 = s.arrived := rfl
  have hexec : exec .supvRepair s = fin (s.hostWrite 0x1808 [1]) := rfl
  rw [hexec, State.hostWrite_refused hport (by decide) (hfound.symm ▸ hframe)]
  refine exists_fin ?_
  rw [State.evcEdge_rd, State.evcEdge_rd]
  refine ⟨State.respond_status, ?_⟩
  rw [Touches.respond.rd (by decide), State.count_rd, Touches.refuseCounts.rd (by decide), hfound, Touches.arrived.rd (by decide), hgo]

theorem exec_lyaleWrite_crc {crc : Nat} (hport : s.port = .opened) (hlt : crc ≤ 255) (hcrc : crc ≠ requestCrc 2 0x4809 1 [v % 2 ^ 32]) :
    ∃ t, exec (.lyaleWrite 0x4809 [v] crc) s = .next t ∧ t.rd Reg.HOST_LAST_STATUS = 1 ∧ t.rd Reg.INT_EN_EN = s.rd Reg.INT_EN_EN := by
  obtain ⟨t, ht, hstatus, -, htouch⟩ := exec_crcWrong (f := frameOf 2 0x4809 (min [v].length 255) [v] (some crc)) hport
    (by rw [frameOf_write]; exact beq_eq_false_iff_ne.mpr ((Nat.mod_eq_of_lt (show crc < 256 by omega)).symm ▸ hcrc))
  exact ⟨t, ht, hstatus, htouch.rd (by decide)⟩

theorem exec_lyaleWrite_busy {crc : Nat} (hport : s.port = .busy) (ha : a ≤ 0xFFFF) (hlen : data.length ≤ 255)
    (hcrc : crc = requestCrc 2 a data.length (data.map (fun v => v % 2 ^ 32))) :
    ∃ t, exec (.lyaleWrite a data crc) s = .next t ∧ t.rd Reg.HOST_LAST_STATUS = 3 ∧ t.rd Reg.INT_EN_EN = s.rd Reg.INT_EN_EN := by
  have hgood : (frameOf 2 a (min data.length 255) data (some crc)).crcOk = true := by
    simp [frameOf, hcrc, Nat.mod_eq_of_lt requestCrc_lt, Nat.mod_eq_of_lt (show a < 65536 by omega), Nat.min_eq_left hlen,
      Nat.mod_eq_of_lt (show data.length < 256 by omega), List.take_of_length_le hlen]
  obtain ⟨t, ht, hstatus, htouch⟩ := exec_portBusy hport hgood
  exact ⟨t, ht, hstatus, htouch.rd (by decide)⟩

/-! Requests of no known kind (R390, R393). -/

/-- The frame of an unknown request, with its CRC as the operand says. -/
def unknownFrame (opc a n : Nat) (crcOk : Bool) : Frame :=
  { frameOf opc a n (if opc % 256 = 2 ∨ opc % 256 = 3 then List.replicate (n % 256) 0 else []) none with crcOk := crcOk }

theorem exec_lyaleUnknownOpc {opc : Nat} {crcOk : Bool} :
    exec (.lyaleUnknownOpc ⟨opc, crcOk⟩ a n) s = fin (s.hostFrame (unknownFrame opc a n crcOk)) := rfl

theorem exec_lyaleUnknownOpc_form {opc : Nat} (hport : s.port = .opened) (hlow : 4 ≤ opc) (hhigh : opc ≤ 255) :
    ∃ t, exec (.lyaleUnknownOpc ⟨opc, true⟩ a n) s = .next t ∧ t.rd Reg.HOST_LAST_STATUS = 6 ∧ t.rd Reg.HOST_LAST_OPC = opc := by
  have hopc : (unknownFrame opc a n true).opc = opc := Nat.mod_eq_of_lt (by omega)
  obtain ⟨t, ht, hstatus, hlast⟩ := exec_unknown (f := unknownFrame opc a n true) hport rfl (hopc.symm ▸ hlow)
  exact ⟨t, exec_lyaleUnknownOpc.trans ht, hstatus, by rw [hlast, hopc, Nat.mod_eq_of_lt (by omega)]⟩

theorem exec_lyaleUnknownOpc_crc {opc : Nat} (hport : s.port = .opened) (hhigh : opc ≤ 255) :
    ∃ t, exec (.lyaleUnknownOpc ⟨opc, false⟩ a n) s = .next t ∧ t.rd Reg.HOST_LAST_STATUS = 1 ∧ t.rd Reg.HOST_LAST_OPC = opc := by
  have hopc : (unknownFrame opc a n false).opc = opc := Nat.mod_eq_of_lt (by omega)
  obtain ⟨t, ht, hstatus, hlast, -⟩ := exec_crcWrong (f := unknownFrame opc a n false) hport rfl
  exact ⟨t, exec_lyaleUnknownOpc.trans ht, hstatus, by rw [hlast, hopc, Nat.mod_eq_of_lt (by omega)]⟩

/-- Settles O44: the port's answer by the frame's CRC, its kind, the state of the port, and what its words meet. -/
theorem lyaleFrames : Obligations.LyaleFrames :=
  ⟨fun _ _ _ => exec_lyaleRead, fun _ _ => exec_lyaleWrite_intEn, fun _ _ _ => exec_lyaleWrite_crc,
    fun _ _ _ _ hport ha hlen _ => exec_lyaleWrite_busy hport ha hlen, fun _ _ _ _ hport _ _ _ => exec_portOff hport,
    fun _ _ _ _ hport hlow hhigh _ _ => exec_lyaleUnknownOpc_form hport hlow hhigh, fun _ _ _ _ hport hhigh _ _ => exec_lyaleUnknownOpc_crc hport hhigh,
    fun _ => exec_supvRepair_door⟩

end Sys2Proof.Machine
end

section
/-! What the operations of the model leave of an event counter (R405, R406). -/

namespace Sys2Proof.Machine

variable {s t : State} {j k n code : Nat} {c d e x : EvCtr}

/-- An event counter of the machine. -/
def State.ctr (s : State) (k : Nat) : EvCtr := s.evcs.getD k {}

/-- The settings of a counter and its snapshot are the same. -/
structure EvCtr.Kept (c d : EvCtr) : Prop where
  snap : d.snap = c.snap
  src : d.src = c.src
  mode : d.mode = c.mode
  presc : d.presc = c.presc

theorem EvCtr.Kept.refl (c : EvCtr) : c.Kept c := ⟨rfl, rfl, rfl, rfl⟩

theorem EvCtr.Kept.trans (h : c.Kept d) (g : d.Kept e) : c.Kept e :=
  ⟨g.snap.trans h.snap, g.src.trans h.src, g.mode.trans h.mode, g.presc.trans h.presc⟩

theorem getD_setAt_ne {l : List EvCtr} (h : j ≠ k) : (setAt l j x).getD k {} = l.getD k {} := by
  simp [setAt_eq_set, List.getD_eq_getElem?_getD, List.getElem?_set_ne h]

theorem getD_setAt_same {l : List EvCtr} (h : k < l.length) : (setAt l k x).getD k {} = x := by
  simp [setAt_eq_set, List.getD_eq_getElem?_getD, h]

/-- A change of one counter that keeps its settings and snapshot keeps those of all. -/
theorem kept_setAt {l : List EvCtr} (h : (l.getD j {}).Kept x) : (l.getD k {}).Kept ((setAt l j x).getD k {}) := by
  by_cases hjk : j = k
  · subst hjk
    by_cases hlen : j < l.length
    · rwa [getD_setAt_same hlen]
    · rw [show setAt l j x = l by simp [setAt_eq_set, List.set_eq_of_length_le (Nat.le_of_not_lt hlen)]]
      exact .refl _
  · rw [getD_setAt_ne hjk]
    exact .refl _

/-- What holds of a counter, and is kept by each step, holds after a loop. -/
theorem foldl_ctr {α : Type} {l : List α} {f : State → α → State} {Q : EvCtr → Prop} (hf : ∀ t a, Q (t.ctr k) → Q ((f t a).ctr k)) (h : Q (s.ctr k)) :
    Q ((l.foldl f s).ctr k) := by
  induction l generalizing s with
  | nil => exact h
  | cons a l ih => exact ih (hf s a h)

theorem State.evcAdd_evcs : (s.evcAdd j n).evcs = setAt s.evcs j (((s.ctr j).add n).1) := by
  unfold State.evcAdd
  extract_lets r t
  split <;> rfl

theorem State.evcAdd_ctr_ne (h : j ≠ k) : (s.evcAdd j n).ctr k = s.ctr k := by rw [State.ctr, State.evcAdd_evcs, getD_setAt_ne h, State.ctr]

theorem State.evcAdd_kept : (s.ctr k).Kept ((s.evcAdd j n).ctr k) := by
  rw [State.ctr, State.ctr, State.evcAdd_evcs]
  exact kept_setAt ⟨rfl, rfl, rfl, rfl⟩

theorem State.countN_kept : (s.ctr k).Kept ((s.countN code n).ctr k) := by
  unfold State.countN
  split
  · exact .refl _
  · refine foldl_ctr (Q := fun c => (s.ctr k).Kept c) (fun t j ht => ?_) (.refl _)
    extract_lets c
    split
    · split
      · exact ht.trans State.evcAdd_kept
      · exact ht.trans (State.evcAdd_kept (s := t.takeFree.2))
    · exact ht

theorem State.countN_ctr (h : (s.ctr k).src ≠ code) : (s.countN code n).ctr k = s.ctr k := by
  unfold State.countN
  split
  · rfl
  · refine foldl_ctr (Q := fun c => c = s.ctr k) (fun t j ht => ?_) rfl
    extract_lets c
    split
    next hc =>
      have hne : j ≠ k := by
        rintro rfl
        exact h (ht ▸ hc.1)
      split
      · rw [State.evcAdd_ctr_ne hne, ht]
      · rw [State.evcAdd_ctr_ne hne]
        exact ht
    next => exact ht

theorem State.countIf_kept {b : Bool} : (s.ctr k).Kept ((s.countIf b code).ctr k) := by
  unfold State.countIf
  split
  · exact State.countN_kept
  · exact .refl _

theorem State.countWords_kept {a : Nat} {run first : Bool} : (s.ctr k).Kept ((s.countWords a n run first).ctr k) := by
  unfold State.countWords
  split
  · exact State.countN_kept
  · split
    · exact .refl _
    · refine foldl_ctr (Q := fun c => (s.ctr k).Kept c) (fun t j ht => ?_) (.refl _)
      extract_lets c
      split
      · exact ht.trans (State.evcAdd_kept (s := t.takeFree.2))
      · exact ht

/-- Marking a counter's level and perhaps adding to it keeps its settings and snapshot. -/
theorem State.mark_kept {b : Bool} {u : State} (hu : u.evcs = setAt s.evcs j x) (hx : (s.ctr j).Kept x) :
    (s.ctr k).Kept ((if b then u.evcAdd j 1 else u).ctr k) := by
  have hmark : (s.ctr k).Kept (u.ctr k) := by
    rw [State.ctr, State.ctr, hu]
    exact kept_setAt hx
  split
  · exact hmark.trans State.evcAdd_kept
  · exact hmark

theorem State.mark_ctr_ne {b : Bool} {u : State} (hu : u.evcs = setAt s.evcs j x) (h : j ≠ k) : (if b then u.evcAdd j 1 else u).ctr k = s.ctr k := by
  have hmark : u.ctr k = s.ctr k := by rw [State.ctr, hu, getD_setAt_ne h, State.ctr]
  split
  · rw [State.evcAdd_ctr_ne h, hmark]
  · exact hmark

theorem State.levelPulse_kept : (s.ctr k).Kept ((s.levelPulse code).ctr k) := by
  unfold State.levelPulse
  split
  · exact .refl _
  · refine foldl_ctr (Q := fun c => (s.ctr k).Kept c) (fun t j ht => ?_) (.refl _)
    extract_lets c u
    split
    · exact ht.trans (State.mark_kept (u := u) rfl ⟨rfl, rfl, rfl, rfl⟩)
    · exact ht

theorem State.levelPulse_ctr (h : (s.ctr k).src ≠ code) : (s.levelPulse code).ctr k = s.ctr k := by
  unfold State.levelPulse
  split
  · rfl
  · refine foldl_ctr (Q := fun c => c = s.ctr k) (fun t j ht => ?_) rfl
    extract_lets c u
    split
    next hc =>
      have hne : j ≠ k := by
        rintro rfl
        exact h (ht ▸ hc)
      rw [State.mark_ctr_ne (u := u) rfl hne, ht]
    next => exact ht

theorem State.evcEdge_kept : (s.ctr k).Kept (s.evcEdge.ctr k) := by
  unfold State.evcEdge
  split
  · exact .refl _
  · refine foldl_ctr (Q := fun c => (s.ctr k).Kept c) (fun t j ht => ?_) (.refl _)
    extract_lets c l u
    split
    · exact ht.trans (State.mark_kept (u := u) rfl ⟨rfl, rfl, rfl, rfl⟩)
    · exact ht

theorem State.evcEdge_ctr (h : isLevel (s.ctr k).src = false) : s.evcEdge.ctr k = s.ctr k := by
  unfold State.evcEdge
  split
  · rfl
  · refine foldl_ctr (Q := fun c => c = s.ctr k) (fun t j ht => ?_) rfl
    extract_lets c l u
    split
    next hc =>
      have hne : j ≠ k := by
        rintro rfl
        rw [← ht] at h
        exact absurd (h.symm.trans hc) (by decide)
      rw [State.mark_ctr_ne (u := u) rfl hne, ht]
    next => exact ht

/-! A frame's arrival and its answer. -/

theorem State.arrived_ctr (h : (s.ctr k).src ≠ 0xD0) (h' : (s.ctr k).src ≠ 0xDA) : s.arrived.ctr k = s.ctr k := by
  have hcount : (s.count 0xD0).ctr k = s.ctr k := State.countN_ctr h
  unfold State.arrived State.doorCancel
  split
  · exact hcount
  · have hstep : ((s.count 0xD0).wr Reg.HOST_DOOR_STEP 0).ctr k = s.ctr k := hcount
    exact (State.countN_ctr (by rw [hstep]; exact h')).trans hstep

theorem State.reply_ctr {l : List Nat} : (s.reply l).ctr k = s.ctr k := by
  unfold State.reply
  split <;> rfl

theorem State.respond_kept {f : Frame} {st : HostStat} {data : List Nat} : (s.ctr k).Kept ((s.respond f st data).ctr k) := by
  have hwrs : s.ctr k = (s.wrs [(Reg.HOST_LAST_STATUS, st.code), (Reg.HOST_LAST_OPC, f.opc), (Reg.HOST_LAST_ADDR, f.addr)]).ctr k := rfl
  rw [State.respond, State.reply_ctr, hwrs]
  exact State.levelPulse_kept

theorem State.respond_ctr {f : Frame} {st : HostStat} {data : List Nat} (h : isLevel (s.ctr k).src = false) : (s.respond f st data).ctr k = s.ctr k := by
  rw [State.respond, State.reply_ctr]
  exact State.levelPulse_ctr (s := s.wrs _) fun hx => by
    have hsrc : (s.ctr k).src = 0xDF := hx
    rw [hsrc] at h
    exact absurd h (by decide)

end Sys2Proof.Machine
end

section
/-! Doors, the heartbeat and the event counters (R395, R398, R399, R402, R405, R406). -/

namespace Sys2Proof.Machine

variable {s t u x : State} {a v k n : Nat} {c : EvCtr}

/-! Command frames (R395). -/

/-- What a command finds: the machine as it arrived, where it is not the second step that a pending first step waits for. -/
theorem State.hostCommand_acts {code : Nat} {args : List Nat} {r : Answer} (hport : s.port = .opened)
    (hsecond : s.isSecond { opc := 3, addr := code, len := args.length, words := args } = false) (hact : s.arrived.frameCommand code args = r)
    (hrst : r.rst = 0) : s.hostCommand code args =
      (r.s.countIf (r.stat != .ok) 0xD3).respond { opc := 3, addr := code, len := args.length, words := args } r.stat r.data := by
  have harrived : (s.count 0xD0).doorCancel = s.arrived := rfl
  simp [State.hostCommand, State.hostFrame, State.frameGood, hsecond, State.frameAct, hport, harrived, hact, hrst, State.frameReset]

/-- A command that is done is answered with OK. -/
theorem exec_command {code : Nat} {args : List Nat} (hport : s.port = .opened)
    (hsecond : s.isSecond { opc := 3, addr := code, len := args.length, words := args } = false)
    (hact : s.arrived.frameCommand code args = { s := x.count 0xD6 }) :
    ∃ t, fin (s.hostCommand code args) = .next t ∧ t.rd Reg.HOST_LAST_STATUS = 0 ∧ Touches [.resp, .sent] Touches.lastFlds x t := by
  rw [State.hostCommand_acts hport hsecond hact rfl]
  refine exists_fin ?_
  rw [State.evcEdge_rd]
  exact ⟨State.respond_status, .of (by decide) ((Touches.refl x).count.countIf.andThen .respond).evcEdge⟩

theorem State.isSecond_other {code : Nat} {args : List Nat} (h : args ≠ [0x3CA5] ∨ code < 0x20 ∨ 0x23 < code) :
    s.isSecond { opc := 3, addr := code, len := args.length, words := args } = false := by
  simp only [State.isSecond, Bool.and_eq_false_iff, decide_eq_false_iff_not, beq_eq_false_iff_ne]
  rcases h with h | h | h
  · exact .inl (.inr h)
  · exact .inl (.inl (.inl (.inr (by omega))))
  · exact .inl (.inl (.inr (by omega)))

/-! Doors (R398, R399). -/

theorem exec_doorFirstStep (d : Fin 4) (hport : s.port = .opened) :
    ∃ t, exec (.doorFirstStep d 0xC35A) s = .next t ∧ t.rd Reg.HOST_LAST_STATUS = 0 ∧ t.rd Reg.HOST_DOOR_STEP = 2 ^ d.val ∧
      t.rd Reg.HOST_DOOR_OPEN = s.rd Reg.HOST_DOOR_OPEN := by
  have hd := d.isLt
  have hact : s.arrived.frameCommand (0x10 + d.val) [0xC35A] = { s := (s.arrived.wr Reg.HOST_DOOR_STEP (2 ^ d.val)).count 0xD6 } := by
    simp only [State.frameCommand, if_pos (show 0x10 ≤ 0x10 + d.val ∧ 0x10 + d.val ≤ 0x13 by omega), Nat.add_sub_cancel_left, State.doorFirst, if_true]
  obtain ⟨t, ht, hstatus, htouch⟩ := exec_command hport (State.isSecond_other (.inr (.inl (by omega)))) hact
  refine ⟨t, ht, hstatus, ?_, ?_⟩
  · rw [htouch.rd (by decide), State.rd_wr_same]
    exact Nat.mod_eq_of_lt (Nat.pow_lt_pow_right (by decide) hd)
  · rw [htouch.rd (by decide), State.rd_wr_ne _ _ _ _ (by decide), Touches.arrived.rd (by decide)]

/-- A bit of a field just set. -/
theorem State.bit_putBit_true {f : Fld} (h : n < f.w) : bit ((s.putBit f n true).rd f) n = true := State.bit_or_same h

theorem exec_doorSecondStep (d : Fin 4) (hport : s.port = .opened) (hstep : bit (s.rd Reg.HOST_DOOR_STEP) d.val = true) :
    ∃ t, exec (.doorSecondStep d 0x3CA5) s = .next t ∧ t.rd Reg.HOST_LAST_STATUS = 0 ∧ t.rd Reg.HOST_DOOR_STEP = 0 ∧
      bit (t.rd Reg.HOST_DOOR_OPEN) d.val = true := by
  have hd := d.isLt
  obtain ⟨y, hy⟩ : ∃ y, y = ((s.count 0xD0).wr Reg.HOST_DOOR_STEP 0).putBit Reg.HOST_DOOR_OPEN d.val true := ⟨_, rfl⟩
  have hsecond : s.isSecond { opc := 3, addr := 0x20 + d.val, len := 1, words := [0x3CA5] } = true := by
    simp [State.isSecond, hport, hstep]
    omega
  have hact : (s.count 0xD0).frameCommand (0x20 + d.val) [0x3CA5] = { s := (y.count 0xD9).count 0xD6 } := by
    simp only [State.frameCommand, if_neg (show ¬ (0x10 ≤ 0x20 + d.val ∧ 0x20 + d.val ≤ 0x13) by omega),
      if_pos (show 0x20 ≤ 0x20 + d.val ∧ 0x20 + d.val ≤ 0x23 by omega), Nat.add_sub_cancel_left, State.doorSecond, State.count_rd, hstep, and_self,
      if_true, hy]
  have hexec : exec (.doorSecondStep d 0x3CA5) s =
      fin (((y.count 0xD9).count 0xD6).respond { opc := 3, addr := 0x20 + d.val, len := 1, words := [0x3CA5] } .ok []) := by
    have h : exec (.doorSecondStep d 0x3CA5) s = fin (s.hostCommand (0x20 + d.val) [0x3CA5]) := rfl
    rw [h]
    simp [State.hostCommand, State.hostFrame, State.frameGood, hsecond, State.frameAct, hport, hact, State.frameReset, State.countIf]
  rw [hexec]
  refine exists_fin ?_
  rw [State.evcEdge_rd, State.evcEdge_rd, State.evcEdge_rd, Touches.respond.rd (f := Reg.HOST_DOOR_STEP) (by decide),
    Touches.respond.rd (f := Reg.HOST_DOOR_OPEN) (by decide), State.count_rd, State.count_rd, State.count_rd, State.count_rd, hy]
  exact ⟨State.respond_status, (State.rd_wr_ne _ _ _ _ (by decide)).trans (State.rd_wr_lt (by decide)), State.bit_putBit_true hd⟩

theorem exec_doorSecondStep_wrong (d : Fin 4) {arg : Nat} (hport : s.port = .opened) (harg : arg < 2 ^ 32) (hwrong : arg ≠ 0x3CA5) :
    ∃ t, exec (.doorSecondStep d arg) s = .next t ∧ t.rd Reg.HOST_LAST_STATUS = 5 ∧ t.rd Reg.HOST_DOOR_STEP = 0 ∧
      t.rd Reg.HOST_DOOR_OPEN = s.rd Reg.HOST_DOOR_OPEN := by
  have hd := d.isLt
  have hact : s.arrived.frameCommand (0x20 + d.val) [arg] = { stat := .door, s := s.arrived.count 0xDA } := by
    simp only [State.frameCommand, if_neg (show ¬ (0x10 ≤ 0x20 + d.val ∧ 0x20 + d.val ≤ 0x13) by omega),
      if_pos (show 0x20 ≤ 0x20 + d.val ∧ 0x20 + d.val ≤ 0x23 by omega), Nat.add_sub_cancel_left, State.doorSecond,
      if_neg (show ¬ (bit (s.arrived.rd Reg.HOST_DOOR_STEP) d.val = true ∧ arg = 0x3CA5) from fun h => hwrong h.2), State.doorRefuse]
    rfl
  have hexec : exec (.doorSecondStep d arg) s = fin (s.hostCommand (0x20 + d.val) [arg]) := by
    have h : exec (.doorSecondStep d arg) s = fin (s.hostCommand (0x20 + d.val) [arg % 2 ^ 32]) := rfl
    rw [h, Nat.mod_eq_of_lt harg]
  rw [hexec, State.hostCommand_acts hport (State.isSecond_other (.inl (by simp [hwrong]))) hact rfl]
  have hstep : s.arrived.rd Reg.HOST_DOOR_STEP = 0 := State.doorCancel_step
  have htouch : Touches [.resp, .sent] Touches.lastFlds s.arrived (((s.arrived.count 0xDA).countIf true 0xD3).respond
      { opc := 3, addr := 0x20 + d.val, len := 1, words := [arg] } .door []).evcEdge :=
    .of (by decide) ((Touches.refl _).count.countIf.andThen .respond).evcEdge
  exact ⟨_, rfl, (State.evcEdge_rd _ _).trans State.respond_status, (htouch.rd (by decide)).trans hstep,
    (htouch.rd (by decide)).trans (Touches.arrived.rd (by decide))⟩

/-- Clearing a bit of a field leaves its other bits. -/
theorem State.bit_putBit_ne {f : Fld} {e : Nat} (he : e < f.w) (hne : e ≠ n) : bit ((s.putBit f n false).rd f) e = bit (s.rd f) e := by
  rw [State.putBit, if_neg (by decide), State.rd_wr_same, bit_eq_testBit, bit_eq_testBit, Nat.testBit_mod_two_pow, testBit_clearBits]
  simp [he, Nat.testBit_two_pow_of_ne hne.symm]

theorem exec_doorClose (d : Fin 4) (hport : s.port = .opened) :
    ∃ t, exec (.doorClose d) s = .next t ∧ t.rd Reg.HOST_LAST_STATUS = 0 ∧ bit (t.rd Reg.HOST_DOOR_OPEN) d.val = false ∧
      (∀ e : Nat, e < 4 → e ≠ d.val → bit (t.rd Reg.HOST_DOOR_OPEN) e = bit (s.rd Reg.HOST_DOOR_OPEN) e) := by
  have hd := d.isLt
  have hact : s.arrived.frameCommand (0x30 + d.val) [] = { s := (s.arrived.putBit Reg.HOST_DOOR_OPEN d.val false).count 0xD6 } := by
    simp only [State.frameCommand, if_neg (show ¬ 0x30 + d.val = 1 by omega), if_neg (show ¬ 0x30 + d.val = 2 by omega),
      if_pos (show 0x30 ≤ 0x30 + d.val ∧ 0x30 + d.val ≤ 0x33 by omega), Nat.add_sub_cancel_left, if_true]
  obtain ⟨t, ht, hstatus, htouch⟩ := exec_command hport (State.isSecond_other (.inr (.inr (by omega)))) hact
  refine ⟨t, ht, hstatus, ?_, fun e he hne => ?_⟩
  · rw [htouch.rd (by decide)]
    exact State.bit_putBit_false
  · rw [htouch.rd (by decide), State.bit_putBit_ne he hne, Touches.arrived.rd (by decide)]

/-! The heartbeat (R402). -/

theorem bits_low : bits v 0 n = v % 2 ^ n := by rw [bits, pow_zero, Nat.div_one]

theorem State.wordStore_hbCount : s.wordStore 0x4801 v = s.wr Reg.HOST_HB_COUNT (bits v 0 16) := by
  have hfields : Reg.fieldsAt 0x4801 = [Reg.HOST_HB_COUNT] := by decide
  simp [State.wordStore, State.ownWrite, hfields, State.each, State.fieldWrite, State.liveBits]
  simp [Reg.HOST_HB_COUNT, Fld.chan, bits_and_word, State.wr]

theorem State.wordStore_hbTimeout : s.wordStore 0x4802 v = s.wr Reg.HOST_HB_CFG_HB_TIMEOUT (bits v 0 16) := by
  have hfields : Reg.fieldsAt 0x4802 = [Reg.HOST_HB_CFG_HB_TIMEOUT, Reg.HOST_HB_CFG_LEFT] := by decide
  simp [State.wordStore, State.ownWrite, hfields, State.each, State.fieldWrite, State.liveBits]
  simp [Reg.HOST_HB_CFG_HB_TIMEOUT, Reg.HOST_HB_CFG_LEFT, Fld.chan, bits_and_word, State.wr]

/-- A word of the heartbeat's registers meets no objection of its own. -/
theorem State.wordStat_heartbeat (ha : a = 0x4801 ∨ a = 0x4802) : u.wordStat u a v = .ok := by
  rcases ha with rfl | rfl <;>
    simp [State.wordStat, State.doorBad, doorOf, State.lockBad, State.rgnBad, regionAddr, State.busyBad, busAddr, hatchReg, State.rangeBad, selectMax,
      State.rangeHigh]

/-- LEFT restarts at HB_TIMEOUT, and the host cause clears. -/
theorem State.hbRestart_shows : s.hbRestart.rd Reg.HOST_HB_CFG_LEFT = s.rd Reg.HOST_HB_CFG_HB_TIMEOUT % 2 ^ 16 ∧
    s.hbRestart.rd Reg.PWR_STAT_HOST_LOST = 0 := by
  constructor
  all_goals
    unfold State.hbRestart
    simp (disch := decide) only [State.wrs, State.rd_wr_ne, State.rd_wr_same]
    rfl

theorem Touches.hbRestart : Touches [] [Reg.HOST_HB_CFG_LEFT, Reg.PWR_STAT_HOST_LOST] s s.hbRestart := .of (by decide) (refl s).wr.wr

theorem exec_hostHbWrite (hport : s.port = .opened) :
    ∃ t, exec (.hostHbWrite v) s = .next t ∧ t.rd Reg.HOST_LAST_STATUS = 0 ∧ t.rd Reg.HOST_HB_COUNT = v % 2 ^ 16 ∧
      t.rd Reg.HOST_HB_CFG_LEFT = s.rd Reg.HOST_HB_CFG_HB_TIMEOUT % 2 ^ 16 ∧ t.rd Reg.PWR_STAT_HOST_LOST = 0 := by
  have htakes : s.arrived.Takes 0x4801 v := State.takes_unruled (by decide) (by decide)
    (fun _ _ => by simp [State.regOk, State.sysOk]) (State.wordStat_heartbeat (.inl rfl))
  obtain ⟨t, ht, hstatus, htouch⟩ := hostWrite_found hport rfl (by decide) htakes
  obtain ⟨y, hy⟩ : ∃ y, y = s.arrived.wr Reg.HOST_HB_COUNT (bits v 0 16) := ⟨_, rfl⟩
  have happly : s.arrived.wordApply 0x4801 v = y.hbRestart.count 0xD7 := by
    simp [State.wordApply, State.wordStore_hbCount, State.hookHigh, hy]
  rw [happly] at htouch
  obtain ⟨hleft, hlost⟩ := State.hbRestart_shows (s := y)
  refine ⟨t, ht, hstatus, ?_, ?_, ?_⟩
  · rw [htouch.rd (by decide), State.count_rd, Touches.hbRestart.rd (by decide), hy, State.rd_wr_same, bits_low]
    exact Nat.mod_mod _ _
  · rw [htouch.rd (by decide), State.count_rd, hleft, hy, State.rd_wr_ne _ _ _ _ (by decide), Touches.arrived.rd (by decide)]
  · rw [htouch.rd (by decide), State.count_rd, hlost]

theorem exec_hbTimeoutWrite (hport : s.port = .opened) (hfree : s.rgnHolds = false) (hv : v % 2 ^ 16 = 0 ∨ 100 ≤ v % 2 ^ 16) :
    ∃ t, exec (.hbTimeoutWrite v) s = .next t ∧ t.rd Reg.HOST_LAST_STATUS = 0 ∧ t.rd Reg.HOST_HB_CFG_HB_TIMEOUT = v % 2 ^ 16 ∧
      t.rd Reg.HOST_HB_CFG_LEFT = v % 2 ^ 16 := by
  obtain ⟨y, hy⟩ : ∃ y, y = s.arrived.wr Reg.HOST_HB_CFG_HB_TIMEOUT (bits v 0 16) := ⟨_, rfl⟩
  have happly : s.arrived.wordApply 0x4802 v = y.hbRestart := by simp [State.wordApply, State.wordStore_hbTimeout, State.hookHigh, hy]
  have hstored : y.rd Reg.HOST_HB_CFG_HB_TIMEOUT = v % 2 ^ 16 := by
    rw [hy, State.rd_wr_same, bits_low]
    exact Nat.mod_mod _ _
  have htimeout : y.hbRestart.rd Reg.HOST_HB_CFG_HB_TIMEOUT = v % 2 ^ 16 := (Touches.hbRestart.rd (by decide)).trans hstored
  have htakes : s.arrived.Takes 0x4802 v := by
    have hchan : (s.arrived.checkChan 0x4802).1 = 0x4802 := by rw [State.checkChan_fst]; decide
    have hfree' : y.hbRestart.rgnHolds = false := by
      have htouch : Touches [] [Reg.HOST_DOOR_STEP, Reg.HOST_HB_CFG_HB_TIMEOUT, Reg.HOST_HB_CFG_LEFT, Reg.PWR_STAT_HOST_LOST] s y.hbRestart :=
        .of (by decide) (hy ▸ Touches.arrived.wr.andThen .hbRestart)
      rw [← hfree, State.rgnHolds, State.rgnHolds, htouch.rd (by decide)]
    refine ⟨by decide, by decide, by rw [hchan]; decide, State.wordStat_heartbeat (.inr rfl), ?_⟩
    rw [happly, hchan, State.withUpdate_free hfree']
    simp only [State.regOk, State.sysOk, htimeout]
    simpa using hv
  obtain ⟨t, ht, hstatus, htouch⟩ := hostWrite_found hport rfl (by decide) htakes
  rw [happly] at htouch
  refine ⟨t, ht, hstatus, (htouch.rd (by decide)).trans htimeout, (htouch.rd (by decide)).trans ?_⟩
  rw [State.hbRestart_shows.1, hstored, Nat.mod_mod]

/-! Snapshot, clear and configuration of the counters (R405, R406). -/

/-- What a command's counters keep of it as it is answered. -/
theorem exec_command_kept {code : Nat} {args : List Nat} (hport : s.port = .opened)
    (hsecond : s.isSecond { opc := 3, addr := code, len := args.length, words := args } = false)
    (hact : s.arrived.frameCommand code args = { s := x.count 0xD6 }) :
    ∃ t, fin (s.hostCommand code args) = .next t ∧ t.rd Reg.HOST_LAST_STATUS = 0 ∧ t.evcStamp = x.evcStamp ∧ (∀ k, (x.ctr k).Kept (t.ctr k)) ∧
      ∀ k, (x.ctr k).src ≠ 0xD6 → isLevel (x.ctr k).src = false → t.ctr k = x.ctr k := by
  obtain ⟨t, ht, hstatus, htouch⟩ := exec_command hport hsecond hact
  refine ⟨t, ht, hstatus, htouch.parts .evcStamp (by decide), fun k => ?_, fun k hsrc hlevel => ?_⟩
  all_goals
    rw [State.hostCommand_acts hport hsecond hact rfl] at ht
    rw [eq_of_fin ht]
  · exact (State.countN_kept.trans State.countIf_kept).trans (State.respond_kept.trans State.evcEdge_kept)
  · have hcount : (x.count 0xD6).ctr k = x.ctr k := State.countN_ctr hsrc
    have hrespond := (State.respond_ctr (s := x.count 0xD6) (f := { opc := 3, addr := code, len := args.length, words := args }) (st := .ok) (data := [])
      (hcount.symm ▸ hlevel)).trans hcount
    exact (State.evcEdge_ctr ((congrArg (fun c => isLevel c.src) hrespond).trans hlevel)).trans hrespond

/-- A read or a snapshot brings a mode-2 counter of a level up to date, and no other (R405, log entry 6). -/
theorem State.evcShow_ctr_ne {j : Nat} (h : j ≠ k) : (s.evcShow j).ctr k = s.ctr k := by
  unfold State.evcShow
  extract_lets c f
  split
  · rw [State.evcAdd_ctr_ne h]
    exact getD_setAt_ne h
  · rfl

theorem State.evcShow_ctr_other (h : ¬(isLevel (s.ctr k).src = true ∧ (s.ctr k).mode = 2)) : (s.evcShow k).ctr k = s.ctr k := by
  have hnot : ¬ (isLevel (s.ctr k).src && (s.ctr k).mode == 2 && (s.ctr k).seen && s.mode != mBackup) = true := by
    simp only [Bool.and_eq_true, beq_iff_eq]
    tauto
  exact congrArg (State.ctr · k) (if_neg hnot)

theorem State.evcAdd_length {j : Nat} : (s.evcAdd j n).evcs.length = s.evcs.length := by rw [State.evcAdd_evcs, length_setAt]

theorem State.evcAdd_count (hk : k < s.evcs.length) : ((s.evcAdd k n).ctr k).count = ((s.ctr k).count + n) % 2 ^ 32 := by
  rw [State.ctr, State.evcAdd_evcs, getD_setAt_same hk]
  rfl

theorem State.evcShow_length {j : Nat} : (s.evcShow j).evcs.length = s.evcs.length := by
  unfold State.evcShow
  extract_lets c f
  split
  · exact State.evcAdd_length.trans (length_setAt _ _ _)
  · rfl

theorem State.evcShow_count (hk : k < s.evcs.length) :
    ∃ m, m ≤ s.msUnits (s.ctr k) ∧ ((s.evcShow k).ctr k).count % 2 ^ 32 = ((s.ctr k).count + m) % 2 ^ 32 := by
  unfold State.evcShow
  extract_lets c f
  split
  · refine ⟨f.1, ?_, ?_⟩
    · have hlt : f.1 < s.msUnits c - c.part + 1 := Nat.mod_lt _ (Nat.succ_pos _)
      have hc : s.ctr k = c := rfl
      rw [hc]
      omega
    · have hmark : (setAt f.2.evcs k { c with part := c.part + f.1 }).getD k {} = { c with part := c.part + f.1 } := getD_setAt_same hk
      rw [State.evcAdd_count ((length_setAt _ _ _).symm ▸ hk), Nat.mod_mod, State.ctr, hmark]
      rfl
  · exact ⟨0, Nat.zero_le _, rfl⟩

/-- The counters as a snapshot finds them. -/
def State.evcShown (s : State) : State := s.each (upTo 16) State.evcShow

theorem Touches.evcShown : Touches [] [] s s.evcShown := foldl_mem fun _ _ _ => evcShow

/-- Of the counters that a snapshot brings up to date, each sees its own step alone. -/
theorem State.evcShown_ctr {Q : EvCtr → Prop} (hk : k < 16) (hQ : ∀ t, Touches [] [] s t → t.ctr k = s.ctr k → t.evcs.length = s.evcs.length →
    Q ((t.evcShow k).ctr k)) : Q (s.evcShown.ctr k) := by
  have hbefore : ∀ (l : List Nat) (t : State), k ∉ l → (t.each l State.evcShow).ctr k = t.ctr k ∧ (t.each l State.evcShow).evcs.length = t.evcs.length := by
    intro l
    induction l with
    | nil => exact fun t _ => ⟨rfl, rfl⟩
    | cons j l ih =>
      intro t hj
      obtain ⟨hctr, hlen⟩ := ih (t.evcShow j) fun h => hj (List.mem_cons_of_mem _ h)
      exact ⟨hctr.trans (State.evcShow_ctr_ne fun h => hj (h ▸ List.mem_cons_self)), hlen.trans State.evcShow_length⟩
  obtain ⟨l, r, hl⟩ : ∃ l r, upTo 16 = l ++ k :: r := List.append_of_mem (List.mem_range.mpr hk)
  have hnodup : (l ++ k :: r).Nodup := hl ▸ List.nodup_range
  obtain ⟨hleft, hright⟩ : k ∉ l ∧ k ∉ r := by
    have hmid := List.nodup_middle.mp hnodup
    exact ⟨fun h => (List.nodup_cons.mp hmid).1 (List.mem_append_left _ h), fun h => (List.nodup_cons.mp hmid).1 (List.mem_append_right _ h)⟩
  have hsplit : s.evcShown = ((s.each l State.evcShow).evcShow k).each r State.evcShow := by
    simp only [State.evcShown, State.each, hl, List.foldl_append, List.foldl_cons]
  rw [hsplit, (hbefore r _ hright).1]
  exact hQ _ (Touches.foldl_mem fun _ _ _ => .evcShow) (hbefore l s hleft).1 (hbefore l s hleft).2

theorem State.arrived_evcs_length : s.arrived.evcs.length = s.evcs.length := by
  have hcount : ∀ (t : State) code, (t.count code).evcs.length = t.evcs.length := by
    intro t code
    unfold State.count State.countN
    split
    · rfl
    · refine List.foldlRecOn (motive := fun u : State => u.evcs.length = t.evcs.length) _ _ rfl fun u hu j _ => ?_
      extract_lets c
      split
      · split
        · exact State.evcAdd_length.trans hu
        · exact State.evcAdd_length.trans hu
      · exact hu
  unfold State.arrived State.doorCancel
  split
  · exact hcount _ _
  · exact (hcount _ _).trans (hcount _ _)

/-- A counter with its count as its snapshot. -/
def EvCtr.shot (c : EvCtr) : EvCtr := { c with snap := c.count }

theorem State.evcSnap_snap : (s.evcSnap.ctr k).snap = (s.evcShown.ctr k).count := by
  have hevcs : s.evcSnap.evcs = s.evcShown.evcs.map EvCtr.shot := by
    unfold State.evcSnap EvCtr.shot
    rw [State.evcShown]
  have hdefault : EvCtr.shot {} = {} := rfl
  have hget : s.evcSnap.ctr k = EvCtr.shot (s.evcShown.ctr k) := by
    rw [State.ctr, hevcs, ← hdefault, List.getD_map, State.ctr]
  rw [hget, EvCtr.shot]

theorem exec_evcSnapshot (hport : s.port = .opened) (hlen : s.evcs.length = 16) :
    ∃ t, exec .evcSnapshot s = .next t ∧ t.rd Reg.HOST_LAST_STATUS = 0 ∧ t.evcStamp = s.tick % 2 ^ 32 ∧
      (∀ k : Nat, k < 16 → (s.evcs.getD k {}).src ≠ 0xD0 → (s.evcs.getD k {}).src ≠ 0xDA →
        ¬(isLevel (s.evcs.getD k {}).src = true ∧ (s.evcs.getD k {}).mode = 2) → (t.evcs.getD k {}).snap = (s.evcs.getD k {}).count) ∧
      (∀ k : Nat, k < 16 → isLevel (s.evcs.getD k {}).src = true → (s.evcs.getD k {}).mode = 2 →
        ∃ n, n ≤ s.msUnits (s.evcs.getD k {}) ∧ (t.evcs.getD k {}).snap % 2 ^ 32 = ((s.evcs.getD k {}).count + n) % 2 ^ 32) := by
  have hact : s.arrived.frameCommand 1 [] = { s := s.arrived.evcSnap.count 0xD6 } := rfl
  obtain ⟨t, ht, hstatus, hstamp, hkept, -⟩ := exec_command_kept (code := 1) (args := []) hport (State.isSecond_other (.inl (by decide))) hact
  have hlen' : s.arrived.evcs.length = 16 := State.arrived_evcs_length.trans hlen
  have hsnap : ∀ k, (t.ctr k).snap = (s.arrived.evcShown.ctr k).count := fun k => (hkept k).snap.trans State.evcSnap_snap
  refine ⟨t, ht, hstatus, hstamp.trans ?_, fun k hk hd0 hda hother => ?_, fun k hk hlevel hmode => ?_⟩
  · exact congrArg (· % 2 ^ 32) (Touches.arrived.rd (f := Hid.tick) (by decide))
  · have harrived : s.arrived.ctr k = s.ctr k := State.arrived_ctr hd0 hda
    have hshown : s.arrived.evcShown.ctr k = s.ctr k := State.evcShown_ctr (Q := fun c => c = s.ctr k) hk fun u _ hu _ => by
      have hctr := hu.trans harrived
      rw [State.evcShow_ctr_other (by rw [hctr]; exact hother), hctr]
    exact (hsnap k).trans (congrArg EvCtr.count hshown)
  · have hne : ∀ code, isLevel code = false → (s.ctr k).src ≠ code := fun code hcode h => by
      have hlevel' : isLevel (s.ctr k).src = true := hlevel
      rw [h, hcode] at hlevel'
      exact absurd hlevel' (by decide)
    have harrived : s.arrived.ctr k = s.ctr k := State.arrived_ctr (hne _ (by decide)) (hne _ (by decide))
    obtain ⟨n, hn, hcount⟩ := State.evcShown_ctr (s := s.arrived)
      (Q := fun c => ∃ m, m ≤ s.msUnits (s.ctr k) ∧ c.count % 2 ^ 32 = ((s.ctr k).count + m) % 2 ^ 32) hk fun u hu hctr hulen => by
        have hunits : u.msUnits (s.ctr k) = s.msUnits (s.ctr k) := by
          have htouch : Touches [] [Reg.HOST_DOOR_STEP] s u := .of (by decide) (Touches.arrived.andThen hu)
          rw [State.msUnits, State.msUnits, htouch.on (by decide), htouch.on (by decide)]
        have := State.evcShow_count (s := u) (k := k) (by rw [hulen, hlen']; exact hk)
        rwa [hctr, harrived, hunits] at this
    exact ⟨n, hn, (congrArg (· % 2 ^ 32) (hsnap k)).trans hcount⟩

/-- A counter as a clear leaves it. -/
def State.cleared (s : State) (c : EvCtr) : EvCtr := { s.evcBegin c with count := 0 }

theorem State.evcClear_ctr (h : k < s.evcs.length) : (s.evcClear.ctr k).count = 0 ∧ (s.evcClear.ctr k).src = (s.ctr k).src := by
  have hevcs : s.evcClear.evcs = s.evcs.map s.cleared := rfl
  have hget : s.evcClear.ctr k = s.cleared (s.ctr k) := by
    rw [State.ctr, hevcs, List.getD_eq_getElem _ _ (by rw [List.length_map]; exact h), List.getElem_map, State.ctr, List.getD_eq_getElem _ _ h]
  rw [hget]
  exact ⟨rfl, rfl⟩

theorem State.arrived_kept : (s.ctr k).Kept (s.arrived.ctr k) := by
  unfold State.arrived State.doorCancel
  split
  · exact State.countN_kept
  · have hwr : ((s.count 0xD0).wr Reg.HOST_DOOR_STEP 0).ctr k = (s.count 0xD0).ctr k := rfl
    exact (State.countN_kept (code := 0xD0) (n := 1)).trans (hwr ▸ State.countN_kept)

theorem exec_evcClearAll (hport : s.port = .opened) (hlen : s.evcs.length = 16) :
    ∃ t, exec .evcClearAll s = .next t ∧ t.rd Reg.HOST_LAST_STATUS = 0 ∧
      (∀ k : Nat, k < 16 → (s.evcs.getD k {}).src ≠ 0xD6 → isLevel (s.evcs.getD k {}).src = false → (t.evcs.getD k {}).count = 0) := by
  have hact : s.arrived.frameCommand 2 [] = { s := s.arrived.evcClear.count 0xD6 } := rfl
  obtain ⟨t, ht, hstatus, -, -, hsame⟩ := exec_command_kept (code := 2) (args := []) hport (State.isSecond_other (.inl (by decide))) hact
  refine ⟨t, ht, hstatus, fun k hk hsrc hlevel => ?_⟩
  obtain ⟨hzero, hsrc'⟩ := State.evcClear_ctr (s := s.arrived) (k := k) (by rw [State.arrived_evcs_length, hlen]; exact hk)
  have hof : (s.arrived.evcClear.ctr k).src = (s.ctr k).src := hsrc'.trans State.arrived_kept.src
  exact (congrArg EvCtr.count (hsame k (hof.symm ▸ hsrc) (hof.symm ▸ hlevel))).trans hzero

/-- A frame of one word that is taken, and needs no coach bus, leaves the word's own machine with its word counted. -/
theorem State.frameWrite_counted (hu : u = s.lockRead a [v]) (h : u.Takes a v) (hbus : u.hostBursts a 1 = []) :
    s.frameWrite a [v] = { s := ((u.wordDone a v).hostAsk true a 1).countWords 0xD5 1 true true } := by
  have hone : ({ s := u, bus := (u.hostBursts a 1).isEmpty = false } : Wr).words u a [v] = Wr.one u a v := rfl
  have hlen : ¬ 0x10000 < a + [v].length := Nat.not_lt.mpr h.addr
  have hstat : (({ s := u, bus := (u.hostBursts a [v].length).isEmpty = false } : Wr).words u a [v]).stat u = .ok := Wr.one_stat h
  rw [State.frameWrite, if_neg (by simp), if_neg hlen, ← hu]
  refine (if_pos hstat).trans ?_
  rw [List.length_singleton, hone, Wr.one_eq, State.wordDone]
  by_cases hp : (u.checkChan a).1 = 0x1040 <;> simp [hp, h.noReset, hbus]

theorem State.hostBursts_counters : s.hostBursts 0x4C01 1 = [] := by
  have hwords : coachWordsAt 0x4C01 1 = [] := by decide
  have hnone : ¬ ((upTo 1).any fun k => busAddr (0x4C01 + k)) = true := by decide
  rw [State.hostBursts, hwords]
  exact if_neg hnone

/-- A write of EVC_CFG gives the selected counter its source, mode and prescaler. -/
theorem State.evcConfig_ctr (hk : k < s.evcs.length) : ((s.evcConfig k v).ctr k).src = bits v 0 8 ∧ ((s.evcConfig k v).ctr k).mode = bits v 8 2 ∧
    ((s.evcConfig k v).ctr k).presc = bits v 12 2 := by
  unfold State.evcConfig
  extract_lets c n
  split
  next h =>
    have hc : s.ctr k = n := h.symm
    rw [hc]
    exact ⟨rfl, rfl, rfl⟩
  next =>
    rw [State.ctr, getD_setAt_same hk]
    exact ⟨rfl, rfl, rfl⟩

theorem exec_evcCfgWrite (hport : s.port = .opened) (hlen : s.evcs.length = 16) (hsel : s.rd Reg.EVC_SEL_SEL < 16) (hpresc : bits v 12 2 ≠ 3)
    (hsrc : srcReserved (bits v 0 8) = false) :
    ∃ t, exec (.evcCfgWrite v) s = .next t ∧ t.rd Reg.HOST_LAST_STATUS = 0 ∧
      (t.evcs.getD (s.rd Reg.EVC_SEL_SEL) {}).src = bits v 0 8 ∧ (t.evcs.getD (s.rd Reg.EVC_SEL_SEL) {}).mode = bits v 8 2 ∧
      (t.evcs.getD (s.rd Reg.EVC_SEL_SEL) {}).presc = bits v 12 2 := by
  have htakes : s.arrived.Takes 0x4C01 v := by
    refine State.takes_unruled (by decide) (by decide) (fun _ _ => by simp [State.regOk, State.sysOk]) ?_
    simp [State.wordStat, State.doorBad, doorOf, State.lockBad, State.rgnBad, regionAddr, State.busyBad, busAddr, hatchReg, State.rangeBad, selectMax,
      State.rangeHigh, hpresc, hsrc]
  have hsel' : s.arrived.rd Reg.EVC_SEL_SEL = s.rd Reg.EVC_SEL_SEL := Touches.arrived.rd (by decide)
  have happly : s.arrived.wordDone 0x4C01 v = s.arrived.evcConfig (s.rd Reg.EVC_SEL_SEL) v := by
    rw [State.wordDone_outside (by decide), ← hsel']
    simp [State.wordApply, State.wordStore_command (a := 0x4C01) (by decide) (by decide), State.hookHigh]
  have hask : (s.arrived.evcConfig (s.rd Reg.EVC_SEL_SEL) v).hostAsk true 0x4C01 1 = s.arrived.evcConfig (s.rd Reg.EVC_SEL_SEL) v := by
    rw [State.hostAsk, State.hostBursts_counters, List.foldl_nil]
  have hframe := State.frameWrite_counted (State.lockRead_outside (.inr (by decide))).symm htakes State.hostBursts_counters
  rw [happly, hask] at hframe
  have hexec : exec (.evcCfgWrite v) s = fin (s.hostWrite 0x4C01 [v]) := rfl
  have hfound : s.arrived.frameFinds 0x4C01 [v].length = s.arrived := rfl
  rw [hexec, State.hostWrite_accepted hport (hfound.symm ▸ hframe)]
  obtain ⟨hsrc', hmode', hpresc'⟩ := State.evcConfig_ctr (s := s.arrived) (k := s.rd Reg.EVC_SEL_SEL) (v := v)
    (by rw [State.arrived_evcs_length, hlen]; exact hsel)
  have hkept : ∀ f : Frame, ((s.arrived.evcConfig (s.rd Reg.EVC_SEL_SEL) v).ctr (s.rd Reg.EVC_SEL_SEL)).Kept
      ((((s.arrived.evcConfig (s.rd Reg.EVC_SEL_SEL) v).countWords 0xD5 1 true true).respond f .ok []).evcEdge.ctr (s.rd Reg.EVC_SEL_SEL)) :=
    fun _ => State.countWords_kept.trans (State.respond_kept.trans State.evcEdge_kept)
  exact exists_fin ⟨(State.evcEdge_rd _ _).trans State.respond_status, (hkept _).src.trans hsrc', (hkept _).mode.trans hmode',
    (hkept _).presc.trans hpresc'⟩

/-- Settles O42: doors by the commands that step and close them, the heartbeat's words by what they restart, the counters by what a frame's own
events leave of each. -/
theorem doorsAndCounters : Obligations.DoorsAndCounters :=
  ⟨fun _ => exec_doorFirstStep, fun _ => exec_doorSecondStep, fun _ d _ => exec_doorSecondStep_wrong d, fun _ => exec_doorClose, fun _ _ => exec_hostHbWrite,
    fun _ _ => exec_hbTimeoutWrite, fun _ => exec_evcSnapshot, fun _ => exec_evcClearAll, fun _ _ => exec_evcCfgWrite⟩

end Sys2Proof.Machine
end

section
/-! Persists and region updates that end (R303, R318, R319, R323, R325, R326). -/

namespace Sys2Proof.Machine

variable {s t : State} {k n : Nat}

/-! An applied update whose ABORT waits for it (R323). -/

/-- A machine in NATIVE with an empty schedule update queued, whose ABORT has been marked as waiting for its end. -/
def markedAborted : State :=
  { State.wrs { regs := [], pending := [] } [(Reg.PWR_MODE_MODE, mNative), (Reg.RGN_CTRL_STATE, 3), (Hid.stage, 0xA0000)] with
    rgn := { aborted := true } }

/-- Refutes O17: a queued schedule update that is marked as aborted ends, by R323 and R329, as aborted, RESULT 4, where the statement has 1. It asks
nothing of the mark. -/
theorem not_regionUpdatesEnd : ¬ Obligations.RegionUpdatesEnd := by
  intro h
  obtain ⟨-, -, happly, -⟩ := h
  obtain ⟨t, ht, -, hresult, -⟩ := happly markedAborted (by decide) (by decide) (by decide) (by decide)
  have haborted : t.rd Reg.RGN_RES_RESULT = 4 := by
    rw [eq_of_fin ht, State.evcEdge_rd]
    decide +kernel
  exact absurd (haborted.symm.trans hresult) (by decide)

/-! OPEN of a persist ends with the target's first sector erased (R326). -/

theorem exec_persistOpenDone (hup : s.up = true) (hpath : s.pathServes 3 = true)
    (hst : s.rd Reg.IMG_PERSIST_STATE = 2 ∨ (s.rd Reg.IMG_PERSIST_STATE = 1 ∧ s.activeWhole = true)) :
    ∃ t, exec (.persistOpenDone true) s = .next t ∧ t.rd Reg.IMG_PERSIST_STATE = 3 ∧
      (∀ a : Nat, Memory.read t.flash a = if copyBase (s.rd Reg.IMG_PERSIST_TARGET) ≤ a ∧ a < copyBase (s.rd Reg.IMG_PERSIST_TARGET) + 4096
        then 255 else Memory.read s.flash a) := by
  have hexec : exec (.persistOpenDone true) s = execPersistOpenDone true s := rfl
  rw [hexec, execPersistOpenDone, if_neg (by simp [hup, hpath]; omega), if_neg (by decide), if_neg]
  · refine exists_fin ⟨?_, fun a => ?_⟩
    · rw [State.evcEdge_rd]
      exact ((Touches.refl _).pathLeave.rd (f := Reg.IMG_PERSIST_STATE) (by decide)).trans (State.rd_wr_lt (by decide))
    · rw [State.evcEdge_flash]
      exact Memory.read_erase
  · rintro ⟨hone, hbroken⟩
    rcases hst with htwo | ⟨-, hwhole⟩
    · omega
    · exact absurd (hwhole.symm.trans hbroken) (by decide)

/-! COMMIT of a persist ends with its target's check, and with the header programmed (R303, R326). -/

theorem crc32Byte_lt {c b : Nat} (hc : c < 2 ^ 32) : crc32Byte c b < 2 ^ 32 := by
  have hstep : ∀ x : Nat, x < 2 ^ 32 → (if x % 2 = 1 then Nat.xor (x / 2) 0xEDB88320 else x / 2) < 2 ^ 32 := by
    intro x hx
    split
    · exact Nat.xor_lt_two_pow (by omega) (by decide)
    · omega
  exact List.foldlRecOn (motive := fun x : Nat => x < 2 ^ 32) _ _ (Nat.xor_lt_two_pow hc (by omega)) fun x hx _ _ => hstep x hx

theorem crc32_lt {l : List Nat} : crc32 l < 2 ^ 32 :=
  Nat.xor_lt_two_pow (List.foldlRecOn (motive := fun x : Nat => x < 2 ^ 32) _ _ (by decide) fun _ hx _ _ => crc32Byte_lt hx) (by decide)

theorem State.nextSeq_lt : s.nextSeq < 2 ^ 32 := by
  unfold State.nextSeq
  split
  · decide
  · exact Nat.mod_lt _ (by decide)

/-- A target that passes its check has a length that a copy may have. -/
theorem State.targetJudge_length (h : s.targetJudge = 0) : s.rd Reg.IMG_PLEN_LENGTH ≤ 131072 := by
  by_contra hlen
  rw [State.targetJudge, if_pos (.inr (by omega))] at h
  exact absurd h (by decide)

theorem State.newHeader_lt (h : s.rd Reg.IMG_PLEN_LENGTH ≤ 131072) : ∀ w ∈ s.newHeader, w < 2 ^ 32 := by
  have hseq := s.nextSeq_lt
  have hcrc : ∀ l, crcWords l < 2 ^ 32 := fun l => crc32_lt
  intro w hw
  simp only [State.newHeader, List.cons_append, List.nil_append, List.mem_cons, List.not_mem_nil, or_false] at hw
  rcases hw with rfl | rfl | rfl | rfl | rfl | rfl | rfl | rfl
  · decide
  · decide
  · exact hseq
  · omega
  · decide
  · decide
  · decide
  · exact hcrc _

/-- What a persist's check and header look at is the same in machines that differ in counters and causes alone. -/
theorem EvcOnly.persist (h : EvcOnly s t) : t.targetJudge = s.targetJudge ∧ t.newHeader = s.newHeader ∧ t.nextSeq = s.nextSeq := by
  have heq : t = { s with free := t.free, intCause := t.intCause, evcs := t.evcs, evcWrap := t.evcWrap } := h
  rw [heq]
  exact ⟨rfl, rfl, rfl⟩

/-- Words programmed over erased bytes read back. -/
theorem Memory.words_programmed {m : List Host.Cell} {a : Nat} {l : List Nat} (hl : ∀ w ∈ l, w < 2 ^ 32)
    (herased : ∀ k < 4 * l.length, Memory.read m (a + k) = 255) : Memory.words (Memory.program m (wordBytes a l)) a l.length = l := by
  refine Memory.words_of_bytes hl fun k hk => ?_
  have hbyte : (255 &&& byteOf l k) % 256 = byteOf l k := by
    rw [Nat.and_comm, show 255 = 2 ^ 8 - 1 from rfl, Nat.and_two_pow_sub_one_eq_mod, Nat.mod_eq_of_lt byteOf_lt, Nat.mod_eq_of_lt byteOf_lt]
  rw [Memory.read_program_words, if_pos (by omega), herased k hk, Nat.add_sub_cancel_left, hbyte]

theorem Touches.persistEnd {result reason code : Nat} :
    Touches [.hatch] [Reg.IMG_PERSIST_STATE, Reg.IMG_PERSIST_RESULT, Reg.IMG_PERSIST_REASON] s (s.persistEnd result reason code) :=
  .of (by decide) (refl s).pathLeave.wr.wr.wr.countIf.raise

/-- A persist that ends idle raises IMG, whatever has changed before. -/
theorem State.persistEnd_fin {result reason code : Nat} (hresult : result < 8) :
    (s.persistEnd result reason code).evcEdge.rd Reg.IMG_PERSIST_STATE = 0 ∧ bit (s.persistEnd result reason code).evcEdge.intCause 14 = true ∧
      (s.persistEnd result reason code).evcEdge.rd Reg.IMG_PERSIST_RESULT = result ∧
      (s.persistEnd result reason code).evcEdge.rd Reg.IMG_PERSIST_REASON = reason % 16 ∧ (s.persistEnd result reason code).evcEdge.flash = s.flash := by
  obtain ⟨hstate, hshown, hreason, hcause⟩ := State.persistEnd_shows (s := s) (reason := reason) (code := code) hresult
  rw [State.evcEdge_rd, State.evcEdge_rd, State.evcEdge_rd, State.evcEdge_flash]
  exact ⟨hstate, State.evcEdge_causes hcause, hshown, hreason, Touches.persistEnd.parts .flash (by decide)⟩

/-- The machine as COMMIT's check finds it: CRYPTO has worked where a signature is checked. -/
def State.checked (s : State) : State := s.whenB ((s.otp.actHashSet || s.otp.actSigned) && !s.on Reg.CLK_STAT_FALLBACK) fun u => u.levelPulse 0xBE

theorem State.checked_evcOnly : EvcOnly s s.checked := by
  unfold State.checked State.whenB
  split
  · exact State.levelPulse_evcOnly s 0xBE
  · exact EvcOnly.refl s

/-- The machine with a passing target's header programmed. -/
def State.headed (s : State) : State :=
  { s with flash := Memory.program s.flash (wordBytes (copyBase (s.rd Reg.IMG_PERSIST_TARGET)) s.newHeader) }

theorem exec_persistCommitDone_eq (hup : s.up = true) (hpath : s.pathServes 3 = true) (hst : s.rd Reg.IMG_PERSIST_STATE = 4) :
    exec (.persistCommitDone true) s =
      if s.checked.targetJudge ≠ 0 then fin (s.checked.persistEnd 2 s.checked.targetJudge 0xF7)
      else if (Memory.words s.checked.headed.flash (copyBase (s.checked.rd Reg.IMG_PERSIST_TARGET)) 8 == s.checked.newHeader) = true then
        fin ((s.checked.headed.wr Reg.IMG_PSEQ_SEQ s.checked.nextSeq).persistEnd 1 0 0xF6)
      else fin ((s.checked.each (wordBytes (copyBase (s.checked.rd Reg.IMG_PERSIST_TARGET)) s.checked.newHeader)
        (fun t p => t.tornByte p.1 (Memory.read t.flash p.1 &&& p.2))).persistEnd 2 rMemory 0xF7) :=
  if_neg (by simp [hup, hpath, hst])

theorem exec_persistCommitDone_refused (hup : s.up = true) (hpath : s.pathServes 3 = true) (hst : s.rd Reg.IMG_PERSIST_STATE = 4)
    (hjudge : s.targetJudge ≠ 0) : ∃ t, exec (.persistCommitDone true) s = .next t ∧ t.rd Reg.IMG_PERSIST_STATE = 0 ∧ bit t.intCause 14 = true ∧
      t.rd Reg.IMG_PERSIST_RESULT = 2 ∧ t.rd Reg.IMG_PERSIST_REASON = s.targetJudge % 16 ∧ t.flash = s.flash := by
  obtain ⟨hsame, -, -⟩ := (State.checked_evcOnly (s := s)).persist
  rw [exec_persistCommitDone_eq hup hpath hst, if_pos (hsame ▸ hjudge), hsame]
  obtain ⟨hstate, hcause, hresult, hreason, hflash⟩ := State.persistEnd_fin (s := s.checked) (result := 2) (reason := s.targetJudge) (code := 0xF7)
    (by decide)
  exact ⟨_, rfl, hstate, hcause, hresult, hreason, hflash.trans (State.checked_evcOnly).flash⟩

theorem exec_persistCommitDone_passed (hup : s.up = true) (hpath : s.pathServes 3 = true) (hst : s.rd Reg.IMG_PERSIST_STATE = 4)
    (hjudge : s.targetJudge = 0) : ∃ t, exec (.persistCommitDone true) s = .next t ∧ t.rd Reg.IMG_PERSIST_STATE = 0 ∧ bit t.intCause 14 = true ∧
      ((∀ k : Nat, k < 32 → Memory.read s.flash (copyBase (s.rd Reg.IMG_PERSIST_TARGET) + k) = 255) →
        t.rd Reg.IMG_PERSIST_RESULT = 1 ∧ t.rd Reg.IMG_PSEQ_SEQ = s.nextSeq ∧
        Memory.words t.flash (copyBase (s.rd Reg.IMG_PERSIST_TARGET)) 8 = s.newHeader ∧
        (∀ a : Nat, a < copyBase (s.rd Reg.IMG_PERSIST_TARGET) ∨ copyBase (s.rd Reg.IMG_PERSIST_TARGET) + 32 ≤ a →
          Memory.read t.flash a = Memory.read s.flash a)) := by
  have honly := State.checked_evcOnly (s := s)
  obtain ⟨hsame, hheader, hseq⟩ := honly.persist
  have htarget : s.checked.rd Reg.IMG_PERSIST_TARGET = s.rd Reg.IMG_PERSIST_TARGET := State.rdAt_of_regs honly.regs _ _
  obtain ⟨m, hm⟩ : ∃ m, m = Memory.program s.flash (wordBytes (copyBase (s.rd Reg.IMG_PERSIST_TARGET)) s.newHeader) := ⟨_, rfl⟩
  have hflash : s.checked.headed.flash = m := by
    rw [hm, ← honly.flash, ← htarget, ← hheader]
    rfl
  have hlen : s.newHeader.length = 8 := rfl
  have hreads : (∀ k : Nat, k < 32 → Memory.read s.flash (copyBase (s.rd Reg.IMG_PERSIST_TARGET) + k) = 255) →
      Memory.words m (copyBase (s.rd Reg.IMG_PERSIST_TARGET)) 8 = s.newHeader := fun herased => by
    have hwords := Memory.words_programmed (m := s.flash) (a := copyBase (s.rd Reg.IMG_PERSIST_TARGET)) (l := s.newHeader)
      (State.newHeader_lt (State.targetJudge_length hjudge)) (by rw [hlen]; exact herased)
    rwa [hlen, ← hm] at hwords
  rw [exec_persistCommitDone_eq hup hpath hst, if_neg (by rw [hsame, hjudge]; decide), hflash, htarget, hheader, hseq]
  split
  next =>
    obtain ⟨hstate, hcause, hresult, -, hend⟩ := State.persistEnd_fin (s := s.checked.headed.wr Reg.IMG_PSEQ_SEQ s.nextSeq) (result := 1)
      (reason := 0) (code := 0xF6) (by decide)
    have hend' := hend.trans hflash
    refine ⟨_, rfl, hstate, hcause, fun herased => ⟨hresult, ?_, by rw [hend', hreads herased], fun a ha => ?_⟩⟩
    · rw [State.evcEdge_rd, Touches.persistEnd.rd (by decide), State.rd_wr_lt s.nextSeq_lt]
    · rw [hend', hm, Memory.read_program_words, if_neg (by rw [hlen]; omega)]
  next hbad =>
    obtain ⟨hstate, hcause, -⟩ := State.persistEnd_fin (s := s.checked.each (wordBytes (copyBase (s.rd Reg.IMG_PERSIST_TARGET)) s.newHeader)
      (fun t p => t.tornByte p.1 (Memory.read t.flash p.1 &&& p.2))) (result := 2) (reason := rMemory) (code := 0xF7) (by decide)
    exact ⟨_, rfl, hstate, hcause, fun herased => absurd (beq_iff_eq.mpr (hreads herased)) hbad⟩

/-- Settles O16: OPEN's end by the erase of its sector, COMMIT's by the verdict on its target; a header programmed over erased bytes reads back. -/
theorem persistsEnd : Obligations.PersistsEnd := by
  refine ⟨fun _ => exec_persistOpenDone, fun s hup hpath hst => ?_⟩
  by_cases hjudge : s.targetJudge = 0
  · obtain ⟨t, ht, hstate, hcause, hpassed⟩ := exec_persistCommitDone_passed hup hpath hst hjudge
    exact ⟨t, ht, hstate, hcause, fun h => absurd hjudge h, fun _ => hpassed⟩
  · obtain ⟨t, ht, hstate, hcause, hrefused⟩ := exec_persistCommitDone_refused hup hpath hst hjudge
    exact ⟨t, ht, hstate, hcause, fun _ => hrefused, fun h => absurd h hjudge⟩

end Sys2Proof.Machine
end

section
/-! What an image that is loaded leaves alone of BOOT's own record (R306, R313, R328). -/

namespace Sys2Proof.Machine

variable {s t u : State} {a v : Nat} {f : Fld}

/-- What BOOT records of itself, and that it is over: fields of class H, as no image field is. -/
def bootOwn : List Fld :=
  [Reg.BOOT_STAT_COPY, Reg.BOOT_STAT_STRAP, Reg.BOOT_STAT_SIG_OK, Reg.BOOT_STAT_ALT, Reg.BOOT_REJ_REASON, Reg.BOOT_REJ_INDEX, Reg.BOOT_REJ_TYPE,
    Hid.resetActive]

/-- The same, with the mode that BOOT enters and the wheel's state. -/
def bootFlds : List Fld := bootOwn ++ [Hid.tickRun, Reg.PWR_MODE_MODE]

/-- The fields of BOOT's record read as before. -/
def State.BootKept (s t : State) : Prop := ∀ f ∈ bootFlds, ∀ ch, t.rdAt f ch = s.rdAt f ch

/-- A field that is none of BOOT's record. -/
abbrev Fld.notBoot (f : Fld) : Prop := ∀ g ∈ bootFlds, g.id ≠ f.id

theorem notBoot_of_class (h : f.cls ≠ .H) : f.notBoot := by
  have hclass : ∀ g ∈ bootFlds, g.id % 4 = 2 := by decide
  intro g hg heq
  have hmod := hclass g hg
  rw [heq] at hmod
  have hcode : f.id % 4 = f.cls.code := by
    have hlt : f.cls.code < 4 := by cases f.cls <;> decide
    simp only [Fld.id]
    omega
  rw [hcode] at hmod
  cases hcls : f.cls <;> simp_all [Cls.code]

namespace State.BootKept

theorem refl (s : State) : s.BootKept s := fun _ _ _ => rfl

theorem trans (h : s.BootKept t) (g : t.BootKept u) : s.BootKept u := fun f hf ch => (g f hf ch).trans (h f hf ch)

theorem of_regs (h : t.regs = s.regs) : s.BootKept t := fun f _ ch => State.rdAt_of_regs h f ch

theorem of_touches {P : List Part} {L : List Fld} (h : Touches P L s t) (hL : ∀ g ∈ bootFlds, g.id ∉ L.map Fld.id) : s.BootKept t :=
  fun g hg ch => h.rdAt (hL g hg) ch

theorem wrAt {ch : Nat} (hf : f.notBoot) : s.BootKept (s.wrAt f ch v) := fun g hg k => State.rdAt_wrAt_id s f g ch k v (hf g hg)

theorem rd {g : Fld} (h : s.BootKept t) (hg : g ∈ bootFlds) : t.rd g = s.rd g := h g hg 0

theorem on {g : Fld} (h : s.BootKept t) (hg : g ∈ bootFlds) : t.on g = s.on g := by rw [State.on, State.on, h.rd hg]

theorem foldl_mem {α : Type} {l : List α} {step : State → α → State} (h : ∀ t : State, ∀ a ∈ l, t.BootKept (step t a)) :
    s.BootKept (l.foldl step s) := by
  induction l generalizing s with
  | nil => exact refl s
  | cons a l ih => exact (h s a List.mem_cons_self).trans (ih fun t b hb => h t b (List.mem_cons_of_mem _ hb))

/-! The sections of an image (R305 to R307, R427). -/

theorem keepCal {typ : Nat} : s.BootKept (s.keepCal typ a v) := by
  have h : Touches [] [Hid.ccTrimLo, Hid.ccTrimHas, Hid.ccTrimHi, Hid.ccOff, Hid.ccUiHas, Hid.ccGain] s (s.keepCal typ a v) :=
    .of (by decide) (.branch (.refl s) (.branch (Touches.refl s).wrAt.orAt (.branch (Touches.refl s).wrAt.orAt
      (.branch (Touches.refl s).wrAt.orAt (.branch (Touches.refl s).wrAt.orAt (.refl s))))))
  exact of_touches h (by decide)

/-- The fields that a run may set are of classes I, V and K. -/
theorem runFields_notBoot (hf : f ∈ runFields a) : f.notBoot := by
  obtain ⟨hat, hmay⟩ := List.mem_filter.mp hf
  refine notBoot_of_class fun hclass => ?_
  have hsel : (selectMax a).isSome = true ∧ f.lo = 0 := by simpa [isImageField, hclass] using hmay
  have hnone : ∀ a ∈ [0x0808, 0x1000, 0x2400, 0x2804, 0x2C10, 0x3400, 0x3800, 0x3A00, 0x3E02, 0x4C00], ∀ f ∈ Reg.fieldsAt a, f.lo = 0 → f.cls ≠ .H := by
    decide
  have ha : a ∈ [0x0808, 0x1000, 0x2400, 0x2804, 0x2C10, 0x3400, 0x3800, 0x3A00, 0x3E02, 0x4C00] := by
    by_contra hout
    simp only [List.mem_cons, List.not_mem_nil, or_false, not_or] at hout
    simp [selectMax, hout] at hsel
  exact hnone a ha f hat hsel.2 hclass

theorem runWord {typ : Nat} : s.BootKept (s.runWord typ a v) := keepCal.trans (foldl_mem fun _ _ hf => wrAt (runFields_notBoot hf))

theorem runWords {typ : Nat} {region : Bool} {l : List Nat} (h : s.runWords typ a region l = .ok u) : s.BootKept u := by
  induction l generalizing s a with
  | nil => exact (Except.ok.inj h) ▸ refl s
  | cons v l ih =>
    rw [State.runWords] at h
    split at h
    · exact nomatch h
    · split at h
      · exact nomatch h
      · exact runWord.trans (ih h)

theorem runs {typ fuel : Nat} {region : Bool} {l : List Nat} (h : s.runs typ region fuel l = .ok u) : s.BootKept u := by
  induction fuel generalizing s l with
  | zero =>
    rw [State.runs] at h
    split at h
    · exact (Except.ok.inj h) ▸ refl s
    · exact nomatch h
  | succ fuel ih =>
    unfold State.runs at h
    split at h
    next => exact (Except.ok.inj h) ▸ refl s
    next h' rest =>
      extract_lets n at h
      split at h
      · exact nomatch h
      · split at h
        next w hw => exact (runWords hw).trans (ih h)
        next => exact nomatch h

theorem wrCoach {c w : Nat} (hw : w < 64) : s.BootKept (s.wrCoach c w v) := by
  have hall : ∀ w < 64, ∀ g ∈ bootFlds, g.id ≠ (Reg.coachW w).id := by decide
  exact (wrAt (hall w hw)).trans (of_regs rfl)

theorem writeGroup {p : List Nat} : s.BootKept (s.writeGroup p) := foldl_mem fun _ _ _ => foldl_mem fun _ j _ => wrCoach (Touches.groupWord_lt j)

/-- The image-set fields of one address, written from a word. -/
theorem imageFields {t : State} : t.BootKept (t.each ((Reg.fieldsAt a).filter fun f => f.cls == .I) fun u f => u.wrAt f (f.chan a u) (bits v f.lo f.w)) :=
  foldl_mem fun _ f hf => by
    have hclass : f.cls = .I := by simpa using (List.mem_filter.mp hf).2
    exact wrAt (notBoot_of_class (by rw [hclass]; decide))

theorem loadDisplay {p : List Nat} (h : s.loadDisplay p = .ok u) : s.BootKept u := by
  unfold State.loadDisplay at h
  split at h
  · exact nomatch h
  · extract_lets h' word t w at h
    split at h
    · have ht : s.BootKept t := foldl_mem fun _ _ _ => imageFields
      have hw : t.BootKept w := by
        have htouch : Touches [] [Hid.comp, Hid.compHdr, Reg.DISP_PAGE_PAGE] t w :=
          .of (by decide) ((Touches.refl t).each (P' := []) (L' := [Hid.comp]) fun x _ => (Touches.refl x).wrAt).wr.wr
        exact of_touches htouch (by decide)
      exact (Except.ok.inj h) ▸ (ht.trans hw).trans (of_regs rfl)
    · exact nomatch h

theorem loadNetwork {p : List Nat} (h : s.loadNetwork p = .ok u) : s.BootKept u := by
  unfold State.loadNetwork at h
  split at h
  · exact nomatch h
  · split at h
    · exact (Except.ok.inj h) ▸ (of_regs rfl).trans (foldl_mem fun _ _ _ => imageFields)
    · exact nomatch h

theorem loadSection {typ : Nat} {p : List Nat} {region : Bool} (h : s.loadSection typ p region = .ok u) : s.BootKept u := by
  unfold State.loadSection at h
  split at h
  · exact (Except.ok.inj h) ▸ refl s
  split at h
  · exact runs h
  split at h
  · split at h
    · exact (Except.ok.inj h) ▸ writeGroup
    · exact nomatch h
  split at h
  · exact loadDisplay h
  split at h
  · exact loadNetwork h
  split at h
  · split at h
    · exact (Except.ok.inj h) ▸ foldl_mem fun _ _ _ => wrAt (f := Hid.patch) (by decide)
    · exact nomatch h
  · exact (Except.ok.inj h) ▸ refl s

theorem loadSections {i : Nat} {seen cov : List Nat} {l : List Sec} (h : s.loadSections i seen cov l = .ok u) : s.BootKept u := by
  induction l generalizing s i seen cov with
  | nil =>
    unfold State.loadSections at h
    split at h
    · exact (Except.ok.inj h) ▸ refl s
    · exact nomatch h
  | cons c l ih =>
    unfold State.loadSections at h
    extract_lets rej g at h
    split at h
    · exact nomatch h
    split at h
    · exact nomatch h
    split at h
    · exact nomatch h
    split at h
    · exact nomatch h
    next w hw => exact (loadSection hw).trans (ih h)

theorem judgeBody {body : List Nat} {crcOk crypto sig : Bool} (h : s.judgeBody body crcOk crypto = .ok (u, sig)) : s.BootKept u := by
  unfold State.judgeBody at h
  split at h
  · exact nomatch h
  · split at h
    · exact nomatch h
    next w hw =>
      split at h
      · exact nomatch h
      · extract_lets sp r at h
        split at h
        · exact nomatch h
        · split at h
          · exact (Prod.mk.inj (Except.ok.inj h)).1 ▸ loadSections hw
          · exact nomatch h

end State.BootKept

end Sys2Proof.Machine
end

section
/-! BOOT from its start to the entry of a mode (R311 to R316, R328, R435). -/

namespace Sys2Proof.Machine

variable {s t u x : State} {env : BootEnv} {a v c k : Nat} {f : Fld}

/-! The start of BOOT (R311). -/

/-- A field whose cells a filter keeps reads as before. -/
theorem Store.get_filter_of {p : Cell → Bool} {id ch d : Nat} (l : List Cell) (h : ∀ c : Cell, c.at id ch = true → p c = true) :
    Store.get (l.filter p) id ch d = Store.get l id ch d := by
  induction l with
  | nil => rfl
  | cons c l ih =>
    by_cases hp : p c = true
    · rw [List.filter_cons_of_pos hp, Store.get, Store.get, ih]
    · have hc : ¬ c.at id ch = true := fun hat => hp (h c hat)
      rw [List.filter_cons_of_neg hp, ih, Store.get, if_neg hc]

namespace State.BootKept

theorem backupReset : s.BootKept s.backupReset := by
  unfold State.backupReset
  extract_lets t u
  have hclass : ∀ g ∈ bootFlds, g.id % 4 ≠ 0 := by decide
  have ht : s.BootKept t := fun g hg ch => Store.get_filter_of _ fun c hc => by
    have hid : c.id = g.id := by
      simp only [Cell.at, Bool.and_eq_true, beq_iff_eq] at hc
      exact hc.1
    simp [hid, hclass g hg]
  have hu : Touches [] [Reg.RTC_DATE_DAY, Reg.RTC_DATE_MONTH, Reg.RTC_STAT_OSF, Reg.RTC_STAT_LOSS, Hid.latch, Hid.oscStopped] t u :=
    .of (by decide) (Touches.refl t).wr.wr.wr.wr.wr.wr
  exact ht.trans (of_touches (hu.wrAt.wrAt.count.countIf) (by decide))

theorem whenB {b : Bool} {step : State → State} (h : ∀ t, State.BootKept t (step t)) : s.BootKept (s.whenB b step) := by
  unfold State.whenB
  split
  · exact h s
  · exact refl s

theorem branch {p : Prop} {inst : Decidable p} (ht : s.BootKept t) (hu : s.BootKept u) : s.BootKept (if p then t else u) := by
  split
  · exact ht
  · exact hu

theorem memErr {g : Fld} (hg : g.notBoot) : s.BootKept (s.memErr g) := wrAt (s := s) hg

end State.BootKept

theorem State.bootStart_shows : (s.bootStart env).rd Hid.resetActive = 0 ∧ (s.bootStart env).rd Reg.BOOT_STAT_STRAP = env.straps.val := by
  unfold State.bootStart
  extract_lets o strap good t i2c u l v w x
  have hu : u.rd Hid.resetActive = 0 ∧ u.rd Reg.BOOT_STAT_STRAP = env.straps.val := by
    simp (disch := decide) only [u, State.wrs, State.rd_wr_ne, State.rd_wr_same]
    exact ⟨rfl, Nat.mod_eq_of_lt env.straps.isLt⟩
  have hv : u.BootKept v := by
    have htouch : Touches [] (Touches.seatFlds ++ [Reg.SUPV_LANE_RETIRED]) u v :=
      .of (by decide) ((((Touches.refl u).whenB fun x => (Touches.refl x).raise).andThen .seatLanes).or)
    exact .of_touches htouch (by decide)
  have hx : u.BootKept x := (hv.trans (.whenB fun _ => .backupReset)).trans (.branch (.of_regs rfl) (.of_regs rfl))
  have hend : u.BootKept (if env.romOk = true then x else (x.wr Hid.ppRom 1).memErr Reg.MEM_ERR_ROM) :=
    .branch hx ((hx.trans (.wrAt (f := Hid.ppRom) (by decide))).trans (.memErr (by decide)))
  exact ⟨(hend.rd (by decide)).trans hu.1, (hend.rd (by decide)).trans hu.2⟩

/-! The image (R311, R313). -/

namespace State.BootKept

theorem imageDefaults : s.BootKept s.imageDefaults := by
  have hvals : Touches [] (Reg.UI_OFFSET_OFFSET :: Reg.UI_GAIN_GAIN :: Touches.trimFlds) s s.calValues :=
    .of (by decide) (((Touches.refl s).each (P' := []) (L' := [Reg.UI_OFFSET_OFFSET, Reg.UI_GAIN_GAIN])
      fun t _ => .of (by decide) (Touches.refl t).wrAt.wrAt).each fun _ _ => .reloadTrim)
  have h : Touches [] (Reg.VLV_TIMING_PEAK_WAIT :: Reg.DMP_SCHED_MAX_MOVING :: Reg.NET_BIP_PORT :: Reg.THERM_THR0_WARN :: Reg.THERM_THR0_L1 ::
      Reg.THERM_THR1_L2 :: Reg.THERM_THR1_L3 :: Reg.UI_OFFSET_OFFSET :: Reg.UI_GAIN_GAIN :: Touches.trimFlds) s s.imageDefaults :=
    .of (by decide) (hvals.each (P' := []) (L' := [Reg.VLV_TIMING_PEAK_WAIT]) fun t _ => (Touches.refl t).wrAt).wr.wr.wr.wr.wr.wr
  exact of_touches h (by decide)

theorem bootJudge {sig : Bool} (h : s.bootJudge c = .ok (u, sig)) : s.BootKept u := imageDefaults.trans (judgeBody h)

end State.BootKept

/-- What the record of a rejected copy writes (R328). -/
def rejFlds : List Fld := [Reg.BOOT_REJ_REASON, Reg.BOOT_REJ_INDEX, Reg.BOOT_REJ_TYPE]

theorem Touches.bootRej {r : Rej} : Touches [] rejFlds s (s.bootRej c r) := .of (by decide) (refl s).wrAt.wrAt.wrAt

theorem Touches.bootTried {l : List (Nat × Rej)} : Touches [] (Reg.BOOT_STAT_ALT :: rejFlds) s (s.bootTried l) :=
  foldl_mem fun _ _ _ => .of (by decide) bootRej.wr

theorem Touches.bootHeaders {answers : Bool} : Touches [] (Reg.BOOT_SEQ_SEQ :: rejFlds) s (s.bootHeaders answers) :=
  foldl_mem fun t _ _ => .of (by decide) (branch (refl t).wrAt bootRej)

/-! The copies in their order (R313): equations of the search. -/

theorem State.bootCopies_nil {tried : List (Nat × Rej)} : s.bootCopies tried [] = (s.bootTried tried, false) := rfl

theorem State.bootCopies_none {tried : List (Nat × Rej)} {l : List Nat} (h : ∀ c ∈ l, ∃ r, s.bootJudge c = .error r) :
    (s.bootCopies tried l).2 = false := by
  induction l generalizing tried with
  | nil => rw [State.bootCopies_nil]
  | cons c l ih =>
    obtain ⟨r, hr⟩ := h c List.mem_cons_self
    rw [Leads.bootCopies_of_error hr]
    exact ih fun d hd => h d (List.mem_cons_of_mem _ hd)

/-- BOOT goes on, and with the same straps: what every way through an image keeps. -/
def State.OnBoot (s t : State) : Prop := t.rd Hid.resetActive = s.rd Hid.resetActive ∧ t.rd Reg.BOOT_STAT_STRAP = s.rd Reg.BOOT_STAT_STRAP

namespace State.OnBoot

theorem of_kept (h : s.BootKept t) : s.OnBoot t := ⟨h.rd (by decide), h.rd (by decide)⟩

theorem of_touches {P : List Part} {L : List Fld} (h : Touches P L s t) (hL : Hid.resetActive.id ∉ L.map Fld.id ∧ Reg.BOOT_STAT_STRAP.id ∉ L.map Fld.id) :
    s.OnBoot t := ⟨h.rd hL.1, h.rd hL.2⟩

theorem trans (h : s.OnBoot t) (g : t.OnBoot u) : s.OnBoot u := ⟨g.1.trans h.1, g.2.trans h.2⟩

theorem bootCopies {tried : List (Nat × Rej)} {l : List Nat} : s.OnBoot (s.bootCopies tried l).1 := by
  induction l generalizing tried with
  | nil =>
    rw [State.bootCopies_nil]
    exact of_touches Touches.bootTried (by decide)
  | cons c l ih =>
    cases hjudge : s.bootJudge c with
    | ok p =>
      obtain ⟨w, sig⟩ := p
      have hcopy : Touches [] [Reg.BOOT_STAT_COPY, Reg.BOOT_STAT_SIG_OK] w (w.wrs [(Reg.BOOT_STAT_COPY, c), (Reg.BOOT_STAT_SIG_OK, b2n sig)]) :=
        .of (by decide) (Touches.refl w).wr.wr
      rw [Leads.bootCopies_of_ok hjudge]
      exact ((of_kept (State.BootKept.bootJudge hjudge)).trans (of_touches hcopy (by decide))).trans (of_touches Touches.bootTried (by decide))
    | error r =>
      rw [Leads.bootCopies_of_error hjudge]
      exact ih

theorem bootFlash {answers : Bool} : s.OnBoot (s.bootFlash answers).1 := by
  have hcopies : s.OnBoot ((s.bootHeaders answers).bootCopies [] (s.bootOrder answers)).1 :=
    (of_touches Touches.bootHeaders (by decide)).trans bootCopies
  unfold State.bootFlash
  extract_lets order r
  split
  · exact hcopies
  · have hnone : Touches [] [Reg.BOOT_STAT_COPY, Reg.BOOT_STAT_SIG_WAIT] r.1.imageDefaults
        (r.1.imageDefaults.wrs [(Reg.BOOT_STAT_COPY, 2), (Reg.BOOT_STAT_SIG_WAIT, b2n (r.1.sigWaits order))]) :=
      .of (by decide) (Touches.refl _).wr.wr
    exact (hcopies.trans (of_kept .imageDefaults)).trans (of_touches hnone (by decide))

end State.OnBoot

end Sys2Proof.Machine
end

section
/-! The end of BOOT: measurements, supplies, units and the mode (R187, R311, R316, R331). -/

namespace Sys2Proof.Machine

variable {s t u : State} {env : BootEnv} {k n : Nat}

namespace Touches

/-- What a boot calibration writes (R187). -/
def bootCalFlds : List Fld := [Reg.CAL_FLAGS_BOOT_FAIL, Reg.CAL_INFO_SPREAD] ++ trimFlds ++ calFlds

theorem bootCalFail {reason : Nat} : Touches [.convs, .cals] bootCalFlds s (s.bootCalFail k reason) :=
  .of (by decide) (branch ((refl s).wr.andThen calRecord) (refl s).wr.wrAt.wrAt.wrAt)

theorem applySet {l : List Int} : Touches [] trimFlds s (s.applySet k l) := .of (by decide) (branch applyTaps (refl s).wrAt)

theorem bootCal {b : BootCal} : Touches [.convs, .cals] bootCalFlds s (s.bootCal k b) := by
  unfold State.bootCal
  split
  next x y _ _ =>
    extract_lets t u
    have ht : Touches [] [Reg.CAL_INFO_SPREAD] s t := (refl s).wrAt
    have hu : Touches [] (Reg.CAL_INFO_SPREAD :: trimFlds) s u := .of (by decide) (ht.andThen applySet)
    exact .of (by decide) (branch (ht.andThen bootCalFail) (branch (ht.andThen bootCalFail) (branch (hu.andThen calRecord) hu.wrAt.wrAt.wrAt)))
  next => exact bootCalFail

/-- What the learning of the sensors' offsets writes (R261). -/
def learnFlds : List Fld :=
  [Reg.TS_OFS_OFS, Reg.TS_STATE_FAILED, Reg.TS_STATE_CAUSE, Reg.THERM_FLAGS_BOOT_EXCL, Reg.THERM_STAT_HOLD]

theorem learnOffsets {sums : List Int} {fuel : Nat} : Touches [] learnFlds s (State.learnOffsets sums n fuel s) := by
  induction fuel generalizing s with
  | zero => exact .of (by decide) (refl s)
  | succ fuel ih =>
    unfold State.learnOffsets
    extract_lets a t live worst
    have ht : Touches [] learnFlds s t := .of (by decide) ((refl s).each (P' := []) (L' := [Reg.TS_OFS_OFS]) fun v i => by
      extract_lets b w
      exact .of (by decide) (branch (refl v).wrI wholeOf.wrI))
    have hout : Touches [] learnFlds t (((t.wrsAt worst [(Reg.TS_STATE_FAILED, 1), (Reg.TS_STATE_CAUSE, 2), (Reg.TS_OFS_OFS, 0)]).wrs
        [(Reg.THERM_FLAGS_BOOT_EXCL, 1), (Reg.THERM_STAT_HOLD, 1)]).count 0x7A |>.raise 4) :=
      .of (by decide) (refl t).wrAt.wrAt.wrAt.wr.wr.count.raise
    exact either ht (ht.trans (hout.trans ih))

theorem bootSupplies {m : Nat} : Touches [.convs] [Hid.calHold, Reg.PWR_STAT_VDDA_UV, Reg.PWR_STAT_VM_UV, Reg.PWR_STAT_VM_OV,
    Reg.PWR_STAT_VDRV_LOW, Hid.vdrvBlock] s (s.bootSupplies m) := by
  unfold State.bootSupplies
  extract_lets fb f w t
  have hw : Touches [] [Hid.calHold] s w := .of (by decide) (branch (refl s).freeBelow.wr (refl s))
  have ht : Touches [] [Hid.calHold, Reg.PWR_STAT_VDDA_UV, Reg.PWR_STAT_VM_UV, Reg.PWR_STAT_VM_OV, Reg.PWR_STAT_VDRV_LOW, Hid.vdrvBlock] s t :=
    .of (by decide) hw.wr.wr.wr.wr.wr
  exact .of (by decide) (branch ht.setConvs ht)

end Touches

namespace State.BootKept

theorem bootMeasure : s.BootKept (s.bootMeasure env) := by
  unfold State.bootMeasure
  extract_lets u
  have hu : s.BootKept u := branch (refl s) (foldl_mem fun _ _ _ => of_touches Touches.bootCal (by decide))
  exact (((hu.trans (of_touches Touches.learnOffsets (by decide))).trans (of_touches Touches.fastBesideFailed (by decide)))).trans
    (of_touches Touches.thermRefresh (by decide))

theorem coachEnable {c : Nat} : s.BootKept (s.coachEnable c) := of_touches Touches.coachEnable (by decide)

theorem bootCoaches : s.BootKept s.bootCoaches :=
  foldl_mem fun _ _ _ => branch (wrCoach (by decide)) (((wrCoach (by decide)).trans coachEnable).trans (wrAt (f := Hid.closeInit) (by decide)))

theorem dmpEnable : s.BootKept s.dmpEnable := by
  have h : Touches [.dmp] [Hid.dmpVel, Reg.DMP_STATE_STATE, Reg.DMP_STATE_CAUSE, Hid.dmpFb] s s.dmpEnable :=
    .of (by decide) ((Touches.refl s).each (P' := [.dmp]) (L' := [Hid.dmpVel, Reg.DMP_STATE_STATE, Reg.DMP_STATE_CAUSE, Hid.dmpFb]) fun t d =>
      .of (by decide) (.branch (.branch (.refl t) Touches.dmpOut.wrAt.wrAt.wrAt) (.branch (Touches.refl t).wrAt (.refl t))))
  exact of_touches h (by decide)

theorem setDuty {v : Nat} : s.BootKept (s.setDuty n v) := wrAt (f := Reg.FANT_MEAS_DUTY) (by decide)

theorem fanOff : s.BootKept (s.fanOff n) := by
  have hset : ∀ v, s.BootKept (s.setFan n v) := fun _ => of_touches Touches.setFan (by decide)
  exact branch ((of_touches Touches.setFan (by decide)).trans (of_touches Touches.gatesOff (by decide))) ((hset 0).trans setDuty)

theorem fanStop : s.BootKept (s.fanStop n) :=
  branch ((of_touches Touches.fanStop0 (by decide)).trans (of_touches Touches.fanCutRefresh (by decide))) (of_touches Touches.fanStopT (by decide))

theorem fanOpen : s.BootKept (s.fanOpen n) :=
  branch (refl s) (branch (branch setDuty (refl s)) (branch (of_touches Touches.fanStopT (by decide)) (of_touches Touches.fanRunT (by decide))))

theorem fanEnable : s.BootKept s.fanEnable := by
  have heach : s.BootKept (s.each (upTo 3) fun t n =>
      if n = 0 ∧ t.mode = mSafe then t.setFan 0 fStopped
      else if t.fanUsed n = false then (if t.fan n = 0 ∨ t.fan n = fLocked then t else t.fanOff n)
      else if t.fan n = 0 then t.fanStop n
      else t.fanOpen n) :=
    foldl_mem fun t _ _ => branch (of_touches Touches.setFan (by decide)) (branch (branch (refl t) fanOff) (branch fanStop fanOpen))
  exact heach.trans (of_touches Touches.heaterRefresh (by decide))

theorem schedStart : s.BootKept s.schedStart := by
  have hlog : s.BootKept { s with schedLog := [] } := of_regs rfl
  exact branch (refl s) (branch (hlog.trans (of_touches Touches.schedNoTime (by decide))) (of_touches Touches.currentState (by decide)))

/-- What starts with the mode keeps the mode, once it is written. -/
theorem bootUnits {mode : Nat} : (s.wr Reg.PWR_MODE_MODE mode).BootKept (s.bootUnits mode) := by
  unfold State.bootUnits
  extract_lets t v w
  have ht : (s.wr Reg.PWR_MODE_MODE mode).BootKept t := bootCoaches
  have hv : t.BootKept v := ((foldl_mem fun _ _ _ => of_touches Touches.vlvLeave (by decide)).trans dmpEnable).trans
    (foldl_mem fun u _ _ => branch (wrAt (f := Hid.dmpHome) (by decide)) (refl u))
  have hw : v.BootKept w := fanEnable.trans (of_touches Touches.boRefresh (by decide))
  exact ((ht.trans hv).trans hw).trans schedStart

theorem compOff : s.BootKept s.compOff := by
  have h : Touches [] [Reg.RTC_COMP_STAT_N, Hid.rtcCompN] s s.compOff := .of (by decide) (.branch (.refl s) (Touches.refl s).wr.wr)
  exact of_touches h (by decide)

end State.BootKept

/-- The end of BOOT keeps its record, and the wheel stands. -/
theorem State.bootEnd_keeps : (∀ f ∈ bootOwn ++ [Reg.PWR_MODE_MODE], ∀ ch, (s.bootEnd env).rdAt f ch = s.rdAt f ch) ∧
    (s.bootEnd env).rd Hid.tickRun = 0 := by
  unfold State.bootEnd
  extract_lets t u
  have ht : Touches [] [Reg.BOOT_STAT_BOOT_TIME, Reg.HOST_HB_CFG_LEFT, Reg.SUPV_WDT_REMAIN, Reg.ARB_STATUS_SEAT_COUNT, Hid.dispPage, Hid.tickRun,
      Reg.ARB_WSEL_SEL, Reg.COACH_SEL_SEL, Reg.UI_SEL_SEL, Reg.CAL_SEL_SEL, Reg.TS_SEL_SEL, Reg.VLV_SEL_SEL, Reg.DMP_SEL_SEL, Reg.BO_SEL_SEL,
      Reg.SCHED_ZSEL_SEL, Reg.EVC_SEL_SEL] s t :=
    .of (by decide) (Touches.refl s).wr.wr.wr.wr.wr.wr.wr.wr.wr.wr.wr.wr.wr.wr.wr.wr
  have hrun : t.rd Hid.tickRun = 0 := State.rd_wr_lt (by decide)
  have hu : t.BootKept u := State.BootKept.foldl_mem fun _ _ _ => .wrAt (f := Reg.ARB_ACT_SEATS) (by decide)
  have hpmul : u.BootKept (u.wr Reg.ENG_STATUS_PMUL u.pmulNow) := .wrAt (f := Reg.ENG_STATUS_PMUL) (by decide)
  have hend : t.BootKept ((u.wr Reg.ENG_STATUS_PMUL u.pmulNow).compOff.netRestart.panelIdle.occMoment) :=
    ((((hu.trans hpmul).trans .compOff).trans (.of_touches Touches.netRestart (by decide))).trans (.of_touches Touches.panelIdle (by decide))).trans
      (.of_touches Touches.occMoment (by decide))
  have hown : ∀ f ∈ bootOwn ++ [Reg.PWR_MODE_MODE], f ∈ bootFlds ∧ f.id ∉ [Reg.BOOT_STAT_BOOT_TIME, Reg.HOST_HB_CFG_LEFT, Reg.SUPV_WDT_REMAIN,
      Reg.ARB_STATUS_SEAT_COUNT, Hid.dispPage, Hid.tickRun, Reg.ARB_WSEL_SEL, Reg.COACH_SEL_SEL, Reg.UI_SEL_SEL, Reg.CAL_SEL_SEL, Reg.TS_SEL_SEL,
      Reg.VLV_SEL_SEL, Reg.DMP_SEL_SEL, Reg.BO_SEL_SEL, Reg.SCHED_ZSEL_SEL, Reg.EVC_SEL_SEL].map Fld.id := by decide
  exact ⟨fun f hf ch => (hend f (hown f hf).1 ch).trans (ht.rdAt (hown f hf).2 ch), (hend.rd (by decide)).trans hrun⟩

/-- BOOT from the image on, in the mode it enters (R311, steps 9 to 11). -/
def State.bootFinish (s : State) (env : BootEnv) (mode : Nat) : State :=
  ((((((s.bootMeasure env).bootSupplies env.supplies.val).bootUnits mode).bootEnd env).refreshRelief).cutRefresh)

theorem State.bootFinish_shows {mode : Nat} (hmode : mode < 8) : (s.bootFinish env mode).mode = mode ∧ (s.bootFinish env mode).rd Hid.tickRun = 0 ∧
    ∀ f ∈ bootOwn, ∀ ch, (s.bootFinish env mode).rdAt f ch = s.rdAt f ch := by
  obtain ⟨w, hw⟩ : ∃ w, w = (s.bootMeasure env).bootSupplies env.supplies.val := ⟨_, rfl⟩
  have hs : s.BootKept w := hw ▸ State.BootKept.bootMeasure.trans (.of_touches Touches.bootSupplies (by decide))
  obtain ⟨hkeep, hrun⟩ := State.bootEnd_keeps (s := w.bootUnits mode) (env := env)
  have hend : ((w.bootUnits mode).bootEnd env).BootKept (s.bootFinish env mode) := by
    rw [State.bootFinish, ← hw]
    exact (State.BootKept.of_touches Touches.refreshRelief (by decide)).trans (.of_touches Touches.cutRefresh (by decide))
  have hunits := State.BootKept.bootUnits (s := w) (mode := mode)
  refine ⟨?_, (hend.rd (by decide)).trans hrun, fun f hf ch => ?_⟩
  · have hwr : (w.wr Reg.PWR_MODE_MODE mode).rd Reg.PWR_MODE_MODE = mode := State.rd_wr_lt hmode
    rw [State.mode, hend.rd (by decide), State.rd, hkeep _ (by decide) 0, ← State.rd, hunits.rd (by decide), hwr]
  · have hmem : f ∈ bootFlds ∧ f ∈ bootOwn ++ [Reg.PWR_MODE_MODE] ∧ Fld.id f ≠ Fld.id Reg.PWR_MODE_MODE := by
      have hall : ∀ f ∈ bootOwn, f ∈ bootFlds ∧ f ∈ bootOwn ++ [Reg.PWR_MODE_MODE] ∧ f.id ≠ Reg.PWR_MODE_MODE.id := by decide
      exact hall f hf
    rw [hend f hmem.1 ch, hkeep f hmem.2.1 ch, hunits f hmem.1 ch]
    exact (State.rdAt_wrAt_id w _ f _ ch mode hmem.2.2).trans (hs f hmem.1 ch)

end Sys2Proof.Machine
end

section
/-! BOOT as a whole: what the flash or the EEPROM gives, and what the mode that is entered shows of it (R311 to R316, R435). -/

namespace Sys2Proof.Machine

variable {s t u : State} {env : BootEnv} {c d n : Nat} {r : Rej} {sig : Bool} {l : List Nat}

/-! The IZ-30 EEPROM (R432 to R438). -/

namespace State.BootKept

theorem izFixed : s.BootKept s.izFixed := by
  unfold State.izFixed
  extract_lets t u v w
  have ht : Touches [] [Reg.CONV_VREF_VREF, Reg.CONV_PRIV_THERM, Reg.CONV_PRIV_SUPV, Reg.CONV_PRIV_CAL, Reg.CONV_OWN_HI_OWN, Reg.CAL_CTRL_AUTO_EN,
      Reg.ARB_HOLD_HOLD_LIMIT, Reg.SUPV_WDT_TIMEOUT, Reg.VLV_DIAG_CFG_DIAG_PERIOD, Reg.CONV_SCAN_LO_MASK, Reg.CONV_SCAN_HI_MASK] s u :=
    .of (by decide) (Touches.refl s).wr.wr.wr.wr.wr.wr.wr.wr.wr.wrAt.wrAt.wrAt
  have hv : u.BootKept v := foldl_mem fun t k _ => by
    have hfilt : Touches [] [Reg.UI_FILT_OSR, Reg.UI_LIN_BETA] t (t.wrsAt k [(Reg.UI_FILT_OSR, 1), (Reg.UI_LIN_BETA, 3950)]) :=
      .of (by decide) (Touches.refl t).wrAt.wrAt
    refine (of_touches hfilt (by decide)).trans (foldl_mem fun x w hw => ?_)
    have hlt : w < 64 := by
      simp only [List.mem_cons, List.not_mem_nil, or_false] at hw
      omega
    exact wrCoach hlt
  have hw : Touches [] [Reg.VLV_TIMING_PEAK_WAIT, Reg.VLV_TIMING_T_RISE] v w :=
    .of (by decide) ((Touches.refl v).each (P' := []) (L' := [Reg.VLV_TIMING_PEAK_WAIT, Reg.VLV_TIMING_T_RISE]) fun t _ =>
      .of (by decide) (Touches.refl t).wrAt.wrAt)
  have hend : Touches [] [Reg.FANT_CTRL_EN, Reg.FANT_LIM_MAX_RPM, Reg.BUS_CFG_BAUD, Reg.BUS_CFG_PARITY, Reg.BUS_CFG_BIAS] w
      ((w.each (upTo 2) fun t f => t.wrsAt f [(Reg.FANT_CTRL_EN, 1), (Reg.FANT_LIM_MAX_RPM, 10000)]).wrsAt 1
        [(Reg.BUS_CFG_BAUD, 0), (Reg.BUS_CFG_PARITY, 0), (Reg.BUS_CFG_BIAS, 1)]) :=
    .of (by decide) ((Touches.refl w).each (P' := []) (L' := [Reg.FANT_CTRL_EN, Reg.FANT_LIM_MAX_RPM]) fun t _ =>
      .of (by decide) (Touches.refl t).wrAt.wrAt).wrAt.wrAt.wrAt
  exact ((of_touches ht (by decide)).trans hv).trans ((of_touches hw (by decide)).trans (of_touches hend (by decide)))

theorem izMirror {m : List Host.Cell} : s.BootKept (s.izMirror m) := foldl_mem fun _ _ _ => wrAt (f := Hid.izI) (by decide)

/-- What the IZ-30 image sets of the valves. -/
def izVlvFlds : List Fld :=
  [Reg.VLV_PEAK0_I_PEAK, Reg.VLV_PEAK1_I_PEAK, Reg.VLV_PEAK2_I_PEAK, Reg.VLV_PEAK0_T_PEAK, Reg.VLV_PEAK1_T_PEAK, Reg.VLV_PEAK2_T_PEAK,
    Reg.VLV_HOLD_I_HOLD, Reg.VLV_HOLD_I_HOLD_MIN, Reg.VLV_THERM_V_RATED, Reg.VLV_CFG_MODE, Reg.VLV_CFG_HS_USE, Reg.VLV_CFG_DIAG_OFF]

theorem izNative : s.BootKept (s.izNative false) := by
  unfold State.izNative
  extract_lets t u
  have ht : s.BootKept t := foldl_mem fun x _ _ => wrAt (f := Reg.UI_CFG_MODE) (by decide)
  have hu : Touches [] izVlvFlds t u := Touches.foldl_mem fun x _ _ =>
    .of (by decide) (Touches.refl x).wrAt.wrAt.wrAt.wrAt.wrAt.wrAt.wrAt.wrAt.wrAt.wrAt.wrAt.wrAt
  have hend : Touches [] [Reg.FANT_CTRL_TACH_EN, Reg.FANT_CTRL_OD, Reg.FANT_CTRL_INV] u (u.each (upTo 2) fun t f =>
      t.wrsAt f [(Reg.FANT_CTRL_TACH_EN, bits (t.iz (0x98 + f)) 0 1), (Reg.FANT_CTRL_OD, bits (t.iz (0x98 + f)) 1 1),
        (Reg.FANT_CTRL_INV, bits (t.iz (0x98 + f)) 2 1)]) := Touches.foldl_mem fun x _ _ => .of (by decide) (Touches.refl x).wrAt.wrAt.wrAt
  exact (ht.trans (of_touches hu (by decide))).trans (of_touches hend (by decide))

end State.BootKept

/-- A boot from the EEPROM goes on with the straps; COPY shows what it found. -/
theorem State.bootEeprom_shows {answers : Bool} : s.OnBoot (s.bootEeprom answers).1 ∧
    (s.bootEeprom answers).2 = (s.izReject s.eeprom answers).isNone ∧
    (s.bootEeprom answers).1.rd Reg.BOOT_STAT_COPY = if (s.izReject s.eeprom answers).isNone = true then 3 else 2 := by
  unfold State.bootEeprom
  split
  next r hr =>
    have htouch : Touches [] (Reg.BOOT_STAT_COPY :: rejFlds) s.imageDefaults
        ((s.imageDefaults.bootRej 0 { reason := r.1, index := r.2 }).wr Reg.BOOT_STAT_COPY 2) := .of (by decide) Touches.bootRej.wr
    rw [hr]
    exact ⟨(OnBoot.of_kept .imageDefaults).trans (.of_touches htouch (by decide)), rfl, State.rd_wr_lt (by decide)⟩
  next hnone =>
    obtain ⟨y, hy⟩ : ∃ y, y = ((s.imageDefaults.izFixed).izMirror s.eeprom).izNative false := ⟨_, rfl⟩
    have hkept : s.BootKept y := hy ▸ ((State.BootKept.imageDefaults.trans .izFixed).trans .izMirror).trans .izNative
    have hdrivers : (y.wr Reg.BOOT_STAT_COPY 3).BootKept (((y.wr Reg.BOOT_STAT_COPY 3).wrAt Hid.izV 2 0x82).izDrivers) :=
      (State.BootKept.wrAt (f := Hid.izV) (by decide)).trans (.foldl_mem fun _ _ _ => .wrAt (f := Hid.izDrv) (by decide))
    have hcopy : Touches [] [Reg.BOOT_STAT_COPY] y (y.wr Reg.BOOT_STAT_COPY 3) := (Touches.refl y).wr
    rw [hnone, ← hy]
    exact ⟨((OnBoot.of_kept hkept).trans (.of_touches hcopy (by decide))).trans (.of_kept hdrivers), rfl,
      (hdrivers.rd (by decide)).trans (State.rd_wr_lt (by decide))⟩

/-! BOOT as its image and its end. -/

/-- Where the straps have BOOT look: its machine, and whether an image passed. -/
def State.bootImage (s : State) (env : BootEnv) : State × Bool :=
  if env.straps.val = 2 then (s.bootStart env).bootEeprom (env.answers && eepAnswers env.acks) else (s.bootStart env).bootFlash env.answers

/-- The mode that a boot enters. -/
def bootMode (env : BootEnv) (passed : Bool) : Nat := if passed then strapMode env.straps.val else mSafe

theorem bootMode_lt {passed : Bool} : bootMode env passed < 8 := by
  unfold bootMode strapMode
  split
  · split
    · decide
    · split <;> decide
  · decide

theorem State.boot_eq : s.boot env = (s.bootImage env).1.bootFinish env (bootMode env (s.bootImage env).2) := rfl

/-- Every boot ends its reset in SAFE or in the mode that the straps select, with the straps recorded and the wheel at rest, and keeps the record
that its image left. -/
theorem exec_boot (hboot : s.mode = mBoot) : ∃ t, exec (.bootResetRelease env) s = .next t ∧ t.mode = bootMode env (s.bootImage env).2 ∧
    t.rd Hid.resetActive = 0 ∧ t.rd Reg.BOOT_STAT_STRAP = env.straps.val ∧ t.on Hid.tickRun = false ∧
    ∀ f ∈ bootOwn, ∀ ch, t.rdAt f ch = (s.bootImage env).1.rdAt f ch := by
  have hexec : exec (.bootResetRelease env) s = fin (s.boot env) := if_pos hboot
  obtain ⟨hreset, hstrap⟩ := State.bootStart_shows (s := s) (env := env)
  have himage : (s.bootStart env).OnBoot (s.bootImage env).1 := by
    unfold State.bootImage
    split
    · exact State.bootEeprom_shows.1
    · exact .bootFlash
  obtain ⟨hmode, hrun, hkeep⟩ := State.bootFinish_shows (s := (s.bootImage env).1) (env := env) (mode := bootMode env (s.bootImage env).2) bootMode_lt
  rw [hexec, State.boot_eq]
  refine exists_fin ⟨?_, ?_, ?_, ?_, fun f hf ch => ?_⟩
  · rw [State.mode, State.evcEdge_rd]
    exact hmode
  · rw [State.evcEdge_rd, State.rd, hkeep _ (by decide), ← State.rd, himage.1, hreset]
  · rw [State.evcEdge_rd, State.rd, hkeep _ (by decide), ← State.rd, himage.2, hstrap]
  · rw [State.evcEdge_on, State.on, hrun]
    rfl
  · rw [State.evcEdge_rdAt, hkeep f hf ch]

/-! The flash (R313): the copies in order, and what is recorded of them. -/

theorem State.bootFlash_passed {answers : Bool} (h : ((s.bootHeaders answers).bootCopies [] (s.bootOrder answers)).2 = true) :
    s.bootFlash answers = (s.bootHeaders answers).bootCopies [] (s.bootOrder answers) := if_pos h

/-- No copy passes: COPY says so. -/
theorem State.bootFlash_none {answers : Bool} (h : ((s.bootHeaders answers).bootCopies [] (s.bootOrder answers)).2 = false) :
    (s.bootFlash answers).2 = false ∧ (s.bootFlash answers).1.rd Reg.BOOT_STAT_COPY = 2 := by
  unfold State.bootFlash
  extract_lets order r
  rw [if_neg (by rw [h]; decide)]
  exact ⟨rfl, (State.rd_wr_ne _ _ _ _ (by decide)).trans (State.rd_wr_lt (by decide))⟩

theorem State.mem_bootOrder {answers : Bool} (h : c ∈ s.bootOrder answers) : c < 2 := by
  have hlist : s.bootOrder answers = [1, 0] ∨ s.bootOrder answers = (upTo 2).filter (fun c => s.copyHeader c answers == 0) := by
    unfold State.bootOrder
    extract_lets ok d
    split
    · exact .inl rfl
    · exact .inr rfl
  rcases hlist with hl | hl
  · rw [hl] at h
    simp only [List.mem_cons, List.not_mem_nil, or_false] at h
    omega
  · rw [hl] at h
    exact List.mem_range.mp (List.mem_filter.mp h).1

/-- A copy that passes after those in `l` were tried: COPY and SIG_OK are its own. -/
theorem State.bootTried_copy (hc : c < 2) {tried : List (Nat × Rej)} :
    ((u.wrs [(Reg.BOOT_STAT_COPY, c), (Reg.BOOT_STAT_SIG_OK, b2n sig)]).bootTried tried).rd Reg.BOOT_STAT_COPY = c ∧
      ((u.wrs [(Reg.BOOT_STAT_COPY, c), (Reg.BOOT_STAT_SIG_OK, b2n sig)]).bootTried tried).rd Reg.BOOT_STAT_SIG_OK = b2n sig := by
  rw [Touches.bootTried.rd (by decide), Touches.bootTried.rd (by decide)]
  simp (disch := decide) only [State.wrs, State.rd_wr_ne, State.rd_wr_same]
  refine ⟨Nat.mod_eq_of_lt (show c < 4 by omega), ?_⟩
  cases sig <;> rfl

/-- The record of a copy that was rejected. -/
theorem State.bootTried_rej : (s.bootTried [(c, r)]).rd Reg.BOOT_STAT_ALT = 1 ∧ (s.bootTried [(c, r)]).rdAt Reg.BOOT_REJ_REASON c = r.reason % 16 ∧
    (s.bootTried [(c, r)]).rdAt Reg.BOOT_REJ_INDEX c = r.index % 256 ∧ (s.bootTried [(c, r)]).rdAt Reg.BOOT_REJ_TYPE c = r.typ % 65536 := by
  have htried : s.bootTried [(c, r)] = (s.bootRej c r).wr Reg.BOOT_STAT_ALT 1 := rfl
  have hkeep : ∀ f : Fld, f.id ≠ Reg.BOOT_STAT_ALT.id → (s.bootTried [(c, r)]).rdAt f c = (s.bootRej c r).rdAt f c := fun f hf => by
    rw [htried]
    exact State.rdAt_wrAt_id _ _ _ _ _ _ hf
  refine ⟨by rw [htried]; exact State.rd_wr_lt (by decide), ?_, ?_, ?_⟩
  all_goals
    rw [hkeep _ (by decide), State.bootRej]
    simp (disch := decide) only [State.wrsAt, State.rdAt_wrAt_id, State.rdAt_wrAt_same]
    rfl

theorem State.bootImage_flash (hstrap : env.straps.val ≠ 2) (hanswers : env.answers = true) : s.bootImage env = (s.bootStart env).bootFlash true := by
  rw [State.bootImage, if_neg hstrap, hanswers]

theorem exec_boot_first {rest : List Nat} (hboot : s.mode = mBoot) (hstrap : env.straps.val ≠ 2) (hanswers : env.answers = true)
    (horder : (s.bootStart env).bootOrder true = c :: rest) (hjudge : ((s.bootStart env).bootHeaders true).bootJudge c = .ok (u, sig)) :
    ∃ t, exec (.bootResetRelease env) s = .next t ∧ t.mode = strapMode env.straps.val ∧ t.rd Reg.BOOT_STAT_COPY = c ∧
      t.rd Reg.BOOT_STAT_SIG_OK = b2n sig ∧ t.on Hid.tickRun = false := by
  have hcopies := Leads.bootCopies_of_ok (tried := []) (l := rest) hjudge
  have hflash : (s.bootStart env).bootFlash true =
      ((u.wrs [(Reg.BOOT_STAT_COPY, c), (Reg.BOOT_STAT_SIG_OK, b2n sig)]).bootTried [], true) := by
    rw [State.bootFlash_passed (by rw [horder, hcopies]), horder, hcopies]
  obtain ⟨hcopy, hsig⟩ := State.bootTried_copy (u := u) (sig := sig) (tried := []) (State.mem_bootOrder (horder ▸ List.mem_cons_self))
  obtain ⟨t, ht, hmode, -, -, hrun, hkeep⟩ := exec_boot (env := env) hboot
  rw [State.bootImage_flash hstrap hanswers, hflash] at hmode hkeep
  exact ⟨t, ht, hmode, (hkeep _ (by decide) 0).trans hcopy, (hkeep _ (by decide) 0).trans hsig, hrun⟩

theorem exec_boot_second (hboot : s.mode = mBoot) (hstrap : env.straps.val ≠ 2) (hanswers : env.answers = true)
    (horder : (s.bootStart env).bootOrder true = [c, d]) (hreject : ((s.bootStart env).bootHeaders true).bootJudge c = .error r)
    (hjudge : ((s.bootStart env).bootHeaders true).bootJudge d = .ok (u, sig)) :
    ∃ t, exec (.bootResetRelease env) s = .next t ∧ t.mode = strapMode env.straps.val ∧ t.rd Reg.BOOT_STAT_COPY = d ∧
      t.rd Reg.BOOT_STAT_SIG_OK = b2n sig ∧ t.rd Reg.BOOT_STAT_ALT = 1 ∧ t.rdAt Reg.BOOT_REJ_REASON c = r.reason % 16 ∧
      t.rdAt Reg.BOOT_REJ_INDEX c = r.index % 256 ∧ t.rdAt Reg.BOOT_REJ_TYPE c = r.typ % 65536 ∧ t.on Hid.tickRun = false := by
  have hcopies : ((s.bootStart env).bootHeaders true).bootCopies [] [c, d] =
      ((u.wrs [(Reg.BOOT_STAT_COPY, d), (Reg.BOOT_STAT_SIG_OK, b2n sig)]).bootTried [(c, r)], true) := by
    rw [Leads.bootCopies_of_error hreject, Leads.bootCopies_of_ok hjudge]
    rfl
  have hflash : (s.bootStart env).bootFlash true =
      ((u.wrs [(Reg.BOOT_STAT_COPY, d), (Reg.BOOT_STAT_SIG_OK, b2n sig)]).bootTried [(c, r)], true) := by
    rw [State.bootFlash_passed (by rw [horder, hcopies]), horder, hcopies]
  obtain ⟨hcopy, hsig⟩ := State.bootTried_copy (u := u) (sig := sig) (tried := [(c, r)])
    (State.mem_bootOrder (horder ▸ List.mem_cons_of_mem _ List.mem_cons_self))
  obtain ⟨halt, hreason, hindex, htype⟩ := State.bootTried_rej
    (s := u.wrs [(Reg.BOOT_STAT_COPY, d), (Reg.BOOT_STAT_SIG_OK, b2n sig)]) (c := c) (r := r)
  obtain ⟨t, ht, hmode, -, -, hrun, hkeep⟩ := exec_boot (env := env) hboot
  rw [State.bootImage_flash hstrap hanswers, hflash] at hmode hkeep
  exact ⟨t, ht, hmode, (hkeep _ (by decide) 0).trans hcopy, (hkeep _ (by decide) 0).trans hsig, (hkeep _ (by decide) 0).trans halt,
    (hkeep _ (by decide) c).trans hreason, (hkeep _ (by decide) c).trans hindex, (hkeep _ (by decide) c).trans htype, hrun⟩

/-- A boot whose copies all fail ends in SAFE. -/
theorem exec_boot_none {answers : Bool} (hboot : s.mode = mBoot) (hstrap : env.straps.val ≠ 2) (hanswers : env.answers = answers)
    (hall : ∀ c ∈ (s.bootStart env).bootOrder answers, ∃ r, ((s.bootStart env).bootHeaders answers).bootJudge c = .error r) :
    ∃ t, exec (.bootResetRelease env) s = .next t ∧ t.mode = mSafe ∧ t.rd Reg.BOOT_STAT_COPY = 2 ∧ t.rd Hid.resetActive = 0 ∧
      t.rd Reg.BOOT_STAT_STRAP = env.straps.val := by
  obtain ⟨hfail, hcopy⟩ := State.bootFlash_none (State.bootCopies_none (tried := []) hall)
  have himage : s.bootImage env = (s.bootStart env).bootFlash answers := by rw [State.bootImage, if_neg hstrap, hanswers]
  obtain ⟨t, ht, hmode, hreset, hstraps, -, hkeep⟩ := exec_boot (env := env) hboot
  rw [himage, hfail] at hmode
  rw [himage] at hkeep
  exact ⟨t, ht, hmode, (hkeep _ (by decide) 0).trans hcopy, hreset, hstraps⟩

theorem exec_boot_eeprom (hboot : s.mode = mBoot) (hstrap : env.straps.val = 2) : ∃ t, exec (.bootResetRelease env) s = .next t ∧
    t.mode = bootMode env ((s.bootStart env).izReject (s.bootStart env).eeprom (env.answers && eepAnswers env.acks)).isNone ∧
    t.rd Reg.BOOT_STAT_COPY = (if ((s.bootStart env).izReject (s.bootStart env).eeprom (env.answers && eepAnswers env.acks)).isNone = true then 3 else 2) ∧
    t.rd Hid.resetActive = 0 ∧ t.rd Reg.BOOT_STAT_STRAP = env.straps.val ∧ t.on Hid.tickRun = false := by
  have himage : s.bootImage env = (s.bootStart env).bootEeprom (env.answers && eepAnswers env.acks) := if_pos hstrap
  obtain ⟨-, hpassed, hcopy⟩ := State.bootEeprom_shows (s := s.bootStart env) (answers := env.answers && eepAnswers env.acks)
  obtain ⟨t, ht, hmode, hreset, hstraps, hrun, hkeep⟩ := exec_boot (env := env) hboot
  rw [himage] at hmode hkeep
  exact ⟨t, ht, by rw [hmode, hpassed], (hkeep _ (by decide) 0).trans hcopy, hreset, hstraps, hrun⟩

/-- Settles O14: without an answering memory no header is eligible, and no EEPROM image passes. -/
theorem bootWithoutAnImageEndsInSafe : Obligations.BootWithoutAnImageEndsInSafe := by
  intro s env hboot hanswers
  by_cases hstrap : env.straps.val = 2
  · have hreject : ((s.bootStart env).izReject (s.bootStart env).eeprom (env.answers && eepAnswers env.acks)).isNone = false := by
      rw [hanswers, Bool.false_and]
      rfl
    obtain ⟨t, ht, hmode, hcopy, hreset, hstraps, -⟩ := exec_boot_eeprom (env := env) hboot hstrap
    rw [hreject] at hmode hcopy
    exact ⟨t, ht, hmode, hcopy, hreset, hstraps⟩
  · have horder : (s.bootStart env).bootOrder false = [] := rfl
    exact exec_boot_none hboot hstrap hanswers (by rw [horder]; exact fun c hc => absurd hc List.not_mem_nil)

/-! The order of the copies (R313). -/

theorem headerReason_iff {m : List Host.Cell} {base : Nat} : headerReason m base = 0 ↔ eligible m base = true := by
  have hcodes : rMagic ≠ 0 ∧ rFormat ≠ 0 ∧ rLength ≠ 0 := by decide
  unfold headerReason eligible
  by_cases hmagic : Memory.word m base = 0x4B5A4931 <;> by_cases hformat : Memory.word m (base + 4) = 0x0100 <;>
    simp [hmagic, hformat, hcodes]

theorem State.copyHeader_beq : (s.copyHeader c true == 0) = eligible s.flash (copyBase c) := by
  rw [Bool.eq_iff_iff, beq_iff_eq]
  exact headerReason_iff

/-- The copies to try, by the two headers and their numbers. -/
theorem State.bootOrder_eq : s.bootOrder true =
    if (eligible s.flash 0 && eligible s.flash 0x080000) = true then
      (if 1 ≤ (Memory.word s.flash 0x080008 + 2 ^ 32 - Memory.word s.flash 8) % 2 ^ 32 ∧
        (Memory.word s.flash 0x080008 + 2 ^ 32 - Memory.word s.flash 8) % 2 ^ 32 < 2 ^ 31 then [1, 0] else [0, 1])
    else (if eligible s.flash 0 = true then [0] else []) ++ (if eligible s.flash 0x080000 = true then [1] else []) := by
  have hbases : copyBase 0 = 0 ∧ copyBase 1 = 0x080000 := by decide
  have hseq : s.copySeq 0 = Memory.word s.flash 8 ∧ s.copySeq 1 = Memory.word s.flash 0x080008 := by
    simp only [State.copySeq, hbases, Nat.zero_add, Nat.reduceAdd, and_self]
  have hok : (upTo 2).filter (fun c => s.copyHeader c true == 0) =
      (if eligible s.flash 0 = true then [0] else []) ++ (if eligible s.flash 0x080000 = true then [1] else []) := by
    simp only [upTo, List.range_succ, List.range_zero, List.nil_append, List.filter_append, List.filter_cons, List.filter_nil, State.copyHeader_beq,
      hbases]
  rw [State.bootOrder, hok, hseq.1, hseq.2]
  cases eligible s.flash 0 <;> cases eligible s.flash 0x080000 <;> simp

/-- Settles O15: the outcome of the image decides the mode; the order and the verdicts of the copies decide the outcome. -/
theorem bootLoadsTheCopyThatPasses : Obligations.BootLoadsTheCopyThatPasses := by
  refine ⟨fun s env hboot => ?_, fun s env c rest u sig => exec_boot_first, fun s env c d r u sig => exec_boot_second,
    fun s env l hboot hstrap hanswers horder hall => ?_, fun s env hboot hstrap hnone => ?_, fun s hA hB => ?_, fun s hB => ?_, fun s hA => ?_⟩
  · obtain ⟨t, ht, hmode, hreset, hstraps, hrun, -⟩ := exec_boot (env := env) hboot
    refine ⟨t, ht, ?_, hreset, hstraps, hrun⟩
    rw [hmode, bootMode]
    split
    · exact .inr rfl
    · exact .inl rfl
  · obtain ⟨t, ht, hmode, hcopy, -⟩ := exec_boot_none hboot hstrap hanswers (horder ▸ hall)
    exact ⟨t, ht, hmode, hcopy⟩
  · obtain ⟨t, ht, hmode, hcopy, -, -, hrun⟩ := exec_boot_eeprom (env := env) hboot hstrap
    rw [hnone] at hmode hcopy
    refine ⟨t, ht, hmode.trans ?_, hcopy, hrun⟩
    simp [bootMode, strapMode, hstrap]
  · simp only [State.bootOrder_eq, hA, hB, Bool.and_self, if_true]
  · rw [State.bootOrder_eq, hB, Bool.and_false]
    simp
  · rw [State.bootOrder_eq, hA, Bool.false_and]
    simp

end Sys2Proof.Machine
end

section
/-! BACnet/SC: an attempt, the loss of a connection, heartbeats and the key (R361 to R364). -/

namespace Sys2Proof.Machine

open Sys2Proof (ScTry HubChain)

variable {s t u : State} {k c : Nat} {a b : ScTry} {chain : HubChain}

namespace Touches

theorem scReach : Touches [.net] [Reg.MEM_ERR_MAC] s (s.scReach k).2 := by
  unfold State.scReach
  split
  · split
    · exact .of (by decide) (refl s)
    · exact .of (by decide) (refl s)
    · exact .of (by decide) (branch_snd (x := (false, s)) (refl s) tx)
  · exact .of (by decide) (refl s)

theorem scAlert : Touches [] [Reg.NET_SC_STAT_ALERT, Reg.NET_FLAGS_FLAGS] s (s.scAlert c) := .of (by decide) (refl s).wr.count.or

/-- What an attempt writes before its outcome is known (R361, R362). -/
def tryFlds : List Fld := [Reg.MEM_ERR_MAC, Reg.NET_STAT_TIME_UNCHK, Reg.NET_SC_STAT_ALERT, Reg.NET_FLAGS_FLAGS]

theorem scTry : Touches [.net] tryFlds s (s.scTry k a).2 := by
  unfold State.scTry
  extract_lets r u
  have hr : Touches [.net] [Reg.MEM_ERR_MAC] s r.2 := scReach
  have hu : Touches [.net] [Reg.MEM_ERR_MAC, Reg.NET_STAT_TIME_UNCHK] s u :=
    .of (by decide) (((hr.andThen scFrames).andThen tx).andThen levelPulse).wr
  split
  · exact .of (by decide) hr
  · cases a with
    | unreachable => exact .of (by decide) (hr.andThen scFrames)
    | tlsAlert c => exact .of (by decide) (hu.andThen scAlert)
    | connected ch => exact .of (by decide) (branch_snd (hu.andThen tx) (hu.freeBelow.andThen scAlert))

theorem scWait : Touches [] [Reg.NET_SC_STAT_WAIT, Hid.scBackoff] s s.scWait := .of (by decide) (refl s).wr.wr

theorem scPrimary : Touches [] [Reg.NET_STAT_SC_STATE, Hid.scBackoff, Reg.NET_SC_STAT_WAIT] s s.scPrimary :=
  .of (by decide) (refl s).countIf.wr.wr.wr.count

/-- What an attempt's outcome writes (R364). -/
def attemptFlds : List Fld := tryFlds ++ [Reg.NET_STAT_SC_STATE, Hid.scBackoff, Reg.NET_SC_STAT_WAIT]

theorem scFailover : Touches [.net] attemptFlds s (s.scFailover a) :=
  .of (by decide) (branch ((scTry.wr.count.count.or).andThen scWait) (scTry.wr.andThen scWait))

/-- None of the fields `fs` is among `L`. -/
def spares (L fs : List Fld) : Bool := fs.all fun f => !(L.map Fld.id).contains f.id

variable {P : List Part} {L fs : List Fld} {f : Fld}

theorem rd_of_spares (h : Touches P L s t) (hL : spares L fs = true) (hf : f ∈ fs) : t.rd f = s.rd f :=
  h.rd (by simpa using List.all_eq_true.mp hL f hf)

/-- The fields that say whether the network runs (R383). -/
def netFlds : List Fld := [Reg.PWR_MODE_MODE, Hid.resetActive, Reg.CLK_STAT_FALLBACK, Reg.NET_STAT_PP_RUN, Reg.NET_CTRL_EN, Reg.NET_STAT_LINK]

theorem netOn (h : Touches P L s t) (hL : spares L netFlds = true) : t.netOn = s.netOn := by
  have hkeep : ∀ f ∈ netFlds, t.rd f = s.rd f := fun f hf => h.rd_of_spares hL hf
  simp only [netFlds, List.forall_mem_cons, List.not_mem_nil, false_implies, implies_true, and_true] at hkeep
  obtain ⟨hmode, hreset, hfall, hrun, -, -⟩ := hkeep
  simp only [State.netOn, State.native, State.operating, State.alive, State.mode, State.on, hmode, hreset, hfall, hrun]
  rfl

theorem netEn (h : Touches P L s t) (hL : Reg.NET_CTRL_EN.id ∉ L.map Fld.id) : t.netEn k = s.netEn k := congrArg (bit · k) (h.rd hL)

theorem t1l (h : Touches P L s t) (hL : spares L netFlds = true) : t.t1l = s.t1l := by
  have hkeep : ∀ f ∈ netFlds, t.rd f = s.rd f := fun f hf => h.rd_of_spares hL hf
  simp only [State.t1l, h.netOn hL, State.netEn, State.on, hkeep Reg.NET_CTRL_EN (by decide), hkeep Reg.NET_STAT_LINK (by decide)]

/-- The fields that say what time it is (R273). -/
def timeFlds : List Fld := [Reg.RTC_DATE_YEAR, Reg.RTC_DATE_MONTH, Reg.RTC_DATE_DAY, Reg.RTC_TIME_HOUR, Reg.RTC_TIME_MIN, Reg.RTC_TIME_SEC,
  Reg.RTC_STAT_OSF]

theorem chainOk (h : Touches P L s t) (hP : Part.netImg ∉ P) (hL : spares L timeFlds = true) : t.chainOk chain = s.chainOk chain := by
  have hkeep : ∀ f ∈ timeFlds, t.rd f = s.rd f := fun f hf => h.rd_of_spares hL hf
  have himg : t.netImg = s.netImg := h.parts .netImg hP
  simp only [timeFlds, List.forall_mem_cons, List.not_mem_nil, false_implies, implies_true, and_true] at hkeep
  obtain ⟨hyear, hmonth, hday, hhour, hmin, hsec, hosf⟩ := hkeep
  have hnow : t.today = s.today ∧ t.todSec = s.todSec := by simp only [State.today, State.todSec, hyear, hmonth, hday, hhour, hmin, hsec, and_self]
  have hset : t.on Reg.RTC_STAT_OSF = s.on Reg.RTC_STAT_OSF := by rw [State.on, hosf, State.on]
  rw [State.chainOk, State.chainOk, himg, hnow.1, hnow.2, hset]

end Touches

/-- A hub that answers is connected to where the controller accepts its chain. -/
theorem State.scTry_connected : (s.scTry k (.connected chain)).1 = ((s.scReach k).1 && s.chainOk chain) := by
  rw [State.scTry]
  cases (s.scReach k).1 <;> cases s.chainOk chain <;> simp

/-- A refused chain is flagged. -/
theorem State.scTry_refused (hreach : (s.scReach k).1 = true) (hchain : s.chainOk chain = false) :
    bit ((s.scTry k (.connected chain)).2.rd Reg.NET_FLAGS_FLAGS) 3 = true := by
  simp only [State.scTry, hreach, hchain, Bool.true_eq_false, Bool.false_eq_true, if_false]
  exact State.bit_or_same (n := 3) (by decide)

theorem State.scTry_unreachable : (s.scTry k .unreachable).1 = false := by
  rw [State.scTry]
  split <;> rfl

theorem State.scReach_address {ip : Nat} (ht1l : s.t1l = true) (hip : s.on Reg.NET_STAT_IP_OK = true)
    (hhub : s.netImg.hubs.getD k none = some (.address ip)) : (s.scReach k).1 = true := by
  simp only [State.scReach, ht1l, hip, hhub, Bool.and_self, if_true]

theorem State.scReach_name {n : List Nat} (ht1l : s.t1l = true) (hip : s.on Reg.NET_STAT_IP_OK = true)
    (hhub : s.netImg.hubs.getD k none = some (.name n)) (hdns : s.dnsServer ≠ 0) : (s.scReach k).1 = true := by
  simp only [State.scReach, ht1l, hip, hhub, hdns, Bool.and_self, if_true, if_false]

/-- The machine as an attempt begins. -/
def State.scBegin (s : State) : State := s.hush.wr Hid.scAlt 0

theorem Touches.scBegin : Touches [.net] [Hid.scAlt] s s.scBegin := hush.wr

theorem State.scBegin_t1l : s.scBegin.t1l = s.t1l := Touches.scBegin.t1l (by decide)

theorem State.scBegin_dns : s.scBegin.dnsServer = s.dnsServer := by
  rw [State.dnsServer, Touches.scBegin.rd (by decide), Touches.scBegin.rd (by decide)]
  rfl

theorem State.scBegin_address {ip : Nat} (ht1l : s.t1l = true) (hip : s.on Reg.NET_STAT_IP_OK = true)
    (hhub : s.netImg.hubs.getD k none = some (.address ip)) : (s.scBegin.scReach k).1 = true :=
  State.scReach_address (State.scBegin_t1l.trans ht1l) ((Touches.scBegin.on (by decide)).trans hip) hhub

theorem State.scBegin_name {n : List Nat} (ht1l : s.t1l = true) (hip : s.on Reg.NET_STAT_IP_OK = true)
    (hhub : s.netImg.hubs.getD k none = some (.name n)) (hdns : s.dnsServer ≠ 0) : (s.scBegin.scReach k).1 = true :=
  State.scReach_name (State.scBegin_t1l.trans ht1l) ((Touches.scBegin.on (by decide)).trans hip) hhub (by rw [State.scBegin_dns]; exact hdns)

theorem State.t1l_netOn (h : s.t1l = true) : s.netOn = true := by
  simp only [State.t1l, Bool.and_eq_true] at h
  exact h.1.1

/-- An attempt from the connecting state tries the primary, then the failover hub. -/
theorem exec_attempt (ht1l : s.t1l = true) (hon : s.on Hid.scOn = true) (hstate : s.rd Reg.NET_STAT_SC_STATE = 3)
    (halt : s.on Hid.scAlt = false) : exec (.scConnectAttempt a b) s =
      if (s.scBegin.scTry 0 a).1 = true then fin (s.scBegin.scTry 0 a).2.scPrimary else fin ((s.scBegin.scTry 0 a).2.scFailover b) := by
  have hwaits : s.scWaits = false := by rw [State.scWaits, hstate]; rfl
  change execScConnectAttempt a b s = _
  simp [execScConnectAttempt, State.t1l_netOn ht1l, hon, hstate, halt, hwaits, State.scBegin]
  rfl

theorem exec_attempt_primary (ht1l : s.t1l = true) (hon : s.on Hid.scOn = true) (hstate : s.rd Reg.NET_STAT_SC_STATE = 3)
    (halt : s.on Hid.scAlt = false) (hreach : (s.scBegin.scReach 0).1 = true) (hchain : s.chainOk chain = true) :
    ∃ t, exec (.scConnectAttempt (.connected chain) b) s = .next t ∧ t.rd Reg.NET_STAT_SC_STATE = 4 ∧ t.rd Reg.NET_SC_STAT_WAIT = 0 := by
  have hkept : s.scBegin.chainOk chain = true := (Touches.scBegin.chainOk (by decide) (by decide)).trans hchain
  rw [exec_attempt ht1l hon hstate halt, if_pos (by rw [State.scTry_connected, hreach, hkept]; rfl)]
  refine exists_fin ?_
  rw [State.evcEdge_rd, State.evcEdge_rd, State.scPrimary, State.count_rd, State.count_rd]
  simp (disch := decide) only [State.wrs, State.rd_wr_ne, State.rd_wr_same]
  exact ⟨rfl, rfl⟩

theorem exec_attempt_refused (ht1l : s.t1l = true) (hon : s.on Hid.scOn = true) (hstate : s.rd Reg.NET_STAT_SC_STATE = 3)
    (halt : s.on Hid.scAlt = false) (hreach : (s.scBegin.scReach 0).1 = true) (hchain : s.chainOk chain = false) :
    ∃ t, exec (.scConnectAttempt (.connected chain) .unreachable) s = .next t ∧ t.rd Reg.NET_STAT_SC_STATE = 6 ∧
      bit (t.rd Reg.NET_FLAGS_FLAGS) 3 = true := by
  have hkept : s.scBegin.chainOk chain = false := (Touches.scBegin.chainOk (by decide) (by decide)).trans hchain
  have hflag := State.scTry_refused hreach hkept
  rw [exec_attempt ht1l hon hstate halt, if_neg (by rw [State.scTry_connected, hkept, Bool.and_false]; decide)]
  generalize (s.scBegin.scTry 0 (.connected chain)).2 = u at hflag ⊢
  have hwait : u.scFailover .unreachable = ((u.scTry 1 .unreachable).2.wr Reg.NET_STAT_SC_STATE 6).scWait := by
    rw [State.scFailover, State.scTry_unreachable, if_neg Bool.false_ne_true]
  have hleft : Touches [.net] [Reg.MEM_ERR_MAC] u (u.scTry 1 .unreachable).2 := by
    rw [State.scTry]
    exact .of (by decide) (.branch_snd .scReach (Touches.scReach.andThen .scFrames))
  refine exists_fin ?_
  rw [State.evcEdge_rd, State.evcEdge_rd, hwait, Touches.scWait.rd (by decide), (hleft.wr.andThen .scWait).rd (by decide), State.rd_wr_same]
  exact ⟨rfl, hflag⟩

theorem exec_connectionLost (hon : s.netOn = true) (hstate : s.rd Reg.NET_STAT_SC_STATE = 4) :
    ∃ t, exec .scConnectionLost s = .next t ∧ t.rd Reg.NET_STAT_SC_STATE = 3 ∧ t.rd Hid.scAlt = 1 := by
  have hup : s.scUp = true := by rw [State.scUp, hstate]; rfl
  have he : exec .scConnectionLost s = fin (s.hush.scClose.wr Hid.scAlt 1) := by
    refine (if_neg (by simp [hon, hup])).trans ?_
    rw [hstate]
    rfl
  have hclose : s.hush.scClose.rd Reg.NET_STAT_SC_STATE = 3 := by
    rw [State.scClose, if_pos (.inl hstate), State.count_rd, Touches.scFrames.rd (by decide)]
    simp (disch := decide) only [State.wrs, State.rd_wr_ne, State.rd_wr_same]
    rfl
  rw [he]
  refine exists_fin ?_
  rw [State.evcEdge_rd, State.evcEdge_rd, State.rd_wr_ne _ _ _ _ (by decide), State.rd_wr_same]
  exact ⟨hclose, rfl⟩

theorem exec_heartbeatDue (hon : s.netOn = true) (hup : s.scUp = true) (hbad : s.net.txBad = false) :
    ∃ t, exec .scHeartbeatDue s = .next t ∧ t.net.out = [.send .heartbeat] ∧ t.regs = s.regs := by
  have he : exec .scHeartbeatDue s = fin (((s.hush.levelPulse 0xBE).scFrames.tx [.heartbeat]).count 0xBD) := if_neg (by simp [hon, hup])
  have hidle : EvcOnly s.hush (s.hush.levelPulse 0xBE).scFrames := (State.levelPulse_evcOnly _ _).trans State.scFrames_evcOnly
  have hgood : (s.hush.levelPulse 0xBE).scFrames.net.txBad = false := by rw [hidle.net]; exact hbad
  rw [he]
  refine exists_fin ?_
  rw [State.evcEdge_net, State.evcEdge_regs, (State.count_evcOnly _ _).net, (State.count_evcOnly _ _).regs, State.tx_out hgood,
    State.tx_regs hgood, hidle.net, hidle.regs]
  exact ⟨rfl, rfl⟩

/-- The pair that is made from the operand. -/
def keyPair (random : Nat) : Nat × Nat := (gPoint.times (1 + random % (n256 - 1))).affine

theorem exec_keyGeneration {random : Nat} (hon : s.netOn = true) (hen : s.netEn 2 = true) (hkey : s.otp.keySet = false) :
    ∃ t, exec (.scKeyGeneration random) s = .next t ∧ t.otp = { s.otp with
      keySet := true, priv := 1 + random % (n256 - 1), pub := toWords 8 (keyPair random).1 ++ toWords 8 (keyPair random).2 } := by
  refine ⟨_, if_neg (by simp [hon, hen, hkey]), ?_⟩
  rw [State.evcEdge_otp, Touches.scInit.parts .otp (by decide)]
  rfl

/-- Settles O27, by the outcome of the attempt at the primary and at the failover hub. -/
theorem secureConnect : Obligations.SecureConnect := by
  refine ⟨fun s ip chain fo ht1l hip hhub hon hstate halt hchain => ?_, fun s n chain fo ht1l hip hhub hdns hon hstate halt hchain => ?_,
    fun s ip chain ht1l hip hhub hon hstate halt hchain => ?_, fun s => exec_connectionLost, fun s => exec_heartbeatDue,
    fun s random hon hen hkey => ?_⟩
  · exact exec_attempt_primary ht1l hon hstate halt (State.scBegin_address ht1l hip hhub) hchain
  · exact exec_attempt_primary ht1l hon hstate halt (State.scBegin_name ht1l hip hhub hdns) hchain
  · exact exec_attempt_refused ht1l hon hstate halt (State.scBegin_address ht1l hip hhub) hchain
  · obtain ⟨t, ht, hotp⟩ := exec_keyGeneration (random := random) hon hen hkey
    exact ⟨t, ht, by rw [hotp], by rw [hotp], by rw [hotp]; rfl, by rw [hotp]⟩

end Sys2Proof.Machine
end

section
/-! The MS/TP node and the supervision of the network (R366, R382). -/

namespace Sys2Proof.Machine

open Sys2Proof (MstpFrame)

variable {s t : State} {b : Fin 2} {k port : Nat} {l : List NetOut} {m : List NetOut × Option Nat} {ms : List (List NetOut × Option Nat)}

theorem State.say_say {l₁ l₂ : List NetOut} : (s.say l₁).say l₂ = s.say (l₁ ++ l₂) := by simp [State.say]

/-- A frame of a bus goes out, whatever the MAC's buffers hold. -/
theorem State.sendFrame_bus (hport : 2 ≤ port) : EvcOnly (s.say m.1) (s.sendFrame port m) := by
  have hopen : s.blocked port = false := by simp [State.blocked, show ¬port ≤ 1 by omega]
  rw [State.sendFrame, hopen, if_neg Bool.false_ne_true]
  cases m.2 with
  | none => exact State.put_evcOnly
  | some c => exact ((State.count_evcOnly s c).say).trans State.put_evcOnly

theorem State.sendFrames_bus (hport : 2 ≤ port) :
    EvcOnly (s.say (ms.flatMap Prod.fst)) (s.each ms (fun t m => t.sendFrame port m)) := by
  induction ms generalizing s with
  | nil => simp [State.each, State.say, EvcOnly]
  | cons m ms ih =>
    have hrest := ih (s := s.sendFrame port m)
    have hfirst := (State.sendFrame_bus (s := s) (m := m) hport).say (l := ms.flatMap Prod.fst)
    rw [State.say_say] at hfirst
    exact hfirst.trans hrest

/-- The node sends as many of the frames that wait as it may with one token. -/
theorem State.tokenSend_net : (s.tokenSend k).net = { s.net with
    out := s.net.out ++ (s.net.queue.take (s.rdAt Reg.BUS_MSTP_MAX_INFO k)).flatMap Prod.fst
    queue := s.net.queue.drop (s.rdAt Reg.BUS_MSTP_MAX_INFO k) } := by
  rw [State.tokenSend, (State.sendFrames_bus (by omega)).net]
  rfl

theorem Touches.tokenSend : Touches [.net] [Reg.MEM_ERR_MAC] s (s.tokenSend k) := .of (by decide) ((refl s).setNet.each fun _ _ => sendFrame)

theorem exec_token (hon : s.busOn b.val 1 = true) :
    ∃ t, exec (.mstpFrame b .token) s = .next t ∧ t.rdAt Reg.BUS_STAT_STATE b.val = 2 ∧ t.rdAt Reg.BUS_STAT_TOKEN_AGE b.val = 0 ∧
      t.net.out = (s.net.queue.take (s.rdAt Reg.BUS_MSTP_MAX_INFO b.val)).flatMap (fun m => m.1) ∧
      t.net.queue = s.net.queue.drop (s.rdAt Reg.BUS_MSTP_MAX_INFO b.val) := by
  obtain ⟨v, hv⟩ : ∃ v, v = (s.hush.wrsAt b.val [(Reg.BUS_STAT_STATE, 2), (Reg.BUS_STAT_TOKEN_AGE, 0)]).count 0xC7 := ⟨_, rfl⟩
  have he : exec (.mstpFrame b .token) s = fin (v.tokenSend b.val) := by
    change execMstpFrame b .token s = _
    simp [execMstpFrame, hon, ← hv]
  have hset : v.rdAt Reg.BUS_STAT_STATE b.val = 2 ∧ v.rdAt Reg.BUS_STAT_TOKEN_AGE b.val = 0 := by
    rw [hv, State.count_rdAt, State.count_rdAt, State.wrsAt, State.wrsAt, State.wrsAt, State.rdAt_wrAt_id _ _ _ _ _ _ (by decide),
      State.rdAt_wrAt_same, State.rdAt_wrAt_same]
    exact ⟨rfl, rfl⟩
  have hkept : Touches [.net] [Reg.BUS_STAT_STATE, Reg.BUS_STAT_TOKEN_AGE] s v := hv ▸ .of (by decide) (Touches.hush.wrsAt.count)
  have hmax : v.rdAt Reg.BUS_MSTP_MAX_INFO b.val = s.rdAt Reg.BUS_MSTP_MAX_INFO b.val := hkept.rdAt (by decide) _
  have hnet : v.net = s.hush.net := by rw [hv, (State.count_evcOnly _ _).net]; rfl
  rw [he]
  refine exists_fin ?_
  rw [State.evcEdge_rdAt, State.evcEdge_rdAt, State.evcEdge_net, Touches.tokenSend.rdAt (by decide), Touches.tokenSend.rdAt (by decide),
    State.tokenSend_net, hmax, hnet]
  exact ⟨hset.1, hset.2, rfl, rfl⟩

theorem exec_tokenUsed (hon : s.busOn b.val 1 = true) (hholds : s.rdAt Reg.BUS_STAT_STATE b.val = 2) :
    ∃ t, exec (.mstpFrame b .tokenUsed) s = .next t ∧ t.rdAt Reg.BUS_STAT_STATE b.val = 1 ∧ t.net.out = [.send .passToken] := by
  have he : exec (.mstpFrame b .tokenUsed) s = fin (s.hush.tokenPass b.val) := by
    change execMstpFrame b .tokenUsed s = _
    simp [execMstpFrame, hon, hholds]
  rw [he]
  refine exists_fin ?_
  rw [State.evcEdge_rdAt, State.evcEdge_net]
  exact ⟨State.rdAt_wrAt_same s.hush Reg.BUS_STAT_STATE b.val 1, rfl⟩

theorem exec_noToken (hon : s.busOn b.val 1 = true) :
    ∃ t, exec (.mstpNoToken b) s = .next t ∧ t.rdAt Reg.BUS_STAT_STATE b.val = 4 ∧
      bit (t.rdAt Reg.BUS_FLAGS_FLAGS b.val) 3 = true ∧ t.net.out = [.send .pollForMaster] := by
  have he : exec (.mstpNoToken b) s = fin (((s.hush.busFlag b.val 3).wrAt Reg.BUS_STAT_STATE b.val 4).say [.send .pollForMaster]) :=
    if_neg (by simp [hon])
  have hflag : bit ((s.hush.busFlag b.val 3).rdAt Reg.BUS_FLAGS_FLAGS b.val) 3 = true := by
    rw [State.busFlag, State.orAt, State.rdAt_wrAt_same, bit_eq_testBit, Nat.testBit_mod_two_pow, Nat.testBit_or, Nat.testBit_two_pow_self]
    simp [Reg.BUS_FLAGS_FLAGS]
  rw [he]
  refine exists_fin ?_
  rw [State.evcEdge_rdAt, State.evcEdge_rdAt, State.evcEdge_net]
  refine ⟨State.rdAt_wrAt_same (s.hush.busFlag b.val 3) Reg.BUS_STAT_STATE b.val 4, ?_, rfl⟩
  exact (congrArg (bit · 3) (State.rdAt_wrAt_id (s.hush.busFlag b.val 3) Reg.BUS_STAT_STATE Reg.BUS_FLAGS_FLAGS b.val b.val 4 (by decide))).trans hflag

theorem exec_netSupervisionExpiry (hleft : s.rd Reg.NET_SUP_LEFT_LEFT ≤ 1) (hen : s.on Reg.NET_SUP_SUP_EN = true)
    (hlost : s.on Reg.PWR_STAT_NET_LOST = false) (hnative : s.native = true) (halive : s.alive = true) :
    ∃ t, exec .netSupervisionExpiry s = .next t ∧ t.rd Reg.PWR_STAT_NET_LOST = 1 ∧ t.rd Reg.NET_SUP_LEFT_LEFT = 0 := by
  have he : exec .netSupervisionExpiry s = fin ((s.wrs [(Reg.NET_SUP_LEFT_LEFT, 0), (Reg.PWR_STAT_NET_LOST, 1)]).count 0xCE) :=
    if_neg (by simp [hen, hlost, hnative, halive]; omega)
  rw [he]
  refine exists_fin ?_
  rw [State.evcEdge_rd, State.evcEdge_rd, State.count_rd, State.count_rd]
  simp (disch := decide) only [State.wrs, State.rd_wr_ne, State.rd_wr_same]
  exact ⟨rfl, rfl⟩

/-- Settles O28: each clause is what one command of the bus or of the supervision sets and sends. -/
theorem mstpAndSupervision : Obligations.MstpAndSupervision :=
  ⟨fun _ _ => exec_token, fun _ _ => exec_tokenUsed, fun _ _ => exec_noToken, fun _ => exec_netSupervisionExpiry⟩

end Sys2Proof.Machine
end

section
/-! The Modbus server (R367, R384). -/

namespace Sys2Proof.Machine

variable {s t u : State} {b : Fin 2} {a : Fin 256} {k r v n z code : Nat} {l : List NetOut}

/-- The machine as it takes a request addressed to it: nothing said, the bus heard, supervision served (R382). -/
def State.mbTaken (s : State) (k : Nat) : State := ((s.hush).wrAt Reg.BUS_STAT_TOKEN_AGE k 0).supMessage (2 + k)

namespace Touches

theorem supMessage : Touches [] [Reg.NET_SUP_LEFT_LEFT, Hid.supAge, Reg.PWR_STAT_NET_LOST] s (s.supMessage n) :=
  .of (by decide) (branch (refl s).wr.wr.wr.count (refl s))

/-- What a request to the server writes as it arrives. -/
def servedFlds : List Fld := [Reg.BUS_STAT_TOKEN_AGE, Reg.NET_SUP_LEFT_LEFT, Hid.supAge, Reg.PWR_STAT_NET_LOST]

theorem mbTaken_of_hush : Touches [] servedFlds s.hush (s.mbTaken k) := .of (by decide) ((refl s.hush).wrAt.andThen supMessage)

theorem mbTaken : Touches [.net] servedFlds s (s.mbTaken k) := .of (by decide) (hush.andThen mbTaken_of_hush)

theorem mbExc : Touches [.net] [] s (s.mbExc code) := .of (by decide) (refl s).count.count.say

theorem mbGood : Touches [.net] [] s (s.mbGood l) := .of (by decide) (refl s).count.say

end Touches

theorem State.mbTaken_net : (s.mbTaken k).net = s.hush.net := Touches.mbTaken_of_hush.parts .net (by decide)

theorem State.mbTaken_out : (s.mbTaken k).net.out = [] := by rw [State.mbTaken_net]; rfl

theorem State.mbServe_taken {act quiet : State → State} (hon : s.busOn k 2 = true) (haddr : n = s.rdAt Reg.BUS_CFG_ADDR k) :
    s.mbServe k n act quiet = act (s.mbTaken k) := by
  rw [State.mbServe, if_neg (by simp [hon]), if_pos haddr, State.mbTaken]

theorem State.mbExc_out : (s.mbExc code).net.out = s.net.out ++ [.exception code] := by
  rw [State.mbExc, State.say, (((State.count_evcOnly s 0xCB).trans (State.count_evcOnly _ 0xCA))).net]

theorem State.mbGood_out : (s.mbGood l).net.out = s.net.out ++ l := by rw [State.mbGood, State.say, (State.count_evcOnly s 0xCA).net]

/-! Reads. -/

/-- A run of one register that the map has. -/
theorem mbSpanOk_one {input : Bool} : mbSpanOk input r 1 = (mbHas input r && !mbPair input r) := by
  have hparity : (r % 2 == 1) = !((r + 1) % 2 == 1) := by
    rcases Nat.mod_two_eq_zero_or_one r with h | h <;> simp [h, Nat.add_mod]
  simp only [mbSpanOk, upTo, List.range_one, List.all_cons, List.all_nil, Nat.add_zero, Nat.add_sub_cancel, hparity, Bool.and_true]
  cases mbPair input r <;> cases mbHas input r <;> simp

/-- A plain register that is read alone is answered with its value. -/
theorem State.mbReadReq_one {input : Bool} (hspan : mbSpanOk input r 1 = true)
    (hplain : (if input then mbInputCoach r else mbHoldingCoach r) = none) (hval : (if input then s.mbInput r else s.mbHolding r) = (v, s)) :
    s.mbReadReq input r 1 = s.mbGood [.regs [v]] := by
  have hcoaches : mbCoaches input r 1 = [] := by simp [mbCoaches, upTo, hplain]
  have hread : s.mbRead input r 1 = ([v], s) := by
    rw [State.mbRead]
    simp only [State.mbRead, Nat.add_zero, hval, List.nil_append]
  simp [State.mbReadReq, hspan, hcoaches, hread]

theorem State.mbHolding_zone (hz : z < 16) : s.mbHolding (0x0400 + z) = (((s.zoneArray z).getD 15 none).getD 0, s) := by
  have hnone : mbHoldingCoach (0x0400 + z) = none := if_neg (by omega)
  rw [State.mbHolding, hnone, if_neg (by omega), Nat.add_sub_cancel_left]

theorem exec_readHolding_zone {z : Fin 16} (hon : s.busOn b.val 2 = true) (haddr : a.val = s.rdAt Reg.BUS_CFG_ADDR b.val) :
    ∃ t, exec (.modbusReadHoldingRegisters b a (0x0400 + z.val) 1) s = .next t ∧
      t.net.out = [.regs [((s.zoneArray z.val).getD 15 none).getD 0]] := by
  have hspan : mbSpanOk false (0x0400 + z.val) 1 = true := by
    rw [mbSpanOk_one]
    simp [mbHas, mbPair]
    omega
  have hzone : (s.mbTaken b.val).zoneArray z.val = s.zoneArray z.val := by simp only [State.zoneArray, State.mbTaken_net, State.hush]
  have he : exec (.modbusReadHoldingRegisters b a (0x0400 + z.val) 1) s = fin ((s.mbTaken b.val).mbReadReq false (0x0400 + z.val) 1) :=
    congrArg fin (State.mbServe_taken hon haddr)
  have hnone : mbHoldingCoach (0x0400 + z.val) = none := if_neg (by omega)
  rw [he, State.mbReadReq_one hspan hnone (State.mbHolding_zone z.isLt)]
  refine exists_fin ?_
  rw [State.evcEdge_net, State.mbGood_out, State.mbTaken_out, hzone]
  rfl

theorem State.mbInput_value (hr : r < 64) : s.mbInput r = (s.rdAt Reg.UI_VALUE_VALUE r, s) := by
  have hnone : mbInputCoach r = none := by rw [mbInputCoach, if_neg (by omega), if_neg (by omega)]
  rw [State.mbInput, hnone]
  dsimp only
  rw [if_neg (by omega), if_pos (by omega), State.mbInputLow, if_pos hr]

theorem exec_readInput_value {i : Fin 64} (hon : s.busOn b.val 2 = true) (haddr : a.val = s.rdAt Reg.BUS_CFG_ADDR b.val) :
    ∃ t, exec (.modbusReadInputRegisters b a i.val 1) s = .next t ∧ t.net.out = [.regs [s.rdAt Reg.UI_VALUE_VALUE i.val]] := by
  have hspan : mbSpanOk true i.val 1 = true := by
    rw [mbSpanOk_one]
    simp [mbHas, mbPair]
    omega
  have hnone : mbInputCoach i.val = none := by rw [mbInputCoach, if_neg (by omega), if_neg (by omega)]
  have he : exec (.modbusReadInputRegisters b a i.val 1) s = fin ((s.mbTaken b.val).mbReadReq true i.val 1) :=
    congrArg fin (State.mbServe_taken hon haddr)
  rw [he, State.mbReadReq_one hspan hnone (State.mbInput_value i.isLt)]
  refine exists_fin ?_
  rw [State.evcEdge_net, State.mbGood_out, State.mbTaken_out, Touches.mbTaken.rdAt (by decide)]
  rfl

/-! Writes. -/

/-- A zone's force written and applied (R291). -/
theorem State.forceApply_shows (h1 : 1 ≤ v) (h4 : v ≤ 4) :
    ((s.wrAt Reg.ZONE_FORCE_FORCE z v).zoneApply z false).rdAt Reg.ZONE_FORCE_FORCE z = v ∧
      ((s.wrAt Reg.ZONE_FORCE_FORCE z v).zoneApply z false).rdAt Reg.ZONE_STATE_SET z = v - 1 := by
  have hforce : (s.wrAt Reg.ZONE_FORCE_FORCE z v).rdAt Reg.ZONE_FORCE_FORCE z = v :=
    (State.rdAt_wrAt_same ..).trans (Nat.mod_eq_of_lt (show v < 8 by omega))
  have hset : (s.wrAt Reg.ZONE_FORCE_FORCE z v).zoneApply z false = (s.wrAt Reg.ZONE_FORCE_FORCE z v).wrAt Reg.ZONE_STATE_SET z (v - 1) := by
    have hne : v ≠ 0 := by omega
    simp [State.zoneApply, hforce, hne, State.whenB]
  rw [hset]
  exact ⟨(State.rdAt_wrAt_id _ _ _ _ _ _ (by decide)).trans hforce, (State.rdAt_wrAt_same ..).trans (Nat.mod_eq_of_lt (show v - 1 < 4 by omega))⟩

/-- A value at priority 16 of a zone without any other forces the zone. -/
theorem State.zonePut_shows (h1 : 1 ≤ v) (h4 : v ≤ 4) (hfree : s.zoneArray z = List.replicate 16 none) :
    (s.zonePut z 16 (some v)).rdAt Reg.ZONE_FORCE_FORCE z = v ∧ (s.zonePut z 16 (some v)).rdAt Reg.ZONE_STATE_SET z = v - 1 := by
  have hforce : ((setAt (List.replicate 16 none) 15 (some v)).findSome? id).getD 0 = v := rfl
  rw [State.zonePut, hfree, hforce]
  exact State.forceApply_shows h1 h4

theorem State.zonePut_out {p : Option Nat} : (s.zonePut z 16 p).net.out = s.net.out := by
  rw [State.zonePut, Touches.zoneApply.parts .net (by decide)]
  rfl

theorem exec_writeSingle_zone {z : Fin 16} (hon : s.busOn b.val 2 = true) (haddr : a.val = s.rdAt Reg.BUS_CFG_ADDR b.val) (h1 : 1 ≤ v)
    (h4 : v ≤ 4) (hfree : s.zoneArray z.val = List.replicate 16 none) :
    ∃ t, exec (.modbusWriteSingleRegister b a (0x0400 + z.val) v) s = .next t ∧ t.net.out = [.ack] ∧
      t.rdAt Reg.ZONE_FORCE_FORCE z.val = v ∧ t.rdAt Reg.ZONE_STATE_SET z.val = v - 1 := by
  have hspan : mbSpanOk false (0x0400 + z.val) 1 = true := by
    rw [mbSpanOk_one]
    simp [mbHas, mbPair]
    omega
  have hzone : (s.mbTaken b.val).zoneArray z.val = List.replicate 16 none := by
    simp only [State.zoneArray, State.mbTaken_net, State.hush] at hfree ⊢
    exact hfree
  have hbad : ∀ u : State, u.mbWriteBad (0x0400 + z.val) v = 0 := fun u => by
    rw [State.mbWriteBad, mbHoldingCoach, if_neg (by omega)]
    dsimp only
    rw [if_neg (by omega), if_neg (by omega)]
  have hexc : ∀ u : State, u.mbWriteExc (0x0400 + z.val) [v] = 0 := fun u => by simp [State.mbWriteExc, hspan, upTo, hbad]
  have hstore : ∀ u : State, u.mbStore (0x0400 + z.val) [v] = u.zonePut z.val 16 (some v) := fun u => by
    rw [State.mbStore, if_pos (by omega), if_neg (by omega), Nat.add_sub_cancel_left]
  have he : exec (.modbusWriteSingleRegister b a (0x0400 + z.val) v) s =
      fin (((s.mbTaken b.val).zonePut z.val 16 (some v)).mbGood [.ack]) := by
    refine (congrArg fin (State.mbServe_taken hon haddr)).trans ?_
    rw [State.mbWriteReq, hexc, if_pos rfl, hstore]
  rw [he]
  refine exists_fin ?_
  rw [State.evcEdge_net, State.evcEdge_rdAt, State.evcEdge_rdAt, State.mbGood_out, State.zonePut_out, State.mbTaken_out,
    Touches.mbGood.rdAt (by decide), Touches.mbGood.rdAt (by decide)]
  exact ⟨rfl, State.zonePut_shows h1 h4 hzone⟩

theorem Touches.inGroup {P : List Part} {L : List Fld} (h : Touches P L s t) (hP : Part.rgn ∉ P) (hL : Reg.RGN_CTRL_STATE.id ∉ L.map Fld.id)
    (hT : Reg.RGN_CTRL_TYPE.id ∉ L.map Fld.id) : t.inGroup n = s.inGroup n := by
  have hrgn : t.rgn = s.rgn := h.parts .rgn hP
  simp only [State.inGroup, State.rgnHolds, h.rd hL, h.rd hT, hrgn]

/-- Both registers of a coach's pair. -/
theorem mbHoldingCoach_pair {c : Nat} (hc : c < 160) (hk : k < 2) : mbHoldingCoach (0x0200 + 2 * c + k) = some (c, 8) := by
  rw [mbHoldingCoach, if_pos (by omega), show (0x0200 + 2 * c + k - 0x0200) / 2 = c by omega]

theorem exec_writeMultiple_coach {c : Fin 160} {hi lo : Nat} (hon : s.busOn b.val 2 = true) (haddr : a.val = s.rdAt Reg.BUS_CFG_ADDR b.val)
    (hgroup : s.inGroup c.val = false) :
    ∃ t, exec (.modbusWriteMultipleRegisters b a (0x0200 + 2 * c.val) [hi, lo]) s = .next t ∧ t.net.out = [.ack] ∧
      t.cw c.val 8 = hi % 65536 * 65536 + lo % 65536 := by
  obtain ⟨u, hu⟩ : ∃ u, u = s.mbTaken b.val := ⟨_, rfl⟩
  have hopen : u.inGroup c.val = false := by rw [hu, Touches.mbTaken.inGroup (by decide) (by decide) (by decide)]; exact hgroup
  have hcoach : ∀ k < 2, mbHoldingCoach (0x0200 + 2 * c.val + k) = some (c.val, 8) := fun k => mbHoldingCoach_pair c.isLt
  have hspan : mbSpanOk false (0x0200 + 2 * c.val) 2 = true := by
    simp [mbSpanOk, upTo, List.range_succ, mbHas, mbPair]
    omega
  have hbad : ∀ k < 2, ∀ x, u.mbWriteBad (0x0200 + 2 * c.val + k) x = 0 := fun k hk x => by
    rw [State.mbWriteBad, hcoach k hk]
    simp [hopen]
  have hfirst : ∀ x, u.mbWriteBad (0x0200 + 2 * c.val) x = 0 := hbad 0 (by omega)
  have hpair : mbHoldingCoach (0x0200 + 2 * c.val) = some (c.val, 8) := hcoach 0 (by omega)
  have hexc : u.mbWriteExc (0x0200 + 2 * c.val) [hi, lo] = 0 := by
    simp [State.mbWriteExc, hspan, upTo, List.range_succ, hbad 1 (by omega), hfirst]
  have hstore : u.mbStore (0x0200 + 2 * c.val) [hi, lo] = u.wrCoach c.val 8 (hi % 65536 * 65536 + lo % 65536) := by
    rw [State.mbStore, if_neg (by omega)]
    simp only [hpair, State.mbStore]
  have he : exec (.modbusWriteMultipleRegisters b a (0x0200 + 2 * c.val) [hi, lo]) s =
      fin ((u.wrCoach c.val 8 (hi % 65536 * 65536 + lo % 65536)).mbGood [.ack]) := by
    refine (congrArg fin (State.mbServe_taken hon haddr)).trans ?_
    rw [State.mbWriteReq, ← hu, hexc, if_pos rfl, hstore]
  have hcw : ((u.wrCoach c.val 8 (hi % 65536 * 65536 + lo % 65536)).mbGood [.ack]).evcEdge.cw c.val 8 = hi % 65536 * 65536 + lo % 65536 := by
    rw [Touches.mbGood.evcEdge.cw (by decide) (by decide), State.wrCoach_cw_same]
    omega
  rw [he]
  refine exists_fin ⟨?_, hcw⟩
  rw [State.evcEdge_net, State.mbGood_out, show (u.wrCoach c.val 8 _).net.out = u.net.out from rfl, hu, State.mbTaken_out]
  rfl

theorem exec_readIdentification (hon : s.busOn b.val 2 = true) (haddr : a.val = s.rdAt Reg.BUS_CFG_ADDR b.val) :
    ∃ t, exec (.modbusReadDeviceIdentification b a) s = .next t ∧ t.net.out = [.ident s.mbIdent] := by
  have he : exec (.modbusReadDeviceIdentification b a) s = fin ((s.mbTaken b.val).mbGood [.ident (s.mbTaken b.val).mbIdent]) :=
    congrArg fin (State.mbServe_taken hon haddr)
  have hotp : (s.mbTaken b.val).otp = s.otp := Touches.mbTaken.parts .otp (by decide)
  rw [he]
  refine exists_fin ?_
  rw [State.evcEdge_net, State.mbGood_out, State.mbTaken_out, State.mbIdent, hotp]
  rfl

theorem exec_unsupportedFunction {f : Nat} (hon : s.busOn b.val 2 = true) (haddr : a.val = s.rdAt Reg.BUS_CFG_ADDR b.val) (hf : f ≤ 127)
    (hknown : mbKnown f = false) : ∃ t, exec (.modbusUnsupportedFunction b a f) s = .next t ∧ t.net.out = [.exception 1] := by
  have he : exec (.modbusUnsupportedFunction b a f) s = fin ((s.mbTaken b.val).mbExc 1) := by
    refine (if_neg ?_).trans (congrArg fin (State.mbServe_taken hon haddr))
    rw [Nat.mod_eq_of_lt (by omega), hknown]
    exact Bool.false_ne_true
  rw [he]
  refine exists_fin ?_
  rw [State.evcEdge_net, State.mbExc_out, State.mbTaken_out]
  rfl

end Sys2Proof.Machine
end

section
/-! The Modbus client (R368). -/

namespace Sys2Proof.Machine

open Sys2Proof (MbClient)

variable {s t u : State} {b : Fin 2} {e : Fin 16} {c : MbClient} {k n : Nat} {bad : Bool} {q : Int} {values : List Nat}

/-- The number of an entry of a bus. -/
def mbIndex (b : Fin 2) (e : Fin 16) : Nat := 16 * b.val + e.val

namespace Touches

theorem mbState : Touches [] [Reg.BUS_STAT_STATE] s (s.mbState k) := (refl s).wrAt

theorem mbFlag : Touches [] [Reg.NET_MB_CLI_MB_FAIL] s (s.mbFlag k) := (refl s).putBit

theorem mbAsk : Touches [.net] [] s (s.mbAsk c) := (refl s).say

/-- What the outcome of a poll writes (R368, R385). -/
def mbResultFlds : List Fld := [Hid.mbWait, Hid.mbTries, Hid.mbFail, Reg.NET_MB_CLI_MB_FAIL, Reg.BUS_STAT_STATE]

theorem mbResult : Touches [] mbResultFlds s (s.mbResult k bad) := .of (by decide) (((refl s).wrAt.wrAt.wrAt.andThen mbFlag).andThen mbState)

theorem avPut {i p : Nat} {v : Option Int} : Touches [.avs] [] s (s.avPut i p v) := (refl s).set [.avs] rfl rfl rfl

end Touches

theorem exec_clientPoll (hon : s.busOn b.val 3 = true) (hentry : s.mbEntry b.val e.val = some c)
    (hdue : s.onAt Hid.mbDue (16 * b.val + e.val) = true) :
    ∃ t, exec (.modbusClientPoll b e) s = .next t ∧ t.rdAt Hid.mbWait (16 * b.val + e.val) = 1 ∧
      t.net.out = [.send (.modbusPoll c.server c.function c.start (mbWidth c.format))] := by
  obtain ⟨v, hv⟩ : ∃ v, v = s.hush.wrsAt (16 * b.val + e.val) [(Hid.mbDue, 0), (Hid.mbWait, 1), (Hid.mbTries, 0)] := ⟨_, rfl⟩
  have he : exec (.modbusClientPoll b e) s = fin ((v.mbState b.val).mbAsk c) := by
    change execModbusClientPoll b e s = _
    simp [execModbusClientPoll, hentry, hon, hdue, ← hv]
  have hwait : v.rdAt Hid.mbWait (16 * b.val + e.val) = 1 := by
    rw [hv, State.wrsAt, State.wrsAt, State.wrsAt, State.wrsAt, State.rdAt_wrAt_id _ _ _ _ _ _ (by decide), State.rdAt_wrAt_same]
    rfl
  have hnet : v.net = s.hush.net := by rw [hv]; rfl
  rw [he]
  refine exists_fin ?_
  rw [State.evcEdge_rdAt, State.evcEdge_net, Touches.mbAsk.rdAt (by decide), Touches.mbState.rdAt (by decide)]
  exact ⟨hwait, by rw [State.mbAsk, State.say, Touches.mbState.parts .net (by decide), hnet]; rfl⟩

theorem exec_clientTimeout_first (hon : s.busOn b.val 3 = true) (hentry : s.mbEntry b.val e.val = some c)
    (hwait : s.onAt Hid.mbWait (16 * b.val + e.val) = true) (htries : s.onAt Hid.mbTries (16 * b.val + e.val) = false) :
    ∃ t, exec (.modbusClientTimeout b e) s = .next t ∧ t.rdAt Hid.mbTries (16 * b.val + e.val) = 1 ∧
      t.net.out = [.send (.modbusPoll c.server c.function c.start (mbWidth c.format))] := by
  have he : exec (.modbusClientTimeout b e) s = fin ((s.hush.wrAt Hid.mbTries (16 * b.val + e.val) 1).mbAsk c) := by
    change execModbusClientTimeout b e s = _
    simp [execModbusClientTimeout, hentry, hon, hwait, htries]
  rw [he]
  refine exists_fin ?_
  rw [State.evcEdge_rdAt, State.evcEdge_net, Touches.mbAsk.rdAt (by decide), State.rdAt_wrAt_same]
  exact ⟨rfl, rfl⟩

/-- The flag of an entry's number shows the failures of both buses. -/
theorem State.mbFlag_bit (he : n < 16) : bit ((s.mbFlag n).rd Reg.NET_MB_CLI_MB_FAIL) n = (s.onAt Hid.mbFail n || s.onAt Hid.mbFail (16 + n)) := by
  rw [State.mbFlag, State.putBit_bit he, if_pos rfl]

/-- What the outcome of a poll shows: the entry waits no more, and MB_FAIL shows its outcome and the other bus's. -/
theorem State.mbResult_shows : (s.mbResult (mbIndex b e) bad).rdAt Hid.mbWait (mbIndex b e) = 0 ∧
    bit ((s.mbResult (mbIndex b e) bad).rd Reg.NET_MB_CLI_MB_FAIL) e.val = (bad || s.onAt Hid.mbFail (mbIndex (1 - b) e)) := by
  obtain ⟨v, hv⟩ : ∃ v, v = s.wrsAt (mbIndex b e) [(Hid.mbWait, 0), (Hid.mbTries, 0), (Hid.mbFail, b2n bad)] := ⟨_, rfl⟩
  have hnum : mbIndex b e % 16 = e.val := by simp only [mbIndex]; omega
  have hwait : v.rdAt Hid.mbWait (mbIndex b e) = 0 := by
    rw [hv, State.wrsAt, State.wrsAt, State.wrsAt, State.wrsAt, State.rdAt_wrAt_id _ _ _ _ _ _ (by decide),
      State.rdAt_wrAt_id _ _ _ _ _ _ (by decide), State.rdAt_wrAt_same]
    rfl
  have hown : v.onAt Hid.mbFail (mbIndex b e) = bad := by
    rw [hv, State.onAt, State.wrsAt, State.wrsAt, State.wrsAt, State.wrsAt, State.rdAt_wrAt_same]
    cases bad <;> rfl
  have hother : v.onAt Hid.mbFail (mbIndex (1 - b) e) = s.onAt Hid.mbFail (mbIndex (1 - b) e) := by
    have hne : mbIndex (1 - b) e ≠ mbIndex b e := by
      simp only [mbIndex]
      fin_cases b <;> simp
    rw [hv, State.onAt, State.wrsAt, State.wrsAt, State.wrsAt, State.wrsAt, State.rdAt_wrAt_ne _ _ _ _ _ _ (by simp [hne]),
      State.rdAt_wrAt_id _ _ _ _ _ _ (by decide), State.rdAt_wrAt_id _ _ _ _ _ _ (by decide), State.onAt]
  rw [State.mbResult, ← hv, hnum, Touches.mbState.rdAt (by decide), Touches.mbFlag.rdAt (by decide), Touches.mbState.rd (by decide),
    State.mbFlag_bit e.isLt]
  refine ⟨hwait, ?_⟩
  rw [← hother, ← hown]
  fin_cases b
  · simp [mbIndex]
  · simp [mbIndex, Bool.or_comm]

theorem exec_clientReply (hon : s.busOn b.val 3 = true) (hentry : s.mbEntry b.val e.val = some c)
    (hwait : s.onAt Hid.mbWait (16 * b.val + e.val) = true) (hwidth : values.length = mbWidth c.format) (hscale : mbScale c values = some q) :
    ∃ t, exec (.modbusClientReply b e values) s = .next t ∧ (t.av c.target).prio.getD 15 none = some q ∧
      t.rdAt Hid.mbWait (16 * b.val + e.val) = 0 ∧
      bit (t.rd Reg.NET_MB_CLI_MB_FAIL) e.val = s.onAt Hid.mbFail (16 * (1 - b.val) + e.val) := by
  have he : exec (.modbusClientReply b e values) s = fin ((s.hush.mbResult (mbIndex b e) false).avPut c.target 16 (some q)) := by
    change execModbusClientReply b e values s = _
    simp [execModbusClientReply, hentry, hon, hwait, hwidth, hscale, mbIndex]
  have hother : mbIndex (1 - b) e = 16 * (1 - b.val) + e.val := by fin_cases b <;> rfl
  obtain ⟨hleft, hflag⟩ := State.mbResult_shows (s := s.hush) (b := b) (e := e) (bad := false)
  rw [he]
  refine exists_fin ?_
  rw [State.av_congr (State.evcEdge_avs _), State.evcEdge_rdAt, State.evcEdge_rd, Touches.avPut.rdAt (by decide), Touches.avPut.rd (by decide)]
  refine ⟨State.av_avPut (by decide), hleft, hflag.trans ?_⟩
  rw [hother]
  rfl

theorem exec_clientTimeout_second (hon : s.busOn b.val 3 = true) (hentry : s.mbEntry b.val e.val = some c)
    (hwait : s.onAt Hid.mbWait (16 * b.val + e.val) = true) (htries : s.onAt Hid.mbTries (16 * b.val + e.val) = true) :
    ∃ t, exec (.modbusClientTimeout b e) s = .next t ∧ t.rdAt Hid.mbWait (16 * b.val + e.val) = 0 ∧
      bit (t.rd Reg.NET_MB_CLI_MB_FAIL) e.val = true := by
  have he : exec (.modbusClientTimeout b e) s = fin ((s.hush.mbResult (mbIndex b e) true).count 0xCC) := by
    change execModbusClientTimeout b e s = _
    simp [execModbusClientTimeout, hentry, hon, hwait, htries, mbIndex]
  obtain ⟨hleft, hflag⟩ := State.mbResult_shows (s := s.hush) (b := b) (e := e) (bad := true)
  rw [he]
  refine exists_fin ?_
  rw [State.evcEdge_rdAt, State.evcEdge_rd, State.count_rdAt, State.count_rd]
  exact ⟨hleft, hflag⟩

/-- Settles O29: the server's requests one by one, then the client's poll, its reply and its two timeouts. -/
theorem modbusServerAndClient : Obligations.ModbusServerAndClient :=
  ⟨fun _ _ _ _ => exec_readHolding_zone, fun _ _ _ _ => exec_readInput_value, fun _ _ _ _ _ => exec_writeSingle_zone,
    fun _ _ _ _ _ _ => exec_writeMultiple_coach, fun _ _ _ => exec_readIdentification, fun _ _ _ _ => exec_unsupportedFunction,
    fun _ _ _ _ => exec_clientPoll, fun _ _ _ _ _ _ => exec_clientReply, fun _ _ _ _ => exec_clientTimeout_first,
    fun _ _ _ _ => exec_clientTimeout_second⟩

end Sys2Proof.Machine
end

section
/-! What the network has said (R366, R378, R386): messages and frames that wait are added, and the rest of what it keeps stands. -/

namespace Sys2Proof.Machine

open Sys2Proof (NetFrom BacObj EventTo WhoReq)

variable {s t u : State} {k n port cls : Nat} {l : List NetOut} {m : NetOut} {msg : List NetOut × Option Nat} {f : NetFrom}

/-- From `s` to `t` the network has added messages and frames that wait, and kept all else but the state of its buffers. -/
structure Spoke (s t : State) : Prop where
  out : ∃ a, t.net.out = s.net.out ++ a
  queue : ∃ q, t.net.queue = s.net.queue ++ q
  good : s.net.txBad = false → t.net.txBad = false
  rest : t.net = { s.net with out := t.net.out, queue := t.net.queue, txBad := t.net.txBad, postponed := t.net.postponed }

namespace Spoke

theorem of_net (h : t.net = s.net) : Spoke s t := ⟨⟨[], by simp [h]⟩, ⟨[], by simp [h]⟩, fun hg => h ▸ hg, by simp [h]⟩

theorem refl (s : State) : Spoke s s := of_net rfl

theorem trans (h : Spoke s t) (g : Spoke t u) : Spoke s u := by
  obtain ⟨a, ha⟩ := h.out
  obtain ⟨b, hb⟩ := g.out
  obtain ⟨p, hp⟩ := h.queue
  obtain ⟨q, hq⟩ := g.queue
  exact ⟨⟨a ++ b, by rw [hb, ha, List.append_assoc]⟩, ⟨p ++ q, by rw [hq, hp, List.append_assoc]⟩, fun hg => g.good (h.good hg),
    by rw [g.rest, h.rest]⟩

theorem mem (h : Spoke s t) (hm : m ∈ s.net.out) : m ∈ t.net.out := by
  obtain ⟨a, ha⟩ := h.out
  exact ha ▸ List.mem_append_left a hm

theorem say : Spoke s (s.say l) := ⟨⟨l, rfl⟩, ⟨[], (List.append_nil _).symm⟩, id, rfl⟩

theorem macErr : Spoke s s.macErr := ⟨⟨[], (List.append_nil _).symm⟩, ⟨[], (List.append_nil _).symm⟩, fun _ => State.macErr_good, rfl⟩

theorem of_evcOnly (h : EvcOnly s t) : Spoke s t := of_net h.net

theorem sendFrame : Spoke s (s.sendFrame port msg) := by
  by_cases hb : s.blocked port = true
  · rw [State.sendFrame, if_pos hb]
    exact macErr
  · rw [State.sendFrame, if_neg hb]
    cases msg.2 with
    | none => exact say.trans (of_evcOnly State.put_evcOnly)
    | some c => exact (of_evcOnly (State.count_evcOnly s c)).trans (say.trans (of_evcOnly State.put_evcOnly))

theorem waitToken : Spoke s (s.waitToken msg) := ⟨⟨[], (List.append_nil _).symm⟩, ⟨[msg], rfl⟩, id, rfl⟩

theorem replyFrame : Spoke s (s.replyFrame port msg) := by
  unfold State.replyFrame
  split
  · exact waitToken
  · exact sendFrame

theorem sendOwn : Spoke s (s.sendOwn port m) := by
  unfold State.sendOwn
  split
  · exact waitToken
  · exact sendFrame

theorem initiate : Spoke s (s.initiate m) := by
  unfold State.initiate
  split
  · exact refl s
  · exact sendOwn

theorem notify : Spoke s (s.notify m) := by
  have hfree : Spoke s (s.freeBelow 2).2 := of_net rfl
  unfold State.notify
  extract_lets f
  split
  · exact (hfree.trans initiate).trans initiate
  · exact hfree.trans initiate

theorem each {α : Type} {as : List α} {g : State → α → State} (hg : ∀ t a, Spoke t (g t a)) : Spoke s (s.each as g) := by
  induction as generalizing s with
  | nil => exact refl s
  | cons a as ih => exact (hg s a).trans ih

theorem notifyClass : Spoke s (s.notifyClass cls m) := by
  unfold State.notifyClass
  split
  · exact refl s
  · exact each fun _ _ => notify

theorem replyEnd : Spoke s (s.replyEnd f) := by
  unfold State.replyEnd
  split
  · exact refl s
  · exact ⟨⟨[], (List.append_nil _).symm⟩, ⟨[], (List.append_nil _).symm⟩, id, rfl⟩

theorem evcEdge : Spoke s s.evcEdge := of_net (State.evcEdge_net s)

theorem objs (h : Spoke s t) : t.net.objs = s.net.objs := by rw [h.rest]

theorem trends (h : Spoke s t) : t.net.trends = s.net.trends := by rw [h.rest]

theorem classes (h : Spoke s t) : t.net.classes = s.net.classes := by rw [h.rest]

theorem netObj {o : BacObj} (h : Spoke s t) : t.netObj o = s.netObj o := by simp only [State.netObj, h.objs]

end Spoke

/-! Notifications (R376, R378). -/

/-- The fields that say which port carries BACnet (R353). -/
def bacFlds : List Fld := [Reg.NET_STAT_IP_OK, Reg.NET_STAT_SC_STATE, Reg.BUS_CFG_PROTO] ++ Touches.netFlds

namespace Touches

variable {P : List Part} {L : List Fld}

theorem bacOn (h : Touches P L s t) (hL : spares L bacFlds = true) : t.bacOn port = s.bacOn port := by
  have hfld : ∀ f ∈ bacFlds, f.id ∉ L.map Fld.id := fun f hf => by simpa using List.all_eq_true.mp hL f hf
  have hnet : spares L netFlds = true := List.all_eq_true.mpr fun f hf => List.all_eq_true.mp hL f (List.mem_append_right _ hf)
  have hen : ∀ k, t.netEn k = s.netEn k := fun k => h.netEn (hfld _ (by decide))
  have hbus : ∀ k proto, t.busOn k proto = s.busOn k proto := fun k proto => by
    rw [State.busOn, h.netOn hnet, hen, h.rdAt (hfld Reg.BUS_CFG_PROTO (by decide)), State.busOn]
  have hup : t.scUp = s.scUp := by rw [State.scUp, h.rd (hfld _ (by decide)), State.scUp]
  simp only [State.bacOn, h.t1l hnet, h.netOn hnet, hen, hbus, hup, h.on (hfld Reg.NET_STAT_IP_OK (by decide))]

theorem bacPort (h : Touches P L s t) (hL : spares L bacFlds = true) : t.bacPort = s.bacPort := by
  have hon : t.bacOn = s.bacOn := funext fun _ => h.bacOn hL
  rw [State.bacPort, hon, State.bacPort]

end Touches

/-- BACnet/IP or BACnet/SC carries BACnet, and its buffer is good. -/
def State.speaks (s : State) : Prop := (∃ p, s.bacPort = some p ∧ p ≤ 1) ∧ s.net.txBad = false

theorem State.speaks_of_bacOn (h : s.bacOn port = true) (hport : port ≤ 1) (hbad : s.net.txBad = false) : s.speaks := by
  refine ⟨?_, hbad⟩
  simp only [State.bacPort, upTo, List.range_succ, List.range_zero, List.nil_append, List.cons_append, List.find?_cons]
  cases h0 : s.bacOn 0 with
  | true => exact ⟨0, rfl, by decide⟩
  | false =>
    have h1 : s.bacOn 1 = true := by
      obtain rfl | rfl : port = 0 ∨ port = 1 := by omega
      · simp [h0] at h
      · exact h
    exact ⟨1, by simp [h1], le_refl 1⟩

theorem State.speaks_initiate (h : s.speaks) : m ∈ (s.initiate m).net.out := by
  obtain ⟨⟨p, hp, hle⟩, hbad⟩ := h
  have htoken : s.needsToken p = false := by simp [State.needsToken]; omega
  rw [State.initiate, hp]
  dsimp only
  rw [State.sendOwn, htoken, if_neg Bool.false_ne_true, (State.sendFrame_good hbad).net]
  exact List.mem_append_right _ List.mem_cons_self

theorem State.speaks.of_touches {L : List Fld} (h : s.speaks) (ht : Touches [.net] L s t) (hL : Touches.spares L bacFlds = true)
    (hs : Spoke s t) : t.speaks := by
  obtain ⟨hport, hbad⟩ := h
  exact ⟨by rw [ht.bacPort hL]; exact hport, hs.good hbad⟩

theorem State.speaks_notify (h : s.speaks) : m ∈ (s.notify m).net.out := by
  have hfree : (s.freeBelow 2).2.speaks := h.of_touches (L := []) (.of (by decide) (.freeBelow (.refl s))) (by decide) (.of_net rfl)
  unfold State.notify
  extract_lets f
  split
  · exact State.speaks_initiate (hfree.of_touches Touches.initiate (by decide) .initiate)
  · exact State.speaks_initiate hfree

/-- A class with a recipient is notified. -/
theorem State.speaks_notifyClass (h : s.speaks) (hdcc : s.rd Reg.NET_STAT_DCC = 0) (hto : (s.net.classes.getD cls {}).recipients ≠ []) :
    m ∈ (s.notifyClass cls m).net.out := by
  rw [State.notifyClass, if_neg (by simp [hdcc])]
  obtain ⟨r, rs, hr⟩ := List.exists_cons_of_ne_nil hto
  rw [hr]
  exact Spoke.mem (s := s.notify m) (Spoke.each fun _ _ => .notify) (State.speaks_notify h)

end Sys2Proof.Machine
end

section
/-! Alarms, trend records and who there is (R360, R366, R369, R376, R378). -/

namespace Sys2Proof.Machine

open Sys2Proof (NetFrom BacObj EventTo WhoReq NetObj TrendLog)

variable {s t u x : State} {k n port cls : Nat} {l : List NetOut} {m : NetOut} {code : Option Nat} {f : NetFrom} {obj : BacObj} {dest : EventTo}
  {ms : List (List NetOut × Option Nat)}

/-! Alarms. -/

/-- The machine with an object's transition acknowledged. -/
def State.ackTaken (s : State) (obj : BacObj) (dest : EventTo) : State :=
  s.setNetObj { s.netObj obj with unacked := clearBits (s.netObj obj).unacked (2 ^ eventBit dest) }

theorem State.netObj_obj : (s.netObj obj).obj = obj := by
  unfold State.netObj
  cases h : s.net.objs.find? fun x => x.obj = obj with
  | none => rfl
  | some a => simpa using List.find?_some h

/-- The record of an object just replaced. -/
theorem State.netObj_setNetObj {x : NetObj} (h : x.obj = obj) : (s.setNetObj x).netObj obj = x := by
  have hrest : (s.net.objs.filter fun y => !decide (y.obj = x.obj)).find? (fun y => decide (y.obj = obj)) = none := by
    rw [List.find?_eq_none]
    intro y hy
    have := (List.mem_filter.mp hy).2
    rw [h] at this
    simpa using this
  unfold State.setNetObj State.netObj
  rw [List.find?_append, hrest, Option.none_or, List.find?_cons, h, decide_eq_true rfl, Option.getD_some]

theorem State.ackTaken_netObj : ((s.ackTaken obj dest).netObj obj).unacked = clearBits (s.netObj obj).unacked (2 ^ eventBit dest) := by
  have hset := State.netObj_setNetObj (s := s) (obj := obj)
    (x := { s.netObj obj with unacked := clearBits (s.netObj obj).unacked (2 ^ eventBit dest) }) State.netObj_obj
  exact congrArg NetObj.unacked hset

/-- A change of the machine that leaves messages, frames that wait, buffers and buses alone keeps what has been answered. -/
theorem Answered.of_same (h : Answered s x port ms) (hnet : t.net.out = x.net.out ∧ t.net.queue = x.net.queue ∧ t.net.txBad = x.net.txBad ∧
    t.net.postponed = x.net.postponed) (hbus : ∀ k, t.rdAt Reg.BUS_STAT_STATE k = x.rdAt Reg.BUS_STAT_STATE k) : Answered s t port ms := by
  obtain ⟨hout, hqueue, hbad, hpost⟩ := hnet
  refine ⟨hout ▸ h.out, hqueue ▸ h.queue, ?_, hbad ▸ h.good⟩
  rw [← h.putOff]
  simp only [State.putOff, State.needsToken, hpost, hbus]

/-- The acknowledgement of an alarm, answered, and the recipients notified. -/
theorem exec_acknowledge (hbac : s.bacOn f.port.val = true) (hram : f.ram.val = 0) (hplain : plainReq f = true)
    (hdcc : s.rd Reg.NET_STAT_DCC ≠ 1) (hobj : objExists obj = true) :
    exec (.bacnetAcknowledgeAlarm f obj dest) s = fin (((((s.confirmed f).ackTaken obj dest).answer f.port.val [.ack]).notifyClass
      (s.netObj obj).cls (.ackNotify obj dest)).replyEnd f) := by
  have hrec : (s.confirmed f).netObj obj = s.netObj obj := by simp only [State.netObj, State.confirmed_net, State.hush]
  change execBacnetAcknowledgeAlarm f obj dest s = _
  rw [execBacnetAcknowledgeAlarm, State.request_plain hbac hram hplain (.inl hdcc), if_neg (by simp [hobj])]
  simp only [State.ackTaken, hrec]

theorem exec_acknowledge_shows (hbac : s.bacOn f.port.val = true) (hram : f.ram.val = 0) (hplain : plainReq f = true)
    (hbad : s.net.txBad = false) (hdcc : s.rd Reg.NET_STAT_DCC ≠ 1) (hobj : objExists obj = true) :
    ∃ t, exec (.bacnetAcknowledgeAlarm f obj dest) s = .next t ∧
      (if s.putOff f.port.val = true then (t.net.queue.drop s.net.queue.length).head? = some ([.ack], none) else t.net.out.head? = some .ack) ∧
      (s.rd Reg.NET_STAT_DCC = 0 → f.port.val ≤ 1 → (s.net.classes.getD (s.netObj obj).cls {}).recipients ≠ [] → .ackNotify obj dest ∈ t.net.out) ∧
      (t.netObj obj).unacked = clearBits (s.netObj obj).unacked (2 ^ eventBit dest) := by
  obtain ⟨v, hv⟩ : ∃ v, v = (s.confirmed f).ackTaken obj dest := ⟨_, rfl⟩
  obtain ⟨u, hu⟩ : ∃ u, u = v.answer f.port.val [.ack] := ⟨_, rfl⟩
  have hvt : Touches [.net] Touches.confirmedFlds s v := hv ▸ .of (by decide) (.setNet .confirmed)
  have hut : Touches [.net] (Touches.confirmedFlds ++ [Reg.MEM_ERR_MAC]) s u := hu ▸ .of (by decide) (hvt.andThen .answer)
  have hans : Answered s v f.port.val [] := by
    rw [hv]
    exact (State.confirmed_answered (f := f) hbad).of_same ⟨rfl, rfl, rfl, rfl⟩ fun _ => rfl
  have hsent : Answered s u f.port.val [([.ack], none)] := hu ▸ hans.reply
  have hreply : Spoke v u := hu ▸ Spoke.replyFrame
  have hlast : Spoke u ((u.notifyClass (s.netObj obj).cls (.ackNotify obj dest)).replyEnd f).evcEdge :=
    (Spoke.notifyClass.trans .replyEnd).trans .evcEdge
  rw [exec_acknowledge hbac hram hplain hdcc hobj, ← hv, ← hu]
  refine ⟨_, rfl, ?_, fun hdcc0 hport hto => ?_, ?_⟩
  · obtain ⟨a, ha⟩ := hlast.out
    obtain ⟨q, hq⟩ := hlast.queue
    rw [ha, hq, hsent.out, hsent.queue]
    split
    · simp
    · simp
  · have hspeaks : u.speaks := State.speaks_of_bacOn ((hut.bacOn (by decide)).trans hbac) hport hsent.good
    have hclasses : u.net.classes = s.net.classes := by
      rw [hreply.classes, hv]
      exact (congrArg NetS.classes State.confirmed_net : (s.confirmed f).net.classes = s.hush.net.classes)
    exact (Spoke.replyEnd.trans .evcEdge).mem (State.speaks_notifyClass hspeaks ((hut.rd (by decide)).trans hdcc0) (hclasses ▸ hto))
  · have hrec : (s.confirmed f).netObj obj = s.netObj obj := by simp only [State.netObj, State.confirmed_net, State.hush]
    rw [hlast.netObj, hreply.netObj, hv, State.ackTaken_netObj, hrec]

/-! Summaries, records and refusals. -/

/-- A service that only answers. -/
theorem exists_answered (hbac : s.bacOn f.port.val = true) (hram : f.ram.val = 0) (hplain : plainReq f = true) (hbad : s.net.txBad = false)
    (hdcc : s.rd Reg.NET_STAT_DCC ≠ 1) {act : State → State} (hact : act (s.confirmed f) = (s.confirmed f).replyFrame f.port.val (l, code)) :
    ∃ t, fin (s.request f false act) = .next t ∧ s.replies t f.port.val l code := by
  rw [State.request_plain hbac hram hplain (.inl hdcc), hact]
  exact exists_fin (State.confirmed_answered hbad).reply.replies

theorem exec_eventInformation (hbac : s.bacOn f.port.val = true) (hram : f.ram.val = 0) (hplain : plainReq f = true)
    (hbad : s.net.txBad = false) (hdcc : s.rd Reg.NET_STAT_DCC ≠ 1) (hsum : f.summary = false) :
    ∃ t, exec (.bacnetGetEventInformation f) s = .next t ∧
      s.replies t f.port.val (.ack :: (s.net.objs.filter (fun (x : NetObj) => x.event != .normal || x.unacked != 0)).map
        (fun (x : NetObj) => NetOut.event x.obj x.event x.unacked)) none := by
  refine exists_answered hbac hram hplain hbad hdcc ?_
  rw [hsum, if_neg Bool.false_ne_true, State.confirmed_net]
  rfl

theorem exec_enrollmentSummary (hbac : s.bacOn f.port.val = true) (hram : f.ram.val = 0) (hplain : plainReq f = true)
    (hbad : s.net.txBad = false) (hdcc : s.rd Reg.NET_STAT_DCC ≠ 1) (hsum : f.summary = true) :
    ∃ t, exec (.bacnetGetEventInformation f) s = .next t ∧
      s.replies t f.port.val (.ack :: (s.net.objs.filter (fun (x : NetObj) => reports x.obj)).map (fun (x : NetObj) =>
        NetOut.enrolled x.obj x.event x.cls)) none := by
  refine exists_answered hbac hram hplain hbad hdcc ?_
  rw [hsum, if_pos rfl, State.confirmed_net]
  rfl

theorem exec_readRange {log : Fin 8} {first count : Nat} (hbac : s.bacOn f.port.val = true) (hram : f.ram.val = 0) (hplain : plainReq f = true)
    (hbad : s.net.txBad = false) (hdcc : s.rd Reg.NET_STAT_DCC ≠ 1) :
    ∃ t, exec (.bacnetReadRange f log first count) s = .next t ∧
      s.replies t f.port.val (.ack :: ((((s.net.trends.getD log.val {}).records.drop first).take count).map (fun p =>
        NetOut.record p.1 p.2))) none := by
  refine exists_answered hbac hram hplain hbad hdcc ?_
  rw [State.confirmed_net]
  rfl

theorem exec_unrecognizedService (hbac : s.bacOn f.port.val = true) (hram : f.ram.val = 0) (hplain : plainReq f = true)
    (hbad : s.net.txBad = false) (hdcc : s.rd Reg.NET_STAT_DCC ≠ 1) :
    ∃ t, exec (.bacnetUnrecognizedService f) s = .next t ∧ s.replies t f.port.val [.error .unrecognizedService] (some 0xC1) :=
  exists_answered hbac hram hplain hbad hdcc rfl

/-! Who-Is and Who-Has. -/

/-- A message of the device's own that goes to a port in good order. -/
theorem State.sendOwn_sends (hbad : s.net.txBad = false) :
    s.sends (s.hush.sendOwn port m).evcEdge (s.needsToken port) [m] m.notice := by
  have htoken : s.hush.needsToken port = s.needsToken port := rfl
  rw [State.sends, State.evcEdge_net, State.sendOwn, htoken]
  cases s.needsToken port with
  | true => exact ⟨rfl, rfl⟩
  | false =>
    rw [if_neg Bool.false_ne_true, if_neg Bool.false_ne_true, (State.sendFrame_good (s := s.hush) hbad).net]
    exact ⟨rfl, rfl⟩

theorem exec_whoIs {asked : WhoReq} (hbac : s.bacOn f.port.val = true) (hbad : s.net.txBad = false) (hdcc : s.rd Reg.NET_STAT_DCC ≠ 1)
    (hwho : s.whoAnswer f.port.val asked = some m) :
    ∃ t, exec (.bacnetWhoIs f asked) s = .next t ∧ s.sends t (s.needsToken f.port.val) [m] m.notice := by
  have he : exec (.bacnetWhoIs f asked) s = fin (s.hush.sendOwn f.port.val m) := by
    refine (if_neg (by simp [hbac, hdcc])).trans ?_
    rw [hwho]
  rw [he]
  exact exists_fin (State.sendOwn_sends hbad)

/-! Trend logs and event states. -/

theorem exec_trendLogInterval {log : Fin 8} {z : Fin 16} (hon : s.netOn = true) (hdue : s.onAt Hid.trendDue log.val = true)
    (hlen : s.net.trends.length = 8) (hen : (s.net.trends.getD log.val {}).enable = true)
    (hint : (s.net.trends.getD log.val {}).interval ≠ 0)
    (href : (s.net.trends.getD log.val {}).ref = some ⟨.multiState z.val, .presentValue⟩)
    (hroom : (s.net.trends.getD log.val {}).records.length < 512) :
    ∃ t, exec (.trendLogInterval log) s = .next t ∧ (t.net.trends.getD log.val {}).records =
      (s.net.trends.getD log.val {}).records ++ [(s.tick, .num (s.rdAt Reg.ZONE_STATE_SET z.val + 1))] := by
  obtain ⟨u, hu⟩ : ∃ u, u = s.hush.wrAt Hid.trendDue log.val 0 := ⟨_, rfl⟩
  have ht : Touches [.net] [Hid.trendDue] s u := hu ▸ Touches.hush.wrAt
  have he : exec (.trendLogInterval log) s = fin (u.trendAdd log.val (u.zoneValue z.val)) := by
    change execTrendLogInterval log s = _
    simp only [execTrendLogInterval, href, ← hu, State.readProp_zone]
    exact if_neg (by simp [hon, hen, hint, hdue, -List.getD_eq_getElem?_getD])
  have htrends : u.net.trends = s.net.trends := by rw [hu]; rfl
  have hrecord : (u.tick, u.zoneValue z.val) = (s.tick, .num (s.rdAt Reg.ZONE_STATE_SET z.val + 1)) := by
    rw [State.tick, ht.rd (by decide), State.zoneValue, ht.rdAt (by decide), State.tick]
  have hadd : ((u.trendAdd log.val (u.zoneValue z.val)).net.trends.getD log.val {}).records =
      (s.net.trends.getD log.val {}).records ++ [(u.tick, u.zoneValue z.val)] := by
    have hput : ∀ (d : TrendLog), ((setAt u.net.trends log.val d).getD log.val {}) = d := fun d => by
      rw [List.getD_eq_getElem?_getD, setAt_getElem? (by rw [htrends, hlen]; exact log.isLt)]
      rfl
    have hkeep : ∀ {c : Prop} [Decidable c] (w : State) (a : State), Spoke w a → (if c then a else w).net.trends = w.net.trends := by
      intro c _ w a hs
      split
      · exact hs.trends
      · rfl
    unfold State.trendAdd
    extract_lets t l ready record
    rw [hkeep _ _ .notifyClass, hput]
    have hl : l = (s.net.trends.getD log.val {}).records ++ [(u.tick, u.zoneValue z.val)] := by simp only [l, t, htrends]
    have hfew : l.length - 512 = 0 := by
      rw [hl, List.length_append, List.length_singleton]
      omega
    have hkept : record.records = l.drop (l.length - 512) := by dsimp only [record]
    rw [hkept, hfew, List.drop_zero, hl]
  rw [he]
  refine exists_fin ?_
  rw [State.evcEdge_net, hadd, hrecord]

theorem exec_eventTimeDelayExpiry (hon : s.netOn = true) (hrep : reports obj = true) (hne : (s.netObj obj).event ≠ dest)
    (hask : s.eventAsked obj = dest) : ∃ t, exec (.eventTimeDelayExpiry obj dest) s = .next t ∧ (t.netObj obj).event = dest := by
  obtain ⟨x, hx, hevent⟩ : ∃ x : NetObj, x.obj = obj ∧ x.event = dest ∧ exec (.eventTimeDelayExpiry obj dest) s =
      if bit (s.netObj obj).enable (eventBit dest) = false then fin ((s.eventRead obj).hush.setNetObj x)
      else fin (((s.eventRead obj).hush.setNetObj x).notifyClass (s.netObj obj).cls (.eventNotify obj dest)) := by
    refine ⟨_, ?_, ?_, if_neg (by simp [hon, hrep, hne, hask])⟩
    · exact State.netObj_obj
    · rfl
  obtain ⟨hdest, he⟩ := hevent
  have hset := State.netObj_setNetObj (s := (s.eventRead obj).hush) hx
  rw [he]
  split
  · exact exists_fin (by rw [Spoke.evcEdge.netObj, hset, hdest])
  · exact exists_fin (by rw [(Spoke.notifyClass.trans .evcEdge).netObj, hset, hdest])

/-- Settles O31: an acknowledgement by what it answers, notifies and clears, the other services by their one message. -/
theorem bacnetAlarmsAndTrends : Obligations.BacnetAlarmsAndTrends :=
  ⟨fun _ _ _ _ => exec_acknowledge_shows, fun _ _ => exec_eventInformation, fun _ _ => exec_enrollmentSummary,
    fun _ _ _ _ _ => exec_readRange, fun _ _ hbac hbad hdcc => exec_whoIs hbac hbad hdcc rfl,
    fun _ _ _ hbac hbad hdcc hobj => exec_whoIs hbac hbad hdcc (by simp [State.whoAnswer, inLimits, hobj]),
    fun _ _ => exec_unrecognizedService, fun _ _ _ => exec_trendLogInterval, fun _ _ _ => exec_eventTimeDelayExpiry⟩

end Sys2Proof.Machine
end

section
/-! The composer's fetch and an item whose tables have read with an error (R26, R426). -/

namespace Sys2Proof.Machine

/-- A clock field. -/
def badField : Item := ⟨0x22050610, 8⟩

/-- A page of one clock field, at the end of an image frame's hold. The item's table words have read with a parity error. -/
def badFieldPage : State :=
  (((State.wrs { regs := [], pending := [], compBad := [16] } [(Reg.PWR_MODE_MODE, mNative), (Reg.DISP_STAT_STATE, 3), (Hid.dispLines, 100),
    (Reg.DISP_STAT_SLOT, 255), (Hid.dispHold, 1), (Hid.dispRefresh, 60)]).wrAt Hid.comp 0 16).wrAt Hid.comp 16 badField.w0).wrAt Hid.comp 17
    badField.w1

namespace Touches

variable {s t : State} {P : List Part} {L : List Fld}

theorem itemsAt (h : Touches P L s t) (hL : Hid.comp.id ∉ L.map Fld.id) (n o : Nat) : t.itemsAt n o = s.itemsAt n o := by
  induction n generalizing o with
  | zero => rfl
  | succ n ih =>
    simp only [State.itemsAt, State.compWord, h.rdAt hL, ih]
    rfl

theorem pageItems (h : Touches P L s t) (hL : Hid.comp.id ∉ L.map Fld.id) (hP : Reg.DISP_PAGE_PAGE.id ∉ L.map Fld.id) :
    t.pageItems = s.pageItems := by
  simp only [State.pageItems, State.pageAt, State.compWord, h.rdAt hL, h.rd hP, h.itemsAt hL]

theorem itemBad (h : Touches P L s t) (hL : Hid.comp.id ∉ L.map Fld.id) (hP : Reg.DISP_PAGE_PAGE.id ∉ L.map Fld.id)
    (hC : Part.compBad ∉ P) (k : Nat) : t.itemBad k = s.itemBad k := by
  have hbad : t.compBad = s.compBad := h.parts .compBad hC
  simp only [State.itemBad, State.itemAt, State.pageAt, State.compWord, h.rdAt hL, h.rd hP, hbad]

end Touches

/-- The fields of the page shown that a fetch takes, with their numbers: those whose items are not bad. -/
def State.goodFields (s : State) : List (Item × Nat) := s.pageItems.zipIdx.filter fun p => p.1.typ == 2 && !s.itemBad p.2

theorem Touches.goodFields {s t : State} {P : List Part} {L : List Fld} (h : Touches P L s t) (hL : Hid.comp.id ∉ L.map Fld.id)
    (hP : Reg.DISP_PAGE_PAGE.id ∉ L.map Fld.id) (hC : Part.compBad ∉ P) : t.goodFields = s.goodFields := by
  have hbad : t.itemBad = s.itemBad := funext (h.itemBad hL hP hC)
  rw [State.goodFields, State.goodFields, h.pageItems hL hP, hbad]

/-- Without a field whose item is good, a fetch leaves the texts alone. -/
theorem State.compFetch_held {s : State} (h : s.goodFields = []) : s.compFetch.held = s.held := by
  rw [State.goodFields] at h
  rw [State.compFetch, h]
  split <;> rfl

theorem State.frameNext_held {s : State} (hstate : s.rd Reg.DISP_STAT_STATE = 3) (h : s.goodFields = []) : s.frameNext.held = s.held := by
  obtain ⟨v, hv⟩ : ∃ v, v = (s.frameBand (s.frameSize (s.frameOpen (1 - s.rd Reg.DISP_STAT_POL)) (1 - s.rd Reg.DISP_STAT_POL))).frameCount :=
    ⟨_, rfl⟩
  have ht : Touches [] (Touches.frameFlds ++ [Hid.dispLines, Hid.dispRefresh, Reg.DISP_STAT_BAND, Reg.DISP_FRAMES_COUNT]) s v :=
    hv ▸ .of (by decide) (((Touches.frameOpen.andThen .frameSize).andThen .frameBand).andThen .frameCount)
  have hgood : v.goodFields = [] := (ht.goodFields (by decide) (by decide) (by decide)).trans h
  rw [State.frameNext_image hstate, State.frameStart_eq, ← hv, State.compFetch_held hgood]
  exact ht.parts .held (by decide)

/-- The only field of the page is bad. -/
theorem badFieldPage_goodFields : badFieldPage.goodFields = [] := by decide

/-- The frame that starts fetches nothing. -/
theorem badFieldPage_fetches_nothing : (badFieldPage.frameOver 20000).frameNext.evcEdge.held = [] := by
  have ht := Touches.frameOver (s := badFieldPage) (us := 20000)
  have hgood : (badFieldPage.frameOver 20000).goodFields = [] :=
    (ht.goodFields (by decide) (by decide) (by decide)).trans badFieldPage_goodFields
  rw [State.evcEdge_held, State.frameNext_held ((ht.rd (by decide)).trans (by decide)) hgood, ht.parts .held (by decide)]
  rfl

theorem badFieldPage_ready : badFieldPage.composes = true ∧ badFieldPage.pageItems = [badField] ∧ badField.typ = 2 ∧
    bits badField.w1 0 4 = 8 ∧ badFieldPage.rd Hid.compTick ≤ badFieldPage.tick + 1 ∧ badFieldPage.rd Reg.DISP_STAT_STATE = 3 ∧
    badFieldPage.on Hid.dispHold = true ∧ badFieldPage.on Hid.dispPage = false ∧
    (badFieldPage.balance (if badFieldPage.on Hid.dispDrew = true then 20000 else min 20000 badFieldPage.holdNeed)).frameMayEnd = true := by
  decide

/-- Refutes O33: at the start of a frame the composer does not fetch a clock field whose item has read with a parity error (R26), and the
clause of the fetch does not exclude one. -/
theorem not_composerDraws : ¬ Obligations.ComposerDraws := by
  rintro ⟨-, -, -, hfetch, -⟩
  obtain ⟨hcomp, hitems, htyp, hclock, htick, hstate, hhold, hpage, hend⟩ := badFieldPage_ready
  obtain ⟨t, ht, hheld⟩ := hfetch badFieldPage badField 20000 hcomp hitems htyp hclock htick hstate hhold hpage hend
  rw [exec_panelFrameEnd (by decide) hhold hpage hend] at ht
  rw [eq_of_fin ht, badFieldPage_fetches_nothing] at hheld
  exact absurd hheld (by simp)

end Sys2Proof.Machine
end

section
/-! The IZ-30 registers and the port's transactions (R439 to R442): what a register reads, and what one byte written or read does. -/

namespace Sys2Proof.Machine

variable {s t : State} {P : List Part} {L : List Fld} {c k n p r v : Nat} {m : List Host.Cell}

/-! What the IZ-30 registers show. -/

/-- The fields that the IZ-30 registers show (R442). -/
def izFlds : List Fld := [Hid.izReload, Reg.SUPV_LANE_STOPPED, Hid.izV, Reg.VLV_STATE_STATE, Hid.izI, Hid.izH, Reg.FANT_CTRL_TACH_EN,
  Reg.FANT_MEAS_SPEED, Hid.ruCode]

theorem Touches.iz (h : Touches P L s t) (hL : ∀ f ∈ izFlds, f.id ∉ L.map Fld.id) (r : Nat) : t.iz r = s.iz r := by
  have hat : ∀ f ∈ izFlds, ∀ ch, t.rdAt f ch = s.rdAt f ch := fun f hf => h.rdAt (hL f hf)
  simp only [izFlds, List.forall_mem_cons, List.not_mem_nil, false_implies, implies_true, and_true] at hat
  obtain ⟨hreload, hstopped, hV, hvlv, hI, hH, htach, hspeed, hcode⟩ := hat
  simp only [State.iz, State.vlv, State.on, State.onAt, State.rd, hreload, hstopped, hV, hvlv, hI, hH, htach, hspeed, hcode]
  rfl

/-- A register that the EEPROM image mirrors holds its byte. -/
theorem State.iz_mirrored (h : izMirrored r = true) : s.iz r = s.rdAt Hid.izI r := by
  have hr : 8 ≤ r := by
    simp only [izMirrored, within, Bool.or_eq_true, Bool.and_eq_true, decide_eq_true_eq] at h
    omega
  rw [State.iz, if_neg (by omega), if_neg (by omega), if_neg (by omega), if_neg (by omega), if_pos h]

theorem izMirrored_of_mask (h : izMask r ≠ 0) : izMirrored r = true := by
  by_contra hr
  simp only [izMirrored, within, Bool.or_eq_true, Bool.and_eq_true, decide_eq_true_eq] at hr
  refine h ?_
  simp only [izMask, within, Bool.and_eq_true, decide_eq_true_eq]
  repeat rw [if_neg (by omega)]

/-- Both registers of a writable pair take whole bytes. -/
theorem izMask_pair (hlow : izPairLow r = true) (h : izMask r ≠ 0) : izMask r = 255 ∧ izMask (r - 1) = 255 := by
  simp only [izPairLow, izPairHigh, within, Bool.and_eq_true, Bool.or_eq_true, decide_eq_true_eq, beq_iff_eq] at hlow
  have hrange : 0x10 ≤ r ∧ r ≤ 0x8F ∧ 5 ≤ r % 16 ∧ r % 16 ≤ 13 := by
    by_contra hr
    refine h ?_
    simp only [izMask, within, Bool.and_eq_true, decide_eq_true_eq]
    repeat rw [if_neg (by omega)]
  simp only [izMask, within, Bool.and_eq_true, decide_eq_true_eq]
  constructor
  · rw [if_neg (by omega), if_pos (by omega), if_neg (by omega), if_neg (by omega)]
  · rw [if_neg (by omega), if_pos (by omega), if_neg (by omega), if_neg (by omega)]

/-! What the native settings write. -/

namespace Touches

/-- What the native settings that follow the IZ-30 registers write (R438, R450, R451). -/
def nativeFlds : List Fld :=
  [Reg.UI_CFG_MODE, Reg.UI_STAT_SETTLE_LEFT, Reg.UI_STAT_RELOAD, Reg.VLV_PEAK0_I_PEAK, Reg.VLV_PEAK1_I_PEAK, Reg.VLV_PEAK2_I_PEAK,
    Reg.VLV_PEAK0_T_PEAK, Reg.VLV_PEAK1_T_PEAK, Reg.VLV_PEAK2_T_PEAK, Reg.VLV_HOLD_I_HOLD, Reg.VLV_HOLD_I_HOLD_MIN, Reg.VLV_THERM_V_RATED,
    Reg.VLV_CFG_MODE, Reg.VLV_CFG_HS_USE, Reg.VLV_CFG_DIAG_OFF, Reg.FANT_CTRL_TACH_EN, Reg.FANT_CTRL_OD, Reg.FANT_CTRL_INV, Hid.vlvOcWait] ++
    vlvOffFlds

theorem vlvWriteCfg : Touches [.rgn] (Hid.vlvOcWait :: vlvOffFlds) s (s.vlvWriteCfg n v) := by
  unfold State.vlvWriteCfg
  extract_lets change st run s1 t
  have h1 : Touches [.rgn] vlvOffFlds s s1 := .of (by decide) (branch vlvDrop (refl s))
  have ht : Touches [.rgn] vlvOffFlds s t := .of (by decide) (h1.andThen vlvStore)
  exact .of (by decide) (branch (ht.andThen vlvLeave) ht)

theorem izNative : Touches [.rgn] nativeFlds s (s.izNative true) := by
  unfold State.izNative
  extract_lets t u
  have ht : Touches [] [Reg.UI_CFG_MODE, Reg.UI_STAT_SETTLE_LEFT, Reg.UI_STAT_RELOAD] s t := foldl_mem fun x _ _ => by
    rw [if_pos rfl]
    exact .of (by decide) ((refl x).wrAt.andThen settingsChanged)
  have hu : Touches [.rgn] nativeFlds t u := foldl_mem fun x _ _ => by
    rw [if_pos rfl]
    exact .of (by decide) ((refl x).wrAt.wrAt.wrAt.wrAt.wrAt.wrAt.wrAt.wrAt.wrAt.andThen vlvWriteCfg)
  have hend : Touches [] [Reg.FANT_CTRL_TACH_EN, Reg.FANT_CTRL_OD, Reg.FANT_CTRL_INV] u (u.each (upTo 2) fun t f =>
      t.wrsAt f [(Reg.FANT_CTRL_TACH_EN, bits (t.iz (0x98 + f)) 0 1), (Reg.FANT_CTRL_OD, bits (t.iz (0x98 + f)) 1 1),
        (Reg.FANT_CTRL_INV, bits (t.iz (0x98 + f)) 2 1)]) := foldl_mem fun x _ _ => .of (by decide) (refl x).wrAt.wrAt.wrAt
  exact .of (by decide) ((ht.andThen hu).andThen hend)

theorem vlvClear : Touches [.rgn] (Reg.VLV_DIAG_CAUSE :: Hid.vlvOcWait :: vlvOffFlds) s (s.vlvClear n) :=
  .of (by decide) ((refl s).each fun t _ => (refl t).wrAt.andThen vlvLeave)

theorem vlvHsClear : Touches [.rgn] (Reg.VLV_HS_BLOCKED :: Hid.vlvOcAt :: Reg.VLV_DIAG_CAUSE :: Hid.vlvOcWait :: vlvOffFlds) s (s.vlvHsClear n) :=
  .of (by decide) ((refl s).each fun t _ => ((refl t).wr.wrAt.wrAt).each fun u _ => branch ((refl u).wrAt.andThen vlvLeave) (refl u))

/-- The words of a run of coach writes. -/
theorem wrCoaches {l : List Nat} {g : State → Nat → Nat} (hl : ∀ w ∈ l, w < 64) :
    Touches [.upsets] ((upTo 64).map Reg.coachW) s (s.each l fun t w => t.wrCoach c w (g t w)) :=
  foldl_mem fun _ w hw => wrCoach (hl w hw)

theorem izReloadLoops : Touches [.upsets] (Hid.izH :: (upTo 64).map Reg.coachW) s s.izReloadLoops := foldl_mem fun t n _ => by
  extract_lets ecc u v w
  have hu : Touches [.upsets] ((upTo 64).map Reg.coachW) t u := wrCoaches (by decide)
  have hv : Touches [.upsets] ((upTo 64).map Reg.coachW) t v := (hu.trans (wrCoaches (by decide))).trans (wrCoaches (by decide))
  have hw : Touches [.upsets] (Hid.izH :: (upTo 64).map Reg.coachW) t w := hv.wrAt.wrAt.more (by simp) (by simp)
  exact either (hw.trans ((wrCoach (by decide)).more (by simp) (by simp +contextual))) hw

theorem izMirror : Touches [] [Hid.izI] s (s.izMirror m) := foldl_mem fun t _ _ => (refl t).wrAt

end Touches

end Sys2Proof.Machine
end

section
/-! The IZ-30 port (R439 to R444, R450): a write of one byte, a read, and what each leaves. -/

namespace Sys2Proof.Machine

variable {s t x : State} {P : List Part} {L : List Fld} {n p r v : Nat}

/-- A write transaction that has set the pointer. -/
def State.izStart (s : State) (p : Nat) : State := ({ s with sent := [] } : State).wr Hid.izPtr p

/-- The same, with the pointer moved on to take a byte. -/
def State.izTake (s : State) (p : Nat) : State := (s.izStart p).wr Hid.izPtr (p + 1)

namespace Touches

theorem izStart : Touches [.sent] [Hid.izPtr] s (s.izStart p) :=
  .of (by decide) ((refl s).set (t := { s with sent := [] }) [.sent] rfl rfl rfl).wr

theorem izTake : Touches [.sent] [Hid.izPtr] s (s.izTake p) := .of (by decide) izStart.wr

theorem izUp (h : Touches P L s t) (hL : ∀ f ∈ [Reg.PWR_MODE_MODE, Hid.resetActive, Hid.izReload], f.id ∉ L.map Fld.id) : t.izUp = s.izUp := by
  rw [State.izUp, h.mode (hL _ (by decide)), h.alive (hL _ (by decide)) (hL _ (by decide)), h.on (hL _ (by decide)), State.izUp]

theorem izByte (h : Touches P L s t) (hL : ∀ f ∈ Hid.izAdcLat :: Hid.izLat :: izFlds, f.id ∉ L.map Fld.id) (r : Nat) : t.izByte r = s.izByte r := by
  have hlat : t.rd Hid.izAdcLat = s.rd Hid.izAdcLat := h.rd (hL _ (by decide))
  have hpair : t.rdAt Hid.izLat r = s.rdAt Hid.izLat r := h.rdAt (hL _ (by decide)) r
  have hreg : t.iz r = s.iz r := h.iz (fun f hf => hL f (List.mem_cons_of_mem _ (List.mem_cons_of_mem _ hf))) r
  rw [State.izByte, hlat, hpair, hreg, State.izByte]

theorem izRead : Touches [] [Hid.izAdcLat, Hid.izNew, Hid.izV, Hid.izLat] s (s.izRead r) :=
  .of (by decide) (branch (refl s).wr (branch (refl s).wr.wr.wrAt (branch (refl s).wrAt (refl s).wrAt)))

end Touches

theorem State.izStart_ptr (hp : p < 256) : (s.izStart p).rd Hid.izPtr = p := (State.rd_wr_same _ _ _).trans (Nat.mod_eq_of_lt hp)

theorem State.izTake_ptr : (s.izTake p).rd Hid.izPtr = (p + 1) % 256 := State.rd_wr_same _ _ _

/-- A write transaction of one byte behind the pointer. -/
theorem State.izWriteTrans_byte (hup : s.izUp = true) (hp : p < 256) : s.izWriteTrans [p, v] = (s.izTake p).izWrite p (v % 256) := by
  have hstart : (s.izStart p).izUp = true := (Touches.izStart.izUp (by decide)).trans hup
  have hopen : ({ s with sent := [] } : State).izUp = true := hup
  change (if ({ s with sent := [] } : State).izUp = true then (s.izStart p).izBytes [v] else _) = _
  rw [if_pos hopen, State.izBytes, if_neg (by simp [hstart])]
  dsimp only
  rw [State.izStart_ptr hp, State.izBytes]
  rfl

/-- A write transaction of the pointer alone. -/
theorem State.izWriteTrans_pointer (hup : s.izUp = true) : s.izWriteTrans [p] = s.izStart p := if_pos hup

/-- A read transaction of one byte. -/
theorem State.izReadTrans_byte (hup : x.izUp = true) (hp : x.rd Hid.izPtr = p) :
    x.izReadTrans 1 = { (x.izRead p).wr Hid.izPtr (p + 1) with sent := [x.izByte p] } := by
  rw [State.izReadTrans, if_pos hup]
  simp only [State.izReadBytes, hp]

/-- The pointer set, and one byte read. -/
theorem State.izReadAt (hup : s.izUp = true) (hp : p < 256) :
    (s.izWriteTrans [p]).izReadTrans 1 = { ((s.izStart p).izRead p).wr Hid.izPtr (p + 1) with sent := [s.izByte p] } := by
  rw [State.izWriteTrans_pointer hup, State.izReadTrans_byte ((Touches.izStart.izUp (by decide)).trans hup) (State.izStart_ptr hp),
    Touches.izStart.izByte (by decide)]

/-! A configuration register written. -/

/-- The machine with bytes stored in configuration registers. -/
def State.izPut (s : State) (l : List (Nat × Nat)) : State := s.each l fun t q => t.wrAt Hid.izI q.1 (q.2 &&& izMask q.1)

theorem Touches.izPut {l : List (Nat × Nat)} : Touches [] [Hid.izI] s (s.izPut l) := foldl_mem fun t _ _ => (refl t).wrAt

theorem Touches.izConfig {l : List (Nat × Nat)} : Touches [.rgn] (Hid.izI :: nativeFlds) s (s.izConfig l) :=
  .of (by decide) (izPut.andThen izNative)

theorem State.izConfig_iz {l : List (Nat × Nat)} (hr : izMirrored r = true) : (s.izConfig l).iz r = (s.izPut l).rdAt Hid.izI r := by
  rw [State.iz_mirrored hr]
  exact Touches.izNative.rdAt (by decide) r

theorem exec_izWrite_config {p v : Fin 256} (hup : s.izUp = true) (hmask : izMask p.val ≠ 0) (hhigh : izPairHigh p.val = false)
    (hlow : izPairLow p.val = false) :
    ∃ t, exec (.iz30WriteTransaction [p.val, v.val]) s = .next t ∧ t.iz p.val = v.val &&& izMask p.val ∧
      t.rd Hid.izPtr = (p.val + 1) % 256 := by
  have hspecial : ¬(p.val = 2 ∨ p.val = 3 ∨ p.val = 4 ∨ p.val = 7) := by
    rintro (h | h | h | h) <;> rw [h] at hmask <;> exact hmask rfl
  have hwrite : (s.izTake p.val).izWrite p.val (v.val % 256) = (s.izTake p.val).izConfig [(p.val, v.val)] := by
    rw [State.izWrite, if_neg (by omega), if_neg (by omega), if_neg (by omega), if_neg (by omega), if_neg hmask, if_neg (by simp [hhigh]),
      if_neg (by simp [hlow]), Nat.mod_eq_of_lt v.isLt]
  have hbyte : (v.val &&& izMask p.val) % 2 ^ 8 = v.val &&& izMask p.val := Nat.mod_eq_of_lt (lt_of_le_of_lt Nat.and_le_left v.isLt)
  have he : exec (.iz30WriteTransaction [p.val, v.val]) s = fin ((s.izTake p.val).izConfig [(p.val, v.val)]) :=
    congrArg fin ((State.izWriteTrans_byte hup p.isLt).trans hwrite)
  have hiz : ((s.izTake p.val).izConfig [(p.val, v.val)]).evcEdge.iz p.val = v.val &&& izMask p.val := by
    rw [(Touches.refl _).evcEdge.iz (by decide), State.izConfig_iz (izMirrored_of_mask hmask), ← hbyte]
    exact State.rdAt_wrAt_same (s.izTake p.val) Hid.izI p.val (v.val &&& izMask p.val)
  rw [he]
  exact exists_fin ⟨hiz, by rw [State.evcEdge_rd, Touches.izConfig.rd (by decide), State.izTake_ptr]⟩

theorem exec_izPairLowWrite {r : Fin 256} (hup : s.izUp = true) (hlow : izPairLow r.val = true) (hmask : izMask r.val ≠ 0)
    (hheld : 256 ≤ s.rdAt Hid.izHeld (r.val - 1)) :
    ∃ t, exec (.izPairLowWrite r v) s = .next t ∧ t.iz r.val = v % 256 ∧ t.iz (r.val - 1) = s.rdAt Hid.izHeld (r.val - 1) % 256 ∧
      t.rdAt Hid.izHeld (r.val - 1) = 0 := by
  obtain ⟨h, hh⟩ : ∃ h, h = s.rdAt Hid.izHeld (r.val - 1) := ⟨_, rfl⟩
  obtain ⟨y, hy⟩ : ∃ y, y = (s.izTake r.val).wrAt Hid.izHeld (r.val - 1) 0 := ⟨_, rfl⟩
  obtain ⟨hown, hother⟩ := izMask_pair hlow hmask
  have hodd : r.val % 2 = 1 := by
    simp only [izPairLow, Bool.and_eq_true, beq_iff_eq] at hlow
    exact hlow.1
  have hhigh : izPairHigh r.val = false := by simp [izPairHigh, hodd]
  have hspecial : ¬(r.val = 2 ∨ r.val = 3 ∨ r.val = 4 ∨ r.val = 7) := by
    rintro (h | h | h | h) <;> rw [h] at hmask <;> exact hmask rfl
  have hkept : (s.izTake r.val).rdAt Hid.izHeld (r.val - 1) = h := (Touches.izTake.rdAt (by decide) _).trans hh.symm
  have hwrite : (s.izTake r.val).izWrite r.val (v % 256) = y.izConfig [(r.val - 1, h % 256), (r.val, v % 256)] := by
    rw [State.izWrite, if_neg (by omega), if_neg (by omega), if_neg (by omega), if_neg (by omega), if_neg hmask, if_neg (by simp [hhigh]),
      if_pos hlow]
    dsimp only
    rw [hkept, if_pos (hh ▸ hheld), hy]
  have he : exec (.izPairLowWrite r v) s = fin (y.izConfig [(r.val - 1, h % 256), (r.val, v % 256)]) := by
    refine (if_pos hlow).trans (congrArg fin ?_)
    rw [State.izWriteTrans_byte hup r.isLt, hwrite]
  have hbyte : ∀ b, (b % 256 &&& 255) % 2 ^ 8 = b % 256 := fun b => by
    rw [show (255 : Nat) = 2 ^ 8 - 1 from rfl, Nat.and_two_pow_sub_one_eq_mod]
    omega
  have hstored : y.izPut [(r.val - 1, h % 256), (r.val, v % 256)] =
      (y.wrAt Hid.izI (r.val - 1) (h % 256 &&& 255)).wrAt Hid.izI r.val (v % 256 &&& 255) := by
    rw [State.izPut, State.each, List.foldl_cons, List.foldl_cons, List.foldl_nil, hown, hother]
  have hclear : (y.izConfig [(r.val - 1, h % 256), (r.val, v % 256)]).rdAt Hid.izHeld (r.val - 1) = 0 := by
    rw [Touches.izConfig.rdAt (by decide), hy, State.rdAt_wrAt_same]
    rfl
  rw [he]
  refine exists_fin ⟨?_, ?_, by rw [State.evcEdge_rdAt, hclear]⟩
  · rw [(Touches.refl _).evcEdge.iz (by decide), State.izConfig_iz (izMirrored_of_mask hmask), hstored, State.rdAt_wrAt_same]
    exact hbyte v
  · rw [(Touches.refl _).evcEdge.iz (by decide), State.izConfig_iz (izMirrored_of_mask (by rw [hother]; decide)), hstored,
      State.rdAt_wrAt_ne _ _ _ _ _ _ (by omega), State.rdAt_wrAt_same]
    exact (hbyte h).trans (by rw [hh])

/-! Reads. -/

/-- A read returns a byte for each register and moves the pointer past them. -/
theorem State.izReadBytes_shows : (s.izReadBytes n).1.length = n ∧ (s.izReadBytes n).2.rd Hid.izPtr = if n = 0 then s.rd Hid.izPtr else
    (s.rd Hid.izPtr + n) % 256 := by
  induction n generalizing s with
  | zero => exact ⟨rfl, rfl⟩
  | succ n ih =>
    obtain ⟨hlen, hptr⟩ := ih (s := (s.izRead (s.rd Hid.izPtr)).wr Hid.izPtr (s.rd Hid.izPtr + 1))
    have hnext : ((s.izRead (s.rd Hid.izPtr)).wr Hid.izPtr (s.rd Hid.izPtr + 1)).rd Hid.izPtr = (s.rd Hid.izPtr + 1) % 256 :=
      State.rd_wr_same _ _ _
    refine ⟨by rw [State.izReadBytes, List.length_cons, hlen], ?_⟩
    rw [State.izReadBytes]
    refine hptr.trans ?_
    rw [hnext, if_neg (Nat.succ_ne_zero n)]
    split
    · next h => rw [h]
    · omega

theorem exec_izRead (hup : s.izUp = true) :
    ∃ t, exec (.iz30ReadTransaction (n + 1)) s = .next t ∧ t.sent.length = n + 1 ∧ (t.sent.head? = some (s.izByte (s.rd Hid.izPtr))) ∧
      t.rd Hid.izPtr = (s.rd Hid.izPtr + n + 1) % 256 := by
  obtain ⟨hlen, hptr⟩ := State.izReadBytes_shows (s := s) (n := n + 1)
  have he : exec (.iz30ReadTransaction (n + 1)) s = fin { (s.izReadBytes (n + 1)).2 with sent := (s.izReadBytes (n + 1)).1 } :=
    congrArg fin (if_pos hup)
  rw [he]
  refine exists_fin ?_
  rw [State.evcEdge_sent, State.evcEdge_rd]
  exact ⟨hlen, rfl, hptr⟩

theorem exec_izPairHighRead {r : Fin 256} (hup : s.izUp = true) (hhigh : izPairHigh r.val = true) :
    ∃ t, exec (.izPairHighRead r) s = .next t ∧ t.sent = [s.izByte r.val] ∧ t.rdAt Hid.izLat (r.val + 1) = (256 + s.iz (r.val + 1)) % 512 := by
  have hspecial : ¬(r.val = 5 ∨ r.val = 6) := by
    rintro (h | h) <;> rw [h] at hhigh <;> exact absurd hhigh (by decide)
  have hread : (s.izStart r.val).izRead r.val = (s.izStart r.val).wrAt Hid.izLat (r.val + 1) (256 + (s.izStart r.val).iz (r.val + 1)) := by
    rw [State.izRead, if_neg (by omega), if_neg (by omega), if_pos hhigh]
  have he : exec (.izPairHighRead r) s =
      fin { ((s.izStart r.val).izRead r.val).wr Hid.izPtr (r.val + 1) with sent := [s.izByte r.val] } :=
    (if_pos hhigh).trans (congrArg fin (State.izReadAt hup r.isLt))
  have hlat : (((s.izStart r.val).izRead r.val).wr Hid.izPtr (r.val + 1)).rdAt Hid.izLat (r.val + 1) = (256 + s.iz (r.val + 1)) % 512 := by
    rw [State.wr, State.rdAt_wrAt_id _ _ _ _ _ _ (by decide), hread, State.rdAt_wrAt_same, Touches.izStart.iz (by decide)]
    rfl
  rw [he]
  refine exists_fin ?_
  rw [State.evcEdge_sent, State.evcEdge_rdAt]
  exact ⟨rfl, hlat⟩

theorem exec_izAdcDhRead (hup : s.izUp = true) :
    ∃ t, exec .izAdcDhRead s = .next t ∧ t.sent = [s.izByte 5] ∧ t.rd Hid.izAdcLat = (256 + s.iz 6) % 512 := by
  have he : exec .izAdcDhRead s = fin { ((s.izStart 5).izRead 5).wr Hid.izPtr 6 with sent := [s.izByte 5] } :=
    congrArg fin (State.izReadAt hup (by decide))
  have hlat : (((s.izStart 5).izRead 5).wr Hid.izPtr 6).rd Hid.izAdcLat = (256 + s.iz 6) % 512 := by
    rw [State.rd_wr_ne _ _ _ _ (by decide), State.izRead, if_pos rfl, State.rd_wr_same, Touches.izStart.iz (by decide)]
    rfl
  rw [he]
  refine exists_fin ?_
  rw [State.evcEdge_sent, State.evcEdge_rd]
  exact ⟨rfl, hlat⟩

theorem bit_clearBits {m b : Nat} : bit (clearBits v m) b = (bit v b && !bit m b) := by
  simp only [bit_eq_testBit, testBit_clearBits]

/-- The low bits of a byte. -/
theorem bit_byte {b : Nat} (hb : b < 8) : bit (v % 2 ^ 8) b = bit v b := by
  rw [bit_eq_testBit, bit_eq_testBit, Nat.testBit_mod_two_pow, decide_eq_true hb, Bool.true_and]

theorem exec_izAdcDlRead (hup : s.izUp = true) :
    ∃ t, exec .izAdcDlRead s = .next t ∧ t.sent = [s.izByte 6] ∧ t.rd Hid.izAdcLat = 0 ∧ t.rd Hid.izNew = 0 ∧ bit (t.iz 6) 3 = false := by
  obtain ⟨y, hy⟩ : ∃ y, y = (s.izStart 6).wrs [(Hid.izAdcLat, 0), (Hid.izNew, 0)] := ⟨_, rfl⟩
  obtain ⟨u, hu⟩ : ∃ u, u = (y.wrAt Hid.izV 6 (clearBits ((s.izStart 6).rdAt Hid.izV 6) 8)).wr Hid.izPtr 7 := ⟨_, rfl⟩
  have he : exec .izAdcDlRead s = fin { u with sent := [s.izByte 6] } := by
    rw [hu, hy]
    exact congrArg fin (State.izReadAt hup (by decide))
  have hkept : Touches [] [Hid.izV, Hid.izPtr] y u := hu ▸ .of (by decide) (Touches.refl y).wrAt.wr
  have hset : y.rd Hid.izAdcLat = 0 ∧ y.rd Hid.izNew = 0 := by
    rw [hy]
    simp (disch := decide) only [State.wrs, State.rd_wr_ne, State.rd_wr_same]
    exact ⟨rfl, rfl⟩
  have hbit : bit (u.rdAt Hid.izV 6) 3 = false := by
    rw [hu, State.wr, State.rdAt_wrAt_id _ _ _ _ _ _ (by decide), State.rdAt_wrAt_same, show Hid.izV.w = 8 from rfl, bit_byte (by decide),
      bit_clearBits]
    simp [bit]
  rw [he]
  refine exists_fin ?_
  rw [State.evcEdge_sent, State.evcEdge_rd, State.evcEdge_rd, (Touches.refl _).evcEdge.iz (by decide)]
  exact ⟨rfl, (hkept.rd (by decide)).trans hset.1, (hkept.rd (by decide)).trans hset.2, hbit⟩

end Sys2Proof.Machine
end

section
/-! The IZ-30 port's other registers, its reload, conversions and room units (R441 to R452). -/

namespace Sys2Proof.Machine

variable {s t : State} {P : List Part} {L : List Fld} {n r v : Nat} {f : Fin 2} {u : Fin 4} {acks : EepAcks}
  {placed : List (Nat × Nat)}

theorem bit_or {a b k : Nat} : bit (a ||| b) k = (bit a k || bit b k) := by simp only [bit_eq_testBit, Nat.testBit_or]

theorem bit_two_pow_self {k : Nat} : bit (2 ^ k) k = true := by rw [bit_eq_testBit, Nat.testBit_two_pow_self]

/-- A bit of a byte that a write stores. -/
theorem State.bit_wrAt_izV {k : Nat} (hk : k < 8) : bit ((s.wrAt Hid.izV r v).rdAt Hid.izV r) k = bit v k := by
  rw [State.rdAt_wrAt_same]
  exact bit_byte hk

theorem State.bit_orAt_izV {k : Nat} (hk : k < 8) (h : bit v k = true) : bit ((s.orAt Hid.izV r v).rdAt Hid.izV r) k = true := by
  rw [State.orAt, State.bit_wrAt_izV hk, bit_or, h, Bool.or_true]

/-! IZ_ADC_CTRL, IZ_FAULT and IZ_CMD written. -/

theorem exec_izAdcCtrlWrite (hup : s.izUp = true) :
    ∃ t, exec (.izAdcCtrlWrite v) s = .next t ∧ t.iz 4 = v % 256 &&& 0x8F ∧ t.rd Hid.izNew = 0 ∧ t.rd Hid.izScan = v % 8 := by
  obtain ⟨y, hy⟩ : ∃ y, y = (((s.izTake 4).wrAt Hid.izV 4 (v % 256 &&& 0x8F)).wr Hid.izNew 0).wr Hid.izScan (v % 256 % 8) := ⟨_, rfl⟩
  have he : exec (.izAdcCtrlWrite v) s = fin (y.wrAt Hid.izV 6 (clearBits ((s.izTake 4).rdAt Hid.izV 6) 8)) := by
    rw [hy]
    exact congrArg fin (State.izWriteTrans_byte hup (by decide))
  have hctrl : (y.wrAt Hid.izV 6 (clearBits ((s.izTake 4).rdAt Hid.izV 6) 8)).rdAt Hid.izV 4 = v % 256 &&& 0x8F := by
    rw [State.rdAt_wrAt_ne _ _ _ _ _ _ (by decide), hy, State.wr, State.rdAt_wrAt_id _ _ _ _ _ _ (by decide), State.wr,
      State.rdAt_wrAt_id _ _ _ _ _ _ (by decide), State.rdAt_wrAt_same]
    exact Nat.mod_eq_of_lt (lt_of_le_of_lt Nat.and_le_left (Nat.mod_lt _ (by decide)))
  have hscan : y.rd Hid.izNew = 0 ∧ y.rd Hid.izScan = v % 256 % 8 % 8 := by
    rw [hy, State.rd_wr_ne _ _ _ _ (by decide), State.rd_wr_same, State.rd_wr_same]
    exact ⟨rfl, rfl⟩
  rw [he]
  refine exists_fin ?_
  rw [(Touches.refl _).evcEdge.iz (by decide), State.evcEdge_rd, State.evcEdge_rd]
  have hkept : Touches [] [Hid.izV] y (y.wrAt Hid.izV 6 (clearBits ((s.izTake 4).rdAt Hid.izV 6) 8)) := (Touches.refl y).wrAt
  exact ⟨hctrl, (hkept.rd (by decide)).trans hscan.1, (hkept.rd (by decide)).trans (hscan.2.trans (by omega))⟩

theorem exec_izFaultClear {m : Nat} (hup : s.izUp = true) :
    ∃ t, exec (.izFaultClear m) s = .next t ∧ (∀ b : Nat, b < 6 → bit (t.iz 7) b = (bit (s.iz 7) b && !bit m b)) := by
  obtain ⟨y, hy⟩ : ∃ y, y = (s.izTake 7).wrAt Hid.izV 7 (clearBits ((s.izTake 7).rdAt Hid.izV 7) (m % 256 &&& 0x3F)) := ⟨_, rfl⟩
  have he : exec (.izFaultClear m) s =
      fin ((y.vlvClear (bitMap 8 fun n => n % 2 == 0 && bit (m % 256 % 16) (n / 2))).vlvHsClear (m % 256 % 16)) := by
    rw [hy]
    exact congrArg fin (State.izWriteTrans_byte hup (by decide))
  have hkept : ∀ a b, ((y.vlvClear a).vlvHsClear b).iz 7 = y.rdAt Hid.izV 7 := fun _ _ =>
    (Touches.vlvClear.andThen Touches.vlvHsClear).rdAt (by decide) 7
  rw [he]
  refine exists_fin fun b hb => ?_
  have hmask : bit (m % 256 &&& 0x3F) b = bit m b := by
    rw [show (0x3F : Nat) = 2 ^ 6 - 1 from rfl, Nat.and_two_pow_sub_one_eq_mod, show (256 : Nat) = 2 ^ 8 from rfl]
    simp only [bit_eq_testBit, Nat.testBit_mod_two_pow, decide_eq_true hb, decide_eq_true (show b < 8 by omega), Bool.true_and]
  rw [(Touches.refl _).evcEdge.iz (by decide), hkept, hy, State.bit_wrAt_izV (by omega), bit_clearBits, hmask,
    Touches.izTake.rdAt (by decide)]
  rfl

theorem exec_izCmdReset (hup : s.izUp = true) : ∃ t, exec .izCmdReset s = .next t ∧ t.on Hid.izReload = true ∧ t.due = [] := by
  have he : exec .izCmdReset s = fin (s.izTake 3).izReset := congrArg fin (State.izWriteTrans_byte hup (by decide))
  obtain ⟨y, hy⟩ : ∃ y, y = ((s.izTake 3).softReset false).wr Hid.izReload 1 := ⟨_, rfl⟩
  have hreset : Touches [.due] [] y (s.izTake 3).izReset := by
    rw [State.izReset, ← hy]
    exact (Touches.refl y).set [.due] rfl rfl rfl
  have hon : (s.izTake 3).izReset.rd Hid.izReload = 1 := by
    rw [hreset.rd (by decide), hy, State.rd_wr_same]
    rfl
  rw [he]
  refine exists_fin ⟨?_, by rw [State.evcEdge_due]; rfl⟩
  rw [State.on, State.evcEdge_rd, hon]
  rfl

theorem exec_izCmdSave (hup : s.izUp = true) :
    ∃ t, exec .izCmdSave s = .next t ∧ t.rd Hid.izPtr = 4 ∧ (∀ r : Nat, r < 256 → t.iz r = s.iz r) := by
  have he : exec .izCmdSave s = fin (s.izTake 3) := congrArg fin (State.izWriteTrans_byte hup (by decide))
  rw [he]
  refine exists_fin ⟨by rw [State.evcEdge_rd, State.izTake_ptr], fun r _ => ?_⟩
  rw [(Touches.refl _).evcEdge.iz (by decide), Touches.izTake.iz (by decide)]

/-! The reload (R441). -/

/-- The machine that begins to read its EEPROM: the bytes as they are, and the reload over. -/
def State.izLoad (s : State) (placed : List (Nat × Nat)) : State := ({ s with eeprom := Memory.writes s.eeprom placed } : State).wr Hid.izReload 0

theorem State.izLoad_reload : (s.izLoad placed).on Hid.izReload = false := by
  rw [State.on, State.izLoad, State.rd_wr_same]
  rfl

theorem Touches.izImage {m : List Host.Cell} :
    Touches [.rgn, .upsets] (rejFlds ++ [Hid.izI] ++ nativeFlds ++ Hid.izH :: (upTo 64).map Reg.coachW) s
      ((((s.bootRej 0 { reason := 0, index := 0 }).izMirror m).izNative true).izReloadLoops) :=
  ((bootRej.andThen izMirror).andThen izNative).andThen izReloadLoops

/-- Channels of a list written one after the other reads as written. -/
theorem State.rdAt_each_wrAt_mem {fld : Fld} {g : Nat → Nat} {l : List Nat} (h : r ∈ l) :
    (s.each l fun t k => t.wrAt fld k (g k)).rdAt fld r = g r % 2 ^ fld.w := by
  unfold State.each
  induction l using List.reverseRecOn with
  | nil => exact absurd h List.not_mem_nil
  | append_singleton l k ih =>
    rw [List.foldl_append, List.foldl_cons, List.foldl_nil]
    by_cases hk : r = k
    · rw [hk, State.rdAt_wrAt_same]
    · rw [State.rdAt_wrAt_ne _ _ _ _ _ _ (by omega)]
      exact ih ((List.mem_append.mp h).resolve_right (by simpa using hk))

/-- A register of the EEPROM image after the image has been read. -/
theorem State.izMirror_rdAt {m : List Host.Cell} (hr : r < 256) (hm : izMirrored r = true) :
    (s.izMirror m).rdAt Hid.izI r = Memory.read m r &&& izMask r := by
  have hmem : r ∈ (upTo 256).filter izMirrored := List.mem_filter.mpr ⟨by simpa [upTo] using hr, hm⟩
  have hmask : izMask r < 256 := by
    unfold izMask
    dsimp only
    split_ifs
    all_goals omega
  rw [State.izMirror, State.rdAt_each_wrAt_mem hmem]
  exact Nat.mod_eq_of_lt (lt_of_le_of_lt Nat.and_le_right hmask)

theorem exec_iz30ReloadDone_failed (hmode : s.mode = mIz30) (halive : s.alive = true) (hreload : s.on Hid.izReload = true)
    (hacks : 8 < acks.write ∨ 8 < acks.read) :
    ∃ t, exec (.iz30ReloadDone acks placed) s = .next t ∧ t.on Hid.izReload = false ∧ bit (t.rdAt Hid.izV 2) 1 = false := by
  obtain ⟨x, hx⟩ : ∃ x, x = (s.izLoad placed).bootRej 0 { reason := rMemory, index := 255 } := ⟨_, rfl⟩
  have hanswers : eepAnswers acks = false := by
    simp only [eepAnswers, Bool.and_eq_false_iff, decide_eq_false_iff_not]
    omega
  have hreject : (s.izLoad placed).izReject (s.izLoad placed).eeprom (eepAnswers acks) = some (rMemory, 255) := by
    rw [hanswers]
    rfl
  have he : exec (.iz30ReloadDone acks placed) s = fin (x.wrAt Hid.izV 2 (clearBits ((s.izLoad placed).rdAt Hid.izV 2) 2)) := by
    refine (if_neg (by simp [hmode, halive, hreload])).trans ?_
    change (match (s.izLoad placed).izReject (s.izLoad placed).eeprom (eepAnswers acks) with | some r => _ | none => _) = _
    rw [hreject, hx]
    rfl
  have hx1 : Touches [] (Hid.izV :: rejFlds) (s.izLoad placed) (x.wrAt Hid.izV 2 (clearBits ((s.izLoad placed).rdAt Hid.izV 2) 2)) := by
    rw [hx]
    exact Touches.bootRej.wrAt
  rw [he]
  refine exists_fin ?_
  rw [State.on, State.evcEdge_rd, State.evcEdge_rdAt, State.bit_wrAt_izV (by decide), bit_clearBits]
  exact ⟨(hx1.on (by decide)).trans State.izLoad_reload, by simp [bit]⟩

theorem exec_iz30ReloadDone_read (hmode : s.mode = mIz30) (halive : s.alive = true) (hreload : s.on Hid.izReload = true)
    (hw : acks.write ≤ 8) (hr : acks.read ≤ 8) (hread : s.izReject (Memory.writes s.eeprom placed) true = none) :
    ∃ t, exec (.iz30ReloadDone acks placed) s = .next t ∧ t.on Hid.izReload = false ∧ bit (t.rdAt Hid.izV 2) 1 = true ∧
      bit (t.rdAt Hid.izV 2) 7 = true ∧
      (∀ r : Nat, r < 256 → izMirrored r = true → t.iz r = Memory.read (Memory.writes s.eeprom placed) r &&& izMask r) := by
  obtain ⟨x, hx⟩ : ∃ x, x = ((s.izLoad placed).bootRej 0 { reason := 0, index := 0 }).izMirror (s.izLoad placed).eeprom := ⟨_, rfl⟩
  obtain ⟨y, hy⟩ : ∃ y, y = (x.izNative true).izReloadLoops := ⟨_, rfl⟩
  have hanswers : eepAnswers acks = true := by simp [eepAnswers, hw, hr]
  have hreject : (s.izLoad placed).izReject (s.izLoad placed).eeprom (eepAnswers acks) = none := by
    rw [hanswers]
    exact hread
  have he : exec (.iz30ReloadDone acks placed) s = fin (y.wrAt Hid.izV 2 ((s.izLoad placed).rdAt Hid.izV 2 ||| 0x82)) := by
    refine (if_neg (by simp [hmode, halive, hreload])).trans ?_
    change (match (s.izLoad placed).izReject (s.izLoad placed).eeprom (eepAnswers acks) with | some r => _ | none => _) = _
    rw [hreject, hy, hx]
    rfl
  have hkept : (y.wrAt Hid.izV 2 ((s.izLoad placed).rdAt Hid.izV 2 ||| 0x82)).on Hid.izReload = (s.izLoad placed).on Hid.izReload := by
    have hall := Touches.izImage (s := s.izLoad placed) (m := (s.izLoad placed).eeprom)
    rw [← hx, ← hy] at hall
    exact (hall.wrAt (f := Hid.izV)).on (by decide)
  have hmirror : ∀ r, (y.wrAt Hid.izV 2 ((s.izLoad placed).rdAt Hid.izV 2 ||| 0x82)).rdAt Hid.izI r = x.rdAt Hid.izI r := fun r => by
    have hafter : Touches [.rgn, .upsets] (Touches.nativeFlds ++ Hid.izH :: (upTo 64).map Reg.coachW) x y := by
      rw [hy]
      exact Touches.izNative.andThen Touches.izReloadLoops
    exact (hafter.wrAt (f := Hid.izV)).rdAt (by decide) r
  rw [he]
  refine exists_fin ⟨?_, ?_, ?_, fun r hr256 hm => ?_⟩
  · rw [State.on, State.evcEdge_rd]
    exact hkept.trans State.izLoad_reload
  · rw [State.evcEdge_rdAt, State.bit_wrAt_izV (by decide), bit_or]
    simp [bit]
  · rw [State.evcEdge_rdAt, State.bit_wrAt_izV (by decide), bit_or]
    simp [bit]
  · rw [(Touches.refl _).evcEdge.iz (by decide), State.iz_mirrored hm, hmirror, hx, State.izMirror_rdAt hr256 hm]
    rfl

/-! Conversions and fans. -/

theorem exec_iz30AdcConversion (hmode : s.mode = mIz30) (halive : s.alive = true) (hon : bit (s.rdAt Hid.izV 4) 7 = true)
    (hfixed : bit (s.rdAt Hid.izV 4) 3 = false) (hnew : s.rd Hid.izNew ≤ 1) (hcode : s.rdAt Hid.izCode (s.rdAt Hid.izV 4 % 8) < 4096) :
    ∃ t, exec .iz30AdcConversion s = .next t ∧ t.iz 5 = s.rdAt Hid.izCode (s.rdAt Hid.izV 4 % 8) / 16 ∧
      t.iz 6 = s.rdAt Hid.izCode (s.rdAt Hid.izV 4 % 8) % 16 * 16 + 8 * s.rd Hid.izNew + s.rdAt Hid.izV 4 % 8 ∧ t.rd Hid.izNew = 1 := by
  obtain ⟨ch, hch⟩ : ∃ ch, ch = s.rdAt Hid.izV 4 % 8 := ⟨_, rfl⟩
  rw [← hch] at hcode ⊢
  obtain ⟨code, hc⟩ : ∃ code, code = s.rdAt Hid.izCode ch := ⟨_, rfl⟩
  rw [← hc] at hcode ⊢
  obtain ⟨y, hy⟩ : ∃ y, y = (((s.wrAt Hid.izV 5 (code / 16)).wrAt Hid.izV 6 (code % 16 * 16 + 8 * s.rd Hid.izNew + ch)).wr Hid.izNew 1).wr
    Hid.izScan (s.rd Hid.izScan + 1) := ⟨_, rfl⟩
  have he : exec .iz30AdcConversion s =
      fin ((y.wrAt Hid.izV (0xE0 + 2 * ch) (code / 16)).wrAt Hid.izV (0xE1 + 2 * ch) (code % 16 * 16)) := by
    have hsel : (if bit (s.rdAt Hid.izV 4) 3 then s.rd Hid.izScan else s.rdAt Hid.izV 4 % 8) = ch := by rw [hfixed, hch]; rfl
    refine (if_neg (by simp [hmode, halive, hon])).trans ?_
    rw [hsel, ← hc, hy]
    rfl
  have hat : ∀ r, r < 0xE0 → ((y.wrAt Hid.izV (0xE0 + 2 * ch) (code / 16)).wrAt Hid.izV (0xE1 + 2 * ch) (code % 16 * 16)).rdAt Hid.izV r =
      ((s.wrAt Hid.izV 5 (code / 16)).wrAt Hid.izV 6 (code % 16 * 16 + 8 * s.rd Hid.izNew + ch)).rdAt Hid.izV r := fun r hr => by
    rw [State.rdAt_wrAt_ne _ _ _ _ _ _ (by omega), State.rdAt_wrAt_ne _ _ _ _ _ _ (by omega), hy, State.wr,
      State.rdAt_wrAt_id _ _ _ _ _ _ (by decide), State.wr, State.rdAt_wrAt_id _ _ _ _ _ _ (by decide)]
  rw [he]
  refine exists_fin ?_
  rw [(Touches.refl _).evcEdge.iz (by decide), (Touches.refl _).evcEdge.iz (by decide), State.evcEdge_rd]
  refine ⟨(hat 5 (by decide)).trans ?_, (hat 6 (by decide)).trans ?_, ?_⟩
  · rw [State.rdAt_wrAt_ne _ _ _ _ _ _ (by decide), State.rdAt_wrAt_same]
    exact Nat.mod_eq_of_lt (show code / 16 < 256 by omega)
  · rw [State.rdAt_wrAt_same]
    exact Nat.mod_eq_of_lt (show code % 16 * 16 + 8 * s.rd Hid.izNew + ch < 256 by omega)
  · have hkept : Touches [] [Hid.izV] y ((y.wrAt Hid.izV (0xE0 + 2 * ch) (code / 16)).wrAt Hid.izV (0xE1 + 2 * ch) (code % 16 * 16)) :=
      .of (by decide) (Touches.refl y).wrAt.wrAt
    rw [hkept.rd (by decide), hy, State.rd_wr_ne _ _ _ _ (by decide), State.rd_wr_same]
    rfl

theorem exec_iz30FanFail (hmode : s.mode = mIz30) (halive : s.alive = true) (hduty : 77 * 257 ≤ s.rdAt Reg.FANT_MEAS_DUTY f.val) :
    ∃ t, exec (.iz30FanFail f) s = .next t ∧ bit (t.rdAt Hid.izV 2) (2 + f.val) = true ∧ bit (t.iz 7) (4 + f.val) = true := by
  have hf := f.isLt
  have he : exec (.iz30FanFail f) s = fin ((s.orAt Hid.izV 2 (2 ^ (2 + f.val))).orAt Hid.izV 7 (2 ^ (4 + f.val))) :=
    if_neg (by simp [hmode, halive]; omega)
  rw [he]
  refine exists_fin ?_
  rw [State.evcEdge_rdAt, (Touches.refl _).evcEdge.iz (by decide)]
  refine ⟨?_, State.bit_orAt_izV (by omega) bit_two_pow_self⟩
  rw [State.orAt, State.rdAt_wrAt_ne _ _ _ _ _ _ (by decide)]
  exact State.bit_orAt_izV (by omega) bit_two_pow_self

/-! Room units (R452). -/

theorem exec_roomUnitPoll (hon : s.ruOn = true) (hnext : s.ruNext = some u.val) (hidle : ∀ j : Nat, j < 4 → s.onAt Hid.ruWait j = false) :
    ∃ t, exec (.roomUnitPoll u) s = .next t ∧ t.rdAt Hid.ruWait u.val = 1 ∧ t.rdAt Hid.ruDue u.val = 0 ∧
      t.net.out = [.send (.roomUnit [0x80 + s.iz (0xB0 + u.val) % 16, 127 - s.iz (0xB0 + u.val) % 16])] := by
  obtain ⟨b, hb⟩ : ∃ b, b = s.iz (0xB0 + u.val) % 16 := ⟨_, rfl⟩
  have hnone : (upTo 4).any (s.onAt Hid.ruWait) = false := List.any_eq_false.mpr fun j hj => by simp [hidle j (by simpa [upTo] using hj)]
  have he : exec (.roomUnitPoll u) s = fin ((((s.hush).say [.send (.roomUnit [0x80 + b, 255 - (0x80 + b)])]).wrAt Hid.ruDue u.val 0).wrAt Hid.ruWait
      u.val 1) := by
    rw [hb]
    exact if_neg (by simp [hon, hnext, hnone])
  rw [he]
  refine exists_fin ?_
  rw [State.evcEdge_rdAt, State.evcEdge_rdAt, State.evcEdge_net, State.rdAt_wrAt_same, State.rdAt_wrAt_id _ _ _ _ _ _ (by decide),
    State.rdAt_wrAt_same, ← hb, show 127 - b = 255 - (0x80 + b) by omega]
  exact ⟨rfl, rfl, rfl⟩

theorem exec_roomUnitReply {l : List Nat} (hon : s.ruOn = true) (hwait : s.onAt Hid.ruWait u.val = true) (hgood : s.ruGood u.val l = true) :
    ∃ t, exec (.roomUnitReply u l) s = .next t ∧ t.rdAt Hid.ruCode u.val = l.getD 1 0 * 16 + l.getD 2 0 / 16 ∧
      t.rdAt Hid.ruFails u.val = 0 ∧ t.rdAt Hid.ruWait u.val = 0 ∧ bit (t.iz 0x0E) u.val = false := by
  obtain ⟨code, hcode⟩ : ∃ code, code = l.getD 1 0 * 16 + l.getD 2 0 / 16 := ⟨_, rfl⟩
  obtain ⟨y, hy⟩ : ∃ y, y = ((s.wrAt Hid.ruCode u.val code).wrAt Hid.ruFails u.val 0).wrAt Hid.ruWait u.val 0 := ⟨_, rfl⟩
  have hcode12 : code < 2 ^ 12 := by
    have hbytes : ∀ k, l.getD k 0 < 256 := fun k => by
      rw [State.ruGood, Bool.and_eq_true, Bool.and_eq_true, Bool.and_eq_true, List.all_eq_true] at hgood
      obtain ⟨⟨⟨-, hall⟩, -⟩, -⟩ := hgood
      rw [List.getD_eq_getElem?_getD]
      cases hk : l[k]? with
      | none => decide
      | some b => exact of_decide_eq_true (hall b (List.mem_of_getElem? hk))
    have h1 := hbytes 1
    have h2 := hbytes 2
    omega
  have he : exec (.roomUnitReply u l) s = fin (y.wrAt Hid.izV 0x0E (clearBits (s.rdAt Hid.izV 0x0E) (2 ^ u.val))) := by
    rw [hy, hcode]
    exact if_neg (by simp [hon, hwait, hgood])
  have hset : y.rdAt Hid.ruCode u.val = code ∧ y.rdAt Hid.ruFails u.val = 0 ∧ y.rdAt Hid.ruWait u.val = 0 := by
    rw [hy]
    simp (disch := decide) only [State.rdAt_wrAt_id, State.rdAt_wrAt_same]
    exact ⟨Nat.mod_eq_of_lt hcode12, rfl, rfl⟩
  obtain ⟨hc, hf, hw⟩ := hset
  rw [he, ← hcode]
  refine exists_fin ?_
  rw [State.evcEdge_rdAt, State.evcEdge_rdAt, State.evcEdge_rdAt, (Touches.refl _).evcEdge.iz (by decide),
    State.rdAt_wrAt_id _ _ _ _ _ _ (by decide), State.rdAt_wrAt_id _ _ _ _ _ _ (by decide), State.rdAt_wrAt_id _ _ _ _ _ _ (by decide)]
  refine ⟨hc, hf, hw, ?_⟩
  change bit ((y.wrAt Hid.izV 0x0E _).rdAt Hid.izV 0x0E) u.val = false
  rw [State.bit_wrAt_izV (by omega), bit_clearBits, bit_two_pow_self]
  simp

theorem exec_roomUnitTimeout (hon : s.ruOn = true) (hwait : s.onAt Hid.ruWait u.val = true) (hfails : s.rdAt Hid.ruFails u.val = 2) :
    ∃ t, exec (.roomUnitTimeout u) s = .next t ∧ t.rdAt Hid.ruFails u.val = 3 ∧ bit (t.iz 0x0E) u.val = true := by
  have he : exec (.roomUnitTimeout u) s = fin (((s.wrAt Hid.ruFails u.val 3).wrAt Hid.ruWait u.val 0).orAt Hid.izV 0x0E (2 ^ u.val)) := by
    refine (if_neg (by simp [hon, hwait])).trans ?_
    rw [hfails]
    rfl
  rw [he]
  refine exists_fin ?_
  rw [State.evcEdge_rdAt, (Touches.refl _).evcEdge.iz (by decide)]
  refine ⟨?_, State.bit_orAt_izV (by omega) bit_two_pow_self⟩
  rw [State.orAt, State.rdAt_wrAt_id _ _ _ _ _ _ (by decide), State.rdAt_wrAt_id _ _ _ _ _ _ (by decide), State.rdAt_wrAt_same]
  rfl

/-- Settles O34: each transaction is taken apart into the bytes it writes or reads, and each command into the fields it writes; what the native
settings and the reload's loops write besides is none of the registers a clause shows. -/
theorem iz30Port : Obligations.Iz30Port :=
  ⟨fun _ _ _ hup hmask hhigh hlow => exec_izWrite_config hup hmask hhigh hlow,
    fun _ _ hup => exec_izRead hup,
    fun _ _ hup hhigh => exec_izPairHighRead hup hhigh,
    fun _ _ _ hup hlow hmask hheld => exec_izPairLowWrite hup hlow hmask hheld,
    fun _ hup => exec_izAdcDhRead hup,
    fun _ hup => exec_izAdcDlRead hup,
    fun _ _ hup => exec_izAdcCtrlWrite hup,
    fun _ _ hup => exec_izFaultClear hup,
    fun _ hup => exec_izCmdReset hup,
    fun _ hup => exec_izCmdSave hup,
    fun _ _ _ hmode halive hreload hacks => exec_iz30ReloadDone_failed hmode halive hreload hacks,
    fun _ _ _ hmode halive hreload hw hr hread => exec_iz30ReloadDone_read hmode halive hreload hw hr hread,
    fun _ hmode halive hon hfixed hnew hcode => exec_iz30AdcConversion hmode halive hon hfixed hnew hcode,
    fun _ _ hmode halive hduty => exec_iz30FanFail hmode halive hduty,
    fun _ _ hon hnext hidle => exec_roomUnitPoll hon hnext hidle,
    fun _ _ _ hon hwait hgood => exec_roomUnitReply hon hwait hgood,
    fun _ _ hon hwait hfails => exec_roomUnitTimeout hon hwait hfails⟩

end Sys2Proof.Machine
end

section
/-! What an IZ-30 reset loses of a loop's coach words (R347, R441). -/

namespace Sys2Proof.Machine

variable {s : State} {warm : Bool} {c : Nat}

/-- What a soft reset writes after it has dropped what it loses, but for the network's restart (R347). -/
def softResetFlds : List Fld :=
  [Reg.UI_OFFSET_OFFSET, Reg.UI_GAIN_GAIN, Reg.CAL_TRIM_LO_TAPS, Reg.CAL_TRIM_HI_TAPS, Reg.CAL_STAT_NO_RELIEF, Reg.CAL_STAT_UNSERVED,
    Hid.calTick, Hid.softHold, Reg.RST_CAUSE_SOFT_CNT, Reg.RST_CAUSE_LAST_SOFT, Reg.HOST_HB_CFG_LEFT, Reg.SUPV_WDT_REMAIN, Hid.dispPage,
    Reg.SUPV_LANE_SWAP_BUSY, Hid.izV, Hid.occLast, Reg.OCC_STAT_CH_OCC, Reg.OCC_ZONE_OCC, Hid.wakeOcc, Reg.TS_STATE_FAST]

theorem Touches.calValues : Touches [] [Reg.UI_OFFSET_OFFSET, Reg.UI_GAIN_GAIN, Reg.CAL_TRIM_LO_TAPS, Reg.CAL_TRIM_HI_TAPS] s s.calValues :=
  .of (by decide) (((refl s).each fun t _ => (refl t).wrAt.wrAt).each fun _ _ => reloadTrim)

/-- STICKY, word 45 of a coach, is class V, and a soft reset loses it. -/
theorem State.softReset_sticky : (s.softReset warm).cell c 45 = 0 := by
  unfold State.softReset
  extract_lets m t0 t1 t2 t3
  have hdrop : t0.rdAt (Reg.coachW 45) c = 0 := Store.get_filter_of_not _ fun x hx => by
    have hid : x.id = (Reg.coachW 45).id := by simpa [Cell.at] using (Bool.and_eq_true_iff.mp hx).1
    rw [hid]
    decide
  have h2 : Touches [.cals, .relief, .convs, .urgMore, .xchks, .pulses, .snsTx, .arb] softResetFlds t0 t2 := by
    have hscan : Touches [.cals, .relief, .convs, .urgMore, .xchks, .pulses, .snsTx, .arb] [] t0 t0.softScan :=
      (Touches.refl t0).set [.cals, .relief, .convs, .urgMore, .xchks, .pulses, .snsTx, .arb] rfl rfl rfl
    exact .of (by decide) (((hscan.andThen .calValues).andThen .refreshRelief).each fun t _ => (Touches.refl t).wrAt).wr.wr.wr.wr.wr.wr
  have h3 : Touches [] softResetFlds t2 (t3.whenB (t3.mode == mIz30) fun t => t.wrAt Hid.izV 2 0x82) :=
    .of (by decide) (((Touches.refl t2).whenB fun t => (Touches.refl t).wr).whenB fun t => (Touches.refl t).wrAt)
  have hend := ((h2.andThen h3).andThen .netRestart).andThen .occMoment |>.andThen .fastBesideFailed
  exact (hend.rdAt (by decide) c).trans hdrop

/-- A machine in IZ-30 mode; the STICKY word of coach 0 holds an event. -/
def stickyLoop : State := State.wrAt (State.wr { regs := [], pending := [] } Reg.PWR_MODE_MODE mIz30) (Reg.coachW 45) 0 1

theorem stickyLoop_reset : stickyLoop.izWriteTrans [3, 0xA5] = (stickyLoop.izTake 3).izReset :=
  State.izWriteTrans_byte (by decide) (by decide)

/-- The IZ-30 reset is a soft reset; a coach's STICKY does not outlast it. -/
theorem State.izReset_sticky : s.izReset.cell c 45 = 0 := by
  obtain ⟨y, hy⟩ : ∃ y, y = s.softReset false := ⟨_, rfl⟩
  have hreset : Touches [.due] [Hid.izReload] y s.izReset := by
    rw [State.izReset, ← hy]
    exact (Touches.refl y).wr.set [.due] rfl rfl rfl
  exact (hreset.rdAt (by decide) c).trans (hy ▸ State.softReset_sticky)

/-- Refutes O52: the IZ-30 reset is a soft reset and loses every field of class V, the word STICKY of each coach among them, which its
clause keeps: it lets no coach word change but the STATUS of the coaches that an update has opened. -/
theorem not_panelAndPortFrames : ¬ Obligations.PanelAndPortFrames := by
  rintro ⟨-, -, -, -, -, -, -, -, -, -, -, -, hreset, -⟩
  obtain ⟨-, -, -, -, -, -, -, hcoaches⟩ := hreset stickyLoop _ rfl
  have hkept := hcoaches 0 45 (by decide) (by decide)
  have hlost : ((stickyLoop.izWriteTrans [3, 0xA5]).evcEdge).cell 0 45 = 0 := by
    rw [stickyLoop_reset, State.cell, State.evcEdge_rdAt]
    exact State.izReset_sticky
  exact absurd (hkept.symm.trans hlost) (by decide)

end Sys2Proof.Machine
end

section
/-! What a network's ABORT of an update leaves (R323, R381). -/

namespace Sys2Proof.Machine

open Sys2Proof (NetFrom)

variable {s : State} {f : NetFrom}

/-- A coach group that is queued, whose one coach was CLOSED, has been opened for it and reads as written, in a mode other than SERVICE. -/
structure GroupQueued (s : State) : Prop where
  runs : s.rgnMode = true
  state : s.rd Reg.RGN_CTRL_STATE = 3
  group : s.rgn = { coaches := [(0, 1)] }
  word : s.cell 0 44 = 4
  readable : s.upsets = []
  mode : s.mode ≠ mService

theorem GroupQueued.status (h : GroupQueued s) : s.cw 0 44 = 4 := by
  rw [State.cw, h.readable, List.find?_nil]
  exact h.word

theorem GroupQueued.isOpen (h : GroupQueued s) : s.coachState 0 = 0 := by
  rw [State.coachState, State.unreadable, h.readable, h.status]
  rfl

/-- An ABORT restores a coach that was CLOSED: a CLOSE is pending in its STATUS. -/
theorem GroupQueued.abort_restores (h : GroupQueued s) : s.rgnAbort.cell 0 44 = 36 := by
  have hrestore : s.restoreCoach (0, 1) = s.pendCmd 0 2 := by
    rw [State.restoreCoach, h.status, if_neg (by decide), if_pos rfl, if_neg h.mode]
  have habort : s.rgnAbort = (s.pendCmd 0 2).rgnEnd 4 0 0xF5 := by
    rw [State.rgnAbort]
    dsimp only
    rw [h.runs, h.state, if_neg (by decide), if_neg (by decide), if_neg (by decide), State.rgnDiscard, h.group]
    dsimp only
    rw [if_neg (by decide), State.each, List.foldl_cons, List.foldl_nil, if_pos (.inl rfl), h.isOpen, if_pos rfl, hrestore]
  have hpoke : s.pokeCoach 0 44 36 = s.wrCoach 0 44 36 := by
    rw [State.pokeCoach, State.unreadable, h.readable]
    rfl
  rw [habort, State.cell, Touches.rgnEnd.rdAt (by decide), State.pendCmd, State.wrPend, h.status, State.rdAt_wrAt_id _ _ _ _ _ _ (by decide)]
  exact (congrArg (fun t => t.rdAt (Reg.coachW 44) 0) hpoke).trans (State.rdAt_wrAt_same s (Reg.coachW 44) 0 36)

theorem GroupQueued.of_touches {P : List Part} {L : List Fld} {t : State} (h : GroupQueued s) (ht : Touches P L s t)
    (hP : Part.upsets ∉ P ∧ Part.rgn ∉ P)
    (hL : ∀ f ∈ [Reg.PWR_MODE_MODE, Hid.resetActive, Reg.RGN_CTRL_STATE, Reg.coachW 44], f.id ∉ L.map Fld.id) : GroupQueued t := by
  have hmode : t.mode = s.mode := ht.mode (hL _ (by decide))
  have halive : t.alive = s.alive := ht.alive (hL _ (by decide)) (hL _ (by decide))
  have hruns : t.rgnMode = s.rgnMode := by
    rw [State.rgnMode, State.up, ht.native (hL _ (by decide)), halive, hmode, State.rgnMode, State.up]
  exact ⟨hruns.trans h.runs, (ht.rd (hL _ (by decide))).trans h.state, Eq.trans (ht.parts .rgn hP.2) h.group,
    (ht.rdAt (hL _ (by decide)) 0).trans h.word, Eq.trans (ht.parts .upsets hP.1) h.readable, hmode ▸ h.mode⟩

/-- An ABORT by a write of the Device's property 512. -/
theorem exec_abortByNetwork (hbac : s.bacOn f.port.val = true) (hram : f.ram.val = 0) (hplain : plainReq f = true)
    (hdcc : s.rd Reg.NET_STAT_DCC ≠ 1) : exec (.bacnetWriteProperty f [{ ref := ⟨.device, .stageCommand⟩, val := .num 2 }]) s =
      fin (((s.confirmed f).rgnAbort.answer f.port.val [.ack]).replyEnd f) := by
  change execBacnetWriteProperty f _ s = _
  rw [execBacnetWriteProperty, State.request_plain hbac hram hplain (.inl hdcc)]
  rfl

/-- A machine in NATIVE with MS/TP on BUS1 and a queued coach group, whose one coach, recorded as CLOSED, is open. -/
def groupQueued : State :=
  let s : State := { regs := [], pending := [], rgn := { coaches := [(0, 1)] } }
  (s.wrs [(Reg.PWR_MODE_MODE, mNative), (Reg.NET_STAT_PP_RUN, 1), (Reg.NET_CTRL_EN, 8), (Reg.BUS_CFG_PROTO, 1), (Reg.RGN_CTRL_STATE, 3),
    (Reg.RGN_CTRL_TYPE, 11)]).wrAt (Reg.coachW 44) 0 4

theorem groupQueued_queued : GroupQueued groupQueued := ⟨by decide, by decide, rfl, by decide, rfl, by decide⟩

/-- Refutes O51: a BACnet write of the Device's property 512 that aborts a queued coach group restores the coaches of the group, and so
writes the STATUS of a coach that no written object names. -/
theorem not_networkFrames : ¬ Obligations.NetworkFrames := by
  rintro ⟨-, -, -, -, -, -, -, -, -, -, -, -, -, -, -, -, -, -, -, -, -, -, hwrite, -⟩
  have he := exec_abortByNetwork (s := groupQueued) (f := { port := 2 }) (by decide) rfl (by decide) (by decide)
  obtain ⟨-, -, -, hcoaches⟩ := hwrite _ _ _ _ he
  have hkept := hcoaches 0 44 (by decide) (by decide)
  have hrest : Touches [.net] [Reg.MEM_ERR_MAC] (groupQueued.confirmed { port := 2 }).rgnAbort
      (((groupQueued.confirmed { port := 2 }).rgnAbort.answer 2 [.ack]).replyEnd { port := 2 }).evcEdge :=
    .of (by decide) (Touches.answer.andThen .replyEnd).evcEdge
  have hpend := (groupQueued_queued.of_touches (Touches.confirmed (f := { port := 2 })) (by decide) (by decide)).abort_restores
  have hwritten := (hrest.rdAt (f := Reg.coachW 44) (by decide) 0).trans hpend
  exact absurd (hkept.symm.trans hwritten) (by decide)

end Sys2Proof.Machine
end
